-- ==== Sys2Proof/Word.lean ====
section
/-! DEFINITION. The word and byte types of the block: BAR0 registers are 32 bits (R5), memory is bytes (R9). -/

namespace Sys2Proof

/-- A BAR0 register's contents (R5). -/
abbrev Word := BitVec 32

/-- A byte of DRAM, SRAM or host memory (R9). -/
abbrev Byte := BitVec 8

end Sys2Proof
end

