-- ==== Sys2Proof/Syntax.lean ====
section
/-! DEFINITION. The commands. -/

namespace Sys2Proof

/-- What a running thread asks of the kernel (R419 to R422). -/
inductive KernelOp where
  /-- Wait for an event, with a deadline in counter ns if one is given (R420). -/
  | waitEvent (deadline : Option Nat)
  /-- Sleep until a deadline (R420). -/
  | sleep (deadline : Nat)
  /-- Yield: READY behind the others of its priority (R419). -/
  | yieldCore
  /-- Take an item of an atomic flow, waiting for one if there is none or the flow is in service (R422). -/
  | takeItem (flow : Nat) (deadline : Option Nat)
  /-- Signal the item taken done (R422). -/
  | itemDone (flow : Nat)
  /-- End (R418). -/
  | finish
deriving DecidableEq, Repr

/-- A picture as an SDI receiver assembles it from its links (R93 to R96, R108). -/
structure SdiPicture where
  /-- Active lines and active luma samples per line seen on link 1. -/
  lines : Nat
  samples : Nat
  /-- Largest skew between its links, ns. -/
  skew : Nat
  /-- Lines with a line CRC error. -/
  crcErrors : Nat
  /-- The samples received: line, first sample group, groups of 40 bits (Cb, Y0, Cr, Y1). -/
  data : List (Nat × Nat × List Nat)
deriving DecidableEq, Repr

/-- An ST 291 packet (R97, R98). -/
structure AncPacket where
  /-- It lies before the first active line of its picture (log entry 121). -/
  ahead : Bool
  /-- Interface line number. -/
  line : Nat
  /-- Horizontal space. -/
  hanc : Bool
  link : Nat
  /-- Carried in the colour-difference stream. -/
  cStream : Bool
  did : Nat
  sdid : Nat
  checksumOk : Bool
  /-- User data words of 10 bits. -/
  udw : List Nat
deriving DecidableEq, Repr

/-- The body of SNAPSHOT (R315). -/
structure SnapshotMsg where
  chan : Nat
  /-- 0 IDR, 1 GDR. -/
  kind : Nat
  n0 : Nat
  qk : Nat
  tk : Nat
  crem : Nat
  /-- s[0] to s[2]. -/
  scales : List Nat
  qlast : Nat
  /-- Shared occupancy, its instant, and srem. -/
  qs : Nat
  ts : Nat
  srem : Nat
  /-- Ledger: output instant, cap, e. -/
  ledger : List (Nat × Nat × Nat)
  /-- INTRA_SUM and COST_SUM by row. -/
  sums : List (Nat × Nat)
deriving DecidableEq, Repr

/-- The commands of the block: one constructor for each row of spec/opcode_table.json, in its order. -/
inductive Instr where
  /-- REGISTER_WRITE (R6). A write to a register that has no row of its own sets or clears its value as its access code
  states. `a` is a BAR0 byte address, `v` the word written. -/
  | registerWrite (a : Nat) (v : Word)
  /-- BAR0_NARROW_ACCESS (R31). A BAR0 access narrower or wider than 32 bits is split, ignored or answered with the bytes of
  the containing register. `len` octets at `a`: a write of `data`, or a read. -/
  | bar0NarrowAccess (a : Nat) (len : Nat) (data : Option Nat)
  /-- PAGE_ENABLE (R41). ENABLE written 1 to an OFF page captures the shadow copy, takes the page to CHECKING and reserves its
  admission terms. -/
  | pageEnable (p : Nat)
  /-- ENABLE_CHECK_COMPLETE (R44). The enable check ends and the page enters ON with the captured values, or returns to OFF
  with the reason of the first failing step. `parityOk` is the outcome of a chamber's parity self-check. -/
  | enableCheckComplete (p : Nat) (parityOk : Bool)
  /-- PAGE_STOP (R41). ENABLE written 0 to an ON page takes it to DRAINING toward OFF. -/
  | pageStop (p : Nat)
  /-- PAGE_DRAIN (R41). DRAIN written 1 takes an ON page to DRAINING toward OUT_OF_SERVICE, or an OFF or FAULT page straight
  to OUT_OF_SERVICE. -/
  | pageDrain (p : Nat)
  /-- DRAIN_UNDO (R41). DRAIN written 0 returns an OUT_OF_SERVICE page to OFF. -/
  | drainUndo (p : Nat)
  /-- NEXT_BOUNDARY_REACHED (R41). A DRAINING page reaches its next boundary, or the pages it waits for stop, and it enters
  OFF or OUT_OF_SERVICE. -/
  | nextBoundaryReached (p : Nat)
  /-- ABORT (R40). PAGE_CTRL.ABORT aborts the running enable check, drain or unit operation at its stated boundary, or is
  recorded as a late abort. -/
  | abortPage (p : Nat)
  /-- CLEAR_FAULT (R41). CLEAR_FAULT written 1 while in FAULT takes the page to OFF. -/
  | clearFault (p : Nat)
  /-- UNIT_FAULT_DETECTED (R41). A unit detects a fault of its own, stops and enters FAULT, and a running operation records
  REFUSED with RESOURCE_FAULT. -/
  | unitFaultDetected (p : Nat)
  /-- ARM (R47). COMMIT_CTRL.ARM arms the page for its group's next commit, or records RESERVED_VALUE if GROUP is reserved. -/
  | arm (p : Nat)
  /-- DISARM (R47). COMMIT_CTRL.DISARM disarms the page unless it is PENDING. -/
  | disarm (p : Nat)
  /-- DISCARD (R47). COMMIT_CTRL.DISCARD copies the active copy to the shadow copy, clears DIRTY and disarms the page unless
  it is PENDING. -/
  | discard (p : Nat)
  /-- SHADOW_WRITE (R6). A write to an RW-S register sets its shadow copy and sets DIRTY. Page `p`, offset `o`. -/
  | shadowWrite (p : Nat) (o : Nat) (v : Word)
  /-- GROUP_COMMIT_REQ (R51). SYS.COMMIT_REQ requests a commit of channel groups, to be captured at the next cut-off, or
  refuses at once if the group cadence does not run. -/
  | groupCommitReq (mask : Nat)
  /-- DEVICE_COMMIT_REQ (R54). SYS.COMMIT_REQ.DEVICE captures the pages armed with GROUP 0xF and checks them at once. -/
  | deviceCommitReq
  /-- DEVICE_COMMIT_COMPLETE (R54). The check of a device commit ends and its new values apply in that cycle, or the commit is
  refused. -/
  | deviceCommitComplete
  /-- COMMIT_ABORT_GROUP (R56). SYS.COMMIT_ABORT withdraws a requested group commit before capture or ends a captured one as
  aborted. -/
  | commitAbortGroup (mask : Nat)
  /-- COMMIT_ABORT_DEVICE (R56). SYS.COMMIT_ABORT.DEVICE aborts a requested device commit, or is recorded as a late abort. -/
  | commitAbortDevice
  /-- COMMIT_CUTOFF (R82). The counter reaches T(n) + OFFSET - 4,000 ns and TIME signals the group's commit cut-off to SYS. -/
  | commitCutoff (g : Nat)
  /-- COMMIT_CHECK_END (R52). The check of a captured group commit ends and a refusal is recorded, or the commit waits for the
  boundary. -/
  | commitCheckEnd (g : Nat)
  /-- CHMB_RESERVE_WRITE (R159). A write to SYS.CHMB_RESERVE lowers the reserve at once or checks a raise like a device
  commit. -/
  | chmbReserveWrite (v : Word)
  /-- SHED (R27). At its next picture boundary a channel in the shed order is turned OFF with RESOURCE_FAULT SHED and a log
  record. -/
  | shed
  /-- INT_SET (R33). A write to INT_SET sets the named INT_STATUS bits for test. -/
  | intSet (p : Nat) (v : Word)
  /-- INCR_WRITE (R70). A write of INCR is checked against its range and the window of R70 and applies at once or when the
  running slew ends. -/
  | incrWrite (v : Word)
  /-- SLEW_INCR_WRITE (R70). A write of SLEW_INCR is checked against its range and the window of R70. -/
  | slewIncrWrite (v : Word)
  /-- SLEW_START (R69). SLEW_CTRL.START loads SLEW_REMAIN and uses SLEW_INCR from the tick at which it takes effect, replacing
  any running slew. -/
  | slewStart
  /-- SLEW_DONE (R69). SLEW_REMAIN counts down to 0, the slew ends and any pending INCR applies. -/
  | slewDone
  /-- TIME_LOAD_AT_PPS (R66). With LOAD_MODE 1 the first PPS_IN rising edge after TIME enters ON starts the counter from the
  load value. -/
  | timeLoadAtPps
  /-- TIME_STOP (R68). A DRAINING TIME page finds every GRP page OFF, enters OFF, stops the counter, disarms every compare and
  idles every trigger. -/
  | timeStop
  /-- LOAD_WRITE (R65). A write to the load registers or LOAD_MODE is accepted only while TIME is OFF. `r`: LOAD_NS_LO (0),
  LOAD_NS_HI (1), LOAD_FRAC (2) or TIME_CFG (3). -/
  | loadWrite (r : Nat) (v : Word)
  /-- CMP_ARM (R73). A write of CMP_CTRL checks the block and arms the compare or leaves ARM 0 with the first failing reason.
  -/
  | cmpArm (n : Nat) (v : Word)
  /-- CMP_BOUND_WRITE (R81). A write to the compare registers of a group that is not OFF is ignored with CMP_BOUND. `r`:
  CMP_CTRL (0), RATE_NUM (1), RATE_DEN (2) or OFFSET (3) of compare `n`. -/
  | cmpBoundWrite (n : Nat) (r : Nat) (v : Word)
  /-- TGT_WRITE (R74). A write of TGT_NS_HI makes a new 64-bit one-shot target effective. -/
  | tgtWrite (n : Nat) (v : Word)
  /-- TGT32_WRITE (R88). A write to TGT32 places a 32-bit target within 2^31 ns of the present count. -/
  | tgt32Write (n : Nat) (v : Word)
  /-- COMPARE_FIRE (R72). The counter reaches a compare's target and the compare performs its action and records FIRE_INDEX
  and FIRE_TIME. Compare `n`. -/
  | compareFire (n : Nat)
  /-- TRIGGER_PULSE_END (R85). The pulse width expires and the trigger ball returns to its inactive level. -/
  | triggerPulseEnd (k : Nat)
  /-- CAPTURE_EDGE (R84). A selected edge on a capture input is stamped, or sets OVERRUN while VALID is 1. An edge at the
  source of capture block `n`. -/
  | captureEdge (n : Nat) (rising : Bool)
  /-- PPS_OUT_RISE (R86). The counter reaches a whole second plus 4 ns and PPS_OUT rises. -/
  | ppsOutRise
  /-- PPS_OUT_FALL (R86). PPS_WIDTH x 10 us of counter time after the rise, PPS_OUT falls. -/
  | ppsOutFall
  /-- ROOT_PLL_LOSS (R61). The root PLL loses lock, all clocked work stops and the device is held in reset. -/
  | rootPllLoss
  /-- ROOT_PLL_RELOCK (R61). The PLL has been locked again for 200 us, the hold ends and a boot begins with cause 6. -/
  | rootPllRelock
  /-- SDI_RATE_DWELL (R92). A searching SDI lane dwells 2 ms at a rate without lock and moves to the next rate of the search.
  Link `i` of SDIRX `n`. -/
  | sdiRateDwell (n : Nat) (i : Nat)
  /-- SDI_LINK_LOCK (R92). Four consecutive lines carry timing reference words at one spacing and the link is locked. Link `i`
  of SDIRX `n`. -/
  | sdiLinkLock (n : Nat) (i : Nat)
  /-- SDI_LOCK_LOSS (R92). A link misses three expected timing references or loses clock and searches again. Link `i` of SDIRX
  `n`. -/
  | sdiLockLoss (n : Nat) (i : Nat)
  /-- SDI_PICTURE_ARRIVAL (R108). The SAV of the first active line of link 1 is stamped and the picture is checked for format,
  payload ID and skew and indexed. `x` is the picture as the receiver of SDIRX `n` assembles it. -/
  | sdiPictureArrival (n : Nat) (x : SdiPicture)
  /-- ANC_PACKET (R97). An ST 291 packet matching an enabled filter is written as one record to the ancillary ring, or dropped
  when there is no room. `x` is the packet at SDIRX `n`. -/
  | ancPacket (n : Nat) (x : AncPacket)
  /-- IPIN_PATH_INACTIVE (R102). No packet has been accepted on a path for one frame period and the path becomes inactive.
  Path `b` of IPIN `n`. -/
  | ipinPathInactive (n : Nat) (b : Nat)
  /-- IPIN_SEQ_LOST (R242). In MODE 1 a sequence number missing when a later one has waited JITTER_NS is declared lost. -/
  | ipinSeqLost (n : Nat)
  /-- ROW_READ_INSTANT (R141). At R(k) the compositor reads CTU row k of the source, missing samples read black and late
  packets are discarded thereafter. CTU row `k` of source `n`. -/
  | rowReadInstant (n : Nat) (k : Nat)
  /-- INPUT_PAGE_LEAVE (R114). An input page told to stop enters OFF or OUT_OF_SERVICE at the next frame-cycle start of its
  index group or when the cadence is found not running. -/
  | inputPageLeave (p : Nat)
  /-- FENCE_SIGNAL (R121). A write to FENCE_SIGNAL increments FENCE_DONE of each named layer. -/
  | fenceSignal (n : Nat) (v : Word)
  /-- PROT_WRITE (R127). A write to a PROT register is accepted only from Lantern before PROT_LOCK, else ignored with
  LOCKED_FIELD. Register `r`, 0 to 6, from PROT_CFG, of source `n`; by Lantern or by the host. -/
  | protWrite (byLantern : Bool) (n : Nat) (r : Nat) (v : Word)
  /-- PROT_LOCK (R127). Lantern sets PROT_LOCK and the PROT registers accept no write until device reset. Source `n`; by
  Lantern or by the host. -/
  | protLock (byLantern : Bool) (n : Nat)
  /-- FEEDER_DRAIN_END (R137). A draining SRC or SCAL page whose fed pages have all stopped enters OFF or OUT_OF_SERVICE at
  the next frame-cycle start. -/
  | feederDrainEnd (p : Nat)
  /-- ROW_RELEASE (R196). At the release instant of row k the controller applies known results and sets the row's cap, target
  and QP. Row `k` of the picture of frame index `n` of channel `c`; `lost`: a parity fault of the lookahead SRAM took the row's
  costs (R163). -/
  | rowRelease (c : Nat) (n : Nat) (k : Nat) (lost : Bool)
  /-- ROW_DISPATCH (R144). A free chamber takes the released and undispatched row with the earliest output instant once its
  references are ready. -/
  | rowDispatch (h : Nat)
  /-- CTU_COMPLETE (R138). A chamber completes a CTU, writes its checkpoint, Squeeze blocks and proxy, and applies the cap
  guard and floor test to the next. `full` and `floor` are what the CTU of chamber `h` gives coded in full and as a floor CTU.
  -/
  | ctuComplete (h k x : Nat)
  /-- CHAMBER_FAULT (R146). A parity fault ends a chamber's CTU, the chamber enters FAULT and its row resumes from its
  checkpoint, preempting a row if needed. -/
  | chamberFault (h : Nat)
  /-- OUTPUT_INSTANT (R15). At O(k) the coded bytes of row k are formed into packets and handed through the gate to the TSCH
  queues. Row `k` of the picture of frame index `n` of channel `c`. -/
  | outputInstant (c : Nat) (n : Nat) (k : Nat)
  /-- CHMB_DRAIN_EFFECT (R160). A chamber drain takes effect at the next frame-cycle start, and the chamber takes no new row
  and leaves the admitted count. -/
  | chmbDrainEffect (h : Nat)
  /-- CHMB_DRAIN_END (R160). The draining chamber finishes its row and enters OUT_OF_SERVICE. -/
  | chmbDrainEnd (h : Nat)
  /-- CHMB_POOL_JOIN (R161). A re-enabled chamber joins the pool at the first frame-cycle start at least 1,000 ns after it
  entered ON. -/
  | chmbPoolJoin (h : Nat)
  /-- BLOCK_READ (R230). The reference window reads a Squeeze block, checks it and re-reads a failed block up to two more
  times. Block `b` of CTU `t` in buffer `i` of channel `c`, whose first `transient` attempts memory reports uncorrectable;
  past the last block, `b` numbers the sectors of the CTU's proxy (R236). -/
  | blockRead (c : Nat) (i : Nat) (t : Nat) (b : Nat) (transient : Nat)
  /-- DEC_INPUT_RECORD (R243). A compressed-input record or packet enters the CPB, or overflows it. -/
  | decInputRecord (d : Nat)
  /-- DEC_PICTURE_DECODED (R240). The decoder completes a picture, conceals undecoded areas and checks its hash. `o` is what
  decoding gives by the codec's recommendation. -/
  | decPictureDecoded (d rows : Nat)
  /-- SDI_OUT_PICTURE (R256). SDITX starts a picture at Fp(m) + SDO_OFFSET, measures PHASE and realigns if it exceeds one
  line. Picture `m` at output `n`. -/
  | sdiOutPicture (n : Nat) (m : Nat)
  /-- CLAIM (R265). A CLAIM message from the peer updates the peer claim and may change the output role at link activation.
  `seq` is the sequence number of its Rope frame, here and below. -/
  | claimMsg (seq : Nat) (claim : Nat) (primary : Bool) (active : Bool) (yielded : Bool)
  /-- DIGEST (R274). A DIGEST message's entries are compared with own digests and change step codes. Entries of channel, frame
  index, row, digest and flags. -/
  | digest (seq : Nat) (es : List (Nat × Nat × Nat × Nat × Nat))
  /-- DIGEST_LATE (R274). A peer digest has not arrived by O(k) + 2 t_row and the channel is mismatched with cause LATE. -/
  | digestLate (c : Nat)
  /-- YIELD (R277). A standby that receives YIELD sets its claim and opens its gate at the chosen sequence number of each
  channel. P-sequence `p`; `carried` are channels and sequence numbers. -/
  | yieldMsg (p : Nat) (claim : Nat) (drain : Bool) (carried : List (Nat × Nat))
  /-- SNAPSHOT (R286). A joining standby replaces its rate-control state with the SNAPSHOT and forces the refresh picture. -/
  | snapshot (seq : Nat) (m : SnapshotMsg)
  /-- DECISION (R286). A DECISION gives a joining standby the cap, QP and floor of a refresh row, which is then dispatchable.
  Row `k` of picture `n` of channel `c`: cap, QP, floor flag and prediction. -/
  | decision (seq : Nat) (c : Nat) (n : Nat) (k : Nat) (cap : Nat) (qp : Nat) (floor : Bool) (e : Nat)
  /-- STEP (R267). A STEP message sets the channel OUT_OF_STEP, or fails its join. Channel `c`, cause, frame index and row. -/
  | stepMsg (seq : Nat) (c : Nat) (cause : Nat) (n : Nat) (k : Nat)
  /-- JOIN_REQ (R285). The active makes a refresh request pending on the named channel. -/
  | joinReq (seq : Nat) (c : Nat)
  /-- HANDOVER_REQ (R279). The active replies with HANDOVER carrying F_s, or 0 if not IN_STEP. -/
  | handoverReq (seq : Nat) (claim : Nat)
  /-- HANDOVER (R279). A received HANDOVER sets the switch instant F_s, or records NOT_IN_STEP if declined. `fs` is F_s, 0 for
  a refusal. -/
  | handover (seq : Nat) (fs : Nat) (claim : Nat)
  /-- COMMIT_REQ (R288). A peer's COMMIT_REQ makes this unit capture the same group commit at the named boundary. Groups and
  boundaries. -/
  | commitReq (seq : Nat) (reqs : List (Nat × Nat))
  /-- COMMIT_VERDICT (R289). The peer's verdict and configuration digest are recorded for the paired commit. Group `g`,
  boundary `b`. -/
  | commitVerdict (seq : Nat) (g : Nat) (b : Nat) (pass : Bool) (digest : Nat)
  /-- VERDICT_DEADLINE (R289). 300 FABRIC cycles before the boundary a paired commit without a matching passing verdict is
  refused. -/
  | verdictDeadline (g : Nat)
  /-- READY (R290). The peer's layer readiness is recorded for the next cut-off of the group. Group `g`, boundary `m`; sources
  and their ready layers. -/
  | ready (seq : Nat) (g : Nat) (m : Nat) (entries : List (Nat × Nat))
  /-- WITNESS_TIMEOUT (R282). The witness timer reaches WITNESS_TIMEOUT and a standby without Rope link opens its gate, or
  ECHO_SILENT is set. -/
  | witnessTimeout
  /-- RETAIN_EXPIRY (R269). A retained packet reaches 16,384 ns after hand-over and is discarded. -/
  | retainExpiry (c : Nat)
  /-- REVERT (R280). IN_STEP_MS reaches HOLD_OFF and a standby primary with REVERT sends HANDOVER_REQ. -/
  | revert
  /-- PAIR_CTRL_HANDOVER (R279). PAIR_CTRL.HANDOVER sends HANDOVER from the active or HANDOVER_REQ from the standby. -/
  | pairCtrlHandover
  /-- YIELD_NOW (R276). PAIR_CTRL.YIELD_NOW raises the fatal fault of FATAL_MASK bit 7. -/
  | yieldNow
  /-- CLEAR_YIELD (R278). PAIR_CTRL.CLEAR_YIELD clears the yielded state and sends CLAIM. -/
  | clearYield
  /-- JOIN_NOW (R285). PAIR_CTRL.JOIN_NOW sends JOIN_REQ for every OUT_OF_STEP channel. -/
  | joinNow
  /-- PAIR_CFG_WRITE (R260). A write to PAIR_CFG or CLAIM_INIT is accepted only while PAIR is OFF. `r`: PAIR_CFG (0) or
  CLAIM_INIT (1). -/
  | pairCfgWrite (r : Nat) (v : Word)
  /-- ROPE_LINK_CUT (R306). No valid heartbeat has arrived for 8.0 us, the link goes DOWN and bring-up restarts. -/
  | ropeLinkCut
  /-- HEARTBEAT_SEND (R304). At each multiple of 1,000 ns a heartbeat column is sent on every lane of TX_MASK. -/
  | heartbeatSend
  /-- HEARTBEAT (R304). A received heartbeat updates the peer's RX_MASK, NEXT_SEQ and P_ACK. A block on `lane`: the peer's RX
  mask, NEXT_SEQ and P_ACK. -/
  | heartbeat (lane : Nat) (rx : Nat) (next : Nat) (pAck : Nat)
  /-- AM (R307). A received AM column announces the peer's TX_MASK from the next column and its RX_MASK. A block on `lane`:
  the peer's masks; `skew` in blocks; since the last AM block, the IDLE columns inserted and deleted and the sync headers and
  control blocks found invalid. -/
  | am (lane : Nat) (tx : Nat) (rx : Nat) (skew : Nat) (ins : Nat) (del : Nat) (invalid : Nat)
  /-- AM_SEND (R307). Every 4,096 columns, or within 2 after a mask change, an AM column is sent. -/
  | amSend
  /-- ACK (R300). A received ACK releases held frames below NEXT_SEQ or, with NAK, starts a go-back-N replay. -/
  | ack (next : Nat) (nak : Bool) (pAck : Nat)
  /-- ROPE_FRAME_BAD (R297). A frame with a failed CRC, a length mismatch or a broken end is discarded and a NAK sent. `cause`
  0 CRC, 1 LENGTH, 2 START before TERM, 3 ABORT. -/
  | ropeFrameBad (sequenced : Bool) (cause : Nat)
  /-- ROPE_REPLAY_TIMEOUT (R300). The oldest held frame has waited 4 us without progress and the transmitter sends it and
  later frames again. -/
  | ropeReplayTimeout
  /-- YIELD_REPEAT (R302). Every 1 us YIELD is sent again until the peer's P_ACK equals its P-sequence. -/
  | yieldRepeat
  /-- ROPE_LANE_LOST (R305). A lane loses block lock or carries no heartbeat for 8.0 us and leaves the masks. Lane `i`, by
  loss of block lock or by silence; `invalid` headers and blocks not counted before. -/
  | ropeLaneLost (i : Nat) (lockLost : Bool) (invalid : Nat)
  /-- BLOCK_LOCK (R295). A lane sees 64 consecutive valid sync headers and gains block lock. -/
  | blockLock (i : Nat)
  /-- SIGNAL_DETECT (R313). A signal on MIN_LANES lanes takes the link from DETECT to TRAIN. The lanes of `mask` detect a
  signal. -/
  | signalDetect (mask : Nat)
  /-- ROPE_TRAIN_DONE (R312). A lane's training handshake completes and it sends scrambled IDLE blocks. -/
  | ropeTrainDone (i : Nat)
  /-- TRAIN_MS_EXPIRY (R313). TRAIN_MS passes and the link goes to ALIGN or to DOWN with TRAIN_TIMEOUT. -/
  | trainMsExpiry
  /-- ALIGN_DONE (R313). AM columns align and both ends' masks agree and the link goes to EXCHANGE. -/
  | alignDone
  /-- LINK_STATE_TIMEOUT (R313). 1 ms passes in ALIGN or EXCHANGE without progress and the link goes DOWN. -/
  | linkStateTimeout
  /-- CAPS (R314). The peer's CAPS is accepted and, with own CAPS acknowledged, the link becomes ACTIVE or goes DOWN on
  another VERSION. -/
  | caps (seq : Nat) (version : Nat) (member : Nat) (stepping : Nat) (lanes : Nat) (minLanes : Nat) (window : Nat) (next : Nat)
  /-- MAILBOX (R315). A received mailbox fills MBOX_RX or is discarded while RX_FULL is 1. -/
  | mailbox (seq : Nat) (words : List Nat)
  /-- ROPE_RETRAIN (R308). ROPE_CTRL.RETRAIN removes a lane from TX_MASK and trains it, unless refused with RETRAIN_BUSY. -/
  | ropeRetrain (i : Nat)
  /-- ROPE_RETRAIN_RESULT (R309). A retrained lane rejoins TX_MASK or counts a failed try and becomes FAILED after
  RETRAIN_TRIES. -/
  | ropeRetrainResult (i : Nat)
  /-- ROPE_RESTART (R313). ROPE_CTRL.RESTART takes the link DOWN and to DETECT in the next cycle. -/
  | ropeRestart
  /-- CLEAR_FAILED (R309). ROPE_CTRL.CLEAR_FAILED clears FAILED and TRIES of every lane. -/
  | clearFailed
  /-- MBOX_SEND (R315). ROPE_CTRL.MBOX_SEND sends MBOX_TX0 to 15 and sets TX_BUSY until acknowledged. -/
  | mboxSend
  /-- ETH_FRAME_RECEIVE (R323). A received frame is checked under R321 and goes to an Echo entry, an IPIN path or the host
  ring, or is discarded. Port `p`; `good` is a good FCS without uncorrectable codeword; `back` is how long ago, in 2^-24 ns,
  the message timestamp point crossed the ball; FEC codewords corrected and uncorrectable, and symbols corrected, since the
  last frame. -/
  | ethFrameReceive (p : Nat) (good : Bool) (fr : List Byte) (back : Nat) (corrected : Nat) (uncorr : Nat) (symbols : Nat)
  /-- AN_COMPLETE (R320). Auto-negotiation completes with the common ability and the port goes to TRAIN. -/
  | anComplete (p : Nat)
  /-- ETH_ATTEMPT_TIMEOUT (R522). AN, TRAIN or ALIGN is not completed within its bound and the port returns to DOWN.
  `noAbility`: the partner has no common ability. -/
  | ethAttemptTimeout (p : Nat) (noAbility : Bool)
  /-- ETH_TRAIN_DONE (R320). Training of every lane of the port completes and it goes to ALIGN. -/
  | ethTrainDone (p : Nat)
  /-- LINK_UP (R320). Alignment and FEC codeword lock on every lane bring the port UP. -/
  | linkUp (p : Nat)
  /-- LINK_DOWN (R320). A port loses alignment or lock and goes DOWN, and its queues move or discard under R352. -/
  | linkDown (p : Nat)
  /-- RETRY_MS_EXPIRY (R320). RETRY_MS after entering DOWN the port begins another bring-up attempt. -/
  | retryMsExpiry (p : Nat)
  /-- LANE_MODE_NEXT_WRITE (R318). A write to LANE_MODE_NEXT records the lane mode for the next device reset. -/
  | laneModeNextWrite (p : Nat) (v : Word)
  /-- SUB_WRITE (R322). A write to a subscription entry takes effect within 1 us or is ignored with SUB_RANGE. SUB`n`_SOURCE
  or SUB`n`_GROUP of port `p`. -/
  | subWrite (p : Nat) (n : Nat) (source : Bool) (v : Word)
  /-- HOST_TX_RECORD (R324). A host transmit record is taken from its ring and its frame queued on HOST_QUEUE. -/
  | hostTxRecord (p : Nat)
  /-- TS_HOST_RECORD (R335). A TS-insert record is taken by the release instant of its row and its packets inserted, or
  discarded as late or invalid. -/
  | tsHostRecord (c : Nat)
  /-- ENABLE_QUEUE (R342). Q_CMD ENABLE checks the entry, sets EN, reserves the buffer and sets the tokens. -/
  | enableQueue (q : Nat)
  /-- DISABLE_QUEUE (R342). Q_CMD DISABLE clears EN and discards the queued frames. -/
  | disableQueue (q : Nat)
  /-- DISABLE_COMPLETE (R342). No frame of the disabled queue is being sent any more and the command completes. -/
  | disableComplete
  /-- SET_SHAPER (R342). Q_CMD SET_SHAPER copies SHAPE_RATE and SHAPE_BURST into the entry and resets its tokens. -/
  | setShaper (q : Nat)
  /-- RETURN (R352). Q_CMD RETURN moves a queue on its alternate back to PORT at its next frame boundary. -/
  | returnQueue (q : Nat)
  /-- FRAME_HANDOFF (R341). A writer hands a frame to its queue and the queue accepts it or drops it whole. -/
  | frameHandoff
  /-- FRAME_TRANSMIT_START (R345). A port starts the frame of the highest eligible class by round robin and deducts its
  tokens. -/
  | frameTransmitStart (p : Nat)
  /-- FRAME_TRANSMIT_END (R341). A frame's last octet leaves the ball and its bytes are released from the queue. `back` is how
  long ago, in 2^-24 ns, the message timestamp point crossed the ball. -/
  | frameTransmitEnd (p : Nat) (back : Nat)
  /-- GATE_SWAP (R351). GATE_CTRL.SWAP reads and checks a new gate list and schedules it for the swap instant. -/
  | gateSwap (p : Nat)
  /-- GATE_CANCEL (R351). GATE_CTRL.CANCEL withdraws a pending swap, or is a late abort at or after S. -/
  | gateCancel (p : Nat)
  /-- GATE_SWAPPED (R351). At the swap instant S the new list comes into force at its offset and MAXOPEN is computed. -/
  | gateSwapped (p : Nat)
  /-- GATE_ENTRY_CHANGE (R348). An entry's duration ends and the next entry opens its set of classes. -/
  | gateEntryChange (p : Nat)
  /-- ADAPT_WINDOW_END (R357). A 4,096-UI window ends, its verdict is formed, updates are applied, bounds checked and lane
  state changed. What the window of lane `n` saw, and its updates of peaking and taps. -/
  | adaptWindowEnd (n : Nat) (density : Nat) (balance : Nat) (dPeak : Int) (dTaps : List Int)
  /-- LANE_RETRAIN (R369). LANE_CTRL.RETRAIN acts through the lane's owner or is refused. -/
  | laneRetrain (n : Nat)
  /-- FREEZE (R358). LANE_CTRL.FREEZE puts a TRACK lane into FROZEN and sets HOST_HOLD. -/
  | freeze (n : Nat)
  /-- UNFREEZE (R358). LANE_CTRL.UNFREEZE clears HOST_HOLD and restarts the good-window count. -/
  | unfreeze (n : Nat)
  /-- SNAPSHOT_BASELINE (R360). LANE_CTRL.SNAPSHOT retakes the baseline at the next window end of a TRACK lane. -/
  | snapshotBaseline (n : Nat)
  /-- INJECT_SINGLE (R367). LANE_CTRL.INJECT_SINGLE inverts one transmitted bit. -/
  | injectSingle (n : Nat)
  /-- INJECT_BURST (R367). LANE_CTRL.INJECT_BURST inverts BURST_LEN consecutive bits. -/
  | injectBurst (n : Nat)
  /-- ES_START (R364). LANE_CTRL.ES_START starts an eye-scan point or is refused. -/
  | esStart (n : Nat)
  /-- ES_STOP (R364). LANE_CTRL.ES_STOP ends the point at once without DONE. -/
  | esStop (n : Nat)
  /-- ES_DONE (R364). The point has compared 2^DWELL UI and ES_ERR holds its mismatches. `errs` mismatches. -/
  | esDone (n : Nat) (errs : Nat)
  /-- FFE_WRITE (R355). A write to FFE is accepted only in its allowed states and when legal. -/
  | ffeWrite (n : Nat) (v : Word)
  /-- TEST_CFG_WRITE (R366). A write to TEST_CFG enables the generator while the owner is OFF and starts or stops the checker.
  -/
  | testCfgWrite (n : Nat) (v : Word)
  /-- LOOPBACK_WRITE (R368). A write of LOOPBACK or polarity is accepted only while the owner is OFF and the lane has the
  direction. -/
  | loopbackWrite (n : Nat) (v : Word)
  /-- LANE_TRAIN_DONE (R361). Training or blind acquisition completes and the lane enters TRACK with a baseline. -/
  | laneTrainDone (n : Nat)
  /-- LANE_TRAIN_FAIL (R370). Training finds no setting within the owner's limit and the lane goes DOWN or FAILED. -/
  | laneTrainFail (n : Nat)
  /-- CDR_LOST (R361). Clock recovery loses lock and the lane goes to ACQUIRE or DOWN. -/
  | cdrLost (n : Nat)
  /-- MEMC_REQUEST (R374). A channel serves a burst as closed-page units and checks each block's CRC, re-reading failed
  blocks. `fails` is, block by block, how many attempts fail their CRC. -/
  | memcRequest (n : Nat) (fails : List Nat)
  /-- REFI_EXPIRY (R378). One more refresh becomes owed at every REFI. -/
  | refiExpiry (n : Nat)
  /-- REFRESH_ISSUE (R378). An owed refresh is issued and a pending delay apply takes effect at it. -/
  | refreshIssue (n : Nat)
  /-- MR4_POLL (R523). Every POLL_MS the MR4 refresh-rate field is read and the temperature state may change. `code` is 0 for
  no valid data, 1 below twice nominal, 2 twice, 3 above. -/
  | mr4Poll (n : Nat) (code : Nat)
  /-- SENSOR_SAMPLE (R469). Every 1 ms SENS samples every site and rail and checks warnings and the over-temperature limit.
  Twelve sites in 0.125 °C, ten rails in mV, and how many samples are implausible. -/
  | sensorSample (temps : List Int) (volts : List Nat) (implausible : Nat)
  /-- APPLY (R375). DLY_CTRL.APPLY checks the NEXT values and schedules their copy to ACT at the next refresh. -/
  | applyDelays (n : Nat)
  /-- PROBE_START (R376). DLY_CTRL.PROBE_START begins a probe of SLOTS stolen slots. -/
  | probeStart (n : Nat)
  /-- STOLEN_SLOT (R376). Every STEAL_NS a stolen slot reads or writes one training unit for the probe. `pass`: every bit of
  the selected lane matched. -/
  | stolenSlot (n : Nat) (pass : Bool)
  /-- RR_WINDOW_END (R384). A re-read window ends and RR_HIGH is set or the channel declared failed. -/
  | rrWindowEnd (n : Nat)
  /-- SHED_WRITE (R388). A write to SHEDn sets shed-order entries or is refused with SHED_RANGE. SHED`k` of MEMC`n`. -/
  | shedWrite (n : Nat) (k : Nat) (v : Word)
  /-- MTX_BURST_REQUEST (R391). A master's burst is held back or granted by priority and carried whole to its target. A read
  of `len` octets, or a write of `data`; `busy`: the target's path takes nothing now. -/
  | mtxBurstRequest (master : Nat) (addr : Nat) (len : Nat) (data : Option (List Byte)) (fence : Bool) (busy : Bool)
  /-- AGE_LIMIT_EXPIRY (R391). A request eligible for AGE_LIMIT cycles becomes aged and is granted ahead of the fixed order.
  -/
  | ageLimitExpiry (id : Nat)
  /-- FLIT_CRC_FAIL (R396). A receiver finds a failed flit CRC, sends NAK and the sender replays, or the flit becomes
  uncorrectable. The `attempt`-th transmission. -/
  | flitCrcFail (master : Nat) (addr : Nat) (attempt : Nat)
  /-- WP_WRITE (R399). A write to a window register is accepted only from Lantern before LOCK. Register `r` (BASE_LO, BASE_HI,
  LIMIT_LO, LIMIT_HI, MASK, CTRL) of window `w`; by Lantern or by the host. -/
  | wpWrite (byLantern : Bool) (w : Nat) (r : Nat) (v : Word)
  /-- PAGE_LINE_CHANGE (R411). A page interrupt line rises or falls and its source state changes. -/
  | pageLineChange (p : Nat)
  /-- SW_SET (R406). A write to SW_SET sets PEND of a software source. -/
  | swSet (n : Nat)
  /-- SW_CLR (R406). A write to SW_CLR clears PEND of a software source. -/
  | swClr (n : Nat)
  /-- SRC_CTRL_WRITE (R411). A write to a source's SRC_CTRL, TMASK or a target's TGT_CTRL may return a committed source to
  PENDING or IDLE. SRC_CTRL (`r` 0) or TMASK0 to 2 (1 to 3) of source `n`, or TGT_CTRL (4) of target `n`. -/
  | srcCtrlWrite (n : Nat) (r : Nat) (v : Word)
  /-- INTC_ROUTE (R409). A pending source is committed to an eligible target and the target's line or MSI-X write is raised.
  `bad` are the vectors whose write completes with an error. -/
  | intcRoute (bad : List Nat)
  /-- CLAIM_READ (R412). A read of CLAIM returns a source, pushes its priority and clears RAISED, or returns 0x7FF. -/
  | claimRead (t : Nat)
  /-- EOI (R414). A write to EOI pops the source from the target's stack and re-samples it. Source `n` written to EOI of
  target `t`. -/
  | eoi (t : Nat) (n : Nat)
  /-- MSIX_UNMASK (R443). Unmasking a vector with its pending bit set launches its MSI-X write. Vector `v`; `err`: its write
  completes with an error. -/
  | msixUnmask (v : Nat) (err : Bool)
  /-- THREAD_READY (R419). A thread becomes READY and may preempt the core of a less urgent running thread. -/
  | threadReady (id : Nat)
  /-- THREAD_CREATE (R426). Firmware creates a thread, placed on chip or in the Sump, or refused with THREAD_CAPACITY. -/
  | threadCreate (id : Nat) (prio : Nat)
  /-- FLOW_POST (R422). An item is posted to an atomic flow or refused with FLOW_ITEMS. -/
  | flowPost (f : Nat)
  /-- SUMP_FETCH (R425). A Sump thread entitled to an on-chip place is fetched, or lost on an uncorrectable read. `ns` after
  it became entitled. -/
  | sumpFetch (id : Nat) (ns : Nat) (uncorrectable : Bool)
  /-- COMMAND_RECORD (R428). TASK takes a command record, checks it and posts it to its page's flow or refuses it. -/
  | commandRecord
  /-- NOP (R431). Command NOP completes with no action. -/
  | nop (tag : Nat)
  /-- CMD_RETRAIN (R431). Command RETRAIN retrains a lane and completes when it reaches TRACK. -/
  | cmdRetrain (tag : Nat)
  /-- MEM_SWEEP (R431). Command MEM_SWEEP probes every delay value and applies the window centre. -/
  | memSweep (tag : Nat)
  /-- EYE_SCAN (R431). Command EYE_SCAN runs eye-scan points and writes the result record. -/
  | eyeScan (tag : Nat)
  /-- JOIN (R431). Command JOIN requests joins for named channels and completes when they are IN_STEP. -/
  | join (tag : Nat)
  /-- FW_LOAD (R431). Command FW_LOAD copies and verifies an image into the inactive bank. -/
  | fwLoad (tag : Nat)
  /-- FW_SWAP (R432). Command FW_SWAP checks the loaded image and asks every core to stop. -/
  | fwSwap (tag : Nat)
  /-- CORE_STOPPED (R432). A core stops at a yield point and, when the eighth stops, the banks switch and the cores resume. -/
  | coreStopped (c : Nat)
  /-- SWAP_TIMEOUT (R432). The eighth core has not stopped within 40 us and the swap is abandoned. -/
  | swapTimeout
  /-- SELFTEST (R431). Command SELFTEST tests an out-of-service chamber to its end. -/
  | selftest (tag : Nat)
  /-- CMD_ABORT (R429). A write of a TAG to CMD_ABORT aborts the outstanding command at its step boundary or as a late abort.
  -/
  | cmdAbort (tag : Nat)
  /-- CMD_TIMEOUT (R430). A command still running TIMEOUT_MS after its start is stopped as aborted. -/
  | cmdTimeout (tag : Nat)
  /-- CMD_CFG_WRITE (R434). A write of CMD_CFG.EN checks both rings and starts or stops taking command records. -/
  | cmdCfgWrite (v : Word)
  /-- PCIE_LINK_DOWN (R439). DL_Down, hot reset or FLR takes every DMA page OFF and reverts the MSI-X table. -/
  | pcieLinkDown
  /-- HOST_RETRAIN (R438). HOST_CTRL.RETRAIN starts a link retrain at x8 and 32 GT/s. -/
  | hostRetrain
  /-- PCIE_LINK_TRAINED (R438). The link trains at the widest working width and rate and reports any change. The mask of lanes
  that trained and the rate, 1 to 5. -/
  | pcieLinkTrained (lanes : Nat) (speed : Nat)
  /-- BAR2_ACCESS (R442). A BAR2 access reaches device memory through the aperture as master HOST_IN. A write of `data`, or a
  read of `len` octets. -/
  | bar2Access (off : Nat) (len : Nat) (data : Option (List Byte))
  /-- APERTURE_WRITE (R442). A write of APERTURE_BASE is accepted only at a multiple of 0x1000_0000. APERTURE_BASE_HI or _LO.
  -/
  | apertureWrite (hi : Bool) (v : Word)
  /-- TAIL_WRITE (R446). A write to TAIL posts descriptors or is refused with TAIL_RANGE. `stores` are the bytes that the host
  wrote to its memory before. -/
  | tailWrite (r : Nat) (v : Word) (stores : List (Nat × List Byte))
  /-- DESCRIPTOR_FETCH (R447). The engine fetches a posted descriptor and reads its buffer for the consumer. `hostErr`: the
  buffer's read ended with an error status. -/
  | descriptorFetch (r : Nat) (hostErr : Bool)
  /-- DMA_DESC_COMPLETE (R447). A descriptor's bytes are consumed and its completion entry is written with FENCE. -/
  | dmaDescComplete (r : Nat)
  /-- RECORD_OFFER (R450). A producer offers a record to a device-to-host ring, written across descriptors or dropped for no
  room. Page `source` offers `rec`. -/
  | recordOffer (r : Nat) (source : Nat) (rec : List Byte)
  /-- COAL_TIMEOUT (R452). TIME_US passes since the oldest unsignalled completion and CPL is set. -/
  | coalTimeout (r : Nat)
  /-- POWER_ON_RESET (R491). Power-on reset is released 2 ms after PWRGOOD rises and Lantern enters BOOT. -/
  | powerOnReset
  /-- PWRGOOD_FALL (R492). PWRGOOD falls and the device acts as at power-on reset. -/
  | pwrgoodFall
  /-- PERST_N_RELEASE (R460). PERST_N is released and Lantern begins PCIe link training within 20 ms. -/
  | perstNRelease
  /-- BOOT (R462). Lantern chooses and verifies a slot and moves to SELFTEST or RECOVERY. Whether digest and signature of each
  slot's image are good. -/
  | boot (soundA : Bool) (soundB : Bool)
  /-- SELFTEST_COMPLETE (R465). The self-tests end and Lantern resets to the image's ROOT_MULT or enters RECOVERY. Which
  tests, and which instances of each, failed. -/
  | selftestComplete (critical : Nat) (chambers : Nat) (decs : Nat) (clocks : Nat) (sites : Nat) (rails : Nat)
  /-- BRINGUP_COMPLETE (R467). Every bring-up step is done and Lantern enters SERVICE and hands over. The memory channels that
  trained. -/
  | bringupComplete (trained : Nat)
  /-- BOOT_WATCHDOG (R468). SERVICE is not reached within 5 s and Lantern issues a device reset with cause 4. -/
  | bootWatchdog
  /-- LANTERN_WATCHDOG (R471). Lantern's watchdog expires and Lantern restarts from ROM in resume mode. -/
  | lanternWatchdog
  /-- HOST_WDT_KICK (R472). A write to HOST_WDT_KICK serves the host watchdog. -/
  | hostWdtKick
  /-- HOST_WDT_EXPIRED (R472). The host misses its period and Lantern acts by ACTION. -/
  | hostWdtExpired
  /-- WRITE_SLOT (R476). MGMT operation WRITE_SLOT copies an image into the slot not running and verifies it. -/
  | writeSlot
  /-- ACTIVATE (R475). MGMT operation ACTIVATE makes the verified slot PENDING with its trials. -/
  | activate (trials : Nat)
  /-- NOR_READ (R475). MGMT operation NOR_READ copies NOR bytes into device memory. -/
  | norRead
  /-- MGMT_RESTART (R475). MGMT operation RESTART issues a device reset and a full boot. -/
  | mgmtRestart
  /-- LOG_EVENT (R512). A logged event is queued to Lantern and written as a record to the memory log and, by severity and
  rate, to the NOR. -/
  | logEvent
  /-- NOR_RATE_REFILL (R474). The persistent log's token bucket refills at NOR_RATE records per second. -/
  | norRateRefill
  /-- XMODEM_IMAGE (R477). In RECOVERY the UART accepts an image by XMODEM-1K and writes it to DRAM. -/
  | xmodemImage (bytes : List Byte)
  /-- CONSOLE_LOAD (R477). The console command load a or load b acts as WRITE_SLOT to that slot. -/
  | consoleLoad (slot : Nat)
  /-- TASK_RESET (R478). Lantern resets TASK and the control cores after a TASK fault and reloads the active bank. -/
  | taskReset
  /-- SENS_CLEAR (R469). A write to SENS_CLEAR restarts every MIN and MAX. -/
  | sensClear (v : Word)
  /-- OT_HOLD_END (R501). HOLD_MS after OVERTEMP picture work stops, clocks stop, the shutdown record is programmed and
  SHUTDOWN_N falls. -/
  | otHoldEnd
  /-- THERMTRIP (R502). The junction reaches 115 C and THERMTRIP_N is driven low until power-on reset. -/
  | thermtrip
  /-- GOVERNOR_STAGE (R494). Every 60 CORE cycles the governor issues one wake or cool stage of a picture domain. -/
  | governorStage
  /-- COOL_DELAY_EXPIRY (R497). Every GRP and DEC page has been OFF for COOL_DELAY_MS and the governor cools the picture
  domains. -/
  | coolDelayExpiry
  /-- PERST_N_ASSERT (R457). PERST_N is asserted and a device reset clears every unit outside the Lantern domain, taking every
  page to OFF. -/
  | perstNAssert
  /-- LATCHING_READ (R50). A read of a _LO register that latches its _HI (and fraction) copy for a consistent wide value. -/
  | latchingRead (a : Nat)
  /-- PPS_IN_EDGE (R67). A PPS_IN rising edge while TIME runs sets TIME_STATUS.PPS_SEEN. -/
  | ppsInEdge
  /-- PPS_SEEN_LAPSE (R67). No PPS_IN rising edge has arrived for 1.1 s of counter time and PPS_SEEN clears. -/
  | ppsSeenLapse
  /-- CDR_LOCK (R363). A lane's clock recovery locks to the received signal, which fixes an SDI lane's rate and starts the
  count toward its baseline. -/
  | cdrLock (n : Nat)
  /-- CHECKER_LOCK (R366). The PRBS checker sees 64 consecutive matching bits, locks and sets CHK_LOCK. -/
  | checkerLock (n : Nat)
  /-- CHECKER_LOST (R366). More than 16 of 64 consecutive bits mismatch, the checker loses lock, sets CHK_LOST, counts
  LOCK_LOSSES and seeds again. `bits` compared and `errs` mismatched since lock. -/
  | checkerLost (n : Nat) (bits : Nat) (errs : Nat)
  /-- RATE_INJECTION (R367). With RATE_EXP set, one transmitted bit in every 2^RATE_EXP bits is inverted and ERR_COUNT4
  increments. -/
  | rateInjection (n : Nat)
  /-- TRAINING_FRAME (R308). Training frames received from the peer on a Rope lane start its training there, or make an end
  abandon a higher lane, and carry FFE requests. Lane `i`; the steps that its REQUEST asks for. -/
  | trainingFrame (i : Nat) (pre : Int) (main : Int) (post : Int) (preset : Bool)
  /-- DETECT_RETRY (R313). 10 ms after a TRAIN_TIMEOUT took the link DOWN, the link returns to DETECT. -/
  | detectRetry
  /-- WAIT_DEADLINE_COUNT (R420). While TIME is not RUNNING a timed wait's deadline on TASK's own FABRIC-cycle count falls due
  and the wait ends TIMED_OUT. -/
  | waitDeadlineCount (id : Nat)
  /-- KERNEL_ENTRY (R419). A running thread enters the kernel to wait, yield, take or signal done an item of an atomic flow,
  or end, and its core takes the next READY thread. What the thread of core `c` asks. -/
  | kernelEntry (c : Nat) (op : KernelOp)
  /-- MGMT_OP_DONE (R475). A running WRITE_SLOT, ACTIVATE or NOR_READ finishes its NOR or DRAM transfer and records COMPLETED
  or REFUSED. Whether digest and signature are good, and every erase and program verified. -/
  | mgmtOpDone (sound : Bool) (norOk : Bool)
  /-- FW_LOAD_DONE (R431). The FW_LOAD copy ends, Lantern checks the image and the command records COMPLETED or FW_INVALID.
  Lantern's verdict on the image, its version and ABI. -/
  | fwLoadDone (tag : Nat) (ok : Bool) (version : Nat) (abi : Nat)
  /-- CHAMBER_TEST_DONE (R431). Lantern's self-test of an out-of-service chamber ends and the SELFTEST command records PASS or
  failure. -/
  | chamberTestDone (tag : Nat) (pass : Bool)
  /-- AER_ERROR (R436). The PCIe function logs a correctable or uncorrectable error, setting AER_CORR or AER_UNCORR and
  counting it. -/
  | aerError (correctable : Bool)
deriving DecidableEq, Repr

end Sys2Proof
end

