-- ==== Sys2Proof/Decode.lean ====
section
/-! DEFINITION. Decoding a word of the command table. spec/opcode_table.json gives no row a bit, so no word spells a command. -/

namespace Sys2Proof

/-- The command that a word spells by the table's bits: none, since no row gives bits. -/
def decodeTableWord (_nbits _w : Nat) : Option Instr := none

end Sys2Proof
end

