-- ==== Sys2Proof/Codec.lean ====
section
/-! DEFINITION. The data of a coded picture (spec/07, R164 to R190): header fields, motion, coding units, reconstructed blocks, SAO
parameters, bins, and the state of the arithmetic coder. They are what the two codec recommendations work on; what only a
recommendation says of them is a constant of Config (log entry 40). -/

namespace Sys2Proof.Machine

/-! ## Headers (R164, R167, R169 to R175, R179) -/

/-- The header NAL units whose bits a recommendation lays out. -/
inductive HeaderKind where
  | aud | vps | sps | pps | pictureHeader | slice
deriving DecidableEq, Repr

/-- Syntax elements of the headers whose values the spec fixes. Flags are 0 or 1. -/
inductive Elem where
  /-- general_profile_idc, tier flag, general_level_idc (R164, R166). -/
  | profileIdc | tier | levelIdc
  /-- general_profile_compatibility_flag[4]; the constraint flags are those of Main 4:2:2 10 (R164). -/
  | compatibility4 | rextConstraints
  /-- Progressive source and frame-only constraint flags (R164). -/
  | progressiveSource | frameOnly
  /-- chroma_format_idc and bit depth of luma and chroma (R164). -/
  | chromaFormat | bitDepth
  /-- Coded size and the right and bottom offsets of the conformance window (R174). -/
  | width | height | cropRight | cropBottom
  /-- log2 of the CTU size, of the smallest coding block and of the largest transform (R167). -/
  | log2Ctu | log2MinCb | log2MaxTb
  /-- Tiles, layers, temporal sub-layers and pictures that are reordered (R167, R173). -/
  | tiles | layers | subLayers | reorderPics
  /-- Enabling flags of used tools: SAO, sign data hiding, cu_qp_delta, deblocking and filtering across slices (R167). -/
  | sao | signHiding | cuQpDelta | deblocking | betaOffset | tcOffset | loopAcrossSlices
  /-- Enabling flags of tools that the encoder does not use: structure, partitioning, intra, inter, transform, quantisation and
  filters (R167). -/
  | subpictures | resampling | ternarySplit | dualTree | amp | nonSquareParts
  | mip | isp | multiRefLine | cclm | intraBlockCopy | palette | bdpcm | colourTransform
  | temporalMvp | affine | sbTmvp | mmvd | gpm | ciip | dmvr | bdof | prof | amvr | smvd | bcw | weightedPred | longTermRefs
  | transform64 | transformSkip | mts | lfnst | sbt
  | depQuant | scalingLists | jointCbCr | cuChromaQp
  | alf | ccAlf | lmcs | virtualBoundaries
  /-- Depth of a binary split, and the largest block that it splits (R167). -/
  | btDepth | btMaxSize
  /-- Merge candidates (R167). -/
  | mergeCands
  /-- Chroma QP offsets, and the QP of a slice (R167, R168). -/
  | cbQpOffset | crQpOffset | sliceQp
  /-- entropy_coding_sync, entry point offsets, rectangular slices of one CTU row, picture header in the slice header (R169). -/
  | entropySync | entryPoints | rowSlices | phInSlice
  /-- Ids of the VPS, SPS and PPS (R170). -/
  | vpsId | spsId | ppsId
  /-- log2_max_pic_order_cnt_lsb (R172). -/
  | log2PocLsb
  /-- VUI and its colour description; timing and HRD parameters (R174). -/
  | vui | colourPrimaries | transfer | matrix | fullRange | timing | hrd
  /-- The picture: its NAL unit type, POC lsb, non-reference and GDR flags, ph_recovery_poc_cnt (R170, R172, R175, R179). -/
  | nalType | pocLsb | nonRefPic | gdrPic | recoveryPocCnt
  /-- The slice: 0 B, 1 P, 2 I; its first CTU row; dependent slice segment; num_entry_point_offsets; SAO flags (R169, R173, R175). -/
  | sliceType | firstRow | dependentSegment | numEntryPoints | sliceSaoLuma | sliceSaoChroma
  /-- Entry of reference list 0 or 1: POC distance (R173). -/
  | refList0 | refList1
deriving DecidableEq, Repr

/-! ## Motion and coding units (R167, R175, R176) -/

/-- A rectangle of the picture, luma samples. -/
structure Area where
  x : Nat
  y : Nat
  w : Nat
  h : Nat
deriving DecidableEq, Repr

/-- A motion vector in quarter luma samples. -/
structure Mv where
  x : Int
  y : Int
deriving DecidableEq, Repr, Inhabited

/-- Reference index and vector from list 0 and from list 1. -/
structure Motion where
  l0 : Option (Nat × Mv)
  l1 : Option (Nat × Mv)
deriving DecidableEq, Repr

/-- How a CU is predicted. Luma modes carry the codec's numbers; chroma is 0 DM, 1 planar, 2 vertical, 3 horizontal, 4 DC (R189). -/
inductive CuPred where
  | skip (idx : Nat) (m : Motion)
  | merge (idx : Nat) (m : Motion)
  | amvp (m : Motion)
  | intra (luma chroma : Nat)
deriving DecidableEq, Repr

/-- A coding unit. -/
structure Cu where
  area : Area
  /-- Splits from the CTU down to it: 1 quadtree, 2 binary horizontal, 3 binary vertical. -/
  splits : List Nat
  pred : CuPred
  /-- Levels of its transform blocks in coding order. -/
  levels : List (List Int)
  /-- Its QP, and the cu_qp_delta that it sends (R168). -/
  qp : Nat
  delta : Option Int
deriving DecidableEq, Repr

/-- Reconstructed samples of a rectangle of a component (0 Y, 1 Cb, 2 Cr), in its own grid, before the in-loop filters. -/
structure Patch where
  comp : Nat
  x : Nat
  y : Nat
  w : Nat
  h : Nat
  samples : List Nat
deriving DecidableEq, Repr

/-! ## SAO (R167, R189) -/

/-- SAO of one component: off, bands from a position, or edges of a class, with four offsets. -/
inductive SaoComp where
  | off
  | band (pos : Nat) (offs : List Int)
  | edge (cls : Nat) (offs : List Int)
deriving DecidableEq, Repr

/-- SAO parameters of a CTU: 1 merged left, 2 merged up, else 0, and each component. -/
structure Sao where
  merge : Nat
  y : SaoComp
  cb : SaoComp
  cr : SaoComp
deriving DecidableEq, Repr

/-- SAO off (R176). -/
def Sao.none : Sao := ⟨0, .off, .off, .off⟩

/-! ## Coded CTUs and their bits (R140, R187) -/

/-- A CTU as it has been coded. -/
structure CtuRec where
  cus : List Cu
  patches : List Patch
  sao : Sao
deriving DecidableEq, Repr

def CtuRec.reset : CtuRec := ⟨[], [], .none⟩

/-- A bin: bypass, coded with a context, or terminate (R187). -/
inductive Bin where
  | bypass (v : Bool)
  | context (i : Nat) (v : Bool)
  | terminate (v : Bool)
deriving DecidableEq, Repr

/-- The entropy coder of a row: context states (VVC pStateIdx0 and pStateIdx1, HEVC σ and valMps), the arithmetic coder, the bits
of an octet not yet whole, the zero octets just written, and the predicted QP (R140, R168, R187). -/
structure Coder where
  contexts : List (Nat × Nat)
  arith : List Nat
  bits : List Bool
  zeros : Nat
  predQp : Nat
deriving DecidableEq, Repr

def Coder.reset : Coder := ⟨[], [], [], 0, 0⟩

/-- What the coding of a CU or of a CTU's syntax can depend on: the channel's format, the picture, and the CTUs around it. -/
structure CodeCtx where
  /-- 0 VVC, 1 HEVC; coded bit depth; 4:2:0. -/
  codec : Nat
  depth : Nat
  c420 : Bool
  /-- Coded size. -/
  width : Nat
  height : Nat
  /-- Row slices (R169). -/
  rowSlices : Bool
  /-- PIC_TYPE, POC and POC distances of the references (R154, R172, R173). -/
  kind : Nat
  poc : Nat
  refs : List Nat
  /-- Row QP. -/
  qp : Nat
  /-- The CTU: column, row, and the CTUs of a row. -/
  cx : Nat
  cy : Nat
  nRow : Nat
  /-- The entropy coder at the start of the CTU. -/
  coder : Coder
  /-- CUs, reconstruction and SAO of the CTUs around it, by CTU index, and of its own CUs so far. -/
  ctus : List (Nat × CtuRec)
  own : CtuRec
deriving DecidableEq, Repr

/-! ## Streams that a decoder reads (spec/10, R238, R244, R248 to R252) -/

/-- What an SPS says of the pictures that refer to it. -/
structure SpsRead where
  /-- 0 VVC, 1 HEVC. -/
  codec : Nat
  /-- general_profile_idc; HEVC, the constraint flags are those of Main 4:2:2 10; general_level_idc. -/
  profileIdc : Nat
  main422 : Bool
  levelIdc : Nat
  /-- chroma_format_idc, luma and chroma bit depth. -/
  chroma : Nat
  depth : Nat
  depthC : Nat
  /-- field_seq_flag. -/
  fieldCoded : Bool
  /-- Decoded picture buffers that it needs. -/
  buffers : Nat
  /-- CTU size and coded size, luma samples. -/
  ctu : Nat
  codedW : Nat
  codedH : Nat
  /-- Conformance window. -/
  left : Nat
  top : Nat
  width : Nat
  height : Nat
deriving DecidableEq, Repr, Inhabited

/-- What a slice header says. -/
structure SliceRead where
  /-- Parameter sets that it refers to, by kind and id. -/
  refers : List (Nat × Nat)
  sps : SpsRead
  poc : Int
  /-- Later POCs are told relative to it. -/
  base : Bool
  /-- Address of its first CTU. -/
  first : Nat
  /-- Octet at which its last substream begins, and octets of its data. -/
  entry : Nat
  dataLen : Nat
  /-- POCs that its reference lists name, and POCs that stay in the decoded picture buffer. -/
  refs : List Int
  kept : List Int
  irap : Bool
  /-- A VVC GDR picture: its ph_recovery_poc_cnt. -/
  gdr : Option Int
deriving DecidableEq, Repr, Inhabited

/-- What a NAL unit of layer 0 is. -/
inductive NalRead where
  /-- A syntax element is out of range, a reserved value is used, or the trailing bits are malformed (R248). -/
  | bad
  /-- A parameter set, by kind and id. -/
  | params (kind id : Nat)
  | slice (x : SliceRead)
  /-- SEI: an HEVC recovery point's recovery_poc_cnt, and a decoded picture hash: its type and a number for each component. -/
  | sei (recovery : Option Int) (hash : Option (Nat × List Nat))
  | other
deriving DecidableEq, Repr, Inhabited

end Sys2Proof.Machine
end

