-- ==== Sys2Proof/Config.lean ====
section
/-! DEFINITION. What an implementation fixes and the spec leaves open. Each constant has no body, so that nothing can be proved
of the values it gives: `Config.freeValue` is the free values by the counter `State.freeCtr` (log entry 2); the constants under
"The codec recommendations" are what ITU-T H.266 and H.265, and not the spec, say (log entry 40). -/

namespace Sys2Proof

open Sys2Proof.Machine

/-- Free 32-bit values, one for each number of the model's counter of free values (log entry 2). -/
opaque Config.freeValue : Nat → BitVec 32

/-- Samples of a staged line, of a reference block or of a decoder's region that memory does not return, by the counter of free values
and place (R149, R231, R247; log entry 123). -/
opaque Config.lostSample : Nat → Nat → BitVec 10

/-- Active lines and active luma samples per line that link 1 of a dual-link SDI signal shows, by geometry code: the spec names
the division, two-sample interleave, and not what one of two links carries (R91, R93; log entry 258). -/
opaque Config.dualLink : Nat → Nat × Nat

/-! ## The codec recommendations (log entry 40) -/

/-- The RBSP octets of a header by codec (0 VVC, 1 HEVC), kind and the values of the elements that the spec fixes, in order; what a
slice's holds is its header with byte alignment. -/
opaque Config.headerRbsp : Nat → HeaderKind → List (Elem × Nat) → List (BitVec 8)

/-- What the peer of a lane asks of the transmit FFE while it trains, by the counter of free values: steps of PRE, MAIN and POST for an
Ethernet lane, whole settings for a PCIe lane (R355; log entry 292). -/
opaque Config.ffeRequests : Nat → List (Int × Int × Int)

/-- The QP that slice headers name, by codec (R168). -/
opaque Config.sliceQp : Nat → Nat

/-- Merge candidates of a CU, in the codec's order (R167). -/
opaque Config.mergeCands : CodeCtx → Area → List Motion

/-- Intra prediction of a block of a component: context, component, position and size in its own grid, luma mode, chroma mode. -/
opaque Config.intraBlock : CodeCtx → Nat → Area → Nat → Nat → List Nat

/-- Interpolation of a block of a component at a fractional position: context, component, width and height, fractions in eighths of a
sample of the component, and the samples read, in raster order (R180). -/
opaque Config.interpolate : CodeCtx → Nat → Nat × Nat → Nat × Nat → List Nat → List Int

/-- Prediction samples from one or two interpolated blocks, equal weights. -/
opaque Config.combine : CodeCtx → List (List Int) → List Nat

/-- Forward transform of a block: context, component, width, height, intra, residual. -/
opaque Config.transform : CodeCtx → Nat → Nat → Nat → Bool → List Int → List Int

/-- Scale and shift of the dequantiser of the standard inverted at the same shift: context, component, width, height (R188). -/
opaque Config.quantScale : CodeCtx → Nat → Nat → Nat → Nat × Nat

/-- Residual of a block by dequantisation and inverse transform: context, component, width, height, intra, levels. -/
opaque Config.residual : CodeCtx → Nat → Nat → Nat → Bool → List Int → List Int

/-- Places of the coefficients of a block, by coefficient group, each in scan order (R188): context, component, width, height, intra
modes. -/
opaque Config.scanGroups : CodeCtx → Nat → Nat → Nat → CuPred → List (List Nat)

/-- Bins of a CU with the splits that lead to it, in order; of an intra luma mode; of SAO parameters; and after the last CU of a CTU,
by whether the CTU ends its row and its picture. -/
opaque Config.cuBins : CodeCtx → Cu → List Bin
opaque Config.modeBins : CodeCtx → Area → Nat → List Bin
opaque Config.saoBins : CodeCtx → Sao → List Bin
opaque Config.tailBins : CodeCtx → Bool → Bool → List Bin

/-- The range table rangeTabLps[σ][0] of H.265 (R187). -/
opaque Config.rangeTabLps0 : Nat → Nat

/-- CABAC: the context states at the start of a slice by codec, PIC_TYPE and slice QP; the arithmetic coder at the start of a substream;
coding bins gives the context states, the coder and the bits written; the bits a coder holds, outstanding ones included; and the
bits of its flush. -/
opaque Config.initContexts : Nat → Nat → Nat → List (Nat × Nat)
opaque Config.arithStart : Nat → List Nat
opaque Config.encode : Nat → List (Nat × Nat) → List Nat → List Bin → List (Nat × Nat) × List Nat × List Bool
opaque Config.arithHeld : Nat → List Nat → Nat
opaque Config.flush : Nat → List Nat → List Bool

/-- A sample after deblocking, from the CUs and the reconstruction of the CTUs of the context: component and position. -/
opaque Config.deblock : CodeCtx → Nat → Nat × Nat → Nat

/-! ## The codec recommendations: what a decoder reads (log entries 40 and 62) -/

/-- A NAL unit of layer 0, beside the parameter sets in force (kind, id, octets) and the POC that its POC is relative to. -/
opaque Config.readNal : List (BitVec 8) → List (Nat × Nat × List (BitVec 8)) → Int → NalRead

/-- The CTUs of a slice in decoding order up to its end or to an error in its data, and whether its data ends as it must (R248). -/
opaque Config.sliceCtus : List (BitVec 8) → List (Nat × Nat × List (BitVec 8)) → List Nat × Bool

/-- A picture from its slices, each with the number of its CTUs that are decoded, and its references (POC, motion, lines of each
component): its motion, as later pictures use it, and its lines, of the coded size. -/
opaque Config.decodePicture : List (Nat × Nat × List (BitVec 8)) → List (List (BitVec 8) × Nat) →
  List (Int × List Nat × List (List (List Nat))) → List Nat × List (List (List Nat))

/-- The decoded picture hash of a component: type, bit depth, lines (R252). -/
opaque Config.planeHash : Nat → Nat → List (List Nat) → Nat

/-- An RTP payload carries a DONL field (R241). -/
opaque Config.carriesDonl : List (BitVec 8) → Bool

/-! ## What the decisions leave open (R185, R189) -/

/-- A mean that lies halfway between two values rounds up: sum and number of samples (R189). -/
opaque Config.meanUp : Int → Nat → Bool

/-- 8×8 Hadamard SATD from the sum of the absolute transformed differences: its normalisation. -/
opaque Config.satdOf : Nat → Nat

/-- The vector that an 8×8 CU of an AMVP option takes: the search of R185 names none for it; by reference, its place and the vectors of
the 16×16, 32×32 and 64×64 blocks it lies in. -/
opaque Config.vector8 : Nat → Area → List Mv → Mv

end Sys2Proof
end

