-- ==== Sys2Proof/Machine/Units.lean ====
section
/-! DEFINITION. The units, their type codes and the page map (spec/01 table of units, spec/02 R30, R32, R57). -/

namespace Sys2Proof.Machine

/-- The unit types of the page map, in the order of their type codes (1 to 29). -/
inductive UnitType where
  | dir | sys | time | pwr | sens | mgmt | intc | mtx | task | host | dma | pair | rope | refp | memc | lane
  | sdirx | sditx | ipin | eth | tsch | src | scal | chan | grp | chmb | look | dec | chk
deriving DecidableEq, Repr

/-- Unit type code (R57; the header comments of each chapter's register summary). -/
def UnitType.code : UnitType → Nat
  | .dir => 0x01 | .sys => 0x02 | .time => 0x03 | .pwr => 0x04 | .sens => 0x05 | .mgmt => 0x06 | .intc => 0x07
  | .mtx => 0x08 | .task => 0x09 | .host => 0x0A | .dma => 0x0B | .pair => 0x0C | .rope => 0x0D | .refp => 0x0E
  | .memc => 0x0F | .lane => 0x10 | .sdirx => 0x11 | .sditx => 0x12 | .ipin => 0x13 | .eth => 0x14 | .tsch => 0x15
  | .src => 0x16 | .scal => 0x17 | .chan => 0x18 | .grp => 0x19 | .chmb => 0x1A | .look => 0x1B | .dec => 0x1C
  | .chk => 0x1D

/-- First header page of a unit type (BAR0 page map, R30). -/
def UnitType.base : UnitType → Nat
  | .dir => 0x000 | .sys => 0x001 | .time => 0x002 | .pwr => 0x003 | .sens => 0x004 | .mgmt => 0x005 | .intc => 0x006
  | .mtx => 0x010 | .task => 0x011 | .host => 0x012 | .pair => 0x013 | .rope => 0x014 | .refp => 0x015 | .look => 0x016
  | .tsch => 0x017 | .memc => 0x020 | .lane => 0x030 | .sdirx => 0x060 | .sditx => 0x070 | .eth => 0x078
  | .ipin => 0x080 | .src => 0x0A0 | .scal => 0x0C0 | .chan => 0x0E0 | .grp => 0x120 | .chmb => 0x128 | .dec => 0x13A
  | .chk => 0x13C | .dma => 0x200

/-- Number of header pages of a unit type (the table of units in spec/01). -/
def UnitType.count : UnitType → Nat
  | .memc => 16 | .lane => 38 | .sdirx => 16 | .sditx => 2 | .eth => 8 | .ipin => 32 | .src => 32 | .scal => 32
  | .chan => 64 | .grp => 8 | .chmb => 18 | .dec => 2 | .chk => 8 | .dma => 256 | _ => 1

/-- Page index of instance `n` of a unit type (R30). -/
def UnitType.page (u : UnitType) (n : Nat) : Nat := u.base + n

/-- The unit type whose header page has index `p`, if any (the BAR0 page map). -/
def unitOf (p : Nat) : Option UnitType :=
  if p < 0x10 then
    match p with
    | 0 => some .dir | 1 => some .sys | 2 => some .time | 3 => some .pwr | 4 => some .sens | 5 => some .mgmt
    | 6 => some .intc | _ => none
  else if p < 0x18 then
    match p with
    | 0x10 => some .mtx | 0x11 => some .task | 0x12 => some .host | 0x13 => some .pair | 0x14 => some .rope
    | 0x15 => some .refp | 0x16 => some .look | _ => some .tsch
  else if p < 0x20 then none
  else if p < 0x30 then some .memc
  else if p < 0x56 then some .lane
  else if p < 0x60 then none
  else if p < 0x70 then some .sdirx
  else if p < 0x72 then some .sditx
  else if p < 0x78 then none
  else if p < 0x80 then some .eth
  else if p < 0xA0 then some .ipin
  else if p < 0xC0 then some .src
  else if p < 0xE0 then some .scal
  else if p < 0x120 then some .chan
  else if p < 0x128 then some .grp
  else if p < 0x13A then some .chmb
  else if p < 0x13C then some .dec
  else if p < 0x144 then some .chk
  else if p < 0x200 then none
  else if p < 0x300 then some .dma
  else none

/-- The owner of an extension page (R32): INTC owns 0x007 to 0x00F, TSCH owns the queue-table window. -/
def extensionOf (p : Nat) : Option UnitType :=
  if 7 ≤ p ∧ p ≤ 0xF then some .intc else if 0x400 ≤ p ∧ p ≤ 0x43F then some .tsch else none

/-- Instance number of a header page: its index less the first index of its unit (R30). -/
def instanceOf (p : Nat) : Nat :=
  match unitOf p with
  | some u => p - u.base
  | none => 0

end Sys2Proof.Machine
end

