-- ==== Sys2Proof/Machine/RegMap.lean ====
section
/-! DEFINITION. The register map: every register of every page, as the register summaries and field tables of spec/02 to
spec/23 list them (offset, how many and how far apart, which bits answer to which access code, the value at reset), and
a name for every field. `rw`, `sh` (the code RW-S), `w1c`, `w1s` and `ro` are masks of bits; bits in no mask are
write-only or reserved (R6, R7). -/

namespace Sys2Proof.Machine

/-- A field: register offset in its page, lowest bit, width (R5). -/
structure Fld where
  off : Nat
  lo : Nat
  w : Nat
deriving DecidableEq, Repr

/-- The active copy of an RW-S field: the offset + 0x800 (R6). -/
def Fld.act (f : Fld) : Fld := ⟨f.off + 0x800, f.lo, f.w⟩

/-- Field `f` of the n-th block of a series of blocks `stride` bytes apart. -/
def Fld.nth (f : Fld) (n stride : Nat) : Fld := ⟨f.off + n * stride, f.lo, f.w⟩

/-- A register (or a series of `count` of them, `stride` bytes apart) with its access masks and reset value. -/
structure RegRow where
  off : Nat
  count : Nat
  stride : Nat
  rw : Nat
  sh : Nat
  w1c : Nat
  w1s : Nat
  ro : Nat
  reset : Nat
deriving DecidableEq, Repr

/-- Registers of DIR (spec/02, R34). -/
def regRowsDIR : List RegRow :=
  [⟨0x100, 1, 0x4, 0x7, 0x0, 0x0, 0x0, 0x0, 0x0⟩,
   ⟨0x104, 1, 0x4, 0x0, 0x0, 0x0, 0x0, 0xFFFFFFFF, 0x0⟩,
   ⟨0x108, 1, 0x4, 0x0, 0x0, 0x0, 0x0, 0xFFFFFF, 0x10880⟩]

/-- Registers of SYS (spec/02, R50). -/
def regRowsSYS : List RegRow :=
  [⟨0x100, 1, 0x4, 0x0, 0x0, 0x0, 0x0, 0x0, 0x0⟩,
   ⟨0x104, 1, 0x4, 0x0, 0x0, 0x0, 0x0, 0x0, 0x0⟩,
   ⟨0x108, 1, 0x4, 0x0, 0x0, 0x0, 0x0, 0x1FF01FF, 0x0⟩,
   ⟨0x10C, 1, 0x4, 0x0, 0x0, 0x0, 0x0, 0x3FFFF, 0x0⟩,
   ⟨0x110, 1, 0x4, 0x0, 0x0, 0x0, 0x0, 0xFFFFFFFF, 0x0⟩,
   ⟨0x120, 1, 0x4, 0x0, 0x0, 0x0, 0x0, 0xFFFFFFFF, 0x0⟩,
   ⟨0x124, 1, 0x4, 0x0, 0x0, 0x0, 0x0, 0xFFFFFFFF, 0x0⟩,
   ⟨0x128, 1, 0x4, 0x0, 0x0, 0x0, 0x0, 0xFFFFFFFF, 0xE95D4C00⟩,
   ⟨0x12C, 1, 0x4, 0x0, 0x0, 0x0, 0x0, 0xFFFFFFFF, 0x3⟩,
   ⟨0x130, 1, 0x4, 0x0, 0x0, 0x0, 0x0, 0xFFFFFFFF, 0x0⟩,
   ⟨0x134, 1, 0x4, 0x0, 0x0, 0x0, 0x0, 0xFFFFFFFF, 0x38400⟩,
   ⟨0x138, 1, 0x4, 0x0, 0x0, 0x0, 0x0, 0x1F1F1F, 0x100212⟩,
   ⟨0x140, 1, 0x4, 0xF, 0x0, 0x0, 0x0, 0x0, 0x2⟩]

/-- Registers of TIME (spec/03, R64). -/
def regRowsTIME : List RegRow :=
  [⟨0x100, 1, 0x4, 0xFFFF03, 0x0, 0x0, 0x0, 0x0, 0x271000⟩,
   ⟨0x104, 1, 0x4, 0x0, 0x0, 0x0, 0x0, 0xFF01, 0x0⟩,
   ⟨0x108, 1, 0x4, 0x0, 0x0, 0x0, 0x0, 0x7, 0x0⟩,
   ⟨0x110, 1, 0x4, 0xFFFFFFFF, 0x0, 0x0, 0x0, 0x0, 0x0⟩,
   ⟨0x114, 1, 0x4, 0xFFFFFFFF, 0x0, 0x0, 0x0, 0x0, 0x0⟩,
   ⟨0x118, 1, 0x4, 0xFFFFFF, 0x0, 0x0, 0x0, 0x0, 0x0⟩,
   ⟨0x120, 1, 0x4, 0x0, 0x0, 0x0, 0x0, 0xFFFFFFFF, 0x0⟩,
   ⟨0x124, 1, 0x4, 0x0, 0x0, 0x0, 0x0, 0xFFFFFFFF, 0x0⟩,
   ⟨0x128, 1, 0x4, 0x0, 0x0, 0x0, 0x0, 0xFFFFFF, 0x0⟩,
   ⟨0x12C, 1, 0x4, 0x0, 0x0, 0x0, 0x0, 0xFFFFFFFF, 0x0⟩,
   ⟨0x130, 1, 0x4, 0xFFFFFFFF, 0x0, 0x0, 0x0, 0x0, 0x1000000⟩,
   ⟨0x134, 1, 0x4, 0xFFFFFFFF, 0x0, 0x0, 0x0, 0x0, 0x1000000⟩,
   ⟨0x138, 1, 0x4, 0xFFFFFFFF, 0x0, 0x0, 0x0, 0x0, 0x0⟩,
   ⟨0x13C, 1, 0x4, 0x0, 0x0, 0x0, 0x0, 0x0, 0x0⟩,
   ⟨0x140, 1, 0x4, 0x0, 0x0, 0x0, 0x0, 0xFFFFFFFF, 0x0⟩,
   ⟨0x150, 1, 0x4, 0x0, 0x0, 0xFFFF, 0x0, 0x0, 0x0⟩,
   ⟨0x154, 1, 0x4, 0x0, 0x0, 0xFFFF, 0x0, 0x0, 0x0⟩,
   ⟨0x200, 16, 0x40, 0x7777, 0x0, 0x0, 0x0, 0x0, 0x0⟩,
   ⟨0x204, 16, 0x40, 0x0, 0x0, 0x0, 0x0, 0xFFFF, 0x0⟩,
   ⟨0x208, 16, 0x40, 0xFFFFFFFF, 0x0, 0x0, 0x0, 0x0, 0x0⟩,
   ⟨0x20C, 16, 0x40, 0xFFFFFFFF, 0x0, 0x0, 0x0, 0x0, 0x0⟩,
   ⟨0x210, 16, 0x40, 0x0, 0x0, 0x0, 0x0, 0x0, 0x0⟩,
   ⟨0x214, 16, 0x40, 0xFFFFF, 0x0, 0x0, 0x0, 0x0, 0x1⟩,
   ⟨0x218, 16, 0x40, 0x3FF, 0x0, 0x0, 0x0, 0x0, 0x1⟩] ++
  [⟨0x21C, 16, 0x40, 0xFFFFFFFF, 0x0, 0x0, 0x0, 0x0, 0x0⟩,
   ⟨0x220, 16, 0x40, 0x0, 0x0, 0x0, 0x0, 0xFFFFFFFF, 0x0⟩,
   ⟨0x224, 16, 0x40, 0x0, 0x0, 0x0, 0x0, 0xFFFFFFFF, 0x0⟩,
   ⟨0x228, 16, 0x40, 0x0, 0x0, 0x0, 0x0, 0xFFFFFFFF, 0x0⟩,
   ⟨0x22C, 16, 0x40, 0x0, 0x0, 0x0, 0x0, 0xFFFFFFFF, 0x0⟩,
   ⟨0x230, 16, 0x40, 0x0, 0x0, 0x0, 0x0, 0xFFFFFFFF, 0x0⟩,
   ⟨0x234, 16, 0x40, 0x0, 0x0, 0x0, 0x0, 0xFFFFFFFF, 0x0⟩,
   ⟨0x600, 8, 0x20, 0x17, 0x0, 0x0, 0x0, 0x0, 0x2⟩,
   ⟨0x604, 8, 0x20, 0x0, 0x0, 0x3, 0x0, 0xFFFF0004, 0x0⟩,
   ⟨0x608, 8, 0x20, 0x0, 0x0, 0x0, 0x0, 0xFFFFFFFF, 0x0⟩,
   ⟨0x60C, 8, 0x20, 0x0, 0x0, 0x0, 0x0, 0xFFFFFFFF, 0x0⟩,
   ⟨0x610, 8, 0x20, 0x0, 0x0, 0x0, 0x0, 0xFFFFFF, 0x0⟩,
   ⟨0x614, 8, 0x20, 0x0, 0x0, 0x0, 0x0, 0xFFFFFFFF, 0x0⟩,
   ⟨0x700, 8, 0x10, 0xFFFFFF03, 0x0, 0x0, 0x0, 0x0, 0x3E800⟩,
   ⟨0x704, 8, 0x10, 0x0, 0x0, 0x0, 0x0, 0xFFFF0001, 0x0⟩]

/-- Registers of SDIRX (spec/04, R98). -/
def regRowsSDIRX : List RegRow :=
  [⟨0x100, 1, 0x4, 0x0, 0xFF010733, 0x0, 0x0, 0x0, 0x0⟩,
   ⟨0x104, 1, 0x4, 0x0, 0xFFFFFFFF, 0x0, 0x0, 0x0, 0x0⟩,
   ⟨0x108, 1, 0x4, 0x0, 0x0, 0x0, 0x0, 0x7FF, 0x0⟩,
   ⟨0x10C, 1, 0x4, 0x0, 0x0, 0x0, 0x0, 0xFFFF00FF, 0x0⟩,
   ⟨0x110, 1, 0x4, 0x0, 0x0, 0x0, 0x0, 0x3FFF1FFF, 0x0⟩,
   ⟨0x114, 1, 0x4, 0x0, 0x0, 0x0, 0x0, 0xFFFFFFFF, 0x0⟩,
   ⟨0x118, 1, 0x4, 0x0, 0x0, 0x0, 0x0, 0xFFFFFFFF, 0x0⟩,
   ⟨0x11C, 1, 0x4, 0x0, 0x0, 0x0, 0x0, 0xFFFFFFFF, 0x0⟩,
   ⟨0x120, 4, 0x4, 0x0, 0x0, 0x0, 0x0, 0xFFFFFFFF, 0x0⟩,
   ⟨0x140, 16, 0x4, 0x0, 0xFFFFF, 0x0, 0x0, 0x0, 0x0⟩]

/-- Registers of IPIN (spec/04, R105). -/
def regRowsIPIN : List RegRow :=
  [⟨0x100, 1, 0x4, 0x0, 0x7F3733, 0x0, 0x0, 0x0, 0x600000⟩,
   ⟨0x104, 2, 0xC, 0x0, 0xFFFF0007, 0x0, 0x0, 0x0, 0x0⟩,
   ⟨0x108, 2, 0xC, 0x0, 0xFFFFFFFF, 0x0, 0x0, 0x0, 0x0⟩,
   ⟨0x10C, 2, 0xC, 0x0, 0xFFFFFFFF, 0x0, 0x0, 0x0, 0x0⟩,
   ⟨0x11C, 1, 0x4, 0x0, 0xFFFFFFFF, 0x0, 0x0, 0x0, 0x0⟩,
   ⟨0x120, 1, 0x4, 0x0, 0xFFFFF, 0x0, 0x0, 0x0, 0x4E20⟩,
   ⟨0x124, 1, 0x4, 0x0, 0x1FFFF, 0x0, 0x0, 0x0, 0x186A0⟩,
   ⟨0x128, 1, 0x4, 0x0, 0x7FFFFF, 0x0, 0x0, 0x0, 0x10000⟩,
   ⟨0x12C, 1, 0x4, 0x0, 0x0, 0x0, 0x0, 0x7FF, 0x0⟩,
   ⟨0x130, 1, 0x4, 0x0, 0x0, 0x0, 0x0, 0xFFFF0003, 0x0⟩,
   ⟨0x134, 1, 0x4, 0x0, 0x0, 0x0, 0x0, 0xFFFFFFFF, 0x0⟩,
   ⟨0x138, 1, 0x4, 0x0, 0x0, 0x0, 0x0, 0xFFFFFFFF, 0x0⟩,
   ⟨0x13C, 1, 0x4, 0x0, 0x0, 0x0, 0x0, 0xFFFFFFFF, 0x0⟩,
   ⟨0x140, 1, 0x4, 0x0, 0x0, 0x0, 0x0, 0xFFFFFFFF, 0x0⟩]

/-- Registers of SRC (spec/05, R133). -/
def regRowsSRC : List RegRow :=
  [⟨0x100, 1, 0x4, 0x0, 0xF1F03, 0x0, 0x0, 0x0, 0x0⟩,
   ⟨0x120, 7, 0x20, 0x0, 0x3FF00F1, 0x0, 0x0, 0x0, 0x3FF0000⟩,
   ⟨0x124, 7, 0x20, 0x0, 0x1FFF1FFF, 0x0, 0x0, 0x0, 0x0⟩,
   ⟨0x128, 7, 0x20, 0x0, 0x1FFF1FFF, 0x0, 0x0, 0x0, 0x0⟩,
   ⟨0x12C, 7, 0x20, 0x0, 0xFFFFFFFF, 0x0, 0x0, 0x0, 0x0⟩,
   ⟨0x130, 7, 0x20, 0x0, 0xF, 0x0, 0x0, 0x0, 0x0⟩,
   ⟨0x134, 7, 0x20, 0x0, 0xFFFFFF, 0x0, 0x0, 0x0, 0x0⟩,
   ⟨0x138, 7, 0x20, 0x0, 0x3FFFFFFF, 0x0, 0x0, 0x0, 0x0⟩,
   ⟨0x13C, 7, 0x20, 0x0, 0xFFFF, 0x0, 0x0, 0x0, 0x0⟩,
   ⟨0x204, 7, 0x4, 0x0, 0x0, 0x0, 0x0, 0xFFFF, 0x0⟩,
   ⟨0x220, 1, 0x4, 0x0, 0x0, 0x0, 0x0, 0x0, 0x0⟩,
   ⟨0x224, 1, 0x4, 0x0, 0x0, 0x0, 0x0, 0xFEFEFE, 0x0⟩,
   ⟨0x300, 16, 0x10, 0x0, 0x3, 0x0, 0x0, 0x0, 0x0⟩,
   ⟨0x304, 16, 0x10, 0x0, 0x1FFF1FFF, 0x0, 0x0, 0x0, 0x0⟩,
   ⟨0x308, 16, 0x10, 0x0, 0x1FFF1FFF, 0x0, 0x0, 0x0, 0x0⟩,
   ⟨0x30C, 16, 0x10, 0x0, 0xFFFFFFFF, 0x0, 0x0, 0x0, 0x0⟩,
   ⟨0x400, 16, 0x4, 0x0, 0x0, 0x0, 0x0, 0xFFFFFFFF, 0x0⟩,
   ⟨0x440, 1, 0x4, 0x0, 0x0, 0x0, 0x0, 0xFF01FFFF, 0x0⟩,
   ⟨0x600, 1, 0x4, 0xFF33, 0x0, 0x0, 0x0, 0x0, 0x800⟩,
   ⟨0x604, 1, 0x4, 0x1FFF1FFF, 0x0, 0x0, 0x0, 0x0, 0x0⟩,
   ⟨0x608, 1, 0x4, 0x1FFF1FFF, 0x0, 0x0, 0x0, 0x0, 0x0⟩,
   ⟨0x60C, 1, 0x4, 0xFFFFFFFF, 0x0, 0x0, 0x0, 0x0, 0x0⟩,
   ⟨0x610, 1, 0x4, 0xF, 0x0, 0x0, 0x0, 0x0, 0x0⟩,
   ⟨0x614, 1, 0x4, 0xFFFFFF, 0x0, 0x0, 0x0, 0x0, 0x0⟩] ++
  [⟨0x618, 1, 0x4, 0x3FFFFFFF, 0x0, 0x0, 0x0, 0x0, 0x0⟩,
   ⟨0x61C, 1, 0x4, 0x0, 0x0, 0x0, 0x1, 0x0, 0x0⟩]

/-- Registers of SCAL (spec/05, R134). -/
def regRowsSCAL : List RegRow :=
  [⟨0x100, 1, 0x4, 0x0, 0xF0F031F, 0x0, 0x0, 0x0, 0x4040000⟩,
   ⟨0x104, 1, 0x4, 0x0, 0x1FFF1FFF, 0x0, 0x0, 0x0, 0x0⟩,
   ⟨0x108, 1, 0x4, 0x0, 0xFFFFFFFF, 0x0, 0x0, 0x0, 0x0⟩,
   ⟨0x10C, 1, 0x4, 0x0, 0xF, 0x0, 0x0, 0x0, 0x0⟩,
   ⟨0x110, 1, 0x4, 0x0, 0x0, 0x0, 0x0, 0x3FFFF, 0x0⟩,
   ⟨0x114, 1, 0x4, 0x0, 0x0, 0x0, 0x0, 0xFF03FFFF, 0x0⟩]

/-- Registers of CHAN (spec/06, R157). -/
def regRowsCHAN : List RegRow :=
  [⟨0x100, 1, 0x4, 0x0, 0x71071F, 0x0, 0x0, 0x0, 0x200000⟩,
   ⟨0x104, 1, 0x4, 0x0, 0x1F, 0x0, 0x0, 0x0, 0x6⟩,
   ⟨0x108, 1, 0x4, 0x0, 0xFF0F, 0x0, 0x0, 0x0, 0xC01⟩,
   ⟨0x10C, 1, 0x4, 0x0, 0x1, 0x0, 0x0, 0x0, 0x0⟩,
   ⟨0x110, 1, 0x4, 0x0, 0x1FF, 0x0, 0x0, 0x0, 0x0⟩,
   ⟨0x114, 1, 0x4, 0x0, 0xFFFFFFFF, 0x0, 0x0, 0x0, 0x0⟩,
   ⟨0x118, 1, 0x4, 0x0, 0xF, 0x0, 0x0, 0x0, 0x0⟩,
   ⟨0x120, 1, 0x4, 0x0, 0x0, 0x0, 0x0, 0x1FFFF, 0x0⟩,
   ⟨0x124, 1, 0x4, 0x0, 0x0, 0x0, 0x0, 0x1F, 0x0⟩,
   ⟨0x128, 1, 0x4, 0x0, 0x0, 0x0, 0x0, 0xFFFFFFFF, 0x0⟩,
   ⟨0x12C, 1, 0x4, 0x0, 0x0, 0x0, 0x0, 0xFFFFFFFF, 0x0⟩,
   ⟨0x130, 1, 0x4, 0x0, 0x0, 0x0, 0x0, 0xFFFFFFFF, 0x0⟩,
   ⟨0x134, 1, 0x4, 0x0, 0x0, 0x0, 0x0, 0xFFFFFFFF, 0x0⟩,
   ⟨0x138, 1, 0x4, 0x0, 0x0, 0x0, 0x0, 0x3FFFF, 0x0⟩,
   ⟨0x13C, 1, 0x4, 0x0, 0x0, 0x0, 0x0, 0xFFFFFFFF, 0x0⟩,
   ⟨0x140, 1, 0x4, 0x0, 0x0, 0x0, 0x0, 0xFFFFFFFF, 0x0⟩,
   ⟨0x144, 1, 0x4, 0x0, 0x0, 0x0, 0x0, 0xFFFFFFFF, 0x0⟩,
   ⟨0x148, 1, 0x4, 0x0, 0x0, 0x0, 0x0, 0xFFFFFFFF, 0x0⟩,
   ⟨0x180, 1, 0x4, 0x0, 0xFFF3, 0x0, 0x0, 0x0, 0x6610⟩,
   ⟨0x184, 1, 0x4, 0x0, 0xFFFFFF01, 0x0, 0x0, 0x0, 0x800⟩,
   ⟨0x188, 1, 0x4, 0x0, 0xFFFFFFFF, 0x0, 0x0, 0x0, 0x0⟩,
   ⟨0x18C, 1, 0x4, 0x0, 0xFFFFFFFF, 0x0, 0x0, 0x0, 0x0⟩,
   ⟨0x190, 1, 0x4, 0x0, 0xF, 0x0, 0x0, 0x0, 0x2⟩,
   ⟨0x194, 1, 0x4, 0x0, 0x3FFFFFF, 0x0, 0x0, 0x0, 0x2010101⟩] ++
  [⟨0x198, 6, 0x4, 0x0, 0xFFFFFFFF, 0x0, 0x0, 0x0, 0x0⟩,
   ⟨0x1B0, 1, 0x4, 0x0, 0xFFFFFFFF, 0x0, 0x0, 0x0, 0x0⟩,
   ⟨0x1B4, 1, 0x4, 0x0, 0x0, 0x0, 0x0, 0xFF03, 0x0⟩,
   ⟨0x1B8, 1, 0x4, 0x0, 0x0, 0x0, 0x0, 0xFFFFFFFF, 0x0⟩,
   ⟨0x1BC, 1, 0x4, 0x0, 0x0, 0x0, 0x0, 0xFFFFFFFF, 0x0⟩,
   ⟨0x200, 1, 0x4, 0x0, 0x7F3F3F, 0x0, 0x0, 0x0, 0x443300⟩,
   ⟨0x204, 1, 0x4, 0x0, 0xFFFFFF, 0x0, 0x0, 0x0, 0x0⟩,
   ⟨0x208, 1, 0x4, 0x0, 0x7F, 0x0, 0x0, 0x0, 0x8⟩,
   ⟨0x20C, 1, 0x4, 0x0, 0xFFFFFF, 0x0, 0x0, 0x0, 0x201030⟩,
   ⟨0x210, 1, 0x4, 0x0, 0xFFFFFFFF, 0x0, 0x0, 0x0, 0x0⟩,
   ⟨0x214, 1, 0x4, 0x0, 0xF, 0x0, 0x0, 0x0, 0x0⟩,
   ⟨0x220, 1, 0x4, 0x0, 0x0, 0x0, 0x0, 0x87FFFFFF, 0x0⟩,
   ⟨0x224, 1, 0x4, 0x0, 0x0, 0x0, 0x0, 0xFFFFFFFF, 0x0⟩,
   ⟨0x228, 1, 0x4, 0x0, 0x0, 0x0, 0x0, 0xFFFFFFFF, 0x0⟩,
   ⟨0x22C, 1, 0x4, 0x0, 0x0, 0x0, 0x0, 0xFFFFFFFF, 0x0⟩,
   ⟨0x230, 1, 0x4, 0x0, 0x0, 0x0, 0x0, 0xFFFFFFFF, 0x0⟩,
   ⟨0x234, 1, 0x4, 0x0, 0x0, 0x0, 0x0, 0xFFFFFFFF, 0x0⟩,
   ⟨0x238, 1, 0x4, 0x0, 0x0, 0x0, 0x0, 0xFFFFFFFF, 0x0⟩,
   ⟨0x23C, 1, 0x4, 0x0, 0x0, 0x0, 0x0, 0xFFFFFFFF, 0x0⟩,
   ⟨0x240, 3, 0x4, 0x0, 0x0, 0x0, 0x0, 0xFFFF, 0x1000⟩,
   ⟨0x24C, 1, 0x4, 0x0, 0x0, 0x0, 0x0, 0xFFFFFFFF, 0x0⟩,
   ⟨0x250, 1, 0x4, 0x0, 0x0, 0x0, 0x0, 0x3, 0x1⟩,
   ⟨0x400, 1, 0x4, 0x0, 0x7FFF, 0x0, 0x0, 0x0, 0x6024⟩,
   ⟨0x404, 1, 0x4, 0x0, 0x3FFF, 0x0, 0x0, 0x0, 0x578⟩] ++
  [⟨0x408, 1, 0x4, 0x0, 0xFFFFFFFF, 0x0, 0x0, 0x0, 0x0⟩,
   ⟨0x40C, 1, 0x4, 0x0, 0xFFFFFFFF, 0x0, 0x0, 0x0, 0x0⟩,
   ⟨0x420, 2, 0x20, 0x0, 0x1FFF, 0x0, 0x0, 0x0, 0x0⟩,
   ⟨0x424, 2, 0x20, 0x0, 0xFFFFFFFF, 0x0, 0x0, 0x0, 0x0⟩,
   ⟨0x428, 2, 0x20, 0x0, 0xFFFF, 0x0, 0x0, 0x0, 0x0⟩,
   ⟨0x42C, 2, 0x20, 0x0, 0xFFFFFFFF, 0x0, 0x0, 0x0, 0x0⟩,
   ⟨0x430, 2, 0x20, 0x0, 0xFFFFFFFF, 0x0, 0x0, 0x0, 0x0⟩,
   ⟨0x434, 2, 0x20, 0x0, 0xFFFFFFFF, 0x0, 0x0, 0x0, 0x0⟩,
   ⟨0x438, 2, 0x20, 0x0, 0xFF3FFFFF, 0x0, 0x0, 0x0, 0x40220000⟩,
   ⟨0x460, 1, 0x4, 0x0, 0x1FFF1FFF, 0x0, 0x0, 0x0, 0x10000100⟩,
   ⟨0x464, 1, 0x4, 0x0, 0xFFFF3FFF, 0x0, 0x0, 0x0, 0x70A⟩,
   ⟨0x468, 1, 0x4, 0x0, 0xFFFFF, 0x0, 0x0, 0x0, 0x2328⟩,
   ⟨0x46C, 1, 0x4, 0x0, 0xFFFF, 0x0, 0x0, 0x0, 0x1⟩,
   ⟨0x470, 8, 0x8, 0x0, 0x1FF1FFF, 0x0, 0x0, 0x0, 0x0⟩,
   ⟨0x474, 8, 0x8, 0x0, 0xFFFFFFFF, 0x0, 0x0, 0x0, 0x0⟩,
   ⟨0x4C0, 1, 0x4, 0x0, 0x0, 0x0, 0x0, 0xFFFFFFFF, 0x0⟩,
   ⟨0x4C4, 1, 0x4, 0x0, 0x0, 0x0, 0x0, 0xFFFFFFFF, 0x0⟩,
   ⟨0x4C8, 1, 0x4, 0x0, 0x0, 0x0, 0x0, 0xFFFFFFFF, 0x0⟩,
   ⟨0x4CC, 1, 0x4, 0x0, 0x0, 0x0, 0x0, 0x1F, 0x0⟩]

/-- Registers of CHMB (spec/06, R158). -/
def regRowsCHMB : List RegRow :=
  [⟨0x100, 1, 0x4, 0x0, 0x0, 0x0, 0x0, 0x7F3F03, 0x0⟩,
   ⟨0x104, 1, 0x4, 0x0, 0x0, 0x0, 0x0, 0xFFFFFFFF, 0x0⟩,
   ⟨0x108, 1, 0x4, 0x0, 0x0, 0x0, 0x0, 0xFFFFFFFF, 0x0⟩,
   ⟨0x10C, 1, 0x4, 0x0, 0x0, 0x0, 0x0, 0xFFFFFFFF, 0x0⟩,
   ⟨0x110, 1, 0x4, 0x0, 0x0, 0x0, 0x0, 0x3FF, 0x0⟩]

/-- Registers of LOOK (spec/06, R162). -/
def regRowsLOOK : List RegRow :=
  [⟨0x100, 1, 0x4, 0x0, 0x0, 0x0, 0x0, 0xFFFFFFFF, 0x0⟩,
   ⟨0x104, 1, 0x4, 0x0, 0x0, 0x0, 0x0, 0xFFFFFFFF, 0x0⟩,
   ⟨0x108, 1, 0x4, 0x0, 0x0, 0x0, 0x0, 0xFFFFFFFF, 0x0⟩]

/-- Registers of GRP (spec/08, R213). -/
def regRowsGRP : List RegRow :=
  [⟨0x100, 1, 0x4, 0x0, 0x1, 0x0, 0x0, 0x0, 0x0⟩,
   ⟨0x104, 1, 0x4, 0x0, 0xFFFFFF, 0x0, 0x0, 0x0, 0x0⟩,
   ⟨0x108, 1, 0x4, 0x0, 0x7FFF, 0x0, 0x0, 0x0, 0x7D0⟩,
   ⟨0x10C, 1, 0x4, 0x0, 0x0, 0x0, 0x0, 0xFFFFFFFF, 0x0⟩,
   ⟨0x110, 1, 0x4, 0x0, 0x0, 0x0, 0x0, 0xFFFFFFFF, 0x0⟩,
   ⟨0x114, 1, 0x4, 0x0, 0x0, 0x0, 0x0, 0xFFFFFF, 0x0⟩,
   ⟨0x118, 1, 0x4, 0x0, 0x0, 0x0, 0x0, 0xFFFFFFFF, 0x0⟩,
   ⟨0x11C, 1, 0x4, 0x0, 0x0, 0x0, 0x0, 0xFFFFFFFF, 0x0⟩]

/-- Registers of REFP (spec/09, R219). -/
def regRowsREFP : List RegRow :=
  [⟨0x100, 1, 0x4, 0x0, 0xFFFFFFFF, 0x0, 0x0, 0x0, 0x0⟩,
   ⟨0x104, 1, 0x4, 0x0, 0xF, 0x0, 0x0, 0x0, 0x0⟩,
   ⟨0x108, 1, 0x4, 0x0, 0x7FFF, 0x0, 0x0, 0x0, 0x0⟩,
   ⟨0x10C, 1, 0x4, 0x0, 0x1, 0x0, 0x0, 0x0, 0x0⟩,
   ⟨0x110, 1, 0x4, 0x0, 0x0, 0x0, 0x0, 0x7FFF, 0x0⟩,
   ⟨0x114, 1, 0x4, 0x0, 0x0, 0x0, 0x0, 0x7FFF, 0x0⟩,
   ⟨0x118, 1, 0x4, 0x0, 0x0, 0x0, 0x0, 0x3FFFFF, 0x0⟩,
   ⟨0x11C, 1, 0x4, 0x0, 0x0, 0x0, 0x0, 0x7FF, 0x0⟩,
   ⟨0x120, 1, 0x4, 0x0, 0x0, 0x0, 0x0, 0x807F1F3F, 0x0⟩,
   ⟨0x124, 1, 0x4, 0x0, 0x0, 0x0, 0x0, 0x3FFFF, 0x0⟩,
   ⟨0x130, 1, 0x4, 0x3F, 0x0, 0x0, 0x0, 0x0, 0x0⟩,
   ⟨0x134, 1, 0x4, 0x0, 0x0, 0x0, 0x0, 0xFFFFFFFF, 0x0⟩,
   ⟨0x138, 1, 0x4, 0x0, 0x0, 0x0, 0x0, 0xFFFFFFFF, 0x0⟩,
   ⟨0x13C, 1, 0x4, 0x0, 0x0, 0x0, 0x0, 0xFFFFF, 0x0⟩,
   ⟨0x200, 64, 0x4, 0x0, 0x0, 0x0, 0x0, 0x7F1F7FFF, 0x0⟩]

/-- Registers of DEC (spec/10, R246). -/
def regRowsDEC : List RegRow :=
  [⟨0x100, 1, 0x4, 0x0, 0xFFFFFF, 0x0, 0x0, 0x0, 0x4020⟩,
   ⟨0x104, 1, 0x4, 0x0, 0x107, 0x0, 0x0, 0x0, 0x0⟩,
   ⟨0x108, 1, 0x4, 0x0, 0x1FFF, 0x0, 0x0, 0x0, 0x100⟩,
   ⟨0x10C, 1, 0x4, 0x0, 0x1FF, 0x0, 0x0, 0x0, 0x10⟩,
   ⟨0x110, 1, 0x4, 0x0, 0xFFFFFFFF, 0x0, 0x0, 0x0, 0x0⟩,
   ⟨0x114, 1, 0x4, 0x0, 0xF, 0x0, 0x0, 0x0, 0x0⟩,
   ⟨0x118, 1, 0x4, 0x0, 0x7FFF, 0x0, 0x0, 0x0, 0x0⟩,
   ⟨0x11C, 1, 0x4, 0x0, 0x1FF, 0x0, 0x0, 0x0, 0x0⟩,
   ⟨0x120, 1, 0x4, 0x0, 0x0, 0x0, 0x0, 0xFFFFFFFF, 0x0⟩,
   ⟨0x124, 1, 0x4, 0x0, 0x0, 0x0, 0x0, 0xFFFFFFFF, 0x0⟩,
   ⟨0x128, 1, 0x4, 0x0, 0x0, 0x0, 0x0, 0x3FFFFF, 0x0⟩,
   ⟨0x12C, 1, 0x4, 0x0, 0x0, 0x0, 0x0, 0x1FFF1FFF, 0x0⟩,
   ⟨0x130, 1, 0x4, 0x0, 0x0, 0x0, 0x0, 0x3, 0x0⟩,
   ⟨0x134, 1, 0x4, 0x0, 0x0, 0x0, 0x0, 0xFFFFFFFF, 0x0⟩,
   ⟨0x138, 1, 0x4, 0x0, 0x0, 0x0, 0x0, 0xFFFFFFFF, 0x0⟩,
   ⟨0x13C, 1, 0x4, 0x0, 0x0, 0x0, 0x0, 0xFFFFFFFF, 0x0⟩,
   ⟨0x140, 1, 0x4, 0x0, 0x0, 0x0, 0x0, 0xFFFFFFF, 0x0⟩]

/-- Registers of SDITX (spec/10, R256). -/
def regRowsSDITX : List RegRow :=
  [⟨0x100, 1, 0x4, 0x0, 0x373, 0x0, 0x0, 0x0, 0x0⟩,
   ⟨0x104, 1, 0x4, 0x0, 0xFFFFFFFF, 0x0, 0x0, 0x0, 0x0⟩,
   ⟨0x108, 1, 0x4, 0x0, 0x0, 0x0, 0x0, 0x307, 0x0⟩,
   ⟨0x10C, 1, 0x4, 0x0, 0x0, 0x0, 0x0, 0xFFFFFFFF, 0x0⟩]

/-- Registers of PAIR (spec/11, R260). -/
def regRowsPAIR : List RegRow :=
  [⟨0x100, 1, 0x4, 0x7FFFF, 0x0, 0x0, 0x0, 0x0, 0xFF1E⟩,
   ⟨0x104, 1, 0x4, 0xFFFFFFFF, 0x0, 0x0, 0x0, 0x0, 0x0⟩,
   ⟨0x108, 1, 0x4, 0x1FFFF, 0x0, 0x0, 0x0, 0x0, 0xC8⟩,
   ⟨0x10C, 1, 0x4, 0xFFFFF, 0x0, 0x0, 0x0, 0x0, 0x2710⟩,
   ⟨0x110, 1, 0x4, 0x0, 0x0, 0x0, 0x0, 0x0, 0x0⟩,
   ⟨0x114, 1, 0x4, 0x0, 0x0, 0x0, 0x0, 0x7F7, 0x0⟩,
   ⟨0x118, 1, 0x4, 0x0, 0x0, 0x0, 0x0, 0xFFFFFFFF, 0x0⟩,
   ⟨0x11C, 1, 0x4, 0x0, 0x0, 0x0, 0x0, 0xFFFFFFFF, 0x0⟩,
   ⟨0x120, 1, 0x4, 0x0, 0x0, 0x0, 0x0, 0xFFFFFFFF, 0x0⟩,
   ⟨0x124, 1, 0x4, 0x0, 0x0, 0x0, 0x0, 0x1F, 0x0⟩,
   ⟨0x128, 1, 0x4, 0x0, 0x0, 0x0, 0x0, 0xFFFFFFFF, 0x0⟩,
   ⟨0x12C, 1, 0x4, 0x0, 0x0, 0x0, 0x0, 0xFFFFFFFF, 0x0⟩,
   ⟨0x130, 4, 0x4, 0x0, 0x0, 0x0, 0x0, 0xFFFFFFFF, 0x0⟩,
   ⟨0x140, 1, 0x4, 0x0, 0x0, 0x0, 0x0, 0x37F3F, 0x0⟩,
   ⟨0x144, 1, 0x4, 0x0, 0x0, 0x0, 0x0, 0xFFFFFFFF, 0x0⟩,
   ⟨0x148, 1, 0x4, 0x0, 0x0, 0x0, 0x0, 0xFFFFFFFF, 0x0⟩,
   ⟨0x14C, 1, 0x4, 0x0, 0x0, 0x0, 0x0, 0xFFFFFFFF, 0x0⟩,
   ⟨0x150, 1, 0x4, 0x0, 0x0, 0x0, 0x0, 0xFFFFFFFF, 0x0⟩,
   ⟨0x154, 1, 0x4, 0x0, 0x0, 0x0, 0x0, 0xFFFFFFFF, 0x0⟩,
   ⟨0x200, 8, 0x10, 0xFFFF3F0F, 0x0, 0x0, 0x0, 0x0, 0x0⟩,
   ⟨0x204, 8, 0x10, 0xFFFFFFFF, 0x0, 0x0, 0x0, 0x0, 0x0⟩,
   ⟨0x208, 8, 0x10, 0x0, 0x0, 0x0, 0x0, 0xFFFFFFFF, 0x0⟩,
   ⟨0x20C, 8, 0x10, 0x0, 0x0, 0x0, 0x0, 0xFFFFFFFF, 0x0⟩]

/-- Registers of ROPE (spec/12, R313). -/
def regRowsROPE : List RegRow :=
  [⟨0x100, 1, 0x4, 0xFFFFF17F, 0x0, 0x0, 0x0, 0x0, 0x64311F⟩,
   ⟨0x104, 1, 0x4, 0x0, 0x0, 0x0, 0x0, 0x7FFFF07, 0x0⟩,
   ⟨0x108, 1, 0x4, 0x0, 0x0, 0x0, 0x0, 0xFFFFFFFF, 0x0⟩,
   ⟨0x10C, 1, 0x4, 0x0, 0x0, 0x0, 0x0, 0xFFFFFFFF, 0x0⟩,
   ⟨0x110, 1, 0x4, 0x0, 0x0, 0x0, 0x0, 0x0, 0x0⟩,
   ⟨0x114, 1, 0x4, 0x0, 0x0, 0x0, 0x0, 0xFFFFFFFF, 0x0⟩,
   ⟨0x118, 1, 0x4, 0x0, 0x0, 0x0, 0x0, 0xFFFFFFFF, 0x0⟩,
   ⟨0x11C, 1, 0x4, 0x0, 0x0, 0x0, 0x0, 0xFFFFFFFF, 0x0⟩,
   ⟨0x120, 1, 0x4, 0x0, 0x0, 0x0, 0x0, 0xFFFF7FFF, 0x0⟩,
   ⟨0x124, 1, 0x4, 0x0, 0x0, 0x2, 0x0, 0x1, 0x0⟩,
   ⟨0x140, 16, 0x4, 0xFFFFFFFF, 0x0, 0x0, 0x0, 0x0, 0x0⟩,
   ⟨0x180, 16, 0x4, 0x0, 0x0, 0x0, 0x0, 0xFFFFFFFF, 0x0⟩]

/-- Registers of ETH (spec/13, R317). -/
def regRowsETH : List RegRow :=
  [⟨0x100, 1, 0x4, 0xFFF003F, 0x0, 0x0, 0x0, 0x0, 0x4⟩,
   ⟨0x104, 1, 0x4, 0xFFFFFFFF, 0x0, 0x0, 0x0, 0x0, 0x0⟩,
   ⟨0x108, 1, 0x4, 0xFFFF, 0x0, 0x0, 0x0, 0x0, 0x0⟩,
   ⟨0x10C, 1, 0x4, 0xFFFF, 0x0, 0x0, 0x0, 0x0, 0x64⟩,
   ⟨0x110, 1, 0x4, 0x0, 0x0, 0x0, 0x0, 0x77, 0x0⟩,
   ⟨0x114, 1, 0x4, 0x11FFFFF, 0x0, 0x0, 0x0, 0x0, 0x0⟩,
   ⟨0x118, 1, 0x4, 0x1FFF, 0x0, 0x0, 0x0, 0x0, 0x0⟩,
   ⟨0x120, 1, 0x4, 0x0, 0x0, 0x0, 0x0, 0xFFFFFFFF, 0x0⟩,
   ⟨0x124, 1, 0x4, 0x0, 0x0, 0x0, 0x0, 0xFFFFFFFF, 0x0⟩,
   ⟨0x128, 1, 0x4, 0x0, 0x0, 0x0, 0x0, 0xFFFFFFFF, 0x0⟩,
   ⟨0x130, 1, 0x4, 0x3, 0x0, 0x0, 0x0, 0x0, 0x0⟩,
   ⟨0x400, 128, 0x8, 0xFFFFFFFF, 0x0, 0x0, 0x0, 0x0, 0x0⟩,
   ⟨0x404, 128, 0x8, 0xFFFFFFFF, 0x0, 0x0, 0x0, 0x0, 0x0⟩]

/-- Registers of TSCH (spec/14, R342). -/
def regRowsTSCH : List RegRow :=
  [⟨0x100, 1, 0x4, 0x0, 0x0, 0x0, 0x0, 0x0, 0x0⟩,
   ⟨0x104, 1, 0x4, 0x1FFFFFFF, 0x0, 0x0, 0x0, 0x0, 0x0⟩,
   ⟨0x108, 1, 0x4, 0x7FFFFF, 0x0, 0x0, 0x0, 0x0, 0x0⟩,
   ⟨0x10C, 1, 0x4, 0x0, 0x0, 0x0, 0x0, 0xFFFFF, 0x0⟩,
   ⟨0x110, 1, 0x4, 0x0, 0x0, 0x0, 0x0, 0x3FFF, 0x0⟩,
   ⟨0x114, 1, 0x4, 0x0, 0x0, 0x0, 0x0, 0x3FFF, 0x0⟩,
   ⟨0x118, 1, 0x4, 0x0, 0x0, 0x0, 0x0, 0xFFFFFFFF, 0x0⟩,
   ⟨0x200, 8, 0x40, 0xFFFFFFFF, 0x0, 0x0, 0x0, 0x0, 0x0⟩,
   ⟨0x204, 8, 0x40, 0xF, 0x0, 0x0, 0x0, 0x0, 0x0⟩,
   ⟨0x208, 8, 0x40, 0xFFFFFFFF, 0x0, 0x0, 0x0, 0x0, 0x0⟩,
   ⟨0x20C, 8, 0x40, 0x0, 0x0, 0x0, 0x0, 0x0, 0x0⟩,
   ⟨0x210, 8, 0x40, 0x0, 0x0, 0x0, 0x0, 0x3FF0003, 0x0⟩,
   ⟨0x214, 8, 0x40, 0x0, 0x0, 0x0, 0x0, 0xFFFFFFFF, 0x0⟩,
   ⟨0x218, 8, 0x40, 0x0, 0x0, 0x0, 0x0, 0xFFFFFFFF, 0x0⟩,
   ⟨0x21C, 8, 0x40, 0x0, 0x0, 0x0, 0x0, 0xFFFFFFFF, 0x0⟩,
   ⟨0x220, 8, 0x40, 0x0, 0x0, 0x0, 0x0, 0xFFFFFFFF, 0x0⟩,
   ⟨0x224, 8, 0x40, 0x0, 0x0, 0x0, 0x0, 0xFFFFFFFF, 0x0⟩,
   ⟨0x228, 8, 0x40, 0x0, 0x0, 0x0, 0x0, 0xFFFFFFFF, 0x0⟩,
   ⟨0x22C, 8, 0x40, 0x0, 0x0, 0x0, 0x0, 0xFFFFFFFF, 0x0⟩,
   ⟨0x230, 8, 0x40, 0x0, 0x0, 0x0, 0x0, 0xFFFFFFFF, 0x0⟩,
   ⟨0x234, 8, 0x40, 0x0, 0x0, 0x0, 0x0, 0xFFFFFFFF, 0x0⟩,
   ⟨0x238, 8, 0x40, 0x0, 0x0, 0x0, 0x0, 0xFFFFFFFF, 0x0⟩,
   ⟨0x23C, 8, 0x40, 0x0, 0x0, 0x0, 0x0, 0xFFFFFFFF, 0x0⟩]

/-- Registers of QTAB (spec/14, R340). -/
def regRowsQTAB : List RegRow :=
  [⟨0x0, 8192, 0x20, 0x3FFF7776, 0x0, 0x0, 0x0, 0x9, 0x5EE0000⟩,
   ⟨0x4, 8192, 0x20, 0x1FFFFFFF, 0x0, 0x0, 0x0, 0x0, 0x0⟩,
   ⟨0x8, 8192, 0x20, 0x7FFFFF, 0x0, 0x0, 0x0, 0x0, 0x0⟩,
   ⟨0xC, 8192, 0x20, 0x3FFF, 0x0, 0x0, 0x0, 0x0, 0x0⟩,
   ⟨0x10, 8192, 0x20, 0x0, 0x0, 0x0, 0x0, 0xFFFF3F03, 0x0⟩,
   ⟨0x14, 8192, 0x20, 0x0, 0x0, 0x0, 0x0, 0xFFFFFF, 0x0⟩,
   ⟨0x18, 8192, 0x20, 0x0, 0x0, 0x0, 0x0, 0xFFFFFFFF, 0x0⟩,
   ⟨0x1C, 8192, 0x20, 0x0, 0x0, 0x0, 0x0, 0xFFFF, 0x0⟩]

/-- Registers of LANE (spec/15, R358). -/
def regRowsLANE : List RegRow :=
  [⟨0x100, 1, 0x4, 0x0, 0x0, 0x0, 0x0, 0x70F07, 0x0⟩,
   ⟨0x104, 1, 0x4, 0x3F, 0x0, 0x0, 0x0, 0x0, 0x30⟩,
   ⟨0x108, 1, 0x4, 0x0, 0x0, 0x0, 0x0, 0x1F0707, 0x0⟩,
   ⟨0x10C, 1, 0x4, 0x1FFF1FFF, 0x0, 0x0, 0x0, 0x0, 0x2000400⟩,
   ⟨0x110, 1, 0x4, 0x0, 0x0, 0x0, 0x0, 0x1FFF1FFF, 0x0⟩,
   ⟨0x114, 1, 0x4, 0xFF0F, 0x0, 0x0, 0x0, 0x0, 0x1804⟩,
   ⟨0x118, 1, 0x4, 0x0, 0x0, 0x0, 0x0, 0x0, 0x0⟩,
   ⟨0x120, 1, 0x4, 0x3F3F3F, 0x0, 0x0, 0x0, 0x0, 0x4000⟩,
   ⟨0x124, 1, 0x4, 0x0, 0x0, 0x0, 0x0, 0x1F, 0x10⟩,
   ⟨0x128, 3, 0x4, 0x0, 0x0, 0x0, 0x0, 0xFFFFFFFF, 0x0⟩,
   ⟨0x134, 1, 0x4, 0x0, 0x0, 0x0, 0x0, 0x1F, 0x10⟩,
   ⟨0x138, 3, 0x4, 0x0, 0x0, 0x0, 0x0, 0xFFFFFFFF, 0x0⟩,
   ⟨0x150, 1, 0x4, 0x3F03FF7F, 0x0, 0x0, 0x0, 0x0, 0x14010000⟩,
   ⟨0x154, 1, 0x4, 0x0, 0x0, 0x0, 0x0, 0x7, 0x0⟩,
   ⟨0x158, 1, 0x4, 0x0, 0x0, 0x0, 0x0, 0xFFFFFFFF, 0x0⟩,
   ⟨0x15C, 1, 0x4, 0x0, 0x0, 0x0, 0x0, 0xFFFF, 0x0⟩,
   ⟨0x160, 1, 0x4, 0x3FFFFF, 0x0, 0x0, 0x0, 0x0, 0x100⟩,
   ⟨0x164, 1, 0x4, 0x0, 0x0, 0x0, 0x0, 0xFFFF0001, 0x0⟩,
   ⟨0x168, 1, 0x4, 0x0, 0x0, 0x0, 0x0, 0xFFFFFFFF, 0x0⟩,
   ⟨0x16C, 1, 0x4, 0x0, 0x0, 0x0, 0x0, 0xFFFFFFFF, 0x0⟩,
   ⟨0x170, 1, 0x4, 0x0, 0x0, 0x0, 0x0, 0xFFFF, 0x0⟩]

/-- Registers of MEMC (spec/16, R374). -/
def regRowsMEMC : List RegRow :=
  [⟨0x100, 1, 0x4, 0x0, 0x0, 0x0, 0x0, 0xFFFF0F03, 0x0⟩,
   ⟨0x104, 1, 0x4, 0x0, 0x0, 0x0, 0x0, 0x11FFFFF, 0x0⟩,
   ⟨0x108, 1, 0x4, 0x0, 0x0, 0x0, 0x0, 0xF07F3, 0x0⟩,
   ⟨0x10C, 1, 0x4, 0x1F03, 0x0, 0x0, 0x0, 0x0, 0x402⟩,
   ⟨0x110, 1, 0x4, 0xF01, 0x0, 0x0, 0x0, 0x0, 0xA01⟩,
   ⟨0x114, 1, 0x4, 0xF1FFF, 0x0, 0x0, 0x0, 0x0, 0x40100⟩,
   ⟨0x118, 1, 0x4, 0x0, 0x0, 0x0, 0x0, 0xFFFF, 0x0⟩,
   ⟨0x11C, 1, 0x4, 0xFFFF, 0x0, 0x0, 0x0, 0x0, 0x3E8⟩,
   ⟨0x120, 1, 0x4, 0x0, 0x0, 0x0, 0x0, 0x0, 0x0⟩,
   ⟨0x140, 1, 0x4, 0x1FF01FF, 0x0, 0x0, 0x0, 0x0, 0x0⟩,
   ⟨0x144, 1, 0x4, 0x1FF, 0x0, 0x0, 0x0, 0x0, 0x0⟩,
   ⟨0x148, 1, 0x4, 0x1FF01FF, 0x0, 0x0, 0x0, 0x0, 0x0⟩,
   ⟨0x14C, 1, 0x4, 0x1FF01FF, 0x0, 0x0, 0x0, 0x0, 0x0⟩,
   ⟨0x150, 2, 0x4, 0xFFFFFFFF, 0x0, 0x0, 0x0, 0x0, 0x0⟩,
   ⟨0x158, 2, 0x4, 0xFFFFFFFF, 0x0, 0x0, 0x0, 0x0, 0x0⟩,
   ⟨0x160, 1, 0x4, 0x7F7F, 0x0, 0x0, 0x0, 0x0, 0x0⟩,
   ⟨0x180, 1, 0x4, 0x0, 0x0, 0x0, 0x0, 0x1FF01FF, 0x0⟩,
   ⟨0x184, 1, 0x4, 0x0, 0x0, 0x0, 0x0, 0x1FF, 0x0⟩,
   ⟨0x188, 1, 0x4, 0x0, 0x0, 0x0, 0x0, 0x1FF01FF, 0x0⟩,
   ⟨0x18C, 1, 0x4, 0x0, 0x0, 0x0, 0x0, 0x1FF01FF, 0x0⟩,
   ⟨0x190, 2, 0x4, 0x0, 0x0, 0x0, 0x0, 0xFFFFFFFF, 0x0⟩,
   ⟨0x198, 2, 0x4, 0x0, 0x0, 0x0, 0x0, 0xFFFFFFFF, 0x0⟩,
   ⟨0x1A0, 1, 0x4, 0x0, 0x0, 0x0, 0x0, 0x7F7F, 0x0⟩,
   ⟨0x1C0, 1, 0x4, 0x1FFFF03, 0x0, 0x0, 0x0, 0x0, 0x1000⟩] ++
  [⟨0x1C4, 1, 0x4, 0x0, 0x0, 0x0, 0x0, 0xFFFFFFFF, 0x0⟩,
   ⟨0x300, 16, 0x4, 0xFFFFFFFF, 0x0, 0x0, 0x0, 0x0, 0xFFFFFFFF⟩]

/-- Registers of MTX (spec/17, R391). -/
def regRowsMTX : List RegRow :=
  [⟨0x100, 1, 0x4, 0xFFFF, 0x0, 0x0, 0x0, 0x0, 0x800⟩,
   ⟨0x110, 1, 0x4, 0x0, 0x0, 0x0, 0x0, 0x33F0F07, 0x0⟩,
   ⟨0x114, 1, 0x4, 0x0, 0x0, 0x0, 0x0, 0xFFFFFFFF, 0x0⟩,
   ⟨0x118, 1, 0x4, 0x0, 0x0, 0x0, 0x0, 0xF, 0x0⟩,
   ⟨0x120, 1, 0x4, 0x3F, 0x0, 0x0, 0x0, 0x0, 0x0⟩,
   ⟨0x124, 1, 0x4, 0x0, 0x0, 0x0, 0x0, 0xFFFFFFFF, 0x0⟩,
   ⟨0x128, 1, 0x4, 0x0, 0x0, 0x0, 0x0, 0xFFFFFFFF, 0x0⟩,
   ⟨0x200, 4, 0x20, 0xFFFFFFFF, 0x0, 0x0, 0x0, 0x0, 0x0⟩,
   ⟨0x204, 4, 0x20, 0xF, 0x0, 0x0, 0x0, 0x0, 0x0⟩,
   ⟨0x208, 4, 0x20, 0xFFFFFFFF, 0x0, 0x0, 0x0, 0x0, 0x0⟩,
   ⟨0x20C, 4, 0x20, 0xF, 0x0, 0x0, 0x0, 0x0, 0x0⟩,
   ⟨0x210, 4, 0x20, 0x7FFF, 0x0, 0x0, 0x0, 0x0, 0x0⟩,
   ⟨0x214, 4, 0x20, 0x1, 0x0, 0x0, 0x2, 0x0, 0x0⟩]

/-- Registers of CHK (spec/17, R401). -/
def regRowsCHK : List RegRow :=
  [⟨0x100, 1, 0x4, 0xFF1F7F, 0x0, 0x0, 0x0, 0x0, 0x20⟩,
   ⟨0x104, 1, 0x4, 0xFFFFFFFF, 0x0, 0x0, 0x0, 0x0, 0x0⟩,
   ⟨0x108, 1, 0x4, 0xFFFFFFFF, 0x0, 0x0, 0x0, 0x0, 0x0⟩,
   ⟨0x10C, 1, 0x4, 0xFFFFFFFF, 0x0, 0x0, 0x0, 0x0, 0x0⟩,
   ⟨0x110, 1, 0x4, 0xFFFFFFFF, 0x0, 0x0, 0x0, 0x0, 0x0⟩,
   ⟨0x114, 1, 0x4, 0x0, 0x0, 0x0, 0x0, 0xFFFFFFFF, 0x0⟩,
   ⟨0x118, 1, 0x4, 0x0, 0x0, 0x0, 0x0, 0xFFFFFFFF, 0x0⟩,
   ⟨0x11C, 1, 0x4, 0x0, 0x0, 0x0, 0x0, 0xFFFFFFFF, 0x0⟩,
   ⟨0x120, 1, 0x4, 0x0, 0x0, 0x0, 0x0, 0xFFFFFFFF, 0x0⟩,
   ⟨0x124, 1, 0x4, 0x0, 0x0, 0x0, 0x0, 0xFFFFFFFF, 0x0⟩,
   ⟨0x128, 1, 0x4, 0x0, 0x0, 0x0, 0x0, 0xFFFFFFFF, 0x0⟩,
   ⟨0x12C, 1, 0x4, 0x0, 0x0, 0x0, 0x0, 0xFFFFFFFF, 0x0⟩]

/-- Registers of INTC (spec/18, R405). -/
def regRowsINTC : List RegRow :=
  [⟨0x100, 1, 0x4, 0x0, 0x0, 0x0, 0x0, 0xFFF0FFF, 0x0⟩,
   ⟨0x104, 1, 0x4, 0x0, 0x0, 0x0, 0x0, 0x0, 0x0⟩,
   ⟨0x108, 1, 0x4, 0x0, 0x0, 0x0, 0x0, 0x0, 0x0⟩,
   ⟨0x400, 73, 0x10, 0x1, 0x0, 0x0, 0x0, 0x0, 0x0⟩,
   ⟨0x404, 73, 0x10, 0x0, 0x0, 0x0, 0x0, 0xFFFFFFFF, 0x0⟩,
   ⟨0x408, 73, 0x10, 0x0, 0x0, 0x0, 0x0, 0x0, 0x0⟩,
   ⟨0x40C, 73, 0x10, 0x0, 0x0, 0x0, 0x0, 0x7FF3F1F, 0x7FF001F⟩]

/-- Registers of SRCTAB (spec/18, R404). -/
def regRowsSRCTAB : List RegRow :=
  [⟨0x0, 2048, 0x10, 0xF1, 0x0, 0x0, 0x0, 0x7F7FF700, 0x48000000⟩,
   ⟨0x4, 2048, 0x10, 0xFFFFFFFF, 0x0, 0x0, 0x0, 0x0, 0x0⟩,
   ⟨0x8, 2048, 0x10, 0xFFFFFFFF, 0x0, 0x0, 0x0, 0x0, 0x0⟩,
   ⟨0xC, 2048, 0x10, 0x1FF, 0x0, 0x0, 0x0, 0x0, 0x0⟩]

/-- Registers of INTCSUM (spec/18, R404). -/
def regRowsINTCSUM : List RegRow :=
  [⟨0x0, 64, 0x4, 0x0, 0x0, 0x0, 0x0, 0xFFFFFFFF, 0x0⟩,
   ⟨0x100, 64, 0x4, 0x0, 0x0, 0x0, 0x0, 0xFFFFFFFF, 0x0⟩]

/-- Registers of TASK (spec/19, R426). -/
def regRowsTASK : List RegRow :=
  [⟨0x100, 1, 0x4, 0xFFFFFFFF, 0x0, 0x0, 0x0, 0x0, 0x0⟩,
   ⟨0x104, 1, 0x4, 0xF, 0x0, 0x0, 0x0, 0x0, 0x0⟩,
   ⟨0x108, 1, 0x4, 0x1F, 0x0, 0x0, 0x0, 0x0, 0x0⟩,
   ⟨0x10C, 1, 0x4, 0x0, 0x0, 0x0, 0x0, 0x33FFF, 0x0⟩,
   ⟨0x110, 1, 0x4, 0x0, 0x0, 0x0, 0x0, 0xFFFF07FF, 0x0⟩,
   ⟨0x114, 1, 0x4, 0x0, 0x0, 0x0, 0x0, 0xFFFF, 0x0⟩,
   ⟨0x118, 1, 0x4, 0xFFFF, 0x0, 0x0, 0x0, 0x0, 0x0⟩,
   ⟨0x11C, 1, 0x4, 0x0, 0x0, 0x0, 0x0, 0xFFF773FF, 0x0⟩,
   ⟨0x120, 1, 0x4, 0x13FFFFF, 0x0, 0x0, 0x0, 0x0, 0x100000⟩,
   ⟨0x124, 1, 0x4, 0x0, 0x0, 0x0, 0x0, 0x0, 0x0⟩,
   ⟨0x128, 1, 0x4, 0x0, 0x0, 0x0, 0x0, 0x1FF01FF, 0x0⟩,
   ⟨0x12C, 1, 0x4, 0x0, 0x0, 0x0, 0x0, 0xFFFFFFFF, 0x0⟩,
   ⟨0x130, 1, 0x4, 0x0, 0x0, 0x0, 0x0, 0xFFFFFFFF, 0x0⟩,
   ⟨0x134, 1, 0x4, 0x0, 0x0, 0x0, 0x0, 0xFF03, 0x0⟩,
   ⟨0x138, 1, 0x4, 0x0, 0x0, 0x0, 0x0, 0x1FFFF, 0x0⟩]

/-- Registers of HOST (spec/20, R442). -/
def regRowsHOST : List RegRow :=
  [⟨0x100, 1, 0x4, 0x1, 0x0, 0x0, 0x0, 0x0, 0x0⟩,
   ⟨0x104, 1, 0x4, 0xFFFFFFFF, 0x0, 0x0, 0x0, 0x0, 0xC0000000⟩,
   ⟨0x108, 1, 0x4, 0xF, 0x0, 0x0, 0x0, 0x0, 0xF⟩,
   ⟨0x10C, 1, 0x4, 0x0, 0x0, 0x0, 0x0, 0x33F7, 0x0⟩,
   ⟨0x110, 1, 0x4, 0x0, 0x0, 0x0, 0x0, 0x0, 0x0⟩,
   ⟨0x114, 1, 0x4, 0x0, 0x0, 0x0, 0x0, 0xFF, 0x0⟩,
   ⟨0x400, 64, 0x10, 0xFFFFFFFF, 0x0, 0x0, 0x0, 0x0, 0x0⟩,
   ⟨0x404, 64, 0x10, 0xFFFFFFFF, 0x0, 0x0, 0x0, 0x0, 0x0⟩,
   ⟨0x408, 64, 0x10, 0xFFFFFFFF, 0x0, 0x0, 0x0, 0x0, 0x0⟩,
   ⟨0x40C, 64, 0x10, 0x1, 0x0, 0x0, 0x0, 0x0, 0x1⟩,
   ⟨0x800, 2, 0x4, 0x0, 0x0, 0x0, 0x0, 0xFFFFFFFF, 0x0⟩]

/-- Registers of DMA (spec/20, R446). -/
def regRowsDMA : List RegRow :=
  [⟨0x100, 1, 0x4, 0x3F1F0F, 0x0, 0x0, 0x0, 0x0, 0x400⟩,
   ⟨0x104, 1, 0x4, 0xFFFFFFFF, 0x0, 0x0, 0x0, 0x0, 0x0⟩,
   ⟨0x108, 1, 0x4, 0xFFFFFFFF, 0x0, 0x0, 0x0, 0x0, 0x0⟩,
   ⟨0x10C, 1, 0x4, 0xFFFFFFFF, 0x0, 0x0, 0x0, 0x0, 0x0⟩,
   ⟨0x110, 1, 0x4, 0xFFFFFFFF, 0x0, 0x0, 0x0, 0x0, 0x0⟩,
   ⟨0x114, 1, 0x4, 0xFFFFFFFF, 0x0, 0x0, 0x0, 0x0, 0x0⟩,
   ⟨0x118, 1, 0x4, 0x0, 0x0, 0x0, 0x0, 0xFFFFFFFF, 0x0⟩,
   ⟨0x11C, 1, 0x4, 0x0, 0x0, 0x0, 0x0, 0xFFFFFFFF, 0x0⟩,
   ⟨0x120, 1, 0x4, 0xFFFFFF, 0x0, 0x0, 0x0, 0x0, 0x0⟩,
   ⟨0x124, 1, 0x4, 0x0, 0x0, 0x0, 0x0, 0xFFFFFFFF, 0x0⟩,
   ⟨0x128, 1, 0x4, 0x0, 0x0, 0x0, 0x0, 0xFFFFFFFF, 0x0⟩]

/-- Registers of MGMT (spec/21, R475). -/
def regRowsMGMT : List RegRow :=
  [⟨0x100, 1, 0x4, 0x0, 0x0, 0x0, 0x0, 0x10F17, 0x0⟩,
   ⟨0x104, 1, 0x4, 0x0, 0x0, 0x0, 0x0, 0xFFFFFFFF, 0x0⟩,
   ⟨0x108, 1, 0x4, 0x0, 0x0, 0x0, 0x0, 0x7373, 0x0⟩,
   ⟨0x10C, 1, 0x4, 0x0, 0x0, 0x0, 0x0, 0xFFFFFFFF, 0x0⟩,
   ⟨0x110, 1, 0x4, 0x0, 0x0, 0x0, 0x0, 0x3FFFF, 0x0⟩,
   ⟨0x114, 1, 0x4, 0x0, 0x0, 0x0, 0x0, 0x3F03, 0x0⟩,
   ⟨0x120, 1, 0x4, 0xFFFFFFFF, 0x0, 0x0, 0x0, 0x0, 0x0⟩,
   ⟨0x124, 1, 0x4, 0xF, 0x0, 0x0, 0x0, 0x0, 0x0⟩,
   ⟨0x128, 1, 0x4, 0xFFFFFF, 0x0, 0x0, 0x0, 0x0, 0x0⟩,
   ⟨0x12C, 1, 0x4, 0x0, 0x0, 0x0, 0x0, 0x0, 0x0⟩,
   ⟨0x130, 1, 0x4, 0x1FFFFFF, 0x0, 0x0, 0x0, 0x0, 0x0⟩,
   ⟨0x134, 1, 0x4, 0x3FFFFFF, 0x0, 0x0, 0x0, 0x0, 0x0⟩,
   ⟨0x140, 1, 0x4, 0x8001FFFF, 0x0, 0x0, 0x0, 0x0, 0x3E8⟩,
   ⟨0x144, 1, 0x4, 0x0, 0x0, 0x0, 0x0, 0x0, 0x0⟩,
   ⟨0x150, 1, 0x4, 0x0, 0x0, 0x0, 0x0, 0xFFFFFFFF, 0x0⟩,
   ⟨0x154, 1, 0x4, 0x0, 0x0, 0x0, 0x0, 0xFFFFFFFF, 0x0⟩,
   ⟨0x158, 1, 0x4, 0x0, 0x0, 0x0, 0x0, 0xFFFFFFFF, 0x0⟩,
   ⟨0x15C, 1, 0x4, 0xFF07, 0x0, 0x0, 0x0, 0x0, 0x1003⟩,
   ⟨0x160, 1, 0x4, 0x0, 0x0, 0x0, 0x0, 0xFFFFFFFF, 0x0⟩]

/-- Registers of SENS (spec/21, R469). -/
def regRowsSENS : List RegRow :=
  [⟨0x100, 1, 0x4, 0x0, 0x0, 0x0, 0x0, 0xFFFF, 0x0⟩,
   ⟨0x110, 12, 0x10, 0x0, 0x0, 0x0, 0x0, 0x1FFFF, 0x0⟩,
   ⟨0x114, 12, 0x10, 0x0, 0x0, 0x0, 0x0, 0xFFFFFFFF, 0x0⟩,
   ⟨0x118, 12, 0x10, 0xFFFF, 0x0, 0x0, 0x0, 0x0, 0x320⟩,
   ⟨0x200, 10, 0x10, 0x0, 0x0, 0x0, 0x0, 0x1FFFF, 0x0⟩,
   ⟨0x204, 10, 0x10, 0x0, 0x0, 0x0, 0x0, 0xFFFFFFFF, 0x0⟩,
   ⟨0x208, 10, 0x10, 0xFFFFFFFF, 0x0, 0x0, 0x0, 0x0, 0x0⟩,
   ⟨0x300, 1, 0x4, 0x0, 0x0, 0x0, 0x0, 0x0, 0x0⟩]

/-- Registers of PWR (spec/23, R494). -/
def regRowsPWR : List RegRow :=
  [⟨0x100, 1, 0x4, 0x1FFFF, 0x0, 0x0, 0x0, 0x0, 0x3E8⟩,
   ⟨0x104, 1, 0x4, 0x0, 0x0, 0x0, 0x0, 0x1FF0003, 0x0⟩,
   ⟨0x108, 1, 0x4, 0x0, 0x0, 0x0, 0x0, 0x3FFFFF, 0x0⟩,
   ⟨0x10C, 1, 0x4, 0x0, 0x0, 0x0, 0x0, 0xFFF, 0x0⟩,
   ⟨0x110, 1, 0x4, 0x0, 0x0, 0x0, 0x0, 0xFFFF, 0x0⟩,
   ⟨0x114, 1, 0x4, 0x3FF, 0x0, 0x0, 0x0, 0x0, 0x14⟩]

namespace F

def PAGE_ID : Fld := ⟨0x0, 0, 32⟩
def PAGE_STATE : Fld := ⟨0x4, 0, 3⟩
def PAGE_CTRL : Fld := ⟨0x8, 0, 32⟩
def PAGE_CTRL_ENABLE : Fld := ⟨0x8, 0, 1⟩
def PAGE_CTRL_DRAIN : Fld := ⟨0x8, 1, 1⟩
def PAGE_REASON : Fld := ⟨0xC, 0, 32⟩
def PAGE_REASON_CODE : Fld := ⟨0xC, 0, 16⟩
def PAGE_REASON_COUNT : Fld := ⟨0xC, 16, 8⟩
def PAGE_REASON_STICKY : Fld := ⟨0xC, 31, 1⟩
def PAGE_CAP0 : Fld := ⟨0x10, 0, 32⟩
def PAGE_CAP1 : Fld := ⟨0x14, 0, 32⟩
def PAGE_CAP2 : Fld := ⟨0x18, 0, 32⟩
def PAGE_CAP3 : Fld := ⟨0x1C, 0, 32⟩
def INT_STATUS : Fld := ⟨0x20, 0, 32⟩
def INT_ENABLE : Fld := ⟨0x24, 0, 32⟩
def INT_SET : Fld := ⟨0x28, 0, 32⟩
def INT_RAW : Fld := ⟨0x2C, 0, 32⟩
def SHADOW_STATUS : Fld := ⟨0x30, 0, 32⟩
def DIRTY : Fld := ⟨0x30, 0, 1⟩
def ARMED : Fld := ⟨0x30, 1, 1⟩
def PENDING : Fld := ⟨0x30, 2, 1⟩
def WAITING : Fld := ⟨0x30, 3, 1⟩
def WAIT_COUNT : Fld := ⟨0x30, 4, 4⟩
def COMMIT_SEQ : Fld := ⟨0x30, 8, 8⟩
def LAST_RESULT : Fld := ⟨0x30, 16, 3⟩
def COMMIT_CTRL : Fld := ⟨0x34, 0, 32⟩
def COMMIT_GROUP : Fld := ⟨0x34, 8, 4⟩
def PAGE_OP : Fld := ⟨0x60, 0, 32⟩
def PAGE_OP_KIND : Fld := ⟨0x60, 0, 4⟩
def PAGE_OP_RESULT : Fld := ⟨0x60, 4, 3⟩
def PAGE_OP_SEQ : Fld := ⟨0x60, 8, 8⟩

/-! Fields of DIR. -/
def DIR.DIR_WINDOW : Fld := ⟨0x100, 0, 32⟩
def DIR.DIR_WINDOW_SELECT : Fld := ⟨0x100, 0, 3⟩
def DIR.DIR_GENERATION : Fld := ⟨0x104, 0, 32⟩
def DIR.DIR_GENERATION_COUNT : Fld := ⟨0x104, 0, 32⟩
def DIR.DIR_MEMBER : Fld := ⟨0x108, 0, 32⟩
def DIR.DIR_MEMBER_MEMBER : Fld := ⟨0x108, 0, 16⟩
def DIR.DIR_MEMBER_STEPPING : Fld := ⟨0x108, 16, 8⟩
def DIR.intCHANGED : Nat := 8

/-! Fields of SYS. -/
def SYS.COMMIT_REQ : Fld := ⟨0x100, 0, 32⟩
def SYS.COMMIT_REQ_GROUP_MASK : Fld := ⟨0x100, 0, 8⟩
def SYS.COMMIT_REQ_DEVICE : Fld := ⟨0x100, 8, 1⟩
def SYS.COMMIT_ABORT : Fld := ⟨0x104, 0, 32⟩
def SYS.COMMIT_ABORT_GROUP_MASK : Fld := ⟨0x104, 0, 8⟩
def SYS.COMMIT_ABORT_DEVICE : Fld := ⟨0x104, 8, 1⟩
def SYS.COMMIT_STATUS : Fld := ⟨0x108, 0, 32⟩
def SYS.COMMIT_STATUS_REQUESTED : Fld := ⟨0x108, 0, 9⟩
def SYS.COMMIT_STATUS_IN_PROGRESS : Fld := ⟨0x108, 16, 9⟩
def SYS.COMMIT_RESULT : Fld := ⟨0x10C, 0, 32⟩
def SYS.COMMIT_RESULT_RESULT : Fld := ⟨0x10C, 0, 18⟩
def SYS.COMMIT_REASON : Fld := ⟨0x110, 0, 32⟩
def SYS.COMMIT_REASON_CODE : Fld := ⟨0x110, 0, 16⟩
def SYS.COMMIT_REASON_GROUP : Fld := ⟨0x110, 16, 4⟩
def SYS.COMMIT_REASON_PAGE : Fld := ⟨0x110, 20, 12⟩
def SYS.ADM_CHMB_SUM_LO : Fld := ⟨0x120, 0, 32⟩
def SYS.ADM_CHMB_SUM_LO_SUM : Fld := ⟨0x120, 0, 32⟩
def SYS.ADM_CHMB_SUM_HI : Fld := ⟨0x124, 0, 32⟩
def SYS.ADM_CHMB_SUM_HI_SUM : Fld := ⟨0x124, 0, 32⟩
def SYS.ADM_CHMB_LIMIT_LO : Fld := ⟨0x128, 0, 32⟩
def SYS.ADM_CHMB_LIMIT_LO_LIMIT : Fld := ⟨0x128, 0, 32⟩
def SYS.ADM_CHMB_LIMIT_HI : Fld := ⟨0x12C, 0, 32⟩
def SYS.ADM_CHMB_LIMIT_HI_LIMIT : Fld := ⟨0x12C, 0, 32⟩
def SYS.ADM_MEM_SUM : Fld := ⟨0x130, 0, 32⟩
def SYS.ADM_MEM_SUM_SUM : Fld := ⟨0x130, 0, 32⟩
def SYS.ADM_MEM_BUDGET : Fld := ⟨0x134, 0, 32⟩
def SYS.ADM_MEM_BUDGET_BUDGET : Fld := ⟨0x134, 0, 32⟩
def SYS.ADM_RESOURCES : Fld := ⟨0x138, 0, 32⟩
def SYS.ADM_RESOURCES_CHMB_IN_SERVICE : Fld := ⟨0x138, 0, 5⟩
def SYS.ADM_RESOURCES_RESERVE_HELD : Fld := ⟨0x138, 8, 5⟩
def SYS.ADM_RESOURCES_MEMC_IN_SERVICE : Fld := ⟨0x138, 16, 5⟩
def SYS.CHMB_RESERVE : Fld := ⟨0x140, 0, 32⟩
def SYS.CHMB_RESERVE_RESERVE : Fld := ⟨0x140, 0, 4⟩

/-! Fields of TIME. -/
def TIME.TIME_CFG : Fld := ⟨0x100, 0, 32⟩
def TIME.TIME_CFG_LOAD_MODE : Fld := ⟨0x100, 0, 1⟩
def TIME.TIME_CFG_PPS_OUT_EN : Fld := ⟨0x100, 1, 1⟩
def TIME.TIME_CFG_PPS_WIDTH : Fld := ⟨0x100, 8, 16⟩
def TIME.CLK_STATUS : Fld := ⟨0x104, 0, 32⟩
def TIME.CLK_STATUS_ROOT_LOCK : Fld := ⟨0x104, 0, 1⟩
def TIME.CLK_STATUS_ROOT_MULT : Fld := ⟨0x104, 8, 8⟩
def TIME.TIME_STATUS : Fld := ⟨0x108, 0, 32⟩
def TIME.TIME_STATUS_RUNNING : Fld := ⟨0x108, 0, 1⟩
def TIME.TIME_STATUS_SLEW_ACTIVE : Fld := ⟨0x108, 1, 1⟩
def TIME.TIME_STATUS_PPS_SEEN : Fld := ⟨0x108, 2, 1⟩
def TIME.LOAD_NS_LO : Fld := ⟨0x110, 0, 32⟩
def TIME.LOAD_NS_HI : Fld := ⟨0x114, 0, 32⟩
def TIME.LOAD_FRAC : Fld := ⟨0x118, 0, 32⟩
def TIME.LOAD_FRAC_FRAC : Fld := ⟨0x118, 0, 24⟩
def TIME.NOW_NS_LO : Fld := ⟨0x120, 0, 32⟩
def TIME.NOW_NS_HI : Fld := ⟨0x124, 0, 32⟩
def TIME.NOW_FRAC : Fld := ⟨0x128, 0, 32⟩
def TIME.NOW_FRAC_FRAC : Fld := ⟨0x128, 0, 24⟩
def TIME.COMPAT_NOW : Fld := ⟨0x12C, 0, 32⟩
def TIME.INCR : Fld := ⟨0x130, 0, 32⟩
def TIME.INCR_INCR : Fld := ⟨0x130, 0, 32⟩
def TIME.SLEW_INCR : Fld := ⟨0x134, 0, 32⟩
def TIME.SLEW_INCR_SLEW_INCR : Fld := ⟨0x134, 0, 32⟩
def TIME.SLEW_TICKS : Fld := ⟨0x138, 0, 32⟩
def TIME.SLEW_CTRL : Fld := ⟨0x13C, 0, 32⟩
def TIME.SLEW_CTRL_START : Fld := ⟨0x13C, 0, 1⟩
def TIME.SLEW_REMAIN : Fld := ⟨0x140, 0, 32⟩
def TIME.CMP_FIRED : Fld := ⟨0x150, 0, 32⟩
def TIME.CMP_FIRED_FIRED : Fld := ⟨0x150, 0, 16⟩
def TIME.CMP_LATE : Fld := ⟨0x154, 0, 32⟩
def TIME.CMP_LATE_LATE : Fld := ⟨0x154, 0, 16⟩
def TIME.CMP_CTRL (n : Nat) : Fld := ⟨0x200 + n * 0x40, 0, 32⟩
def TIME.CMP_CTRL_ARM (n : Nat) : Fld := ⟨0x200 + n * 0x40, 0, 1⟩
def TIME.CMP_CTRL_MODE (n : Nat) : Fld := ⟨0x200 + n * 0x40, 1, 2⟩
def TIME.CMP_CTRL_ACTION (n : Nat) : Fld := ⟨0x200 + n * 0x40, 4, 3⟩
def TIME.CMP_CTRL_TRIG (n : Nat) : Fld := ⟨0x200 + n * 0x40, 8, 3⟩
def TIME.CMP_CTRL_GROUP (n : Nat) : Fld := ⟨0x200 + n * 0x40, 12, 3⟩
def TIME.CMP_STATUS (n : Nat) : Fld := ⟨0x204 + n * 0x40, 0, 32⟩
def TIME.CMP_STATUS_FIRE_COUNT (n : Nat) : Fld := ⟨0x204 + n * 0x40, 0, 16⟩
def TIME.TGT_NS_LO (n : Nat) : Fld := ⟨0x208 + n * 0x40, 0, 32⟩
def TIME.TGT_NS_HI (n : Nat) : Fld := ⟨0x20C + n * 0x40, 0, 32⟩
def TIME.TGT32 (n : Nat) : Fld := ⟨0x210 + n * 0x40, 0, 32⟩
def TIME.RATE_NUM (n : Nat) : Fld := ⟨0x214 + n * 0x40, 0, 32⟩
def TIME.RATE_NUM_NUM (n : Nat) : Fld := ⟨0x214 + n * 0x40, 0, 20⟩
def TIME.RATE_DEN (n : Nat) : Fld := ⟨0x218 + n * 0x40, 0, 32⟩
def TIME.RATE_DEN_DEN (n : Nat) : Fld := ⟨0x218 + n * 0x40, 0, 10⟩
def TIME.OFFSET (n : Nat) : Fld := ⟨0x21C + n * 0x40, 0, 32⟩
def TIME.LATE_NS_LO (n : Nat) : Fld := ⟨0x220 + n * 0x40, 0, 32⟩
def TIME.LATE_NS_HI (n : Nat) : Fld := ⟨0x224 + n * 0x40, 0, 32⟩
def TIME.FIRE_INDEX_LO (n : Nat) : Fld := ⟨0x228 + n * 0x40, 0, 32⟩
def TIME.FIRE_INDEX_HI (n : Nat) : Fld := ⟨0x22C + n * 0x40, 0, 32⟩
def TIME.FIRE_TIME_LO (n : Nat) : Fld := ⟨0x230 + n * 0x40, 0, 32⟩
def TIME.FIRE_TIME_HI (n : Nat) : Fld := ⟨0x234 + n * 0x40, 0, 32⟩
def TIME.CAP_CTRL (n : Nat) : Fld := ⟨0x600 + n * 0x20, 0, 32⟩
def TIME.CAP_CTRL_EN (n : Nat) : Fld := ⟨0x600 + n * 0x20, 0, 1⟩
def TIME.CAP_CTRL_EDGE (n : Nat) : Fld := ⟨0x600 + n * 0x20, 1, 2⟩
def TIME.CAP_CTRL_SOURCE (n : Nat) : Fld := ⟨0x600 + n * 0x20, 4, 1⟩
def TIME.CAP_STATUS (n : Nat) : Fld := ⟨0x604 + n * 0x20, 0, 32⟩
def TIME.CAP_STATUS_VALID (n : Nat) : Fld := ⟨0x604 + n * 0x20, 0, 1⟩
def TIME.CAP_STATUS_OVERRUN (n : Nat) : Fld := ⟨0x604 + n * 0x20, 1, 1⟩
def TIME.CAP_STATUS_LAST_RISING (n : Nat) : Fld := ⟨0x604 + n * 0x20, 2, 1⟩
def TIME.CAP_STATUS_EDGE_COUNT (n : Nat) : Fld := ⟨0x604 + n * 0x20, 16, 16⟩
def TIME.CAP_NS_LO (n : Nat) : Fld := ⟨0x608 + n * 0x20, 0, 32⟩
def TIME.CAP_NS_HI (n : Nat) : Fld := ⟨0x60C + n * 0x20, 0, 32⟩
def TIME.CAP_FRAC (n : Nat) : Fld := ⟨0x610 + n * 0x20, 0, 32⟩
def TIME.CAP_FRAC_FRAC (n : Nat) : Fld := ⟨0x610 + n * 0x20, 0, 24⟩
def TIME.CAP_COMPAT (n : Nat) : Fld := ⟨0x614 + n * 0x20, 0, 32⟩
def TIME.TRIG_CTRL (n : Nat) : Fld := ⟨0x700 + n * 0x10, 0, 32⟩
def TIME.TRIG_CTRL_EN (n : Nat) : Fld := ⟨0x700 + n * 0x10, 0, 1⟩
def TIME.TRIG_CTRL_POLARITY (n : Nat) : Fld := ⟨0x700 + n * 0x10, 1, 1⟩
def TIME.TRIG_CTRL_WIDTH (n : Nat) : Fld := ⟨0x700 + n * 0x10, 8, 24⟩
def TIME.TRIG_STATUS (n : Nat) : Fld := ⟨0x704 + n * 0x10, 0, 32⟩
def TIME.TRIG_STATUS_ACTIVE (n : Nat) : Fld := ⟨0x704 + n * 0x10, 0, 1⟩
def TIME.TRIG_STATUS_OVERLAP_COUNT (n : Nat) : Fld := ⟨0x704 + n * 0x10, 16, 16⟩
def TIME.intLOADED : Nat := 8
def TIME.intCMP : Nat := 9
def TIME.intLATE : Nat := 10
def TIME.intCAPTURED : Nat := 11
def TIME.intCAP_OVERRUN : Nat := 12
def TIME.intSLEW_DONE : Nat := 13
def TIME.intTRIG_OVERLAP : Nat := 14

/-! Fields of SDIRX. -/
def SDIRX.SDI_CFG : Fld := ⟨0x100, 0, 32⟩
def SDIRX.SDI_CFG_LINKS : Fld := ⟨0x100, 0, 2⟩
def SDIRX.SDI_CFG_GEOM : Fld := ⟨0x100, 4, 2⟩
def SDIRX.SDI_CFG_INDEX_GROUP : Fld := ⟨0x100, 8, 3⟩
def SDIRX.SDI_CFG_ANC_EN : Fld := ⟨0x100, 16, 1⟩
def SDIRX.SDI_CFG_ANC_RING : Fld := ⟨0x100, 24, 8⟩
def SDIRX.ALIGN_OFFSET : Fld := ⟨0x104, 0, 32⟩
def SDIRX.LS_LINES : Fld := ⟨0x108, 0, 32⟩
def SDIRX.LS_LINES_LINES : Fld := ⟨0x108, 0, 11⟩
def SDIRX.LOCK_STATUS : Fld := ⟨0x10C, 0, 32⟩
def SDIRX.LOCK_STATUS_LOCKED : Fld := ⟨0x10C, 0, 1⟩
def SDIRX.LOCK_STATUS_RATE : Fld := ⟨0x10C, 1, 3⟩
def SDIRX.LOCK_STATUS_LINK_LOCK : Fld := ⟨0x10C, 4, 4⟩
def SDIRX.LOCK_STATUS_SKEW_NS : Fld := ⟨0x10C, 16, 16⟩
def SDIRX.DETECT : Fld := ⟨0x110, 0, 32⟩
def SDIRX.DETECT_LINES : Fld := ⟨0x110, 0, 13⟩
def SDIRX.DETECT_SAMPLES : Fld := ⟨0x110, 16, 14⟩
def SDIRX.PHASE : Fld := ⟨0x114, 0, 32⟩
def SDIRX.LAST_INDEX_LO : Fld := ⟨0x118, 0, 32⟩
def SDIRX.LAST_INDEX_HI : Fld := ⟨0x11C, 0, 32⟩
def SDIRX.VPID (n : Nat) : Fld := ⟨0x120 + n * 0x4, 0, 32⟩
def SDIRX.ANC_FILTER (n : Nat) : Fld := ⟨0x140 + n * 0x4, 0, 32⟩
def SDIRX.ANC_FILTER_DID (n : Nat) : Fld := ⟨0x140 + n * 0x4, 0, 8⟩
def SDIRX.ANC_FILTER_SDID (n : Nat) : Fld := ⟨0x140 + n * 0x4, 8, 8⟩
def SDIRX.ANC_FILTER_SDID_ANY (n : Nat) : Fld := ⟨0x140 + n * 0x4, 16, 1⟩
def SDIRX.ANC_FILTER_EN (n : Nat) : Fld := ⟨0x140 + n * 0x4, 17, 1⟩
def SDIRX.ANC_FILTER_SPACE (n : Nat) : Fld := ⟨0x140 + n * 0x4, 18, 2⟩
def SDIRX.intLOCKED : Nat := 8
def SDIRX.intLOCK_LOST : Nat := 9
def SDIRX.intFORMAT_MISMATCH : Nat := 10
def SDIRX.intPIC_ABSENT : Nat := 11
def SDIRX.intSAMPLES_MISSING : Nat := 12
def SDIRX.intPHASE_WARN : Nat := 13
def SDIRX.intINDEX_DUP : Nat := 14
def SDIRX.intANC_DROP : Nat := 15
def SDIRX.intSKEW : Nat := 16
def SDIRX.rawLOCKED : Nat := 8

/-! Fields of IPIN. -/
def IPIN.IP_CFG : Fld := ⟨0x100, 0, 32⟩
def IPIN.IP_CFG_MODE : Fld := ⟨0x100, 0, 2⟩
def IPIN.IP_CFG_GEOM : Fld := ⟨0x100, 4, 2⟩
def IPIN.IP_CFG_INDEX_GROUP : Fld := ⟨0x100, 8, 3⟩
def IPIN.IP_CFG_DUAL : Fld := ⟨0x100, 12, 1⟩
def IPIN.IP_CFG_SSRC_CHECK : Fld := ⟨0x100, 13, 1⟩
def IPIN.IP_CFG_PT : Fld := ⟨0x100, 16, 7⟩
def IPIN.PATH_PORT (n : Nat) : Fld := ⟨0x104 + n * 0xC, 0, 32⟩
def IPIN.PATH_PORT_ETH (n : Nat) : Fld := ⟨0x104 + n * 0xC, 0, 3⟩
def IPIN.PATH_PORT_UDP (n : Nat) : Fld := ⟨0x104 + n * 0xC, 16, 16⟩
def IPIN.PATH_DEST (n : Nat) : Fld := ⟨0x108 + n * 0xC, 0, 32⟩
def IPIN.PATH_SRC (n : Nat) : Fld := ⟨0x10C + n * 0xC, 0, 32⟩
def IPIN.SSRC : Fld := ⟨0x11C, 0, 32⟩
def IPIN.JITTER_NS : Fld := ⟨0x120, 0, 32⟩
def IPIN.JITTER_NS_JITTER : Fld := ⟨0x120, 0, 20⟩
def IPIN.POLICE_RATE : Fld := ⟨0x124, 0, 32⟩
def IPIN.POLICE_RATE_RATE : Fld := ⟨0x124, 0, 17⟩
def IPIN.POLICE_BURST : Fld := ⟨0x128, 0, 32⟩
def IPIN.POLICE_BURST_BURST : Fld := ⟨0x128, 0, 23⟩
def IPIN.LS_LINES : Fld := ⟨0x12C, 0, 32⟩
def IPIN.LS_LINES_LINES : Fld := ⟨0x12C, 0, 11⟩
def IPIN.PATH_STATUS : Fld := ⟨0x130, 0, 32⟩
def IPIN.PATH_STATUS_A_ACTIVE : Fld := ⟨0x130, 0, 1⟩
def IPIN.PATH_STATUS_B_ACTIVE : Fld := ⟨0x130, 1, 1⟩
def IPIN.PATH_STATUS_SKEW_US : Fld := ⟨0x130, 16, 16⟩
def IPIN.PHASE : Fld := ⟨0x134, 0, 32⟩
def IPIN.LAST_INDEX_LO : Fld := ⟨0x138, 0, 32⟩
def IPIN.LAST_INDEX_HI : Fld := ⟨0x13C, 0, 32⟩
def IPIN.LAST_RTP_TS : Fld := ⟨0x140, 0, 32⟩
def IPIN.intPATH_A_UP : Nat := 8
def IPIN.intPATH_A_DOWN : Nat := 9
def IPIN.intPATH_B_UP : Nat := 10
def IPIN.intPATH_B_DOWN : Nat := 11
def IPIN.intPIC_ABSENT : Nat := 12
def IPIN.intSAMPLES_MISSING : Nat := 13
def IPIN.intPHASE_WARN : Nat := 14
def IPIN.intINDEX_DUP : Nat := 15
def IPIN.intPOLICED : Nat := 16
def IPIN.rawA_ACTIVE : Nat := 8
def IPIN.rawB_ACTIVE : Nat := 9

/-! Fields of SRC. -/
def SRC.SRC_CFG : Fld := ⟨0x100, 0, 32⟩
def SRC.SRC_CFG_INPUT_KIND : Fld := ⟨0x100, 0, 2⟩
def SRC.SRC_CFG_INPUT : Fld := ⟨0x100, 8, 5⟩
def SRC.SRC_CFG_COMMIT_WAIT : Fld := ⟨0x100, 16, 4⟩
def SRC.LAYER_CTRL (n : Nat) : Fld := ⟨0x100 + n * 0x20, 0, 32⟩
def SRC.LAYER_CTRL_EN (n : Nat) : Fld := ⟨0x100 + n * 0x20, 0, 1⟩
def SRC.LAYER_CTRL_FMT (n : Nat) : Fld := ⟨0x100 + n * 0x20, 4, 2⟩
def SRC.LAYER_CTRL_PREMULT (n : Nat) : Fld := ⟨0x100 + n * 0x20, 6, 1⟩
def SRC.LAYER_CTRL_POLICY (n : Nat) : Fld := ⟨0x100 + n * 0x20, 7, 1⟩
def SRC.LAYER_CTRL_ALPHA (n : Nat) : Fld := ⟨0x100 + n * 0x20, 16, 10⟩
def SRC.LAYER_POS (n : Nat) : Fld := ⟨0x104 + n * 0x20, 0, 32⟩
def SRC.LAYER_POS_X (n : Nat) : Fld := ⟨0x104 + n * 0x20, 0, 13⟩
def SRC.LAYER_POS_Y (n : Nat) : Fld := ⟨0x104 + n * 0x20, 16, 13⟩
def SRC.LAYER_SIZE (n : Nat) : Fld := ⟨0x108 + n * 0x20, 0, 32⟩
def SRC.LAYER_SIZE_W (n : Nat) : Fld := ⟨0x108 + n * 0x20, 0, 13⟩
def SRC.LAYER_SIZE_H (n : Nat) : Fld := ⟨0x108 + n * 0x20, 16, 13⟩
def SRC.LAYER_BASE_LO (n : Nat) : Fld := ⟨0x10C + n * 0x20, 0, 32⟩
def SRC.LAYER_BASE_HI (n : Nat) : Fld := ⟨0x110 + n * 0x20, 0, 32⟩
def SRC.LAYER_BASE_HI_ADDR (n : Nat) : Fld := ⟨0x110 + n * 0x20, 0, 4⟩
def SRC.LAYER_STRIDE (n : Nat) : Fld := ⟨0x114 + n * 0x20, 0, 32⟩
def SRC.LAYER_STRIDE_BYTES (n : Nat) : Fld := ⟨0x114 + n * 0x20, 0, 24⟩
def SRC.LAYER_COLOUR (n : Nat) : Fld := ⟨0x118 + n * 0x20, 0, 32⟩
def SRC.LAYER_COLOUR_Y (n : Nat) : Fld := ⟨0x118 + n * 0x20, 0, 10⟩
def SRC.LAYER_COLOUR_CB (n : Nat) : Fld := ⟨0x118 + n * 0x20, 10, 10⟩
def SRC.LAYER_COLOUR_CR (n : Nat) : Fld := ⟨0x118 + n * 0x20, 20, 10⟩
def SRC.LAYER_FENCE_WANT (n : Nat) : Fld := ⟨0x11C + n * 0x20, 0, 32⟩
def SRC.LAYER_FENCE_WANT_WANT (n : Nat) : Fld := ⟨0x11C + n * 0x20, 0, 16⟩
def SRC.FENCE_DONE (n : Nat) : Fld := ⟨0x200 + n * 0x4, 0, 32⟩
def SRC.FENCE_DONE_COUNT (n : Nat) : Fld := ⟨0x200 + n * 0x4, 0, 16⟩
def SRC.FENCE_SIGNAL : Fld := ⟨0x220, 0, 32⟩
def SRC.LAYER_STATE : Fld := ⟨0x224, 0, 32⟩
def SRC.LAYER_STATE_READY : Fld := ⟨0x224, 1, 7⟩
def SRC.LAYER_STATE_HELD : Fld := ⟨0x224, 9, 7⟩
def SRC.LAYER_STATE_HIDDEN : Fld := ⟨0x224, 17, 7⟩
def SRC.SIG_CTRL (n : Nat) : Fld := ⟨0x300 + n * 0x10, 0, 32⟩
def SRC.SIG_CTRL_EN (n : Nat) : Fld := ⟨0x300 + n * 0x10, 0, 1⟩
def SRC.SIG_CTRL_ACTION (n : Nat) : Fld := ⟨0x300 + n * 0x10, 1, 1⟩
def SRC.SIG_POS (n : Nat) : Fld := ⟨0x304 + n * 0x10, 0, 32⟩
def SRC.SIG_POS_X (n : Nat) : Fld := ⟨0x304 + n * 0x10, 0, 13⟩
def SRC.SIG_POS_Y (n : Nat) : Fld := ⟨0x304 + n * 0x10, 16, 13⟩
def SRC.SIG_SIZE (n : Nat) : Fld := ⟨0x308 + n * 0x10, 0, 32⟩
def SRC.SIG_SIZE_W (n : Nat) : Fld := ⟨0x308 + n * 0x10, 0, 13⟩
def SRC.SIG_SIZE_H (n : Nat) : Fld := ⟨0x308 + n * 0x10, 16, 13⟩
def SRC.SIG_EXPECT (n : Nat) : Fld := ⟨0x30C + n * 0x10, 0, 32⟩
def SRC.SIG_RESULT (n : Nat) : Fld := ⟨0x400 + n * 0x4, 0, 32⟩
def SRC.SIG_STATUS : Fld := ⟨0x440, 0, 32⟩
def SRC.SIG_STATUS_FAIL : Fld := ⟨0x440, 0, 16⟩
def SRC.SIG_STATUS_SHOWN : Fld := ⟨0x440, 16, 1⟩
def SRC.SIG_STATUS_RELEASE_COUNT : Fld := ⟨0x440, 24, 8⟩
def SRC.PROT_CFG : Fld := ⟨0x600, 0, 32⟩
def SRC.PROT_CFG_MODE : Fld := ⟨0x600, 0, 2⟩
def SRC.PROT_CFG_FMT : Fld := ⟨0x600, 4, 2⟩
def SRC.PROT_CFG_RELEASE : Fld := ⟨0x600, 8, 8⟩
def SRC.PROT_POS : Fld := ⟨0x604, 0, 32⟩
def SRC.PROT_POS_X : Fld := ⟨0x604, 0, 13⟩
def SRC.PROT_POS_Y : Fld := ⟨0x604, 16, 13⟩
def SRC.PROT_SIZE : Fld := ⟨0x608, 0, 32⟩
def SRC.PROT_SIZE_W : Fld := ⟨0x608, 0, 13⟩
def SRC.PROT_SIZE_H : Fld := ⟨0x608, 16, 13⟩
def SRC.PROT_BASE_LO : Fld := ⟨0x60C, 0, 32⟩
def SRC.PROT_BASE_HI : Fld := ⟨0x610, 0, 32⟩
def SRC.PROT_BASE_HI_ADDR : Fld := ⟨0x610, 0, 4⟩
def SRC.PROT_STRIDE : Fld := ⟨0x614, 0, 32⟩
def SRC.PROT_STRIDE_BYTES : Fld := ⟨0x614, 0, 24⟩
def SRC.PROT_COLOUR : Fld := ⟨0x618, 0, 32⟩
def SRC.PROT_COLOUR_Y : Fld := ⟨0x618, 0, 10⟩
def SRC.PROT_COLOUR_CB : Fld := ⟨0x618, 10, 10⟩
def SRC.PROT_COLOUR_CR : Fld := ⟨0x618, 20, 10⟩
def SRC.PROT_LOCK : Fld := ⟨0x61C, 0, 32⟩
def SRC.PROT_LOCK_LOCK : Fld := ⟨0x61C, 0, 1⟩
def SRC.intLAYER_WAIT : Nat := 8
def SRC.intLAYER_HELD : Nat := 9
def SRC.intLAYER_HIDDEN : Nat := 10
def SRC.intSIG_FAIL : Nat := 11
def SRC.intPROT_SHOWN : Nat := 12
def SRC.intPROT_RELEASED : Nat := 13
def SRC.rawPROT_SHOWN : Nat := 16

/-! Fields of SCAL. -/
def SCAL.SCAL_CFG : Fld := ⟨0x100, 0, 32⟩
def SCAL.SCAL_CFG_SOURCE : Fld := ⟨0x100, 0, 5⟩
def SCAL.SCAL_CFG_CONV : Fld := ⟨0x100, 8, 1⟩
def SCAL.SCAL_CFG_GANG : Fld := ⟨0x100, 9, 1⟩
def SCAL.SCAL_CFG_TAPS_H : Fld := ⟨0x100, 16, 4⟩
def SCAL.SCAL_CFG_TAPS_V : Fld := ⟨0x100, 24, 4⟩
def SCAL.OUT_SIZE : Fld := ⟨0x104, 0, 32⟩
def SCAL.OUT_SIZE_W : Fld := ⟨0x104, 0, 13⟩
def SCAL.OUT_SIZE_H : Fld := ⟨0x104, 16, 13⟩
def SCAL.COEF_BASE_LO : Fld := ⟨0x108, 0, 32⟩
def SCAL.COEF_BASE_HI : Fld := ⟨0x10C, 0, 32⟩
def SCAL.COEF_BASE_HI_ADDR : Fld := ⟨0x10C, 0, 4⟩
def SCAL.LB_NEED : Fld := ⟨0x110, 0, 32⟩
def SCAL.LB_NEED_NEED : Fld := ⟨0x110, 0, 18⟩
def SCAL.CHECK_DETAIL : Fld := ⟨0x114, 0, 32⟩
def SCAL.CHECK_DETAIL_NEED : Fld := ⟨0x114, 0, 18⟩
def SCAL.CHECK_DETAIL_LINES : Fld := ⟨0x114, 24, 8⟩

/-! Fields of CHAN. -/
def CHAN.CHAN_CFG : Fld := ⟨0x100, 0, 32⟩
def CHAN.CHAN_CFG_SCALER : Fld := ⟨0x100, 0, 5⟩
def CHAN.CHAN_CFG_GROUP : Fld := ⟨0x100, 8, 3⟩
def CHAN.CHAN_CFG_MODE : Fld := ⟨0x100, 16, 1⟩
def CHAN.CHAN_CFG_NREF : Fld := ⟨0x100, 20, 3⟩
def CHAN.DELAY : Fld := ⟨0x104, 0, 32⟩
def CHAN.DELAY_D : Fld := ⟨0x104, 0, 5⟩
def CHAN.LOOK_CFG : Fld := ⟨0x108, 0, 32⟩
def CHAN.LOOK_CFG_DEPTH : Fld := ⟨0x108, 0, 4⟩
def CHAN.LOOK_CFG_SCENE_RATIO : Fld := ⟨0x108, 8, 8⟩
def CHAN.LOSS_CTRL : Fld := ⟨0x10C, 0, 32⟩
def CHAN.LOSS_CTRL_POLICY : Fld := ⟨0x10C, 0, 1⟩
def CHAN.STATUS_CFG : Fld := ⟨0x110, 0, 32⟩
def CHAN.STATUS_CFG_RING : Fld := ⟨0x110, 0, 8⟩
def CHAN.STATUS_CFG_EN : Fld := ⟨0x110, 8, 1⟩
def CHAN.STAGE_BASE_LO : Fld := ⟨0x114, 0, 32⟩
def CHAN.STAGE_BASE_HI : Fld := ⟨0x118, 0, 32⟩
def CHAN.STAGE_BASE_HI_ADDR : Fld := ⟨0x118, 0, 4⟩
def CHAN.GEOM : Fld := ⟨0x120, 0, 32⟩
def CHAN.GEOM_N_ROW : Fld := ⟨0x120, 0, 8⟩
def CHAN.GEOM_R_ROWS : Fld := ⟨0x120, 8, 8⟩
def CHAN.GEOM_C420 : Fld := ⟨0x120, 16, 1⟩
def CHAN.D_MIN : Fld := ⟨0x124, 0, 32⟩
def CHAN.D_MIN_D_MIN : Fld := ⟨0x124, 0, 5⟩
def CHAN.ADM_LOAD_LO : Fld := ⟨0x128, 0, 32⟩
def CHAN.ADM_LOAD_HI : Fld := ⟨0x12C, 0, 32⟩
def CHAN.ADM_MEM : Fld := ⟨0x130, 0, 32⟩
def CHAN.ADM_WIN : Fld := ⟨0x134, 0, 32⟩
def CHAN.ADM_ITEMS : Fld := ⟨0x138, 0, 32⟩
def CHAN.ADM_ITEMS_ITEMS : Fld := ⟨0x138, 0, 18⟩
def CHAN.CHECK_DETAIL : Fld := ⟨0x13C, 0, 32⟩
def CHAN.CHECK_DETAIL_VALUE : Fld := ⟨0x13C, 0, 28⟩
def CHAN.CHECK_DETAIL_KIND : Fld := ⟨0x13C, 28, 4⟩
def CHAN.SLACK : Fld := ⟨0x140, 0, 32⟩
def CHAN.PIC_COUNT_LO : Fld := ⟨0x144, 0, 32⟩
def CHAN.PIC_COUNT_HI : Fld := ⟨0x148, 0, 32⟩
def CHAN.CODEC_CFG : Fld := ⟨0x180, 0, 32⟩
def CHAN.CODEC_CFG_CODEC : Fld := ⟨0x180, 0, 2⟩
def CHAN.CODEC_CFG_PROFILE : Fld := ⟨0x180, 4, 2⟩
def CHAN.CODEC_CFG_TIER : Fld := ⟨0x180, 6, 1⟩
def CHAN.CODEC_CFG_SLICE_MODE : Fld := ⟨0x180, 7, 1⟩
def CHAN.CODEC_CFG_LEVEL_IDC : Fld := ⟨0x180, 8, 8⟩
def CHAN.REFRESH_CFG : Fld := ⟨0x184, 0, 32⟩
def CHAN.REFRESH_CFG_KIND : Fld := ⟨0x184, 0, 1⟩
def CHAN.REFRESH_CFG_GDR_PICS : Fld := ⟨0x184, 8, 8⟩
def CHAN.REFRESH_CFG_PERIOD : Fld := ⟨0x184, 16, 16⟩
def CHAN.REFRESH_AT_LO : Fld := ⟨0x188, 0, 32⟩
def CHAN.REFRESH_AT_HI : Fld := ⟨0x18C, 0, 32⟩
def CHAN.SEI_CFG : Fld := ⟨0x190, 0, 32⟩
def CHAN.SEI_CFG_HASH : Fld := ⟨0x190, 0, 1⟩
def CHAN.SEI_CFG_FRAME_INFO : Fld := ⟨0x190, 1, 1⟩
def CHAN.SEI_CFG_MDCV : Fld := ⟨0x190, 2, 1⟩
def CHAN.SEI_CFG_CLL : Fld := ⟨0x190, 3, 1⟩
def CHAN.VUI_CFG : Fld := ⟨0x194, 0, 32⟩
def CHAN.VUI_CFG_PRIMARIES : Fld := ⟨0x194, 0, 8⟩
def CHAN.VUI_CFG_TRANSFER : Fld := ⟨0x194, 8, 8⟩
def CHAN.VUI_CFG_MATRIX : Fld := ⟨0x194, 16, 8⟩
def CHAN.VUI_CFG_FULL_RANGE : Fld := ⟨0x194, 24, 1⟩
def CHAN.VUI_CFG_VUI_EN : Fld := ⟨0x194, 25, 1⟩
def CHAN.MDCV (n : Nat) : Fld := ⟨0x198 + n * 0x4, 0, 32⟩
def CHAN.CLL : Fld := ⟨0x1B0, 0, 32⟩
def CHAN.CLL_MAX_CLL : Fld := ⟨0x1B0, 0, 16⟩
def CHAN.CLL_MAX_FALL : Fld := ⟨0x1B0, 16, 16⟩
def CHAN.BS_STATUS : Fld := ⟨0x1B4, 0, 32⟩
def CHAN.BS_STATUS_WAVE_ACTIVE : Fld := ⟨0x1B4, 0, 1⟩
def CHAN.BS_STATUS_REFRESH_PENDING : Fld := ⟨0x1B4, 1, 1⟩
def CHAN.BS_STATUS_WAVE_INDEX : Fld := ⟨0x1B4, 8, 8⟩
def CHAN.LAST_REFRESH_LO : Fld := ⟨0x1B8, 0, 32⟩
def CHAN.LAST_REFRESH_HI : Fld := ⟨0x1BC, 0, 32⟩
def CHAN.RC_CFG : Fld := ⟨0x200, 0, 32⟩
def CHAN.RC_CFG_QP_MIN : Fld := ⟨0x200, 0, 6⟩
def CHAN.RC_CFG_QP_MAX : Fld := ⟨0x200, 8, 6⟩
def CHAN.RC_CFG_QP_STEP : Fld := ⟨0x200, 16, 4⟩
def CHAN.RC_CFG_TARGET : Fld := ⟨0x200, 20, 3⟩
def CHAN.RC_RATE : Fld := ⟨0x204, 0, 32⟩
def CHAN.RC_RATE_KBPS : Fld := ⟨0x204, 0, 24⟩
def CHAN.RC_BUF : Fld := ⟨0x208, 0, 32⟩
def CHAN.RC_BUF_ROWS : Fld := ⟨0x208, 0, 7⟩
def CHAN.RC_WEIGHT : Fld := ⟨0x20C, 0, 32⟩
def CHAN.RC_WEIGHT_IDR : Fld := ⟨0x20C, 0, 8⟩
def CHAN.RC_WEIGHT_GDR : Fld := ⟨0x20C, 8, 8⟩
def CHAN.RC_WEIGHT_CUT : Fld := ⟨0x20C, 16, 8⟩
def CHAN.RC_TABLE_BASE_LO : Fld := ⟨0x210, 0, 32⟩
def CHAN.RC_TABLE_BASE_HI : Fld := ⟨0x214, 0, 32⟩
def CHAN.RC_TABLE_BASE_HI_ADDR : Fld := ⟨0x214, 0, 4⟩
def CHAN.RC_ROW_BUDGET : Fld := ⟨0x220, 0, 32⟩
def CHAN.RC_ROW_BUDGET_CAP : Fld := ⟨0x220, 0, 21⟩
def CHAN.RC_ROW_BUDGET_QP : Fld := ⟨0x220, 21, 6⟩
def CHAN.RC_ROW_BUDGET_FLOOR : Fld := ⟨0x220, 31, 1⟩
def CHAN.RC_ROW_TARGET : Fld := ⟨0x224, 0, 32⟩
def CHAN.RC_FLOOR_ROWS : Fld := ⟨0x228, 0, 32⟩
def CHAN.RC_OCC : Fld := ⟨0x22C, 0, 32⟩
def CHAN.RC_PIC_BUDGET : Fld := ⟨0x230, 0, 32⟩
def CHAN.RC_BUF_BITS : Fld := ⟨0x234, 0, 32⟩
def CHAN.RC_DROW : Fld := ⟨0x238, 0, 32⟩
def CHAN.RC_FLOOR_MAX : Fld := ⟨0x23C, 0, 32⟩
def CHAN.RC_SCALE (n : Nat) : Fld := ⟨0x240 + n * 0x4, 0, 32⟩
def CHAN.RC_SCALE_SCALE (n : Nat) : Fld := ⟨0x240 + n * 0x4, 0, 16⟩
def CHAN.RC_TABLE_ID : Fld := ⟨0x24C, 0, 32⟩
def CHAN.RC_STATUS : Fld := ⟨0x250, 0, 32⟩
def CHAN.RC_STATUS_SETTLED : Fld := ⟨0x250, 0, 1⟩
def CHAN.RC_STATUS_POOLED : Fld := ⟨0x250, 1, 1⟩
def CHAN.OUT_CFG : Fld := ⟨0x400, 0, 32⟩
def CHAN.OUT_CFG_MODE : Fld := ⟨0x400, 0, 1⟩
def CHAN.OUT_CFG_DUAL : Fld := ⟨0x400, 1, 1⟩
def CHAN.OUT_CFG_UDP_CSUM : Fld := ⟨0x400, 2, 1⟩
def CHAN.OUT_CFG_ROW_EXT : Fld := ⟨0x400, 3, 1⟩
def CHAN.OUT_CFG_ROW_ID : Fld := ⟨0x400, 4, 4⟩
def CHAN.OUT_CFG_PT : Fld := ⟨0x400, 8, 7⟩
def CHAN.PAYLOAD_MAX : Fld := ⟨0x404, 0, 32⟩
def CHAN.PAYLOAD_MAX_OCTETS : Fld := ⟨0x404, 0, 14⟩
def CHAN.OUT_SSRC : Fld := ⟨0x408, 0, 32⟩
def CHAN.SEQ_INIT : Fld := ⟨0x40C, 0, 32⟩
def CHAN.PATH_QUEUE (n : Nat) : Fld := ⟨0x420 + n * 0x20, 0, 32⟩
def CHAN.PATH_QUEUE_QUEUE (n : Nat) : Fld := ⟨0x420 + n * 0x20, 0, 13⟩
def CHAN.PATH_DMAC_LO (n : Nat) : Fld := ⟨0x424 + n * 0x20, 0, 32⟩
def CHAN.PATH_DMAC_HI (n : Nat) : Fld := ⟨0x428 + n * 0x20, 0, 32⟩
def CHAN.PATH_DMAC_HI_ADDR (n : Nat) : Fld := ⟨0x428 + n * 0x20, 0, 16⟩
def CHAN.PATH_DIP (n : Nat) : Fld := ⟨0x42C + n * 0x20, 0, 32⟩
def CHAN.PATH_SIP (n : Nat) : Fld := ⟨0x430 + n * 0x20, 0, 32⟩
def CHAN.PATH_UDP (n : Nat) : Fld := ⟨0x434 + n * 0x20, 0, 32⟩
def CHAN.PATH_UDP_SRC (n : Nat) : Fld := ⟨0x434 + n * 0x20, 0, 16⟩
def CHAN.PATH_UDP_DST (n : Nat) : Fld := ⟨0x434 + n * 0x20, 16, 16⟩
def CHAN.PATH_TAGS (n : Nat) : Fld := ⟨0x438 + n * 0x20, 0, 32⟩
def CHAN.PATH_TAGS_VLAN_EN (n : Nat) : Fld := ⟨0x438 + n * 0x20, 0, 1⟩
def CHAN.PATH_TAGS_PCP (n : Nat) : Fld := ⟨0x438 + n * 0x20, 1, 3⟩
def CHAN.PATH_TAGS_VID (n : Nat) : Fld := ⟨0x438 + n * 0x20, 4, 12⟩
def CHAN.PATH_TAGS_DSCP (n : Nat) : Fld := ⟨0x438 + n * 0x20, 16, 6⟩
def CHAN.PATH_TAGS_TTL (n : Nat) : Fld := ⟨0x438 + n * 0x20, 24, 8⟩
def CHAN.TS_PIDS : Fld := ⟨0x460, 0, 32⟩
def CHAN.TS_PIDS_VIDEO_PID : Fld := ⟨0x460, 0, 13⟩
def CHAN.TS_PIDS_PMT_PID : Fld := ⟨0x460, 16, 13⟩
def CHAN.TS_CFG : Fld := ⟨0x464, 0, 32⟩
def CHAN.TS_CFG_PSI_EVERY : Fld := ⟨0x464, 0, 8⟩
def CHAN.TS_CFG_TS_PER_RTP : Fld := ⟨0x464, 8, 6⟩
def CHAN.TS_CFG_HOST_MAX : Fld := ⟨0x464, 16, 7⟩
def CHAN.TS_CFG_HOST_EN : Fld := ⟨0x464, 23, 1⟩
def CHAN.TS_CFG_HOST_RING : Fld := ⟨0x464, 24, 8⟩
def CHAN.PTS_DELAY : Fld := ⟨0x468, 0, 32⟩
def CHAN.PTS_DELAY_TICKS : Fld := ⟨0x468, 0, 20⟩
def CHAN.TSID : Fld := ⟨0x46C, 0, 32⟩
def CHAN.TSID_ID : Fld := ⟨0x46C, 0, 16⟩
def CHAN.TS_STREAM (n : Nat) : Fld := ⟨0x470 + n * 0x8, 0, 32⟩
def CHAN.TS_STREAM_PID (n : Nat) : Fld := ⟨0x470 + n * 0x8, 0, 13⟩
def CHAN.TS_STREAM_STREAM_TYPE (n : Nat) : Fld := ⟨0x470 + n * 0x8, 16, 8⟩
def CHAN.TS_STREAM_EN (n : Nat) : Fld := ⟨0x470 + n * 0x8, 24, 1⟩
def CHAN.TS_REG (n : Nat) : Fld := ⟨0x474 + n * 0x8, 0, 32⟩
def CHAN.SEQ_NEXT : Fld := ⟨0x4C0, 0, 32⟩
def CHAN.PKT_COUNT : Fld := ⟨0x4C4, 0, 32⟩
def CHAN.OUT_RATE_MIN : Fld := ⟨0x4C8, 0, 32⟩
def CHAN.PMT_VERSION : Fld := ⟨0x4CC, 0, 32⟩
def CHAN.PMT_VERSION_VERSION : Fld := ⟨0x4CC, 0, 5⟩
def CHAN.intPIC_DONE : Nat := 8
def CHAN.intSTATUS_DROP : Nat := 9
def CHAN.intROW_RESUMED : Nat := 10
def CHAN.intROW_FORCED : Nat := 11
def CHAN.intCUT : Nat := 12
def CHAN.intLOSS : Nat := 13
def CHAN.intREFRESH : Nat := 14
def CHAN.intWAVE_ABANDONED : Nat := 15
def CHAN.intFLOOR : Nat := 16
def CHAN.intGUARD : Nat := 17
def CHAN.intTABLE_APPLIED : Nat := 18
def CHAN.intRATE_SETTLED : Nat := 19
def CHAN.intHOST_TS_LATE : Nat := 20
def CHAN.intHOST_TS_OVER : Nat := 21

/-! Fields of CHMB. -/
def CHMB.CHMB_STATUS : Fld := ⟨0x100, 0, 32⟩
def CHMB.CHMB_STATUS_BUSY : Fld := ⟨0x100, 0, 1⟩
def CHMB.CHMB_STATUS_FLOOR : Fld := ⟨0x100, 1, 1⟩
def CHMB.CHMB_STATUS_CHAN : Fld := ⟨0x100, 8, 6⟩
def CHMB.CHMB_STATUS_ROW : Fld := ⟨0x100, 16, 7⟩
def CHMB.CTU_DONE_LO : Fld := ⟨0x104, 0, 32⟩
def CHMB.CTU_DONE_HI : Fld := ⟨0x108, 0, 32⟩
def CHMB.ROWS_DONE : Fld := ⟨0x10C, 0, 32⟩
def CHMB.LOAD : Fld := ⟨0x110, 0, 32⟩
def CHMB.LOAD_PERMILLE : Fld := ⟨0x110, 0, 10⟩
def CHMB.intPREEMPTED : Nat := 8

/-! Fields of LOOK. -/
def LOOK.SRAM_USED : Fld := ⟨0x100, 0, 32⟩
def LOOK.ITEMS_USED : Fld := ⟨0x104, 0, 32⟩
def LOOK.WIN_USED : Fld := ⟨0x108, 0, 32⟩

/-! Fields of GRP. -/
def GRP.GRP_CFG : Fld := ⟨0x100, 0, 32⟩
def GRP.GRP_CFG_POOL : Fld := ⟨0x100, 0, 1⟩
def GRP.POOL_RATE : Fld := ⟨0x104, 0, 32⟩
def GRP.POOL_RATE_KBPS : Fld := ⟨0x104, 0, 24⟩
def GRP.POOL_BUF : Fld := ⟨0x108, 0, 32⟩
def GRP.POOL_BUF_US : Fld := ⟨0x108, 0, 15⟩
def GRP.MEMBERS_LO : Fld := ⟨0x10C, 0, 32⟩
def GRP.MEMBERS_HI : Fld := ⟨0x110, 0, 32⟩
def GRP.POOL_MIN : Fld := ⟨0x114, 0, 32⟩
def GRP.POOL_MIN_KBPS : Fld := ⟨0x114, 0, 24⟩
def GRP.POOL_OCC : Fld := ⟨0x118, 0, 32⟩
def GRP.POOL_PIC : Fld := ⟨0x11C, 0, 32⟩

/-! Fields of REFP. -/
def REFP.POOL_BASE_LO : Fld := ⟨0x100, 0, 32⟩
def REFP.POOL_BASE_HI : Fld := ⟨0x104, 0, 32⟩
def REFP.POOL_BASE_HI_ADDR : Fld := ⟨0x104, 0, 4⟩
def REFP.POOL_SIZE : Fld := ⟨0x108, 0, 32⟩
def REFP.POOL_SIZE_GRANULES : Fld := ⟨0x108, 0, 15⟩
def REFP.SQZ_CFG : Fld := ⟨0x10C, 0, 32⟩
def REFP.SQZ_CFG_RAW_ONLY : Fld := ⟨0x10C, 0, 1⟩
def REFP.POOL_FREE : Fld := ⟨0x110, 0, 32⟩
def REFP.POOL_FREE_GRANULES : Fld := ⟨0x110, 0, 15⟩
def REFP.POOL_LARGEST : Fld := ⟨0x114, 0, 32⟩
def REFP.POOL_LARGEST_GRANULES : Fld := ⟨0x114, 0, 15⟩
def REFP.ALLOC_NEED : Fld := ⟨0x118, 0, 32⟩
def REFP.ALLOC_NEED_GRANULES : Fld := ⟨0x118, 0, 16⟩
def REFP.ALLOC_NEED_CHAN : Fld := ⟨0x118, 16, 6⟩
def REFP.SQZ_RATIO : Fld := ⟨0x11C, 0, 32⟩
def REFP.SQZ_RATIO_PERMILLE : Fld := ⟨0x11C, 0, 11⟩
def REFP.POISON_INFO : Fld := ⟨0x120, 0, 32⟩
def REFP.POISON_INFO_CHAN : Fld := ⟨0x120, 0, 6⟩
def REFP.POISON_INFO_BUFFER : Fld := ⟨0x120, 8, 5⟩
def REFP.POISON_INFO_BLOCK : Fld := ⟨0x120, 16, 7⟩
def REFP.POISON_INFO_VOID : Fld := ⟨0x120, 31, 1⟩
def REFP.POISON_CTU : Fld := ⟨0x124, 0, 32⟩
def REFP.POISON_CTU_CTU : Fld := ⟨0x124, 0, 18⟩
def REFP.MARK_SEL : Fld := ⟨0x130, 0, 32⟩
def REFP.MARK_SEL_CHAN : Fld := ⟨0x130, 0, 6⟩
def REFP.MARK_STATE0 : Fld := ⟨0x134, 0, 32⟩
def REFP.MARK_STATE1 : Fld := ⟨0x138, 0, 32⟩
def REFP.MARK_POISON : Fld := ⟨0x13C, 0, 32⟩
def REFP.MARK_POISON_POISON : Fld := ⟨0x13C, 0, 20⟩
def REFP.ALLOC (n : Nat) : Fld := ⟨0x200 + n * 0x4, 0, 32⟩
def REFP.ALLOC_FIRST (n : Nat) : Fld := ⟨0x200 + n * 0x4, 0, 15⟩
def REFP.ALLOC_BUFFERS (n : Nat) : Fld := ⟨0x200 + n * 0x4, 16, 5⟩
def REFP.ALLOC_GPB (n : Nat) : Fld := ⟨0x200 + n * 0x4, 24, 7⟩
def REFP.intCRC_RETRY : Nat := 8
def REFP.intPOISON : Nat := 9
def REFP.intPOISON_DRIFT : Nat := 10
def REFP.intPROXY_LOST : Nat := 11

/-! Fields of DEC. -/
def DEC.DEC_CFG : Fld := ⟨0x100, 0, 32⟩
def DEC.DEC_CFG_INPUT_KIND : Fld := ⟨0x100, 0, 1⟩
def DEC.DEC_CFG_TRANSPORT : Fld := ⟨0x100, 1, 2⟩
def DEC.DEC_CFG_INDEX_MODE : Fld := ⟨0x100, 3, 1⟩
def DEC.DEC_CFG_PRESENT_DELAY : Fld := ⟨0x100, 4, 4⟩
def DEC.DEC_CFG_GEOM : Fld := ⟨0x100, 8, 2⟩
def DEC.DEC_CFG_INDEX_GROUP : Fld := ⟨0x100, 10, 3⟩
def DEC.DEC_CFG_CODEC : Fld := ⟨0x100, 13, 1⟩
def DEC.DEC_CFG_POC_STEP : Fld := ⟨0x100, 14, 2⟩
def DEC.DEC_CFG_INPUT : Fld := ⟨0x100, 16, 8⟩
def DEC.OUT_CFG : Fld := ⟨0x104, 0, 32⟩
def DEC.OUT_CFG_TO_SOURCE : Fld := ⟨0x104, 0, 1⟩
def DEC.OUT_CFG_TO_SDI : Fld := ⟨0x104, 1, 1⟩
def DEC.OUT_CFG_SDITX : Fld := ⟨0x104, 2, 1⟩
def DEC.OUT_CFG_HASH_CHECK : Fld := ⟨0x104, 8, 1⟩
def DEC.VIDEO_PID : Fld := ⟨0x108, 0, 32⟩
def DEC.VIDEO_PID_PID : Fld := ⟨0x108, 0, 13⟩
def DEC.CPB_CFG : Fld := ⟨0x10C, 0, 32⟩
def DEC.CPB_CFG_MIB : Fld := ⟨0x10C, 0, 9⟩
def DEC.REGION_BASE_LO : Fld := ⟨0x110, 0, 32⟩
def DEC.REGION_BASE_HI : Fld := ⟨0x114, 0, 32⟩
def DEC.REGION_BASE_HI_ADDR : Fld := ⟨0x114, 0, 4⟩
def DEC.REGION_SIZE : Fld := ⟨0x118, 0, 32⟩
def DEC.REGION_SIZE_GRANULES : Fld := ⟨0x118, 0, 15⟩
def DEC.STATUS_CFG : Fld := ⟨0x11C, 0, 32⟩
def DEC.STATUS_CFG_RING : Fld := ⟨0x11C, 0, 8⟩
def DEC.STATUS_CFG_EN : Fld := ⟨0x11C, 8, 1⟩
def DEC.LOAD : Fld := ⟨0x120, 0, 32⟩
def DEC.REGION_NEED : Fld := ⟨0x124, 0, 32⟩
def DEC.STREAM_INFO : Fld := ⟨0x128, 0, 32⟩
def DEC.STREAM_INFO_PROFILE_IDC : Fld := ⟨0x128, 0, 8⟩
def DEC.STREAM_INFO_LEVEL_IDC : Fld := ⟨0x128, 8, 8⟩
def DEC.STREAM_INFO_CHROMA : Fld := ⟨0x128, 16, 2⟩
def DEC.STREAM_INFO_DEPTH : Fld := ⟨0x128, 18, 4⟩
def DEC.STREAM_SIZE : Fld := ⟨0x12C, 0, 32⟩
def DEC.STREAM_SIZE_W : Fld := ⟨0x12C, 0, 13⟩
def DEC.STREAM_SIZE_H : Fld := ⟨0x12C, 16, 13⟩
def DEC.DEC_STATUS : Fld := ⟨0x130, 0, 32⟩
def DEC.DEC_STATUS_CONCEALING : Fld := ⟨0x130, 0, 1⟩
def DEC.DEC_STATUS_SUPPORTED : Fld := ⟨0x130, 1, 1⟩
def DEC.PHASE : Fld := ⟨0x134, 0, 32⟩
def DEC.LAST_INDEX_LO : Fld := ⟨0x138, 0, 32⟩
def DEC.LAST_INDEX_HI : Fld := ⟨0x13C, 0, 32⟩
def DEC.CPB_LEVEL : Fld := ⟨0x140, 0, 32⟩
def DEC.CPB_LEVEL_BYTES : Fld := ⟨0x140, 0, 28⟩
def DEC.intSYNTAX_ERR : Nat := 8
def DEC.intREF_GENERATED : Nat := 9
def DEC.intCONCEALED : Nat := 10
def DEC.intCLEAN : Nat := 11
def DEC.intLATE : Nat := 12
def DEC.intPIC_ABSENT : Nat := 13
def DEC.intINDEX_DUP : Nat := 14
def DEC.intSTREAM_UNSUPPORTED : Nat := 15
def DEC.intCPB_OVERFLOW : Nat := 16
def DEC.intHASH_MISMATCH : Nat := 17
def DEC.intPHASE_WARN : Nat := 18
def DEC.intSTATUS_DROP : Nat := 19
def DEC.rawCONCEALING : Nat := 8

/-! Fields of SDITX. -/
def SDITX.SDO_CFG : Fld := ⟨0x100, 0, 32⟩
def SDITX.SDO_CFG_GEOM : Fld := ⟨0x100, 0, 2⟩
def SDITX.SDO_CFG_INDEX_GROUP : Fld := ⟨0x100, 4, 3⟩
def SDITX.SDO_CFG_REFCLK_FRAC : Fld := ⟨0x100, 8, 1⟩
def SDITX.SDO_CFG_POLICY : Fld := ⟨0x100, 9, 1⟩
def SDITX.SDO_OFFSET : Fld := ⟨0x104, 0, 32⟩
def SDITX.SDO_STATUS : Fld := ⟨0x108, 0, 32⟩
def SDITX.SDO_STATUS_RATE : Fld := ⟨0x108, 0, 3⟩
def SDITX.SDO_STATUS_DRIVEN : Fld := ⟨0x108, 8, 1⟩
def SDITX.SDO_STATUS_DEC : Fld := ⟨0x108, 9, 1⟩
def SDITX.PHASE : Fld := ⟨0x10C, 0, 32⟩
def SDITX.intREALIGN : Nat := 8

/-! Fields of PAIR. -/
def PAIR.PAIR_CFG : Fld := ⟨0x100, 0, 32⟩
def PAIR.PAIR_CFG_ROLE : Fld := ⟨0x100, 0, 1⟩
def PAIR.PAIR_CFG_REVERT : Fld := ⟨0x100, 1, 1⟩
def PAIR.PAIR_CFG_JOIN_MODE : Fld := ⟨0x100, 2, 1⟩
def PAIR.PAIR_CFG_CAIRN_EN : Fld := ⟨0x100, 3, 1⟩
def PAIR.PAIR_CFG_CAIRN_ID : Fld := ⟨0x100, 4, 4⟩
def PAIR.PAIR_CFG_FATAL_MASK : Fld := ⟨0x100, 8, 8⟩
def PAIR.PAIR_CFG_REF_GROUP : Fld := ⟨0x100, 16, 3⟩
def PAIR.CLAIM_INIT : Fld := ⟨0x104, 0, 32⟩
def PAIR.WITNESS_TIMEOUT : Fld := ⟨0x108, 0, 32⟩
def PAIR.WITNESS_TIMEOUT_US : Fld := ⟨0x108, 0, 17⟩
def PAIR.HOLD_OFF : Fld := ⟨0x10C, 0, 32⟩
def PAIR.HOLD_OFF_MS : Fld := ⟨0x10C, 0, 20⟩
def PAIR.PAIR_CTRL : Fld := ⟨0x110, 0, 32⟩
def PAIR.PAIR_CTRL_HANDOVER : Fld := ⟨0x110, 0, 1⟩
def PAIR.PAIR_CTRL_YIELD_NOW : Fld := ⟨0x110, 1, 1⟩
def PAIR.PAIR_CTRL_CLEAR_YIELD : Fld := ⟨0x110, 2, 1⟩
def PAIR.PAIR_CTRL_JOIN_NOW : Fld := ⟨0x110, 3, 1⟩
def PAIR.PAIR_STATUS : Fld := ⟨0x114, 0, 32⟩
def PAIR.PAIR_STATUS_STEP : Fld := ⟨0x114, 0, 3⟩
def PAIR.PAIR_STATUS_OUTPUT : Fld := ⟨0x114, 4, 1⟩
def PAIR.PAIR_STATUS_YIELDED : Fld := ⟨0x114, 5, 1⟩
def PAIR.PAIR_STATUS_ROPE_UP : Fld := ⟨0x114, 6, 1⟩
def PAIR.PAIR_STATUS_PEER_KNOWN : Fld := ⟨0x114, 7, 1⟩
def PAIR.PAIR_STATUS_GATE_OPEN : Fld := ⟨0x114, 8, 1⟩
def PAIR.PAIR_STATUS_HANDOVER_PENDING : Fld := ⟨0x114, 9, 1⟩
def PAIR.PAIR_STATUS_CLAIM_CONFLICT : Fld := ⟨0x114, 10, 1⟩
def PAIR.CLAIM : Fld := ⟨0x118, 0, 32⟩
def PAIR.PEER_CLAIM : Fld := ⟨0x11C, 0, 32⟩
def PAIR.IN_STEP_MS : Fld := ⟨0x120, 0, 32⟩
def PAIR.LAST_SWITCH : Fld := ⟨0x124, 0, 32⟩
def PAIR.LAST_SWITCH_CAUSE : Fld := ⟨0x124, 0, 4⟩
def PAIR.LAST_SWITCH_BECAME : Fld := ⟨0x124, 4, 1⟩
def PAIR.LAST_SWITCH_TIME_LO : Fld := ⟨0x128, 0, 32⟩
def PAIR.LAST_SWITCH_TIME_HI : Fld := ⟨0x12C, 0, 32⟩
def PAIR.CH_STEP (n : Nat) : Fld := ⟨0x130 + n * 0x4, 0, 32⟩
def PAIR.MISMATCH_INFO : Fld := ⟨0x140, 0, 32⟩
def PAIR.MISMATCH_INFO_CHAN : Fld := ⟨0x140, 0, 6⟩
def PAIR.MISMATCH_INFO_ROW : Fld := ⟨0x140, 8, 7⟩
def PAIR.MISMATCH_INFO_CAUSE : Fld := ⟨0x140, 16, 2⟩
def PAIR.MISMATCH_INDEX_LO : Fld := ⟨0x144, 0, 32⟩
def PAIR.MISMATCH_INDEX_HI : Fld := ⟨0x148, 0, 32⟩
def PAIR.GAP_PACKETS : Fld := ⟨0x14C, 0, 32⟩
def PAIR.HANDOVER_AT_LO : Fld := ⟨0x150, 0, 32⟩
def PAIR.HANDOVER_AT_HI : Fld := ⟨0x154, 0, 32⟩
def PAIR.ECHO_CTRL (n : Nat) : Fld := ⟨0x200 + n * 0x10, 0, 32⟩
def PAIR.ECHO_CTRL_EN (n : Nat) : Fld := ⟨0x200 + n * 0x10, 0, 1⟩
def PAIR.ECHO_CTRL_ETH (n : Nat) : Fld := ⟨0x200 + n * 0x10, 1, 3⟩
def PAIR.ECHO_CTRL_CHAN (n : Nat) : Fld := ⟨0x200 + n * 0x10, 8, 6⟩
def PAIR.ECHO_CTRL_UDP (n : Nat) : Fld := ⟨0x200 + n * 0x10, 16, 16⟩
def PAIR.ECHO_DEST (n : Nat) : Fld := ⟨0x204 + n * 0x10, 0, 32⟩
def PAIR.ECHO_SEQ (n : Nat) : Fld := ⟨0x208 + n * 0x10, 0, 32⟩
def PAIR.ECHO_CLAIM (n : Nat) : Fld := ⟨0x20C + n * 0x10, 0, 32⟩
def PAIR.intSTEP_CHANGED : Nat := 8
def PAIR.intMISMATCH : Nat := 9
def PAIR.intBECAME_ACTIVE : Nat := 10
def PAIR.intBECAME_STANDBY : Nat := 11
def PAIR.intROPE_CUT : Nat := 12
def PAIR.intROPE_UP : Nat := 13
def PAIR.intSAW_HIGHER : Nat := 14
def PAIR.intJOIN_DONE : Nat := 15
def PAIR.intJOIN_FAIL : Nat := 16
def PAIR.intYIELDED : Nat := 17
def PAIR.intCLAIM_HIGH : Nat := 18
def PAIR.intECHO_SILENT : Nat := 19
def PAIR.intCLAIM_CONFLICT : Nat := 20
def PAIR.rawACTIVE : Nat := 8
def PAIR.rawIN_STEP : Nat := 9

/-! Fields of ROPE. -/
def ROPE.ROPE_CFG : Fld := ⟨0x100, 0, 32⟩
def ROPE.ROPE_CFG_LANES : Fld := ⟨0x100, 0, 4⟩
def ROPE.ROPE_CFG_MIN_LANES : Fld := ⟨0x100, 4, 3⟩
def ROPE.ROPE_CFG_AUTO_RETRAIN : Fld := ⟨0x100, 8, 1⟩
def ROPE.ROPE_CFG_RETRAIN_TRIES : Fld := ⟨0x100, 12, 4⟩
def ROPE.ROPE_CFG_TRAIN_MS : Fld := ⟨0x100, 16, 16⟩
def ROPE.ROPE_STATUS : Fld := ⟨0x104, 0, 32⟩
def ROPE.ROPE_STATUS_LINK : Fld := ⟨0x104, 0, 3⟩
def ROPE.ROPE_STATUS_TX_MASK : Fld := ⟨0x104, 8, 4⟩
def ROPE.ROPE_STATUS_RX_MASK : Fld := ⟨0x104, 12, 4⟩
def ROPE.ROPE_STATUS_PEER_RX_MASK : Fld := ⟨0x104, 16, 4⟩
def ROPE.ROPE_STATUS_TRAINING : Fld := ⟨0x104, 20, 4⟩
def ROPE.ROPE_STATUS_WIDTH : Fld := ⟨0x104, 24, 3⟩
def ROPE.LANE_STATUS : Fld := ⟨0x108, 0, 32⟩
def ROPE.LANE_SKEW : Fld := ⟨0x10C, 0, 32⟩
def ROPE.ROPE_CTRL : Fld := ⟨0x110, 0, 32⟩
def ROPE.ROPE_CTRL_RETRAIN : Fld := ⟨0x110, 0, 4⟩
def ROPE.ROPE_CTRL_RESTART : Fld := ⟨0x110, 8, 1⟩
def ROPE.ROPE_CTRL_CLEAR_FAILED : Fld := ⟨0x110, 9, 1⟩
def ROPE.ROPE_CTRL_MBOX_SEND : Fld := ⟨0x110, 16, 1⟩
def ROPE.SEQ_STATUS : Fld := ⟨0x114, 0, 32⟩
def ROPE.SEQ_STATUS_TX_NEXT : Fld := ⟨0x114, 0, 16⟩
def ROPE.SEQ_STATUS_RX_NEXT : Fld := ⟨0x114, 16, 16⟩
def ROPE.FILL_COUNT : Fld := ⟨0x118, 0, 32⟩
def ROPE.FILL_COUNT_INSERTED : Fld := ⟨0x118, 0, 16⟩
def ROPE.FILL_COUNT_DELETED : Fld := ⟨0x118, 16, 16⟩
def ROPE.PEER_CAPS0 : Fld := ⟨0x11C, 0, 32⟩
def ROPE.PEER_CAPS0_VERSION : Fld := ⟨0x11C, 0, 16⟩
def ROPE.PEER_CAPS0_MEMBER : Fld := ⟨0x11C, 16, 16⟩
def ROPE.PEER_CAPS1 : Fld := ⟨0x120, 0, 32⟩
def ROPE.PEER_CAPS1_STEPPING : Fld := ⟨0x120, 0, 8⟩
def ROPE.PEER_CAPS1_LANES : Fld := ⟨0x120, 8, 4⟩
def ROPE.PEER_CAPS1_MIN_LANES : Fld := ⟨0x120, 12, 3⟩
def ROPE.PEER_CAPS1_WINDOW : Fld := ⟨0x120, 16, 16⟩
def ROPE.MBOX_STATUS : Fld := ⟨0x124, 0, 32⟩
def ROPE.MBOX_STATUS_TX_BUSY : Fld := ⟨0x124, 0, 1⟩
def ROPE.MBOX_STATUS_RX_FULL : Fld := ⟨0x124, 1, 1⟩
def ROPE.MBOX_TX (n : Nat) : Fld := ⟨0x140 + n * 0x4, 0, 32⟩
def ROPE.MBOX_RX (n : Nat) : Fld := ⟨0x180 + n * 0x4, 0, 32⟩
def ROPE.intACTIVE : Nat := 8
def ROPE.intCUT : Nat := 9
def ROPE.intLANE_LOST : Nat := 10
def ROPE.intLANE_RESTORED : Nat := 11
def ROPE.intLANE_FAILED : Nat := 12
def ROPE.intPEER_VERSION : Nat := 13
def ROPE.intMBOX_RX : Nat := 14
def ROPE.intMBOX_TX_DONE : Nat := 15
def ROPE.rawACTIVE : Nat := 8

/-! Fields of ETH. -/
def ETH.PORT_CFG : Fld := ⟨0x100, 0, 32⟩
def ETH.PORT_CFG_PHY : Fld := ⟨0x100, 0, 2⟩
def ETH.PORT_CFG_AN_EN : Fld := ⟨0x100, 2, 1⟩
def ETH.PORT_CFG_PTP_L2 : Fld := ⟨0x100, 3, 1⟩
def ETH.PORT_CFG_ECHO_ANY_DA : Fld := ⟨0x100, 4, 1⟩
def ETH.PORT_CFG_RX_VLAN_EN : Fld := ⟨0x100, 5, 1⟩
def ETH.PORT_CFG_RX_VID : Fld := ⟨0x100, 16, 12⟩
def ETH.MAC_LO : Fld := ⟨0x104, 0, 32⟩
def ETH.MAC_HI : Fld := ⟨0x108, 0, 32⟩
def ETH.MAC_HI_ADDR : Fld := ⟨0x108, 0, 16⟩
def ETH.LINK_CFG : Fld := ⟨0x10C, 0, 32⟩
def ETH.LINK_CFG_RETRY_MS : Fld := ⟨0x10C, 0, 16⟩
def ETH.PORT_STATUS : Fld := ⟨0x110, 0, 32⟩
def ETH.PORT_STATUS_LINK : Fld := ⟨0x110, 0, 3⟩
def ETH.PORT_STATUS_LANE_MODE : Fld := ⟨0x110, 4, 2⟩
def ETH.PORT_STATUS_MODE_PENDING : Fld := ⟨0x110, 6, 1⟩
def ETH.HOST_CFG : Fld := ⟨0x114, 0, 32⟩
def ETH.HOST_CFG_TX_RING : Fld := ⟨0x114, 0, 8⟩
def ETH.HOST_CFG_RX_RING : Fld := ⟨0x114, 8, 8⟩
def ETH.HOST_CFG_RX_CLASSES : Fld := ⟨0x114, 16, 5⟩
def ETH.HOST_CFG_HOST_EN : Fld := ⟨0x114, 24, 1⟩
def ETH.HOST_QUEUE : Fld := ⟨0x118, 0, 32⟩
def ETH.HOST_QUEUE_QUEUE : Fld := ⟨0x118, 0, 13⟩
def ETH.FEC_SYMBOLS : Fld := ⟨0x120, 0, 32⟩
def ETH.TX_FRAMES : Fld := ⟨0x124, 0, 32⟩
def ETH.RX_FRAMES : Fld := ⟨0x128, 0, 32⟩
def ETH.LANE_MODE_NEXT : Fld := ⟨0x130, 0, 32⟩
def ETH.LANE_MODE_NEXT_MODE : Fld := ⟨0x130, 0, 2⟩
def ETH.SUB_GROUP (n : Nat) : Fld := ⟨0x400 + n * 0x8, 0, 32⟩
def ETH.SUB_SOURCE (n : Nat) : Fld := ⟨0x404 + n * 0x8, 0, 32⟩
def ETH.intLINK_UP : Nat := 8
def ETH.intLINK_DOWN : Nat := 9
def ETH.intAN_FAIL : Nat := 10
def ETH.intFEC_UNCORR : Nat := 11
def ETH.intHOST_RX_DROP : Nat := 12
def ETH.intTX_STAMP : Nat := 13
def ETH.rawUP : Nat := 8

/-! Fields of TSCH. -/
def TSCH.Q_CMD : Fld := ⟨0x100, 0, 32⟩
def TSCH.Q_CMD_QUEUE : Fld := ⟨0x100, 0, 16⟩
def TSCH.Q_CMD_OP : Fld := ⟨0x100, 16, 4⟩
def TSCH.SHAPE_RATE : Fld := ⟨0x104, 0, 32⟩
def TSCH.SHAPE_RATE_KBPS : Fld := ⟨0x104, 0, 29⟩
def TSCH.SHAPE_BURST : Fld := ⟨0x108, 0, 32⟩
def TSCH.SHAPE_BURST_BYTES : Fld := ⟨0x108, 0, 23⟩
def TSCH.Q_LAST : Fld := ⟨0x10C, 0, 32⟩
def TSCH.Q_LAST_QUEUE : Fld := ⟨0x10C, 0, 16⟩
def TSCH.Q_LAST_OP : Fld := ⟨0x10C, 16, 4⟩
def TSCH.Q_ENABLED : Fld := ⟨0x110, 0, 32⟩
def TSCH.Q_ENABLED_COUNT : Fld := ⟨0x110, 0, 14⟩
def TSCH.POOL_USED : Fld := ⟨0x114, 0, 32⟩
def TSCH.POOL_USED_KIB : Fld := ⟨0x114, 0, 14⟩
def TSCH.CHECK_DETAIL : Fld := ⟨0x118, 0, 32⟩
def TSCH.GL_BASE_LO (n : Nat) : Fld := ⟨0x200 + n * 0x40, 0, 32⟩
def TSCH.GL_BASE_HI (n : Nat) : Fld := ⟨0x204 + n * 0x40, 0, 32⟩
def TSCH.GL_BASE_HI_ADDR (n : Nat) : Fld := ⟨0x204 + n * 0x40, 0, 4⟩
def TSCH.GATE_PHASE (n : Nat) : Fld := ⟨0x208 + n * 0x40, 0, 32⟩
def TSCH.GATE_CTRL (n : Nat) : Fld := ⟨0x20C + n * 0x40, 0, 32⟩
def TSCH.GATE_CTRL_SWAP (n : Nat) : Fld := ⟨0x20C + n * 0x40, 0, 1⟩
def TSCH.GATE_CTRL_CANCEL (n : Nat) : Fld := ⟨0x20C + n * 0x40, 1, 1⟩
def TSCH.GATE_STATUS (n : Nat) : Fld := ⟨0x210 + n * 0x40, 0, 32⟩
def TSCH.GATE_STATUS_IN_FORCE (n : Nat) : Fld := ⟨0x210 + n * 0x40, 0, 1⟩
def TSCH.GATE_STATUS_PENDING (n : Nat) : Fld := ⟨0x210 + n * 0x40, 1, 1⟩
def TSCH.GATE_STATUS_ENTRY (n : Nat) : Fld := ⟨0x210 + n * 0x40, 16, 10⟩
def TSCH.GATE_LIST_ID (n : Nat) : Fld := ⟨0x214 + n * 0x40, 0, 32⟩
def TSCH.SWAP_AT_LO (n : Nat) : Fld := ⟨0x218 + n * 0x40, 0, 32⟩
def TSCH.SWAP_AT_HI (n : Nat) : Fld := ⟨0x21C + n * 0x40, 0, 32⟩
def TSCH.MAXOPEN0 (n : Nat) : Fld := ⟨0x220 + n * 0x40, 0, 32⟩
def TSCH.MAXOPEN1 (n : Nat) : Fld := ⟨0x224 + n * 0x40, 0, 32⟩
def TSCH.MAXOPEN2 (n : Nat) : Fld := ⟨0x228 + n * 0x40, 0, 32⟩
def TSCH.MAXOPEN3 (n : Nat) : Fld := ⟨0x22C + n * 0x40, 0, 32⟩
def TSCH.MAXOPEN4 (n : Nat) : Fld := ⟨0x230 + n * 0x40, 0, 32⟩
def TSCH.MAXOPEN5 (n : Nat) : Fld := ⟨0x234 + n * 0x40, 0, 32⟩
def TSCH.MAXOPEN6 (n : Nat) : Fld := ⟨0x238 + n * 0x40, 0, 32⟩
def TSCH.MAXOPEN7 (n : Nat) : Fld := ⟨0x23C + n * 0x40, 0, 32⟩
def TSCH.intGATE_SWAPPED : Nat := 8
def TSCH.intALT_MOVED : Nat := 9
def TSCH.intQUEUE_DROP : Nat := 10
def TSCH.intGATE_TOO_LONG : Nat := 11

/-! Fields of QTAB. -/
def QTAB.Q_CTRL (n : Nat) : Fld := ⟨0x0 + n * 0x20, 0, 32⟩
def QTAB.Q_CTRL_EN (n : Nat) : Fld := ⟨0x0 + n * 0x20, 0, 1⟩
def QTAB.Q_CTRL_ALT_EN (n : Nat) : Fld := ⟨0x0 + n * 0x20, 1, 1⟩
def QTAB.Q_CTRL_TOKEN_RESET (n : Nat) : Fld := ⟨0x0 + n * 0x20, 2, 1⟩
def QTAB.Q_CTRL_ON_ALT (n : Nat) : Fld := ⟨0x0 + n * 0x20, 3, 1⟩
def QTAB.Q_CTRL_CLASS (n : Nat) : Fld := ⟨0x0 + n * 0x20, 4, 3⟩
def QTAB.Q_CTRL_PORT (n : Nat) : Fld := ⟨0x0 + n * 0x20, 8, 3⟩
def QTAB.Q_CTRL_ALT_PORT (n : Nat) : Fld := ⟨0x0 + n * 0x20, 12, 3⟩
def QTAB.Q_CTRL_MAX_FRAME (n : Nat) : Fld := ⟨0x0 + n * 0x20, 16, 14⟩
def QTAB.Q_RATE (n : Nat) : Fld := ⟨0x4 + n * 0x20, 0, 32⟩
def QTAB.Q_RATE_KBPS (n : Nat) : Fld := ⟨0x4 + n * 0x20, 0, 29⟩
def QTAB.Q_BURST (n : Nat) : Fld := ⟨0x8 + n * 0x20, 0, 32⟩
def QTAB.Q_BURST_BYTES (n : Nat) : Fld := ⟨0x8 + n * 0x20, 0, 23⟩
def QTAB.Q_BUF (n : Nat) : Fld := ⟨0xC + n * 0x20, 0, 32⟩
def QTAB.Q_BUF_KIB (n : Nat) : Fld := ⟨0xC + n * 0x20, 0, 14⟩
def QTAB.Q_OWNER (n : Nat) : Fld := ⟨0x10 + n * 0x20, 0, 32⟩
def QTAB.Q_OWNER_KIND (n : Nat) : Fld := ⟨0x10 + n * 0x20, 0, 2⟩
def QTAB.Q_OWNER_INSTANCE (n : Nat) : Fld := ⟨0x10 + n * 0x20, 8, 6⟩
def QTAB.Q_OWNER_DROPS (n : Nat) : Fld := ⟨0x10 + n * 0x20, 16, 16⟩
def QTAB.Q_OCC (n : Nat) : Fld := ⟨0x14 + n * 0x20, 0, 32⟩
def QTAB.Q_OCC_BYTES (n : Nat) : Fld := ⟨0x14 + n * 0x20, 0, 24⟩
def QTAB.Q_TOK_LO (n : Nat) : Fld := ⟨0x18 + n * 0x20, 0, 32⟩
def QTAB.Q_TOK_HI (n : Nat) : Fld := ⟨0x1C + n * 0x20, 0, 32⟩
def QTAB.Q_TOK_HI_TOKENS (n : Nat) : Fld := ⟨0x1C + n * 0x20, 0, 16⟩

/-! Fields of LANE. -/
def LANE.LANE_INFO : Fld := ⟨0x100, 0, 32⟩
def LANE.LANE_INFO_KIND : Fld := ⟨0x100, 0, 3⟩
def LANE.LANE_INFO_DFE_TAPS : Fld := ⟨0x100, 8, 4⟩
def LANE.LANE_INFO_RATE : Fld := ⟨0x100, 16, 3⟩
def LANE.LANE_CFG : Fld := ⟨0x104, 0, 32⟩
def LANE.LANE_CFG_POL_TX : Fld := ⟨0x104, 0, 1⟩
def LANE.LANE_CFG_POL_RX : Fld := ⟨0x104, 1, 1⟩
def LANE.LANE_CFG_LOOPBACK : Fld := ⟨0x104, 2, 2⟩
def LANE.LANE_CFG_ADAPT_EN : Fld := ⟨0x104, 4, 1⟩
def LANE.LANE_CFG_BOUND_EN : Fld := ⟨0x104, 5, 1⟩
def LANE.LANE_STATUS : Fld := ⟨0x108, 0, 32⟩
def LANE.LANE_STATUS_STATE : Fld := ⟨0x108, 0, 3⟩
def LANE.LANE_STATUS_SIGNAL : Fld := ⟨0x108, 8, 1⟩
def LANE.LANE_STATUS_CDR_LOCK : Fld := ⟨0x108, 9, 1⟩
def LANE.LANE_STATUS_HOST_HOLD : Fld := ⟨0x108, 10, 1⟩
def LANE.LANE_STATUS_GOOD_WINDOWS : Fld := ⟨0x108, 16, 5⟩
def LANE.ADAPT_THRESH : Fld := ⟨0x10C, 0, 32⟩
def LANE.ADAPT_THRESH_DENSITY_MIN : Fld := ⟨0x10C, 0, 13⟩
def LANE.ADAPT_THRESH_BAL_MIN : Fld := ⟨0x10C, 16, 13⟩
def LANE.ADAPT_STATS : Fld := ⟨0x110, 0, 32⟩
def LANE.ADAPT_STATS_DENSITY : Fld := ⟨0x110, 0, 13⟩
def LANE.ADAPT_STATS_BALANCE : Fld := ⟨0x110, 16, 13⟩
def LANE.BOUNDS : Fld := ⟨0x114, 0, 32⟩
def LANE.BOUNDS_CTLE_BOUND : Fld := ⟨0x114, 0, 4⟩
def LANE.BOUNDS_DFE_BOUND : Fld := ⟨0x114, 8, 8⟩
def LANE.LANE_CTRL : Fld := ⟨0x118, 0, 32⟩
def LANE.LANE_CTRL_RETRAIN : Fld := ⟨0x118, 0, 1⟩
def LANE.LANE_CTRL_FREEZE : Fld := ⟨0x118, 1, 1⟩
def LANE.LANE_CTRL_UNFREEZE : Fld := ⟨0x118, 2, 1⟩
def LANE.LANE_CTRL_SNAPSHOT : Fld := ⟨0x118, 3, 1⟩
def LANE.LANE_CTRL_INJECT_SINGLE : Fld := ⟨0x118, 4, 1⟩
def LANE.LANE_CTRL_INJECT_BURST : Fld := ⟨0x118, 5, 1⟩
def LANE.LANE_CTRL_ES_START : Fld := ⟨0x118, 6, 1⟩
def LANE.LANE_CTRL_ES_STOP : Fld := ⟨0x118, 7, 1⟩
def LANE.FFE : Fld := ⟨0x120, 0, 32⟩
def LANE.FFE_PRE : Fld := ⟨0x120, 0, 6⟩
def LANE.FFE_MAIN : Fld := ⟨0x120, 8, 6⟩
def LANE.FFE_POST : Fld := ⟨0x120, 16, 6⟩
def LANE.CTLE : Fld := ⟨0x124, 0, 32⟩
def LANE.CTLE_PEAK : Fld := ⟨0x124, 0, 5⟩
def LANE.DFE (n : Nat) : Fld := ⟨0x128 + n * 0x4, 0, 32⟩
def LANE.BASE_CTLE : Fld := ⟨0x134, 0, 32⟩
def LANE.BASE_CTLE_PEAK : Fld := ⟨0x134, 0, 5⟩
def LANE.BASE_DFE (n : Nat) : Fld := ⟨0x138 + n * 0x4, 0, 32⟩
def LANE.ES_CTRL : Fld := ⟨0x150, 0, 32⟩
def LANE.ES_CTRL_H : Fld := ⟨0x150, 0, 7⟩
def LANE.ES_CTRL_V : Fld := ⟨0x150, 8, 8⟩
def LANE.ES_CTRL_EYE : Fld := ⟨0x150, 16, 2⟩
def LANE.ES_CTRL_DWELL : Fld := ⟨0x150, 24, 6⟩
def LANE.ES_STATUS : Fld := ⟨0x154, 0, 32⟩
def LANE.ES_STATUS_DONE : Fld := ⟨0x154, 0, 1⟩
def LANE.ES_STATUS_BUSY : Fld := ⟨0x154, 1, 1⟩
def LANE.ES_STATUS_DISTURBED : Fld := ⟨0x154, 2, 1⟩
def LANE.ES_ERR_LO : Fld := ⟨0x158, 0, 32⟩
def LANE.ES_ERR_HI : Fld := ⟨0x15C, 0, 32⟩
def LANE.ES_ERR_HI_ERRORS : Fld := ⟨0x15C, 0, 16⟩
def LANE.TEST_CFG : Fld := ⟨0x160, 0, 32⟩
def LANE.TEST_CFG_GEN_EN : Fld := ⟨0x160, 0, 1⟩
def LANE.TEST_CFG_GEN_PAT : Fld := ⟨0x160, 1, 3⟩
def LANE.TEST_CFG_CHK_EN : Fld := ⟨0x160, 4, 1⟩
def LANE.TEST_CFG_CHK_PAT : Fld := ⟨0x160, 5, 3⟩
def LANE.TEST_CFG_BURST_LEN : Fld := ⟨0x160, 8, 8⟩
def LANE.TEST_CFG_RATE_EXP : Fld := ⟨0x160, 16, 6⟩
def LANE.PRBS_STATUS : Fld := ⟨0x164, 0, 32⟩
def LANE.PRBS_STATUS_CHK_LOCK : Fld := ⟨0x164, 0, 1⟩
def LANE.PRBS_STATUS_LOCK_LOSSES : Fld := ⟨0x164, 16, 16⟩
def LANE.PRBS_ERRORS : Fld := ⟨0x168, 0, 32⟩
def LANE.PRBS_BITS_LO : Fld := ⟨0x16C, 0, 32⟩
def LANE.PRBS_BITS_HI : Fld := ⟨0x170, 0, 32⟩
def LANE.PRBS_BITS_HI_COUNT : Fld := ⟨0x170, 0, 16⟩
def LANE.intFROZE : Nat := 8
def LANE.intRESUMED : Nat := 9
def LANE.intBOUND_REVERT : Nat := 10
def LANE.intES_DONE : Nat := 11
def LANE.intCHK_LOCK : Nat := 12
def LANE.intCHK_LOST : Nat := 13
def LANE.intTRAINED : Nat := 14
def LANE.intRETRAIN_FAILED : Nat := 15
def LANE.intCDR_LOST : Nat := 16
def LANE.rawFROZEN : Nat := 8
def LANE.rawCDR_LOCK : Nat := 9

/-! Fields of MEMC. -/
def MEMC.MEMC_INFO : Fld := ⟨0x100, 0, 32⟩
def MEMC.MEMC_INFO_CAPACITY : Fld := ⟨0x100, 0, 2⟩
def MEMC.MEMC_INFO_MAP_POS : Fld := ⟨0x100, 8, 4⟩
def MEMC.MEMC_INFO_RATE : Fld := ⟨0x100, 16, 16⟩
def MEMC.MAP_CFG : Fld := ⟨0x104, 0, 32⟩
def MEMC.MAP_CFG_MAP_MASK : Fld := ⟨0x104, 0, 16⟩
def MEMC.MAP_CFG_N : Fld := ⟨0x104, 16, 5⟩
def MEMC.MAP_CFG_SPARE_EN : Fld := ⟨0x104, 24, 1⟩
def MEMC.MEMC_STATUS : Fld := ⟨0x108, 0, 32⟩
def MEMC.MEMC_STATUS_HOT : Fld := ⟨0x108, 0, 1⟩
def MEMC.MEMC_STATUS_QUARTER : Fld := ⟨0x108, 1, 1⟩
def MEMC.MEMC_STATUS_OWED : Fld := ⟨0x108, 4, 4⟩
def MEMC.MEMC_STATUS_REMAPPED : Fld := ⟨0x108, 8, 1⟩
def MEMC.MEMC_STATUS_SPARE_USED : Fld := ⟨0x108, 9, 1⟩
def MEMC.MEMC_STATUS_APPLY_PENDING : Fld := ⟨0x108, 10, 1⟩
def MEMC.MEMC_STATUS_HIGH_WINDOWS : Fld := ⟨0x108, 16, 4⟩
def MEMC.REF_CFG : Fld := ⟨0x10C, 0, 32⟩
def MEMC.REF_CFG_TEMP_SRC : Fld := ⟨0x10C, 0, 2⟩
def MEMC.REF_CFG_POLL_MS : Fld := ⟨0x10C, 8, 5⟩
def MEMC.PNR_CFG : Fld := ⟨0x110, 0, 32⟩
def MEMC.PNR_CFG_EN : Fld := ⟨0x110, 0, 1⟩
def MEMC.PNR_CFG_K : Fld := ⟨0x110, 8, 4⟩
def MEMC.RR_CFG : Fld := ⟨0x114, 0, 32⟩
def MEMC.RR_CFG_RR_LIMIT : Fld := ⟨0x114, 0, 13⟩
def MEMC.RR_CFG_FAIL_WINDOWS : Fld := ⟨0x114, 16, 4⟩
def MEMC.RR_STATUS : Fld := ⟨0x118, 0, 32⟩
def MEMC.RR_STATUS_COUNT : Fld := ⟨0x118, 0, 16⟩
def MEMC.STEAL_CFG : Fld := ⟨0x11C, 0, 32⟩
def MEMC.STEAL_CFG_STEAL_NS : Fld := ⟨0x11C, 0, 16⟩
def MEMC.DLY_CTRL : Fld := ⟨0x120, 0, 32⟩
def MEMC.DLY_CTRL_APPLY : Fld := ⟨0x120, 0, 1⟩
def MEMC.DLY_CTRL_PROBE_START : Fld := ⟨0x120, 1, 1⟩
def MEMC.NEXT_CA : Fld := ⟨0x140, 0, 32⟩
def MEMC.NEXT_CA_CA : Fld := ⟨0x140, 0, 9⟩
def MEMC.NEXT_CA_CS : Fld := ⟨0x140, 16, 9⟩
def MEMC.NEXT_WCK : Fld := ⟨0x144, 0, 32⟩
def MEMC.NEXT_WCK_WCK : Fld := ⟨0x144, 0, 9⟩
def MEMC.NEXT_RD : Fld := ⟨0x148, 0, 32⟩
def MEMC.NEXT_RD_LANE0 : Fld := ⟨0x148, 0, 9⟩
def MEMC.NEXT_RD_LANE1 : Fld := ⟨0x148, 16, 9⟩
def MEMC.NEXT_WR : Fld := ⟨0x14C, 0, 32⟩
def MEMC.NEXT_WR_LANE0 : Fld := ⟨0x14C, 0, 9⟩
def MEMC.NEXT_WR_LANE1 : Fld := ⟨0x14C, 16, 9⟩
def MEMC.NEXT_RD_SKEW (n : Nat) : Fld := ⟨0x150 + n * 0x4, 0, 32⟩
def MEMC.NEXT_WR_SKEW (n : Nat) : Fld := ⟨0x158 + n * 0x4, 0, 32⟩
def MEMC.NEXT_VREF : Fld := ⟨0x160, 0, 32⟩
def MEMC.NEXT_VREF_RD_VREF : Fld := ⟨0x160, 0, 7⟩
def MEMC.NEXT_VREF_WR_VREF : Fld := ⟨0x160, 8, 7⟩
def MEMC.ACT_CA : Fld := ⟨0x180, 0, 32⟩
def MEMC.ACT_CA_CA : Fld := ⟨0x180, 0, 9⟩
def MEMC.ACT_CA_CS : Fld := ⟨0x180, 16, 9⟩
def MEMC.ACT_WCK : Fld := ⟨0x184, 0, 32⟩
def MEMC.ACT_WCK_WCK : Fld := ⟨0x184, 0, 9⟩
def MEMC.ACT_RD : Fld := ⟨0x188, 0, 32⟩
def MEMC.ACT_RD_LANE0 : Fld := ⟨0x188, 0, 9⟩
def MEMC.ACT_RD_LANE1 : Fld := ⟨0x188, 16, 9⟩
def MEMC.ACT_WR : Fld := ⟨0x18C, 0, 32⟩
def MEMC.ACT_WR_LANE0 : Fld := ⟨0x18C, 0, 9⟩
def MEMC.ACT_WR_LANE1 : Fld := ⟨0x18C, 16, 9⟩
def MEMC.ACT_RD_SKEW (n : Nat) : Fld := ⟨0x190 + n * 0x4, 0, 32⟩
def MEMC.ACT_WR_SKEW (n : Nat) : Fld := ⟨0x198 + n * 0x4, 0, 32⟩
def MEMC.ACT_VREF : Fld := ⟨0x1A0, 0, 32⟩
def MEMC.ACT_VREF_RD_VREF : Fld := ⟨0x1A0, 0, 7⟩
def MEMC.ACT_VREF_WR_VREF : Fld := ⟨0x1A0, 8, 7⟩
def MEMC.PROBE_CFG : Fld := ⟨0x1C0, 0, 32⟩
def MEMC.PROBE_CFG_LANE : Fld := ⟨0x1C0, 0, 1⟩
def MEMC.PROBE_CFG_DIR : Fld := ⟨0x1C0, 1, 1⟩
def MEMC.PROBE_CFG_SLOTS : Fld := ⟨0x1C0, 8, 8⟩
def MEMC.PROBE_CFG_VALUE : Fld := ⟨0x1C0, 16, 9⟩
def MEMC.PROBE_RESULT : Fld := ⟨0x1C4, 0, 32⟩
def MEMC.PROBE_RESULT_PASS : Fld := ⟨0x1C4, 0, 16⟩
def MEMC.PROBE_RESULT_FAIL : Fld := ⟨0x1C4, 16, 16⟩
def MEMC.SHED (n : Nat) : Fld := ⟨0x300 + n * 0x4, 0, 32⟩
def MEMC.SHED_ENTRIES (n : Nat) : Fld := ⟨0x300 + n * 0x4, 0, 32⟩
def MEMC.intRR_HIGH : Nat := 8
def MEMC.intCHANNEL_FAILED : Nat := 9
def MEMC.intHOT : Nat := 10
def MEMC.intCOOL : Nat := 11
def MEMC.intCATCH_UP : Nat := 12
def MEMC.intAPPLIED : Nat := 13
def MEMC.intPROBE_DONE : Nat := 14
def MEMC.intUNCORR : Nat := 15
def MEMC.rawHOT : Nat := 8

/-! Fields of MTX. -/
def MTX.MTX_CFG : Fld := ⟨0x100, 0, 32⟩
def MTX.MTX_CFG_AGE_LIMIT : Fld := ⟨0x100, 0, 16⟩
def MTX.ERR_INFO : Fld := ⟨0x110, 0, 32⟩
def MTX.ERR_INFO_KIND : Fld := ⟨0x110, 0, 3⟩
def MTX.ERR_INFO_MASTER : Fld := ⟨0x110, 8, 4⟩
def MTX.ERR_INFO_TARGET : Fld := ⟨0x110, 16, 6⟩
def MTX.ERR_INFO_WINDOW : Fld := ⟨0x110, 24, 2⟩
def MTX.ERR_ADDR_LO : Fld := ⟨0x114, 0, 32⟩
def MTX.ERR_ADDR_HI : Fld := ⟨0x118, 0, 32⟩
def MTX.ERR_ADDR_HI_ADDR : Fld := ⟨0x118, 0, 4⟩
def MTX.PORT_SEL : Fld := ⟨0x120, 0, 32⟩
def MTX.PORT_SEL_PORT : Fld := ⟨0x120, 0, 6⟩
def MTX.PORT_FLITS : Fld := ⟨0x124, 0, 32⟩
def MTX.PORT_AGED : Fld := ⟨0x128, 0, 32⟩
def MTX.WP_BASE_LO (n : Nat) : Fld := ⟨0x200 + n * 0x20, 0, 32⟩
def MTX.WP_BASE_HI (n : Nat) : Fld := ⟨0x204 + n * 0x20, 0, 32⟩
def MTX.WP_BASE_HI_ADDR (n : Nat) : Fld := ⟨0x204 + n * 0x20, 0, 4⟩
def MTX.WP_LIMIT_LO (n : Nat) : Fld := ⟨0x208 + n * 0x20, 0, 32⟩
def MTX.WP_LIMIT_HI (n : Nat) : Fld := ⟨0x20C + n * 0x20, 0, 32⟩
def MTX.WP_LIMIT_HI_ADDR (n : Nat) : Fld := ⟨0x20C + n * 0x20, 0, 4⟩
def MTX.WP_MASK (n : Nat) : Fld := ⟨0x210 + n * 0x20, 0, 32⟩
def MTX.WP_MASK_MASTERS (n : Nat) : Fld := ⟨0x210 + n * 0x20, 0, 15⟩
def MTX.WP_CTRL (n : Nat) : Fld := ⟨0x214 + n * 0x20, 0, 32⟩
def MTX.WP_CTRL_EN (n : Nat) : Fld := ⟨0x214 + n * 0x20, 0, 1⟩
def MTX.WP_CTRL_LOCK (n : Nat) : Fld := ⟨0x214 + n * 0x20, 1, 1⟩
def MTX.intREPLAY : Nat := 8
def MTX.intUNCORR_FLIT : Nat := 9
def MTX.intDECODE_ERR : Nat := 10
def MTX.intWP_VIOLATION : Nat := 11

/-! Fields of CHK. -/
def CHK.CHK_CFG : Fld := ⟨0x100, 0, 32⟩
def CHK.CHK_CFG_WIDTH : Fld := ⟨0x100, 0, 7⟩
def CHK.CHK_CFG_REFIN : Fld := ⟨0x100, 8, 1⟩
def CHK.CHK_CFG_REFOUT : Fld := ⟨0x100, 9, 1⟩
def CHK.CHK_CFG_FINV : Fld := ⟨0x100, 10, 1⟩
def CHK.CHK_CFG_ORDER : Fld := ⟨0x100, 11, 1⟩
def CHK.CHK_CFG_POLICY : Fld := ⟨0x100, 12, 1⟩
def CHK.CHK_CFG_RING : Fld := ⟨0x100, 16, 8⟩
def CHK.POLY_LO : Fld := ⟨0x104, 0, 32⟩
def CHK.POLY_HI : Fld := ⟨0x108, 0, 32⟩
def CHK.INIT_LO : Fld := ⟨0x10C, 0, 32⟩
def CHK.INIT_HI : Fld := ⟨0x110, 0, 32⟩
def CHK.CHECK_LO : Fld := ⟨0x114, 0, 32⟩
def CHK.CHECK_HI : Fld := ⟨0x118, 0, 32⟩
def CHK.LAST_GOT_LO : Fld := ⟨0x11C, 0, 32⟩
def CHK.LAST_GOT_HI : Fld := ⟨0x120, 0, 32⟩
def CHK.LAST_CALC_LO : Fld := ⟨0x124, 0, 32⟩
def CHK.LAST_CALC_HI : Fld := ⟨0x128, 0, 32⟩
def CHK.RECORDS : Fld := ⟨0x12C, 0, 32⟩
def CHK.intMISMATCH : Nat := 8
def CHK.intSHORT : Nat := 9

/-! Fields of INTC. -/
def INTC.INTC_STATUS : Fld := ⟨0x100, 0, 32⟩
def INTC.INTC_STATUS_PENDING : Fld := ⟨0x100, 0, 12⟩
def INTC.INTC_STATUS_ACTIVE : Fld := ⟨0x100, 16, 12⟩
def INTC.SW_SET : Fld := ⟨0x104, 0, 32⟩
def INTC.SW_SET_SOURCE : Fld := ⟨0x104, 0, 11⟩
def INTC.SW_CLR : Fld := ⟨0x108, 0, 32⟩
def INTC.SW_CLR_SOURCE : Fld := ⟨0x108, 0, 11⟩
def INTC.TGT_CTRL (n : Nat) : Fld := ⟨0x400 + n * 0x10, 0, 32⟩
def INTC.TGT_CTRL_EN (n : Nat) : Fld := ⟨0x400 + n * 0x10, 0, 1⟩
def INTC.CLAIM (n : Nat) : Fld := ⟨0x404 + n * 0x10, 0, 32⟩
def INTC.EOI (n : Nat) : Fld := ⟨0x408 + n * 0x10, 0, 32⟩
def INTC.EOI_SOURCE (n : Nat) : Fld := ⟨0x408 + n * 0x10, 0, 11⟩
def INTC.TGT_STATUS (n : Nat) : Fld := ⟨0x40C + n * 0x10, 0, 32⟩
def INTC.TGT_STATUS_RUN (n : Nat) : Fld := ⟨0x40C + n * 0x10, 0, 5⟩
def INTC.TGT_STATUS_DEPTH (n : Nat) : Fld := ⟨0x40C + n * 0x10, 8, 5⟩
def INTC.TGT_STATUS_RAISED (n : Nat) : Fld := ⟨0x40C + n * 0x10, 13, 1⟩
def INTC.TGT_STATUS_TOP (n : Nat) : Fld := ⟨0x40C + n * 0x10, 16, 11⟩
def INTC.intEOI_MISMATCH : Nat := 8
def INTC.intEOI_EMPTY : Nat := 9
def INTC.intSW_REJECT : Nat := 10

/-! Fields of SRCTAB. -/
def SRCTAB.SRC_CTRL (n : Nat) : Fld := ⟨0x0 + n * 0x10, 0, 32⟩
def SRCTAB.SRC_CTRL_ENABLE (n : Nat) : Fld := ⟨0x0 + n * 0x10, 0, 1⟩
def SRCTAB.SRC_CTRL_PRIO (n : Nat) : Fld := ⟨0x0 + n * 0x10, 4, 4⟩
def SRCTAB.SRC_CTRL_KIND (n : Nat) : Fld := ⟨0x0 + n * 0x10, 8, 2⟩
def SRCTAB.SRC_CTRL_PEND (n : Nat) : Fld := ⟨0x0 + n * 0x10, 10, 1⟩
def SRCTAB.SRC_CTRL_STATE (n : Nat) : Fld := ⟨0x0 + n * 0x10, 12, 3⟩
def SRCTAB.SRC_CTRL_GONE (n : Nat) : Fld := ⟨0x0 + n * 0x10, 15, 1⟩
def SRCTAB.SRC_CTRL_TARGET (n : Nat) : Fld := ⟨0x0 + n * 0x10, 16, 7⟩
def SRCTAB.SRC_CTRL_LAST (n : Nat) : Fld := ⟨0x0 + n * 0x10, 24, 7⟩
def SRCTAB.TMASK0 (n : Nat) : Fld := ⟨0x4 + n * 0x10, 0, 32⟩
def SRCTAB.TMASK1 (n : Nat) : Fld := ⟨0x8 + n * 0x10, 0, 32⟩
def SRCTAB.TMASK2 (n : Nat) : Fld := ⟨0xC + n * 0x10, 0, 32⟩
def SRCTAB.TMASK2_T64_72 (n : Nat) : Fld := ⟨0xC + n * 0x10, 0, 9⟩

/-! Fields of INTCSUM. -/
def INTCSUM.PEND_SUM (n : Nat) : Fld := ⟨0x0 + n * 0x4, 0, 32⟩
def INTCSUM.ACTIVE_SUM (n : Nat) : Fld := ⟨0x100 + n * 0x4, 0, 32⟩

/-! Fields of TASK. -/
def TASK.SUMP_BASE_LO : Fld := ⟨0x100, 0, 32⟩
def TASK.SUMP_BASE_HI : Fld := ⟨0x104, 0, 32⟩
def TASK.SUMP_BASE_HI_ADDR : Fld := ⟨0x104, 0, 4⟩
def TASK.SUMP_SIZE : Fld := ⟨0x108, 0, 32⟩
def TASK.SUMP_SIZE_MIB : Fld := ⟨0x108, 0, 5⟩
def TASK.TASK_STATUS : Fld := ⟨0x10C, 0, 32⟩
def TASK.TASK_STATUS_CORES_BUSY : Fld := ⟨0x10C, 0, 8⟩
def TASK.TASK_STATUS_LOWEST_PRIO : Fld := ⟨0x10C, 8, 6⟩
def TASK.TASK_STATUS_SWAP_ACTIVE : Fld := ⟨0x10C, 16, 1⟩
def TASK.TASK_STATUS_BANK : Fld := ⟨0x10C, 17, 1⟩
def TASK.THREAD_COUNT : Fld := ⟨0x110, 0, 32⟩
def TASK.THREAD_COUNT_ON_CHIP : Fld := ⟨0x110, 0, 11⟩
def TASK.THREAD_COUNT_IN_SUMP : Fld := ⟨0x110, 16, 16⟩
def TASK.FETCH_MAX : Fld := ⟨0x114, 0, 32⟩
def TASK.FETCH_MAX_NS : Fld := ⟨0x114, 0, 16⟩
def TASK.THREAD_SEL : Fld := ⟨0x118, 0, 32⟩
def TASK.THREAD_SEL_ID : Fld := ⟨0x118, 0, 16⟩
def TASK.THREAD_INFO : Fld := ⟨0x11C, 0, 32⟩
def TASK.THREAD_INFO_STATE : Fld := ⟨0x11C, 0, 3⟩
def TASK.THREAD_INFO_IN_SUMP : Fld := ⟨0x11C, 3, 1⟩
def TASK.THREAD_INFO_PRIO : Fld := ⟨0x11C, 4, 6⟩
def TASK.THREAD_INFO_CORE : Fld := ⟨0x11C, 12, 3⟩
def TASK.THREAD_INFO_WAIT_KIND : Fld := ⟨0x11C, 16, 2⟩
def TASK.THREAD_INFO_TIMED : Fld := ⟨0x11C, 18, 1⟩
def TASK.THREAD_INFO_FLOW : Fld := ⟨0x11C, 20, 12⟩
def TASK.CMD_CFG : Fld := ⟨0x120, 0, 32⟩
def TASK.CMD_CFG_CMD_RING : Fld := ⟨0x120, 0, 8⟩
def TASK.CMD_CFG_RESULT_RING : Fld := ⟨0x120, 8, 8⟩
def TASK.CMD_CFG_PRIO : Fld := ⟨0x120, 16, 6⟩
def TASK.CMD_CFG_EN : Fld := ⟨0x120, 24, 1⟩
def TASK.CMD_ABORT : Fld := ⟨0x124, 0, 32⟩
def TASK.CMD_ABORT_TAG : Fld := ⟨0x124, 0, 32⟩
def TASK.CMD_STATUS : Fld := ⟨0x128, 0, 32⟩
def TASK.CMD_STATUS_QUEUED : Fld := ⟨0x128, 0, 9⟩
def TASK.CMD_STATUS_RUNNING : Fld := ⟨0x128, 16, 9⟩
def TASK.FW_ACTIVE_VER : Fld := ⟨0x12C, 0, 32⟩
def TASK.FW_LOADED_VER : Fld := ⟨0x130, 0, 32⟩
def TASK.FW_STATUS : Fld := ⟨0x134, 0, 32⟩
def TASK.FW_STATUS_BANK : Fld := ⟨0x134, 0, 1⟩
def TASK.FW_STATUS_LOADED : Fld := ⟨0x134, 1, 1⟩
def TASK.FW_STATUS_ABI : Fld := ⟨0x134, 8, 8⟩
def TASK.FW_LAST_PAUSE : Fld := ⟨0x138, 0, 32⟩
def TASK.FW_LAST_PAUSE_NS : Fld := ⟨0x138, 0, 17⟩
def TASK.intCMD_DONE : Nat := 8
def TASK.intSUMP_SPILL : Nat := 9
def TASK.intSUMP_FULL : Nat := 10
def TASK.intFW_SWAPPED : Nat := 11
def TASK.intFW_SWAP_FAILED : Nat := 12
def TASK.rawIN_SUMP : Nat := 8

/-! Fields of HOST. -/
def HOST.HOST_CFG : Fld := ⟨0x100, 0, 32⟩
def HOST.HOST_CFG_AP_WRITE_EN : Fld := ⟨0x100, 0, 1⟩
def HOST.APERTURE_BASE_LO : Fld := ⟨0x104, 0, 32⟩
def HOST.APERTURE_BASE_LO_ADDR : Fld := ⟨0x104, 0, 32⟩
def HOST.APERTURE_BASE_HI : Fld := ⟨0x108, 0, 32⟩
def HOST.APERTURE_BASE_HI_ADDR : Fld := ⟨0x108, 0, 4⟩
def HOST.LINK_STATUS : Fld := ⟨0x10C, 0, 32⟩
def HOST.LINK_STATUS_SPEED : Fld := ⟨0x10C, 0, 3⟩
def HOST.LINK_STATUS_WIDTH : Fld := ⟨0x10C, 4, 4⟩
def HOST.LINK_STATUS_DL_UP : Fld := ⟨0x10C, 8, 1⟩
def HOST.LINK_STATUS_RETRAINING : Fld := ⟨0x10C, 9, 1⟩
def HOST.LINK_STATUS_CLK_MODE : Fld := ⟨0x10C, 12, 2⟩
def HOST.HOST_CTRL : Fld := ⟨0x110, 0, 32⟩
def HOST.HOST_CTRL_RETRAIN : Fld := ⟨0x110, 0, 1⟩
def HOST.LANES_OK : Fld := ⟨0x114, 0, 32⟩
def HOST.LANES_OK_LANES : Fld := ⟨0x114, 0, 8⟩
def HOST.MSIX_ADDR_LO (n : Nat) : Fld := ⟨0x400 + n * 0x10, 0, 32⟩
def HOST.MSIX_ADDR_HI (n : Nat) : Fld := ⟨0x404 + n * 0x10, 0, 32⟩
def HOST.MSIX_DATA (n : Nat) : Fld := ⟨0x408 + n * 0x10, 0, 32⟩
def HOST.MSIX_CTRL (n : Nat) : Fld := ⟨0x40C + n * 0x10, 0, 32⟩
def HOST.MSIX_CTRL_MASK (n : Nat) : Fld := ⟨0x40C + n * 0x10, 0, 1⟩
def HOST.MSIX_PBA (n : Nat) : Fld := ⟨0x800 + n * 0x4, 0, 32⟩
def HOST.intLINK_UP : Nat := 8
def HOST.intLINK_DOWN : Nat := 9
def HOST.intWIDTH_CHANGED : Nat := 10
def HOST.intSPEED_CHANGED : Nat := 11
def HOST.intAER_CORR : Nat := 12
def HOST.intAER_UNCORR : Nat := 13

/-! Fields of DMA. -/
def DMA.RING_CFG : Fld := ⟨0x100, 0, 32⟩
def DMA.RING_CFG_ROLE : Fld := ⟨0x100, 0, 4⟩
def DMA.RING_CFG_LOG2_SIZE : Fld := ⟨0x100, 8, 5⟩
def DMA.RING_CFG_SOURCE : Fld := ⟨0x100, 16, 6⟩
def DMA.DESC_BASE_LO : Fld := ⟨0x104, 0, 32⟩
def DMA.DESC_BASE_HI : Fld := ⟨0x108, 0, 32⟩
def DMA.CPL_BASE_LO : Fld := ⟨0x10C, 0, 32⟩
def DMA.CPL_BASE_HI : Fld := ⟨0x110, 0, 32⟩
def DMA.TAIL : Fld := ⟨0x114, 0, 32⟩
def DMA.HEAD : Fld := ⟨0x118, 0, 32⟩
def DMA.DONE : Fld := ⟨0x11C, 0, 32⟩
def DMA.COAL : Fld := ⟨0x120, 0, 32⟩
def DMA.COAL_COUNT : Fld := ⟨0x120, 0, 8⟩
def DMA.COAL_TIME_US : Fld := ⟨0x120, 8, 16⟩
def DMA.BYTES_LO : Fld := ⟨0x124, 0, 32⟩
def DMA.BYTES_HI : Fld := ⟨0x128, 0, 32⟩
def DMA.intCPL : Nat := 8
def DMA.intNO_ROOM : Nat := 9
def DMA.intDESC_ERR : Nat := 10
def DMA.intHOST_ERR : Nat := 11
def DMA.intTOO_LONG : Nat := 12

/-! Fields of MGMT. -/
def MGMT.PHASE_STATUS : Fld := ⟨0x100, 0, 32⟩
def MGMT.PHASE_STATUS_PHASE : Fld := ⟨0x100, 0, 3⟩
def MGMT.PHASE_STATUS_BOOT_SLOT : Fld := ⟨0x100, 4, 1⟩
def MGMT.PHASE_STATUS_BOOT_CAUSE : Fld := ⟨0x100, 8, 4⟩
def MGMT.PHASE_STATUS_SELFTEST_OK : Fld := ⟨0x100, 16, 1⟩
def MGMT.IMAGE_VER : Fld := ⟨0x104, 0, 32⟩
def MGMT.SLOT_STATE : Fld := ⟨0x108, 0, 32⟩
def MGMT.SLOT_STATE_STATE_A : Fld := ⟨0x108, 0, 2⟩
def MGMT.SLOT_STATE_TRIALS_A : Fld := ⟨0x108, 4, 3⟩
def MGMT.SLOT_STATE_STATE_B : Fld := ⟨0x108, 8, 2⟩
def MGMT.SLOT_STATE_TRIALS_B : Fld := ⟨0x108, 12, 3⟩
def MGMT.SELFTEST_RESULT : Fld := ⟨0x10C, 0, 32⟩
def MGMT.CHMB_FAILED : Fld := ⟨0x110, 0, 32⟩
def MGMT.CHMB_FAILED_CHAMBERS : Fld := ⟨0x110, 0, 18⟩
def MGMT.TRUST_STATUS : Fld := ⟨0x114, 0, 32⟩
def MGMT.TRUST_STATUS_KEY_INDEX : Fld := ⟨0x114, 0, 2⟩
def MGMT.TRUST_STATUS_SEC_COUNTER : Fld := ⟨0x114, 8, 6⟩
def MGMT.UPD_ADDR_LO : Fld := ⟨0x120, 0, 32⟩
def MGMT.UPD_ADDR_HI : Fld := ⟨0x124, 0, 32⟩
def MGMT.UPD_ADDR_HI_ADDR : Fld := ⟨0x124, 0, 4⟩
def MGMT.UPD_LEN : Fld := ⟨0x128, 0, 32⟩
def MGMT.UPD_LEN_BYTES : Fld := ⟨0x128, 0, 24⟩
def MGMT.MGMT_CMD : Fld := ⟨0x12C, 0, 32⟩
def MGMT.MGMT_CMD_OP : Fld := ⟨0x12C, 0, 4⟩
def MGMT.MGMT_CMD_TRIALS : Fld := ⟨0x12C, 8, 3⟩
def MGMT.NOR_ADDR : Fld := ⟨0x130, 0, 32⟩
def MGMT.NOR_ADDR_ADDR : Fld := ⟨0x130, 0, 25⟩
def MGMT.NOR_LEN : Fld := ⟨0x134, 0, 32⟩
def MGMT.NOR_LEN_BYTES : Fld := ⟨0x134, 0, 26⟩
def MGMT.HOST_WDT_CFG : Fld := ⟨0x140, 0, 32⟩
def MGMT.HOST_WDT_CFG_PERIOD_MS : Fld := ⟨0x140, 0, 16⟩
def MGMT.HOST_WDT_CFG_ACTION : Fld := ⟨0x140, 16, 1⟩
def MGMT.HOST_WDT_CFG_EN : Fld := ⟨0x140, 31, 1⟩
def MGMT.HOST_WDT_KICK : Fld := ⟨0x144, 0, 32⟩
def MGMT.LOGM_HEAD_LO : Fld := ⟨0x150, 0, 32⟩
def MGMT.LOGM_HEAD_HI : Fld := ⟨0x154, 0, 32⟩
def MGMT.LOGP_SEQ : Fld := ⟨0x158, 0, 32⟩
def MGMT.LOG_CFG : Fld := ⟨0x15C, 0, 32⟩
def MGMT.LOG_CFG_NOR_MIN_SEV : Fld := ⟨0x15C, 0, 3⟩
def MGMT.LOG_CFG_NOR_RATE : Fld := ⟨0x15C, 8, 8⟩
def MGMT.LOG_DROPPED : Fld := ⟨0x160, 0, 32⟩
def MGMT.intHANDED_OVER : Nat := 8
def MGMT.intHOST_WDT_EXPIRED : Nat := 9
def MGMT.intLANTERN_RESTARTED : Nat := 10
def MGMT.intLOG_DROP : Nat := 11

/-! Fields of SENS. -/
def SENS.JUNCTION : Fld := ⟨0x100, 0, 32⟩
def SENS.JUNCTION_VALUE : Fld := ⟨0x100, 0, 16⟩
def SENS.TEMP (n : Nat) : Fld := ⟨0x110 + n * 0x10, 0, 32⟩
def SENS.TEMP_VALUE (n : Nat) : Fld := ⟨0x110 + n * 0x10, 0, 16⟩
def SENS.TEMP_VALID (n : Nat) : Fld := ⟨0x110 + n * 0x10, 16, 1⟩
def SENS.TEMP_MINMAX (n : Nat) : Fld := ⟨0x114 + n * 0x10, 0, 32⟩
def SENS.TEMP_MINMAX_MIN (n : Nat) : Fld := ⟨0x114 + n * 0x10, 0, 16⟩
def SENS.TEMP_MINMAX_MAX (n : Nat) : Fld := ⟨0x114 + n * 0x10, 16, 16⟩
def SENS.TEMP_WARN (n : Nat) : Fld := ⟨0x118 + n * 0x10, 0, 32⟩
def SENS.TEMP_WARN_WARN (n : Nat) : Fld := ⟨0x118 + n * 0x10, 0, 16⟩
def SENS.VOLT (n : Nat) : Fld := ⟨0x200 + n * 0x10, 0, 32⟩
def SENS.VOLT_VALUE (n : Nat) : Fld := ⟨0x200 + n * 0x10, 0, 16⟩
def SENS.VOLT_VALID (n : Nat) : Fld := ⟨0x200 + n * 0x10, 16, 1⟩
def SENS.VOLT_MINMAX (n : Nat) : Fld := ⟨0x204 + n * 0x10, 0, 32⟩
def SENS.VOLT_MINMAX_MIN (n : Nat) : Fld := ⟨0x204 + n * 0x10, 0, 16⟩
def SENS.VOLT_MINMAX_MAX (n : Nat) : Fld := ⟨0x204 + n * 0x10, 16, 16⟩
def SENS.VOLT_LIM (n : Nat) : Fld := ⟨0x208 + n * 0x10, 0, 32⟩
def SENS.VOLT_LIM_VOLT_LOW (n : Nat) : Fld := ⟨0x208 + n * 0x10, 0, 16⟩
def SENS.VOLT_LIM_VOLT_HIGH (n : Nat) : Fld := ⟨0x208 + n * 0x10, 16, 16⟩
def SENS.SENS_CLEAR : Fld := ⟨0x300, 0, 32⟩
def SENS.intTEMP_WARN : Nat := 8
def SENS.intVOLT_WARN : Nat := 9
def SENS.intOVERTEMP : Nat := 10
def SENS.rawTEMP_WARN : Nat := 8

/-! Fields of PWR. -/
def PWR.GOV_CFG : Fld := ⟨0x100, 0, 32⟩
def PWR.GOV_CFG_COOL_DELAY_MS : Fld := ⟨0x100, 0, 16⟩
def PWR.GOV_CFG_HOLD_WARM : Fld := ⟨0x100, 16, 1⟩
def PWR.GOV_STATUS : Fld := ⟨0x104, 0, 32⟩
def PWR.GOV_STATUS_BUSY : Fld := ⟨0x104, 0, 1⟩
def PWR.GOV_STATUS_DIRECTION : Fld := ⟨0x104, 1, 1⟩
def PWR.GOV_STATUS_STAGES : Fld := ⟨0x104, 16, 9⟩
def PWR.DOMAIN_WARM : Fld := ⟨0x108, 0, 32⟩
def PWR.DOMAIN_WARM_CHMB : Fld := ⟨0x108, 0, 18⟩
def PWR.DOMAIN_WARM_LOOK : Fld := ⟨0x108, 18, 1⟩
def PWR.DOMAIN_WARM_COMP : Fld := ⟨0x108, 19, 1⟩
def PWR.DOMAIN_WARM_DEC : Fld := ⟨0x108, 20, 2⟩
def PWR.CORE_EST : Fld := ⟨0x10C, 0, 32⟩
def PWR.CORE_EST_CURRENT : Fld := ⟨0x10C, 0, 12⟩
def PWR.WAKE_LAST : Fld := ⟨0x110, 0, 32⟩
def PWR.WAKE_LAST_NS : Fld := ⟨0x110, 0, 16⟩
def PWR.OT_CFG : Fld := ⟨0x114, 0, 32⟩
def PWR.OT_CFG_HOLD_MS : Fld := ⟨0x114, 0, 10⟩
def PWR.intWAKE_DONE : Nat := 8
def PWR.intCOOLED : Nat := 9
def PWR.intOT_ACTION : Nat := 10

end F

/-- The INT_STATUS bits that a unit type has: the seven common bits and its own (R33; the event tables of spec/02 to 23). -/
def UnitType.intBits : UnitType → Nat
  | .dir => 0x17F
  | .sys => 0x7F
  | .time => 0x7F7F
  | .sdirx => 0x1FF7F
  | .ipin => 0x1FF7F
  | .src => 0x3F7F
  | .scal => 0x7F
  | .chan => 0x3FFF7F
  | .chmb => 0x17F
  | .look => 0x7F
  | .grp => 0x7F
  | .refp => 0xF7F
  | .dec => 0xFFF7F
  | .sditx => 0x17F
  | .pair => 0x1FFF7F
  | .rope => 0xFF7F
  | .eth => 0x3F7F
  | .tsch => 0xF7F
  | .lane => 0x1FF7F
  | .memc => 0xFF7F
  | .mtx => 0xF7F
  | .chk => 0x37F
  | .intc => 0x77F
  | .task => 0x1F7F
  | .host => 0x3F7F
  | .dma => 0x1F7F
  | .mgmt => 0xF7F
  | .sens => 0x77F
  | .pwr => 0x77F

end Sys2Proof.Machine
end

