-- ==== Sys2Proof/Machine/Tab.lean ====
section
/-! DEFINITION. Sparse tables: lists of (key, value) pairs in one canonical form, keys strictly rising and no entry equal
to what an unlisted key reads as. Memory, the register file and the tables of per-instance state are kept this way. -/

namespace Sys2Proof.Machine

/-- A table of values by number. -/
abbrev Tab (α : Type) := List (Nat × α)

/-- The value at `k`, or `d` where the table lists none. -/
def Tab.get {α : Type} (d : α) : Tab α → Nat → α
  | [], _ => d
  | (j, v) :: t, k => if k = j then v else if k < j then d else Tab.get d t k

/-- List `v` at `k`, keeping the keys rising. -/
def Tab.put {α : Type} : Tab α → Nat → α → Tab α
  | [], k, v => [(k, v)]
  | (j, w) :: t, k, v =>
    if k = j then (k, v) :: t else if k < j then (k, v) :: (j, w) :: t else (j, w) :: Tab.put t k v

/-- Unlist `k`. -/
def Tab.del {α : Type} : Tab α → Nat → Tab α
  | [], _ => []
  | (j, w) :: t, k => if k = j then t else if k < j then (j, w) :: t else (j, w) :: Tab.del t k

/-- Store `v` at `k` in a table whose unlisted keys read `d`: a value equal to `d` removes the entry. -/
def Tab.set {α : Type} [DecidableEq α] (d : α) (t : Tab α) (k : Nat) (v : α) : Tab α :=
  if v = d then t.del k else t.put k v

/-- Keys strictly rising. -/
def Tab.rising {α : Type} : Tab α → Bool
  | [] => true
  | [_] => true
  | (j, _) :: (k, w) :: t => decide (j < k) && Tab.rising ((k, w) :: t)

/-- The canonical form over default `d : Nat → α` (what each unlisted key reads as). -/
def Tab.wf {α : Type} [DecidableEq α] (d : Nat → α) (t : Tab α) : Bool :=
  t.rising && t.all (fun p => !decide (p.2 = d p.1))

/-- Update the value at `k` by `f`. -/
def Tab.upd {α : Type} [DecidableEq α] (d : α) (t : Tab α) (k : Nat) (f : α → α) : Tab α :=
  t.set d k (f (t.get d k))

end Sys2Proof.Machine
end

