-- ==== Sys2Proof/Machine/State.lean ====
section
/-! DEFINITION. The state of the block as plain data: the register file of BAR0, memory, the state that the chapters
give each unit beside its registers, and the queue of commands that wait. INVENTORY.md lists every piece with its rule. -/

namespace Sys2Proof.Machine

/-! ## Pages, enable checks and commits (spec/02) -/

/-- What a page holds beside its registers. -/
structure PageInfo where
  /-- 0 usable, 1 not present in this member or lane mode, 2 marked defective: DIR_ENTRY.ABSENCE (R34). -/
  absence : Nat
  /-- Reason code of the running enable check, 0 when it passes; decided at its point of serialisation (R45). -/
  verdict : Nat
  /-- The captured shadow copy, register address and value (R41). -/
  captured : Tab Word
  /-- Chamber term held or reserved in the SYS totals, px/s (R22, R45). -/
  chmb : Nat
  /-- Memory term held or reserved in the SYS totals, MB/s (R24, R25, R45). -/
  mem : Nat
  /-- FABRIC cycle in which the page last recorded a result (R55). -/
  resultAt : Nat
  /-- Root cycle at which the page entered ON, CHECKING or DRAINING (R41, R43). -/
  since : Nat
  /-- What CHECK_DETAIL or ALLOC_NEED shows if the running check refuses (R135, R156, R220). -/
  info : Nat
  /-- The table that the running check has read: coefficients (R133) or rate model (R207). -/
  table : List Byte
  /-- Layers 1 to 7 held and hidden at the capture, as bits (R123). -/
  held : Nat
  hidden : Nat
  /-- An RW-S register has been written since the capture (R51). -/
  late : Bool
  /-- Kinds of the operations that run beside the one that PAGE_OP shows (R40, R55). -/
  behind : List Nat
deriving DecidableEq, Repr

def PageInfo.reset : PageInfo := ⟨0, 0, [], 0, 0, 0, 0, 0, [], 0, 0, false, []⟩

/-- A group or device commit between request and result. -/
structure CommitRec where
  /-- A request that is not coupled to the peer waits for the next cut-off (R51). -/
  plain : Bool
  /-- Boundaries of the coupled requests that wait, ascending (R288). -/
  reqs : List Nat
  /-- Cut-offs waited for layer readiness (R122). -/
  waits : Nat
  /-- Pages captured, in ascending order (R47, R51). -/
  pages : List Nat
  /-- Every refusing page with its reason code, in ascending order; empty when the check passes (R52). -/
  codes : List (Nat × Nat)
  /-- Old admission terms (page, chamber, memory), to which an abort or a refusal returns (R56). -/
  old : List (Nat × Nat × Nat)
  /-- The check has ended and passed: the commit waits for its boundary (R52). -/
  passed : Bool
  /-- Frame index of the boundary at which it applies (R51). -/
  boundary : Nat
  /-- The commit is coupled: it applies only with the peer's verdict (R288, R289). -/
  paired : Bool
  /-- The peer's last verdict of this group: boundary, pass, configuration digest (R289). -/
  peer : Option (Nat × Bool × Nat)
  /-- Own configuration digest (R289). -/
  ownDigest : Nat
  /-- FABRIC cycle in which the last result of this group was recorded (R55). -/
  resultAt : Nat
  /-- FABRIC cycle of the capture, the point of serialisation (R28, R45). -/
  capturedAt : Nat
deriving DecidableEq, Repr

def CommitRec.reset : CommitRec := ⟨false, [], 0, [], [], [], false, 0, false, none, 0, 0, 0⟩

/-! ## Clocks and time (spec/03) -/

/-- A compare block beside its registers. -/
structure CmpState where
  /-- The effective one-shot target in ns (R74). -/
  target : Nat
  /-- Index of the next periodic fire (R76). -/
  index : Nat
  /-- An arm or a new one-shot target takes effect at the next tick, which then compares it (R64, R74, R75). -/
  fresh : Bool
  /-- The tick in which the arm or the target took effect found it reached: counter ns − target at that tick (R75). -/
  late : Option Nat
deriving DecidableEq, Repr

def CmpState.reset : CmpState := ⟨0, 0, false, none⟩

/-- The clock tree and the time counter beside the TIME registers. -/
structure TimeState where
  /-- Cycles of the service root PLL (12.0 GHz) since power-on, from which every cycle count is taken (R58, R59). -/
  root : Nat
  /-- The 88-bit counter: ns in bits 87 to 24, fraction in bits 23 to 0 (R62). -/
  acc : BitVec 88
  /-- TIME has entered ON with LOAD_MODE 0: the next tick is the first of the counter and leaves it at the load value (R66). -/
  starting : Bool
  /-- TIME is ON with LOAD_MODE 1 and waits for a PPS_IN edge (R66). -/
  waitPps : Bool
  /-- Length of a slew started in the last tick of the slew before it: it begins at the tick after that one (R69). -/
  slewNext : Option Nat
  /-- An INCR written during a slew (R69). -/
  incrPending : Option Word
  /-- SLEW_REMAIN has counted down to 0 and the end of the slew is not yet recorded (R69). -/
  slewEnded : Bool
  /-- The compares (R72, R76). -/
  cmp : Tab CmpState
  /-- Counter ns at which the pulse of each active trigger ends (R85). -/
  trigEnd : Tab Nat
  /-- Root cycle of the tick at which each trigger last fired (R85). -/
  trigTick : Tab Nat
  /-- Counter value (2^-24 ns) at which the leading edge of the pulse of each active trigger is on its ball (R83). -/
  trigEdge : Tab Nat
  /-- Counter ns of the last PPS_IN rising edge (R67). -/
  ppsEdge : Nat
  /-- Level of ball PPS_OUT (R86). -/
  ppsOut : Bool
  /-- One more than the second at which PPS_OUT last rose since the counter started, 0 before the first (R86). -/
  ppsOutSec : Nat
deriving DecidableEq, Repr

def TimeState.reset : TimeState := ⟨0, 0, false, false, none, none, false, [], [], [], [], 0, false, 0⟩

/-! ## Traffic scheduling (spec/14) -/

/-- A frame on its way to a port: its octets from DA up to the FCS, which adds 4 (R324, R341). -/
structure Frame where
  /-- Queue named by the writer (R341). -/
  queue : Nat
  /-- Octets from DA to the last before the FCS. -/
  octets : List Byte
  /-- Channel whose packet it is (R341: CHAN ERR_COUNT7). -/
  chan : Option Nat
  /-- ETH port and TAG of a requested transmit stamp (R324, R326). -/
  stamp : Option (Nat × Nat)
deriving DecidableEq, Repr

/-- Length L from DA to FCS (R341). -/
def Frame.len (f : Frame) : Nat := f.octets.length + 4

/-- A queue beside its table entry. -/
structure QueueState where
  /-- Frames accepted and not yet started, oldest first (R341). -/
  frames : List Frame
  /-- Token count in credit units at FABRIC cycle `tokAt` (R346). -/
  tokens : Int
  tokAt : Nat
  /-- A RETURN takes effect at the next frame boundary (R342, R352). -/
  returning : Bool
deriving DecidableEq, Repr

def QueueState.reset : QueueState := ⟨[], 0, 0, false⟩

/-- A gate list as read (R347): entries (duration, mask), phase, LIST_ID. -/
structure GateList where
  entries : List (Nat × Nat)
  phase : Nat
  id : Nat
deriving DecidableEq, Repr

/-- A port of the scheduler. -/
structure PortState where
  /-- The queue and the frame being sent (R345). -/
  sending : Option (Nat × Frame)
  /-- Last-served queue + 1 of each class, 0 for none (R345). -/
  last : Tab Nat
  /-- The list in force (R348). -/
  gate : Option GateList
  /-- A pending swap: the list to come (none for no list) and S (R351). -/
  swap : Option (Option GateList × Nat)
  /-- FABRIC cycle of the last swap (R55). -/
  swappedAt : Nat
deriving DecidableEq, Repr

def PortState.reset : PortState := ⟨none, [], none, none, 0⟩

/-- TSCH beside its registers. -/
structure TschState where
  /-- Queues 0 to 8,191 (R340). -/
  queues : Tab QueueState
  /-- Ports 0 to 7. -/
  ports : Tab PortState
  /-- Frames that writers hand over, oldest first (R341). -/
  handoff : List Frame
  /-- The queue whose DISABLE waits for its frame in progress (R342). -/
  disabling : Option Nat
deriving DecidableEq, Repr

def TschState.reset : TschState := ⟨[], [], [], none⟩


/-! ## The pair, the Rope link and the packetiser (spec/11 to 13) -/

/-- A row digest that waits to be compared (R274). -/
structure RowDigest where
  n : Nat
  k : Nat
  digest : Nat
  /-- BITS + hdr of the row (R274). -/
  bits : Nat
  /-- Counter ps by which the peer's digest must arrive, 0 for a peer's digest (R274). -/
  due : Nat
deriving DecidableEq, Repr

/-- A DECISION for a row of a refresh picture (R286). -/
structure Decision where
  n : Nat
  k : Nat
  cap : Nat
  qp : Nat
  floor : Bool
  e : Nat
deriving DecidableEq, Repr

/-- What PAIR keeps of a channel (R267, R274, R286). -/
structure PairChan where
  /-- Own digests not yet compared, and the peer's last three (R274). -/
  own : List RowDigest
  peer : List RowDigest
  /-- Results to be taken from the active: frame index, row, bits (R286). -/
  take : List (Nat × Nat × Nat)
  /-- A join: n0 and the frame index of the last refresh picture (R286). -/
  join : Option (Nat × Nat)
  /-- The unit sends, not receives, the snapshot and decisions of this join (R286). -/
  sender : Bool
  decisions : List Decision
  /-- IN_STEP when the link last ceased to be active (R282). -/
  stepAtCut : Bool
  /-- A join that failed after its SNAPSHOT: rows without DECISION of these pictures are coded at floor (R520). -/
  failed : Option (Nat × Nat)
deriving DecidableEq, Repr

def PairChan.reset : PairChan := ⟨[], [], [], none, false, [], false, none⟩

/-- A formed packet as the gate keeps it: sequence number, hand-over in counter ns, its frames by path (R269). -/
structure Packet where
  seq : Nat
  at' : Nat
  frames : List Frame
deriving DecidableEq, Repr

/-- The packetiser of a channel (R328 to R335). -/
structure OutState where
  /-- No picture has been output since the page entered ON (R332). -/
  first : Bool
  /-- A committed change of a TS_STREAM applies from this frame index (R332). -/
  psiAt : Option Nat
  /-- continuity_counter of the next payload packet of each PID (R333). -/
  cc : Tab Nat
  /-- Host records taken and not yet inserted: n, row, packets (R335). -/
  host : List (Nat × Nat × List (List Byte))
  /-- (n, row) of the last host record taken (R335). -/
  lastHost : Option (Nat × Nat)
  /-- Extended sequence number of the last packet passed by the gate (R268). -/
  passed : Option Nat
  /-- Packets that the closed gate retains, oldest first (R269). -/
  retained : List Packet
  /-- The gate has opened at this sequence number, and packets before it do not pass (R269). -/
  opened : Option Nat
deriving DecidableEq, Repr

def OutState.reset : OutState := ⟨true, none, [], [], none, none, [], none⟩

/-- PAIR beside its registers. -/
structure PairState where
  /-- Counter ns of the last peer packet on an Echo entry, or of the timer's restart (R271, R272). -/
  echoAt : Nat
  /-- The timer whose time-out ECHO_SILENT has reported: its start (R272). -/
  silent : Option Nat
  /-- The gate was opened by witness time-out and the unit has not returned to IN_STEP (R270). -/
  witness : Bool
  /-- The peer's role and yielded flag as CLAIM last carried them (R261, R315). -/
  peerPrimary : Bool
  peerYielded : Bool
  /-- A CLAIM exchange is due since the link became active (R265, R284). -/
  exchange : Bool
  /-- A planned switch: F_s, whether this unit sent HANDOVER, and the SEQ it was sent with (R279). -/
  fs : Option Nat
  sender : Bool
  handSeq : Nat
  /-- HANDOVER has been acknowledged (R279). -/
  acked : Bool
  /-- The pending hand-over was asked for by a revert (LAST_SWITCH.CAUSE 3). -/
  revert : Bool
  /-- The claim that the HANDOVER received carries (R279). -/
  carried : Nat
  /-- Counter ns since which the step state has been IN_STEP (R280). -/
  inStepAt : Nat
  /-- Readiness by SRC instance of the last cut-off: own and peer's, as (group × 32 + SRC) keys (R290). -/
  ownReady : Tab Nat
  peerReady : Tab Nat
deriving DecidableEq, Repr

def PairState.reset : PairState := ⟨0, none, false, false, false, false, none, false, 0, false, false, 0, 0, [], []⟩

/-- A sequenced frame sent and not yet acknowledged (R300). -/
structure RopeFrame where
  seq : Nat
  type : Nat
  body : List Byte
  /-- FABRIC cycle at which it was last sent. -/
  sentAt : Nat
deriving DecidableEq, Repr

/-- ROPE beside its registers. -/
structure RopeState where
  /-- Frames held, oldest first, and messages without a number yet: type, body (R300, R301). -/
  held : List RopeFrame
  queued : List (Nat × List Byte)
  /-- The YIELD that awaits its P_ACK: P-sequence, body, FABRIC cycle of its last copy (R302). -/
  yield' : Option (Nat × List Byte × Nat)
  /-- P-sequence last sent and last accepted (R302). -/
  pTx : Nat
  pRx : Nat
  /-- FABRIC cycle of the last valid heartbeat block of any lane, and of each (R305, R306). -/
  beatAt : Nat
  laneBeat : Tab Nat
  /-- HB_COUNT and counter of TIMECK microseconds of the last heartbeat column (R304). -/
  hbCount : Nat
  hbAt : Nat
  /-- AM_COUNT, root cycle of the last AM column, and whether a mask has changed since (R307). -/
  amCount : Nat
  amAt : Nat
  amDue : Bool
  /-- FABRIC cycle of the last NAK for the present NEXT_SEQ (R299). -/
  nakAt : Option Nat
  /-- TX_MASK of the peer, from its latest AM column (R307); lanes whose training handshake is done (R312). -/
  peerTx : Nat
  shaken : Nat
  /-- Both ends' CAPS: peer's accepted, own acknowledged, and the window in force (R313, R314). -/
  capsGot : Bool
  capsAcked : Bool
  window : Nat
  /-- SEQ of the mailbox that awaits acknowledgement (R315). -/
  mboxSeq : Option Nat
  /-- FABRIC cycle at which LINK took its present state, and that a TRAIN_TIMEOUT took it DOWN (R313). -/
  linkAt : Nat
  timedOut : Bool
  /-- A VERSION mismatch holds the link DOWN until RESTART (R313). -/
  versionHeld : Bool
  /-- FABRIC cycle at which the lane in training began, and lost lanes that wait (R308, R309). -/
  trainAt : Nat
  waiting : List Nat
  /-- Failed attempts in a row of each lane: TRIES shows at most 7 of them (R309). -/
  tries : Tab Nat
deriving DecidableEq, Repr

def RopeState.reset : RopeState :=
  ⟨[], [], none, 0, 0, 0, [], 0, 0, 0, 0, false, none, 0, 0, false, false, 256, none, 0, false, false, 0, [], []⟩


/-! ## Channels: pipeline, rate control, references (spec/06 to 09) -/

/-- A picture buffer of a channel's run (R215, R221). -/
structure BufState where
  /-- Mark: FREE 0, CURRENT 1, REFERENCE 2, HELD 3 (R221). -/
  mark : Nat
  /-- Frame index of the picture it holds. -/
  n : Nat
  /-- PIC_TYPE of that picture, its index in its wave and G (R180). -/
  kind : Nat
  wave : Nat
  g : Nat
  /-- Poisoned CTUs (R231). -/
  poisoned : List Nat
deriving DecidableEq, Repr

def BufState.reset : BufState := ⟨0, 0, 0, 0, 0, []⟩

/-- A reference CTU as the reference window of a picture holds it (R223, R229 to R231). -/
structure WinCtu where
  /-- Buffer and CTU. -/
  buf : Nat
  ctu : Nat
  /-- Block 0 has its verdict; its map cannot be used: block 0 failed, or the map reads VOID. -/
  mapped : Bool
  lost : Bool
  /-- Blocks with a verdict: their samples. -/
  blocks : Tab (List Nat)
deriving DecidableEq, Repr

/-- What the controller decides for a row at its release instant (R201, R202). -/
structure RowPlan where
  /-- Cap, bits. -/
  cap : Nat
  /-- Row QP. -/
  qp : Nat
  /-- Coded at floor (R203). -/
  floor : Bool
  /-- Scene-cut row (R151). -/
  cut : Bool
  /-- Class and unscaled prediction (R202, R205). -/
  cls : Nat
  e : Nat
  /-- Header bits and floor row cost (R192, R198). -/
  hdr : Nat
  fr : Nat
deriving DecidableEq, Repr

/-- A row from its release to its output (R139 to R147). -/
structure RowRec where
  plan : RowPlan
  /-- The chamber that holds it (R144). -/
  chamber : Option Nat
  /-- The next CTU to code: the checkpoint stands before it (R140). -/
  next : Nat
  /-- Octets of its substream so far, emulation prevention included (R205). -/
  bytes : List Byte
  /-- The entropy coder at the checkpoint, and the contexts stored for the row below under WPP (R140, R169). -/
  coder : Coder
  wpp : List (Nat × Nat)
  /-- Sums of squared error (R153). -/
  sseY : Nat
  sseC : Nat
  /-- FORCED, RESUMED, MISSING of its status entry (R146, R147, R154). -/
  forced : Bool
  resumed : Bool
  missing : Bool
  /-- It lost its chamber to a fault and waits to be resumed (R146). -/
  lost : Bool
  /-- A CTU was re-coded under R205. -/
  guarded : Bool
  /-- Counter ps at which its coding ended. -/
  endedAt : Option Nat
  /-- Its output instant has passed. -/
  sent : Bool
  /-- qk, tk, crem, s[0] to s[2], qlast, shared occupancy and srem just after its decision (R273). -/
  snap : List Nat
deriving DecidableEq, Repr

/-- A picture in coding (R141, R148, R173, R200). -/
structure PicRec where
  /-- Frame index of the source picture. -/
  n : Nat
  /-- F, the fire time in counter ns of the frame cycle in which it is coded. -/
  fire : Nat
  /-- PIC_TYPE: 0 IDR, 1 GDR first, 2 GDR continuing, 3 inter, 4 skip (R154). -/
  kind : Nat
  /-- Coded under R112 for an absent picture. -/
  absent : Bool
  /-- Index of the wave picture, and G (R179). -/
  wave : Nat
  g : Nat
  /-- The channel's clean area binds it: in or after a wave (R180, R198). -/
  clean : Bool
  /-- POC (R172). -/
  poc : Nat
  /-- References: buffer indices, most recent first (R173). -/
  refs : List Nat
  /-- The buffer it is written to, none for a skip picture (R221). -/
  buf : Option Nat
  /-- Picture budget p and bits spent (R200, R201). -/
  budget : Nat
  spent : Nat
  /-- Rows released so far, by row (R196). -/
  rows : Tab RowRec
  /-- A layer was held or hidden at its commit; the protected layer is shown; samples were missing (R154). -/
  layer : Bool
  prot : Bool
  missing : Bool
  /-- RAW_ONLY was set when its coding began (R229). -/
  raw : Bool
  /-- Rows handed to coding, and their samples by component × 8,192 + line (R141, R143). -/
  fed : Nat
  src : Tab (List Nat)
  /-- CTUs coded so far, by index: CUs, reconstruction before the in-loop filters, SAO; the line state of the filters is what they hold
  (R140). -/
  ctus : Tab CtuRec
  /-- Blocks of the CTUs whose reconstruction is final, 10 bits a sample, by index (R216, R229). -/
  final : Tab (List (List Nat))
  /-- CRC of each component of the decoded picture, once it is whole (R182). -/
  hash : List Nat
  /-- Frame index of the latest IDR picture or wave picture 0 when it started (R180). -/
  origin : Nat
  /-- Its reference window, and the proxy sectors that memory lost: buffer, CTU, sector (R223, R231, R236). -/
  win : List WinCtu
  lostProxy : List (Nat × Nat × Nat)
deriving DecidableEq, Repr

/-- A row in the ledger: its result is not yet applied (R196, R212). -/
structure Ledger where
  n : Nat
  k : Nat
  /-- Output instant, counter ps. -/
  at' : Nat
  cap : Nat
  e : Nat
  cls : Nat
  hdr : Nat
  fr : Nat
  /-- Its bits, once known (R196). -/
  bits : Option Nat
  /-- It may adjust its scale (R205). -/
  learns : Bool
deriving DecidableEq, Repr

/-- The rate-control state of a channel (R212). The scales stand in RC_SCALE. -/
structure RcState where
  /-- Known occupancy in 10^-12 bit and the instant of the last known row, counter ps (R194). -/
  qk : Nat
  tk : Nat
  crem : Nat
  qlast : Nat
  /-- No picture has been coded since the page entered ON (R202). -/
  first : Bool
  /-- Rate in force, bit/s, and the earlier rates, oldest first, each with the instant, counter ps, at which it ended (R209). -/
  rate : Nat
  rates : List (Nat × Nat)
  /-- buf in force, bits (R209). -/
  buf : Nat
  /-- Row sums of INTRA_SUM and COST_SUM of the previous present picture (R201). -/
  prevI : List Nat
  prevC : List Nat
  ledger : List Ledger
  /-- The active table (R207): its octets, address and BODY_CRC. -/
  table : List Byte
  tableAt : Nat
  tableCrc : Nat
deriving DecidableEq, Repr

def RcState.reset : RcState := ⟨0, 0, 0, 51, true, 0, [], 0, [], [], [], [], 0, 0⟩

/-- What LOOK holds of a picture: row sums and presence (R150, R151). -/
structure LookPic where
  n : Nat
  present : Bool
  intra : Tab Nat
  inter : Tab Nat
  cost : Tab Nat
  /-- Proxy samples by v × 2,048 + u (R150). -/
  proxy : Tab Nat
  /-- Rows of the channel with source samples missing (R517). -/
  missing : List Nat
  /-- The protected layer is shown; a layer was held or hidden at its commit (R154). -/
  prot : Bool
  layer : Bool
  /-- Rows analysed so far. -/
  rows : Nat
  /-- Lines that the scaler has written, and those that its line buffers hold: samples by component × 8,192 + line (R137, R143). -/
  lines : Nat
  src : Tab (List Nat)
deriving DecidableEq, Repr

def LookPic.reset : LookPic := ⟨0, false, [], [], [], [], [], false, false, 0, 0, []⟩

/-- Refresh state of a channel (R172, R177 to R179). -/
structure RefreshState where
  /-- Frame index of the latest IDR picture. -/
  nIdr : Nat
  /-- Requests pending, each from the frame index given (R177, R231, R285). -/
  requests : List Nat
  /-- Index of the next wave picture while a wave runs, and its G. -/
  wave : Option Nat
  g : Nat
  /-- A refresh that fell on a skip picture waits, or a wave was abandoned (R178): 0 none, 1 IDR, 2 wave. -/
  deferred : Nat
  /-- Pictures after the last wave obey R180 until the next refresh point. -/
  clean : Bool
  /-- Non-skip pictures since the latest IDR: buffer indices, most recent first (R173). -/
  list : List Nat
  /-- Frame index of the latest IDR picture or wave picture 0 (R180). -/
  start : Nat
deriving DecidableEq, Repr

def RefreshState.reset : RefreshState := ⟨0, [], none, 0, 0, false, [], 0⟩

/-- A channel beside its registers. -/
structure ChanState where
  /-- Pictures in coding, oldest first. -/
  pics : List PicRec
  /-- Pictures that LOOK has analysed or is analysing, oldest first (R150 to R152). -/
  looks : List LookPic
  /-- Proxy of the previous present picture, none before the first (R150, R518). -/
  proxy : Option (Tab Nat)
  /-- Picture buffers of its run (R219, R221). -/
  bufs : List BufState
  refresh : RefreshState
  rc : RcState
  out : OutState
  pair : PairChan
  /-- Earlier active copies, oldest first, each with the frame index from which the one after it applies, for rows of pictures that
  have not been output (R53). -/
  oldCfg : List (Nat × Tab Word)
deriving DecidableEq, Repr

def ChanState.reset : ChanState := ⟨[], [], none, [], .reset, .reset, .reset, .reset, []⟩

/-- A group's pooled state (R211, R212). -/
structure GrpState where
  /-- Shared occupancy in 10^-12 bit and its instant, counter ps. -/
  qs : Nat
  ts : Nat
  srem : Nat
  /-- S in force, bit/s, and its earlier values, oldest first, each with the instant, counter ps, at which it ended (R209, R211). -/
  rate : Nat
  rates : List (Nat × Nat)
  /-- Frame index and fire time, counter ns, of the last frame cycle (R77), and the root cycle at which it started. -/
  n : Nat
  fire : Nat
  rootAt : Nat
  /-- Counter ns at which the ENABLE write of the page was accepted (R496). -/
  enabledNs : Nat
  /-- One more than the index of the last commit cut-off signalled, 0 before the first (R82). -/
  cutoff : Nat
  /-- Root cycle at which a CHAN page of the group last stopped (R213). -/
  leftAt : Nat
deriving DecidableEq, Repr

def GrpState.reset : GrpState := ⟨0, 0, 0, 0, [], 0, 0, 0, 0, 0, 0⟩

/-- A chamber beside its registers. -/
structure ChamberState where
  /-- In the pool: it takes rows and counts toward the limit (R160, R161). -/
  pooled : Bool
  /-- Channel, picture and row that it holds. -/
  row : Option (Nat × Nat × Nat)
  /-- The current CTU has begun, and the CORE cycle at which it did (R138, R139). -/
  begun : Bool
  since : Nat
  /-- It gives up its row at the end of its CTU to the row that waits (R146). -/
  preempt : Bool
  /-- Its drain has taken effect (R160). -/
  drained : Bool
  /-- Its current CTU is coded as a floor CTU (R138, R147). -/
  floorCtu : Bool
  /-- Its current CTU is affected by a poisoned reference, fixed when it began (R232). -/
  affected : Bool
  /-- Counter ns at which it entered ON, while it waits to join the pool (R161). -/
  joinAt : Option Nat
  /-- CORE cycles, first and last, in which it was busy in the last 1,048,576 FABRIC cycles (LOAD). -/
  busy : List (Nat × Nat)
deriving DecidableEq, Repr

def ChamberState.reset : ChamberState := ⟨false, none, false, 0, false, false, false, false, none, []⟩


/-! ## Inputs, sources, scalers, decoders, ports (spec/04, 05, 10, 13) -/

/-- A picture in a line store: its sample groups by line × 4,096 + group, each 40-bit pgroup (Cb, Y0, Cr, Y1) + 1. -/
structure InPic where
  n : Nat
  groups : Tab Nat
deriving DecidableEq, Repr

/-- Which paths have delivered a sequence number, and the picture and line that it starts in (R101, R516). -/
structure SeqRec where
  a : Bool
  b : Bool
  n : Nat
  line : Nat
deriving DecidableEq, Repr

def SeqRec.reset : SeqRec := ⟨false, false, 0, 0⟩

/-- A path of an IPIN page (R101 to R103). -/
structure PathState where
  /-- Counter ns of its last accepted packet (R102). -/
  last : Nat
  /-- Policer tokens in 1/8,000 byte at counter ns `tokAt` (R103). -/
  tokens : Nat
  tokAt : Nat
  /-- Sum and number of the arrival times of its packets, by picture (R102). -/
  arr : Tab (Nat × Nat)
deriving DecidableEq, Repr

def PathState.reset : PathState := ⟨0, 0, 0, []⟩

/-- A link of an SDI receiver (R92). -/
structure LinkState where
  /-- Place in the order of the rate search, 0 (12G) to 5 (3G/1.001). -/
  rate : Nat
  /-- Root cycle at which the dwell at this rate began. -/
  since : Nat
  /-- Frame cycles of the index group begun since the link's latest payload ID (R96). -/
  vpidAge : Nat
deriving DecidableEq, Repr

def LinkState.reset : LinkState := ⟨0, 0, 0⟩

/-- A packet that waits for its sequence to complete (R242): extended number, counter ns of arrival, RTP packet. -/
structure HeldPacket where
  seq : Nat
  at' : Nat
  bytes : List Byte
deriving DecidableEq, Repr

/-- The frame cycle in progress at an input page: index, fire time in counter ns, and whether its picture was present then
(R111). -/
structure InFrame where
  n : Nat
  fire : Nat
  present : Bool
deriving DecidableEq, Repr

/-- An input page beside its registers. -/
structure InputState where
  /-- Pictures in its line store, oldest first. -/
  pics : List InPic
  /-- Index of the last picture accepted (R109). -/
  last : Option Nat
  /-- First line that no compositor has read, counted over all pictures as n × H + line (R105). -/
  readLine : Nat
  pathA : PathState
  pathB : PathState
  /-- Sequence numbers seen and not yet judged, and the last one judged (R101, R516). -/
  seqs : Tab SeqRec
  judged : Option Nat
  /-- Highest extended sequence number in MODE 1, next to be taken, and packets held (R242). -/
  ext : Option Nat
  next : Option Nat
  held : List HeldPacket
  links : Tab LinkState
  /-- Lines of a picture found with samples missing have been counted for this index (R111). -/
  counted : Option Nat
  /-- RTP timestamps that have been indexed, with the index of a picture accepted, none of one discarded for a repeated index
  (R107, R109). -/
  seen : List (Nat × Option Nat)
  frame : Option InFrame
  /-- Index of the picture stamped last, and ancillary packets of the picture to be stamped next (R98, R108). -/
  arrived : Option Nat
  anc : List AncPacket
deriving DecidableEq, Repr

def InputState.reset : InputState :=
  ⟨[], none, 0, .reset, .reset, [], none, none, none, [], [], none, [], none, none, []⟩

/-- A source beside its registers. -/
structure SrcState where
  /-- Input page, geometry code and index group that the page took at its enable check (R116). -/
  input : Nat
  geom : Nat
  group : Nat
  /-- Frame index of the picture in composition, whether its input is present, whether it is composed (R111, R112, R126). -/
  n : Nat
  present : Bool
  composed : Bool
  /-- Composed lines: shown, and beneath the protected layer; Cb, Y, Cr, Y … (R119, R124, R128). -/
  lines : Tab (List Nat)
  under : Tab (List Nat)
  /-- Lines with input samples missing (R111). -/
  missing : List Nat
  /-- A region with ACTION 1 has failed in this picture (R128). -/
  failed : Bool
  /-- Group of the channel that it last fed, and root cycle at which a page that it fed last stopped (R137). -/
  fed : Option Nat
  fedLeft : Nat
  /-- A frame cycle has started since the page entered ON, and the lines read of its picture (R141). -/
  started : Bool
  done : Nat
deriving DecidableEq, Repr

def SrcState.reset : SrcState := ⟨0, 0, 0, 0, false, false, [], [], [], false, none, 0, false, 0⟩

/-- A scaler beside its registers. -/
structure ScalState where
  /-- The coefficient table as read at the last enable or commit (R133). -/
  coef : List Byte
  /-- Group of the channel that it last fed, and root cycle at which a page that it fed last stopped (R137). -/
  fed : Option Nat
  fedLeft : Nat
deriving DecidableEq, Repr

def ScalState.reset : ScalState := ⟨[], none, 0⟩

/-- An access unit in a coded picture buffer (R243, R244). -/
structure AccessUnit where
  /-- Stream index, once it is known. -/
  index : Option Nat
  /-- Bytes ever written into the ring of the CPB before it, and its own: runs of byte-stream format, or NAL units, each with
  whether DISCONT cut it off (R243, R248). -/
  pos : Nat
  pieces : List (Nat × Bool)
  /-- Counter ns at acceptance of its first packet. -/
  at' : Nat
  /-- RTP timestamp or PTS modulo 2^32. -/
  ts : Nat
  /-- A slice of it has come (R241). -/
  vcl : Bool
  /-- Payload bytes of its PES packet still to come, where the packet tells its length (R241). -/
  left : Option Nat
  /-- It has ended (R241, R243). -/
  ended : Bool
  /-- Its picture is complete; bytes that still come are not kept (R240). -/
  decoded : Bool
  /-- DISCONT, or bytes were lost on overflow (R243, R248). -/
  broken : Bool
  /-- The rest of it is discarded after an overflow (R243). -/
  dropping : Bool
  /-- Discarded for a repeated index (R244). -/
  refused : Bool
  /-- It carries a DONL field (R241). -/
  donl : Bool
deriving DecidableEq, Repr

/-- Bytes of it in the buffer. -/
def AccessUnit.bytes (a : AccessUnit) : Nat := a.pieces.foldl (fun n p => n + p.1) 0

/-- What a decoder keeps of the headers it has read: the parameter sets in force, by kind and id, the POC to which the next is
relative, the POC of the previous picture, and the active SPS (R248, R249). -/
structure DecHead where
  params : List (Nat × Nat × List Byte)
  base : Int
  prev : Int
  sps : Option SpsRead
deriving DecidableEq, Repr

def DecHead.reset : DecHead := ⟨[], 0, 0, none⟩

/-- A picture in the decoded picture buffer (R247, R249 to R251). -/
structure DecFrame where
  poc : Int
  /-- It counts as CONCEALED as a reference (R251). -/
  marked : Bool
  /-- Its picture slot, its format, and its motion. -/
  slot : Nat
  sps : SpsRead
  motion : List Nat
deriving DecidableEq, Repr

/-- A decoded picture that awaits or had its presentation (R245, R247, R251, R257). -/
structure DecPic where
  index : Nat
  poc : Int
  /-- Areas concealed in it (R249). -/
  areas : Nat
  /-- A generated reference was used (R250). -/
  generated : Bool
  /-- It is marked on its own account: concealed areas, a generated or a marked reference (R251). -/
  concealed : Bool
  hashFail : Bool
  /-- An IRAP picture or recovery point decoded without error (R251). -/
  clean : Bool
  /-- Bytes of its access unit. -/
  bytes : Nat
  /-- Its picture slot and its format. -/
  slot : Nat
  sps : SpsRead
deriving DecidableEq, Repr

/-- The picture in decoding: its index and POC, bytes of its access unit, the 64-line rows of it that are complete, and its sample
groups, as a line store holds them (R240, R245). -/
structure DecWork where
  index : Nat
  poc : Int
  bytes : Nat
  rows : Nat
  groups : Tab Nat
deriving DecidableEq, Repr

/-- A decoder beside its registers. -/
structure DecState where
  /-- Packets forwarded by IPIN, oldest first: counter ns and RTP packet (R241). -/
  input : List (Nat × List Byte)
  /-- Sequence number of the last packet taken, and a fragmented NAL unit is open (R241). -/
  seq : Option Nat
  fu : Bool
  /-- Bytes ever written into the ring of the CPB (R243). -/
  wp : Nat
  /-- Access units in decoding order (R243). -/
  aus : List AccessUnit
  head : DecHead
  /-- Decoded pictures, in decoding order (R245). -/
  pics : List DecPic
  /-- Index of the last access unit accepted (R244). -/
  last : Option Nat
  /-- Index and POC of the anchor in INDEX_MODE 1 (R244). -/
  anchor : Option (Nat × Int)
  /-- The picture presented last, and its sample groups (R245). -/
  shown : Option DecPic
  groups : Tab Nat
  /-- Source index presented last, present or absent (R245, R246). -/
  m : Option Nat
  /-- The decoded picture buffer (R249, R250). -/
  dpb : List DecFrame
  work : Option DecWork
  /-- Source index and stream index of a picture presented late and not yet complete (R245). -/
  late : Option (Nat × Nat)
  /-- POC of the recovery point that a GDR picture decoded without error told (R251). -/
  recover : Option Int
deriving DecidableEq, Repr

def DecState.reset : DecState := ⟨[], none, false, 0, [], .reset, [], none, none, none, [], none, [], none, none, none⟩

/-- An SDI output beside its registers: a picture has been sent, the picture it sends, and counter ns at which it started; its phase was
more than a line period, so that the next picture begins at its correct instant (R256). -/
structure SdoState where
  sent : Bool
  groups : Tab Nat
  m : Nat
  start : Nat
  realign : Bool
deriving DecidableEq, Repr

def SdoState.reset : SdoState := ⟨false, [], 0, 0, false⟩


/-! ## Serial lanes, interrupts, control cores (spec/15, 18, 19) -/

/-- A serial lane beside its registers. -/
structure LaneState where
  /-- A new baseline is to be taken at the next window's end (R360). -/
  snap : Bool
  /-- The lane was FROZEN at some time during the running eye-scan point (R365). -/
  esFrozen : Bool
  /-- FABRIC cycle in which clock recovery last lost lock (R369). -/
  lostAt : Option Nat
deriving DecidableEq, Repr

def LaneState.reset : LaneState := ⟨false, false, none⟩

/-- INTC beside its registers: the stack of each target, top first, as (source, priority) (R413). -/
structure IntcState where
  inService : Tab (List (Nat × Nat))
  /-- PRIO of each COMMITTED source as it was routed (R407). -/
  prios : Tab Nat
  /-- FABRIC cycle of the last routing (R409). -/
  routedAt : Option Nat
deriving DecidableEq, Repr

def IntcState.reset : IntcState := ⟨[], [], none⟩

/-- A thread of the kernel (R418 to R425). -/
structure Thread where
  prio : Nat
  /-- 0 none, 1 READY, 2 WAITING, 3 RUNNING. -/
  state : Nat
  /-- Held in the Sump (R424). -/
  sump : Bool
  /-- Core of a RUNNING thread. -/
  core : Nat
  /-- What it waits on: 0 nothing, 1 an event, 2 a flow, 3 a sleep (R420). -/
  wait : Nat
  /-- The flow of a flow wait (R422). -/
  flow : Nat
  /-- Deadline of a timed wait, counter ns (R420). -/
  deadline : Option Nat
  /-- FABRIC cycle and counter ns from which TASK measures the deadline while TIME does not run (R420). -/
  cycle : Nat
  ns : Nat
  /-- Place among READY threads of its priority: the least has been READY longest (R419). -/
  order : Int
  /-- When it last entered the lists (R424). -/
  entered : Nat
  /-- Outcome of its last wait: 0 none, 1 EVENT, 2 TIMED_OUT (R421). -/
  outcome : Nat
  /-- Root cycle at which its last wait ended (R421). -/
  endedAt : Nat
deriving DecidableEq, Repr

def Thread.reset : Thread := ⟨0, 0, false, 0, 0, 0, none, 0, 0, 0, 0, 0, 0⟩

/-- An atomic flow (R422). -/
structure FlowState where
  /-- Items, oldest first: 0 an item of a thread, TAG + 1 a host command. -/
  items : List Nat
  /-- The flow is in service: held by a thread (its identifier) or by the command with TAG (65,536 + TAG). -/
  holder : Option Nat
deriving DecidableEq, Repr

def FlowState.reset : FlowState := ⟨[], none⟩

/-- An outstanding host command (R427 to R431). -/
structure TaskCmd where
  op : Nat
  page : Nat
  tag : Nat
  timeoutMs : Nat
  /-- ARGS, octets 16 to 63 of its record. -/
  args : List Byte
  /-- It has begun: START_NS and the FABRIC cycle (R427, R430). -/
  started : Option (Nat × Nat)
  /-- To be stopped at its next step boundary: 0 no, 1 aborted, 2 timed out, and the FABRIC cycle of that (R429, R430). -/
  stop : Nat
  stopAt : Nat
  /-- Its place in a long operation, and what it has gathered (R431). -/
  phase : Nat
  data : List Nat
  /-- Entries of an eye scan (R365). -/
  entries : List Byte
deriving DecidableEq, Repr

/-- A bank of control-core firmware (R432). -/
structure FwBank where
  valid : Bool
  version : Nat
  abi : Nat
deriving DecidableEq, Repr

def FwBank.reset : FwBank := ⟨false, 0, 0⟩

/-- TASK and the control cores beside the TASK registers. -/
structure TaskState where
  /-- Threads by identifier (R418). -/
  threads : Tab Thread
  /-- Flows 0 to 4,095 (R422). -/
  flows : Tab FlowState
  /-- Commands queued or running, in ring order (R428). -/
  cmds : List TaskCmd
  /-- Next number for `order` and `entered`; the least given to a pre-empted thread (R419). -/
  seq : Nat
  front : Int
  /-- Banks 0 and 1; FW_STATUS.BANK is the active one (R432). -/
  bank0 : FwBank
  bank1 : FwBank
  /-- Cores stopped for a swap, bit c; FABRIC cycle of the first stop; TAG of the swap (R432). -/
  stopped : Nat
  firstStop : Option Nat
  swapTag : Option Nat
  /-- The result recorded last: TAG, FABRIC cycle, host addresses of the two octets of its REASON (R429). -/
  last : Option (Nat × Nat × List Nat)
  /-- Result records that wait for a result ring that is ON (R439). -/
  unsent : List (List Byte)
deriving DecidableEq, Repr

def TaskState.reset : TaskState := ⟨[], [], [], 0, 0, .reset, .reset, 0, none, none, none, []⟩


/-! ## LPDDR5X channels and the bus matrix (spec/16, 17) -/

/-- A burst in the matrix or at a memory channel: at most 256 bytes within one 256-byte unit (R393). -/
structure Burst where
  /-- Order of issue over all masters (R391, R394). -/
  id : Nat
  /-- Master port (R390). -/
  master : Nat
  /-- Target port: 0 to 15 MEMC, 16 to 35 SRAM, 36 register fabric, 37 host memory, 63 none (ERR_INFO.TARGET, R400). -/
  target : Nat
  /-- Device address. -/
  addr : Nat
  /-- Bytes. -/
  len : Nat
  /-- Write data, or none for a read. -/
  data : Option (List Byte)
  /-- Carries FENCE (R394). -/
  fence : Bool
  /-- FABRIC cycle from which it has been eligible (R391). -/
  since : Nat
  /-- Eligible for AGE_LIMIT cycles (R391). -/
  aged : Bool
deriving DecidableEq, Repr

/-- The matrix beside the MTX registers. -/
structure MtxState where
  /-- Requests waiting in the master ports, oldest first (R395). -/
  waiting : List Burst
  /-- Bursts granted and not yet acknowledged or returned, oldest first (R394). -/
  outstanding : List Burst
  /-- Next order number of a burst. -/
  nextId : Nat
  /-- Flits carried and aged grants by target port (PORT_FLITS, PORT_AGED; R400). -/
  flits : Tab Nat
  agedBy : Tab Nat
  /-- FABRIC cycle of the event that ERR_INFO and ERR_ADDR hold (R400). -/
  errAt : Option Nat
deriving DecidableEq, Repr

def MtxState.reset : MtxState := ⟨[], [], 0, [], [], none⟩

/-- A memory channel beside the MEMC registers. -/
structure MemcState where
  /-- MEMCK cycle of the last REFI point (R378). -/
  refiAt : Nat
  /-- MR4 asks for twice the rate or more (R378). -/
  mr4Hot : Bool
  /-- The sensor site is HOT (R378). -/
  siteHot : Bool
  /-- MR4 reads in a row that returned no valid data (R384). -/
  mr4Bad : Nat
  /-- Time of the next MR4 read and the interval after it, ps (R523). -/
  pollAt : Nat
  pollGap : Nat
  /-- Stolen slots left to the running probe (R376). -/
  probeLeft : Nat
  /-- Time of the last stolen slot, ps (R376). -/
  slotAt : Nat
  /-- A write probe has written its unit and reads it back in the next slot (R376). -/
  probeWrote : Bool
  /-- The running probe ends at the end of its current slot (R376). -/
  probeAbort : Bool
  /-- Re-reads counted in the present window, and the FABRIC cycle at which the window began (R384). -/
  rereads : Nat
  windowAt : Nat
  /-- Failed or retired until device reset (R387). -/
  gone : Bool
  /-- The slice is remapped over the spare areas (R386). -/
  remapped : Bool
  /-- Device addresses, by 64-byte block, written since the remap (R386). -/
  rewritten : Tab Nat
  /-- Blocks with a poison mark, by device block number (R383). -/
  marks : Tab Nat
  /-- Neighbour refreshes queued, at most 16 (R381). -/
  neighbours : Nat
  /-- MR4 asks for more than twice the rate (R378). -/
  mr4Quarter : Bool
  /-- The bank that was served last (R374). -/
  bank : Nat
deriving DecidableEq, Repr

def MemcState.reset : MemcState :=
  ⟨0, false, false, 0, 0, 4000000000, 0, 0, false, false, 0, 0, false, false, [], [], 0, false, 0⟩

/-! ## DMA rings (spec/20) -/

/-- A descriptor that the engine has fetched (R445, R447). -/
structure DmaDesc where
  /-- Descriptor count (R446). -/
  count : Nat
  /-- HOST_ADDR (R445). -/
  hostAddr : Nat
  /-- DEV_ADDR (R445). -/
  devAddr : Nat
  /-- LENGTH (R445). -/
  len : Nat
  /-- SOP (R445). -/
  sop : Bool
  /-- EOP (R445). -/
  eop : Bool
  /-- IRQ (R445). -/
  irq : Bool
  /-- FENCE_EN (R445). -/
  fenceEn : Bool
  /-- FENCE_SRC (R445). -/
  fenceSrc : Nat
  /-- FENCE_LAYER (R445). -/
  fenceLayer : Nat
  /-- TAG (R445). -/
  tag : Nat
  /-- The descriptor is invalid for the ring's role (R445). -/
  invalid : Bool
  /-- The read of its buffer ended with an error status (R448). -/
  hostErr : Bool
  /-- The bytes of its buffer (R447). -/
  bytes : List Byte
  /-- A CHK unit bound to the ring was ON when it was fetched (R404). -/
  guarded : Bool
deriving DecidableEq, Repr

/-- A ring beside the DMA registers. -/
structure RingState where
  /-- Descriptors fetched and not yet completed, oldest first, at most 8 (R447). -/
  fetched : List DmaDesc
  /-- A record is in progress (R447). -/
  inRecord : Bool
  /-- The record in progress is discarded up to the next SOP (R445). -/
  discard : Bool
  /-- The record in progress is guarded by a CHK unit (R404). -/
  guarded : Bool
  /-- Bytes of the record in progress (R447). -/
  part : List Byte
  /-- Whole records that the consumer has not yet taken, oldest first (R447). -/
  records : List (List Byte)
  /-- The next compressed-input record is taken as having DISCONT 1 (R403). -/
  discont : Bool
  /-- Completions since CPL was last set (R452). -/
  sinceCpl : Nat
  /-- Counter ns of the oldest completion not yet signalled (R452). -/
  oldest : Option Nat
deriving DecidableEq, Repr

def RingState.reset : RingState := ⟨[], false, false, false, [], [], false, 0, none⟩

/-! ## Lantern, power and logs (spec/21, 23, 24) -/

/-- An event on its way to Lantern. -/
structure LogEntry where
  /-- Counter ns when it was raised, 0 if TIME did not run (R511). -/
  time : Nat
  /-- TIME did not run (R511). -/
  noTime : Bool
  /-- Event number: unit type and index (R509). -/
  event : Nat
  /-- Severity 0 to 7 (R510). -/
  severity : Nat
  /-- Raising page (R511). -/
  page : Nat
  /-- The page's reason code for the event, 0 if none (R511). -/
  reason : Nat
  /-- Octets 24 to 47 as (octet, byte) pairs; unlisted octets are 0 (R511). -/
  data : List (Nat × Nat)
  /-- FABRIC cycle in which it was raised (R512). -/
  cycle : Nat
deriving DecidableEq, Repr

/-- Phases and resets of Lantern beside PHASE_STATUS. -/
structure BootState where
  /-- Nominal time since power-on reset, ps (R511 LANTERN_MS; R468). -/
  ps : Nat
  /-- ROOT_MULT in force, 240 or 120 (R58). -/
  mult : Nat
  /-- Time at which BOOT was entered, ps (R468). -/
  bootAt : Nat
  /-- Power-on reset is held: PWRGOOD is low or rose less than 2 ms ago (R491, R492). -/
  porHeld : Bool
  /-- PERST_N is asserted (R457). -/
  perst : Bool
  /-- The device is held in reset because the root PLL lost lock (R61). -/
  rootHeld : Bool
  /-- PERST_N has been released, and Lantern has begun link training (R460). -/
  pcieTraining : Bool
  /-- The slot verified in BOOT (R459, R463). -/
  heldSlot : Option Nat
  /-- The slot from which the device runs (R475). -/
  runSlot : Option Nat
  /-- The settings of the verified image: (key, index, value) in order (R464). -/
  settings : List (Nat × Nat × Nat)
  /-- Decoders that failed self-test, bit d (R465). -/
  decFailed : Nat
  /-- Reference clocks that did not toggle in test 5: ROOT, ETH, PCIE, SDI, ROPE in bits 0 to 4 (R465, R371). -/
  refclkBad : Nat
deriving DecidableEq, Repr

def BootState.reset : BootState := ⟨0, 120, 0, true, true, false, false, none, none, [], 0, 0⟩

/-- A slot's entry in the NOR directory. -/
structure SlotDir where
  /-- 0 EMPTY, 1 VALID, 2 PENDING, 3 BAD (R462). -/
  state : Nat
  /-- TRIALS_LEFT (R462). -/
  trials : Nat
  /-- SEQ (R462). -/
  seq : Nat
deriving DecidableEq, Repr

def SlotDir.reset : SlotDir := ⟨0, 0, 0⟩

/-- The SPI NOR and the fuses, which keep their contents in every reset, and the MGMT operations on them. -/
structure NorState where
  /-- Slot A in the directory in force (R462). -/
  slotA : SlotDir
  /-- Slot B in the directory in force (R462). -/
  slotB : SlotDir
  /-- GEN of the directory in force (R462). -/
  gen : Nat
  /-- Directory copy in force, 0 or 1 (R462). -/
  copy : Nat
  /-- The slot that a WRITE_SLOT verified since the last boot (R476). -/
  written : Option Nat
  /-- The slot that the running WRITE_SLOT or ACTIVATE acts on (R475, R477). -/
  opSlot : Nat
  /-- The running WRITE_SLOT or NOR_READ ends ABORTED at its next block of 64 KiB (R475). -/
  opAbort : Bool
  /-- Fuse: security counter (R458, R463). -/
  secCounter : Nat
  /-- Fuses: revoked ROM keys, bit k (R458, R463). -/
  revoked : Nat
  /-- Fuses: page indices marked defective by production test (R458). -/
  defects : List Nat
deriving DecidableEq, Repr

def NorState.reset : NorState := ⟨.reset, .reset, 0, 0, none, 0, false, 0, 0, []⟩

/-- The event queue, the memory log and the persistent log. -/
structure LogState where
  /-- Events queued by the units, at most 1,024 (R512). -/
  queue : List LogEntry
  /-- Events lost since the last LOG_OVERFLOW record (R512). -/
  lost : Nat
  /-- SEQ of the next record (R512). -/
  seq : Nat
  /-- Base of the memory log (R473). -/
  base : Nat
  /-- Size of the memory log in MiB (R473). -/
  mib : Nat
  /-- BRINGUP step 8 has opened the memory log (R467, R473). -/
  opened : Bool
  /-- Records held in Lantern SRAM until then, oldest first, at most 256 (R473). -/
  held : List (List Byte)
  /-- Persistent log: the sector in use (R474). -/
  sector : Nat
  /-- Next slot in that sector, 0 to 63 (R474). -/
  slot : Nat
  /-- Sequence number of each sector (R474). -/
  seqs : Tab Nat
  /-- Token bucket of the persistent log, records (R474). -/
  tokens : Nat
  /-- Time of the last refill, ps (R474). -/
  refillAt : Nat
  /-- The newest record of the persistent log is a shutdown record (R501). -/
  shutdownLast : Bool
deriving DecidableEq, Repr

def LogState.reset : LogState := ⟨[], 0, 0, 0, 1, false, [], 0, 0, [], 16, 0, false⟩

/-- Watchdogs, sensors and the thermal balls. -/
structure WatchState where
  /-- Time of the last service of the host watchdog, ps (R472). -/
  wdtAt : Nat
  /-- Times of the last TASK fault and of the one before it, ps (R478). -/
  taskFaultAt : Option Nat
  taskFaultPrev : Option Nat
  /-- Temperature sites that failed test 6, bit n: they read VALID 0 (R465). -/
  badSites : Nat
  /-- Rails that failed test 6, bit n (R465). -/
  badRails : Nat
  /-- MIN and MAX restart at the next sample (R469). -/
  fresh : Bool
  /-- Time at which the over-temperature action began, ps (R501). -/
  otAt : Nat
  /-- Time at which the over-temperature action stopped picture work, ps (R501). -/
  coolAt : Option Nat
  /-- Clocks of every unit but the Lantern domain stopped by the over-temperature action (R501). -/
  clocksStopped : Bool
  /-- Ball THERMTRIP_N is driven low (R502). -/
  thermtrip : Bool
  /-- Ball SHUTDOWN_N is driven low (R501). -/
  shutdownN : Bool
deriving DecidableEq, Repr

def WatchState.reset : WatchState := ⟨0, none, none, 0, 0, true, 0, none, false, false, false⟩

/-- The current-step governor (spec/23). Domains: 0 LOOK, 1 composition, 2 to 19 CHMB0 to 17, 20 and 21 DEC0 and 1. -/
structure PwrState where
  /-- Stages issued to each domain: 0 COLD, its full number WARM, between them WAKING or COOLING (R494). -/
  level : Tab Nat
  /-- Domains that are to be WARM (R496, R497). -/
  want : Tab Nat
  /-- CORE cycle of the last stage issued, and of the first stage of the staircase in progress (R494). -/
  lastStage : Nat
  firstStage : Nat
  /-- A wake staircase, or a cool-down, is in progress (R494). -/
  waking : Bool
  cooling : Bool
  /-- Time since which every GRP and DEC page has been OFF, ps (R497). -/
  idleSince : Option Nat
deriving DecidableEq, Repr

def PwrState.reset : PwrState := ⟨[], [], 0, 0, false, false, some 0⟩

/-- The whole state of the block. -/
structure State where
  /-- The commands that wait, first in, first out (the model's own queue). -/
  pending : List Instr
  /-- The model's counter of free values taken (the model's own field, log entry 2). -/
  freeCtr : Nat
  /-- BAR0: the value of every register that differs from its value at reset, by byte offset (R5, R6, R30). -/
  regs : Tab Word
  /-- Live upper words of the register pairs whose _LO read latches its _HI (R50). -/
  hiLive : Tab Word
  /-- Device memory, DRAM and SRAM, by device address (R9, R441). -/
  mem : Tab Byte
  /-- Host memory as the device has written or read it, by host address (R9, R445). -/
  hostMem : Tab Byte
  /-- SPI NOR by address, 32 MiB; an unlisted byte is erased, 0xFF (R461). -/
  norMem : Tab Byte
  /-- Per-page state (R41, R45). -/
  pages : Tab PageInfo
  /-- Group commits 0 to 7 and the device commit 8 (R51, R54). -/
  commits : Tab CommitRec
  /-- Clocks, counter, compares, captures, triggers (R58 to R88). -/
  time : TimeState
  /-- Phases and resets (R457 to R468). -/
  boot : BootState
  /-- SPI NOR, directory, fuses and the MGMT operations (R458, R461 to R464, R475, R476). -/
  nor : NorState
  /-- Event queue and logs (R473, R474, R506 to R512). -/
  log : LogState
  /-- Watchdogs, sensors, thermal balls (R469 to R472, R501, R502). -/
  watch : WatchState
  /-- The current-step governor (R493 to R497). -/
  pwr : PwrState
  /-- What the last read command returned on the bus (the model's own field, log entry 6). -/
  readData : Nat
  /-- The bus matrix (R390 to R400). -/
  mtx : MtxState
  /-- The memory channels 0 to 15 (R372 to R389). -/
  memc : Tab MemcState
  /-- DMA rings 0 to 255 (R443 to R455). -/
  ring : Tab RingState
  /-- The traffic scheduler (R339 to R352). -/
  tsch : TschState
  /-- Channels 0 to 63 (R138 to R237, R328 to R336). -/
  chan : Tab ChanState
  /-- Channel groups 0 to 7 (R77, R211). -/
  grp : Tab GrpState
  /-- Chambers 0 to 17 (R138, R160, R161). -/
  chmb : Tab ChamberState
  /-- Chambers whose work has been remapped to a reserve chamber and that have not returned to service (R23). -/
  remapped : Nat
  /-- The pair (R260 to R291). -/
  pair : PairState
  /-- The Rope link (R292 to R316). -/
  rope : RopeState
  /-- Squeeze writes of the last 1,048,576 FABRIC cycles: cycle, raw bytes, bytes stored (SQZ_RATIO; R229). -/
  sqz : List (Nat × Nat × Nat)
  /-- Input pages, by page index (R90 to R115). -/
  input : Tab InputState
  /-- Sources 0 to 31 (R116 to R129). -/
  src : Tab SrcState
  /-- Scalers 0 to 31 (R130 to R137). -/
  scal : Tab ScalState
  /-- Decoders 0 and 1 (R238 to R253). -/
  dec : Tab DecState
  /-- SDI outputs 0 and 1 (R255, R256). -/
  sdo : Tab SdoState
  /-- Root cycle at which each port took its present link state (R320, R522). -/
  ethAt : Tab Nat
  /-- Serial lanes 0 to 37 (R354 to R371). -/
  lane : Tab LaneState
  /-- The interrupt controller (R406 to R417). -/
  intc : IntcState
  /-- Threads, flows, commands and firmware banks (R418 to R435). -/
  task : TaskState
deriving DecidableEq, Repr

/-- The block right after power-on reset: every register at its At reset value, every page OFF, nothing held (R8, R491). INCR and
SLEW_INCR, the two registers listed, reset to 2.0 at ROOT_MULT 120, at which the device starts (R58, R60). -/
def State.reset : State where
  pending := []
  freeCtr := 0
  regs := [(0x2130, 0x02000000), (0x2134, 0x02000000)]
  hiLive := []
  mem := []
  hostMem := []
  norMem := []
  pages := []
  commits := []
  time := .reset
  boot := .reset
  nor := .reset
  log := .reset
  watch := .reset
  pwr := .reset
  readData := 0
  mtx := .reset
  memc := []
  ring := []
  tsch := .reset
  chan := []
  grp := []
  chmb := []
  remapped := 0
  pair := .reset
  rope := .reset
  sqz := []
  input := []
  src := []
  scal := []
  dec := []
  sdo := []
  ethAt := []
  lane := []
  intc := .reset
  task := .reset

/-- Why the block stops. It has no member: no command of this block faults, since every access to a hole, to an absent page or in
a wrong state is answered as the spec says (R7, R35, R390), so no exec raises one. -/
inductive Fault
deriving DecidableEq, Repr

/-- Why a command has no next state. -/
inductive Refusal where
  /-- Raised by exec for a row that has no meaning yet; safe. -/
  | notModelled (mnemonic : String)
deriving DecidableEq, Repr

/-- The outcome of a command. -/
abbrev Out := Host.Outcome State Fault Refusal

end Sys2Proof.Machine
end

