-- ==== Sys2Proof/Machine/Operands.lean ====
section
/-! DEFINITION. The operand forms of the commands: registers and fields by page and offset (R5), their access codes (R6),
shadow and active copies (R6, R38), 64-bit register pairs (R50, R513), and memory by byte address (R9). -/

namespace Sys2Proof.Machine

/-- Rows of the register map for the unit of a header page. -/
def UnitType.rows : UnitType → List RegRow
  | .dir => regRowsDIR | .sys => regRowsSYS | .time => regRowsTIME | .pwr => regRowsPWR | .sens => regRowsSENS
  | .mgmt => regRowsMGMT | .intc => regRowsINTC | .mtx => regRowsMTX | .task => regRowsTASK | .host => regRowsHOST
  | .dma => regRowsDMA | .pair => regRowsPAIR | .rope => regRowsROPE | .refp => regRowsREFP | .memc => regRowsMEMC
  | .lane => regRowsLANE | .sdirx => regRowsSDIRX | .sditx => regRowsSDITX | .ipin => regRowsIPIN | .eth => regRowsETH
  | .tsch => regRowsTSCH | .src => regRowsSRC | .scal => regRowsSCAL | .chan => regRowsCHAN | .grp => regRowsGRP
  | .chmb => regRowsCHMB | .look => regRowsLOOK | .dec => regRowsDEC | .chk => regRowsCHK

/-- Byte offset of an address in its page (R30). -/
def offsetOf (a : Nat) : Nat := a % 0x1000

/-- Page index of a BAR0 byte address (R30). -/
def pageOf (a : Nat) : Nat := a / 0x1000

/-- The row of a table that holds offset `o`. -/
def RegRow.find (rows : List RegRow) (o : Nat) : Option RegRow :=
  rows.find? fun r => r.off ≤ o && (o - r.off) % r.stride == 0 && (o - r.off) / r.stride < r.count

/-- The register map at an aligned address: a unit's own registers from 0x100, the queue-table window, the interrupt
source table and summaries (R30, R32). The common header is handled apart. -/
def rowAt (a : Nat) : Option RegRow :=
  match unitOf (pageOf a) with
  | some u => if offsetOf a < 0x100 then none else RegRow.find u.rows (offsetOf a)
  | none =>
    if 0x400 ≤ pageOf a ∧ pageOf a ≤ 0x43F then RegRow.find regRowsQTAB (a - 0x400000)
    else if 0x7 ≤ pageOf a ∧ pageOf a ≤ 0xE then RegRow.find regRowsSRCTAB (a - 0x7000)
    else if pageOf a = 0xF then RegRow.find regRowsINTCSUM (offsetOf a)
    else none

/-- The row whose active copy stands at address `a` (R6). -/
def activeRowAt (a : Nat) : Option RegRow :=
  match unitOf (pageOf a) with
  | some u =>
    if offsetOf a < 0x900 then none
    else match RegRow.find u.rows (offsetOf a - 0x800) with
      | some r => if r.sh = 0 then none else some r
      | none => none
  | none => none

/-- LANE_INFO of lane `n` at reset: KIND in bits 2 to 0, DFE_TAPS in bits 11 to 8 (R354). -/
def laneInfo (n : Nat) : Nat :=
  if n < 8 then 0xC00 else if n < 24 then 0x501 else if n < 26 then 0x002 else if n < 34 then 0x503 else 0x504

/-- VOLT_LOW and VOLT_HIGH of rail `n` at reset: nominal less and plus 5 per cent, in whole mV inside that band (R469;
log entry 12). -/
def railLimits (n : Nat) : Nat :=
  let nominal := match n with
    | 0 => 750 | 1 => 750 | 2 => 750 | 3 => 850 | 4 => 500 | 5 => 1050 | 6 => 900 | 7 => 1200 | 8 => 1800 | _ => 3300
  (nominal * 95 + 99) / 100 + nominal * 105 / 100 * 0x10000

/-- Values at reset of unit registers that differ from one instance to the next: LANE_INFO (R353), the rail limits of
SENS (R469). `o` is the offset in the page, `n` the instance. -/
def instanceReset (u : UnitType) (n o : Nat) : Option Nat :=
  match u with
  | .lane => if o = 0x100 then some (laneInfo n) else none
  | .sens => if 0x200 ≤ o ∧ o < 0x2A0 ∧ o % 16 = 8 then some (railLimits ((o - 0x200) / 16)) else none
  | _ => none

/-- What an unwritten register of the common header reads (R38, R39, R57). -/
def headerReset (u : UnitType) (p o : Nat) : Nat :=
  match o with
  | 0x000 => u.code * 0x1000000 + (p - u.base) % 256 * 0x10000 + 0x0100
  | 0x004 => if u = .dir ∨ u = .sys then 2 else 0
  | 0x010 => u.count
  | 0x034 => 0xF00
  | _ => 0

/-- The value of a register at reset: what an unlisted register reads as (R8). SRC_CTRL.KIND of sources 0x400 to 0x7FF is 1
(R406). -/
def resetVal (a : Nat) : Word :=
  match unitOf (pageOf a) with
  | some u =>
    if offsetOf a < 0x100 then BitVec.ofNat 32 (headerReset u (pageOf a) (offsetOf a))
    else match instanceReset u (pageOf a - u.base) (offsetOf a) with
      | some v => BitVec.ofNat 32 v
      | none => match RegRow.find u.rows (offsetOf a) with
      | some r => BitVec.ofNat 32 r.reset
      | none => match activeRowAt a with
        | some r => BitVec.ofNat 32 r.reset
        | none => 0
  | none => match rowAt a with
    | some r => BitVec.ofNat 32 (r.reset + (if 0xB000 ≤ a ∧ a < 0xF000 ∧ a % 16 = 0 then 0x100 else 0))
    | none => 0

/-! ## Registers and fields -/

/-- The value held in the register at address `a`. -/
def State.reg (s : State) (a : Nat) : Word := Tab.get (resetVal a) s.regs a

/-- Hold `v` in the register at address `a`. -/
def State.setReg (s : State) (a : Nat) (v : Word) : State := { s with regs := Tab.set (resetVal a) s.regs a v }

/-- Field `f` of a word. -/
def Fld.of (f : Fld) (w : Word) : Nat := w.toNat / 2 ^ f.lo % 2 ^ f.w

/-- A word with field `f` replaced. -/
def Fld.into (f : Fld) (w : Word) (v : Nat) : Word :=
  BitVec.ofNat 32 (w.toNat - f.of w * 2 ^ f.lo + v % 2 ^ f.w * 2 ^ f.lo)

/-- Byte address of field `f` on page `p`. -/
def Fld.addr (f : Fld) (p : Nat) : Nat := p * 0x1000 + f.off

/-- The field's value on page `p` (for an RW-S field: its shadow copy). -/
def State.fld (s : State) (p : Nat) (f : Fld) : Nat := f.of (s.reg (f.addr p))

/-- Set the field on page `p`. -/
def State.setFld (s : State) (p : Nat) (f : Fld) (v : Nat) : State :=
  s.setReg (f.addr p) (f.into (s.reg (f.addr p)) v)

/-- The active copy of an RW-S field (R6). -/
def State.act (s : State) (p : Nat) (f : Fld) : Nat := s.fld p f.act

/-- Is a one-bit field set. -/
def State.bit (s : State) (p : Nat) (f : Fld) : Bool := s.fld p f == 1

/-- Add 1 to a field, wrapping in its width. -/
def State.incFld (s : State) (p : Nat) (f : Fld) : State := s.setFld p f (s.fld p f + 1)

/-- Add `n` to a field, wrapping at its width. -/
def State.addFld (s : State) (p : Nat) (f : Fld) (n : Nat) : State := s.setFld p f (s.fld p f + n)

/-- Add `n` to a field, holding at its largest value. -/
def State.addSat (s : State) (p : Nat) (f : Fld) (n : Nat) : State :=
  s.setFld p f (min (s.fld p f + n) (2 ^ f.w - 1))

/-- A 64-bit value held in a _LO, _HI pair; `f` names the _LO register. -/
def State.get64 (s : State) (p : Nat) (f : Fld) : Nat :=
  (s.reg (f.addr p)).toNat + (s.reg (f.addr p + 4)).toNat * 2 ^ 32

/-- Hold a 64-bit value in a pair whose _HI is not latched. -/
def State.put64 (s : State) (p : Nat) (f : Fld) (v : Nat) : State :=
  (s.setReg (f.addr p) (BitVec.ofNat 32 v)).setReg (f.addr p + 4) (BitVec.ofNat 32 (v / 2 ^ 32))

/-- The live value behind the latched register at address `a`, its value at reset where none is listed (R50). -/
def State.live (s : State) (a : Nat) : Word := Tab.get (resetVal a) s.hiLive a

/-- Set the live value behind the latched register at address `a`. -/
def State.setLive (s : State) (a : Nat) (v : Word) : State := { s with hiLive := Tab.set (resetVal a) s.hiLive a v }

/-- Hold a 64-bit value in a pair whose _HI register shows the value latched by the last read of _LO (R50). -/
def State.put64L (s : State) (p : Nat) (f : Fld) (v : Nat) : State :=
  (s.setReg (f.addr p) (BitVec.ofNat 32 v)).setLive (f.addr p + 4) (BitVec.ofNat 32 (v / 2 ^ 32))

/-- The live 64-bit value of a latched pair. -/
def State.live64 (s : State) (p : Nat) (f : Fld) : Nat :=
  (s.reg (f.addr p)).toNat + (s.live (f.addr p + 4)).toNat * 2 ^ 32

/-- A 36-bit device address held in a pair (R513). -/
def State.addr36 (s : State) (p : Nat) (f : Fld) : Nat := s.get64 p f % 2 ^ 36

/-- The difference of two counts that wrap at `m` (R4, R50), written so that no numeral is counted down. -/
def wrapSub (a b m : Nat) : Nat := if b % m ≤ a % m then a % m - b % m else a % m + (m - b % m)

/-- Two's complement value of a 32-bit number. -/
def sext32 (n : Nat) : Int := if n % 2 ^ 32 < 2 ^ 31 then (n % 2 ^ 32 : Nat) else (n % 2 ^ 32 : Nat) - (2 ^ 32 : Int)

/-- The 32-bit pattern of an integer. -/
def toWord (i : Int) : Word := BitVec.ofInt 32 i

/-! ## Shadow and active copies -/

/-- Does an RW-S register stand at offset address `a` (R6). -/
def isShadow (a : Nat) : Bool :=
  match rowAt a with
  | some r => r.sh != 0
  | none => false

/-- The shadow copy of page `p`: every RW-S register that differs from its reset value (R6, R51). -/
def State.shadowCells (s : State) (p : Nat) : Tab Word :=
  s.regs.filter fun c => pageOf c.1 == p && isShadow c.1

/-- The active copy of page `p`, by the addresses of the shadow registers (R6). -/
def State.activeCells (s : State) (p : Nat) : Tab Word :=
  (s.regs.filter fun c => pageOf c.1 == p && (activeRowAt c.1).isSome).map fun c => (c.1 - 0x800, c.2)

/-- Forget the registers of page `p` that satisfy `q`: they read their reset values again. -/
def State.clearRegs (s : State) (p : Nat) (q : Nat → Bool) : State :=
  { s with regs := s.regs.filter fun c => !(pageOf c.1 == p && q c.1) }

/-- The active copy of page `p` becomes `cells` (R41, R52). -/
def State.setActive (s : State) (p : Nat) (cells : Tab Word) : State :=
  cells.foldl (fun t c => if pageOf c.1 == p then t.setReg (c.1 + 0x800) c.2 else t)
    (s.clearRegs p fun a => (activeRowAt a).isSome)

/-- The shadow copy of page `p` becomes `cells` (R47, DISCARD). -/
def State.setShadow (s : State) (p : Nat) (cells : Tab Word) : State :=
  cells.foldl (fun t c => if pageOf c.1 == p then t.setReg c.1 c.2 else t) (s.clearRegs p isShadow)

/-- Registers that keep showing their value while the page is OFF (R38 and the chapters it names): TIME CLK_STATUS,
NOW_NS, NOW_FRAC, COMPAT_NOW; CHAN D_MIN, RC_FLOOR_MAX, OUT_RATE_MIN, CHECK_DETAIL; SCAL CHECK_DETAIL; DEC LOAD and
REGION_NEED. -/
def keptWhileOff (u : UnitType) (o : Nat) : Bool :=
  match u with
  | .time => o == 0x104 || (0x120 ≤ o && o ≤ 0x12C)
  | .chan => o == 0x124 || o == 0x23C || o == 0x4C8 || o == 0x13C
  | .scal => o == 0x114
  | .dec => o == 0x120 || o == 0x124
  | _ => false

/-- The RO bits of the register at `a` that R38 returns to their reset value while the page is OFF. -/
def statusMask (u : UnitType) (a : Nat) : Nat :=
  match rowAt a with
  | some r => if keptWhileOff u (offsetOf a) then 0 else r.ro
  | none => 0

/-- What R38 does as page `p` goes OFF: each active copy and each RO status field from 0x100 takes its reset value. -/
def State.toOffValues (s : State) (p : Nat) : State :=
  match unitOf p with
  | some u =>
    (s.regs.filter fun c => pageOf c.1 == p && statusMask u c.1 != 0).foldl
      (fun t c => t.setReg c.1 ((c.2 &&& ~~~ BitVec.ofNat 32 (statusMask u c.1)) |||
        (resetVal c.1 &&& BitVec.ofNat 32 (statusMask u c.1))))
      { s.clearRegs p fun a => (activeRowAt a).isSome with hiLive := s.hiLive.filter fun c => pageOf c.1 != p }
  | none => s

/-! ## Access codes -/

/-- The value a register holds after a bus write of `v` by its access codes (R6): RW bits set, W1C bits written 1
cleared, W1S bits written 1 set, RO and reserved bits unchanged. -/
def RegRow.written (r : RegRow) (old v : Word) : Word :=
  let rw := BitVec.ofNat 32 (r.rw ||| r.sh)
  let c := BitVec.ofNat 32 r.w1c
  let st := BitVec.ofNat 32 r.w1s
  (((old &&& ~~~ rw) ||| (v &&& rw)) &&& ~~~ (v &&& c)) ||| (v &&& st)

/-! ## Memory -/

/-- What a byte that nothing has written reads as (log entry 5). -/
def memDefault : Byte := 0

/-- The byte at a device address. -/
def State.byte (s : State) (a : Nat) : Byte := Tab.get memDefault s.mem a

/-- Store one byte at a device address. -/
def State.setByte (s : State) (a : Nat) (v : Byte) : State := { s with mem := Tab.set memDefault s.mem a v }

/-- `n` bytes at a device address, little-endian, as a number (R9). -/
def State.load (s : State) (a : Nat) : Nat → Nat
  | 0 => 0
  | n + 1 => (s.byte a).toNat + 256 * State.load s (a + 1) n

/-- Store the low `n` bytes of `v` at a device address, little-endian (R9). -/
def State.store (s : State) (a : Nat) (v : Nat) : Nat → State
  | 0 => s
  | n + 1 => State.store (s.setByte a (BitVec.ofNat 8 v)) (a + 1) (v / 256) n

/-- Store a list of bytes at a device address. -/
def State.storeBytes (s : State) (a : Nat) : List Byte → State
  | [] => s
  | b :: bs => State.storeBytes (s.setByte a b) (a + 1) bs

/-- `n` bytes from a device address. -/
def State.loadBytes (s : State) (a : Nat) : Nat → List Byte
  | 0 => []
  | n + 1 => s.byte a :: State.loadBytes s (a + 1) n

/-- The byte at a host address. -/
def State.hostByte (s : State) (a : Nat) : Byte := Tab.get memDefault s.hostMem a

/-- Store a list of bytes in host memory. -/
def State.hostStore (s : State) (a : Nat) : List Byte → State
  | [] => s
  | b :: bs => State.hostStore { s with hostMem := Tab.set memDefault s.hostMem a b } (a + 1) bs

/-- `n` bytes of host memory. -/
def State.hostLoad (s : State) (a : Nat) : Nat → List Byte
  | 0 => []
  | n + 1 => s.hostByte a :: State.hostLoad s (a + 1) n

/-- The little-endian bytes of a number. -/
def leBytes (v : Nat) : Nat → List Byte
  | 0 => []
  | n + 1 => BitVec.ofNat 8 v :: leBytes (v / 256) n

/-- The number that little-endian bytes spell. -/
def leNat : List Byte → Nat
  | [] => 0
  | b :: bs => b.toNat + 256 * leNat bs

/-! ## Free values -/

/-- The next free value (log entry 2). -/
def State.freeWord (s : State) : Word := Config.freeValue s.freeCtr

/-- Advance the counter of free values. -/
def State.tookFree (s : State) : State := { s with freeCtr := s.freeCtr + 1 }

end Sys2Proof.Machine
end

