-- ==== Sys2Proof/Machine/Flags.lean ====
section
/-! DEFINITION. The status and interrupt flags of a page: INT_STATUS events, error counters, reason codes and the
operation field of the common header (spec/02: R33, R40, R55, R57), and the page states (R41). -/

namespace Sys2Proof.Machine

/-! ## Interrupt events and error counters -/

/-- Set INT_STATUS bit `b` of page `p`. -/
def State.raise (s : State) (p b : Nat) : State := s.setFld p ⟨0x20, b, 1⟩ 1

/-- Is INT_STATUS bit `b` of page `p` set. -/
def State.raised (s : State) (p b : Nat) : Bool := s.bit p ⟨0x20, b, 1⟩

/-- Set or clear the INT_RAW condition bit `b` of page `p`. -/
def State.rawTo (s : State) (p b : Nat) (on : Bool) : State := s.setFld p ⟨0x2C, b, 1⟩ on.toNat

/-- The level interrupt line of page `p`: (INT_STATUS & INT_ENABLE) ≠ 0 (R33). -/
def State.intLine (s : State) (p : Nat) : Bool :=
  (s.reg (F.INT_STATUS.addr p) &&& s.reg (F.INT_ENABLE.addr p)) != 0

/-- Count `n` events in ERR_COUNT`k` of page `p`, saturating; a counter that changes from 0 sets ERR (INT_STATUS bit 6). -/
def State.errBy (s : State) (p k n : Nat) : State :=
  let f : Fld := ⟨0x40 + 4 * k, 0, 32⟩
  let s' := s.addSat p f n
  if s.fld p f = 0 ∧ n ≠ 0 then s'.raise p 6 else s'

/-- Count one event in ERR_COUNT`k` of page `p`. -/
def State.err (s : State) (p k : Nat) : State := s.errBy p k 1

/-! ## Reason codes -/

namespace Cls
def none : Nat := 0
def range : Nat := 1
def capacity : Nat := 2
def dependency : Nat := 3
def conflict : Nat := 4
def absent : Nat := 5
def locked : Nat := 6
def timing : Nat := 7
def resource : Nat := 8
end Cls

/-- A reason code: class, unit type, detail (R57). -/
def reasonCode (cls : Nat) (u : UnitType) (detail : Nat) : Nat := cls * 0x1000 + u.code * 0x40 + detail

/-- Unit type of a page, DIR for a page that has none. -/
def unitAt (p : Nat) : UnitType := (unitOf p).getD .dir

/-- PAGE_REASON takes `code`: CODE holds it, COUNT counts it up to 255, STICKY is set when it overwrites a code that had
not been cleared (R57, PAGE_REASON fields). -/
def State.recordCode (s : State) (p code : Nat) : State :=
  let s1 := if s.fld p F.PAGE_REASON_COUNT = 0 then s else s.setFld p F.PAGE_REASON_STICKY 1
  (s1.setFld p F.PAGE_REASON_CODE code).addSat p F.PAGE_REASON_COUNT 1

/-- Page `p` records a reason of its own unit type. -/
def State.reason (s : State) (p cls detail : Nat) : State := s.recordCode p (reasonCode cls (unitAt p) detail)

/-! ## Operations of a page -/

/-- FABRIC cycles counted from power-on: the root divided by 8 (R58). -/
def State.fabric (s : State) : Nat := s.time.root / 8

/-- CORE cycles: the root divided by 4. -/
def State.core (s : State) : Nat := s.time.root / 4

/-- MEMCK cycles: the root divided by 10. -/
def State.memck (s : State) : Nat := s.time.root / 10

/-- Counter ns (R62). -/
def State.now (s : State) : Nat := s.time.acc.toNat / 2 ^ 24

/-- What a page holds beside its registers. -/
def State.page (s : State) (p : Nat) : PageInfo := Tab.get .reset s.pages p

def State.setPage (s : State) (p : Nat) (i : PageInfo) : State := { s with pages := Tab.set .reset s.pages p i }

/-- PAGE_OP shows an operation that runs. -/
def State.opShown (s : State) (p : Nat) : Bool := s.fld p F.PAGE_OP_KIND != 0 && s.fld p F.PAGE_OP_RESULT == 0

/-- PAGE_OP shows operation `kind`, running; an operation that it showed running goes on behind it (R40, R55). -/
def State.opBegin (s : State) (p kind : Nat) : State :=
  let s1 := if s.opShown p then s.setPage p { s.page p with behind := s.fld p F.PAGE_OP_KIND :: (s.page p).behind } else s
  (s1.setFld p F.PAGE_OP_KIND kind).setFld p F.PAGE_OP_RESULT 0

/-- Results of an operation: PAGE_OP.RESULT. -/
def opCompleted : Nat := 1
def opRefused : Nat := 2
def opAborted : Nat := 3

/-- Operation `k` of page `p` records its one result: SEQ + 1 and OP_DONE; KIND and RESULT show it unless another operation is
shown running (R55; log entry 250). -/
def State.opEndOf (s : State) (p k result : Nat) : State :=
  let i := s.page p
  let own := s.opShown p && s.fld p F.PAGE_OP_KIND == k
  let s1 := if s.opShown p && !own then s else (s.setFld p F.PAGE_OP_KIND k).setFld p F.PAGE_OP_RESULT result
  ((s1.incFld p F.PAGE_OP_SEQ).raise p 5).setPage p
    { i with resultAt := s.fabric, behind := if own then i.behind else i.behind.erase k }

/-- The operation that PAGE_OP shows records its result (R55). -/
def State.opEnd (s : State) (p result : Nat) : State := s.opEndOf p (s.fld p F.PAGE_OP_KIND) result

/-- An operation of kind `k` is running on page `p`. -/
def State.opRunning (s : State) (p k : Nat) : Bool :=
  (s.opShown p && s.fld p F.PAGE_OP_KIND == k) || (s.page p).behind.contains k

/-! ## Page states (R41) -/

def stOff : Nat := 0
def stChecking : Nat := 1
def stOn : Nat := 2
def stDraining : Nat := 3
def stOos : Nat := 4
def stFault : Nat := 5

/-- PAGE_STATE.STATE. -/
def State.st (s : State) (p : Nat) : Nat := s.fld p F.PAGE_STATE

def State.isOn (s : State) (p : Nat) : Bool := s.st p == stOn

/-- Units of the picture domains and those whose work is picture work (R496, R501). -/
def pictureUnit : UnitType → Bool
  | .src | .scal | .chan | .grp | .chmb | .look | .refp | .dec => true
  | _ => false

/-- Units of the Lantern domain, whose clocks run on in SHUTDOWN (R501). -/
def lanternUnit : UnitType → Bool
  | .dir | .sys | .pwr | .sens | .mgmt => true
  | _ => false

/-- The over-temperature action has stopped the work of page `p`: of the picture units at HOLD_MS, of every unit but the Lantern domain
with the clocks (R501). -/
def State.workStopped (s : State) (p : Nat) : Bool :=
  (s.watch.coolAt.isSome && pictureUnit (unitAt p)) || (s.watch.clocksStopped && !lanternUnit (unitAt p))

/-- ON or DRAINING, and not stopped by heat: the page still does its work. -/
def State.works (s : State) (p : Nat) : Bool := (s.st p == stOn || s.st p == stDraining) && !s.workStopped p

/-- OFF for the tests of R514: OFF, OUT_OF_SERVICE and FAULT count as OFF. -/
def State.countsOff (s : State) (p : Nat) : Bool := s.st p == stOff || s.st p == stOos || s.st p == stFault

/-- DIR_ENTRY.ABSENCE of a page (R34). -/
def State.absence (s : State) (p : Nat) : Nat :=
  if (s.page p).absence ≠ 0 then (s.page p).absence else if s.st p = stOos then 3 else 0

/-- A page that DIR reports with UNIT_TYPE 0, or that the page map reserves (R34). -/
def State.absent (s : State) (p : Nat) : Bool := (unitOf p).isNone || s.absence p != 0

/-- A change of an entry's UNIT_TYPE or ABSENCE: DIR_GENERATION + 1 and CHANGED (R36). -/
def State.dirChanged (s : State) : State := (s.incFld 0 F.DIR.DIR_GENERATION).raise 0 F.DIR.intCHANGED

/-- PAGE_STATE takes a state; entering or leaving OUT_OF_SERVICE changes the directory (R36, R41). -/
def State.toState (s : State) (p st : Nat) : State :=
  let s1 := (s.setFld p F.PAGE_STATE st).rawTo p 3 (st == stFault)
  let s2 := s1.setPage p { s1.page p with since := s.time.root }
  if (s.st p = stOos) ≠ (st = stOos) then s2.dirChanged else s2

/-- Pages of a unit type by instance. -/
def UnitType.pages (u : UnitType) : List Nat := (List.range u.count).map (u.base + ·)

/-- Every page with a common header, in ascending order. -/
def headerPages : List Nat :=
  (List.range 0x300).filter fun p => (unitOf p).isSome

/-- Every GRP page counts as OFF (R514). -/
def State.allGrpOff (s : State) : Bool := UnitType.grp.pages.all s.countsOff

end Sys2Proof.Machine
end

