-- ==== Sys2Proof/Machine/Ops.lean ====
section
/-! DEFINITION. Operations that several families share: who may touch which page (R35, R459, R460), events to Lantern
(R509 to R512), refusals and faults of a page (R41, R57), admission totals (R19 to R25), clocks and ticks (R58 to R69),
and the device reset (R457). -/

namespace Sys2Proof.Machine

/-! ## Access to pages -/

def phReset : Nat := 0
def phBoot : Nat := 1
def phSelftest : Nat := 2
def phBringup : Nat := 3
def phService : Nat := 4
def phRecovery : Nat := 5
def phShutdown : Nat := 6

/-- Page indices of the units with one page. -/
def pSYS : Nat := UnitType.sys.base
def pTIME : Nat := UnitType.time.base
def pPWR : Nat := UnitType.pwr.base
def pSENS : Nat := UnitType.sens.base
def pMGMT : Nat := UnitType.mgmt.base
def pINTC : Nat := UnitType.intc.base
def pMTX : Nat := UnitType.mtx.base
def pTASK : Nat := UnitType.task.base
def pHOST : Nat := UnitType.host.base
def pPAIR : Nat := UnitType.pair.base
def pROPE : Nat := UnitType.rope.base
def pREFP : Nat := UnitType.refp.base
def pLOOK : Nat := UnitType.look.base
def pTSCH : Nat := UnitType.tsch.base
def pMEMC (n : Nat) : Nat := UnitType.memc.base + n
def pLANE (n : Nat) : Nat := UnitType.lane.base + n
def pSDIRX (n : Nat) : Nat := UnitType.sdirx.base + n
def pSDITX (n : Nat) : Nat := UnitType.sditx.base + n
def pETH (n : Nat) : Nat := UnitType.eth.base + n
def pIPIN (n : Nat) : Nat := UnitType.ipin.base + n
def pSRC (n : Nat) : Nat := UnitType.src.base + n
def pSCAL (n : Nat) : Nat := UnitType.scal.base + n
def pCHAN (n : Nat) : Nat := UnitType.chan.base + n
def pGRP (n : Nat) : Nat := UnitType.grp.base + n
def pCHMB (n : Nat) : Nat := UnitType.chmb.base + n
def pDEC (n : Nat) : Nat := UnitType.dec.base + n
def pCHK (n : Nat) : Nat := UnitType.chk.base + n
def pDMA (n : Nat) : Nat := UnitType.dma.base + n

/-- MGMT.PHASE_STATUS.PHASE (R459). -/
def State.phase (s : State) : Nat := s.fld pMGMT F.MGMT.PHASE_STATUS_PHASE

/-- Pages that BAR0 serves before SERVICE (R460) and, with HOST, in RECOVERY (R477). -/
def earlyPage (ph p : Nat) : Bool :=
  p == 0 || p == pSYS || p == pPWR || p == pSENS || p == pMGMT || (ph == phRecovery && p == pHOST)

/-- The page answers BAR0 in the present phase: every page in SERVICE and in the hold of SHUTDOWN, else the early pages; none while
the root PLL is out of lock (R61). -/
def State.served (s : State) (p : Nat) : Bool :=
  !s.boot.rootHeld && (s.phase == phService || (s.phase == phShutdown && !s.watch.clocksStopped) || earlyPage s.phase p)

/-- The owner page of a page: itself, or the header page of an extension page (R32). -/
def ownerPage (p : Nat) : Nat :=
  match extensionOf p with
  | some u => u.base
  | none => p

/-- A register command on page `p` has an effect: the page is served and neither absent nor out of service (R35, R460). -/
def State.bar (s : State) (p : Nat) : Bool := s.served p && !s.absent (ownerPage p)

/-- Run a register command on page `p` where it has an effect; elsewhere the write is ignored (R35, R460). -/
def State.onPage (s : State) (p : Nat) (f : State → State) : Out := .next (if s.bar p then f s else s)

/-- Run an event where its condition holds; elsewhere it does not happen and nothing changes (log entry 3). -/
def State.event (s : State) (g : Bool) (f : State → State) : Out := .next (if g then f s else s)

/-! ## Events to Lantern -/

/-- TIME.RUNNING. -/
def State.running (s : State) : Bool := s.bit pTIME F.TIME.TIME_STATUS_RUNNING

/-- Of two events of one FABRIC cycle `b` is numbered before `a`: a lower page index, or a lower event index of one page; the BOOT
record is the first of its boot (R510, R512). -/
def eventBefore (b a : LogEntry) : Bool :=
  b.cycle == a.cycle && a.event != 0x0620 && (decide (b.page < a.page) || (b.page == a.page && decide (b.event < a.event)))

/-- An event joins the queue behind those of earlier FABRIC cycles and, in its own, in the order of R512. -/
def queueEvent (q : List LogEntry) (e : LogEntry) : List LogEntry :=
  q.takeWhile (fun a => !eventBefore e a) ++ e :: q.dropWhile (fun a => !eventBefore e a)

/-- Queue an event to Lantern; when 1,024 wait it is lost and counted (R511, R512). -/
def State.logEv (s : State) (page idx severity reason : Nat) (data : List (Nat × Nat)) : State :=
  let e : LogEntry :=
    { time := if s.running then s.now else 0
      noTime := !s.running
      event := (unitAt page).code * 256 + idx
      severity := severity
      page := page
      reason := reason
      data := data
      cycle := s.fabric }
  if s.log.queue.length < 1024 then { s with log := { s.log with queue := queueEvent s.log.queue e } }
  else (({ s with log := { s.log with lost := s.log.lost + 1 } }).incFld pMGMT F.MGMT.LOG_DROPPED).raise pMGMT F.MGMT.intLOG_DROP

/-- The page's CHECK_DETAIL, 0 where it has none (R511). -/
def State.checkDetail (s : State) (p : Nat) : Nat :=
  match unitOf p with
  | some .scal => s.fld p F.SCAL.CHECK_DETAIL
  | some .chan => s.fld p F.CHAN.CHECK_DETAIL
  | some .tsch => s.fld p F.TSCH.CHECK_DETAIL
  | _ => 0

/-- Octets of a 32-bit number at log octet `o`. -/
def logWord (o v : Nat) : List (Nat × Nat) :=
  [(o, v % 256), (o + 1, v / 256 % 256), (o + 2, v / 65536 % 256), (o + 3, v / 16777216 % 256)]

/-- Octets of a 16-bit number at log octet `o`. -/
def logHalf (o v : Nat) : List (Nat × Nat) := [(o, v % 256), (o + 1, v / 256 % 256)]

/-- A refusal: PAGE_REASON takes the code and, for a class other than 0, REFUSED is set and logged (R506, R510). -/
def State.refuseCode (s : State) (p code : Nat) : State :=
  if code / 0x1000 = 0 then s.recordCode p code
  else
    let s1 := (s.recordCode p code).raise p 0
    s1.logEv p 0x00 2 code
      ((24, s1.fld p F.PAGE_OP_KIND) :: (25, s1.fld p F.PAGE_OP_SEQ) :: logWord 28 (s1.checkDetail p))

/-- A refusal of class `cls`, detail `d`, of the page's own unit. -/
def State.refuse (s : State) (p cls d : Nat) : State := s.refuseCode p (reasonCode cls (unitAt p) d)

/-! ## Admission totals -/

/-- Sum of the chamber terms of all pages (R22). -/
def State.chmbSum (s : State) : Nat := s.pages.foldl (fun n c => n + c.2.chmb) 0

/-- Sum of the memory terms of all pages (R25). -/
def State.memSum (s : State) : Nat := s.pages.foldl (fun n c => n + c.2.mem) 0

/-- Chambers in service: CHMB pages neither absent, out of service nor in FAULT (R19; CHMB_IN_SERVICE). -/
def State.chmbInService (s : State) : Nat :=
  (UnitType.chmb.pages.filter fun p => !s.absent p && s.st p != stFault).length

/-- DRAM channels in service: MEMC pages that are ON (R19; MEMC_IN_SERVICE). -/
def State.memcInService (s : State) : Nat := (UnitType.memc.pages.filter fun p => s.isOn p).length

/-- Chamber admission limit for a number of chambers and a reserve held (R19). -/
def chmbLimit (chambers held : Nat) : Nat := 1050000000 * (chambers - held)

/-- Write the SYS totals of the present terms (SYS.ADM_CHMB_SUM, ADM_MEM_SUM). -/
def State.totals (s : State) : State :=
  (s.put64L pSYS F.SYS.ADM_CHMB_SUM_LO s.chmbSum).setFld pSYS F.SYS.ADM_MEM_SUM s.memSum

/-- Write the SYS limits of the present resources: chambers, reserve held, DRAM channels (R19, R23, R27). -/
def State.limits (s : State) (chambers held memc : Nat) : State :=
  ((((s.setFld pSYS F.SYS.ADM_RESOURCES_CHMB_IN_SERVICE chambers).setFld pSYS F.SYS.ADM_RESOURCES_RESERVE_HELD held).setFld
    pSYS F.SYS.ADM_RESOURCES_MEMC_IN_SERVICE memc).put64L pSYS F.SYS.ADM_CHMB_LIMIT_LO (chmbLimit chambers held)).setFld
    pSYS F.SYS.ADM_MEM_BUDGET (14400 * memc)

/-- Set the admission terms of page `p` and the totals (R45). -/
def State.setTerms (s : State) (p chmb mem : Nat) : State :=
  (s.setPage p { s.page p with chmb := chmb, mem := mem }).totals

/-- A test that refuses with a class and a detail where it holds. -/
abbrev Test := Bool × Nat × Nat

/-- The first test that refuses (R44). -/
def firstTest (ts : List Test) : Option (Nat × Nat) := (ts.find? fun t => t.1).map fun t => t.2

/-- Chamber and memory admission of the configuration that results (R20), from the sums `ch` and `mem` that would then stand: a sum
above its limit refuses. Of the pages of a commit, whose terms `all` change from old to new, those that raise the term refuse, or every
one where none raises it (log entry 98). -/
def State.admTests (s : State) (old new : Nat × Nat) (all : List ((Nat × Nat) × (Nat × Nat))) (ch mem : Nat) : List Test :=
  [((decide (old.1 < new.1) || all.all fun t => decide (t.2.1 ≤ t.1.1)) && decide (ch > s.live64 pSYS F.SYS.ADM_CHMB_LIMIT_LO),
      Cls.capacity, 0x0A),
   ((decide (old.2 < new.2) || all.all fun t => decide (t.2.2 ≤ t.1.2)) && decide (mem > s.fld pSYS F.SYS.ADM_MEM_BUDGET),
      Cls.capacity, 0x0B)]

/-- The sums with the terms of some pages replaced. -/
def State.sumsWith (s : State) (all : List ((Nat × Nat) × (Nat × Nat))) : Nat × Nat :=
  (s.chmbSum + all.foldl (fun n t => n + t.2.1) 0 - all.foldl (fun n t => n + t.1.1) 0,
   s.memSum + all.foldl (fun n t => n + t.2.2) 0 - all.foldl (fun n t => n + t.1.2) 0)

/-- Its class comes before the admission sums in the order of R44, or the page has refused by them already. -/
def decidedBefore (code : Nat) : Bool := code != 0 && code / 0x1000 != Cls.timing

/-- A resource has left service in the FABRIC cycle in which the check of page `p` was serialised: it uses the reduced limit; of the
checks of one cycle those of lower index come first (R28, R45). -/
def State.recheckPage (s : State) (p : Nat) : State :=
  let i := s.page p
  if s.st p = stChecking ∧ i.since / 8 = s.fabric ∧ !decidedBefore i.verdict then
    let later := s.pages.filter fun c => decide (p < c.1) && s.st c.1 == stChecking && c.2.since / 8 == s.fabric
    let ch := s.chmbSum - later.foldl (fun n c => n + c.2.chmb) 0
    let mem := s.memSum - later.foldl (fun n c => n + c.2.mem) 0
    match firstTest (s.admTests (0, 0) (i.chmb, i.mem) [((0, 0), (i.chmb, i.mem))] ch mem) with
    | some (c, d) => s.setPage p { i with verdict := reasonCode c (unitAt p) d }
    | none => s
  else s

/-- The same for a commit of `g` captured in this FABRIC cycle (R28, R45). -/
def State.recheckCommit (s : State) (g : Nat) : State :=
  let r := Tab.get .reset s.commits g
  if s.bit pSYS ⟨F.SYS.COMMIT_STATUS.off, 16 + g, 1⟩ ∧ r.capturedAt = s.fabric then
    let all := r.old.map fun x => (x.2, ((s.page x.1).chmb, (s.page x.1).mem))
    let code (p : Nat) : Nat := ((r.codes.find? fun x => x.1 == p).map fun x => x.2).getD 0
    let new (x : Nat × Nat × Nat) : Nat :=
      if decidedBefore (code x.1) then code x.1
      else match firstTest (s.admTests x.2 ((s.page x.1).chmb, (s.page x.1).mem) all s.chmbSum s.memSum) with
        | some (c, d) => reasonCode c (unitAt x.1) d
        | none => code x.1
    { s with commits := Tab.set .reset s.commits g { r with codes := (r.old.map fun x => (x.1, new x)).filter fun x => x.2 != 0 } }
  else s

/-- A chamber or a DRAM channel has left service: the checks serialised in this FABRIC cycle use the reduced limit (R28). -/
def State.resourceLeft (s : State) : State :=
  (List.range 9).foldl State.recheckCommit (s.pages.foldl (fun t c => t.recheckPage c.1) s)

/-- ceil(a / b). -/
def ceilDiv (a b : Nat) : Nat := (a + b - 1) / b

/-! ## Ticks -/

/-- Effective increment of a tick (the pseudocode above R62). -/
def State.incrEff (s : State) : Nat :=
  if s.fld pTIME F.TIME.SLEW_REMAIN > 0 then s.fld pTIME F.TIME.SLEW_INCR else s.fld pTIME F.TIME.INCR

/-- The signed 64-bit difference (counter ns − target) is 0 or more (R72). -/
def State.reached (s : State) (target : Nat) : Bool := wrapSub s.now target (2 ^ 64) < 2 ^ 63

/-- The counter after a tick. Past 2^64 ns no behaviour is defined (R62): the counter then takes a free value. -/
def State.nextAcc (s : State) : BitVec 88 :=
  if s.time.acc.toNat + s.incrEff < 2 ^ 88 then BitVec.ofNat 88 (s.time.acc.toNat + s.incrEff)
  else BitVec.ofNat 88 (s.freeWord.toNat * 2 ^ 56)

/-- Counter ns of the next tick, the tick in which a write takes effect (R64). -/
def State.nextNow (s : State) : Nat :=
  if s.running && !s.time.starting then s.nextAcc.toNat / 2 ^ 24 else s.now

/-- An INCR written during a slew applies when the slew ends (R69). -/
def State.incrApply (s : State) : State :=
  match s.time.incrPending with
  | some v => { s.setFld pTIME F.TIME.INCR v.toNat with time := { s.time with incrPending := none } }
  | none => s

/-- SLEW_REMAIN takes a length, and SLEW_ACTIVE shows whether it is above 0. -/
def State.slewLoad (s : State) (n : Nat) : State :=
  (s.setFld pTIME F.TIME.SLEW_REMAIN n).setFld pTIME F.TIME.TIME_STATUS_SLEW_ACTIVE (decide (n > 0)).toNat

/-- SLEW_REMAIN counts one tick. As it reaches 0 the slew ends: a pending INCR applies, and a slew that was started in this tick
begins at the next (R69). -/
def State.slewTick (s : State) : State :=
  if s.fld pTIME F.TIME.SLEW_REMAIN = 0 then s
  else
    let r := s.fld pTIME F.TIME.SLEW_REMAIN - 1
    if r = 0 then
      let s1 := { s with time := { s.time with slewEnded := true, slewNext := none } }.incrApply
      s1.slewLoad (s.time.slewNext.getD 0)
    else s.slewLoad r

/-- The tick in which an arm or a new one-shot target of compare `n` took effect compares it: an armed one-shot compare whose target
is reached is late by counter ns − target (R64, R75). -/
def State.lateMark (s : State) (n : Nat) : State :=
  let c := Tab.get .reset s.time.cmp n
  if c.fresh then
    let hit := s.running && s.bit pTIME (F.TIME.CMP_CTRL_ARM n) && s.fld pTIME (F.TIME.CMP_CTRL_MODE n) == 0 && s.reached c.target
    let c1 : CmpState := { c with fresh := false, late := if hit then some (wrapSub s.now c.target (2 ^ 64)) else none }
    { s with time := { s.time with cmp := Tab.set .reset s.time.cmp n c1 } }
  else s

/-- One TIMECK tick, 12 cycles of the root PLL (R58): the counter adds its increment while TIME runs (R62), and a slew
counts down (R69); then the compares look at it (R64). The first tick after TIME has entered ON with LOAD_MODE 0 leaves the counter
at the load value (R66). While the root PLL is out of lock no clock runs (R61), and in SHUTDOWN the counter stops with the clocks (R501). -/
def State.clockTick (s : State) : State :=
  if s.boot.rootHeld then s
  else
    let s1 := { s with time := { s.time with root := s.time.root + 12, starting := false },
                       boot := { s.boot with ps := s.boot.ps + (if s.boot.mult = 240 then 1000 else 2000) } }
    let s2 := if s.time.starting then (s1.setFld pTIME F.TIME.TIME_STATUS_RUNNING 1).raise pTIME F.TIME.intLOADED
      else if s.running && !s.watch.clocksStopped then
        let s3 := if s.time.acc.toNat + s.incrEff < 2 ^ 88 then s1 else s1.tookFree
        { s3.slewTick with time := { s3.slewTick.time with acc := s.nextAcc } }
      else s1
    (List.range 16).foldl State.lateMark s2

/-! ## Resets -/

/-- Pages of the Lantern domain, which only power-on reset clears (R457). -/
def lanternPage (p : Nat) : Bool := p == pSENS || p == pMGMT

/-- Pages that keep their state across a Lantern-issued reset beside the Lantern domain: HOST and LANE26 to 33 (R457). -/
def keptByLantern (p : Nat) : Bool := p == pHOST || (pLANE 26 ≤ p && p ≤ pLANE 33)

/-- A device reset: every unit outside the Lantern domain takes its reset values; memory, the defect map and the Lantern
domain stay, LANE_MODE_NEXT stays (R318), and across a Lantern-issued reset also HOST and its lanes (R457). -/
def State.deviceReset (s : State) (byLantern : Bool) : State :=
  let keep (p : Nat) : Bool := lanternPage p || (byLantern && keptByLantern p)
  let keptReg (a : Nat) : Bool := keep (pageOf a) || a == F.ETH.LANE_MODE_NEXT.addr (pETH 0)
  { State.reset with
    pending := s.pending
    freeCtr := s.freeCtr
    readData := s.readData
    regs := s.regs.filter fun c => keptReg c.1
    hiLive := s.hiLive.filter fun c => keptReg c.1
    mem := s.mem
    hostMem := s.hostMem
    norMem := s.norMem
    pages := (s.pages.filter fun c => c.2.absence != 0 || keep c.1).map fun c =>
      if keep c.1 then c else (c.1, { PageInfo.reset with absence := c.2.absence })
    time := { TimeState.reset with root := s.time.root }
    boot := s.boot
    nor := s.nor
    log := s.log
    watch := s.watch }

end Sys2Proof.Machine
end

