-- ==== Sys2Proof/Machine/Common.lean ====
section
/-! DEFINITION. What a page does on entering and leaving its states: what it releases (R514), how it leaves service
(R38, R41), how a fault of its own takes it to FAULT (R41), and the fatal faults that a pair yields on (R276). -/

namespace Sys2Proof.Machine

/-! ## What a page holds of other units -/

/-- Does CHAN page `c` hold a run of the reference pool (ALLOCc.BUFFERS; R220). -/
def State.runOf (s : State) (c : Nat) : Nat × Nat :=
  (s.fld pREFP (F.REFP.ALLOC_FIRST c), s.fld pREFP (F.REFP.ALLOC_BUFFERS c) * s.fld pREFP (F.REFP.ALLOC_GPB c))

/-- The runs held, as (first granule, granules), in ascending order of their first granule. -/
def State.runs (s : State) : List (Nat × Nat) :=
  ((List.range 64).map s.runOf |>.filter fun r => r.2 != 0).mergeSort fun a b => a.1 ≤ b.1

/-- The free runs of a pool of `size` granules between the runs held (R220). -/
def freeRuns (size : Nat) (start : Nat) : List (Nat × Nat) → List (Nat × Nat)
  | [] => if start < size then [(start, size - start)] else []
  | r :: rs => (if start < r.1 then [(start, r.1 - start)] else []) ++ freeRuns size (r.1 + r.2) rs

/-- The free runs of the pool of REFP. -/
def State.poolFreeRuns (s : State) : List (Nat × Nat) :=
  freeRuns (s.act pREFP F.REFP.POOL_SIZE_GRANULES) 0 s.runs

/-- POOL_FREE and POOL_LARGEST follow the runs held (REFP fields). -/
def State.poolTotals (s : State) : State :=
  let fr := s.poolFreeRuns
  (s.setFld pREFP F.REFP.POOL_FREE (fr.foldl (fun n r => n + r.2) 0)).setFld pREFP F.REFP.POOL_LARGEST
    (fr.foldl (fun n r => max n r.2) 0)

/-- Address of word `o` of queue table entry `q` (spec/14). -/
def qAddr (q o : Nat) : Nat := 0x400000 + q * 0x20 + o

/-- A field of queue table entry `q`. -/
def State.qfld (s : State) (f : Nat → Fld) (q : Nat) : Nat := s.fld 0x400 (f q)

def State.setQfld (s : State) (f : Nat → Fld) (q v : Nat) : State := s.setFld 0x400 (f q) v

/-- The queues owned by a page of kind 1 or 2 (CHAN) or 3 (ETH) and an instance (Q_OWNER; R344). -/
def State.queuesOwned (s : State) (chan : Bool) (inst : Nat) : List Nat :=
  ((s.regs.filter fun c => decide (0x400000 ≤ c.1) && decide (c.1 < 0x440000) && c.1 % 0x20 == 0x10).map
    fun c => (c.1 - 0x400000) / 0x20).filter fun q =>
      (if chan then s.qfld F.QTAB.Q_OWNER_KIND q == 1 || s.qfld F.QTAB.Q_OWNER_KIND q == 2
       else s.qfld F.QTAB.Q_OWNER_KIND q == 3) && s.qfld F.QTAB.Q_OWNER_INSTANCE q == inst

/-- Queue `q` has no owner. -/
def State.disown (s : State) (q : Nat) : State :=
  (s.setQfld F.QTAB.Q_OWNER_KIND q 0).setQfld F.QTAB.Q_OWNER_INSTANCE q 0

/-- A channel gives up its run of the reference pool: its granules are free and its marks FREE (R220, R221). -/
def State.releaseRun (s : State) (c : Nat) : State :=
  let s1 := s.setReg (Fld.addr (F.REFP.ALLOC c) pREFP) 0
  { s1 with chan := Tab.upd .reset s1.chan c fun x => { x with bufs := [] } }.poolTotals

/-- A page releases what it holds as it enters OFF, OUT_OF_SERVICE or FAULT (R514): its admission terms, its run of the
pool (R220) and its queues (R344). Its SRAM demands and line-store lines are summed over the pages in use and go with
its state. -/
def State.release (s : State) (p : Nat) : State :=
  let s1 := s.setTerms p 0 0
  match unitOf p with
  | some .chan => ((s1.releaseRun (instanceOf p)).queuesOwned true (instanceOf p)).foldl State.disown
      (s1.releaseRun (instanceOf p))
  | some .eth => (s1.queuesOwned false (instanceOf p)).foldl State.disown s1
  | _ => s1

/-! ## Leaving, faults -/

/-- A DRAINING page reaches its boundary: OFF for PAGE_OP.KIND 2, OUT_OF_SERVICE for KIND 3, with LEFT_SERVICE and the
result COMPLETED, releasing what it held (R41, R38, R514). -/
def State.leave (s : State) (p : Nat) : State :=
  let out := s.bit p F.PAGE_CTRL_DRAIN
  let dest := if out then stOos else stOff
  let s1 := ((s.opEndOf p (if out then 3 else 2) opCompleted).toState p dest).raise p 2
  ((s1.toOffValues p).setFld p F.PAGE_CTRL_ENABLE 0).release p

/-- The FAULT record of a page (R510, R511). -/
def State.logFault (s : State) (p code : Nat) : State :=
  s.logEv p 0x03 5 code (logWord 24 (s.fld p ⟨0x40, 0, 32⟩))

/-- The time of a fault of TASK is noted beside that of the one before (R478). -/
def State.noteTaskFault (s : State) (p : Nat) : State :=
  if p = pTASK then { s with watch := { s.watch with taskFaultPrev := s.watch.taskFaultAt, taskFaultAt := some s.boot.ps } } else s

/-- A unit's own fault takes its page to FAULT: INT_STATUS.FAULT, the reason of class RESOURCE_FAULT, a running operation
REFUSED, the page's holdings released (R41, R514), and the FAULT record (R510). -/
def State.enterFault (s : State) (p detail : Nat) : State :=
  if s.st p = stChecking ∨ s.st p = stOn ∨ s.st p = stDraining then
    let code := reasonCode Cls.resource (unitAt p) detail
    let s1 := if s.opShown p then (s.refuseCode p code).opEnd p opRefused else s.recordCode p code
    let s2 := (s.page p).behind.foldl (fun t k => if k = 4 then t else t.opEndOf p k opRefused) s1
    ((((s2.toState p stFault).raise p 3).logFault p code).release p).noteTaskFault p
  else s

/-! ## Protected content (R127) -/

/-- A write to a PROT register of source `n` (R127): `r` is the register's offset / 4 from 0x600. From the host, or once LOCK is
set, it is ignored; the host's write records LOCKED_FIELD. -/
def State.protWrite (byLantern : Bool) (n r : Nat) (v : Word) (s : State) : State :=
  let p := pSRC n
  if !byLantern then s.reason p Cls.locked 0x07
  else if s.bit p F.SRC.PROT_LOCK_LOCK then s
  else match RegRow.find regRowsSRC (0x600 + 4 * r) with
    | some row => s.setReg (p * 0x1000 + 0x600 + 4 * r) (row.written (s.reg (p * 0x1000 + 0x600 + 4 * r)) v)
    | none => s

end Sys2Proof.Machine
end

