-- ==== Sys2Proof/Machine/Pwr.lean ====
section
/-! DEFINITION. The current-step governor of PWR (spec/23 R493 to R497). -/

namespace Sys2Proof.Machine

/-- Picture domains in wake order: LOOK, composition, the chambers, the decoders (R494). -/
def govDomains : List Nat := List.range 22

/-- Stages of a domain from COLD to WARM (R494). -/
def govStages (d : Nat) : Nat := if d = 0 then 8 else if d < 20 then 16 else 12

def State.govLevel (s : State) (d : Nat) : Nat := Tab.get 0 s.pwr.level d

/-- The domain is to be WARM. -/
def State.govWanted (s : State) (d : Nat) : Bool := Tab.get 0 s.pwr.want d == 1

/-- The bit of a domain in DOMAIN_WARM. -/
def warmBit (d : Nat) : Fld := ⟨0x108, if d = 0 then 18 else if d = 1 then 19 else if d < 20 then d - 2 else d, 1⟩

/-- A picture domain is WARM. -/
def State.warm (s : State) (d : Nat) : Bool := s.govLevel d == govStages d

/-- Wake stages, and cooling stages, still to be issued (R494). -/
def State.wakeLeft (s : State) : Nat := (govDomains.filter s.govWanted).foldl (fun n d => n + (govStages d - s.govLevel d)) 0
def State.coolLeft (s : State) : Nat := (govDomains.filter fun d => !s.govWanted d).foldl (fun n d => n + s.govLevel d) 0

/-- GOV_STATUS shows the staircase in progress and the stages still to be issued. -/
def State.govShow (s : State) : State :=
  ((s.setFld pPWR F.PWR.GOV_STATUS_BUSY (decide (s.wakeLeft + s.coolLeft > 0)).toNat).setFld pPWR F.PWR.GOV_STATUS_DIRECTION
    (decide (s.wakeLeft = 0 ∧ s.coolLeft > 0)).toNat).setFld pPWR F.PWR.GOV_STATUS_STAGES (s.wakeLeft + s.coolLeft)

/-- A domain is to be WARM, or COLD, from now on. -/
def State.govWant (s : State) (d : Nat) (on : Bool) : State :=
  { s with pwr := { s.pwr with want := Tab.set 0 s.pwr.want d on.toNat } }

/-- A GRP page enters ON: LOOK, the composition domain and every chamber that does its work wake (R496). -/
def State.govWake (s : State) : State :=
  (((List.range 18).filter fun c => s.works (pCHMB c)).foldl (fun t c => t.govWant (2 + c) true)
    ((s.govWant 0 true).govWant 1 true)).govShow

/-- The enable check of DEC `d` wakes its domain; a DEC page that leaves ON has it cooled (R496). -/
def State.govDec (s : State) (d : Nat) (on : Bool) : State := (s.govWant (20 + d) on).govShow

/-- Chamber `c` leaves the pool: it is cooled; ERR_COUNT1 (R495). -/
def State.govChamberLeaves (s : State) (c : Nat) : State :=
  if s.govWanted (2 + c) then (((s.govWant (2 + c) false).err pPWR 1)).govShow else s

/-- Chamber `c` has entered ON: it wakes while any GRP page is not OFF (R495). -/
def State.govChamberReturns (s : State) (c : Nat) : State :=
  if s.allGrpOff then s else (s.govWant (2 + c) true).govShow

/-- One stage of domain `d`, up or down; DOMAIN_WARM follows. -/
def State.govStep (s : State) (d : Nat) (up : Bool) : State :=
  let l := if up then s.govLevel d + 1 else s.govLevel d - 1
  { s.setFld pPWR (warmBit d) (l == govStages d).toNat with pwr := { s.pwr with level := Tab.set 0 s.pwr.level d l } }

/-- GOVERNOR_STAGE (R494): at most one stage in 60 CORE cycles. A wake stage goes first, in the wake order; with none to
issue, a cooling stage in the reverse order. -/
def execGovernorStage (s : State) : Out :=
  s.event (s.works pPWR && !s.watch.clocksStopped && decide (s.wakeLeft + s.coolLeft > 0) &&
      decide (s.core ≥ s.pwr.lastStage + 60)) fun s =>
    match govDomains.find? fun d => s.govWanted d && decide (s.govLevel d < govStages d) with
    | some d =>
      let first := if s.pwr.waking then s.pwr.firstStage else s.core
      let s1 := if s.pwr.waking then s else s.err pPWR 0
      let s2 : State := { s1.govStep d true with pwr := { (s1.govStep d true).pwr with
        waking := true, cooling := false, firstStage := first, lastStage := s.core } }
      let s3 :=
        if s2.wakeLeft = 0 then
          { (s2.raise pPWR F.PWR.intWAKE_DONE).setFld pPWR F.PWR.WAKE_LAST_NS ((s.core - first) / 3 + 20) with
            pwr := { s2.pwr with waking := false } }
        else s2
      s3.govShow
    | none =>
      match govDomains.reverse.find? fun d => !s.govWanted d && decide (0 < s.govLevel d) with
      | some d =>
        let s2 : State := { s.govStep d false with pwr := { (s.govStep d false).pwr with cooling := true, lastStage := s.core } }
        (if s2.coolLeft = 0 then { s2.raise pPWR F.PWR.intCOOLED with pwr := { s2.pwr with cooling := false } } else s2).govShow
      | none => s

/-- Every GRP and DEC page counts as OFF (R497, R514). -/
def State.pictureIdle (s : State) : Bool := s.allGrpOff && UnitType.dec.pages.all s.countsOff

/-- The time since which every GRP and DEC page has been OFF follows their states (R497). -/
def State.govIdle (s : State) : State :=
  if s.pictureIdle then
    (match s.pwr.idleSince with
      | some _ => s
      | none => { s with pwr := { s.pwr with idleSince := some s.boot.ps } })
  else { s with pwr := { s.pwr with idleSince := none } }

/-- COOL_DELAY_EXPIRY (R497). -/
def execCoolDelayExpiry (s : State) : Out :=
  let due := match s.pwr.idleSince with
    | some t => decide (s.boot.ps ≥ t + s.fld pPWR F.PWR.GOV_CFG_COOL_DELAY_MS * 1000000000)
    | none => false
  s.event (s.works pPWR && due && s.pictureIdle && !s.bit pPWR F.PWR.GOV_CFG_HOLD_WARM) fun s =>
    (((List.range 20).foldl (fun t d => t.govWant d false) s)).govShow

/-- A write of GOV_CFG or OT_CFG (R503). -/
def State.pwrCfgWrite (ot : Bool) (v : Word) (s : State) : State :=
  if ot then
    if v.toNat % 1024 > 1000 then s.reason pPWR Cls.range 0x03 else s.setFld pPWR F.PWR.OT_CFG_HOLD_MS v.toNat
  else if v.toNat % 65536 > 60000 then s.reason pPWR Cls.range 0x03
  else (s.setFld pPWR F.PWR.GOV_CFG_COOL_DELAY_MS v.toNat).setFld pPWR F.PWR.GOV_CFG_HOLD_WARM (F.PWR.GOV_CFG_HOLD_WARM.of v)

end Sys2Proof.Machine
end

