-- ==== Sys2Proof/Machine/Sha.lean ====
section
/-! DEFINITION. SHA-384 (FIPS 180-4), the digest of a boot image (R463; log entry 30). Words are numbers below 2^64; the round constants
are the first 64 bits of the fractional parts of the cube roots of the first 80 primes, the start value those of the square roots
of the ninth to the sixteenth. -/

namespace Sys2Proof.Machine

/-- Round constants 0 to 19. -/
def shaK0 : List Nat :=
  [0x428A2F98D728AE22, 0x7137449123EF65CD, 0xB5C0FBCFEC4D3B2F, 0xE9B5DBA58189DBBC, 0x3956C25BF348B538,
   0x59F111F1B605D019, 0x923F82A4AF194F9B, 0xAB1C5ED5DA6D8118, 0xD807AA98A3030242, 0x12835B0145706FBE,
   0x243185BE4EE4B28C, 0x550C7DC3D5FFB4E2, 0x72BE5D74F27B896F, 0x80DEB1FE3B1696B1, 0x9BDC06A725C71235,
   0xC19BF174CF692694, 0xE49B69C19EF14AD2, 0xEFBE4786384F25E3, 0xFC19DC68B8CD5B5, 0x240CA1CC77AC9C65]

/-- Round constants 20 to 39. -/
def shaK1 : List Nat :=
  [0x2DE92C6F592B0275, 0x4A7484AA6EA6E483, 0x5CB0A9DCBD41FBD4, 0x76F988DA831153B5, 0x983E5152EE66DFAB,
   0xA831C66D2DB43210, 0xB00327C898FB213F, 0xBF597FC7BEEF0EE4, 0xC6E00BF33DA88FC2, 0xD5A79147930AA725,
   0x6CA6351E003826F, 0x142929670A0E6E70, 0x27B70A8546D22FFC, 0x2E1B21385C26C926, 0x4D2C6DFC5AC42AED,
   0x53380D139D95B3DF, 0x650A73548BAF63DE, 0x766A0ABB3C77B2A8, 0x81C2C92E47EDAEE6, 0x92722C851482353B]

/-- Round constants 40 to 59. -/
def shaK2 : List Nat :=
  [0xA2BFE8A14CF10364, 0xA81A664BBC423001, 0xC24B8B70D0F89791, 0xC76C51A30654BE30, 0xD192E819D6EF5218,
   0xD69906245565A910, 0xF40E35855771202A, 0x106AA07032BBD1B8, 0x19A4C116B8D2D0C8, 0x1E376C085141AB53,
   0x2748774CDF8EEB99, 0x34B0BCB5E19B48A8, 0x391C0CB3C5C95A63, 0x4ED8AA4AE3418ACB, 0x5B9CCA4F7763E373,
   0x682E6FF3D6B2B8A3, 0x748F82EE5DEFB2FC, 0x78A5636F43172F60, 0x84C87814A1F0AB72, 0x8CC702081A6439EC]

/-- Round constants 60 to 79. -/
def shaK3 : List Nat :=
  [0x90BEFFFA23631E28, 0xA4506CEBDE82BDE9, 0xBEF9A3F7B2C67915, 0xC67178F2E372532B, 0xCA273ECEEA26619C,
   0xD186B8C721C0C207, 0xEADA7DD6CDE0EB1E, 0xF57D4F7FEE6ED178, 0x6F067AA72176FBA, 0xA637DC5A2C898A6,
   0x113F9804BEF90DAE, 0x1B710B35131C471B, 0x28DB77F523047D84, 0x32CAAB7B40C72493, 0x3C9EBE0A15C9BEBC,
   0x431D67C49C100D4C, 0x4CC5D4BECB3E42B6, 0x597F299CFC657E2A, 0x5FCB6FAB3AD6FAEC, 0x6C44198C4A475817]

def shaK : List Nat := shaK0 ++ shaK1 ++ shaK2 ++ shaK3

/-- The start value. -/
def sha384Start : List Nat :=
  [0xCBBB9D5DC1059ED8, 0x629A292A367CD507, 0x9159015A3070DD17, 0x152FECD8F70E5939,
   0x67332667FFC00B31, 0x8EB44A8768581511, 0xDB0C2E0D64F98FA7, 0x47B5481DBEFA4FA4]

def rot64 (x n : Nat) : Nat := x / 2 ^ n + x % 2 ^ n * 2 ^ (64 - n)

def shaSmall (a b c x : Nat) : Nat := rot64 x a ^^^ rot64 x b ^^^ (x / 2 ^ c)
def shaBig (a b c x : Nat) : Nat := rot64 x a ^^^ rot64 x b ^^^ rot64 x c

/-- `n` further words of the message schedule; the words so far stand latest first. -/
def shaSchedule : Nat → List Nat → List Nat
  | 0, w => w
  | n + 1, w => shaSchedule n ((shaSmall 19 61 6 (w.getD 1 0) + w.getD 6 0 + shaSmall 1 8 7 (w.getD 14 0) + w.getD 15 0) % 2 ^ 64 :: w)

/-- One round of the compression, on the words a to h, with round constant and schedule word. -/
def shaRound (v : List Nat) (kw : Nat × Nat) : List Nat :=
  match v with
  | [a, b, c, d, e, f, g, h] =>
    let ch := (e &&& f) ^^^ ((2 ^ 64 - 1 - e) &&& g)
    let t1 := h + shaBig 14 18 41 e + ch + kw.1 + kw.2
    let maj := (a &&& b) ^^^ (a &&& c) ^^^ (b &&& c)
    [(t1 + shaBig 28 34 39 a + maj) % 2 ^ 64, a, b, c, (d + t1) % 2 ^ 64, e, f, g]
  | _ => v

/-- The value of big-endian octets. -/
def shaWord (bs : List Byte) : Nat := bs.foldl (fun n b => n * 256 + b.toNat) 0

/-- Words of a block of `n` words, the first last. -/
def shaWords : Nat → List Byte → List Nat → List Nat
  | 0, _, w => w
  | n + 1, bs, w => shaWords n (bs.drop 8) (shaWord (bs.take 8) :: w)

/-- One block of 128 octets. -/
def shaBlock (h : List Nat) (bs : List Byte) : List Nat :=
  let w := (shaSchedule 64 (shaWords 16 bs [])).reverse
  (h.zip ((shaK.zip w).foldl shaRound h)).map fun x => (x.1 + x.2) % 2 ^ 64

/-- `n` blocks. -/
def shaBlocks : Nat → List Byte → List Nat → List Nat
  | 0, _, h => h
  | n + 1, bs, h => shaBlocks n (bs.drop 128) (shaBlock h (bs.take 128))

/-- A number as `n` octets, most significant first. -/
def shaOctets (x : Nat) : Nat → List Byte
  | 0 => []
  | n + 1 => shaOctets (x / 256) n ++ [BitVec.ofNat 8 x]

/-- SHA-384 of a list of octets, 48 octets. -/
def sha384 (bs : List Byte) : List Byte :=
  let n := (bs.length + 17 + 127) / 128
  let padded := bs ++ [0x80#8] ++ List.replicate (128 * n - bs.length - 17) 0 ++ shaOctets (8 * bs.length) 16
  ((shaBlocks n padded sha384Start).take 6).flatMap fun w => shaOctets w 8

end Sys2Proof.Machine
end

