-- ==== Sys2Proof/Machine/Crc.lean ====
section
/-! DEFINITION. The check-value function of R401, of which every CRC of the block is a setting: CRC-8 of Rope blocks
(R295), CRC-16 of Squeeze blocks and log records (R228, R473), CRC-32 of regions (R125), of PSI (R334), CRC-32C of Rope
frames (R297), CRC-64 of digests (R273), the in-band CRC of R382 and the flit CRC of R396. -/

namespace Sys2Proof.Machine

/-- Reverse the low `n` bits of `x`. -/
def reflectBits (x : Nat) : Nat → Nat
  | 0 => 0
  | n + 1 => x % 2 * 2 ^ n + reflectBits (x / 2) n

/-- `n` bit steps of the register. -/
def crcBits (w poly : Nat) (crc : Nat) : Nat → Nat
  | 0 => crc
  | n + 1 =>
    let c := if crc / 2 ^ (w - 1) % 2 = 1 then ((crc * 2) ^^^ poly) % 2 ^ w else crc * 2 % 2 ^ w
    crcBits w poly c n

/-- One payload octet. -/
def crcOctet (w poly : Nat) (refin : Bool) (crc b : Nat) : Nat :=
  crcBits w poly (crc ^^^ ((if refin then reflectBits b 8 else b) * 2 ^ (w - 8))) 8

/-- The check value over a list of octets (the pseudocode of R401). -/
def checkValue (w poly init : Nat) (refin refout finv : Bool) (bs : List Byte) : Nat :=
  let c := bs.foldl (fun c b => crcOctet w poly refin c b.toNat) init
  let c := if refout then reflectBits c w else c
  if finv then c ^^^ (2 ^ w - 1) else c

/-- CRC-16/IBM-3740: Squeeze blocks (R228) and log records (R473). -/
def crc16 (bs : List Byte) : Nat := checkValue 16 0x1021 0xFFFF false false false bs

/-- CRC-16/XMODEM (R401's table, R477). -/
def crc16Xmodem (bs : List Byte) : Nat := checkValue 16 0x1021 0 false false false bs

/-- CRC-32 (R125, R462). -/
def crc32 (bs : List Byte) : Nat := checkValue 32 0x04C11DB7 0xFFFFFFFF true true true bs

/-- CRC-32/MPEG-2 (R334). -/
def crc32Mpeg (bs : List Byte) : Nat := checkValue 32 0x04C11DB7 0xFFFFFFFF false false false bs

/-- CRC-64/XZ (R273). -/
def crc64 (bs : List Byte) : Nat := checkValue 64 0x42F0E1EBA9EA3693 0xFFFFFFFFFFFFFFFF true true true bs

/-- The in-band CRC of block number `b` of a channel with contents `bs` (R382). -/
def crcBlock (b : Nat) (bs : List Byte) : Nat :=
  checkValue 16 0x8BB7 0 false false false
    (bs ++ [BitVec.ofNat 8 b, BitVec.ofNat 8 (b / 256), BitVec.ofNat 8 (b / 65536), BitVec.ofNat 8 (b / 16777216)])

/-- CRC-16/ARC: the CRC of a flit of the matrix (R396). -/
def crcFlit (bs : List Byte) : Nat := checkValue 16 0x8005 0 true true false bs

/-- The nine ASCII octets "123456789" (R401). -/
def nineDigits : List Byte := [0x31, 0x32, 0x33, 0x34, 0x35, 0x36, 0x37, 0x38, 0x39]

end Sys2Proof.Machine
end

