-- ==== Sys2Proof/Machine/RopeLine.lean ====
section
/-! DEFINITION. The line coding of the Rope link (spec/12): frames and their CRC (R297), 66-bit blocks and the slots of columns (R293,
R295, R296), the scrambler (R294), and the bound on the first copy of a YIELD (R303). A peer alone sees the blocks (log entry 105);
the commands bring the frames and blocks that have passed these checks, and count those that have not. -/

namespace Sys2Proof.Machine

/-- The big-endian octets of a number (R9). -/
def beBytes (v : Nat) : Nat → List Byte
  | 0 => []
  | n + 1 => BitVec.ofNat 8 (v / 256 ^ n) :: beBytes v n

/-- The number that big-endian octets spell. -/
def beNat (bs : List Byte) : Nat := bs.foldl (fun n b => n * 256 + b.toNat) 0

/-! ## Frames (R297) -/

/-- CRC-32C, sent most significant octet first (R297). -/
def crc32c (bs : List Byte) : Nat := checkValue 32 0x1EDC6F41 0xFFFFFFFF true true true bs

/-- The octets of a frame: KIND, TYPE, SEQ, LENGTH, two zeros, the body, the CRC (R297). -/
def frameBytes (priority : Bool) (type seq : Nat) (body : List Byte) : List Byte :=
  let h := [if priority then 0x80#8 else 0#8, BitVec.ofNat 8 type] ++ beBytes seq 2 ++ beBytes body.length 2 ++ [0, 0] ++ body
  h ++ beBytes (crc32c h) 4

/-- The octets are those of a good frame: LENGTH is where the frame ends, at most 1,024, and the CRC fits (R297). -/
def frameGood (bs : List Byte) : Bool :=
  decide (12 ≤ bs.length) && beNat ((bs.drop 4).take 2) + 12 == bs.length && decide (bs.length ≤ 1036) &&
    crc32c (bs.take (bs.length - 4)) == beNat (bs.drop (bs.length - 4))

/-! ## Blocks (R293, R295 to R297) -/

/-- A block: its sync header is a control block's, and its eight octets (R293). -/
structure Block where
  control : Bool
  octets : List Byte
deriving DecidableEq, Repr

/-- The data blocks and the TERM block of the octets after START: eight octets a block, the rest in TERMt (R297); at most `n` data blocks. -/
def dataBlocks : Nat → List Byte → List Block
  | 0, bs => [⟨true, BitVec.ofNat 8 (0xE0 + bs.length) :: bs ++ List.replicate (7 - bs.length) 0⟩]
  | n + 1, bs =>
    if bs.length < 8 then [⟨true, BitVec.ofNat 8 (0xE0 + bs.length) :: bs ++ List.replicate (7 - bs.length) 0⟩]
    else ⟨false, bs.take 8⟩ :: dataBlocks n (bs.drop 8)

/-- The slot blocks of a frame: START with octets 0 to 6, data blocks, TERM (R297). -/
def frameBlocks (bs : List Byte) : List Block := ⟨true, 0x2D#8 :: bs.take 7⟩ :: dataBlocks bs.length (bs.drop 7)

/-- CRC-8 of control blocks, over octets 0 to 6 (R295). -/
def crc8 (bs : List Byte) : Nat := checkValue 8 0x07 0 false false false bs

/-- A control block whose last octet is the CRC-8 of the others. -/
def crcBlock8 (type : Byte) (bs : List Byte) : Block :=
  let h := type :: bs
  ⟨true, h ++ [BitVec.ofNat 8 (crc8 h)]⟩

/-- IDLE, ABORT, ACK, HEARTBEAT and AM blocks (R295). -/
def idleBlock : Block := ⟨true, 0x1E#8 :: List.replicate 7 0⟩
def abortBlock : Block := ⟨true, 0x33#8 :: List.replicate 7 0⟩
def ackBlock (next : Nat) (nak : Bool) (pAck : Nat) : Block :=
  crcBlock8 0x55#8 (beBytes next 2 ++ [BitVec.ofNat 8 nak.toNat, BitVec.ofNat 8 pAck, 0, 0])
def heartbeatBlock (lane rxMask next pAck count : Nat) : Block :=
  crcBlock8 0x4B#8 ([BitVec.ofNat 8 (lane + rxMask * 16)] ++ beBytes next 2 ++ [BitVec.ofNat 8 pAck, BitVec.ofNat 8 count, 0])
def amBlock (lane txMask rxMask count : Nat) : Block :=
  crcBlock8 0x66#8 ([BitVec.ofNat 8 lane, BitVec.ofNat 8 txMask, BitVec.ofNat 8 rxMask] ++ beBytes count 3)

/-- Slot blocks fill the columns of `w` lanes in ascending lane order; the last column is filled with IDLE (R296); at most `n` columns. -/
def slotColumns (w : Nat) : Nat → List Block → List (List Block)
  | 0, _ => []
  | n + 1, bs =>
    if bs.isEmpty then []
    else (bs.take w ++ List.replicate (w - bs.length) idleBlock) :: slotColumns w n (bs.drop w)

/-- The bits of an octet, least significant first. -/
def octetBits (b : Byte) : List Bool := (List.range 8).map fun i => b.getLsbD i

/-- Sync header (0b01 data, 0b10 control, bit 0 first) and payload bits of a block in the order of transmission (R293). -/
def Block.header (b : Block) : List Bool := if b.control then [false, true] else [true, false]
def Block.payload (b : Block) : List Bool := b.octets.flatMap octetBits

/-! ## The scrambler (R294) -/

/-- s(i) = d(i) XOR s(i − 39) XOR s(i − 58); `h` holds the scrambled bits sent, last first. -/
def scramble : List Bool → List Bool → List Bool
  | _, [] => []
  | h, d :: ds =>
    let s := xor d (xor (h.getD 38 false) (h.getD 57 false))
    s :: scramble (s :: h) ds

/-- d(i) = s(i) XOR s(i − 39) XOR s(i − 58); `h` holds the scrambled bits received, last first. -/
def descramble : List Bool → List Bool → List Bool
  | _, [] => []
  | h, s :: ss => xor s (xor (h.getD 38 false) (h.getD 57 false)) :: descramble (s :: h) ss

/-! ## The bound on YIELD (R303) -/

/-- CORE cycles from a YIELD that is ready to the last bit of its first copy at the balls, at most: `blocks` blocks on `width` lanes. -/
def yieldCycles (blocks width : Nat) : Nat := ceilDiv (4800 + 768 * (3 + ceilDiv blocks width)) 100

end Sys2Proof.Machine
end

