-- ==== Sys2Proof/Machine/RopeLink.lean ====
section
/-! DEFINITION. The transmit side of the Rope link: numbering, holding and releasing frames (R298 to R302, R315). -/

namespace Sys2Proof.Machine

/-- ROPE_STATUS.LINK: 0 DOWN, 1 DETECT, 2 TRAIN, 3 ALIGN, 4 EXCHANGE, 5 ACTIVE (R313). -/
def State.link (s : State) : Nat := s.fld pROPE F.ROPE.ROPE_STATUS_LINK

/-- The Rope link is active (R313). -/
def State.linkActive (s : State) : Bool := s.link == 5

/-- Transmit class of a message type (R301). -/
def ropeClass (ty : Nat) : Nat :=
  if ty = 0x20 then 2 else if ty = 0x02 then 3
  else if ty = 0x30 ∨ ty = 0x31 ∨ ty = 0x32 ∨ ty = 0x22 ∨ ty = 0x21 then 1 else 0

/-- Octets of a frame: 8 of header, the body, 4 of CRC (R297). -/
def frameOctets (body : List Byte) : Nat := 12 + body.length

/-- The limit on held frames leaves room for one more (R300, R314). -/
def State.ropeRoom (s : State) (body : List Byte) : Bool :=
  decide (s.rope.held.length < min 256 s.rope.window) &&
  decide (s.rope.held.foldl (fun n f => n + frameOctets f.body) 0 + frameOctets body ≤ 265216)

/-- Index of the first queued message of the lowest class (R301). -/
def firstQueued (q : List (Nat × List Byte)) : Option (Nat × List Byte) :=
  match q.find? (fun m => ropeClass m.1 == 0) with
  | some m => some m
  | none => match q.find? (fun m => ropeClass m.1 == 1) with
    | some m => some m
    | none => match q.find? (fun m => ropeClass m.1 == 2) with
      | some m => some m
      | none => q.head?

/-- Queued messages take their numbers in class order and are sent while the limit allows (R300, R301). -/
def State.ropeFill (s : State) : Nat → State
  | 0 => s
  | fuel + 1 =>
    match firstQueued s.rope.queued with
    | none => s
    | some m =>
      if s.ropeRoom m.2 then
        let seq := s.fld pROPE F.ROPE.SEQ_STATUS_TX_NEXT
        let s1 := { s with rope := { s.rope with
          held := s.rope.held ++ [RopeFrame.mk seq m.1 m.2 s.fabric]
          queued := s.rope.queued.erase m
          mboxSeq := if m.1 = 0x02 then some seq else s.rope.mboxSeq } }
        let s2 := if m.1 = 0x15 then { s1 with pair := { s1.pair with handSeq := seq } } else s1
        State.ropeFill (s2.setFld pROPE F.ROPE.SEQ_STATUS_TX_NEXT (seq + 1)) fuel
      else s

/-- Send whatever may be sent. -/
def State.ropePump (s : State) : State := s.ropeFill (s.rope.queued.length + 1)

/-- A message is issued; while LINK is not ACTIVE it is discarded, CAPS apart (R301, R314). -/
def State.ropeSend (s : State) (ty : Nat) (body : List Byte) : State :=
  if s.linkActive ∨ (ty = 0x01 ∧ s.link = 4) then
    { s with rope := { s.rope with queued := s.rope.queued ++ [(ty, body)] } }.ropePump
  else s

/-- A NEXT_SEQ from the peer releases every held frame below it: the mailbox ends its wait, CAPS and HANDOVER are
acknowledged (R279, R300, R313, R315). -/
def State.ropeRelease (s : State) (next : Nat) : State :=
  match s.rope.held with
  | [] => s
  | f :: _ =>
    let d := (next + 0x10000 - f.seq) % 0x10000
    if d = 0 ∨ d > s.rope.held.length then s
    else
      let gone := s.rope.held.take d
      let s1 := { s with rope := { s.rope with
        held := s.rope.held.drop d
        capsAcked := s.rope.capsAcked || gone.any fun g => g.type == 0x01 } }
      let s2 := if gone.any fun g => g.type == 0x02 then
          ((s1.setFld pROPE F.ROPE.MBOX_STATUS_TX_BUSY 0).raise pROPE F.ROPE.intMBOX_TX_DONE)
        else s1
      let s3 := if gone.any fun g => g.type == 0x15 && g.seq == s.pair.handSeq then
          { s2 with pair := { s2.pair with acked := true } }
        else s2
      s3.ropePump

/-- Go-back-N: the held frames from the oldest on are sent again; ERR_COUNT1 counts the replay and ERR_COUNT2 the frames
(R300). -/
def State.ropeReplay (s : State) : State :=
  if s.rope.held = [] then s
  else
    let s1 := { s with rope := { s.rope with held := s.rope.held.map fun (f : RopeFrame) => { f with sentAt := s.fabric } } }
    (s1.err pROPE 1).errBy pROPE 2 s.rope.held.length

/-- Discarding a sequenced frame sends one ACK with NAK, and no other for the same NEXT_SEQ within 4 µs (R299). -/
def State.ropeNak (s : State) : State :=
  match s.rope.nakAt with
  | some t => if s.fabric < t + 6000 then s else { s with rope := { s.rope with nakAt := some s.fabric } }
  | none => { s with rope := { s.rope with nakAt := some s.fabric } }

/-- A sequenced frame is accepted: NEXT_SEQ advances, and a NAK may be sent anew (R299). -/
def State.ropeTook (s : State) (seq : Nat) : State :=
  { s.setFld pROPE F.ROPE.SEQ_STATUS_RX_NEXT (seq + 1) with rope := { s.rope with nakAt := none } }

/-- A sequenced frame arrives: it is accepted when its SEQ is NEXT_SEQ, else discarded with a NAK (R298, R299). -/
def State.ropeAccept (s : State) (seq : Nat) (f : State → State) : State :=
  if s.link = 4 ∨ s.link = 5 then
    if seq = s.fld pROPE F.ROPE.SEQ_STATUS_RX_NEXT then
      f (s.ropeTook seq)
    else s.ropeNak
  else s

/-- YIELD is sent as a priority frame under the next P-sequence, twice, and until the peer's P_ACK answers it (R302). -/
def State.ropeYield (s : State) (body : List Byte) : State :=
  if s.linkActive then
    let p := (s.rope.pTx + 1) % 256
    { s with rope := { s.rope with yield' := some (p, body, s.fabric), pTx := p } }
  else s

end Sys2Proof.Machine
end

