-- ==== Sys2Proof/Machine/PairCore.lean ====
section
/-! DEFINITION. Claims, output roles, step states, the gate and fatal faults of the pair (spec/11). -/

namespace Sys2Proof.Machine

/-! ## Channels as PAIR sees them -/

def State.chanOf (s : State) (c : Nat) : ChanState := Tab.get .reset s.chan c

def State.setChan (s : State) (c : Nat) (x : ChanState) : State := { s with chan := Tab.set .reset s.chan c x }

def State.updChan (s : State) (c : Nat) (f : ChanState → ChanState) : State := s.setChan c (f (s.chanOf c))

/-- A CHAN page that does its work (ON, or DRAINING toward its last picture; R41). -/
def State.chanOn (s : State) (c : Nat) : Bool := s.works (pCHAN c)

/-- The ON channels in ascending order. -/
def State.chansOn (s : State) : List Nat := (List.range 64).filter s.chanOn

/-- Step codes of CH_STEP. -/
def ncNotCompared : Nat := 0
def ncOutOfStep : Nat := 1
def ncJoining : Nat := 2
def ncInStep : Nat := 3

/-- The step code field of channel `c` (CH_STEPn). -/
def chStepFld (c : Nat) : Fld := ⟨0x130 + 4 * (c / 16), 2 * (c % 16), 2⟩

def State.chStep (s : State) (c : Nat) : Nat := s.fld pPAIR (chStepFld c)

/-- A refresh request is pending on the channel from frame index `from'` (R177). -/
def State.requestRefresh (s : State) (c from' : Nat) : State :=
  (s.updChan c fun x => { x with refresh := { x.refresh with
    requests := if x.refresh.requests.contains from' then x.refresh.requests else x.refresh.requests ++ [from'] } }).setFld (pCHAN c)
    F.CHAN.BS_STATUS_REFRESH_PENDING 1

/-! ## Claims -/

def State.pairOn (s : State) : Bool := s.isOn pPAIR

def State.isActive (s : State) : Bool := s.bit pPAIR F.PAIR.PAIR_STATUS_OUTPUT

def State.yielded (s : State) : Bool := s.bit pPAIR F.PAIR.PAIR_STATUS_YIELDED

def State.ownClaim (s : State) : Nat := s.fld pPAIR F.PAIR.CLAIM

/-- P of R262: the peer claim known last, or 0. -/
def State.peerClaim (s : State) : Nat :=
  if s.bit pPAIR F.PAIR.PAIR_STATUS_PEER_KNOWN then s.fld pPAIR F.PAIR.PEER_CLAIM else 0

def State.ownPrimary (s : State) : Bool := s.bit pPAIR F.PAIR.PAIR_CFG_ROLE

/-- One claim pair outranks another (R261). -/
def outranks (c1 : Nat) (primary1 yielded1 : Bool) (c2 : Nat) (primary2 yielded2 : Bool) : Bool :=
  if yielded1 != yielded2 then yielded2
  else decide (c1 > c2) || (c1 == c2 && primary1 && !primary2)

/-- The claim of a unit that becomes ACTIVE: min(max(C, 2, P + 1), 0xFFFF_FFFF) (R262). -/
def claimRaise (c p : Nat) : Nat := min (max (max c 2) (p + 1)) 0xFFFFFFFF

/-- Set the claim under R262 with peer claim `p`; above 0xFFFF_0000 CLAIM_HIGH is set. -/
def State.raiseClaim (s : State) (p : Nat) : State :=
  let c := claimRaise s.ownClaim p
  let s1 := s.setFld pPAIR F.PAIR.CLAIM c
  if c > 0xFFFF0000 then s1.raise pPAIR F.PAIR.intCLAIM_HIGH else s1

/-- CLAIM tells the peer the claim, role, output role and yielded state (R315). -/
def State.sendClaim (s : State) : State :=
  s.ropeSend 0x10 (beBytes s.ownClaim 4 ++
    [BitVec.ofNat 8 (s.ownPrimary.toNat * 128 + s.isActive.toNat * 64 + s.yielded.toNat * 32), 0, 0, 0])

/-- Octets of a role record: LAST_SWITCH, CLAIM, PEER_CLAIM (R511). -/
def State.roleData (s : State) : List (Nat × Nat) :=
  (24, s.fld pPAIR F.PAIR.LAST_SWITCH % 256) :: logWord 28 s.ownClaim ++ logWord 32 (s.fld pPAIR F.PAIR.PEER_CLAIM)

/-! ## The step state -/

/-- The step state of R266: 0 ALONE, 1 JOINING, 2 IN_STEP, 3 UNVERIFIED, 4 OUT_OF_STEP. -/
def State.stepState (s : State) : Nat :=
  if !s.linkActive then (if s.bit pPAIR F.PAIR.PAIR_STATUS_PEER_KNOWN then 3 else 0)
  else if s.chansOn.any fun c => s.chStep c == ncOutOfStep then 4
  else if s.chansOn.any fun c => s.chStep c == ncJoining || s.chStep c == ncNotCompared then 1
  else 2

/-- PAIR_STATUS.STEP follows R266 while PAIR is ON: STEP_CHANGED on a change, IN_STEP_MS restarts with IN_STEP, and the
witness flag of the tag ends with it (R266, R270, R280). -/
def State.deriveStep (s : State) : State :=
  if s.pairOn then
    let old := s.fld pPAIR F.PAIR.PAIR_STATUS_STEP
    let new := s.stepState
    if old = new then s
    else
      let s1 := ((s.setFld pPAIR F.PAIR.PAIR_STATUS_STEP new).raise pPAIR F.PAIR.intSTEP_CHANGED).rawTo pPAIR
        F.PAIR.rawIN_STEP (new == 2)
      let s2 := if s1.pair.fs.isNone then { s1 with pair := { s1.pair with revert := false } } else s1
      if new = 2 then { s2 with pair := { s2.pair with inStepAt := s.now, witness := false } } else s2
  else s

/-- The step code of a channel changes. -/
def State.setStep (s : State) (c code : Nat) : State := (s.setFld pPAIR (chStepFld c) code).deriveStep

/-- STEP tells the peer that a channel has left step (R267, R315). -/
def State.sendStep (s : State) (c cause n k : Nat) : State :=
  s.ropeSend 0x12 ([BitVec.ofNat 8 c, BitVec.ofNat 8 cause] ++ beBytes n 8 ++ beBytes k 2)

/-- MISMATCH_INFO and MISMATCH_INDEX (R275). -/
def State.mismatchInfo (s : State) (c k n cause : Nat) : State :=
  (((s.setFld pPAIR F.PAIR.MISMATCH_INFO_CHAN c).setFld pPAIR F.PAIR.MISMATCH_INFO_ROW k).setFld pPAIR
    F.PAIR.MISMATCH_INFO_CAUSE cause).put64L pPAIR F.PAIR.MISMATCH_INDEX_LO n

/-- A standby whose channel is OUT_OF_STEP joins at the next refresh point, and asks for one with JOIN_MODE 1 (R285). -/
def State.wantJoin (s : State) (c : Nat) : State :=
  if s.isActive then s
  else if s.bit pPAIR F.PAIR.PAIR_CFG_JOIN_MODE then s.ropeSend 0x13 [BitVec.ofNat 8 c, 0, 0, 0]
  else s

/-- A failed join: OUT_OF_STEP, JOIN_FAIL, ERR_COUNT2, the rows still owed a DECISION coded at floor (R267, R275, R520). -/
def State.joinFailed (s : State) (c k n cause : Nat) (tell : Bool) : State :=
  let s1 := s.updChan c fun x => { x with pair := { x.pair with
    join := none
    sender := false
    decisions := []
    take := []
    failed := if x.pair.sender then none else x.pair.join } }
  let s2 := ((((s1.setStep c ncOutOfStep).raise pPAIR F.PAIR.intJOIN_FAIL).err pPAIR 2).mismatchInfo c k n cause)
  let s3 := if tell then s2.sendStep c cause n k else s2
  s3.wantJoin c

/-- A channel leaves step at row `k` of picture `n`: cause 0 unequal, 1 late, 2 STEP received, 3 join failed. MISMATCH, the
counter of the cause, STEP to the peer unless the peer told (R267, R275, R285). -/
def State.outOfStep (s : State) (c k n cause : Nat) : State :=
  if s.chStep c = ncJoining then s.joinFailed c k n (if cause = 2 then 2 else 3) (cause != 2)
  else if s.chStep c = ncOutOfStep then s
  else
    let s0 := s.updChan c fun x => { x with pair := { x.pair with own := [], peer := [] } }
    let s1 := ((s0.setStep c ncOutOfStep).raise pPAIR F.PAIR.intMISMATCH).mismatchInfo c k n cause
    let s2 := if cause = 0 then s1.err pPAIR 0 else if cause = 1 then s1.err pPAIR 1 else s1
    let s3 := if cause = 2 then s2 else s2.sendStep c cause n k
    s3.wantJoin c

/-! ## The gate -/

/-- The gate passes packets: PAIR is not ON, or the unit is ACTIVE and its gate is open (R263, R268). -/
def State.gateOpen (s : State) : Bool := !s.pairOn || s.bit pPAIR F.PAIR.PAIR_STATUS_GATE_OPEN

/-- Is sequence number `a` at or after `b`, in the 32-bit series (R269). -/
def seqFrom (a b : Nat) : Bool := wrapSub a b (2 ^ 32) < 2 ^ 31

/-- Retained packets older than 16,384 ns are gone (R269). -/
def State.kept (s : State) (c : Nat) : List Packet :=
  (s.chanOf c).out.retained.filter fun p => decide (s.now < p.at' + 16384)

/-- The gate opens channel `c` at sequence number `n`: retained packets from `n` pass in order, those lost between are
counted (R269). -/
def State.openChan (s : State) (c n : Nat) : State :=
  let ps := (s.kept c).filter fun p => seqFrom p.seq n
  let first := match ps.head? with
    | some p => p.seq
    | none => s.fld (pCHAN c) F.CHAN.SEQ_NEXT
  let lost := if seqFrom first n then wrapSub first n (2 ^ 32) else 0
  let s1 := { s with tsch := { s.tsch with handoff := s.tsch.handoff ++ ps.flatMap Packet.frames } }
  let s2 := s1.updChan c fun x => { x with out := { x.out with
    retained := []
    opened := some n
    passed := match ps.getLast? with
      | some p => some p.seq
      | none => x.out.passed } }
  (s2.setFld pPAIR F.PAIR.GAP_PACKETS (s2.fld pPAIR F.PAIR.GAP_PACKETS + lost)).errBy pPAIR 5 lost

/-- The output role changes: OUTPUT, GATE_OPEN, LAST_SWITCH and its time, the interrupt, ERR_COUNT3, the role record, and
CLAIM to the peer (R265, R510, the field table of PAIR). -/
def State.setRole (s : State) (active : Bool) (cause : Nat) : State :=
  let s1 := ((((s.setFld pPAIR F.PAIR.PAIR_STATUS_OUTPUT active.toNat).setFld pPAIR F.PAIR.PAIR_STATUS_GATE_OPEN
    active.toNat).setFld pPAIR F.PAIR.LAST_SWITCH_CAUSE cause).setFld pPAIR F.PAIR.LAST_SWITCH_BECAME
    active.toNat).put64L pPAIR F.PAIR.LAST_SWITCH_TIME_LO s.now
  let bit := if active then F.PAIR.intBECAME_ACTIVE else F.PAIR.intBECAME_STANDBY
  let s2 := ((s1.raise pPAIR bit).rawTo pPAIR F.PAIR.rawACTIVE active).err pPAIR 3
  (s2.logEv pPAIR bit 3 0 s2.roleData).sendClaim

/-- A pending switch is withdrawn (R279). -/
def State.dropSwitch (s : State) : State :=
  ({ s with pair := { s.pair with fs := none, sender := false, acked := false, revert := false } }.setFld pPAIR
    F.PAIR.PAIR_STATUS_HANDOVER_PENDING 0).put64L pPAIR F.PAIR.HANDOVER_AT_LO 0

/-- The unit becomes ACTIVE with its claim set under R262 against peer claim `p`; each channel's gate opens at the number
that `seqOf` gives, or at its next packet (R262, R269, R277, R282). -/
def State.becomeActive (s : State) (p cause : Nat) (seqOf : Nat → Option Nat) : State :=
  let s1 := ((s.raiseClaim p).dropSwitch).setFld pPAIR F.PAIR.GAP_PACKETS 0
  let s2 := s.chansOn.foldl (fun t c => match seqOf c with
    | some n => t.openChan c n
    | none => t.updChan c fun x => { x with out := { x.out with retained := [], opened := none } }) s1
  s2.setRole true cause

/-- The unit becomes STANDBY: its gate closes (R265, R268). -/
def State.becomeStandby (s : State) (cause : Nat) : State := s.dropSwitch.setRole false cause

/-! ## Fatal faults -/

/-- A port that carries a gated flow: the port used by a queue that an ON channel owns (R276). -/
def State.gatedPort (s : State) (port : Nat) : Bool :=
  (s.chansOn.flatMap fun c => s.queuesOwned true c).any fun q =>
    (if s.qfld F.QTAB.Q_CTRL_ON_ALT q = 1 then s.qfld F.QTAB.Q_CTRL_ALT_PORT q else s.qfld F.QTAB.Q_CTRL_PORT q) == port

/-- DRAIN of YIELD: TSCH and every port that carries a gated flow are ON (R276). -/
def State.yieldDrain (s : State) : Bool :=
  s.isOn pTSCH && (List.range 8).all fun p => !s.gatedPort p || s.isOn (pETH p)

/-- The body of YIELD (R276, R315). -/
def State.yieldBody (s : State) : List Byte :=
  beBytes s.ownClaim 4 ++ [BitVec.ofNat 8 s.yieldDrain.toNat, BitVec.ofNat 8 s.chansOn.length] ++
    s.chansOn.flatMap fun c =>
      BitVec.ofNat 8 c :: beBytes (((s.chanOf c).out.passed).getD (s.fld (pCHAN c) F.CHAN.SEQ_NEXT + (2 ^ 32 - 1))) 4

/-- A fault of FATAL_MASK bit `b` (R276): on an ACTIVE unit the gate closes, YIELDED is set and YIELD goes ahead of all
other traffic; a STANDBY unit sets YIELDED and sends CLAIM. -/
def State.fatal (s : State) (b : Nat) : State :=
  if s.pairOn ∧ s.fld pPAIR F.PAIR.PAIR_CFG_FATAL_MASK / 2 ^ b % 2 = 1 then
    let s1 := (s.setFld pPAIR F.PAIR.PAIR_STATUS_YIELDED 1).raise pPAIR F.PAIR.intYIELDED
    let s2 := if s.isActive then (s1.ropeYield s.yieldBody).becomeStandby 7 else s1.dropSwitch.sendClaim
    s2.logEv pPAIR F.PAIR.intYIELDED 5 0 s2.roleData
  else s

/-! ## The Rope link comes and goes -/

/-- The Rope link becomes active: ROPE_UP, and both units send CLAIM (R266, R284). -/
def State.ropeUp (s : State) : State :=
  if s.pairOn then
    let s1 := (s.setFld pPAIR F.PAIR.PAIR_STATUS_ROPE_UP 1).raise pPAIR F.PAIR.intROPE_UP
    { s1 with pair := { s1.pair with exchange := true } }.sendClaim.deriveStep
  else s

/-- The Rope link ceases to be active: IN_STEP channels fall to NOT_COMPARED, joins fail, and no
output role changes (R267, R281, R282, R287). -/
def State.ropeDown (s : State) : State :=
  if s.pairOn then
    let s1 := (s.setFld pPAIR F.PAIR.PAIR_STATUS_ROPE_UP 0).raise pPAIR F.PAIR.intROPE_CUT
    let s2 := (List.range 64).foldl (fun t c =>
      let t1 := t.updChan c fun x => { x with pair := { x.pair with
        stepAtCut := t.chStep c == ncInStep, own := [], peer := [] } }
      if t.chStep c = ncInStep then t1.setStep c ncNotCompared
      else if t.chStep c = ncJoining then t1.joinFailed c 0 (((t.chanOf c).pair.join).map Prod.fst |>.getD 0) 3 false
      else t1) s1
    s2.deriveStep
  else s

end Sys2Proof.Machine
end

