-- ==== Sys2Proof/Machine/Memory.lean ====
section
/-! DEFINITION. Device memory as its units reach it: the address map of DRAM and SRAM (R372, R373, R441), decode errors
and write-protect windows (R390, R398), and what a failed channel or a poison mark makes of a block (R383 to R386). -/

namespace Sys2Proof.Machine

/-! ## Settings of the boot image -/

/-- The value a setting of the verified image gives, or `d` (R464). -/
def State.setting (s : State) (key idx d : Nat) : Nat :=
  match s.boot.settings.find? (fun e => e.1 == key && e.2.1 == idx) with
  | some e => e.2.2
  | none => d

/-- MAP_MASK in force (R372). -/
def State.mapMask (s : State) : Nat := s.setting 3 0 0xFFFF

/-- The channels of MAP_MASK in ascending order: M[0] to M[N - 1] (R373). -/
def State.mapList (s : State) : List Nat := (List.range 16).filter fun c => s.mapMask / 2 ^ c % 2 == 1

/-- N (R372). -/
def State.mapN (s : State) : Nat := s.mapList.length

/-- Capacity C of a channel in bytes (R372). -/
def State.memC (s : State) : Nat := 2 ^ 30 * 2 ^ (s.setting 2 0 2)

/-- SPARE_EN (R372). -/
def State.spareEn (s : State) : Bool := s.setting 4 0 0 == 1

/-- Csw, the software slice of one channel (R372). -/
def State.csw (s : State) : Nat := if s.spareEn then s.memC / 32 * 31 / 16 * 15 else s.memC / 32 * 31

/-- First device address that no MEMC page decodes: N × Csw (R373). -/
def State.dramTop (s : State) : Nat := s.mapN * s.csw

/-- The channel that a software DRAM address maps to (R373). -/
def State.memChan (s : State) (a : Nat) : Nat := (s.mapList[a / 256 % s.mapN]?).getD 0

/-- The channel address of a software DRAM address (R373). -/
def State.memCaddr (s : State) (a : Nat) : Nat := a / 256 / s.mapN * 256 + a % 256

/-! ## Channels behind the map -/

def State.memcOf (s : State) (n : Nat) : MemcState := Tab.get .reset s.memc n

def State.setMemc (s : State) (n : Nat) (m : MemcState) : State := { s with memc := Tab.set .reset s.memc n m }

/-- The channels that serve the slice of a channel that is remapped: R[0] to R[N - 2] (R386). -/
def State.sparesOf (s : State) (n : Nat) : List Nat := s.mapList.filter (· != n)

/-- The channel and the channel address that serve a device address: its own, or those of the spare area that holds a remapped block
(R373, R386). -/
def State.servedAt (s : State) (a : Nat) : Nat × Nat :=
  let c := s.memChan a
  let x := s.memCaddr a
  if (s.memcOf c).gone && (s.memcOf c).remapped then
    let others := s.sparesOf c
    ((others[x / 256 % others.length]?).getD 0, s.csw + x / 256 / others.length * 256 + x % 256)
  else (c, x)

/-- The memory channel that serves a device address (R373, R386). -/
def State.servedBy (s : State) (a : Nat) : Nat := (s.servedAt a).1

/-- The bank of a device address within the channel that serves it: bits [11:8] of its channel address (R373). -/
def State.bankOf (s : State) (a : Nat) : Nat := (s.servedAt a).2 / 256 % 16

/-! ## Masters and targets -/

def mLANTERN : Nat := 0
def mHOST_IN : Nat := 1
def mDMA : Nat := 2
def mCORES : Nat := 3
def mCHMB_A : Nat := 4
def mCHMB_B : Nat := 5
def mREFP : Nat := 6
def mLOOK : Nat := 7
def mSRC : Nat := 8
def mSCAL : Nat := 9
def mINPUT : Nat := 10
def mDEC (d : Nat) : Nat := 11 + d
def mNET : Nat := 13
def mINTC : Nat := 14

/-- Base and size of the SRAM regions in the order of R441. -/
def sramRegions : List (Nat × Nat) :=
  [(0xFC0000000, 0x2000000), (0xFC2000000, 0x5000000), (0xFC7000000, 0x1000000), (0xFC8000000, 0x1000000),
   (0xFC9000000, 0x1000000)]

/-- Index of the SRAM region that holds an address. -/
def sramRegion (a : Nat) : Option Nat := sramRegions.findIdx? fun r => decide (r.1 ≤ a) && decide (a < r.1 + r.2)

/-- Target port number of ERR_INFO.TARGET that decodes a device address, 63 for none. Which of a region's four SRAM ports
serves an address is open: a free value (log entry 2). -/
def State.targetOf (s : State) (a : Nat) : Nat :=
  if a < s.dramTop then s.servedBy a
  else match sramRegion a with
    | some r => 16 + 4 * r + s.freeWord.toNat % 4
    | none => 63

/-- Does the access table allow the master at the target (R390). -/
def allowed (master target : Nat) : Bool :=
  if target < 36 then master != mINTC && decide (master ≤ 14)
  else if target = 36 then master == mLANTERN || master == mHOST_IN || master == mCORES || master == mDMA
  else if target = 37 then master == mINTC || master == mDMA
  else false

/-- What becomes of an access. -/
inductive Access where
  | ok | uncorrectable | decodeError | protectedWindow
deriving DecidableEq, Repr

/-- The lowest enabled window that holds the address and whose mask shuts the master out (R398). -/
def State.windowOf (s : State) (master a : Nat) : Option Nat :=
  (List.range 4).find? fun w =>
    s.bit pMTX (F.MTX.WP_CTRL_EN w) &&
    decide (s.addr36 pMTX (F.MTX.WP_BASE_LO w) ≤ a) && decide (a < s.addr36 pMTX (F.MTX.WP_LIMIT_LO w)) &&
    s.fld pMTX (F.MTX.WP_MASK_MASTERS w) / 2 ^ master % 2 == 0

/-- MTX keeps the last event in ERR_INFO and ERR_ADDR; of two in one FABRIC cycle the one of higher KIND stays (R400). -/
def State.mtxError (s : State) (kind master target window addr : Nat) : State :=
  if s.mtx.errAt = some s.fabric ∧ kind < s.fld pMTX F.MTX.ERR_INFO_KIND then s
  else
    let s1 := (((s.setFld pMTX F.MTX.ERR_INFO_KIND kind).setFld pMTX F.MTX.ERR_INFO_MASTER master).setFld pMTX
      F.MTX.ERR_INFO_TARGET target).setFld pMTX F.MTX.ERR_INFO_WINDOW window
    let s2 := s1.put64L pMTX F.MTX.ERR_ADDR_LO addr
    { s2 with mtx := { s2.mtx with errAt := some s.fabric } }

/-- Octets 24 to 35 of an UNCORR_FLIT or WP_VIOLATION record: ERR_INFO and ERR_ADDR (R511). -/
def State.mtxLogData (s : State) : List (Nat × Nat) :=
  logWord 24 (s.fld pMTX F.MTX.ERR_INFO) ++ logWord 28 (s.fld pMTX F.MTX.ERR_ADDR_LO) ++
    logWord 32 (s.live64 pMTX F.MTX.ERR_ADDR_LO / 2 ^ 32)

/-- A decode error: DECODE_ERR, ERR_COUNT3, ERR_INFO and ERR_ADDR (R390). -/
def State.decodeError (s : State) (master addr : Nat) : State :=
  ((s.tookFree.mtxError 2 master (s.targetOf addr) 0 addr).raise pMTX F.MTX.intDECODE_ERR).err pMTX 3

/-- A write-protect violation: WP_VIOLATION, ERR_COUNT4, ERR_INFO, ERR_ADDR and a log record (R398). -/
def State.wpViolation (s : State) (master window addr : Nat) : State :=
  let s1 := ((s.tookFree.mtxError 3 master (s.targetOf addr) window addr).raise pMTX F.MTX.intWP_VIOLATION).err pMTX 4
  s1.logEv pMTX F.MTX.intWP_VIOLATION 4 0 s1.mtxLogData

/-! ## Blocks of a memory channel -/

/-- The slice that holds a device address serves nothing: its channel is gone, and so is the spare area that would hold it (R386). -/
def State.sliceDead (s : State) (a : Nat) : Bool :=
  let m := s.memcOf (s.memChan a)
  m.gone && (!m.remapped || (s.memcOf (s.servedBy a)).gone)

/-- The read of block `b` meets a poison mark: a remapped block not yet written, or a mark that a partial write left (R383, R386). -/
def State.blockPoison (s : State) (b : Nat) : Bool :=
  let m := s.memcOf (s.memChan (b * 64))
  !s.sliceDead (b * 64) && (if m.gone then Tab.get 0 m.rewritten b == 0 else Tab.get 0 m.marks b == 1)

/-- A read of the 64-byte block with device block number `b` reports uncorrectable at once: a slice that serves nothing, or a poison
mark (R383, R386). -/
def State.blockBad (s : State) (b : Nat) : Bool :=
  decide (b * 64 < s.dramTop) && (s.sliceDead (b * 64) || s.blockPoison b)

/-- Block numbers that `n` bytes at `a` touch. -/
def blocksOf (a n : Nat) : List Nat :=
  if n = 0 then [] else (List.range ((a + n - 1) / 64 + 1 - a / 64)).map (a / 64 + ·)

/-- Note that block `b` has been written: its mark goes (R382, R383, R386). -/
def State.blockWritten (s : State) (b : Nat) : State :=
  if b * 64 < s.dramTop then
    let c := s.memChan (b * 64)
    let m := s.memcOf c
    if m.gone && m.remapped then s.setMemc c { m with rewritten := Tab.set 0 m.rewritten b 1 }
    else s.setMemc c { m with marks := Tab.set 0 m.marks b 0 }
  else s

/-- A partial write whose read failed leaves a poison mark on block `b` (R383). -/
def State.poisonBlock (s : State) (b : Nat) : State :=
  let c := s.memChan (b * 64)
  let m := s.memcOf c
  if m.gone then s.setMemc c { m with rewritten := Tab.set 0 m.rewritten b 0 }
  else s.setMemc c { m with marks := Tab.set 0 m.marks b 1 }

/-- Store bytes in device memory: writes to a slice that serves nothing are discarded, a whole block loses its mark, and a part of a
marked block leaves it marked (R382, R383, R386). -/
def State.memStore (s : State) (a : Nat) (bs : List Byte) : State :=
  let kept := if a < s.dramTop ∧ s.sliceDead a then s else s.storeBytes a bs
  ((blocksOf a bs.length).filter fun b => decide (a ≤ b * 64) && decide (b * 64 + 64 ≤ a + bs.length)).foldl
    (fun t b => t.blockWritten b) kept

/-! ## Accesses by master -/

/-- What the matrix and the memory make of a read of `n` bytes (R382, R390). -/
def State.readStatus (s : State) (master a n : Nat) : Access :=
  if s.targetOf a = 63 ∨ (s.targetOf (a + n - 1) = 63) ∨ !allowed master (s.targetOf a) then .decodeError
  else if (blocksOf a n).any s.blockBad then .uncorrectable
  else .ok

/-- What the matrix makes of a write of `n` bytes (R390, R398). -/
def State.writeStatus (s : State) (master a n : Nat) : Access :=
  if s.targetOf a = 63 ∨ (s.targetOf (a + n - 1) = 63) ∨ !allowed master (s.targetOf a) then .decodeError
  else if (s.windowOf master a).isSome then .protectedWindow
  else .ok

/-- Poison-mark reads count in ERR_COUNT7 of their channel (R383); every uncorrectable block sets UNCORR (R382). -/
def State.noteBad (s : State) (b : Nat) : State :=
  if s.blockBad b then
    let p := pMEMC (s.servedBy (b * 64))
    let s1 := s.raise p F.MEMC.intUNCORR
    if s.blockPoison b then s1.err p 7 else s1
  else s

/-- Every uncorrectable block of `n` bytes at `a` is noted. -/
def State.noteRead (s : State) (a n : Nat) : State := (blocksOf a n).foldl (fun t b => t.noteBad b) s

/-- Read `n` bytes at `a` as `master`: the state after, the bytes (zeros after a decode error), and what became of it. -/
def State.devRead (s : State) (master a n : Nat) : State × List Byte × Access :=
  match s.readStatus master a n with
  | .decodeError => (s.decodeError master a, List.replicate n 0, .decodeError)
  | .uncorrectable => (s.noteRead a n, s.loadBytes a n, .uncorrectable)
  | r => (s, s.loadBytes a n, r)

/-- Write bytes at `a` as `master` (R390, R398). -/
def State.devWrite (s : State) (master a : Nat) (bs : List Byte) : State × Access :=
  match s.writeStatus master a bs.length with
  | .ok => (s.memStore a bs, .ok)
  | .protectedWindow => (s.wpViolation master ((s.windowOf master a).getD 0) a, .protectedWindow)
  | r => (s.decodeError master a, r)

/-- Write bytes that a buffer of `bs.length` bytes holds, in bursts of 256-byte units, each judged by itself (R393, R448);
answers whether every burst was written. -/
def State.devWriteUnits (s : State) (master : Nat) : Nat → Nat → List Byte → State × Bool
  | 0, _, _ => (s, true)
  | fuel + 1, a, bs =>
    if bs = [] then (s, true)
    else
      let n := 256 - a % 256
      let r := s.devWrite master a (bs.take n)
      let q := State.devWriteUnits r.1 master fuel (a + n) (bs.drop n)
      (q.1, decide (r.2 = .ok) && q.2)

/-- A table read by a unit from software DRAM: its bytes, or none where a block is uncorrectable or not decoded. -/
def State.tableBytes (s : State) (a n : Nat) : Option (List Byte) :=
  if a + n ≤ s.dramTop ∧ !(blocksOf a n).any s.blockBad then some (s.loadBytes a n) else none

end Sys2Proof.Machine
end

