-- ==== Sys2Proof/Machine/Memc.lean ====
section
/-! DEFINITION. The LPDDR5X memory channels (spec/16) and the bus matrix in motion (spec/17): bursts, ageing, replays and
windows. -/

namespace Sys2Proof.Machine

/-! ## Temperature and refresh -/

/-- REFI in MEMCK cycles (R378). -/
def State.refi (s : State) (n : Nat) : Nat :=
  if s.bit (pMEMC n) F.MEMC.MEMC_STATUS_QUARTER then 1171
  else if s.bit (pMEMC n) F.MEMC.MEMC_STATUS_HOT then 2343 else 4687

/-- Refreshes that may be owed (R378). -/
def State.owedLimit (s : State) (n : Nat) : Nat :=
  if s.bit (pMEMC n) F.MEMC.MEMC_STATUS_QUARTER then 0
  else if s.bit (pMEMC n) F.MEMC.MEMC_STATUS_HOT then 4 else 8

/-- The registers NEXT_CA to NEXT_VREF. -/
def nextRegs : List Nat := [0x140, 0x144, 0x148, 0x14C, 0x150, 0x154, 0x158, 0x15C, 0x160]

/-- A refresh command is issued: a pending apply copies every NEXT register to ACT, sets APPLIED, counts in ERR_COUNT6
and completes (R375). -/
def State.refreshBoundary (s : State) (n : Nat) : State :=
  let p := pMEMC n
  if s.bit p F.MEMC.MEMC_STATUS_APPLY_PENDING then
    let s1 := nextRegs.foldl (fun t o => t.setReg (p * 0x1000 + o + 0x40) (s.reg (p * 0x1000 + o))) s
    (((s1.setFld p F.MEMC.MEMC_STATUS_APPLY_PENDING 0).raise p F.MEMC.intAPPLIED).err p 6).opEndOf p 5 opCompleted
  else s

/-- Catch-up refreshes: while more are owed than the limit allows, refreshes are issued back to back; each counts in
ERR_COUNT3 and sets CATCH_UP, and the first is the boundary of a pending apply (R375, R379). -/
def State.catchUp (s : State) (n : Nat) : State :=
  let p := pMEMC n
  let owed := s.fld p F.MEMC.MEMC_STATUS_OWED
  if owed > s.owedLimit n then
    ((s.refreshBoundary n).setFld p F.MEMC.MEMC_STATUS_OWED (s.owedLimit n) |>.raise p F.MEMC.intCATCH_UP).errBy p 3
      (owed - s.owedLimit n)
  else s

/-- The temperature state follows its sources (R378); entering HOT or the quarter interval runs the catch-up of R379. -/
def State.memcTemp (s : State) (n : Nat) : State :=
  let p := pMEMC n
  let m := s.memcOf n
  let src := s.fld p F.MEMC.REF_CFG_TEMP_SRC
  let q := m.mr4Quarter && src != 1
  let hot := (src != 1 && m.mr4Hot) || (src != 0 && m.siteHot) || q
  let was := s.bit p F.MEMC.MEMC_STATUS_HOT
  let s1 := ((s.setFld p F.MEMC.MEMC_STATUS_HOT hot.toNat).setFld p F.MEMC.MEMC_STATUS_QUARTER q.toNat).rawTo p F.MEMC.rawHOT hot
  let s2 := if hot && !was then s1.raise p F.MEMC.intHOT else if !hot && was then s1.raise p F.MEMC.intCOOL else s1
  s2.catchUp n

/-- The SENS site that serves a channel: 6 for MEMC0 to 7, 7 for MEMC8 to 15 (R469). -/
def memcSite (n : Nat) : Nat := if n < 8 then 6 else 7

/-- The sensor source of a channel sees a reading in 0.125 °C: HOT from 85 °C, COOL again below 82 °C (R378). -/
def State.memcSensor (s : State) (n : Nat) (reading : Int) : State :=
  if s.isOn (pMEMC n) then
    let m := s.memcOf n
    let hot := if reading ≥ 680 then true else if reading < 656 then false else m.siteHot
    (s.setMemc n { m with siteHot := hot }).memcTemp n
  else s

/-- The page of channel `n` is ON: its refresh, MR4 and re-read grids begin (R378, R384, R523). -/
def State.memcBegin (s : State) (n : Nat) : State :=
  let gap := s.fld (pMEMC n) F.MEMC.REF_CFG_POLL_MS * 1000000000
  s.setMemc n { s.memcOf n with refiAt := s.memck, windowAt := s.fabric, pollAt := s.boot.ps + gap, pollGap := gap }

/-- REFI_EXPIRY (R378): one more refresh becomes owed at every REFI. -/
def execRefiExpiry (n : Nat) (s : State) : Out :=
  s.event (decide (n < 16) && s.works (pMEMC n) && decide (s.memck ≥ (s.memcOf n).refiAt + s.refi n)) fun s =>
    (s.setMemc n { s.memcOf n with refiAt := (s.memcOf n).refiAt + s.refi n }).addSat (pMEMC n) F.MEMC.MEMC_STATUS_OWED 1

/-- A request waits at channel `n`. -/
def State.requestWaits (s : State) (n : Nat) : Bool := s.mtx.outstanding.any fun b => b.target == n

/-- REFRESH_ISSUE (R378): an owed refresh is issued when no request waits or the owed count has reached its limit. -/
def execRefreshIssue (n : Nat) (s : State) : Out :=
  let owed := s.fld (pMEMC n) F.MEMC.MEMC_STATUS_OWED
  s.event (decide (n < 16) && s.works (pMEMC n) && decide (owed > 0) && (!s.requestWaits n || decide (owed ≥ s.owedLimit n))) fun s =>
    (s.setFld (pMEMC n) F.MEMC.MEMC_STATUS_OWED (owed - 1)).refreshBoundary n

/-! ## Failure and retirement -/

/-- The slice of channel `n` leaves: remapped over the spares with SPARE_EN 1 and no earlier failure, else uncorrectable
(R386). -/
def State.sliceGone (s : State) (n : Nat) : State :=
  let first := !(s.mapList.any fun c => (s.memcOf c).gone)
  let remap := s.spareEn && first
  let s1 := s.setMemc n { s.memcOf n with gone := true, remapped := remap, rewritten := [], marks := [] }
  if remap then
    (s.mapList.filter (· != n)).foldl (fun t c => t.setFld (pMEMC c) F.MEMC.MEMC_STATUS_SPARE_USED 1)
      (s1.setFld (pMEMC n) F.MEMC.MEMC_STATUS_REMAPPED 1)
  else s1

/-- MEMC_IN_SERVICE and the budget follow the channels that remain (R385); checks serialised in this FABRIC cycle use them (R28). -/
def State.memcLimits (s : State) (memc : Nat) : State :=
  (s.limits (s.fld pSYS F.SYS.ADM_RESOURCES_CHMB_IN_SERVICE) (s.fld pSYS F.SYS.ADM_RESOURCES_RESERVE_HELD) memc).resourceLeft

/-- A channel is declared failed (R385): FAULT with CHANNEL_FAILED, its records, the budget, FATAL_MASK bit 4, its slice;
an apply or a probe is discarded. `cause` is 0 for re-reads, 1 for MR4. -/
def State.channelFailed (s : State) (n cause : Nat) : State :=
  let p := pMEMC n
  let left := s.fld pSYS F.SYS.ADM_RESOURCES_MEMC_IN_SERVICE - 1
  let s1 := (s.setFld p F.MEMC.MEMC_STATUS_APPLY_PENDING 0).setMemc n { s.memcOf n with probeLeft := 0, probeAbort := false }
  let s2 := ((s1.enterFault p 0x15).sliceGone n).memcLimits left
  let s3 := (s2.raise p F.MEMC.intCHANNEL_FAILED).logEv p F.MEMC.intCHANNEL_FAILED 5 (reasonCode Cls.resource .memc 0x15)
    (logHalf 24 (s.fld p F.MEMC.RR_STATUS_COUNT) ++ [(26, s.fld p F.MEMC.MEMC_STATUS_HIGH_WINDOWS), (27, cause), (28, left),
      (29, (s2.memcOf n).remapped.toNat)])
  s3.fatal 4

/-- MR4_POLL (R523, R378, R384): the refresh-rate field is read on the grid of POLL_MS. `code` is 0 for no valid data, 1
below twice nominal, 2 twice, 3 above twice. Two reads in a row without valid data fail the channel. -/
def execMr4Poll (n code : Nat) (s : State) : Out :=
  s.event (decide (n < 16) && s.works (pMEMC n) && decide (s.boot.ps ≥ (s.memcOf n).pollAt)) fun s =>
    let m := s.memcOf n
    let s1 := s.setMemc n { m with pollAt := m.pollAt + m.pollGap,
                                   pollGap := s.fld (pMEMC n) F.MEMC.REF_CFG_POLL_MS * 1000000000,
                                   mr4Bad := if code = 0 then m.mr4Bad + 1 else 0,
                                   mr4Hot := if code = 0 then m.mr4Hot else decide (code ≥ 2)
                                   mr4Quarter := if code = 0 then m.mr4Quarter else decide (code = 3) }
    if code = 0 then (if m.mr4Bad + 1 ≥ 2 then s1.channelFailed n 1 else s1)
    else s1.memcTemp n

/-! ## Delays and probes -/

/-- Every NEXT value of the channel is in range: delays and deskews fit their fields, Vref is 7 bits (R375). -/
def State.nextInRange (s : State) (n : Nat) : Bool :=
  let w (o : Nat) : Nat := (s.reg (pMEMC n * 0x1000 + o)).toNat
  let half (v : Nat) : Bool := decide (v % 65536 ≤ 511) && decide (v / 65536 ≤ 511)
  half (w 0x140) && decide (w 0x144 ≤ 511) && half (w 0x148) && half (w 0x14C) &&
    decide (w 0x160 % 256 ≤ 127) && decide (w 0x160 / 256 ≤ 127)

/-- APPLY (R375): the NEXT values are checked and their copy to ACT is scheduled for the next refresh. -/
def State.applyDelays (n : Nat) (s : State) : State :=
  let p := pMEMC n
  if !s.nextInRange n then s.refuse p Cls.range 0x10
  else if s.bit p F.MEMC.MEMC_STATUS_APPLY_PENDING then s.refuse p Cls.conflict 0x13
  else (s.setFld p F.MEMC.MEMC_STATUS_APPLY_PENDING 1).opBegin p 5

/-- APPLY (R375). -/
def execApplyDelays (n : Nat) (s : State) : Out := s.onPage (pMEMC n) fun s => if n < 16 then s.applyDelays n else s

/-- A pending apply is withdrawn: its operation ends ABORTED (R375). -/
def State.applyWithdraw (n : Nat) (s : State) : State :=
  (s.setFld (pMEMC n) F.MEMC.MEMC_STATUS_APPLY_PENDING 0).opEndOf (pMEMC n) 5 opAborted

/-- PROBE_START (R376): a probe of SLOTS stolen slots begins; refused while a probe runs (log entry 299). -/
def State.probeStart (n : Nat) (s : State) : State :=
  let p := pMEMC n
  if (s.memcOf n).probeLeft > 0 then s.refuse p Cls.conflict 0x13
  else ((s.setFld p F.MEMC.PROBE_RESULT 0).setMemc n
    { s.memcOf n with probeLeft := s.fld p F.MEMC.PROBE_CFG_SLOTS, slotAt := s.boot.ps, probeWrote := false,
                      probeAbort := false }).opBegin p 6

/-- PROBE_START (R376). -/
def execProbeStart (n : Nat) (s : State) : Out := s.onPage (pMEMC n) fun s => if n < 16 then s.probeStart n else s

/-- A stolen slot of the running probe has come (R376). -/
def State.slotDue (s : State) (n : Nat) : Bool :=
  decide ((s.memcOf n).probeLeft > 0) && decide (s.boot.ps ≥ (s.memcOf n).slotAt + s.fld (pMEMC n) F.MEMC.STEAL_CFG_STEAL_NS * 1000)

/-- STOLEN_SLOT (R376): every STEAL_NS a slot reads one training unit, or writes it and reads it back in the next slot;
`pass` is whether every bit of the selected lane matched. The last slot sets PROBE_DONE; an abort ends the probe here. -/
def execStolenSlot (n : Nat) (pass : Bool) (s : State) : Out :=
  let p := pMEMC n
  s.event (decide (n < 16) && s.slotDue n) fun s =>
    let m := s.memcOf n
    let writes := s.bit p F.MEMC.PROBE_CFG_DIR && !m.probeWrote
    let s1 := if writes then s
      else if pass then s.addSat p F.MEMC.PROBE_RESULT_PASS 1 else s.addSat p F.MEMC.PROBE_RESULT_FAIL 1
    let left := if m.probeAbort then 0 else m.probeLeft - 1
    let s2 := s1.setMemc n { m with probeLeft := left, slotAt := s.boot.ps, probeWrote := writes, probeAbort := false }
    if m.probeAbort then s2.opEndOf p 6 opAborted
    else if left = 0 then (s2.raise p F.MEMC.intPROBE_DONE).opEndOf p 6 opCompleted
    else s2

/-- RR_WINDOW_END (R384): a window of 1,048,576 FABRIC cycles ends; RR_HIGH and ERR_COUNT5 above RR_LIMIT, and the channel
fails at the end of the FAIL_WINDOWS-th such window in a row. -/
def execRrWindowEnd (n : Nat) (s : State) : Out :=
  let p := pMEMC n
  s.event (decide (n < 16) && s.works p && decide (s.fabric ≥ (s.memcOf n).windowAt + 1048576)) fun s =>
    let m := s.memcOf n
    let s1 := (s.setFld p F.MEMC.RR_STATUS_COUNT (min m.rereads 65535)).setMemc n
      { m with rereads := 0, windowAt := m.windowAt + 1048576 }
    if m.rereads > s.fld p F.MEMC.RR_CFG_RR_LIMIT then
      let s2 := ((s1.raise p F.MEMC.intRR_HIGH).err p 5).addSat p F.MEMC.MEMC_STATUS_HIGH_WINDOWS 1
      if s2.fld p F.MEMC.MEMC_STATUS_HIGH_WINDOWS ≥ s.fld p F.MEMC.RR_CFG_FAIL_WINDOWS then s2.channelFailed n 0 else s2
    else s1.setFld p F.MEMC.MEMC_STATUS_HIGH_WINDOWS 0

/-- A re-read that another unit makes of a block held in channel `n` counts in its rate (R384). -/
def State.countReread (s : State) (n k : Nat) : State :=
  s.setMemc n { s.memcOf n with rereads := (s.memcOf n).rereads + k }

/-- A shed entry is a channel, a decoder or the end of the list (R388). -/
def shedEntryOk (e : Nat) : Bool := decide (e ≤ 0x3F) || e == 0x40 || e == 0x41 || e == 0xFF

/-- SHED_WRITE (R388): a write of SHED`k` of MEMC`n`; in MEMC1 to 15 it is ignored. -/
def execShedWrite (n k : Nat) (v : Word) (s : State) : Out :=
  s.onPage (pMEMC n) fun s =>
    if n ≠ 0 ∨ 16 ≤ k then s
    else if [0, 1, 2, 3].all fun j => shedEntryOk (v.toNat / 256 ^ j % 256) then
      s.setReg ((F.MEMC.SHED k).addr (pMEMC 0)) v
    else s.reason (pMEMC 0) Cls.range 0x11

/-! ## Requests at a channel -/

/-- A read of block `b` whose first `fails` attempts fail their CRC (R382): ERR_COUNT0 for the first failure, ERR_COUNT1
when a re-read passes, ERR_COUNT2 and UNCORR after three failures; each re-read counts in the rate (R384). -/
def State.blockRead (s : State) (n b fails : Nat) : State × Bool :=
  let p := pMEMC n
  if (s.memcOf n).gone then (s.raise p F.MEMC.intUNCORR, false)
  else if s.blockBad b then (s.noteBad b, false)
  else if fails = 0 then (s, true)
  else if fails < 3 then (((s.err p 0).err p 1).countReread n fails, true)
  else ((((s.err p 0).err p 2).raise p F.MEMC.intUNCORR).countReread n 2, false)

/-- Read or read-modify-write the blocks of a burst in order; a partial write whose read fails three times leaves a poison
mark (R382, R383). Answers whether every block was good. -/
def State.blocksServe (s : State) (n : Nat) (b : Burst) : List Nat → List Nat → State × Bool
  | [], _ => (s, true)
  | k :: ks, fails =>
    let whole := decide (b.addr ≤ k * 64) && decide (k * 64 + 64 ≤ b.addr + b.len)
    let r := if b.data.isSome && whole then (s, true) else s.blockRead n k (fails.headD 0)
    let s1 := if b.data.isSome && !r.2 && !(s.memcOf n).gone then r.1.poisonBlock k else r.1
    let q := State.blocksServe s1 n b ks fails.tail
    (q.1, r.2 && q.2)

/-- Neighbour refreshes at an activate (R380, R381): those queued are issued and counted in ERR_COUNT4 ahead of the request;
one more is triggered with probability 2^-K, and is issued at once when the queue of 16 is full. The draw is a free value. -/
def State.neighbours (s : State) (n : Nat) : State :=
  let p := pMEMC n
  let m := s.memcOf n
  let s1 := (s.errBy p 4 m.neighbours).setMemc n { m with neighbours := 0 }
  if s.bit p F.MEMC.PNR_CFG_EN then
    let hit := s.freeWord.toNat % 2 ^ (s.fld p F.MEMC.PNR_CFG_K) = 0
    if hit then s1.tookFree.setMemc n { s1.memcOf n with neighbours := 1 } else s1.tookFree
  else s1

/-- The request that channel `n` serves next: oldest first within a bank, the banks in rotation after the one served last (R374). -/
def State.nextRequest (s : State) (n : Nat) : Option Burst :=
  let waits := s.mtx.outstanding.filter fun b => b.target == n
  (List.range 16).findSome? fun k => waits.find? fun b => s.bankOf b.addr == ((s.memcOf n).bank + 1 + k) % 16

/-- A refresh that has reached its limit, or a stolen slot, goes before every request (R374). -/
def State.memcBusy (s : State) (n : Nat) : Bool :=
  let owed := s.fld (pMEMC n) F.MEMC.MEMC_STATUS_OWED
  s.works (pMEMC n) && ((decide (owed > 0) && decide (owed ≥ s.owedLimit n)) || s.slotDue n)

/-! ## The matrix -/

/-- Rank of a master in a target's fixed order, 0 first (R390). -/
def masterRank (master target : Nat) : Nat :=
  let order := if target < 16 then [6, 4, 5, 9, 8, 11, 12, 7, 10, 13, 2, 3, 1, 0]
    else if target < 36 then [4, 5, 6, 10, 8, 9, 7, 13, 11, 12, 2, 3, 1, 0]
    else if target = 36 then [0, 1, 3, 2] else [14, 2]
  (order.findIdx? (· == master)).getD order.length

/-- The request is held back (R394): 64 bursts of its master outstanding, an earlier request to the same 256-byte unit
outstanding, or an unacknowledged earlier write behind a fence. -/
def State.heldBack (s : State) (b : Burst) : Bool :=
  let mine := s.mtx.outstanding.filter (·.master == b.master)
  let before := (s.mtx.waiting.filter fun w => w.master == b.master && decide (w.id < b.id)) ++ mine
  let fences := (if b.fence then [b.id] else []) ++ ((before.filter (·.fence)).map (·.id))
  decide (mine.length ≥ 64) || mine.any (fun o => o.addr / 256 == b.addr / 256) ||
    fences.any (fun f => before.any fun w => w.data.isSome && decide (w.id < f))

/-- The request is at the head of its master's queue for its target and is not held back (R391). -/
def State.burstEligible (s : State) (b : Burst) : Bool :=
  !(s.mtx.waiting.any fun w => w.master == b.master && w.target == b.target && decide (w.id < b.id)) && !s.heldBack b

/-- `a` goes before `b` at a target: aged first, oldest first, then the fixed order (R391). -/
def burstBefore (a b : Burst) : Bool :=
  if a.aged && b.aged then decide (a.since < b.since) || (a.since == b.since && decide (masterRank a.master a.target < masterRank b.master b.target))
  else if a.aged != b.aged then a.aged
  else decide (masterRank a.master a.target < masterRank b.master b.target)

/-- The burst that a target grants next. -/
def State.winner (s : State) (target : Nat) : Option Burst :=
  (s.mtx.waiting.filter fun b => b.target == target && s.burstEligible b).foldl
    (fun best b => match best with
      | none => some b
      | some w => if burstBefore b w then some b else some w) none

/-- Grant a burst: its flits count, an aged grant counts in ERR_COUNT5, and a DRAM burst waits at its channel; a burst to
SRAM is carried out at once (R391, R393, R398). -/
def State.grant (s : State) (b : Burst) : State :=
  let s1 := { s with mtx := { s.mtx with waiting := s.mtx.waiting.filter (·.id != b.id),
                                         flits := Tab.upd 0 s.mtx.flits b.target (· + ceilDiv b.len 64) } }
  let s2 := if b.aged then ({ s1 with mtx := { s1.mtx with agedBy := Tab.upd 0 s1.mtx.agedBy b.target (· + 1) } }).err pMTX 5 else s1
  match b.data with
  | some bs =>
    match s2.writeStatus b.master b.addr b.len with
    | .ok => if b.target < 16 then { s2 with mtx := { s2.mtx with outstanding := s2.mtx.outstanding ++ [b] } } else s2.storeBytes b.addr bs
    | _ => (s2.devWrite b.master b.addr bs).1
  | none =>
    if b.target < 16 then { s2 with mtx := { s2.mtx with outstanding := s2.mtx.outstanding ++ [b] } }
    else { s2 with readData := leNat (s2.loadBytes b.addr b.len) }

/-- Grant, at one target, every burst that becomes eligible, in the order of R391. -/
def State.grantAll (s : State) (target : Nat) : Nat → State
  | 0 => s
  | fuel + 1 => match s.winner target with
    | some b => State.grantAll (s.grant b) target fuel
    | none => s

/-- A burst whose request was held back, or was not the head of its queue, begins its eligible time when that ends (R391). -/
def State.matrixAge (s : State) : State :=
  { s with mtx := { s.mtx with waiting := s.mtx.waiting.map fun b =>
      if b.aged || s.burstEligible b then b else { b with since := s.fabric } } }

/-- Targets at which a burst waits. -/
def State.waitTargets (s : State) : List Nat := (s.mtx.waiting.map (·.target)).eraseDups

/-- A burst is complete: what waited for it may be granted (R391, R394). -/
def State.burstDone (s : State) (id : Nat) : State :=
  let s1 : State := s.matrixAge
  let s2 : State := { s1 with mtx := { s1.mtx with outstanding := s1.mtx.outstanding.filter (·.id != id) } }
  s2.waitTargets.foldl (fun t g => t.grantAll g t.mtx.waiting.length) s2

/-- MEMC_REQUEST (R374, R382): channel `n` serves its next burst as closed-page units; `fails` is, block by block, how many attempts
fail their CRC. Read data is the answer of the burst. A channel that is gone completes its bursts as uncorrectable and discards
their writes (R385, R386). -/
def execMemcRequest (n : Nat) (fails : List Nat) (s : State) : Out :=
  s.event (decide (n < 16) && ((s.works (pMEMC n) && !s.memcBusy n) || (s.memcOf n).gone) && s.requestWaits n) fun s =>
    match s.nextRequest n with
    | none => s
    | some b =>
      let s1 := s.neighbours n
      let r := s1.blocksServe n b (blocksOf b.addr b.len) fails
      let s2 := r.1.setMemc n { r.1.memcOf n with bank := s.bankOf b.addr }
      let s3 := match b.data with
        | some bs => if (s.memcOf n).gone then s2 else s2.memStore b.addr bs
        | none => { s2 with readData := leNat (s2.loadBytes b.addr b.len) }
      s3.burstDone b.id

/-- MTX_BURST_REQUEST (R391, R393, R394): a master's burst to a device address joins its queue; unless the target's path is
`busy`, the target then grants what is eligible. A request that no target decodes, or that the access table does not
allow, meets a decode error (R390). A burst crosses no 256-byte unit: the rest of a longer one is not part of it. -/
def execMtxBurstRequest (master addr len : Nat) (data : Option (List Byte)) (fence busy : Bool) (s : State) : Out :=
  let n := min len (256 - addr % 256)
  let t := s.targetOf addr
  let b : Burst := { id := s.mtx.nextId, master := master, target := t, addr := addr, len := n, data := data.map (·.take n),
                     fence := fence, since := s.fabric, aged := false }
  .next (
    if t = 63 ∨ !allowed master t then s.decodeError master addr
    else
      let s0 := s.matrixAge
      let s1 := ({ s0 with mtx := { s0.mtx with waiting := s0.mtx.waiting ++ [b], nextId := s0.mtx.nextId + 1 } }).tookFree
      if busy then s1 else s1.grantAll t s1.mtx.waiting.length)

/-- AGE_LIMIT_EXPIRY (R391): a waiting request that has been eligible for AGE_LIMIT cycles becomes aged. -/
def execAgeLimitExpiry (id : Nat) (s : State) : Out :=
  let old (b : Burst) : Bool := b.id == id && !b.aged && s.burstEligible b && decide (s.fabric ≥ b.since + s.fld pMTX F.MTX.MTX_CFG_AGE_LIMIT)
  s.event (s.mtx.waiting.any old) fun s =>
    { s with mtx := { s.mtx with waiting := s.mtx.waiting.map fun b => if old b then { b with aged := true } else b } }

/-- FLIT_CRC_FAIL (R396, R397): a receiver finds a failed flit CRC on the `attempt`-th transmission of a flit of a master's
transfer. Before the fourth it is replayed; on the fourth it is uncorrectable, a write is not performed, and it is fatal
under FATAL_MASK bit 2. -/
def execFlitCrcFail (master addr attempt : Nat) (s : State) : Out :=
  let s1 := s.err pMTX 0
  .next (
    if attempt < 4 then (s1.err pMTX 1).raise pMTX F.MTX.intREPLAY
    else
      let s2 := ((s1.tookFree.mtxError 1 master (s.targetOf addr) 0 addr).raise pMTX F.MTX.intUNCORR_FLIT).err pMTX 2
      let s3 := s2.logEv pMTX F.MTX.intUNCORR_FLIT 5 0 s2.mtxLogData
      let hit (b : Burst) : Bool := b.master == master && b.addr / 256 == addr / 256
      let s4 : State := s3.matrixAge
      ({ s4 with mtx := { s4.mtx with waiting := s4.mtx.waiting.filter (!hit ·),
                                      outstanding := s4.mtx.outstanding.filter (!hit ·) } }).fatal 2)

/-- WP_WRITE (R398, R399): a write of register `r` of window `w` (0 WP_BASE_LO, 1 _HI, 2 WP_LIMIT_LO, 3 _HI, 4 WP_MASK,
5 WP_CTRL), by Lantern or by another master. -/
def State.wpWrite (byLantern : Bool) (w r : Nat) (v : Word) (s : State) : State :=
  let a := pMTX * 0x1000 + 0x200 + w * 0x20 + r * 4
  let base := s.addr36 pMTX (F.MTX.WP_BASE_LO w)
  let limit := s.addr36 pMTX (F.MTX.WP_LIMIT_LO w)
  if !byLantern then s.reason pMTX Cls.locked 0x07
  else if s.bit pMTX (F.MTX.WP_CTRL_LOCK w) then s
  else if r = 5 ∧ v.toNat % 2 = 1 ∧ (limit ≤ base ∨ base % 4096 ≠ 0 ∨ limit % 4096 ≠ 0) then s.reason pMTX Cls.range 0x11
  else match rowAt a with
    | some row => s.setReg a (row.written (s.reg a) v)
    | none => s

/-- WP_WRITE (R399): register `r` of window `w` (0 BASE_LO, 1 _HI, 2 LIMIT_LO, 3 _HI, 4 MASK, 5 CTRL) by Lantern or by the
host. -/
def execWpWrite (byLantern : Bool) (w r : Nat) (v : Word) (s : State) : Out :=
  if w < 4 ∧ r < 6 then
    (if byLantern then .next (s.wpWrite true w r v) else s.onPage pMTX (State.wpWrite false w r v))
  else .next s

end Sys2Proof.Machine
end

