-- ==== Sys2Proof/Machine/Dma.lean ====
section
/-! DEFINITION. The DMA rings, the check-value units on their path, the PCI Express function and the diagnostic aperture
(spec/17 R401 to R405, spec/20). -/

namespace Sys2Proof.Machine

/-! ## Check-value units -/

/-- The CHK page that guards ring `r` (R402, R404). -/
def State.chkOf (s : State) (r : Nat) : Option Nat :=
  UnitType.chk.pages.find? fun p => s.works p && s.fld p F.CHK.CHK_CFG_RING == r

/-- The unit's function over payload octets (R401). -/
def State.chkValue (s : State) (p : Nat) (bs : List Byte) : Nat :=
  checkValue (s.fld p F.CHK.CHK_CFG_WIDTH) (s.get64 p F.CHK.POLY_LO) (s.get64 p F.CHK.INIT_LO)
    (s.bit p F.CHK.CHK_CFG_REFIN) (s.bit p F.CHK.CHK_CFG_REFOUT) (s.bit p F.CHK.CHK_CFG_FINV) bs

/-- Octets of the check value: ceil(w / 8) (R401). -/
def State.chkLen (s : State) (p : Nat) : Nat := ceilDiv (s.fld p F.CHK.CHK_CFG_WIDTH) 8

/-- The check value as it is stored: most significant octet first with ORDER 0 (R401). -/
def State.chkOctets (s : State) (p : Nat) (bs : List Byte) : List Byte :=
  let le := leBytes (s.chkValue p bs) (s.chkLen p)
  if s.bit p F.CHK.CHK_CFG_ORDER then le else le.reverse

/-- What a check-and-strip unit makes of a record: the record for its consumer, or none where it is discarded (R402, R403).
The guarded octets follow the 16-octet header; `role` is the ring's. Of a discarded host transmit record that requests a stamp, the
header stays, with LENGTH 0: its stamp is written with DROPPED set (R325). -/
def State.chkStrip (s : State) (p r role : Nat) (rec : List Byte) : State × Option (List Byte) :=
  let hdr := rec.take 16
  let len :=
    if role = 6 then leNat ((hdr.drop 8).take 4)
    else if role = 7 then leNat (hdr.take 2) % 2 ^ 14
    else leNat ((hdr.drop 10).take 1) * 188 + s.chkLen p
  let n := s.chkLen p
  let s0 := s.incFld p F.CHK.RECORDS
  let unsent := if role = 7 ∧ leNat (hdr.take 4) / 2 ^ 16 % 2 = 1 then some (leBytes (leNat (hdr.take 2) - len) 2 ++ hdr.drop 2) else none
  if len ≤ n then ((s0.raise p F.CHK.intSHORT).err p 1, unsent)
  else
    let body := (rec.drop 16).take (len - n)
    let got := (rec.drop (16 + (len - n))).take n
    let hdr' :=
      if role = 6 then hdr.take 8 ++ leBytes (len - n) 4 ++ hdr.drop 12
      else if role = 7 then leBytes (leNat (hdr.take 2) - len + (len - n)) 2 ++ hdr.drop 2
      else hdr
    let good := hdr' ++ body
    if got = s.chkOctets p body then (s0, some good)
    else
      let gotVal := leNat (if s.bit p F.CHK.CHK_CFG_ORDER then got else got.reverse)
      let s1 := (((s0.raise p F.CHK.intMISMATCH).err p 0).put64 p F.CHK.LAST_GOT_LO gotVal).put64 p
        F.CHK.LAST_CALC_LO (s.chkValue p body)
      if s.bit p F.CHK.CHK_CFG_POLICY then (s1, some good)
      else
        let s2 := s1.err p 2
        if role = 6 then ({ s2 with ring := Tab.upd .reset s2.ring r fun q => { q with discont := true } }, none)
        else (s2, unsent)

/-- An appending unit adds the check value to a host-receive record of KIND 0, inside LENGTH (R402). -/
def State.chkAppend (s : State) (p : Nat) (rec : List Byte) : State × List Byte :=
  let hdr := rec.take 16
  let kind := leNat ((hdr.drop 11).take 1) / 8 % 4
  if kind = 0 then
    let len := leNat ((hdr.drop 12).take 2) % 2 ^ 14
    let body := (rec.drop 16).take len
    let out := hdr.take 12 ++ leBytes (len + s.chkLen p) 2 ++ hdr.drop 14 ++ body ++ s.chkOctets p body
    (s.incFld p F.CHK.RECORDS, out ++ List.replicate ((8 - out.length % 8) % 8) 0)
  else (s, rec)

/-! ## Rings -/

def State.ringOf (s : State) (r : Nat) : RingState := Tab.get .reset s.ring r

def State.setRing (s : State) (r : Nat) (q : RingState) : State := { s with ring := Tab.set .reset s.ring r q }

/-- SIZE = 2^LOG2_SIZE (R446). -/
def State.ringSize (s : State) (r : Nat) : Nat := 2 ^ s.fld (pDMA r) F.DMA.RING_CFG_LOG2_SIZE

/-- The ring is ON in a role. -/
def State.ringRole (s : State) (r role : Nat) : Bool :=
  s.isOn (pDMA r) && s.fld (pDMA r) F.DMA.RING_CFG_ROLE == role && decide (r < 256)

/-- a − b modulo 2^32. -/
def sub32 (a b : Nat) : Nat := wrapSub a b (2 ^ 32)

/-- The descriptor of count `i` as it stands in host memory (R445, R446). -/
def State.descriptor (s : State) (r i : Nat) (hostErr : Bool) : DmaDesc :=
  let p := pDMA r
  let bs := s.hostLoad (s.get64 p F.DMA.DESC_BASE_LO + 32 * (i % s.ringSize r)) 32
  let w1 := leNat ((bs.drop 8).take 8)
  let w2 := leNat ((bs.drop 16).take 8)
  let w3 := leNat ((bs.drop 24).take 8)
  let role := s.fld p F.DMA.RING_CFG_ROLE
  let len := w2 % 2 ^ 17
  let fenceEn := w2 / 2 ^ 27 % 2 == 1
  let layer := w2 / 2 ^ 40 % 8
  let reserved := w1 / 2 ^ 36 + w2 / 2 ^ 17 % 128 + w2 / 2 ^ 28 % 16 + w2 / 2 ^ 37 % 8 + w2 / 2 ^ 43 + w3 / 2 ^ 32
  let invalid := reserved != 0 || len == 0 || decide (len > 65536) || (fenceEn && layer == 0) ||
    (decide (w1 % 2 ^ 36 ≠ 0) && role != 3)
  { count := i, hostAddr := leNat (bs.take 8), devAddr := w1 % 2 ^ 36, len := len
    sop := w2 / 2 ^ 24 % 2 == 1, eop := w2 / 2 ^ 25 % 2 == 1, irq := w2 / 2 ^ 26 % 2 == 1
    fenceEn := fenceEn, fenceSrc := w2 / 2 ^ 32 % 32, fenceLayer := layer, tag := w3 % 2 ^ 32
    invalid := invalid, hostErr := hostErr
    bytes := if invalid then [] else s.hostLoad (leNat (bs.take 8)) len
    guarded := (s.chkOf r).isSome }

/-- CPL and its coalescing as one completion is written (R452). -/
def State.ringSignal (s : State) (r : Nat) (irq : Bool) : State :=
  let p := pDMA r
  let q := s.ringOf r
  let c := s.fld p F.DMA.COAL_COUNT
  if irq ∨ c = 0 ∨ q.sinceCpl + 1 ≥ c then (s.setRing r { q with sinceCpl := 0, oldest := none }).raise p F.DMA.intCPL
  else s.setRing r { q with sinceCpl := q.sinceCpl + 1, oldest := some (q.oldest.getD s.now) }

/-- Write the completion entry of count `i`: 16 bytes at CPL_BASE + 16 × (i mod SIZE); DONE and BYTES count it (R446, R451). -/
def State.complete (s : State) (r i : Nat) (sop eop : Bool) (status len tag source : Nat) (irq : Bool) : State :=
  let p := pDMA r
  let phase := (i / s.ringSize r + 1) % 2
  let w0 := i % 65536 + sop.toNat * 2 ^ 16 + eop.toNat * 2 ^ 17 + status * 2 ^ 18 + phase * 2 ^ 31 + len * 2 ^ 32
  let w1 := tag + source * 2 ^ 32
  let s1 := s.hostStore (s.get64 p F.DMA.CPL_BASE_LO + 16 * (i % s.ringSize r)) (leBytes w0 8 ++ leBytes w1 8)
  let s2 := (s1.incFld p F.DMA.DONE).put64L p F.DMA.BYTES_LO (s1.live64 p F.DMA.BYTES_LO + len)
  s2.ringSignal r irq

/-- TAIL_WRITE (R446): the host posts descriptors by moving TAIL. `stores` are the bytes it wrote to its memory before
(descriptors and buffers), which the write makes visible. A count past DONE + SIZE, or backwards, is refused. -/
def execTailWrite (r : Nat) (v : Word) (stores : List (Nat × List Byte)) (s : State) : Out :=
  s.onPage (pDMA r) fun s =>
    let p := pDMA r
    let s1 := stores.foldl (fun t e => t.hostStore e.1 e.2) s
    let done := s.fld p F.DMA.DONE
    if sub32 v.toNat done > s.ringSize r ∨ sub32 v.toNat done < sub32 (s.fld p F.DMA.TAIL) done then
      s1.reason p Cls.range 0x11
    else s1.setReg (F.DMA.TAIL.addr p) v

/-- Roles whose direction is host to device (R444). -/
def toDevice (role : Nat) : Bool := role == 1 || role == 3 || role == 6 || role == 7 || role == 9

/-- DESCRIPTOR_FETCH (R447): the engine of a host-to-device ring fetches the next posted descriptor, at most 8 ahead, and
reads its buffer; `hostErr` is whether that read ended with an error status. -/
def execDescriptorFetch (r : Nat) (hostErr : Bool) (s : State) : Out :=
  let p := pDMA r
  s.event (s.isOn p && toDevice (s.fld p F.DMA.RING_CFG_ROLE) && decide ((s.ringOf r).fetched.length < 8) &&
      s.fld p F.DMA.HEAD != s.fld p F.DMA.TAIL) fun s =>
    let d := s.descriptor r (s.fld p F.DMA.HEAD) hostErr
    (s.setRing r { s.ringOf r with fetched := (s.ringOf r).fetched ++ [d] }).incFld p F.DMA.HEAD

/-- FENCE_DONE of layer `l` of SRC `n` counts one (R121); a fence for an absent page is dropped and counts in ERR_COUNT1 of
the ring (R449). -/
def State.ringFence (s : State) (r n l : Nat) : State :=
  if s.absent (pSRC n) then s.err (pDMA r) 1 else s.incFld (pSRC n) ⟨(F.SRC.FENCE_DONE l).off, 0, 16⟩

/-- A whole record reaches its consumer's queue, past the CHK unit that guards the ring (R403, R447); answers whether it was
discarded. -/
def State.deliver (s : State) (r : Nat) (rec : List Byte) (guarded : Bool) : State × Bool :=
  let role := s.fld (pDMA r) F.DMA.RING_CFG_ROLE
  let x : State × Option (List Byte) := match s.chkOf r with
    | some p => if guarded && role != 1 then s.chkStrip p r role rec else (s, some rec)
    | none => (s, some rec)
  match x.2 with
  | some b => (x.1.setRing r { x.1.ringOf r with records := (x.1.ringOf r).records ++ [b] }, false)
  | none => (x.1, true)

/-- DMA_DESC_COMPLETE (R447 to R449): the oldest fetched descriptor's bytes are consumed and its completion is written. -/
def execDmaDescComplete (r : Nat) (s : State) : Out :=
  let p := pDMA r
  s.event (s.works p && !(s.ringOf r).fetched.isEmpty) fun s =>
    match (s.ringOf r).fetched with
    | [] => s
    | d :: rest =>
      let q := s.ringOf r
      let s0 := s.setRing r { q with fetched := rest }
      let drop (s : State) : State :=
        s.setRing r { s.ringOf r with inRecord := true, discard := true, part := [] }
      if d.invalid then
        ((drop (s0.raise p F.DMA.intDESC_ERR)).err p 1).complete r d.count d.sop d.eop 3 0 d.tag 0 d.irq
      else if d.hostErr then
        ((drop (s0.raise p F.DMA.intHOST_ERR)).err p 2).complete r d.count d.sop d.eop 2 0 d.tag 0 d.irq
      else if s.fld p F.DMA.RING_CFG_ROLE = 3 then
        let x := s0.devWriteUnits mDMA 257 d.devAddr d.bytes
        let s1 := x.1.complete r d.count d.sop d.eop (if x.2 then 0 else 1) d.len d.tag 0 d.irq
        if x.2 && d.fenceEn then s1.ringFence r d.fenceSrc d.fenceLayer else s1
      else if !d.sop && (!q.inRecord || q.discard) then
        let s1 := if q.inRecord then s0 else (s0.raise p F.DMA.intDESC_ERR).err p 1
        let s2 := s1.setRing r { s1.ringOf r with inRecord := !d.eop || !q.inRecord, discard := !d.eop || !q.inRecord, part := [] }
        s2.complete r d.count d.sop d.eop (if q.inRecord then 0 else 3) (if q.inRecord then d.len else 0) d.tag 0 d.irq
      else
        let broken := d.sop && q.inRecord && !q.discard
        let s1 := if broken then (s0.raise p F.DMA.intDESC_ERR).err p 1 else s0
        let part := (if d.sop then [] else q.part) ++ d.bytes
        let guarded := if d.sop then d.guarded else q.guarded
        if d.eop then
          let s2 := s1.setRing r { s1.ringOf r with inRecord := false, discard := false, part := [] }
          let x := s2.deliver r part guarded
          x.1.complete r d.count d.sop d.eop (if x.2 then 4 else 0) d.len d.tag 0 d.irq
        else
          (s1.setRing r { s1.ringOf r with inRecord := true, discard := false, part := part, guarded := guarded }).complete
            r d.count d.sop d.eop 0 d.len d.tag 0 d.irq

/-! ## Device to host -/

/-- The posted descriptors from HEAD whose buffers together hold `n` bytes, or none (R450). -/
def State.roomFor (s : State) (r : Nat) : Nat → Nat → Nat → Option (List DmaDesc)
  | _, 0, _ => some []
  | 0, _ + 1, _ => none
  | fuel + 1, n + 1, i =>
    let d := s.descriptor r i false
    match State.roomFor s r fuel (n + 1 - (if d.invalid then 0 else d.len)) ((i + 1) % 2 ^ 32) with
    | some ds => some (d :: ds)
    | none => none

/-- Write a record across descriptors (R450, R451). -/
def State.fillBuffers (s : State) (r source : Nat) (first : Bool) : List DmaDesc → List Byte → State
  | [], _ => s
  | d :: ds, bs =>
    let p := pDMA r
    let s0 := s.incFld p F.DMA.HEAD
    if d.invalid then
      State.fillBuffers (((s0.raise p F.DMA.intDESC_ERR).err p 1).complete r d.count false false 3 0 d.tag source d.irq) r source first ds bs
    else
      let chunk := bs.take d.len
      let s1 := (s0.hostStore d.hostAddr chunk).complete r d.count first ds.isEmpty 0 chunk.length d.tag source d.irq
      State.fillBuffers s1 r source false ds (bs.drop d.len)

/-- A producer offers a record to a device-to-host ring (R450): written whole, or dropped for no room. A ring that is not
ON takes nothing (R454). Answers whether it was written. -/
def State.offer (s : State) (r source : Nat) (rec : List Byte) : State × Bool :=
  let p := pDMA r
  if !s.isOn p then (s, false)
  else
    let x := match s.chkOf r with
      | some c => if s.fld p F.DMA.RING_CFG_ROLE = 8 then s.chkAppend c rec else (s, rec)
      | none => (s, rec)
    let s1 := x.1
    let bs := x.2
    match s1.roomFor r (sub32 (s.fld p F.DMA.TAIL) (s.fld p F.DMA.HEAD)) bs.length (s.fld p F.DMA.HEAD) with
    | some ds => (s1.fillBuffers r source true ds bs, true)
    | none =>
      let s2 := (s1.raise p F.DMA.intNO_ROOM).err p 0
      (if bs.length > s.ringSize r * 65536 then s2.raise p F.DMA.intTOO_LONG else s2, false)

/-- RECORD_OFFER (R450): a producer's page offers a record to a device-to-host ring. -/
def execRecordOffer (r source : Nat) (rec : List Byte) (s : State) : Out :=
  s.event (!toDevice (s.fld (pDMA r) F.DMA.RING_CFG_ROLE) && decide (r < 256)) fun s => (s.offer r source rec).1

/-- COAL_TIMEOUT (R452): COAL.TIME_US have passed since the oldest completion not yet signalled. -/
def execCoalTimeout (r : Nat) (s : State) : Out :=
  let p := pDMA r
  let us := s.fld p F.DMA.COAL_TIME_US
  let due := match (s.ringOf r).oldest with
    | some t => us != 0 && decide (s.now ≥ t + us * 1000)
    | none => false
  s.event due fun s => (s.setRing r { s.ringOf r with sinceCpl := 0, oldest := none }).raise p F.DMA.intCPL

/-- Take the oldest whole record of a host-to-device ring. -/
def State.takeRecord (s : State) (r : Nat) : Option (List Byte × State) :=
  match (s.ringOf r).records with
  | [] => none
  | b :: rest => some (b, s.setRing r { s.ringOf r with records := rest })

/-! ## The link and the aperture -/

/-- A DMA page leaves at once: OFF, its ring and records lost (R439). -/
def State.ringOff (s : State) (r : Nat) : State :=
  let p := pDMA r
  if s.st p = stChecking ∨ s.works p then
    let s1 := if s.st p = stOn then s else s.opEnd p opAborted
    (((s1.toState p stOff).setFld p F.PAGE_CTRL_ENABLE 0).toOffValues p).setRing r .reset
  else s

/-- BAR2_ACCESS (R442): BAR2 offset `off` reaches APERTURE_BASE + off as master HOST_IN. A write is carried out only with
AP_WRITE_EN; before SERVICE, but for RECOVERY, accesses complete with data 0 (R460, R477). -/
def execBar2Access (off len : Nat) (data : Option (List Byte)) (s : State) : Out :=
  let a := s.addr36 pHOST F.HOST.APERTURE_BASE_LO + off
  let opened := s.served pHOST
  .next (
    match data with
    | some bs =>
      if opened && s.bit pHOST F.HOST.HOST_CFG_AP_WRITE_EN then (s.devWriteUnits mHOST_IN (bs.length / 256 + 2) a bs).1 else s
    | none =>
      if opened then
        let x := s.devRead mHOST_IN a len
        { x.1 with readData := leNat x.2.1 }
      else { s with readData := 0 })

/-- APERTURE_WRITE (R442): a write of APERTURE_BASE_LO, or of _HI, is accepted only where the base stays a multiple of
0x1000_0000. -/
def execApertureWrite (hi : Bool) (v : Word) (s : State) : Out :=
  s.onPage pHOST fun s =>
    if hi then s.setFld pHOST F.HOST.APERTURE_BASE_HI_ADDR v.toNat
    else if v.toNat % 2 ^ 28 = 0 then s.setReg (F.HOST.APERTURE_BASE_LO.addr pHOST) v
    else s.reason pHOST Cls.range 0x12

/-- AER_ERROR (R436): the function logs an error. -/
def execAerError (correctable : Bool) (s : State) : Out :=
  .next (if correctable then (s.raise pHOST F.HOST.intAER_CORR).err pHOST 0
    else (s.raise pHOST F.HOST.intAER_UNCORR).err pHOST 1)

end Sys2Proof.Machine
end

