-- ==== Sys2Proof/Machine/Intc.lean ====
section
/-! DEFINITION. The interrupt controller: sources, routing, CLAIM and EOI (spec/18), and the MSI-X writes it launches
(spec/18 R410, spec/20 R443). -/

namespace Sys2Proof.Machine

/-! ## Sources and targets -/

def siIdle : Nat := 0
def siPending : Nat := 1
def siCommitted : Nat := 2
def siActive : Nat := 3

/-- Page of the source table (R406: entry s at 0x7000 + 16 s). -/
def pST : Nat := 7

def State.srcState (s : State) (n : Nat) : Nat := s.fld pST (F.SRCTAB.SRC_CTRL_STATE n)

/-- The priority of source `n`: PRIO, and of a COMMITTED source PRIO as it was routed, since a write takes effect at the next
routing (R407). -/
def State.srcPrio (s : State) (n : Nat) : Nat :=
  if s.srcState n = siCommitted then Tab.get 0 s.intc.prios n else s.fld pST (F.SRCTAB.SRC_CTRL_PRIO n)

def State.srcEnabled (s : State) (n : Nat) : Bool := s.bit pST (F.SRCTAB.SRC_CTRL_ENABLE n)

def State.srcTarget (s : State) (n : Nat) : Nat := s.fld pST (F.SRCTAB.SRC_CTRL_TARGET n)

/-- A software source (R406). -/
def isSoft (n : Nat) : Bool := decide (0x400 ≤ n) && decide (n < 0x7FF)

/-- The line of a page-level source: a page without a common header never asserts (R33, R406). -/
def State.srcLine (s : State) (n : Nat) : Bool := (unitOf n).isSome && s.intLine n

/-- The source is asserted: its line, or its latch PEND (R406). -/
def State.srcAsserted (s : State) (n : Nat) : Bool :=
  if isSoft n then s.bit pST (F.SRCTAB.SRC_CTRL_PEND n) else s.srcLine n

/-- Does the mask of source `n` name target `t` (R407). -/
def State.srcMask (s : State) (n t : Nat) : Bool :=
  if t < 32 then s.fld pST (F.SRCTAB.TMASK0 n) / 2 ^ t % 2 == 1
  else if t < 64 then s.fld pST (F.SRCTAB.TMASK1 n) / 2 ^ (t - 32) % 2 == 1
  else s.fld pST (F.SRCTAB.TMASK2_T64_72 n) / 2 ^ (t - 64) % 2 == 1

/-- Whether a state counts as PENDING or COMMITTED in PEND_SUM, or as ACTIVE in ACTIVE_SUM. -/
def inPendSum (st : Nat) : Bool := st == siPending || st == siCommitted

/-- STATE of source `n` takes `st`; INTC_STATUS, PEND_SUM and ACTIVE_SUM follow. -/
def State.srcTo (s : State) (n st : Nat) : State :=
  let old := s.srcState n
  let pb : Fld := ⟨4 * (n / 32), n % 32, 1⟩
  let ab : Fld := ⟨0x100 + 4 * (n / 32), n % 32, 1⟩
  let s1 := ((s.setFld pST (F.SRCTAB.SRC_CTRL_STATE n) st).setFld 0xF pb (inPendSum st).toNat).setFld 0xF ab (st == siActive).toNat
  let s2 := if st = siCommitted then s1 else s1.setFld pST (F.SRCTAB.SRC_CTRL_GONE n) 0
  (s2.setFld pINTC F.INTC.INTC_STATUS_PENDING
    (s.fld pINTC F.INTC.INTC_STATUS_PENDING + (inPendSum st).toNat - (inPendSum old).toNat)).setFld pINTC
    F.INTC.INTC_STATUS_ACTIVE (s.fld pINTC F.INTC.INTC_STATUS_ACTIVE + (st == siActive).toNat - (old == siActive).toNat)

/-! ## Targets -/

/-- The stack of target `t`, top first (R413). -/
def State.stack (s : State) (t : Nat) : List (Nat × Nat) := Tab.get [] s.intc.inService t

/-- Set the stack of target `t`; TGT_STATUS shows it (R413). -/
def State.setStack (s : State) (t : Nat) (l : List (Nat × Nat)) : State :=
  let s1 := { s with intc := { s.intc with inService := Tab.set [] s.intc.inService t l } }
  let top := l.head?
  ((s1.setFld pINTC (F.INTC.TGT_STATUS_RUN t) ((top.map Prod.snd).getD 31)).setFld pINTC (F.INTC.TGT_STATUS_DEPTH t)
    l.length).setFld pINTC (F.INTC.TGT_STATUS_TOP t) ((top.map Prod.fst).getD 0x7FF)

/-- The running priority of `t` is below `prio`; an empty stack is below every priority (R408). -/
def State.runsBelow (s : State) (t prio : Nat) : Bool :=
  match s.stack t with
  | [] => true
  | e :: _ => decide (e.2 < prio)

def State.tgtEnabled (s : State) (t : Nat) : Bool := s.bit pINTC (F.INTC.TGT_CTRL_EN t)

/-- Vector `v` is masked in the MSI-X table, or counts as masked while the data link is down (R439, R443). -/
def State.vecMasked (s : State) (v : Nat) : Bool := s.bit pHOST (F.HOST.MSIX_CTRL_MASK v) || !s.bit pHOST F.HOST.LINK_STATUS_DL_UP

/-- Target `t` is eligible for source `n` (R408). -/
def State.tgtEligible (s : State) (n t : Nat) : Bool :=
  s.srcMask n t && s.tgtEnabled t && s.runsBelow t (s.srcPrio n) && (decide (64 ≤ t) || (s.isOn pHOST && !s.vecMasked t))

def State.tgtRaised (s : State) (t : Nat) : Bool := s.bit pINTC (F.INTC.TGT_STATUS_RAISED t)

/-- The MSI-X write of vector `v`: the data word of the table at its address; `err` is whether it completed with an error at
the host-memory port (R410, ERR_COUNT2). -/
def State.msixWrite (s : State) (v : Nat) (err : Bool) : State :=
  if err then s.err pINTC 2
  else s.hostStore (s.get64 pHOST (F.HOST.MSIX_ADDR_LO v)) (leBytes (s.fld pHOST (F.HOST.MSIX_DATA v)) 4)

/-- Pending bit of vector `v` (the Pending Bit Array, R443). -/
def pbaBit (v : Nat) : Fld := ⟨0x800 + 4 * (v / 32), v % 32, 1⟩

/-- Target `t` is raised unless it is already: a core's or Lantern's line, or the vector's write; a masked vector holds its
pending bit instead (R410, R443). -/
def State.raiseTarget (s : State) (t : Nat) (bad : List Nat) : State :=
  if s.tgtRaised t then s
  else if 64 ≤ t then s.setFld pINTC (F.INTC.TGT_STATUS_RAISED t) 1
  else if s.vecMasked t then s.setFld pHOST (pbaBit t) 1
  else (s.setFld pINTC (F.INTC.TGT_STATUS_RAISED t) 1).msixWrite t (bad.contains t)

/-- Every source number, in ascending order (R406). -/
@[irreducible] def allSources : List Nat := List.range 0x7FF

/-- By descending PRIO and then ascending source number (R409, R412). -/
def State.srcBefore (s : State) (a b : Nat) : Bool :=
  decide (s.srcPrio b < s.srcPrio a) || (s.srcPrio a == s.srcPrio b && decide (a ≤ b))

/-- The most urgent of some sources. -/
def State.urgent (s : State) (l : List Nat) : Option Nat :=
  l.foldl (fun o n => match o with
    | some m => if s.srcBefore m n then some m else some n
    | none => some n) none

/-- Sources COMMITTED to `t`. -/
def State.committedTo (s : State) (t : Nat) : List Nat :=
  allSources.filter fun n => s.srcState n == siCommitted && s.srcTarget n == t

/-- A COMMITTED source whose target no longer takes it returns to PENDING, a page source with GONE to IDLE (R411). -/
def State.recheck (s : State) (n : Nat) : State :=
  if s.srcState n = siCommitted then
    let t := s.srcTarget n
    if s.srcMask n t && s.tgtEnabled t && s.runsBelow t (s.srcPrio n) then s
    else if !isSoft n && s.bit pST (F.SRCTAB.SRC_CTRL_GONE n) then s.srcTo n siIdle
    else s.srcTo n siPending
  else s

/-! ## Routing -/

/-- The targets in order after LAST, wrapping from 72 to 0 (R409). -/
def targetsAfter (last : Nat) : List Nat := (List.range 73).map fun i => (last + 1 + i) % 73

/-- The target that a PENDING source is committed to (R409). -/
def State.routeTarget (s : State) (n : Nat) : Option Nat :=
  let es := (targetsAfter (s.fld pST (F.SRCTAB.SRC_CTRL_LAST n))).filter (s.tgtEligible n)
  match es.find? fun t => !s.tgtRaised t with
  | some t => some t
  | none => es.head?

/-- Commit one source (R409, R410). -/
def State.routeOne (bad : List Nat) (s : State) (n : Nat) : State :=
  match s.routeTarget n with
  | some t =>
    let s0 : State := { s with intc := { s.intc with prios := Tab.set 0 s.intc.prios n (s.srcPrio n) } }
    (((s0.srcTo n siCommitted).setFld pST (F.SRCTAB.SRC_CTRL_TARGET n) t).setFld pST (F.SRCTAB.SRC_CTRL_LAST n) t).raiseTarget t bad
  | none => s

/-- The sources that may be committed now (R409). -/
def State.routable (s : State) : List Nat :=
  allSources.filter fun n => s.srcState n == siPending && s.srcEnabled n && (s.routeTarget n).isSome

/-- Up to `k` PENDING sources in order. -/
def State.routeSome (bad : List Nat) : Nat → State → State
  | 0, s => s
  | k + 1, s =>
    match s.urgent s.routable with
    | some n => State.routeSome bad k (s.routeOne bad n)
    | none => s

/-- INTC_ROUTE (R409, R410): one FABRIC cycle of routing. A target whose CLAIM was read while a source is still COMMITTED to
it is raised again; then up to 16 sources are committed. `bad` are the vectors whose write completes with an error. -/
def execIntcRoute (bad : List Nat) (s : State) : Out :=
  s.event (s.works pINTC && s.intc.routedAt != some s.fabric) fun s =>
    let s0 : State := { s with intc := { s.intc with routedAt := some s.fabric } }
    ((List.range 73).foldl (fun t g => if !t.tgtRaised g && !(t.committedTo g).isEmpty then t.raiseTarget g bad else t) s0).routeSome bad 16

/-! ## Lines, software sources, source control -/

/-- PAGE_LINE_CHANGE (R411): the line of page `p` has changed since INTC last sampled it. -/
def execPageLineChange (p : Nat) (s : State) : Out :=
  s.event (decide (p < 0x400) && s.works pINTC && s.srcLine p != s.bit pST (F.SRCTAB.SRC_CTRL_PEND p)) fun s =>
    let high := s.srcLine p
    let s1 := s.setFld pST (F.SRCTAB.SRC_CTRL_PEND p) high.toNat
    let st := s.srcState p
    if st = siIdle then (if high then s1.srcTo p siPending else s1)
    else if st = siPending then (if high then s1 else s1.srcTo p siIdle)
    else if st = siCommitted then s1.setFld pST (F.SRCTAB.SRC_CTRL_GONE p) (!high).toNat
    else s1

/-- SW_SET or SW_CLR named a page source (R406). -/
def State.swReject (s : State) : State := (s.reason pINTC Cls.range 0x11).raise pINTC F.INTC.intSW_REJECT

/-- A write to SW_SET (R406, R411). -/
def State.swSet (n : Nat) (s : State) : State :=
  if isSoft n then
    let s1 := s.setFld pST (F.SRCTAB.SRC_CTRL_PEND n) 1
    if s.srcState n = siIdle then s1.srcTo n siPending else s1
  else if n < 0x400 then s.swReject
  else s

/-- SW_SET (R406). -/
def execSwSet (n : Nat) (s : State) : Out := s.onPage pINTC (State.swSet n)

/-- A write to SW_CLR (R406, R411). -/
def State.swClr (n : Nat) (s : State) : State :=
  if isSoft n then
    let s1 := s.setFld pST (F.SRCTAB.SRC_CTRL_PEND n) 0
    if s.srcState n = siPending ∨ s.srcState n = siCommitted then s1.srcTo n siIdle else s1
  else if n < 0x400 then s.swReject
  else s

/-- SW_CLR (R406). -/
def execSwClr (n : Nat) (s : State) : Out := s.onPage pINTC (State.swClr n)

/-- A write of SRC_CTRL of source `n` (R407, R411). -/
def State.srcCtrlWrite (n : Nat) (v : Word) (s : State) : State :=
  let en := v.toNat % 2
  let was := s.srcEnabled n
  let s1 := (s.setFld pST (F.SRCTAB.SRC_CTRL_ENABLE n) en).setFld pST (F.SRCTAB.SRC_CTRL_PRIO n)
    ((F.SRCTAB.SRC_CTRL_PRIO n).of v)
  if en = 0 then
    if s.srcState n = siCommitted then s1.srcTo n (if isSoft n then siPending else siIdle) else s1
  else if !was && !isSoft n && s.srcState n == siIdle && s.srcLine n then
    (s1.setFld pST (F.SRCTAB.SRC_CTRL_PEND n) 1).srcTo n siPending
  else s1

/-- A write of a mask word of source `n`: its bits, and what R411 makes of a COMMITTED source. -/
def State.tmaskWrite (n k : Nat) (v : Word) (s : State) : State :=
  let s1 :=
    if k = 0 then s.setFld pST (F.SRCTAB.TMASK0 n) v.toNat
    else if k = 1 then s.setFld pST (F.SRCTAB.TMASK1 n) v.toNat
    else s.setFld pST (F.SRCTAB.TMASK2_T64_72 n) v.toNat
  s1.recheck n

/-- A write of TGT_CTRL of target `t`. -/
def State.tgtCtrlWrite (t : Nat) (v : Word) (s : State) : State :=
  let s1 := s.setFld pINTC (F.INTC.TGT_CTRL_EN t) v.toNat
  (s1.committedTo t).foldl State.recheck s1

/-- A write to SRC_CTRL (r 0) or TMASK0 to 2 (r 1 to 3) of source `n`, or to TGT_CTRL (r 4) of target `n`. -/
def State.intcCtrlWrite (n r : Nat) (v : Word) (s : State) : State :=
  if r = 4 then (if n < 73 then s.tgtCtrlWrite n v else s)
  else if n < 0x7FF ∧ r = 0 then s.srcCtrlWrite n v
  else if n < 0x7FF ∧ r < 4 then s.tmaskWrite n (r - 1) v
  else s

/-- SRC_CTRL_WRITE (R411). -/
def execSrcCtrlWrite (n r : Nat) (v : Word) (s : State) : Out := s.onPage pINTC (State.intcCtrlWrite n r v)

/-! ## CLAIM and EOI -/

/-- The source that a CLAIM read of target `t` returns (R412). -/
def State.claimSource (s : State) (t : Nat) : Option Nat :=
  if s.tgtEnabled t && s.works pINTC then
    match s.urgent (s.committedTo t) with
    | some n => some n
    | none => s.urgent (allSources.filter fun n => s.srcState n == siPending && s.srcEnabled n && s.tgtEligible n t)
  else none

/-- A read of CLAIM of target `t`: the state after and the value (R412, R413). -/
def State.claimRead (s : State) (t : Nat) : State × Nat :=
  let s0 := s.setFld pINTC (F.INTC.TGT_STATUS_RAISED t) 0
  match s.claimSource t with
  | none => (s0, 0x7FF)
  | some n =>
    let prio := s.srcPrio n
    let value := n + prio * 0x1000 + (!isSoft n && !s.srcLine n).toNat * 0x10000 + (isSoft n).toNat * 0x20000
    let s1 := (s0.srcTo n siActive).setFld pST (F.SRCTAB.SRC_CTRL_TARGET n) t
    let s2 := if isSoft n then s1.setFld pST (F.SRCTAB.SRC_CTRL_PEND n) 0 else s1
    let s3 := s2.setStack t ((n, prio) :: s.stack t)
    ((s3.committedTo t).foldl State.recheck s3, value)

/-- CLAIM_READ (R412): a read of CLAIM of target `t`; a target above 72 has none and reads 0. -/
def execClaimRead (t : Nat) (s : State) : Out :=
  .next (if t < 73 ∧ (s.bar pINTC ∨ 64 ≤ t) then { (s.claimRead t).1 with readData := (s.claimRead t).2 } else { s with readData := 0 })

/-- A source is re-sampled as its service ends (R414). -/
def State.resample (s : State) (n : Nat) : State :=
  if isSoft n then s.srcTo n (if s.bit pST (F.SRCTAB.SRC_CTRL_PEND n) then siPending else siIdle)
  else s.srcTo n (if s.srcLine n && s.srcEnabled n then siPending else siIdle)

/-- A write of source `n` to EOI of target `t` (R414). -/
def State.eoi (t n : Nat) (s : State) : State :=
  match s.stack t with
  | [] => (s.raise pINTC F.INTC.intEOI_EMPTY).err pINTC 1
  | e :: rest =>
    if e.1 = n then (s.setStack t rest).resample n
    else (s.raise pINTC F.INTC.intEOI_MISMATCH).err pINTC 0

/-- EOI (R414). -/
def execEoi (t n : Nat) (s : State) : Out :=
  .next (if t < 73 ∧ (s.bar pINTC ∨ 64 ≤ t) then s.eoi t (n % 2048) else s)

/-- A vector that is masked no more launches its write as a commit where its pending bit is set (R410, R443). -/
def State.msixLaunch (v : Nat) (err : Bool) (s : State) : State :=
  if s.bit pHOST (pbaBit v) && !s.vecMasked v then (s.setFld pHOST (pbaBit v) 0).raiseTarget v (if err then [v] else []) else s

/-- The vector's own mask bit is written 0 (R443). -/
def State.msixUnmask (v : Nat) (err : Bool) (s : State) : State := (s.setFld pHOST (F.HOST.MSIX_CTRL_MASK v) 0).msixLaunch v err

/-- MSIX_UNMASK (R443). -/
def execMsixUnmask (v : Nat) (err : Bool) (s : State) : Out :=
  s.onPage pHOST fun s => if v < 64 then s.msixUnmask v err else s

end Sys2Proof.Machine
end

