-- ==== Sys2Proof/Machine/Time.lean ====
section
/-! DEFINITION. The time base: increments and slews, loading the counter, compares, triggers, captures and PPS (spec/03). -/

namespace Sys2Proof.Machine

/-! ## Increments and slews -/

/-- The range of an increment (R63). -/
def incrInRange (v : Nat) : Bool := 0x00800000 ≤ v && v ≤ 0x02000000

/-- The window while a group is not OFF (R70). -/
def incrInWindow (v : Nat) : Bool := 0x00FFE000 ≤ v && v ≤ 0x01002000

/-- The first check that a value of INCR or SLEW_INCR fails: INCR_RANGE, then SLEW_BOUND (R63, R70). -/
def State.incrCheck (s : State) (v : Nat) : Option (Nat × Nat) :=
  if !incrInRange v then some (Cls.range, 0x10)
  else if !s.allGrpOff && !incrInWindow v then some (Cls.timing, 0x11)
  else none

/-- A write of INCR: ignored with its reason, pending while a slew runs, else in force at once (R63, R69, R70). DESIGN CHOICE: INCR
reads its old value until the pending one applies (log entry 251). -/
def State.writeIncr (v : Word) (s : State) : State :=
  match s.incrCheck v.toNat with
  | some (c, d) => s.reason pTIME c d
  | none =>
    if s.fld pTIME F.TIME.SLEW_REMAIN > 0 then { s with time := { s.time with incrPending := some v } }
    else s.setFld pTIME F.TIME.INCR v.toNat

/-- INCR_WRITE (R70). -/
def execIncrWrite (v : Word) (s : State) : Out := s.onPage pTIME (State.writeIncr v)

/-- A write of SLEW_INCR (R63, R70). -/
def State.writeSlewIncr (v : Word) (s : State) : State :=
  match s.incrCheck v.toNat with
  | some (c, d) => s.reason pTIME c d
  | none => s.setFld pTIME F.TIME.SLEW_INCR v.toNat

/-- SLEW_INCR_WRITE (R70). -/
def execSlewIncrWrite (v : Word) (s : State) : Out := s.onPage pTIME (State.writeSlewIncr v)

/-- SLEW_CTRL.START: refused outside the window of R70; else SLEW_REMAIN loads SLEW_TICKS and replaces a running slew. Where the old
slew ends in the tick in which the START takes effect, it ends, and the new one begins at the next tick (R69). -/
def State.slewStart (s : State) : State :=
  if !s.works pTIME then s
  else if !s.allGrpOff && !incrInWindow (s.fld pTIME F.TIME.SLEW_INCR) then s.reason pTIME Cls.timing 0x11
  else
    let n := s.fld pTIME F.TIME.SLEW_TICKS
    if s.running ∧ s.fld pTIME F.TIME.SLEW_REMAIN = 1 then { s with time := { s.time with slewNext := some n } }
    else if n = 0 then (s.slewLoad n).incrApply else s.slewLoad n

/-- SLEW_START (R69). -/
def execSlewStart (s : State) : Out := s.onPage pTIME State.slewStart

/-- SLEW_DONE: a slew has counted down to 0 (R69). -/
def execSlewDone (s : State) : Out :=
  s.event s.time.slewEnded fun s =>
    { s with time := { s.time with slewEnded := false } }.raise pTIME F.TIME.intSLEW_DONE

/-! ## Loading and stopping the counter -/

/-- The counter value of the load registers (R65). -/
def State.loadValue (s : State) : Nat :=
  s.get64 pTIME F.TIME.LOAD_NS_LO * 2 ^ 24 + s.fld pTIME F.TIME.LOAD_FRAC_FRAC

/-- The counter stands at `v` and a new count of whole seconds begins (R66, R86). -/
def State.counterAt (s : State) (v : Nat) : State :=
  { s with time := { s.time with acc := BitVec.ofNat 88 v, waitPps := false, ppsOutSec := 0 } }

/-- TIME enters ON: with LOAD_MODE 0 the counter takes the load value, at which the first tick starts it; with LOAD_MODE 1 it waits
for PPS_IN (R66). -/
def State.timeOn (s : State) : State :=
  if s.bit pTIME F.TIME.TIME_CFG_LOAD_MODE then { s with time := { s.time with waitPps := true } }
  else { s.counterAt s.loadValue with time := { (s.counterAt s.loadValue).time with starting := true } }

/-- The counter starts at a PPS_IN edge: it reads what it would if it had read the load value at the edge on the ball, 4 ns ago
(R66). -/
def State.startAtPps (s : State) : State :=
  ((s.counterAt (s.loadValue + 4 * 2 ^ 24)).setFld pTIME F.TIME.TIME_STATUS_RUNNING 1).raise pTIME F.TIME.intLOADED

/-- A PPS_IN edge is seen (R67). -/
def State.sawPps (s : State) : State :=
  { s.setFld pTIME F.TIME.TIME_STATUS_PPS_SEEN 1 with time := { s.time with ppsEdge := s.now } }

/-- PPS_IN_EDGE: while TIME runs PPS_SEEN is set (R67). -/
def execPpsInEdge (s : State) : Out := s.event s.running State.sawPps

/-- PPS_SEEN_LAPSE: no edge for 1.1 s of counter time (R67). -/
def execPpsSeenLapse (s : State) : Out :=
  s.event (s.bit pTIME F.TIME.TIME_STATUS_PPS_SEEN && decide (s.time.ppsEdge + 1100000000 ≤ s.now)) fun s =>
    s.setFld pTIME F.TIME.TIME_STATUS_PPS_SEEN 0

/-- A write to LOAD_NS_LO (0), LOAD_NS_HI (1), LOAD_FRAC (2) or TIME_CFG (3). The load registers and LOAD_MODE take it only
while TIME is OFF; the other fields of TIME_CFG always take it (R65). PPS_OUT is driven only while PPS_OUT_EN is 1 (R86). -/
def State.loadWrite (r : Nat) (v : Word) (s : State) : State :=
  if r = 3 then
    let s0 := (s.setFld pTIME F.TIME.TIME_CFG_PPS_OUT_EN (F.TIME.TIME_CFG_PPS_OUT_EN.of v)).setFld pTIME
      F.TIME.TIME_CFG_PPS_WIDTH (F.TIME.TIME_CFG_PPS_WIDTH.of v)
    let s1 := if F.TIME.TIME_CFG_PPS_OUT_EN.of v = 0 then { s0 with time := { s0.time with ppsOut := false } } else s0
    if s.st pTIME = stOff then s1.setFld pTIME F.TIME.TIME_CFG_LOAD_MODE (F.TIME.TIME_CFG_LOAD_MODE.of v)
    else if F.TIME.TIME_CFG_LOAD_MODE.of v = s.fld pTIME F.TIME.TIME_CFG_LOAD_MODE then s1
    else s1.reason pTIME Cls.locked 0x07
  else if s.st pTIME ≠ stOff then s.reason pTIME Cls.locked 0x07
  else match r with
    | 0 => s.setFld pTIME F.TIME.LOAD_NS_LO v.toNat
    | 1 => s.setFld pTIME F.TIME.LOAD_NS_HI v.toNat
    | 2 => s.setFld pTIME F.TIME.LOAD_FRAC_FRAC v.toNat
    | _ => s

/-- LOAD_WRITE (R65). -/
def execLoadWrite (r : Nat) (v : Word) (s : State) : Out := s.onPage pTIME (State.loadWrite r v)

def State.cmpOf (s : State) (n : Nat) : CmpState := Tab.get .reset s.time.cmp n

def State.setCmp (s : State) (n : Nat) (c : CmpState) : State :=
  { s with time := { s.time with cmp := Tab.set .reset s.time.cmp n c } }

/-- TIME has entered OFF: the counter holds its value, every compare is disarmed and every trigger is idle (R68). -/
def State.timeOff (s : State) : State :=
  let s1 := (List.range 16).foldl (fun t n => (t.setFld pTIME (F.TIME.CMP_CTRL_ARM n) 0).setCmp n
    { t.cmpOf n with fresh := false, late := none }) s
  { s1.incrApply with time := { s1.incrApply.time with
      starting := false, waitPps := false, slewNext := none, slewEnded := false, trigEnd := [], trigTick := [], trigEdge := [],
      ppsOut := false, ppsOutSec := 0 } }

/-! ## Triggers -/

/-- A compare with ACTION 1 fires trigger `k` with the fire time `fire`: the leading edge is on the ball 4 ns after it, with a free
error within ±0.5 ns (R83). An active pulse restarts its width and the overlap is counted unless it was fired in this same tick
(R85). -/
def State.trigFire (s : State) (k fire : Nat) : State :=
  if s.bit pTIME (F.TIME.TRIG_CTRL_EN k) then
    let active := s.bit pTIME (F.TIME.TRIG_STATUS_ACTIVE k)
    let same := active && Tab.get 0 s.time.trigTick k == s.time.root
    let edge := (fire + 4) * 2 ^ 24 + s.freeWord.toNat % (2 ^ 24 + 1) - 2 ^ 23
    let s1 := { s.setFld pTIME (F.TIME.TRIG_STATUS_ACTIVE k) 1 with time := { s.time with
      trigEnd := Tab.set 0 s.time.trigEnd k (fire + 4 + s.fld pTIME (F.TIME.TRIG_CTRL_WIDTH k))
      trigTick := Tab.set 0 s.time.trigTick k s.time.root
      trigEdge := if active then s.time.trigEdge else Tab.set 0 s.time.trigEdge k edge } }.tookFree
    if active && !same then
      ((s1.incFld pTIME (F.TIME.TRIG_STATUS_OVERLAP_COUNT k)).err pTIME 1).raise pTIME F.TIME.intTRIG_OVERLAP
    else s1
  else s

/-- Level of ball TRIG_OUT`k`: active from the leading edge of its pulse to its end, of the polarity that TRIG_CTRL gives; with EN 0
inactive (R83, R85). -/
def State.trigOut (s : State) (k : Nat) : Bool :=
  let on := s.bit pTIME (F.TIME.TRIG_CTRL_EN k) && s.bit pTIME (F.TIME.TRIG_STATUS_ACTIVE k) &&
    decide (Tab.get 0 s.time.trigEdge k ≤ s.time.acc.toNat)
  on != s.bit pTIME (F.TIME.TRIG_CTRL_POLARITY k)

/-- TRIGGER_PULSE_END: the width has passed (R85). -/
def execTriggerPulseEnd (k : Nat) (s : State) : Out :=
  s.event (decide (k < 8) && s.bit pTIME (F.TIME.TRIG_STATUS_ACTIVE k) && decide (Tab.get 0 s.time.trigEnd k ≤ s.now)) fun s =>
    s.setFld pTIME (F.TIME.TRIG_STATUS_ACTIVE k) 0

/-! ## Compares -/

/-- T(n) of R77. -/
def alignPoint (num den n : Nat) : Nat := ceilDiv (n * den * 1000000000) num

/-- Media-clock timestamp of the picture of index n (R79). -/
def mediaClock (num den n : Nat) : Nat := alignPoint num den n * 9 / 100000 % 2 ^ 32

def State.cmpNum (s : State) (n : Nat) : Nat := s.fld pTIME (F.TIME.RATE_NUM_NUM n)
def State.cmpDen (s : State) (n : Nat) : Nat := s.fld pTIME (F.TIME.RATE_DEN_DEN n)
def State.cmpOffset (s : State) (n : Nat) : Int := sext32 (s.fld pTIME (F.TIME.OFFSET n))

/-- The instant of fire of a periodic compare at index `k`: T(k) + OFFSET (R77). -/
def State.fireAt (s : State) (n k : Nat) : Int := alignPoint (s.cmpNum n) (s.cmpDen n) k + s.cmpOffset n

/-- The target of an armed compare as a 64-bit count (R72). -/
def State.cmpTarget (s : State) (n : Nat) : Nat :=
  if s.fld pTIME (F.TIME.CMP_CTRL_MODE n) = 1 then ((s.fireAt n (s.cmpOf n).index) % 2 ^ 64).toNat
  else (s.cmpOf n).target

/-- The rates of R78. -/
def frameRate (num den : Nat) : Bool :=
  (den == 1 && [24, 25, 30, 50, 60, 100, 120].contains num) ||
  (den == 1001 && [24000, 30000, 60000, 120000].contains num)

/-- The armed compares that start group `g` (R78, R80, R81). -/
def State.groupCompares (s : State) (g : Nat) : List Nat :=
  (List.range 16).filter fun n => s.bit pTIME (F.TIME.CMP_CTRL_ARM n) && s.fld pTIME (F.TIME.CMP_CTRL_ACTION n) == 2 && s.fld pTIME (F.TIME.CMP_CTRL_GROUP n) == g

/-- The compare that starts group `g`. -/
def State.compareOf (s : State) (g : Nat) : Option Nat := (s.groupCompares g).head?

/-- The group cadence of `g` runs: TIME is RUNNING and a compare starts it (R80). -/
def State.cadence (s : State) (g : Nat) : Bool := s.running && (s.compareOf g).isSome

/-- The first failing check of an arm of compare `n` whose fields stand in its registers (R73, R78, R87, the order of R44). DESIGN
CHOICE: R87 names no class or detail for ACTION 3 on another compare; TASK_COMPARE is taken (log entry 252). -/
def State.armCheck (s : State) (n : Nat) : Option (Nat × Nat) :=
  let mode := s.fld pTIME (F.TIME.CMP_CTRL_MODE n)
  let action := s.fld pTIME (F.TIME.CMP_CTRL_ACTION n)
  let num := s.cmpNum n
  let den := s.cmpDen n
  if mode > 1 ∨ action > 3 then some (Cls.range, 0x04)
  else if num < 1 ∨ 240000 < num ∨ den < 1 ∨ 1001 < den then some (Cls.range, 0x03)
  else if action = 2 ∧ !frameRate num den then some (Cls.range, 0x13)
  else if den * 1000000000 < num * 1000 then some (Cls.range, 0x14)
  else if (s.cmpOffset n).natAbs * num ≥ den * 1000000000 then some (Cls.range, 0x15)
  else if !s.isOn pTIME then some (Cls.dependency, 0x06)
  else if action = 3 ∧ n ≠ 15 then some (Cls.locked, 0x17)
  else if action = 2 ∧ (s.groupCompares (s.fld pTIME (F.TIME.CMP_CTRL_GROUP n))).any (· != n) then some (Cls.conflict, 0x16)
  else none

/-- What every fire records: CMP_FIRED, FIRE_COUNT, FIRE_TIME, for a periodic compare FIRE_INDEX and the next index, and
for a one-shot ARM 0 (R72, R76, the compare block's fields). -/
def State.fireRecord (s : State) (n : Nat) : State :=
  let target := s.cmpTarget n
  let bit : Fld := ⟨0x150, n, 1⟩
  let s1 := if s.bit pTIME bit then s else (s.setFld pTIME bit 1).raise pTIME F.TIME.intCMP
  let s2 := (s1.incFld pTIME (F.TIME.CMP_STATUS_FIRE_COUNT n)).put64L pTIME (F.TIME.FIRE_TIME_LO n) target
  if s.fld pTIME (F.TIME.CMP_CTRL_MODE n) = 1 then
    (s2.put64L pTIME (F.TIME.FIRE_INDEX_LO n) (s.cmpOf n).index).setCmp n { s.cmpOf n with index := (s.cmpOf n).index + 1 }
  else (s2.setFld pTIME (F.TIME.CMP_CTRL_ARM n) 0).setCmp n { s.cmpOf n with late := none }

/-- What a late fire records besides: CMP_LATE, ERR_COUNT2 and LATE_NS (R75). -/
def State.lateRecord (s : State) (n : Nat) : State :=
  match (s.cmpOf n).late with
  | some late =>
    let bit : Fld := ⟨0x154, n, 1⟩
    let s1 := if s.bit pTIME bit then s else (s.setFld pTIME bit 1).raise pTIME F.TIME.intLATE
    (s1.err pTIME 2).put64L pTIME (F.TIME.LATE_NS_LO n) late
  | none => s

/-- The fire time of a one-shot compare: its target, or for a late fire the counter at the tick that found it late (R75, R83; log
entry 253). -/
def State.shotTime (s : State) (n : Nat) : Nat := (s.cmpOf n).target + ((s.cmpOf n).late.getD 0)

/-- The first periodic index: the smallest n with T(n) + OFFSET at least 10,000 ns after the counter at the tick in which the
arm takes effect (R76). -/
def State.firstIndex (s : State) (n : Nat) : Nat :=
  let x := (s.nextNow : Int) + 10000 - s.cmpOffset n
  if x ≤ 0 then 0 else ((x.toNat - 1) * s.cmpNum n) / (s.cmpDen n * 1000000000) + 1

/-- Compare `n` starts a group that is not OFF (R81). -/
def State.cmpBound (s : State) (n : Nat) : Bool :=
  s.bit pTIME (F.TIME.CMP_CTRL_ARM n) && s.fld pTIME (F.TIME.CMP_CTRL_ACTION n) == 2 && !s.countsOff (pGRP (s.fld pTIME (F.TIME.CMP_CTRL_GROUP n)))

/-- The writable bits of CMP_CTRL other than ARM. -/
def cmpCtrlFields (v : Word) : Word := v &&& 0x00007776#32

/-- A write of CMP_CTRL by its owner: ARM 0 disarms; ARM 1 checks the block and arms it, or leaves ARM 0 with the reason and
REFUSED (R73 to R76). A one-shot compare is looked at from the next tick. -/
def State.cmpArmBy (s : State) (n : Nat) (v : Word) : State :=
  let s1 := (s.setReg ((F.TIME.CMP_CTRL n).addr pTIME) (cmpCtrlFields v)).setCmp n { s.cmpOf n with fresh := false, late := none }
  if v.toNat % 2 = 0 then s1
  else match s1.armCheck n with
    | some (c, d) => s1.refuse pTIME c d
    | none =>
      let s2 := s1.setFld pTIME (F.TIME.CMP_CTRL_ARM n) 1
      if s1.fld pTIME (F.TIME.CMP_CTRL_MODE n) = 1 then s2.setCmp n { s1.cmpOf n with index := s1.firstIndex n }
      else s2.setCmp n { s1.cmpOf n with fresh := true }

/-- A host write to a compare block: compare 15 belongs to TASK (R87), and a compare that starts a group not OFF takes none
to CMP_CTRL, RATE_NUM, RATE_DEN or OFFSET (R81). -/
def State.cmpHost (s : State) (n : Nat) (boundReg : Bool) (f : State → State) : State :=
  if n ≥ 16 then s
  else if n = 15 then s.reason pTIME Cls.locked 0x17
  else if boundReg && s.cmpBound n then s.reason pTIME Cls.conflict 0x12
  else f s

/-- CMP_ARM: a write of CMP_CTRL of compare `n` (R73). -/
def State.cmpArm (n : Nat) (v : Word) (s : State) : State := s.cmpHost n true fun s => s.cmpArmBy n v

/-- A write of CMP_CTRL (0), RATE_NUM (1), RATE_DEN (2) or OFFSET (3) of compare `n`, ignored with CMP_BOUND where R81
applies. DESIGN CHOICE: on an armed periodic compare that is not bound, the next index stays and its instant follows the new values
(log entry 254). -/
def State.cmpRegWrite (n r : Nat) (v : Word) (s : State) : State :=
  s.cmpHost n true fun s =>
    match r with
    | 0 => s.cmpArmBy n v
    | 1 => s.setFld pTIME (F.TIME.RATE_NUM_NUM n) v.toNat
    | 2 => s.setFld pTIME (F.TIME.RATE_DEN_DEN n) v.toNat
    | 3 => s.setFld pTIME (F.TIME.OFFSET n) v.toNat
    | _ => s

/-- A new effective one-shot target, compared from the next tick (R74, R75). -/
def State.newTarget (s : State) (n t : Nat) : State := s.setCmp n { s.cmpOf n with target := t, fresh := true, late := none }

/-- TGT_NS_HI takes `v`: the 64-bit target becomes effective (R74). -/
def State.tgtWriteBy (s : State) (n : Nat) (v : Word) : State :=
  let s1 := s.setFld pTIME (F.TIME.TGT_NS_HI n) v.toNat
  s1.newTarget n (s1.get64 pTIME (F.TIME.TGT_NS_LO n))

/-- TGT_WRITE by the host (R74, R87). -/
def State.tgtWrite (n : Nat) (v : Word) (s : State) : State := s.cmpHost n false fun s => s.tgtWriteBy n v

def execTgtWrite (n : Nat) (v : Word) (s : State) : Out := s.onPage pTIME (State.tgtWrite n v)

/-- The target that TGT32 places: now + sext32(v − now[31:0]), now being counter ns at the tick in which the write takes effect
(R64, R88). -/
def State.tgt32 (s : State) (v : Word) : Nat :=
  ((s.nextNow + sext32 (wrapSub v.toNat s.nextNow (2 ^ 32))) % 2 ^ 64).toNat

/-- TGT32_WRITE (R88). DESIGN CHOICE: TGT_NS_LO and TGT_NS_HI keep what they hold (log entry 255). -/
def State.tgt32Write (n : Nat) (v : Word) (s : State) : State := s.cmpHost n false fun s => s.newTarget n (s.tgt32 v)

def execTgt32Write (n : Nat) (v : Word) (s : State) : Out := s.onPage pTIME (State.tgt32Write n v)

/-! ## Captures and PPS_OUT -/

/-- Does EDGE select the edge: 1 rising, 2 falling, 3 both (CAP_CTRL). -/
def edgeSelected (e : Nat) (rising : Bool) : Bool := e == 3 || (e == 1 && rising) || (e == 2 && !rising)

/-- The stamp of an edge now: counter + 4 ns with a free error within ±0.5 ns (R83). -/
def State.stamp (s : State) : Nat := s.time.acc.toNat + 4 * 2 ^ 24 + s.freeWord.toNat % (2 ^ 24 + 1) - 2 ^ 23

/-- CAPTURE_EDGE: a selected edge at the source of capture block `n` is counted, and stamped while EN is 1 and the counter
runs; while VALID is 1 it sets OVERRUN instead (R67, R84). -/
def execCaptureEdge (n : Nat) (rising : Bool) (s : State) : Out :=
  s.event (decide (n < 8) && s.works pTIME && edgeSelected (s.fld pTIME (F.TIME.CAP_CTRL_EDGE n)) rising) fun s =>
    let s1 := s.incFld pTIME (F.TIME.CAP_STATUS_EDGE_COUNT n)
    if s.bit pTIME (F.TIME.CAP_CTRL_EN n) && s.running then
      if s.bit pTIME (F.TIME.CAP_STATUS_VALID n) then
        ((s1.setFld pTIME (F.TIME.CAP_STATUS_OVERRUN n) 1).err pTIME 0).raise pTIME F.TIME.intCAP_OVERRUN
      else
        let a := s.stamp
        let s2 := ((s1.setFld pTIME (F.TIME.CAP_STATUS_VALID n) 1).setFld pTIME (F.TIME.CAP_STATUS_LAST_RISING n)
          rising.toNat).put64L pTIME (F.TIME.CAP_NS_LO n) (a / 2 ^ 24)
        let s3 := s2.setLive ((F.TIME.CAP_FRAC n).addr pTIME) (BitVec.ofNat 32 (a % 2 ^ 24))
        (s3.setFld pTIME (F.TIME.CAP_COMPAT n) (a / 2 ^ 24)).tookFree.raise pTIME F.TIME.intCAPTURED
    else s1

/-- PPS_OUT_RISE: the counter has reached a whole second plus 4 ns (R86). -/
def execPpsOutRise (s : State) : Out :=
  s.event (s.running && s.bit pTIME F.TIME.TIME_CFG_PPS_OUT_EN && !s.time.ppsOut && decide (4 ≤ s.now) &&
      decide ((s.now - 4) % 1000000000 < 2) && decide (s.time.ppsOutSec ≠ (s.now - 4) / 1000000000 + 1)) fun s =>
    { s with time := { s.time with ppsOut := true, ppsOutSec := (s.now - 4) / 1000000000 + 1 } }

/-- PPS_OUT_FALL: PPS_WIDTH × 10 µs after the rise (R86). -/
def execPpsOutFall (s : State) : Out :=
  s.event (s.time.ppsOut && decide ((s.time.ppsOutSec - 1) * 1000000000 + 4 + s.fld pTIME F.TIME.TIME_CFG_PPS_WIDTH * 10000 ≤ s.now))
    fun s => { s with time := { s.time with ppsOut := false } }

end Sys2Proof.Machine
end

