-- ==== Sys2Proof/Machine/Geom.lean ====
section
/-! DEFINITION. Geometry, timetable and admission terms: what R22 to R25, R104, R120, R134, R141, R142, R155 to R157, R193,
R215, R219, R239 and R247 compute from a configuration. A configuration is read through `State.cv`: the captured shadow copies of
the pages that a check includes and of pages in CHECKING, the active copies of the others (R44, R45). -/

namespace Sys2Proof.Machine

/-- Copy the shadow copy of page `p` for a check (R41, R51). -/
def State.capture (s : State) (p : Nat) : State := s.setPage p { s.page p with captured := s.shadowCells p }

/-- A field of page `p` as a check sees it that includes the pages of `incl`. -/
def State.cv (s : State) (incl : List Nat) (p : Nat) (f : Fld) : Nat :=
  if incl.contains p ∨ s.st p = stChecking then f.of (Tab.get (resetVal (f.addr p)) (s.page p).captured (f.addr p))
  else s.act p f

/-- A 36-bit address of a configuration; `f` names the _LO register, whose _HI follows. -/
def State.cvAddr (s : State) (incl : List Nat) (p : Nat) (f : Fld) : Nat :=
  (s.cv incl p f + s.cv incl p ⟨f.off + 4, 0, 32⟩ * 2 ^ 32) % 2 ^ 36

/-- In use: CHECKING, ON or DRAINING (R45: a checked page counts as not OFF). -/
def State.inUse (s : State) (p : Nat) : Bool := !s.countsOff p

/-- Round up to a multiple of 64. -/
def ceil64 (n : Nat) : Nat := ceilDiv n 64 * 64

/-- Rate and OFFSET of the frame-cycle compare of group `g` (R77, R80). -/
def State.groupRate (s : State) (g : Nat) : Option (Nat × Nat × Int) :=
  (s.compareOf g).map fun n => (s.cmpNum n, s.cmpDen n, s.cmpOffset n)

/-- NUM and DEN of a group, 1 and 1 where its compare is not armed. -/
def State.rateOf (s : State) (g : Nat) : Nat × Nat :=
  match s.groupRate g with
  | some r => (r.1, r.2.1)
  | none => (1, 1)

/-- Active width and height of a geometry code (SDI_CFG.GEOM). -/
def geomW (code : Nat) : Nat := match code with | 1 => 1920 | 2 => 3840 | 3 => 7680 | _ => 0
def geomH (code : Nat) : Nat := match code with | 1 => 1080 | 2 => 2160 | 3 => 4320 | _ => 0

def State.srcOf (s : State) (n : Nat) : SrcState := Tab.get .reset s.src n
def State.setSrc (s : State) (n : Nat) (x : SrcState) : State := { s with src := Tab.set .reset s.src n x }
def State.scalOf (s : State) (n : Nat) : ScalState := Tab.get .reset s.scal n
def State.setScal (s : State) (n : Nat) (x : ScalState) : State := { s with scal := Tab.set .reset s.scal n x }
def State.inputOf (s : State) (p : Nat) : InputState := Tab.get .reset s.input p
def State.setInput (s : State) (p : Nat) (x : InputState) : State := { s with input := Tab.set .reset s.input p x }
def State.decOf (s : State) (d : Nat) : DecState := Tab.get .reset s.dec d
def State.setDec (s : State) (d : Nat) (x : DecState) : State := { s with dec := Tab.set .reset s.dec d x }

/-! ## Timetable (R141, R142) -/

/-- Row period, ps. -/
def tRow (num den h : Nat) : Nat := 1000000000000 * 1536 * den / (25 * num * h)

/-- Coding time of a row, ps. -/
def tCode (nRow : Nat) : Nat := ceilDiv (nRow * 10240000) 3

/-- Active time, ps. -/
def tAct (h tr : Nat) : Nat := h * tr / 64

/-- D_min. -/
def dMin (nRow tr : Nat) : Nat := max 4 (2 + ceilDiv (tCode nRow) tr)

/-- Geometry and timetable of a channel. -/
structure ChanGeo where
  w : Nat
  h : Nat
  c420 : Bool
  nRow : Nat
  rRows : Nat
  num : Nat
  den : Nat
  tr : Nat
  delay : Nat
  nref : Nat
  buffered : Bool
  depth : Nat
  group : Nat
  scaler : Nat
  source : Nat
deriving DecidableEq, Repr

/-- Geometry of channel `c` in a configuration. -/
def State.chanGeo (s : State) (incl : List Nat) (c : Nat) : ChanGeo :=
  let p := pCHAN c
  let sc := s.cv incl p F.CHAN.CHAN_CFG_SCALER
  let q := pSCAL sc
  let w := s.cv incl q F.SCAL.OUT_SIZE_W
  let h := s.cv incl q F.SCAL.OUT_SIZE_H
  let g := s.cv incl p F.CHAN.CHAN_CFG_GROUP
  let r := s.rateOf g
  { w := w, h := h, c420 := s.cv incl q F.SCAL.SCAL_CFG_CONV == 1, nRow := ceilDiv w 64, rRows := ceilDiv h 64,
    num := r.1, den := r.2, tr := tRow r.1 r.2 h, delay := s.cv incl p F.CHAN.DELAY_D,
    nref := s.cv incl p F.CHAN.CHAN_CFG_NREF, buffered := s.cv incl p F.CHAN.CHAN_CFG_MODE == 1,
    depth := s.cv incl p F.CHAN.LOOK_CFG_DEPTH, group := g, scaler := sc, source := s.cv incl q F.SCAL.SCAL_CFG_SOURCE }

/-- Geometry of a running channel. -/
def State.geo (s : State) (c : Nat) : ChanGeo := s.chanGeo [] c

/-- R(k) − F, ps. -/
def ChanGeo.readAt (g : ChanGeo) (k : Nat) : Nat := min ((k + 1) * g.tr) (tAct g.h g.tr)

/-- X(k) − F, ps: the release instant of row `k`. -/
def ChanGeo.releaseAt (g : ChanGeo) (k : Nat) : Nat := if k + 1 < g.rRows then g.readAt (k + 1) else g.readAt k

/-- O(k) − F, ps. -/
def ChanGeo.outputAt (g : ChanGeo) (k : Nat) : Nat := (k + g.delay) * g.tr

/-- CTUs of a picture. -/
def ChanGeo.nCtu (g : ChanGeo) : Nat := g.nRow * g.rRows

/-- L: luma samples of the coded picture. -/
def ChanGeo.luma (g : ChanGeo) : Nat := g.nCtu * 4096

/-- B: raw bytes of the coded picture. -/
def ChanGeo.raw (g : ChanGeo) : Nat := if g.c420 then g.luma * 15 / 8 else g.luma * 5 / 2

/-! ## Admission terms (R22, R24, R25, R120, R155 to R157) -/

/-- Chamber load, px/s (R22). -/
def ChanGeo.load (g : ChanGeo) : Nat := ceilDiv (g.luma * g.num) g.den

/-- A memory term in whole MB/s: bytes per picture as tenths (R24). -/
def mbps (tenths num den : Nat) : Nat := ceilDiv (tenths * num) (10 * den * 1000000)

/-- The memory terms of a channel (R24). -/
def ChanGeo.mem (g : ChanGeo) : Nat :=
  mbps (12 * g.raw) g.num g.den + mbps (12 * g.raw * g.nref) g.num g.den + mbps (10 * g.luma) g.num g.den +
    mbps (10 * g.luma * g.nref) g.num g.den + (if g.buffered then mbps (20 * g.raw) g.num g.den else 0)

/-- Reference-window demand, bytes (R155). -/
def ChanGeo.window (g : ChanGeo) : Nat :=
  let res := 4 * g.tr + 54613333 + (g.delay - 2) * g.tr - tCode g.nRow
  ceilDiv (g.nref * (g.raw + g.luma) * res * g.num) (g.den * 1000000000000)

/-- Lookahead demand, bytes (R156). -/
def ChanGeo.look (g : ChanGeo) : Nat :=
  if g.buffered then (g.depth + 2) * 68 * g.nCtu + 8192 else 136 * g.nCtu + 8192

/-- Work items (R157). -/
def ChanGeo.items (g : ChanGeo) : Nat := g.nRow * (g.delay + 2) + (if g.buffered then g.depth * g.nCtu else 0)

/-- S_ctu (R215). -/
def ChanGeo.sCtu (g : ChanGeo) : Nat := if g.c420 then 9216 else 12288

/-- Granules of a picture buffer (R219). -/
def ChanGeo.gb (g : ChanGeo) : Nat := ceilDiv (g.nCtu * (g.sCtu + 4096)) 2097152

/-- Pictures whose coding can overlap (R219). -/
def ChanGeo.overlap (g : ChanGeo) : Nat := ceilDiv ((g.rRows - 1 + g.delay) * g.tr * g.num) (g.den * 1000000000000)

/-- Picture buffers of the channel (R219). -/
def ChanGeo.nb (g : ChanGeo) : Nat := g.nref + g.overlap

/-- Bytes per pixel of a layer format (R117). -/
def layerBpp (fmt : Nat) : Nat := match fmt with | 1 => 8 | 2 => 4 | _ => 1

/-- Fetch term of a layer, MB/s (R120). -/
def layerTerm (w h fmt num den : Nat) : Nat := ceilDiv (ceil64 (w * layerBpp fmt) * h * num) (den * 1000000)

/-- Low and high halves of a POS or SIZE register. -/
def loHalf (v : Nat) : Nat := v % 0x2000
def hiHalf (v : Nat) : Nat := v / 0x10000 % 0x2000

/-- Memory term of a source at the rate of group `g` (R25, R120). -/
def State.srcMem (s : State) (incl : List Nat) (n g : Nat) : Nat :=
  let p := pSRC n
  let r := s.rateOf g
  let layers := ((List.range 8).drop 1).foldl (fun t i =>
    if s.cv incl p (F.SRC.LAYER_CTRL_EN i) = 1 then
      t + layerTerm (loHalf (s.cv incl p (F.SRC.LAYER_SIZE i))) (hiHalf (s.cv incl p (F.SRC.LAYER_SIZE i)))
        (s.cv incl p (F.SRC.LAYER_CTRL_FMT i)) r.1 r.2
    else t) 0
  if s.fld p F.SRC.PROT_CFG_MODE = 0 then layers
  else layers + layerTerm (loHalf (s.fld p F.SRC.PROT_SIZE)) (hiHalf (s.fld p F.SRC.PROT_SIZE))
    (s.fld p ⟨0x600, 4, 2⟩) r.1 r.2

/-! ## Scalers (R134) -/

/-- Vertical taps used. -/
def tapsUsed (taps nIn nOut : Nat) : Nat := if nIn = nOut then 1 else 2 * taps

/-- Line count of a scaler's requirement: t_v + ceil(H_in / H_out) + 1 + k (R134). -/
def scalLines (hIn hOut tv : Nat) (conv : Bool) : Nat := tapsUsed tv hIn hOut + ceilDiv hIn hOut + 1 + (if conv then 4 else 0)

/-! ## Input pages (R104) -/

/-- Bytes of a stored line of a geometry. -/
def lineBytes (geom : Nat) : Nat := match geom with | 1 => 4800 | 2 => 9600 | 3 => 19200 | _ => 0

/-- Lines of an IPIN page (R104). -/
def ipinLines (jitter num den h : Nat) : Nat :=
  let tl := 1000000000000 * 24 * den / (25 * num * h)
  128 + 2 * ceilDiv (jitter * 1000) tl

/-- Line-store lines that an input page needs in a configuration: R104, R242, R253. -/
def State.lsLines (s : State) (incl : List Nat) (p : Nat) : Nat :=
  match unitOf p with
  | some .sdirx => 128
  | some .ipin =>
    if s.cv incl p F.IPIN.IP_CFG_MODE = 1 then 0
    else
      let r := s.rateOf (s.cv incl p F.IPIN.IP_CFG_INDEX_GROUP)
      ipinLines (s.cv incl p F.IPIN.JITTER_NS_JITTER) r.1 r.2 (geomH (s.cv incl p F.IPIN.IP_CFG_GEOM))
  | some .dec => if s.cv incl p F.DEC.OUT_CFG_TO_SOURCE = 1 then 128 else 0
  | _ => 0

/-- Geometry code and index group of an input page in a configuration (R116). -/
def State.inputGeom (s : State) (incl : List Nat) (p : Nat) : Nat × Nat :=
  match unitOf p with
  | some .sdirx => (s.cv incl p F.SDIRX.SDI_CFG_GEOM, s.cv incl p F.SDIRX.SDI_CFG_INDEX_GROUP)
  | some .ipin => (s.cv incl p F.IPIN.IP_CFG_GEOM, s.cv incl p F.IPIN.IP_CFG_INDEX_GROUP)
  | some .dec => (s.cv incl p F.DEC.DEC_CFG_GEOM, s.cv incl p F.DEC.DEC_CFG_INDEX_GROUP)
  | _ => (0, 0)

/-- Line-store bytes of an input page (R105). -/
def State.lsBytes (s : State) (incl : List Nat) (p : Nat) : Nat := s.lsLines incl p * lineBytes (s.inputGeom incl p).1

/-- Every page that holds lines of the line stores. -/
def lineStorePages : List Nat := UnitType.sdirx.pages ++ UnitType.ipin.pages ++ UnitType.dec.pages

/-- The member has the input that an SRC page names: SDIRX 0 to 15, IPIN 0 to 31, DEC 0 and 1 (R116). -/
def inputExists (kind inst : Nat) : Bool :=
  match kind with
  | 0 => inst < 16
  | 1 => inst < 32
  | _ => inst < 2

/-- Input page that an SRC page names by kind and instance (SRC_CFG). -/
def inputPage (kind inst : Nat) : Nat :=
  match kind with
  | 0 => pSDIRX inst
  | 1 => pIPIN inst
  | _ => pDEC inst

/-! ## Decoders (R239, R247) -/

/-- Coded area of a geometry: width and height rounded up to multiples of 64. -/
def codedArea (geom : Nat) : Nat := ceil64 (geomW geom) * ceil64 (geomH geom)

/-- Load of a DEC page, px/s (R239). -/
def decLoad (geom num den : Nat) : Nat := ceilDiv (codedArea geom * num) den

/-- Granules of the DEC region (R247). -/
def decRegion (geom cpb delay : Nat) : Nat :=
  ceilDiv (cpb * 1048576 + (17 + delay) * ceil64 (ceilDiv (codedArea geom * 5) 2)) 2097152

/-! ## Rate control (R193) -/

/-- Bits of a queue that drains at `rate` for `periods` row periods. -/
def rateBits (rate tr periods : Nat) : Nat := rate * periods * tr / 1000000000000

/-- Fire time F of the frame cycle of index `n` of a running channel's group, counter ns. -/
def State.fireNs (s : State) (g n : Nat) : Nat :=
  match s.compareOf g with
  | some c => (s.fireAt c n).toNat
  | none => 0

/-- Fire time in counter ps. -/
def State.firePs (s : State) (g n : Nat) : Nat := s.fireNs g n * 1000

/-- The counter in ps. -/
def State.nowPs (s : State) : Nat := s.time.acc.toNat * 1000 / 2 ^ 24

end Sys2Proof.Machine
end

