-- ==== Sys2Proof/Machine/LaneCore.lean ====
section
/-! DEFINITION. The states of a serial lane as its owner drives them (R361). -/

namespace Sys2Proof.Machine

/-- LANE_STATUS.STATE. -/
def laDown : Nat := 0
def laAcquire : Nat := 1
def laTrain : Nat := 2
def laTrack : Nat := 3
def laFrozen : Nat := 4
def laFailed : Nat := 5

/-- Page of Rope lane `i`: LANE34 + i (R292). -/
def ropeLane (i : Nat) : Nat := pLANE (34 + i)

def State.laneState (s : State) (p : Nat) : Nat := s.fld p F.LANE.LANE_STATUS_STATE

/-- LANE_STATUS.STATE takes a value; the FROZEN level follows (INT_RAW 8). -/
def State.laneTo (s : State) (p st : Nat) : State :=
  (s.setFld p F.LANE.LANE_STATUS_STATE st).rawTo p F.LANE.rawFROZEN (st == laFrozen)

/-- CTLE and DFE at their At reset values (R361, R363); a running eye-scan point is disturbed (R364). -/
def State.eqReset (s : State) (p : Nat) : State :=
  let s1 := s.setFld p F.LANE.CTLE_PEAK 16
  let s2 := [0, 1, 2].foldl (fun t i => t.setFld p (F.LANE.DFE i) 0) s1
  if s.bit p F.LANE.ES_STATUS_BUSY then s2.setFld p F.LANE.ES_STATUS_DISTURBED 1 else s2

/-- The lane acquires anew: ACQUIRE, CTLE and DFE at their At reset values (R361). -/
def State.laneAcquire (s : State) (p : Nat) : State :=
  ((s.laneTo p laAcquire).eqReset p).setFld p F.LANE.LANE_STATUS_GOOD_WINDOWS 0

/-- The owner starts a DOWN lane (R361). A lane that is not ON or FAILED stays as it is. -/
def State.laneStart (s : State) (p : Nat) : State :=
  if s.isOn p ∧ s.laneState p = laDown then s.laneAcquire p else s

/-- The training exchange begins in an ACQUIRE lane (R361). -/
def State.laneTrain (s : State) (p : Nat) : State :=
  if s.laneState p = laAcquire then s.laneTo p laTrain else s

/-- A retrain stops a running eye-scan point with DONE and DISTURBED (R364); how many mismatches it then shows is open: a
free value. -/
def State.esRetrained (s : State) (p : Nat) : State :=
  if s.bit p F.LANE.ES_STATUS_BUSY then
    ((((s.setFld p F.LANE.ES_STATUS_BUSY 0).setFld p F.LANE.ES_STATUS_DONE 1).setFld p F.LANE.ES_STATUS_DISTURBED 1).put64L p
      F.LANE.ES_ERR_LO s.freeWord.toNat).tookFree
  else s

/-- A retrain of a TRACK or FROZEN lane: ACQUIRE, then its training exchange (R361, R364, R369). -/
def State.laneRetrain (s : State) (p : Nat) : State :=
  if s.laneState p = laTrack ∨ s.laneState p = laFrozen then (s.esRetrained p).laneAcquire p else s

/-- The owner stops the lane (R361). -/
def State.laneStop (s : State) (p : Nat) : State :=
  if s.laneState p = laFailed then s else (s.laneTo p laDown).setFld p F.LANE.LANE_STATUS_CDR_LOCK 0 |>.rawTo p F.LANE.rawCDR_LOCK false

/-- Training found no working setting: DOWN, or FAILED if the owner declares it; RETRAIN_FAILED, ERR_COUNT3, the reason
(R361, R370). -/
def State.laneTrainFailed (s : State) (p : Nat) (failed : Bool) : State :=
  (((s.laneTo p (if failed then laFailed else laDown)).raise p F.LANE.intRETRAIN_FAILED).err p 3).reason p Cls.resource 0x16

/-- The present CTLE and DFE become the baseline (R360). -/
def State.laneBaseline (s : State) (p : Nat) : State :=
  let s1 := s.setReg (F.LANE.BASE_CTLE.addr p) (s.reg (F.LANE.CTLE.addr p))
  [0, 1, 2].foldl (fun t i => t.setReg ((F.LANE.BASE_DFE i).addr p) (s.reg ((F.LANE.DFE i).addr p))) s1

/-- Training or blind acquisition completes: TRACK with a baseline, TRAINED (R360, R361). -/
def State.laneTrained (s : State) (p : Nat) : State :=
  if s.laneState p = laTrain ∨ s.laneState p = laAcquire then
    ((s.laneTo p laTrack).laneBaseline p).raise p F.LANE.intTRAINED
  else s

/-! ## The transmit FFE (R355) -/

/-- A setting of the transmit FFE is legal: MAIN at least 32, PRE + MAIN + POST at most 64 (R355). -/
def ffeLegal (pre main post : Int) : Bool :=
  decide (0 ≤ pre) && decide (32 ≤ main) && decide (0 ≤ post) && decide (pre + main + post ≤ 64)

/-- The FFE takes a setting. -/
def State.ffeSet (s : State) (p : Nat) (pre main post : Int) : State :=
  ((s.setFld p F.LANE.FFE_PRE pre.toNat).setFld p F.LANE.FFE_MAIN main.toNat).setFld p F.LANE.FFE_POST post.toNat

/-- The FFE moves by steps, one that would make the setting illegal being left out (R355). -/
def State.ffeMove (s : State) (p : Nat) (pre main post : Int) : State :=
  let a : Int := s.fld p F.LANE.FFE_PRE
  let b : Int := s.fld p F.LANE.FFE_MAIN
  let c : Int := s.fld p F.LANE.FFE_POST
  let a' := if ffeLegal (a + pre) b c then a + pre else a
  let b' := if ffeLegal a' (b + main) c then b + main else b
  let c' := if ffeLegal a' b' (c + post) then c + post else c
  s.ffeSet p a' b' c'

/-- Training has set the FFE at the peer's requests (R355): steps for an Ethernet lane; for a PCIe lane whole settings, of which those
with MAIN − PRE − POST below 16 are rejected. -/
def State.ffeTrained (s : State) (p : Nat) (pcie : Bool) : State :=
  ((Config.ffeRequests s.freeCtr).foldl (fun t (q : Int × Int × Int) =>
    if !pcie then t.ffeMove p q.1 q.2.1 q.2.2
    else if ffeLegal q.1 q.2.1 q.2.2 && decide (q.2.1 - q.1 - q.2.2 ≥ 16) then t.ffeSet p q.1 q.2.1 q.2.2
    else t) s).tookFree

/-- Lane of output SDITX `n` (R354): TRACK while it transmits, DOWN while its page is OFF (R361). -/
def sdoLane (n : Nat) : Nat := pLANE (24 + n)

def State.sdoLaneShow (s : State) (n : Nat) : State :=
  s.laneTo (sdoLane n) (if s.works (pSDITX n) && s.works (sdoLane n) then laTrack else laDown)

end Sys2Proof.Machine
end

