-- ==== Sys2Proof/Machine/Rope.lean ====
section
/-! DEFINITION. The Rope link in motion (spec/12): heartbeats, masks, bring-up, retraining, delivery and the mailbox. -/

namespace Sys2Proof.Machine

/-- Number of lanes in a 4-bit mask. -/
def lanes4 (m : Nat) : Nat := m % 2 + m / 2 % 2 + m / 4 % 2 + m / 8 % 2

/-- Lane `i` is in a mask. -/
def hasLane (m i : Nat) : Bool := m / 2 ^ i % 2 == 1

/-- A mask without lane `i`. -/
def dropLane (m i : Nat) : Nat := if hasLane m i then m - 2 ^ i else m

/-- A mask with lane `i`. -/
def addLane (m i : Nat) : Nat := if hasLane m i then m else m + 2 ^ i

/-- Bits of LANE_STATUS of lane `i`. -/
def rlSIGNAL (i : Nat) : Fld := ⟨0x108, 8 * i, 1⟩
def rlTRAINED (i : Nat) : Fld := ⟨0x108, 8 * i + 1, 1⟩
def rlLOCK (i : Nat) : Fld := ⟨0x108, 8 * i + 2, 1⟩
def rlIN_MASK (i : Nat) : Fld := ⟨0x108, 8 * i + 3, 1⟩
def rlFAILED (i : Nat) : Fld := ⟨0x108, 8 * i + 4, 1⟩
def rlTRIES (i : Nat) : Fld := ⟨0x108, 8 * i + 5, 3⟩

def State.rp (s : State) (f : Fld) : Nat := s.fld pROPE f

/-- Lanes of LANES that are not FAILED. -/
def State.ropeUsable (s : State) : Nat :=
  (List.range 4).foldl (fun m i => if hasLane (s.rp F.ROPE.ROPE_CFG_LANES) i && s.rp (rlFAILED i) == 0 then m + 2 ^ i else m) 0

/-- TX_MASK by R307. -/
def State.txMaskDue (s : State) : Nat :=
  (List.range 4).foldl (fun m i =>
    if hasLane s.ropeUsable i && !hasLane (s.rp F.ROPE.ROPE_STATUS_TRAINING) i &&
       hasLane (s.rp F.ROPE.ROPE_STATUS_RX_MASK) i && hasLane (s.rp F.ROPE.ROPE_STATUS_PEER_RX_MASK) i
    then m + 2 ^ i else m) 0

/-- TX_MASK takes its value: WIDTH and IN_MASK follow; a change counts in ERR_COUNT4 and an AM column is due (R307). -/
def State.masks (s : State) : State :=
  let m := s.txMaskDue
  if m = s.rp F.ROPE.ROPE_STATUS_TX_MASK then s
  else
    let s1 := ((s.setFld pROPE F.ROPE.ROPE_STATUS_TX_MASK m).setFld pROPE F.ROPE.ROPE_STATUS_WIDTH (lanes4 m)).err pROPE 4
    let s2 := (List.range 4).foldl (fun t i => t.setFld pROPE (rlIN_MASK i) (hasLane m i).toNat) s1
    { s2 with rope := { s2.rope with amDue := true } }

/-- RX_MASK changes: an AM column is due and TX_MASK follows (R307). -/
def State.rxMask (s : State) (m : Nat) : State :=
  if m = s.rp F.ROPE.ROPE_STATUS_RX_MASK then s
  else
    let s1 := s.setFld pROPE F.ROPE.ROPE_STATUS_RX_MASK m
    { s1 with rope := { s1.rope with amDue := true } }.masks

/-- LINK takes a state. -/
def State.linkTo (s : State) (l : Nat) : State :=
  let s1 := (s.setFld pROPE F.ROPE.ROPE_STATUS_LINK l).rawTo pROPE F.ROPE.rawACTIVE (l == 5)
  { s1 with rope := { s1.rope with linkAt := s.fabric } }

/-- LINK leaves its state for DOWN: every held and queued frame is discarded, the masks and the training of the lanes
end, and PAIR learns that a link ceased to be active (R281, R306, R313). -/
def State.linkDown (s : State) : State :=
  let was := s.linkActive
  let s1 := s.linkTo 0
  let s2 := { s1 with rope := { RopeState.reset with
    pTx := s.rope.pTx, pRx := s.rope.pRx, linkAt := s.fabric, versionHeld := s.rope.versionHeld, tries := s.rope.tries } }
  let s3 := (List.range 4).foldl (fun t i =>
    ((((t.setFld pROPE (rlTRAINED i) 0).setFld pROPE (rlLOCK i) 0).setFld pROPE (rlIN_MASK i) 0).laneStop (ropeLane i))) s2
  let s4 := ((((s3.setFld pROPE F.ROPE.ROPE_STATUS_TX_MASK 0).setFld pROPE F.ROPE.ROPE_STATUS_RX_MASK 0).setFld pROPE
    F.ROPE.ROPE_STATUS_PEER_RX_MASK 0).setFld pROPE F.ROPE.ROPE_STATUS_TRAINING 0).setFld pROPE F.ROPE.ROPE_STATUS_WIDTH 0
  let s5 := s4.setFld pROPE F.ROPE.MBOX_STATUS_TX_BUSY 0
  if was then s5.ropeDown else s5

/-- LINK goes to DETECT: the owner starts its lanes (R313, R361). -/
def State.linkDetect (s : State) : State :=
  ((List.range 4).filter fun i => hasLane s.ropeUsable i).foldl (fun t i => t.laneStart (ropeLane i)) (s.linkTo 1)

/-- ROPE enters ON (R313). -/
def State.ropeEnters (s : State) : State := { s with rope := { s.rope with tries := [] } }.linkDetect

/-- A lane begins to train: it leaves TX_MASK (R308). -/
def State.ropeTrainLane (s : State) (i : Nat) : State :=
  let s1 := (s.setFld pROPE F.ROPE.ROPE_STATUS_TRAINING (2 ^ i)).setFld pROPE (rlTRAINED i) 0
  let s2 := (s1.rxMask (dropLane (s1.rp F.ROPE.ROPE_STATUS_RX_MASK) i)).masks
  let s3 := ((s2.laneRetrain (ropeLane i)).laneStart (ropeLane i)).laneTrain (ropeLane i)
  { s3 with rope := { s3.rope with trainAt := s.fabric, shaken := dropLane s3.rope.shaken i, waiting := s3.rope.waiting.erase i } }

/-- A lost lane trains if the link is active, AUTO_RETRAIN is 1 and no lane trains; else it waits (R308). -/
def State.ropeAuto (s : State) (i : Nat) : State :=
  if s.linkActive ∧ s.bit pROPE F.ROPE.ROPE_CFG_AUTO_RETRAIN ∧ hasLane s.ropeUsable i then
    if s.rp F.ROPE.ROPE_STATUS_TRAINING = 0 then s.ropeTrainLane i
    else { s with rope := { s.rope with waiting := s.rope.waiting ++ [i] } }
  else s

/-- A lane is lost: it leaves RX_MASK and TX_MASK, LANE_LOST, ERR_COUNT3 (R305). -/
def State.ropeLose (s : State) (i : Nat) : State :=
  if hasLane (s.rp F.ROPE.ROPE_STATUS_RX_MASK) i then
    (((s.rxMask (dropLane (s.rp F.ROPE.ROPE_STATUS_RX_MASK) i)).raise pROPE F.ROPE.intLANE_LOST).err pROPE 3).ropeAuto i
  else s

/-- LINK is ALIGN, EXCHANGE or ACTIVE. -/
def State.linkUp (s : State) : Bool := s.link == 3 || s.link == 4 || s.link == 5

/-- EXCHANGE ends when the peer's CAPS is accepted and own CAPS is acknowledged (R313). -/
def State.exchanged (s : State) : State :=
  if s.link = 4 ∧ s.rope.capsGot ∧ s.rope.capsAcked then
    ((s.linkTo 5).raise pROPE F.ROPE.intACTIVE).ropeUp
  else s

/-! ## Heartbeats, AM columns, cut -/

/-- Nothing has been heard for 12,000 FABRIC cycles, or too few lanes are left (R306). -/
def State.ropeSilent (s : State) : Bool :=
  s.linkUp && (decide (s.fabric ≥ s.rope.beatAt + 12000) ||
    decide (lanes4 (s.rp F.ROPE.ROPE_STATUS_TX_MASK) < s.rp F.ROPE.ROPE_CFG_MIN_LANES))

def execRopeLinkCut (s : State) : Out :=
  s.event s.ropeSilent fun s => (((s.linkDown.raise pROPE F.ROPE.intCUT).logEv pROPE F.ROPE.intCUT 4 0 []).linkDetect)

/-- A multiple of 1,000 ns of the TIMECK count has passed since the last heartbeat column (R304). -/
def execHeartbeatSend (s : State) : Out :=
  s.event (s.linkUp && decide (s.time.root / 12000 > s.rope.hbAt)) fun s =>
    { s with rope := { s.rope with hbCount := (s.rope.hbCount + 1) % 256, hbAt := s.time.root / 12000 } }

/-- P_ACK from the peer ends the repeats of YIELD (R302). -/
def State.ropePAck (s : State) (p : Nat) : State :=
  match s.rope.yield' with
  | some (q, _, _) => if p = q then { s with rope := { s.rope with yield' := none } } else s
  | none => s

def execHeartbeat (lane rx next pAck : Nat) (s : State) : Out :=
  s.event (s.linkUp && decide (lane < 4)) fun s =>
    let s1 := { s with rope := { s.rope with beatAt := s.fabric, laneBeat := Tab.set 0 s.rope.laneBeat lane s.fabric } }
    let s2 := (s1.setFld pROPE F.ROPE.ROPE_STATUS_PEER_RX_MASK rx).masks
    ((s2.ropeRelease next).exchanged).ropePAck pAck

/-- IDLE columns inserted and deleted by the elastic buffer (R310), and invalid sync headers and control blocks (R295). -/
def State.ropeCounts (s : State) (ins del invalid : Nat) : State :=
  ((s.addFld pROPE F.ROPE.FILL_COUNT_INSERTED ins).addFld pROPE F.ROPE.FILL_COUNT_DELETED del).errBy pROPE 7 invalid

/-- An AM column's block on a lane: the peer's masks; a skew above 32 blocks loses the lane (R307, R311). What the receiver
inserted, deleted and found invalid since the last AM block is counted with it (R295, R310; log entry 105). -/
def execAm (lane tx rx skew ins del invalid : Nat) (s : State) : Out :=
  s.event (s.linkUp && decide (lane < 4)) fun s0 =>
    let s := s0.ropeCounts ins del invalid
    let s1 := { s with rope := { s.rope with peerTx := tx % 16 } }
    let s2 := ((s1.setFld pROPE F.ROPE.ROPE_STATUS_PEER_RX_MASK rx).setFld pROPE ⟨0x10C, 8 * lane, 6⟩ (min skew 63)).masks
    if skew > 32 then s2.ropeLose lane else s2

/-- An AM column is due: a mask has changed, or 4,096 columns of 2.56 ns have been sent (R293, R307). -/
def execAmSend (s : State) : Out :=
  s.event (s.linkUp && (s.rope.amDue || decide ((s.time.root - s.rope.amAt) * 100 ≥ 4096 * 3072))) fun s =>
    { s with rope := { s.rope with amDue := false, amAt := s.time.root, amCount := (s.rope.amCount + 1) % 2 ^ 24 } }

/-! ## Delivery -/

def execAck (next : Nat) (nak : Bool) (pAck : Nat) (s : State) : Out :=
  s.event (s.link == 4 || s.link == 5) fun s =>
    let s1 := ((s.ropeRelease next).exchanged).ropePAck pAck
    if nak then s1.ropeReplay else s1

/-- A frame ends badly: cause 0 CRC, 1 LENGTH, 2 a START before its TERM, 3 ABORT, which counts nowhere (R297, R299). -/
def execRopeFrameBad (sequenced : Bool) (cause : Nat) (s : State) : Out :=
  s.event (s.link == 4 || s.link == 5) fun s =>
    let s1 := if cause < 3 then s.err pROPE 0 else s
    if sequenced then s1.ropeNak else s1

def execRopeReplayTimeout (s : State) : Out :=
  s.event ((s.link == 4 || s.link == 5) && (match s.rope.held with
    | f :: _ => decide (s.fabric ≥ f.sentAt + 6000)
    | [] => false)) fun s => s.ropeReplay

def execYieldRepeat (s : State) : Out :=
  s.event (match s.rope.yield' with
    | some (_, _, t) => s.linkActive && decide (s.fabric ≥ t + 1500)
    | none => false) fun s =>
      match s.rope.yield' with
      | some (q, b, _) => { s with rope := { s.rope with yield' := some (q, b, s.fabric) } }
      | none => s

/-! ## Lanes -/

/-- A lane loses block lock, or is silent for 8.0 µs while another lane of RX_MASK is heard (R295, R305). The invalid headers
and blocks of the lane not yet counted are counted (log entry 105). -/
def execRopeLaneLost (i : Nat) (lockLost : Bool) (invalid : Nat) (s : State) : Out :=
  s.event (s.linkUp && decide (i < 4) && hasLane (s.rp F.ROPE.ROPE_STATUS_RX_MASK) i &&
      (lockLost || (decide (s.fabric ≥ Tab.get 0 s.rope.laneBeat i + 12000) &&
        (List.range 4).any fun j => j != i && hasLane (s.rp F.ROPE.ROPE_STATUS_RX_MASK) j &&
          decide (s.fabric < Tab.get 0 s.rope.laneBeat j + 12000)))) fun s =>
    (if lockLost then (s.errBy pROPE 7 invalid).setFld pROPE (rlLOCK i) 0 else s.errBy pROPE 7 invalid).ropeLose i

/-- A lane gains block lock; with its training handshake done its training is complete (R295, R312). -/
def execBlockLock (i : Nat) (s : State) : Out :=
  s.event (decide (i < 4) && hasLane s.ropeUsable i && decide (s.link ≥ 2)) fun s =>
    let s1 := s.setFld pROPE (rlLOCK i) 1
    if hasLane s.rope.shaken i then (s1.setFld pROPE (rlTRAINED i) 1).laneTrained (ropeLane i) else s1

/-- The lanes of `mask` detect a signal; with MIN_LANES of them DETECT ends and every lane trains (R313). -/
def execSignalDetect (mask : Nat) (s : State) : Out :=
  s.event (s.link == 1) fun s =>
    let s1 := (List.range 4).foldl (fun t i => (t.setFld pROPE (rlSIGNAL i) (hasLane mask i).toNat).setFld (ropeLane i)
      F.LANE.LANE_STATUS_SIGNAL (hasLane mask i).toNat) s
    if (List.range 4).countP (fun i => hasLane mask i && hasLane (s.rp F.ROPE.ROPE_CFG_LANES) i) ≥
        s.rp F.ROPE.ROPE_CFG_MIN_LANES then
      ((List.range 4).filter fun i => hasLane s.ropeUsable i).foldl
        (fun t i => (t.laneStart (ropeLane i)).laneTrain (ropeLane i)) (s1.linkTo 2)
    else s1

/-- A lane's training handshake completes: it sends scrambled IDLE blocks, and with block lock it is trained (R312). -/
def execRopeTrainDone (i : Nat) (s : State) : Out :=
  s.event (decide (i < 4) && hasLane s.ropeUsable i && (s.link == 2 || hasLane (s.rp F.ROPE.ROPE_STATUS_TRAINING) i)) fun s =>
    let s1 := { s with rope := { s.rope with shaken := addLane s.rope.shaken i } }
    if s.rp (rlLOCK i) = 1 then (s1.setFld pROPE (rlTRAINED i) 1).laneTrained (ropeLane i) else s1

/-- Lanes that have completed training. -/
def State.ropeTrained (s : State) : Nat :=
  (List.range 4).foldl (fun m i => if hasLane s.ropeUsable i && s.rp (rlTRAINED i) == 1 then m + 2 ^ i else m) 0

/-- TRAIN ends: where every lane has completed, or TRAIN_MS has passed and MIN_LANES have, the link goes to ALIGN with those that have, else
DOWN with TRAIN_TIMEOUT (R313). Until the peer's first block its RX_MASK is taken to be the lanes completed (log entry 291). -/
def execTrainMsExpiry (s : State) : Out :=
  let all := s.ropeTrained == s.ropeUsable && s.ropeUsable != 0
  s.event (s.link == 2 && (all || decide (s.fabric ≥ s.rope.linkAt + s.rp F.ROPE.ROPE_CFG_TRAIN_MS * 1500000))) fun s =>
    if all ∨ lanes4 s.ropeTrained ≥ s.rp F.ROPE.ROPE_CFG_MIN_LANES then
      let m := s.ropeTrained
      let s1 := (((s.linkTo 3).setFld pROPE F.ROPE.ROPE_STATUS_RX_MASK m).setFld pROPE F.ROPE.ROPE_STATUS_PEER_RX_MASK m).masks
      { s1 with rope := { s1.rope with beatAt := s.fabric, laneBeat := (List.range 4).map fun i => (i, s.fabric),
                                       amDue := true } }
    else
      let s1 := (s.linkDown).reason pROPE Cls.timing 0x13
      { s1 with rope := { s1.rope with timedOut := true } }

/-- 10 ms after a TRAIN_TIMEOUT (R313). -/
def execDetectRetry (s : State) : Out :=
  s.event (s.link == 0 && s.rope.timedOut && s.works pROPE && decide (s.fabric ≥ s.rope.linkAt + 15000000)) fun s =>
    { s with rope := { s.rope with timedOut := false } }.linkDetect

/-- CAPS of this unit (R314, R315). -/
def State.capsBody (s : State) : List Byte :=
  beBytes 1 2 ++ beBytes (s.fld 0 F.DIR.DIR_MEMBER_MEMBER) 2 ++ beBytes (s.fld 0 F.DIR.DIR_MEMBER_STEPPING) 1 ++
    beBytes (s.rp F.ROPE.ROPE_CFG_LANES) 1 ++ beBytes (s.rp F.ROPE.ROPE_CFG_MIN_LANES) 1 ++ [0] ++ beBytes 1024 2 ++
    beBytes 256 2 ++ beBytes 0 4

/-- AM columns are aligned and both ends' masks agree: EXCHANGE with every number at 0, and CAPS is the first frame
(R313, R314). -/
def execAlignDone (s : State) : Out :=
  s.event (s.link == 3 && s.rope.peerTx == s.rp F.ROPE.ROPE_STATUS_TX_MASK && s.rp F.ROPE.ROPE_STATUS_TX_MASK != 0) fun s =>
    let s1 := (s.linkTo 4).setFld pROPE F.ROPE.SEQ_STATUS 0
    { s1 with rope := { s1.rope with held := [], queued := [], yield' := none, pTx := 0, pRx := 0, capsGot := false,
                                     capsAcked := false, window := 256, nakAt := none } }.ropeSend 0x01 s.capsBody

def execLinkStateTimeout (s : State) : Out :=
  s.event ((s.link == 3 || s.link == 4) && decide (s.fabric ≥ s.rope.linkAt + 1500000)) fun s => s.linkDown.linkDetect

/-- The peer's CAPS: recorded; another VERSION takes the link DOWN until RESTART; else the window is the smaller and, with own CAPS
acknowledged, the link is ACTIVE; `next` is the NEXT_SEQ that the blocks about it carried (R313, R314). -/
def execCaps (seq version member stepping lanes minLanes window next : Nat) (s : State) : Out :=
  .next ((s.ropeAccept seq fun s =>
    let s1 := (((((s.setFld pROPE F.ROPE.PEER_CAPS0_VERSION version).setFld pROPE F.ROPE.PEER_CAPS0_MEMBER member).setFld pROPE
      F.ROPE.PEER_CAPS1_STEPPING stepping).setFld pROPE F.ROPE.PEER_CAPS1_LANES lanes).setFld pROPE
      F.ROPE.PEER_CAPS1_MIN_LANES minLanes).setFld pROPE F.ROPE.PEER_CAPS1_WINDOW window
    if version = 1 then
      ({ s1 with rope := { s1.rope with capsGot := true, window := min 256 window } }.ropeRelease next).exchanged
    else
      let s2 := (s1.linkDown.raise pROPE F.ROPE.intPEER_VERSION).reason pROPE Cls.dependency 0x11
      { s2 with rope := { s2.rope with versionHeld := true } }))

/-! ## The host's controls -/

/-- ROPE_CTRL.RETRAIN of lane `i`; a lane that is not in LANES, or is FAILED and so stays out of the link until CLEAR_FAILED or RESTART, is
not trained (R308, R309; log entry 291). -/
def State.ropeRetrain (s : State) (i : Nat) : State :=
  if s.rp F.ROPE.ROPE_STATUS_TRAINING ≠ 0 ∨ !s.linkActive ∨
      lanes4 (dropLane (s.rp F.ROPE.ROPE_STATUS_TX_MASK) i) < s.rp F.ROPE.ROPE_CFG_MIN_LANES then
    s.refuse pROPE Cls.conflict 0x12
  else s.ropeTrainLane i

def execRopeRetrain (i : Nat) (s : State) : Out :=
  s.onPage pROPE fun s => if i < 4 ∧ hasLane s.ropeUsable i then s.ropeRetrain i else s

/-- The next lane that waits begins to train (R308). -/
def State.ropeNext (s : State) : State :=
  match s.rope.waiting with
  | i :: _ => if s.linkActive ∧ hasLane s.ropeUsable i then s.ropeTrainLane i else s
  | [] => s

/-- RL<i>_STATUS.TRIES counts and its internal count of failed tries takes a value (R309). -/
def State.triesTo (s : State) (i n shown : Nat) : State :=
  { s with rope := { s.rope with tries := Tab.set 0 s.rope.tries i n } }.setFld pROPE (rlTRIES i) shown

/-- The lane's heartbeat is counted from a FABRIC cycle on (R308). -/
def State.beatFrom (s : State) (i at' : Nat) : State :=
  { s with rope := { s.rope with laneBeat := Tab.set 0 s.rope.laneBeat i at' } }

/-- A lane rejoins the receiver's mask (R309). -/
def State.rxAdd (s : State) (i : Nat) : State := s.rxMask (addLane (s.rp F.ROPE.ROPE_STATUS_RX_MASK) i)

/-- The lane in training rejoins (R309). -/
def State.laneRejoins (s : State) (i : Nat) : State :=
  ((((((s.setFld pROPE F.ROPE.ROPE_STATUS_TRAINING 0).triesTo i 0 0).raise pROPE F.ROPE.intLANE_RESTORED).rxAdd i).beatFrom i
    s.fabric).masks).ropeNext

/-- A try of the lane in training has failed: its n-th in sequence (R309). -/
def State.laneTryEnds (s : State) (i n : Nat) : State :=
  let s1 := ((((s.setFld pROPE F.ROPE.ROPE_STATUS_TRAINING 0).err pROPE 5).triesTo i n (min n 7)))
  if n ≥ s.rp F.ROPE.ROPE_CFG_RETRAIN_TRIES then
    ((((s1.setFld pROPE (rlFAILED i) 1).raise pROPE F.ROPE.intLANE_FAILED).reason pROPE Cls.resource 0x14).laneTrainFailed
      (ropeLane i) true).ropeNext
  else ((s1.laneTrainFailed (ropeLane i) false).ropeNext).ropeAuto i

/-- The lane in training rejoins, or its try has failed when TRAIN_MS has passed (R309). -/
def execRopeRetrainResult (i : Nat) (s : State) : Out :=
  s.event (decide (i < 4) && s.linkUp && hasLane (s.rp F.ROPE.ROPE_STATUS_TRAINING) i &&
      (s.rp (rlTRAINED i) == 1 || decide (s.fabric ≥ s.rope.trainAt + s.rp F.ROPE.ROPE_CFG_TRAIN_MS * 1500000))) fun s =>
    if s.rp (rlTRAINED i) = 1 then s.laneRejoins i else s.laneTryEnds i (Tab.get 0 s.rope.tries i + 1)

/-- ROPE_CTRL.CLEAR_FAILED (R309): the owner clears the lanes' failure (R361). -/
def State.ropeClear (s : State) : State :=
  (List.range 4).foldl (fun t i =>
    let t1 := (t.setFld pROPE (rlFAILED i) 0).setFld pROPE (rlTRIES i) 0
    if t1.laneState (ropeLane i) = laFailed then t1.laneTo (ropeLane i) laDown else t1) { s with rope := { s.rope with tries := [] } }

def execClearFailed (s : State) : Out := s.onPage pROPE State.ropeClear

/-- ROPE_CTRL.RESTART: DOWN, and DETECT in the next cycle; a FAILED lane comes back (R309, R313). -/
def State.ropeRestart (s : State) : State :=
  if s.works pROPE then
    let s1 := s.linkDown.ropeClear
    { s1 with rope := { s1.rope with versionHeld := false } }.linkDetect
  else s

def execRopeRestart (s : State) : Out := s.onPage pROPE State.ropeRestart

/-- ROPE_CTRL.MBOX_SEND, ignored while TX_BUSY, and while LINK is not ACTIVE, when its frame would be discarded (R301, R315; log entry
166). -/
def State.mboxSend (s : State) : State :=
  if s.bit pROPE F.ROPE.MBOX_STATUS_TX_BUSY ∨ !s.linkActive then s
  else (s.setFld pROPE F.ROPE.MBOX_STATUS_TX_BUSY 1).ropeSend 0x02
    ((List.range 16).flatMap fun i => beBytes (s.rp (F.ROPE.MBOX_TX i)) 4)

def execMboxSend (s : State) : Out := s.onPage pROPE State.mboxSend

/-- A mailbox of sixteen words arrives (R315). -/
def execMailbox (seq : Nat) (words : List Nat) (s : State) : Out :=
  .next (s.ropeAccept seq fun s =>
    if s.bit pROPE F.ROPE.MBOX_STATUS_RX_FULL then s.err pROPE 6
    else
      let s1 := (List.range 16).foldl (fun t i => t.setFld pROPE (F.ROPE.MBOX_RX i) (words.getD i 0)) s
      (s1.setFld pROPE F.ROPE.MBOX_STATUS_RX_FULL 1).raise pROPE F.ROPE.intMBOX_RX)

/-- Training frames arrive on lane `i` (R308, R312, R355): an end that trains a higher lane abandons it, without counting a
try, and a lane of LANES that is not FAILED begins to train; the frame's REQUEST moves the transmit FFE by `pre`, `main` and
`post` steps, a step that would make the setting illegal being left out, and PRESET or INIT sets the At reset setting. -/
def execTrainingFrame (i : Nat) (pre main post : Int) (preset : Bool) (s : State) : Out :=
  s.event (decide (i < 4) && hasLane s.ropeUsable i && (s.link == 2 || s.linkActive)) fun s =>
    let busy := s.rp F.ROPE.ROPE_STATUS_TRAINING
    let s1 :=
      if s.linkActive ∧ !hasLane busy i then
        if busy = 0 then s.ropeTrainLane i
        else if busy > 2 ^ i then
          let j := Nat.log2 busy
          { s.setFld pROPE F.ROPE.ROPE_STATUS_TRAINING 0 with rope := { s.rope with waiting := s.rope.waiting ++ [j] } }.ropeTrainLane i
        else s
      else s
    let p := ropeLane i
    if s1.laneState p = laTrain then (if preset then s1.ffeSet p 0 64 0 else s1.ffeMove p pre main post)
    else s1

end Sys2Proof.Machine
end

