-- ==== Sys2Proof/Machine/HostLink.lean ====
section
/-! DEFINITION. The PCI Express link and its lanes LANE26 to LANE33 (spec/20 R438, R439; spec/15 R361, R362, R370). -/

namespace Sys2Proof.Machine

/-- Page of PCIe lane `i`: LANE26 + i (R354). -/
def hostLane (i : Nat) : Nat := pLANE (26 + i)

/-- Lane `i` can carry the link: its page does its work, or Lantern trains it before it enables the page (R362, R460, R467). -/
def State.hostLaneWorks (s : State) (i : Nat) : Bool := s.works (hostLane i) || s.phase != phService

/-- Lane `i` is to train at full width: a failure is cleared, the lane is started or retrained, and its training begins (R361, R438). -/
def State.hostLaneTrain (s : State) (i : Nat) : State :=
  let p := hostLane i
  if s.hostLaneWorks i then
    (if s.laneState p = laFailed ∨ s.laneState p = laDown then s.laneAcquire p else s.laneRetrain p).laneTrain p
  else s

/-- All eight lanes of the link train. -/
def State.hostTrains (s : State) : State := (List.range 8).foldl State.hostLaneTrain s

/-- Data link down, hot reset or Function Level Reset (R439); the lanes train again at full width (R438). -/
def execPcieLinkDown (s : State) : Out :=
  let s1 := (List.range 256).foldl (fun t r => t.ringOff r) s
  let s2 := s1.clearRegs pHOST fun a => decide (0x400 ≤ offsetOf a) && decide (offsetOf a < 0x800)
  let s3 := ((s2.setFld pHOST F.HOST.LINK_STATUS_SPEED 0).setFld pHOST F.HOST.LINK_STATUS_WIDTH 0).setFld pHOST
    F.HOST.LINK_STATUS_DL_UP 0
  let s4 := ((s3.setFld pHOST F.HOST.LINK_STATUS_RETRAINING 0).setFld pHOST F.HOST.LANES_OK 0).hostTrains
  .next (((s4.raise pHOST F.HOST.intLINK_DOWN).err pHOST 2).logEv pHOST F.HOST.intLINK_DOWN 4 0 [])

/-- HOST_RETRAIN (R438): a retrain at ×8 and 32 GT/s starts, unless one runs. -/
def execHostRetrain (s : State) : Out :=
  s.onPage pHOST fun s =>
    if s.bit pHOST F.HOST.LINK_STATUS_RETRAINING then s.refuse pHOST Cls.conflict 0x11
    else (s.setFld pHOST F.HOST.LINK_STATUS_RETRAINING 1).hostTrains

/-- A lane of the link carries nothing any more: the link retrains on those that work (R362, R370). -/
def State.hostLaneLost (s : State) : State :=
  if s.bit pHOST F.HOST.LINK_STATUS_DL_UP then (s.setFld pHOST F.HOST.LINK_STATUS_RETRAINING 1).hostTrains else s

/-- The widest of ×8, ×4, ×2 and ×1 whose lanes from lane 0 are all in the mask; 0 where lane 0 fails (R438). -/
def linkWidth (lanes : Nat) : Nat :=
  if lanes % 256 = 255 then 8 else if lanes % 16 = 15 then 4 else if lanes % 4 = 3 then 2 else lanes % 2

/-- The lanes of a mask that can carry the link (R362). -/
def State.hostWorking (s : State) (lanes : Nat) : Nat :=
  ((List.range 8).filter fun i => hasLane lanes i && s.hostLaneWorks i).foldl (fun m i => m + 2 ^ i) 0

/-- A lane of a link that has trained: in its width the training has completed; above it the lane is FAILED, with an attempt that
failed where the lane found no setting (R361, R370). -/
def State.hostLaneTrained (s : State) (w lanes i : Nat) : State :=
  let p := hostLane i
  if !s.hostLaneWorks i then s
  else if i < w then (if s.laneState p = laTrain then (s.ffeTrained p true).laneTrained p else s)
  else if s.laneState p = laTrain ∧ !hasLane lanes i then s.laneTrainFailed p true
  else s.laneTo p laFailed

/-- The link stands at width `w` and rate `speed`: WIDTH_CHANGED, SPEED_CHANGED, ERR_COUNT3, LINK_UP; vectors with a
pending bit count as masked no more (R438, R439). -/
def State.hostLinkAt (s : State) (w speed : Nat) : State :=
  let oldW := s.fld pHOST F.HOST.LINK_STATUS_WIDTH
  let oldS := s.fld pHOST F.HOST.LINK_STATUS_SPEED
  let wch := oldW != 0 && oldW != w
  let sch := oldS != 0 && oldS != speed
  let s1 := ((s.setFld pHOST F.HOST.LINK_STATUS_WIDTH w).setFld pHOST F.HOST.LINK_STATUS_SPEED speed).setFld pHOST F.HOST.LANES_OK (2 ^ w - 1)
  let s2 := if s.bit pHOST F.HOST.LINK_STATUS_DL_UP then s1
    else (List.range 64).foldl (fun t v => t.msixLaunch v false) ((s1.setFld pHOST F.HOST.LINK_STATUS_DL_UP 1).raise pHOST F.HOST.intLINK_UP)
  let s3 := if wch then s2.raise pHOST F.HOST.intWIDTH_CHANGED else s2
  let s4 := if sch then s3.raise pHOST F.HOST.intSPEED_CHANGED else s3
  if wch || sch then s4.err pHOST 3 else s4

/-- PCIE_LINK_TRAINED (R438): the link trains; `lanes` is the mask of lanes that trained and `speed` the rate that all of
the link's lanes reach, 1 to 5. If lane 0 fails, the link does not come up. -/
def execPcieLinkTrained (lanes speed : Nat) (s : State) : Out :=
  s.event (s.boot.pcieTraining && !s.boot.rootHeld && decide (1 ≤ speed) && decide (speed ≤ 5)) fun s =>
    let m := s.hostWorking lanes
    let w := linkWidth m
    let s1 := (List.range 8).foldl (fun t i => t.hostLaneTrained w m i) (s.setFld pHOST F.HOST.LINK_STATUS_RETRAINING 0)
    if w = 0 then s1 else s1.hostLinkAt w speed

end Sys2Proof.Machine
end

