-- ==== Sys2Proof/Machine/Tsch.lean ====
section
/-! DEFINITION. The traffic scheduler: queues, queue commands, token buckets, arbitration, time gates and the loss of a
port (spec/14). -/

namespace Sys2Proof.Machine

/-! ## Queues -/

def State.queueOf (s : State) (q : Nat) : QueueState := Tab.get .reset s.tsch.queues q

def State.setQueue (s : State) (q : Nat) (x : QueueState) : State :=
  { s with tsch := { s.tsch with queues := Tab.set .reset s.tsch.queues q x } }

def State.portOf (s : State) (p : Nat) : PortState := Tab.get .reset s.tsch.ports p

def State.setPort (s : State) (p : Nat) (x : PortState) : State :=
  { s with tsch := { s.tsch with ports := Tab.set .reset s.tsch.ports p x } }

/-- Q_CTRL.EN. -/
def State.qEn (s : State) (q : Nat) : Bool := s.qfld F.QTAB.Q_CTRL_EN q == 1

/-- The enabled queues in ascending order. -/
def State.queuesEn (s : State) : List Nat :=
  (s.regs.filter fun c => decide (0x400000 ≤ c.1) && decide (c.1 < 0x440000) && c.1 % 0x20 == 0 && c.2.toNat % 2 == 1).map
    fun c => (c.1 - 0x400000) / 0x20

/-- Q_ENABLED.COUNT. -/
def State.qEnabled (s : State) : Nat := s.queuesEn.length

/-- POOL_USED.KIB (R340). -/
def State.poolUsed (s : State) : Nat := s.queuesEn.foldl (fun n q => n + s.qfld F.QTAB.Q_BUF_KIB q) 0

/-- The port that a queue currently uses. -/
def State.qPort (s : State) (q : Nat) : Nat :=
  if s.qfld F.QTAB.Q_CTRL_ON_ALT q = 1 then s.qfld F.QTAB.Q_CTRL_ALT_PORT q else s.qfld F.QTAB.Q_CTRL_PORT q

/-- ETH port `p` is UP (PORT_STATUS.LINK 4). -/
def State.portUp (s : State) (p : Nat) : Bool := s.fld (pETH p) F.ETH.PORT_STATUS_LINK == 4

/-- Lanes of a port in the lane mode (R318): 1, 2 or 4. -/
def State.portLanes (s : State) : Nat := 2 ^ s.fld (pETH 0) F.ETH.PORT_STATUS_LANE_MODE

/-- Credit units of a byte (R346). -/
def cuByte : Nat := 12000000

/-- Tokens of an enabled queue now: accrual in every FABRIC cycle, never above the burst (R346). -/
def State.tokensNow (s : State) (q : Nat) : Int :=
  let x := s.queueOf q
  if s.qEn q then
    min (x.tokens + (s.qfld F.QTAB.Q_RATE_KBPS q * (s.fabric - x.tokAt) : Nat)) ((s.qfld F.QTAB.Q_BURST_BYTES q * cuByte : Nat) : Int)
  else x.tokens

/-- Set the tokens of a queue as of now. -/
def State.setTokens (s : State) (q : Nat) (t : Int) : State := s.setQueue q { s.queueOf q with tokens := t, tokAt := s.fabric }

/-- Tokens after ENABLE or SET_SHAPER: 0, or the whole burst with TOKEN_RESET 1 (R346). -/
def State.resetTokens (s : State) (q : Nat) : State :=
  s.setTokens q (if s.qfld F.QTAB.Q_CTRL_TOKEN_RESET q = 1 then (s.qfld F.QTAB.Q_BURST_BYTES q * cuByte : Nat) else 0)

/-- Bytes that a frame holds of its queue's quota: its length and a descriptor of 64 (R341). -/
def Frame.held (f : Frame) : Nat := f.len + 64

/-- `n` frames of queue `q` are dropped or discarded: DROPS (Q_OWNER). -/
def State.qDrops (s : State) (q n : Nat) : State := s.setQfld F.QTAB.Q_OWNER_DROPS q (s.qfld F.QTAB.Q_OWNER_DROPS q + n)

/-! ## Host receive records (R325) -/

/-- Header of a host receive record (R325): `stamp` is the counter with its fraction, `len` the frame octets. -/
def hostRxHeader (port kind : Nat) (dropped : Bool) (stamp len : Nat) : List Byte :=
  leBytes (stamp / 2 ^ 24) 8 ++
    leBytes (stamp % 2 ^ 24 + port % 8 * 2 ^ 24 + kind % 4 * 2 ^ 27 + dropped.toNat * 2 ^ 29 + len % 2 ^ 14 * 2 ^ 32) 8

/-- A record for the host at port `p`: written to RX_RING, or dropped with HOST_RX_DROP and ERR_COUNT6; and whether it was
written (R325). -/
def State.hostRx (s : State) (p : Nat) (rec : List Byte) : State × Bool :=
  let r := s.fld (pETH p) F.ETH.HOST_CFG_RX_RING
  let o := if s.ringRole r 8 then s.offer r (pETH p) rec else (s, false)
  if o.2 then o else ((o.1.raise (pETH p) F.ETH.intHOST_RX_DROP).err (pETH p) 6, false)

/-- The transmit stamp that a frame asks for is written to RX_RING (R325, R326). -/
def State.txStamp (s : State) (f : Frame) (dropped : Bool) (stamp : Nat) : State :=
  match f.stamp with
  | some (p, tag) =>
    let o := s.hostRx p (hostRxHeader p 1 dropped stamp 0 ++ leBytes tag 8)
    if o.2 then o.1.raise (pETH p) F.ETH.intTX_STAMP else o.1
  | none => s

/-- Frames that are not sent: each requested stamp is written with DROPPED set (R325). -/
def State.stampsDropped (s : State) (fs : List Frame) : State := fs.foldl (fun t f => t.txStamp f true 0) s

/-- A frame is not accepted: DROPS of its queue, the TSCH counter of the cause, QUEUE_DROP, and CHAN ERR_COUNT7 for a
channel's packet (R341). -/
def State.qRefuse (s : State) (f : Frame) (counter : Nat) : State :=
  let s1 := (((if f.queue < 8192 then s.qDrops f.queue 1 else s).err pTSCH counter).raise pTSCH F.TSCH.intQUEUE_DROP).stampsDropped [f]
  match f.chan with
  | some c => s1.err (pCHAN c) 7
  | none => s1

/-- The queue discards the frames it holds; their bytes are released. A frame in progress keeps its own until it ends. -/
def State.qDiscard (s : State) (q : Nat) : State :=
  let x := s.queueOf q
  let n := x.frames.foldl (fun n f => n + f.held) 0
  (((s.setQfld F.QTAB.Q_OCC_BYTES q (s.qfld F.QTAB.Q_OCC_BYTES q - n)).qDrops q x.frames.length).setQueue q { x with frames := [] }).stampsDropped x.frames

/-- The queue whose frame a port sends. -/
def State.sendingQueue (s : State) (q : Nat) : Bool :=
  (List.range 8).any fun p => match (s.portOf p).sending with
    | some (r, _) => r == q
    | none => false

/-! ## Queue commands (R342, R343) -/

/-- An entry of port field `p` names an absent ETH page (R343). -/
def State.portAbsent (s : State) (p : Nat) : Bool := s.absent (pETH p)

/-- The entry's fields are out of range, BURST is below MAX_FRAME or ALT_PORT equals PORT (QUEUE_RANGE). -/
def State.qOutOfRange (s : State) (q rate burst : Nat) : Bool :=
  let mf := s.qfld F.QTAB.Q_CTRL_MAX_FRAME q
  let kib := s.qfld F.QTAB.Q_BUF_KIB q
  decide (mf < 64) || decide (9216 < mf) || decide (rate < 1) || decide (400000000 < rate) || decide (burst < mf) ||
    decide (4194304 < burst) || decide (kib < ceilDiv (mf + 64) 1024) || decide (12288 < kib) ||
    (s.qfld F.QTAB.Q_CTRL_ALT_EN q == 1 && s.qfld F.QTAB.Q_CTRL_ALT_PORT q == s.qfld F.QTAB.Q_CTRL_PORT q)

/-- A port of the entry names an absent page. -/
def State.qNamesAbsent (s : State) (q : Nat) : Bool :=
  s.portAbsent (s.qfld F.QTAB.Q_CTRL_PORT q) ||
    (s.qfld F.QTAB.Q_CTRL_ALT_EN q == 1 && s.portAbsent (s.qfld F.QTAB.Q_CTRL_ALT_PORT q))

/-- A queue command begins: PAGE_OP.KIND 5 and Q_LAST. -/
def State.qBegin (s : State) (q op : Nat) : State :=
  ((s.opBegin pTSCH 5).setFld pTSCH F.TSCH.Q_LAST_QUEUE q).setFld pTSCH F.TSCH.Q_LAST_OP op

/-- A queue command is refused. -/
def State.qFail (s : State) (cls d : Nat) : State := (s.refuse pTSCH cls d).opEndOf pTSCH 5 opRefused

/-- A CAPACITY refusal of TSCH shows its value in CHECK_DETAIL (R343). -/
def State.qCapacity (s : State) (d v : Nat) : State := (s.setFld pTSCH F.TSCH.CHECK_DETAIL v).qFail Cls.capacity d

/-- A queue command by its checks in the order of R44: it is ignored with CMD_BUSY while a DISABLE waits (R342); an index of
8,192 or more is FLOW_CAPACITY (R343). -/
def State.qCommand (s : State) (q op : Nat) (f : State → State) : State :=
  if s.tsch.disabling.isSome then s.reason pTSCH Cls.conflict 0x13
  else
    let s1 := s.qBegin q op
    if q ≥ 8192 then s1.qCapacity 0x11 q else f s1

def State.qDone (s : State) : State := s.opEndOf pTSCH 5 opCompleted

/-- ENABLE: checks, then EN, the reservation and the tokens (R340, R342, R343, R346). -/
def State.enableQueue (q : Nat) (s : State) : State :=
  s.qCommand q 1 fun s =>
    if s.qOutOfRange q (s.qfld F.QTAB.Q_RATE_KBPS q) (s.qfld F.QTAB.Q_BURST_BYTES q) then s.qFail Cls.range 0x10
    else if s.qNamesAbsent q then s.qFail Cls.absent 0x05
    else if s.qEn q then s.qFail Cls.conflict 0x14
    else if s.poolUsed + s.qfld F.QTAB.Q_BUF_KIB q > 12288 then s.qCapacity 0x0C (s.poolUsed + s.qfld F.QTAB.Q_BUF_KIB q)
    else ((s.setQfld F.QTAB.Q_CTRL_EN q 1).setQfld F.QTAB.Q_CTRL_ON_ALT q 0 |>.resetTokens q).qDone

def execEnableQueue (q : Nat) (s : State) : Out := s.onPage pTSCH (State.enableQueue q)

/-- DISABLE: EN 0, the queued frames discarded; it completes once no frame of the queue is being sent (R342). -/
def State.disableQueue (q : Nat) (s : State) : State :=
  s.qCommand q 2 fun s =>
    if s.qfld F.QTAB.Q_OWNER_KIND q ≠ 0 then s.qFail Cls.conflict 0x12
    else
      let s1 := (s.setQfld F.QTAB.Q_CTRL_EN q 0).qDiscard q
      let s2 := s1.setQueue q { s1.queueOf q with tokens := s.tokensNow q, tokAt := s.fabric, returning := false }
      if s2.sendingQueue q then { s2 with tsch := { s2.tsch with disabling := some q } } else s2.qDone

def execDisableQueue (q : Nat) (s : State) : Out := s.onPage pTSCH (State.disableQueue q)

/-- DISABLE_COMPLETE: no frame of the disabled queue is being sent any more (R342). -/
def State.disableComplete (s : State) : State := { s with tsch := { s.tsch with disabling := none } }.qDone

/-- The DISABLE that waits may complete. -/
def State.disableReady (s : State) : Bool :=
  match s.tsch.disabling with
  | some q => !s.sendingQueue q
  | none => false

def execDisableComplete (s : State) : Out := s.event s.disableReady State.disableComplete

/-- SET_SHAPER: SHAPE_RATE and SHAPE_BURST become the queue's, and its tokens are set (R342, R346). -/
def State.setShaper (q : Nat) (s : State) : State :=
  s.qCommand q 3 fun s =>
    let r := s.fld pTSCH F.TSCH.SHAPE_RATE_KBPS
    let b := s.fld pTSCH F.TSCH.SHAPE_BURST_BYTES
    if s.qOutOfRange q r b then s.qFail Cls.range 0x10
    else if s.qNamesAbsent q then s.qFail Cls.absent 0x05
    else if !s.qEn q then s.qFail Cls.conflict 0x14
    else (((s.setQfld F.QTAB.Q_RATE_KBPS q r).setQfld F.QTAB.Q_BURST_BYTES q b).resetTokens q).qDone

def execSetShaper (q : Nat) (s : State) : Out := s.onPage pTSCH (State.setShaper q)

/-- A queue on its alternate goes back to PORT. -/
def State.toPort (s : State) (q : Nat) : State :=
  (s.setQfld F.QTAB.Q_CTRL_ON_ALT q 0).setQueue q { s.queueOf q with returning := false }

/-- RETURN: the queue goes back to PORT at its next frame boundary (R352). -/
def State.returnQueue (q : Nat) (s : State) : State :=
  s.qCommand q 4 fun s =>
    if !s.portUp (s.qfld F.QTAB.Q_CTRL_PORT q) then s.qFail Cls.dependency 0x18
    else if !s.qEn q then s.qFail Cls.conflict 0x14
    else if s.sendingQueue q then (s.setQueue q { s.queueOf q with returning := true }).qDone
    else (s.toPort q).qDone

def execReturnQueue (q : Nat) (s : State) : Out := s.onPage pTSCH (State.returnQueue q)

/-! ## Time gates -/

/-- The entries of a list from position `x` of its cycle on: what is left of the entry in force, then the others. -/
def gateFrom : List (Nat × Nat) → Nat → List (Nat × Nat)
  | [], _ => []
  | (d, m) :: r, x => if x < d then (d - x, m) :: r else gateFrom r (x - d)

/-- Length of the cycle (R347). -/
def GateList.cycle (g : GateList) : Nat := g.entries.foldl (fun n e => n + e.1) 0

/-- Position in the cycle at counter time `t` (R348). -/
def GateList.pos (g : GateList) (t : Nat) : Nat := (t + g.cycle - g.phase % g.cycle) % g.cycle

/-- How long class `c` stays open along entries; none when they all include it. -/
def openRun (c : Nat) : List (Nat × Nat) → Option Nat
  | [] => none
  | (d, m) :: r => if m / 2 ^ c % 2 = 0 then some 0 else (openRun c r).map (· + d)

/-- How long class `c` stays open from `t` with list `g` in force; none for ever (R349). -/
def gateOpen (g : Option GateList) (t c : Nat) : Option Nat :=
  match g with
  | none => none
  | some g => openRun c (gateFrom g.entries (g.pos t) ++ g.entries)

/-- The list in force at `t` when a swap waits. -/
def PortState.listAt (x : PortState) (t : Nat) : Option GateList :=
  match x.swap with
  | some (g, sAt) => if t ≥ sAt then g else x.gate
  | none => x.gate

/-- Class `c` of a port stays open from `t` for at least `g` ns, across a pending swap with the list to come (R349). -/
def PortState.openFor (x : PortState) (t c g : Nat) : Bool :=
  let now := gateOpen (x.listAt t) t c
  match x.swap with
  | some (l, sAt) =>
    if t < sAt ∧ now.all (fun n => decide (sAt ≤ t + n)) then
      decide (g ≤ sAt - t) || (gateOpen l sAt c).all fun n => decide (g ≤ sAt - t + n)
    else now.all fun n => decide (g ≤ n)
  | none => now.all fun n => decide (g ≤ n)

/-- g(L) of R349 for a port of `lanes` lanes. -/
def guardTime (len lanes : Nat) : Nat := ceilDiv ((len + 20) * 8) (50 * lanes) + 8

/-- MAXOPENc of a list: the longest time for which class `c` stays open, saturating (R350). -/
def GateList.maxOpen (g : GateList) (c : Nat) : Nat :=
  let starts := (List.range g.entries.length).map fun i => openRun c (g.entries.drop i ++ g.entries)
  starts.foldl (fun n o => max n (match o with | some v => min v 0xFFFFFFFF | none => 0xFFFFFFFF)) 0

/-- MAXOPENc of port `p` (register). -/
def maxOpenFld (p c : Nat) : Fld := ⟨0x220 + p * 0x40 + 4 * c, 0, 32⟩

/-- The head frame of queue `q` can never start under the list in force on its port (R350). -/
def State.headTooLong (s : State) (p q : Nat) : Bool :=
  s.running && ((s.portOf p).gate).isSome && match (s.queueOf q).frames with
  | f :: _ => decide (guardTime f.len s.portLanes > s.fld pTSCH (maxOpenFld p (s.qfld F.QTAB.Q_CTRL_CLASS q)))
  | [] => false

/-- The head frame `f` of queue `q` is discarded, leaving `r`: DROPS, ERR_COUNT4, GATE_TOO_LONG (R350). -/
def State.purgeHead (s : State) (q : Nat) (f : Frame) (r : List Frame) : State :=
  let s1 := (s.setQueue q { s.queueOf q with frames := r }).setQfld F.QTAB.Q_OCC_BYTES q (s.qfld F.QTAB.Q_OCC_BYTES q - f.held)
  (((s1.qDrops q 1).err pTSCH 4).raise pTSCH F.TSCH.intGATE_TOO_LONG).stampsDropped [f]

/-- Head frames that can never start are discarded: DROPS, ERR_COUNT4, GATE_TOO_LONG (R350). -/
def State.purgeQueue (p q : Nat) : Nat → State → State
  | 0, s => s
  | fuel + 1, s =>
    if s.headTooLong p q then
      match (s.queueOf q).frames with
      | f :: r => State.purgeQueue p q fuel (s.purgeHead q f r)
      | [] => s
    else s

/-- Queues that use port `p`. -/
def State.queuesOn (s : State) (p : Nat) : List Nat := s.queuesEn.filter fun q => s.qPort q == p

def State.purgePort (s : State) (p : Nat) : State :=
  (s.queuesOn p).foldl (fun t q => t.purgeQueue p q (t.queueOf q).frames.length) s

/-! ## Frames -/

/-- A frame is handed to its queue, which accepts it or drops it whole (R341). -/
def State.handFrame (s : State) (f : Frame) : State :=
  let q := f.queue
  if !s.works pTSCH || q ≥ 8192 || !s.qEn q then s.qRefuse f 6
  else if f.len > s.qfld F.QTAB.Q_CTRL_MAX_FRAME q then s.qRefuse f 1
  else if s.qfld F.QTAB.Q_OCC_BYTES q + f.held > s.qfld F.QTAB.Q_BUF_KIB q * 1024 then s.qRefuse f 0
  else if !s.portUp (s.qPort q) then s.qRefuse f 2
  else
    let s1 := (s.setQueue q { s.queueOf q with frames := (s.queueOf q).frames ++ [f] }).setQfld F.QTAB.Q_OCC_BYTES q
      (s.qfld F.QTAB.Q_OCC_BYTES q + f.held)
    s1.purgeQueue (s1.qPort q) q (s1.queueOf q).frames.length

/-- FRAME_HANDOFF: the oldest frame that a writer hands over reaches its queue (R341). -/
def execFrameHandoff (s : State) : Out :=
  .next (match s.tsch.handoff with
  | f :: r => { s with tsch := { s.tsch with handoff := r } }.handFrame f
  | [] => s)

/-- Queue `q` is eligible on port `p` now (R345). -/
def State.eligible (s : State) (p q : Nat) : Bool :=
  match (s.queueOf q).frames with
  | f :: _ =>
    s.qEn q && s.qPort q == p && s.portUp p && decide (0 ≤ s.tokensNow q) &&
      (!s.running || (s.portOf p).openFor s.now (s.qfld F.QTAB.Q_CTRL_CLASS q) (guardTime f.len s.portLanes))
  | [] => false

/-- The queue that the port serves next: highest class, round robin after the class's last-served queue (R345). -/
def State.nextQueue (s : State) (p : Nat) : Option Nat :=
  let qs := (s.queuesOn p).filter (s.eligible p)
  match (List.range 8).reverse.find? fun c => qs.any fun q => s.qfld F.QTAB.Q_CTRL_CLASS q == c with
  | some c =>
    let cs := qs.filter fun q => s.qfld F.QTAB.Q_CTRL_CLASS q == c
    let last := Tab.get 0 (s.portOf p).last c
    match cs.find? fun q => decide (last ≤ q) with
    | some q => some q
    | none => cs.head?
  | none => none

/-- The MAC address of port `p` (MAC_LO, MAC_HI). -/
def State.portMac (s : State) (p : Nat) : List Byte :=
  let a := s.fld (pETH p) ⟨F.ETH.MAC_HI.off, 0, 16⟩ * 2 ^ 32 + s.fld (pETH p) ⟨F.ETH.MAC_LO.off, 0, 32⟩
  (List.range 6).map fun i => BitVec.ofNat 8 (a / 256 ^ (5 - i))

/-- The port writes its own MAC address into the SA octets of every frame that it sends (R324). -/
def Frame.withSource (f : Frame) (mac : List Byte) : Frame := { f with octets := f.octets.take 6 ++ mac ++ f.octets.drop 12 }

/-- A frame starts on port `p`: its tokens are deducted and the class's last-served queue is remembered (R345, R346). -/
def State.txStart (s : State) (p : Nat) : State :=
  match s.nextQueue p with
  | some q =>
    match (s.queueOf q).frames with
    | f :: r =>
      let s1 := s.setQueue q { s.queueOf q with frames := r, tokens := s.tokensNow q - (f.len * cuByte : Nat), tokAt := s.fabric }
      s1.setPort p { s1.portOf p with
        sending := some (q, f.withSource (s.portMac p)), last := Tab.set 0 (s1.portOf p).last (s.qfld F.QTAB.Q_CTRL_CLASS q) (q + 1) }
    | [] => s
  | none => s

/-- FRAME_TRANSMIT_START (R345). -/
def execFrameTransmitStart (p : Nat) (s : State) : Out :=
  s.event (decide (p < 8) && s.works pTSCH && (s.portOf p).sending.isNone) fun s => (s.purgePort p).txStart p

/-- The frame in progress on port `p` leaves the port: its bytes are released, a RETURN takes effect, and the next head
frame is tested (R341, R350, R352). -/
def State.txEnd (s : State) (p : Nat) : State :=
  match (s.portOf p).sending with
  | some (q, f) =>
    let s1 := (s.setPort p { s.portOf p with sending := none }).setQfld F.QTAB.Q_OCC_BYTES q (s.qfld F.QTAB.Q_OCC_BYTES q - f.held)
    let s2 := if !(s1.queueOf q).returning then s1
      else if s1.portUp (s1.qfld F.QTAB.Q_CTRL_PORT q) then s1.toPort q
      else s1.setQueue q { s1.queueOf q with returning := false }
    s2.purgeQueue (s2.qPort q) q (s2.queueOf q).frames.length
  | none => s

/-- Queue `q` loses the port it uses: it moves to its alternate, or discards what it holds (R352). -/
def State.qLosesPort (s : State) (p q : Nat) : State :=
  let s0 := s.setQueue q { s.queueOf q with returning := false }
  let alt := s.qfld F.QTAB.Q_CTRL_ALT_PORT q
  if s.qfld F.QTAB.Q_CTRL_ON_ALT q = 0 ∧ s.qfld F.QTAB.Q_CTRL_ALT_EN q = 1 ∧ alt ≠ p ∧ s.portUp alt then
    let s1 := (s0.setQfld F.QTAB.Q_CTRL_ON_ALT q 1).raise pTSCH F.TSCH.intALT_MOVED
    s1.purgeQueue alt q (s1.queueOf q).frames.length
  else (s0.errBy pTSCH 2 (s0.queueOf q).frames.length).qDiscard q

/-- Port `p` has left UP (R352): the frame in progress is lost, and each queue that uses the port moves or discards. -/
def State.portLost (s : State) (p : Nat) : State :=
  let s1 := match (s.portOf p).sending with
    | some (q, f) => (((s.setPort p { s.portOf p with sending := none }).setQfld F.QTAB.Q_OCC_BYTES q
        (s.qfld F.QTAB.Q_OCC_BYTES q - f.held)).err pTSCH 3).stampsDropped [f]
    | none => s
  (s1.queuesOn p).foldl (fun t q => t.qLosesPort p q) s1

/-! ## Gate swaps (R347, R351) -/

/-- The entries of a gate list's body; none where a field holds a value R347 does not allow. -/
def gateEntries : Nat → List Byte → Option (List (Nat × Nat))
  | 0, _ => some []
  | n + 1, bs =>
    let d := leNat (bs.take 4)
    if d < 64 ∨ leNat ((bs.drop 5).take 3) ≠ 0 then none
    else (gateEntries n (bs.drop 8)).map ((d, leNat ((bs.drop 4).take 1)) :: ·)

/-- A valid gate list (R347). -/
def parseGate (phase : Nat) (hd body : List Byte) : Option GateList :=
  let n := leNat ((hd.drop 6).take 2)
  match gateEntries n body with
  | none => none
  | some es =>
    let g : GateList := ⟨es, phase, leNat ((hd.drop 16).take 4)⟩
    if leNat (hd.take 4) = 0x4C54474B ∧ leNat ((hd.drop 4).take 2) = 1 ∧ 1 ≤ n ∧ n ≤ 1024 ∧
        leNat ((hd.drop 8).take 4) = g.cycle ∧ 64 ≤ g.cycle ∧ g.cycle ≤ 0xFFFFFFFF ∧
        leNat ((hd.drop 12).take 4) = crc32 body ∧ (hd.drop 20).all (· == 0) ∧ phase < g.cycle
    then some g else none

/-- What a SWAP of port `p` reads: a list, no list, or the reason of its refusal (R351). -/
def State.readGate (s : State) (p : Nat) : Except (Nat × Nat) (Option GateList) :=
  let a := s.addr36 pTSCH (F.TSCH.GL_BASE_LO p)
  let phase := s.fld pTSCH (F.TSCH.GATE_PHASE p)
  if a = 0 then .ok none
  else if a % 64 ≠ 0 then .error (Cls.range, 0x03)
  else match s.tableBytes a 64 with
    | none => .error (Cls.resource, 0x16)
    | some hd =>
      let n := leNat ((hd.drop 6).take 2)
      if n < 1 ∨ 1024 < n then .error (Cls.range, 0x15)
      else match s.tableBytes (a + 64) (8 * n) with
        | none => .error (Cls.resource, 0x16)
        | some body => match parseGate phase hd body with
          | some g => .ok (some g)
          | none => .error (Cls.range, 0x15)

/-- First instant from `t` that is a boundary of the cycle of `g` (R348, R351). -/
def GateList.boundaryFrom (g : GateList) (t : Nat) : Nat :=
  let x := g.pos t
  if x = 0 then t else t + g.cycle - x

/-- S: the first boundary of the cycle in force, or of the new list's cycle, at least 10 µs after acceptance (R351). -/
def swapAt (cur new : Option GateList) (now : Nat) : Nat :=
  match cur, new with
  | some g, _ => g.boundaryFrom (now + 10000)
  | none, some g => g.boundaryFrom (now + 10000)
  | none, none => now + 10000

def State.gateRefuse (s : State) (cls d : Nat) : State := (s.refuse pTSCH cls d).opEndOf pTSCH 6 opRefused

/-- GATE_CTRL.SWAP of port `p`: the list is read and checked, and S is set (R351). -/
def State.gateSwap (p : Nat) (s : State) : State :=
  if p ≥ 8 ∨ !s.works pTSCH then s
  else
    let s1 := s.opBegin pTSCH 6
    match s1.readGate p with
    | .error (c, d) => (if c = Cls.resource then s1.noteRead (s1.addr36 pTSCH (F.TSCH.GL_BASE_LO p)) 8256 else s1).gateRefuse c d
    | .ok g =>
      if !s.running then s1.gateRefuse Cls.dependency 0x06
      else if (s.portOf p).swap.isSome then s1.gateRefuse Cls.conflict 0x17
      else
        let t := swapAt (s.portOf p).gate g s.now
        ((s1.setPort p { s.portOf p with swap := some (g, t) }).setFld pTSCH (F.TSCH.GATE_STATUS_PENDING p) 1).put64L pTSCH
          (F.TSCH.SWAP_AT_LO p) t

def execGateSwap (p : Nat) (s : State) : Out := s.onPage pTSCH (State.gateSwap p)

/-- A pending swap is gone: PENDING 0, SWAP_AT 0. -/
def State.swapGone (s : State) (p : Nat) : State :=
  ((s.setPort p { s.portOf p with swap := none }).setFld pTSCH (F.TSCH.GATE_STATUS_PENDING p) 0).put64L pTSCH (F.TSCH.SWAP_AT_LO p) 0

/-- GATE_CTRL.CANCEL of port `p`: a pending swap is withdrawn; at S or later it is a late abort (R55, R351). -/
def State.gateCancel (p : Nat) (s : State) : State :=
  if p ≥ 8 then s
  else match (s.portOf p).swap with
    | some (_, t) => if s.now < t then (s.swapGone p).opEndOf pTSCH 6 opAborted else s.reason pTSCH 0 0x01
    | none => if (s.portOf p).swappedAt = s.fabric ∧ s.fabric ≠ 0 then s.reason pTSCH 0 0x01 else s

def execGateCancel (p : Nat) (s : State) : Out := s.onPage pTSCH (State.gateCancel p)

/-- Index of the entry in force at position `x`. -/
def entryIndex : List (Nat × Nat) → Nat → Nat
  | [], _ => 0
  | (d, _) :: r, x => if x < d then 0 else entryIndex r (x - d) + 1

/-- GATE_STATUS.ENTRY of port `p` now. -/
def State.entryNow (s : State) (p : Nat) : Nat :=
  match (s.portOf p).gate with
  | some g => entryIndex g.entries (g.pos s.now)
  | none => 0

/-- At S the new list comes into force: GATE_LIST_ID, MAXOPEN, GATE_SWAPPED, the result of KIND 6, and head frames that can
never start under it are discarded (R350, R351). -/
def State.gateSwapped (s : State) (p : Nat) (g : Option GateList) : State :=
  let s1 := (s.swapGone p).setPort p { (s.swapGone p).portOf p with gate := g, swappedAt := s.fabric }
  let s2 := ((s1.setFld pTSCH (F.TSCH.GATE_STATUS_IN_FORCE p) g.isSome.toNat).setFld pTSCH (F.TSCH.GATE_LIST_ID p)
    ((g.map GateList.id).getD 0)).setFld pTSCH (F.TSCH.GATE_STATUS_ENTRY p) (s1.entryNow p)
  let s3 := (List.range 8).foldl (fun t c => t.setFld pTSCH (maxOpenFld p c) ((g.map (·.maxOpen c)).getD 0)) s2
  ((s3.raise pTSCH F.TSCH.intGATE_SWAPPED).opEndOf pTSCH 6 opCompleted).purgePort p

/-- GATE_SWAPPED (R351). -/
def execGateSwapped (p : Nat) (s : State) : Out :=
  .next (match (s.portOf p).swap with
  | some (g, t) => if s.running ∧ t ≤ s.now then s.gateSwapped p g else s
  | none => s)

/-- GATE_ENTRY_CHANGE: the entry in force changes (R348). -/
def execGateEntryChange (p : Nat) (s : State) : Out :=
  s.event (s.running && (s.portOf p).gate.isSome) fun s => s.setFld pTSCH (F.TSCH.GATE_STATUS_ENTRY p) (s.entryNow p)

/-- TSCH stops: the frames in progress end, and the lists in force and the pending swaps go with its status registers (R38). -/
def State.tschOff (s : State) : State :=
  let s1 := (List.range 8).foldl (fun t p => match (t.portOf p).sending with
    | some (q, f) => t.setQfld F.QTAB.Q_OCC_BYTES q (t.qfld F.QTAB.Q_OCC_BYTES q - f.held)
    | none => t) s
  { s1 with tsch := { s1.tsch with ports := [] } }

end Sys2Proof.Machine
end

