-- ==== Sys2Proof/Machine/Lane.lean ====
section
/-! DEFINITION. The link states of the Ethernet ports (spec/13 R317 to R320, R522), the blind lock of the SDI inputs
(spec/04 R92), and the serial lanes beneath them and beneath ROPE and HOST (spec/15). -/

namespace Sys2Proof.Machine

/-! ## Ethernet ports -/

def ekDown : Nat := 0
def ekAn : Nat := 1
def ekTrain : Nat := 2
def ekAlign : Nat := 3
def ekUp : Nat := 4

def State.ethLink (s : State) (p : Nat) : Nat := s.fld (pETH p) F.ETH.PORT_STATUS_LINK

/-- Pages of the lanes of port `p` (R317). -/
def State.ethLanes (s : State) (p : Nat) : List Nat := (List.range s.portLanes).map fun i => pLANE (p + i)

/-- PORT_STATUS.LINK takes a state; the UP level follows. -/
def State.ethTo (s : State) (p l : Nat) : State :=
  { (s.setFld (pETH p) F.ETH.PORT_STATUS_LINK l).rawTo (pETH p) F.ETH.rawUP (l == ekUp) with
    ethAt := Tab.set 0 s.ethAt p s.time.root }

/-- A bring-up attempt begins: AN, TRAIN or ALIGN by AN_EN and PHY, and its lanes start (R319, R320, R361). -/
def State.ethBegin (s : State) (p : Nat) : State :=
  let phy := s.fld (pETH p) F.ETH.PORT_CFG_PHY
  let s1 := (s.ethLanes p).foldl State.laneStart s
  if phy = 2 then s1.ethTo p ekAlign
  else if s.bit (pETH p) F.ETH.PORT_CFG_AN_EN then s1.ethTo p ekAn
  else (s1.ethLanes p).foldl State.laneTrain (s1.ethTo p ekTrain)

/-- The port goes DOWN and stops its lanes; from UP its queues move or discard (R320, R352, R361). -/
def State.ethDown (s : State) (p : Nat) : State :=
  let s1 := (s.ethLanes p).foldl State.laneStop (s.ethTo p ekDown)
  if s.ethLink p = ekUp then s1.portLost p else s1

/-- A port that is UP loses its link: LINK_DOWN, ERR_COUNT7, its record, and a fatal fault if it carries a gated flow (R276,
R320, R510). -/
def State.ethLost (s : State) (p : Nat) : State :=
  let gated := s.gatedPort p
  let s1 := ((s.raise (pETH p) F.ETH.intLINK_DOWN).err (pETH p) 7).logEv (pETH p) F.ETH.intLINK_DOWN 4 0 []
  let s2 := s1.ethDown p
  if gated then s2.fatal 1 else s2

/-- AN_COMPLETE (R320). -/
def execAnComplete (p : Nat) (s : State) : Out :=
  s.event (decide (p < 8) && s.works (pETH p) && s.ethLink p == ekAn) fun s =>
    (s.ethLanes p).foldl State.laneTrain (s.ethTo p ekTrain)

/-- Lanes of a port whose training has not completed record a failed attempt (R361, R370). -/
def State.ethLanesFail (s : State) (p : Nat) : State :=
  (s.ethLanes p).foldl (fun t l => if t.laneState l = laTrain then t.laneTrainFailed l false else t) s

/-- ETH_ATTEMPT_TIMEOUT (R320, R522): AN without the common ability (`noAbility`) or for 500 ms, TRAIN past the clause's wait
timer, ALIGN for 500 ms. -/
def execEthAttemptTimeout (p : Nat) (noAbility : Bool) (s : State) : Out :=
  let late := decide (s.time.root ≥ Tab.get 0 s.ethAt p + 6000000000)
  s.event (decide (p < 8) && s.works (pETH p) &&
      ((s.ethLink p == ekAn && (noAbility || late)) || s.ethLink p == ekTrain || (s.ethLink p == ekAlign && late))) fun s =>
    if s.ethLink p = ekAn then (s.raise (pETH p) F.ETH.intAN_FAIL).ethDown p
    else if s.ethLink p = ekTrain then (s.ethLanesFail p).ethDown p
    else s.ethDown p

/-- ETH_TRAIN_DONE (R320): every lane of the port has completed its training. -/
def execEthTrainDone (p : Nat) (s : State) : Out :=
  s.event (decide (p < 8) && s.works (pETH p) && s.ethLink p == ekTrain &&
      (s.ethLanes p).all fun l => s.laneState l == laTrack || s.laneState l == laFrozen) fun s => s.ethTo p ekAlign

/-- LINK_UP (R320): alignment and codeword lock on every lane. -/
def execLinkUp (p : Nat) (s : State) : Out :=
  s.event (decide (p < 8) && s.works (pETH p) && s.ethLink p == ekAlign) fun s =>
    (s.ethTo p ekUp).raise (pETH p) F.ETH.intLINK_UP

/-- LINK_DOWN (R320). -/
def execLinkDown (p : Nat) (s : State) : Out :=
  s.event (decide (p < 8) && s.works (pETH p) && s.ethLink p == ekUp) fun s => s.ethLost p

/-- RETRY_MS_EXPIRY (R320). -/
def execRetryMsExpiry (p : Nat) (s : State) : Out :=
  s.event (decide (p < 8) && s.works (pETH p) && s.ethLink p == ekDown &&
      decide (s.time.root ≥ Tab.get 0 s.ethAt p + s.fld (pETH p) F.ETH.LINK_CFG_RETRY_MS * 12000000)) fun s => s.ethBegin p

/-- A write to LANE_MODE_NEXT of ETH0 (R318); in the other ETH pages it is ignored. -/
def State.laneModeNext (p : Nat) (v : Word) (s : State) : State :=
  if p ≠ 0 then s
  else if v.toNat % 4 = 3 then s.reason (pETH 0) Cls.range 0x04
  else
    let s1 := s.setFld (pETH 0) F.ETH.LANE_MODE_NEXT_MODE v.toNat
    (List.range 8).foldl (fun t q => t.setFld (pETH q) F.ETH.PORT_STATUS_MODE_PENDING
      (decide (v.toNat % 4 ≠ t.fld (pETH 0) F.ETH.PORT_STATUS_LANE_MODE)).toNat) s1

/-- LANE_MODE_NEXT_WRITE (R318). -/
def execLaneModeNextWrite (p : Nat) (v : Word) (s : State) : Out :=
  s.onPage (pETH p) fun s => if p < 8 then s.laneModeNext p v else s

/-! ## SDI inputs: the rate search (R92, R363) -/

/-- Number of links of SDIRX `n` (SDI_CFG.LINKS). -/
def State.sdiLinks (s : State) (n : Nat) : Nat := 2 ^ s.act (pSDIRX n) F.SDIRX.SDI_CFG_LINKS

/-- Lane page of link `i` of SDIRX `n` (R94). -/
def sdiLane (n i : Nat) : Nat := pLANE (8 + n + i)

/-- LOCK_STATUS.RATE code of a place in the order of the search: 12G, 12G/1.001, 6G, 6G/1.001, 3G, 3G/1.001. -/
def sdiRateCode (place : Nat) : Nat := match place with | 0 => 5 | 1 => 6 | 2 => 3 | 3 => 4 | 4 => 1 | _ => 2

def State.sdiPlace (s : State) (n i : Nat) : LinkState := Tab.get .reset (s.inputOf (pSDIRX n)).links i

/-- Link `i` of SDIRX `n` tries the rate at place `k` from now. -/
def State.sdiTry (s : State) (n i k : Nat) : State :=
  let x := s.inputOf (pSDIRX n)
  s.setInput (pSDIRX n) { x with links := Tab.upd .reset x.links i fun l => { l with rate := k, since := s.time.root } }

/-- LOCK_STATUS.LINK_LOCK bit of link `i`. -/
def sdiLockBit (i : Nat) : Fld := ⟨0x10C, 4 + i, 1⟩

def State.sdiLocked (s : State) (n i : Nat) : Bool := s.bit (pSDIRX n) (sdiLockBit i)

/-- The lane of link `i` searches again from 12G (R363). -/
def State.sdiSearch (s : State) (n i : Nat) : State :=
  let l := sdiLane n i
  let s1 := if s.laneState l = laFailed ∨ s.laneState l = laDown then s else (s.esRetrained l).laneTo l laAcquire
  let s2 := ((s1.eqReset l).setFld l F.LANE.LANE_STATUS_CDR_LOCK 0).rawTo l F.LANE.rawCDR_LOCK false
  ((s2.setFld l F.LANE.LANE_STATUS_GOOD_WINDOWS 0).setFld l F.LANE.LANE_INFO_RATE 0).sdiTry n i 0

/-- Link `i` of SDIRX `n` loses lock and searches again: LOCK_LOST, ERR_COUNT1 (R92). -/
def State.sdiLose (s : State) (n i : Nat) : State :=
  let p := pSDIRX n
  let s1 :=
    if s.sdiLocked n i then
      ((((s.setFld p (sdiLockBit i) 0).setFld p F.SDIRX.LOCK_STATUS_LOCKED 0).rawTo p F.SDIRX.rawLOCKED false).raise p
        F.SDIRX.intLOCK_LOST).err p 1
    else s
  (if i = 0 then s1.setFld p F.SDIRX.LOCK_STATUS_RATE 0 else s1).sdiSearch n i

/-- SDIRX `n` enters ON: each lane of its link set starts its search (R92, R361). -/
def State.sdiEnters (s : State) (n : Nat) : State :=
  (List.range (s.sdiLinks n)).foldl (fun t i => (t.laneStart (sdiLane n i)).sdiTry n i 0) s

/-- SDIRX `n` leaves ON: its lanes stop (R361). -/
def State.sdiLeaves (s : State) (n links : Nat) : State :=
  (List.range links).foldl (fun t i => t.laneStop (sdiLane n i)) s

/-- SDI_RATE_DWELL (R92): 2 ms at a rate without lock. -/
def execSdiRateDwell (n i : Nat) (s : State) : Out :=
  s.event (decide (n < 16) && s.works (pSDIRX n) && decide (i < s.sdiLinks n) && !s.sdiLocked n i &&
      !s.bit (sdiLane n i) F.LANE.LANE_STATUS_CDR_LOCK && decide (s.time.root ≥ (s.sdiPlace n i).since + 24000000)) fun s =>
    (s.eqReset (sdiLane n i)).sdiTry n i (((s.sdiPlace n i).rate + 1) % 6)

/-- SDI_LINK_LOCK (R92): four consecutive lines with their timing reference words on a lane whose clock is recovered. -/
def execSdiLinkLock (n i : Nat) (s : State) : Out :=
  s.event (decide (n < 16) && s.works (pSDIRX n) && decide (i < s.sdiLinks n) && !s.sdiLocked n i &&
      s.bit (sdiLane n i) F.LANE.LANE_STATUS_CDR_LOCK) fun s =>
    let p := pSDIRX n
    let s1 := s.setFld p (sdiLockBit i) 1
    let s2 := if i = 0 then s1.setFld p F.SDIRX.LOCK_STATUS_RATE (sdiRateCode (s.sdiPlace n 0).rate) else s1
    if (List.range (s.sdiLinks n)).all (s2.sdiLocked n) then
      ((s2.setFld p F.SDIRX.LOCK_STATUS_LOCKED 1).rawTo p F.SDIRX.rawLOCKED true).raise p F.SDIRX.intLOCKED
    else s2

/-- SDI_LOCK_LOSS (R92). -/
def execSdiLockLoss (n i : Nat) (s : State) : Out :=
  s.event (decide (n < 16) && s.works (pSDIRX n) && decide (i < s.sdiLinks n) && s.sdiLocked n i) fun s => s.sdiLose n i

/-! ## Lanes and their owners (R354) -/

/-- KIND of lane `n` (R354). -/
def laneKind (n : Nat) : Nat := if n < 8 then 0 else if n < 24 then 1 else if n < 26 then 2 else if n < 34 then 3 else 4

/-- DFE taps of a lane (R354). -/
def laneTaps (n : Nat) : Nat := match laneKind n with | 0 => 12 | 2 => 0 | _ => 5

/-- The lane has a receiver, a transmitter (R354). -/
def laneRx (n : Nat) : Bool := laneKind n != 2
def laneTx (n : Nat) : Bool := laneKind n != 1

/-- The SDIRX instance whose link set holds input `i`: the page in use that assembles it, else its own (R94). -/
def State.sdiOwner (s : State) (i : Nat) : Nat :=
  if !s.countsOff (pSDIRX (2 * (i / 2))) && s.act (pSDIRX (2 * (i / 2))) F.SDIRX.SDI_CFG_LINKS == 1 then 2 * (i / 2)
  else if !s.countsOff (pSDIRX (4 * (i / 4))) && s.act (pSDIRX (4 * (i / 4))) F.SDIRX.SDI_CFG_LINKS == 2 then 4 * (i / 4)
  else i

/-- The ETH port of lane `n` (R317). -/
def State.lanePort (s : State) (n : Nat) : Nat := n / s.portLanes * s.portLanes

/-- The page of the lane's owner (R354). -/
def State.laneOwner (s : State) (n : Nat) : Nat :=
  match laneKind n with
  | 0 => pETH (s.lanePort n)
  | 1 => pSDIRX (s.sdiOwner (n - 8))
  | 2 => pSDITX (n - 24)
  | 3 => pHOST
  | _ => pROPE

/-- Lanes of the same owner. -/
def State.laneSiblings (s : State) (n : Nat) : List Nat := (List.range 38).filter fun m => m != n && s.laneOwner m == s.laneOwner n

/-- The lane trains without a partner: SDI inputs, and Ethernet with PHY 2 (R354, R360). -/
def State.laneBlind (s : State) (n : Nat) : Bool :=
  laneKind n == 1 || (laneKind n == 0 && s.fld (pETH (s.lanePort n)) F.ETH.PORT_CFG_PHY == 2)

def State.laneOf (s : State) (n : Nat) : LaneState := Tab.get .reset s.lane n

def State.setLane (s : State) (n : Nat) (x : LaneState) : State := { s with lane := Tab.set .reset s.lane n x }

/-! ## Adaptation (R357 to R361) -/

/-- Tap `k` of a lane (0-based), signed, from the DFE or BASE_DFE registers at `base`. -/
def State.tap (s : State) (p base k : Nat) : Int :=
  let v := s.fld p ⟨base + 4 * (k / 4), 8 * (k % 4), 8⟩
  if v < 128 then v else (v : Int) - 256

def State.setTap (s : State) (p base k : Nat) (v : Int) : State := s.setFld p ⟨base + 4 * (k / 4), 8 * (k % 4), 8⟩ (v % 256).toNat

def clampInt (lo hi v : Int) : Int := max lo (min hi v)

/-- Move PEAK and the taps by the window's updates, within their ranges (R356, R357); a running eye-scan point is disturbed by
a move (R364). -/
def State.adapt (s : State) (n : Nat) (dPeak : Int) (dTaps : List Int) : State :=
  let p := pLANE n
  let s1 := s.setFld p F.LANE.CTLE_PEAK (clampInt 0 31 ((s.fld p F.LANE.CTLE_PEAK : Int) + dPeak)).toNat
  let s2 := (List.range (laneTaps n)).foldl (fun t k => t.setTap p 0x128 k (clampInt (-128) 127 (t.tap p 0x128 k + dTaps.getD k 0))) s1
  if s2.regs = s.regs ∨ !s.bit p F.LANE.ES_STATUS_BUSY then s2 else s2.setFld p F.LANE.ES_STATUS_DISTURBED 1

/-- The setting has left its bounds around the baseline (R359). -/
def State.outOfBounds (s : State) (n : Nat) : Bool :=
  let p := pLANE n
  decide (((s.fld p F.LANE.CTLE_PEAK : Int) - s.fld p F.LANE.BASE_CTLE_PEAK).natAbs > s.fld p F.LANE.BOUNDS_CTLE_BOUND) ||
    (List.range (laneTaps n)).any fun k => decide ((s.tap p 0x128 k - s.tap p 0x138 k).natAbs > s.fld p F.LANE.BOUNDS_DFE_BOUND)

/-- CTLE and every tap return to the baseline: BOUND_REVERT, ERR_COUNT1 (R359). -/
def State.boundRevert (s : State) (n : Nat) : State :=
  let p := pLANE n
  let s1 := s.setReg (F.LANE.CTLE.addr p) (s.reg (F.LANE.BASE_CTLE.addr p))
  let s2 := [0, 1, 2].foldl (fun t i => t.setReg ((F.LANE.DFE i).addr p) (s.reg ((F.LANE.BASE_DFE i).addr p))) s1
  let s3 := if s.bit p F.LANE.ES_STATUS_BUSY then s2.setFld p F.LANE.ES_STATUS_DISTURBED 1 else s2
  (s3.raise p F.LANE.intBOUND_REVERT).err p 1

/-- A TRACK lane freezes: FROZE, ERR_COUNT0 (R358, R361). -/
def State.laneFreeze (s : State) (n : Nat) : State :=
  let p := pLANE n
  let s1 := ((s.laneTo p laFrozen).raise p F.LANE.intFROZE).err p 0
  if s.bit p F.LANE.ES_STATUS_BUSY then s1.setLane n { s1.laneOf n with esFrozen := true } else s1

/-- ADAPT_WINDOW_END (R357 to R361): the window of lane `n` saw `density` transitions and `balance` of its rarest level, and
its updates are `dPeak` and `dTaps`. -/
def execAdaptWindowEnd (n density balance : Nat) (dPeak : Int) (dTaps : List Int) (s : State) : Out :=
  let p := pLANE n
  s.event (decide (n < 38) && laneRx n && s.works p && s.laneState p != laDown && s.laneState p != laFailed &&
      decide (density ≤ 4096) && decide (balance ≤ 4096)) fun s =>
    let st := s.laneState p
    let good := decide (density ≥ s.fld p F.LANE.ADAPT_THRESH_DENSITY_MIN) && decide (balance ≥ s.fld p F.LANE.ADAPT_THRESH_BAL_MIN)
    let s1 := (s.setFld p F.LANE.ADAPT_STATS_DENSITY density).setFld p F.LANE.ADAPT_STATS_BALANCE balance
    let s2 := if good && (st == laAcquire || st == laTrack) && s.bit p F.LANE.LANE_CFG_ADAPT_EN then s1.adapt n dPeak dTaps else s1
    let s3 := if st == laTrack && s2.bit p F.LANE.LANE_CFG_BOUND_EN && s2.outOfBounds n then s2.boundRevert n else s2
    let s4 := if (s3.laneOf n).snap && st == laTrack then (s3.laneBaseline p) else s3
    let s5 := s4.setLane n { s4.laneOf n with snap := false }
    let count := if good then min 16 (s.fld p F.LANE.LANE_STATUS_GOOD_WINDOWS + 1) else 0
    let s6 := s5.setFld p F.LANE.LANE_STATUS_GOOD_WINDOWS count
    if st = laTrack then (if good then s6 else s6.laneFreeze n)
    else if st = laFrozen then
      (if count = 16 ∧ !s.bit p F.LANE.LANE_STATUS_HOST_HOLD then (s6.laneTo p laTrack).raise p F.LANE.intRESUMED else s6)
    else if st = laAcquire ∧ s.laneBlind n ∧ s.bit p F.LANE.LANE_STATUS_CDR_LOCK ∧ count = 16 then s6.laneTrained p
    else s6

/-! ## LANE_CTRL -/

/-- A control of lane `n` acts while its page does its work. -/
def State.onLane (s : State) (n : Nat) (f : State → State) : State :=
  if n < 38 ∧ s.works (pLANE n) then f s else s

/-- Another lane of the owner is in ACQUIRE or TRAIN (R369). -/
def State.laneBusy (s : State) (n : Nat) : Bool :=
  (s.laneSiblings n).any fun m => s.laneState (pLANE m) == laAcquire || s.laneState (pLANE m) == laTrain

/-- LANE_CTRL.RETRAIN (R369); in the FABRIC cycle of a loss of clock recovery it is ignored. -/
def State.laneCtrlRetrain (n : Nat) (s : State) : State :=
  let p := pLANE n
  if (s.laneOf n).lostAt = some s.fabric then s
  else if laneKind n = 2 then s.refuse p Cls.range 0x11
  else if s.laneBusy n then s.refuse p Cls.conflict 0x14
  else match laneKind n with
    | 0 =>
      let port := s.lanePort n
      if s.ethLink port = ekUp then
        ((s.esRetrained p).ethLost port).laneAcquire p
      else s
    | 1 => s.sdiLose (s.sdiOwner (n - 8)) (n - 8 - s.sdiOwner (n - 8))
    | 3 => s.refuse p Cls.conflict 0x15
    | _ => s.ropeRetrain (n - 34)

/-- LANE_RETRAIN (R369). -/
def execLaneRetrain (n : Nat) (s : State) : Out := s.onPage (pLANE n) fun s => s.onLane n (State.laneCtrlRetrain n)

/-- LANE_CTRL.FREEZE (R358). -/
def State.laneCtrlFreeze (n : Nat) (s : State) : State :=
  if s.laneState (pLANE n) = laTrack then (s.laneFreeze n).setFld (pLANE n) F.LANE.LANE_STATUS_HOST_HOLD 1 else s

/-- FREEZE (R358). -/
def execFreeze (n : Nat) (s : State) : Out := s.onPage (pLANE n) fun s => s.onLane n (State.laneCtrlFreeze n)

/-- LANE_CTRL.UNFREEZE (R358). -/
def State.laneCtrlUnfreeze (n : Nat) (s : State) : State :=
  (s.setFld (pLANE n) F.LANE.LANE_STATUS_HOST_HOLD 0).setFld (pLANE n) F.LANE.LANE_STATUS_GOOD_WINDOWS 0

/-- UNFREEZE (R358). -/
def execUnfreeze (n : Nat) (s : State) : Out := s.onPage (pLANE n) fun s => s.onLane n (State.laneCtrlUnfreeze n)

/-- LANE_CTRL.SNAPSHOT: ignored unless the lane is in TRACK (R360). -/
def State.laneCtrlSnapshot (n : Nat) (s : State) : State :=
  if s.laneState (pLANE n) = laTrack then s.setLane n { s.laneOf n with snap := true } else s

/-- SNAPSHOT_BASELINE (R360). -/
def execSnapshotBaseline (n : Nat) (s : State) : Out := s.onPage (pLANE n) fun s => s.onLane n (State.laneCtrlSnapshot n)

/-- `k` transmitted bits of lane `n` are inverted: ERR_COUNT4; in near-end loopback a locked checker counts them (R366 to
R368). -/
def State.injectBits (n k : Nat) (s : State) : State :=
  let p := pLANE n
  if laneTx n then
    let s1 := s.errBy p 4 k
    if s.fld p F.LANE.LANE_CFG_LOOPBACK = 1 ∧ s.bit p F.LANE.PRBS_STATUS_CHK_LOCK then s1.addSat p F.LANE.PRBS_ERRORS k else s1
  else s

/-- INJECT_SINGLE (R367). -/
def execInjectSingle (n : Nat) (s : State) : Out := s.onPage (pLANE n) fun s => s.onLane n (State.injectBits n 1)

/-- A burst of BURST_LEN bits. -/
def State.laneCtrlBurst (n : Nat) (s : State) : State := s.injectBits n (s.fld (pLANE n) F.LANE.TEST_CFG_BURST_LEN)

/-- INJECT_BURST (R367). -/
def execInjectBurst (n : Nat) (s : State) : Out := s.onPage (pLANE n) fun s => s.onLane n (State.laneCtrlBurst n)

/-! ## Eye scan (R364) -/

/-- A field of ES_CTRL is out of range for lane `n` (R364). -/
def State.esOutOfRange (s : State) (n : Nat) : Bool :=
  let p := pLANE n
  let h := s.fld p F.LANE.ES_CTRL_H
  let eye := s.fld p F.LANE.ES_CTRL_EYE
  let d := s.fld p F.LANE.ES_CTRL_DWELL
  (decide (32 ≤ h) && decide (h < 96)) || s.fld p F.LANE.ES_CTRL_V == 128 || eye == 3 || (laneKind n != 0 && eye != 1) ||
    decide (d < 10) || decide (40 < d)

/-- The reason for which an eye-scan point is refused (R364, in the order of R44 and of the detail codes). -/
def State.esRefusal (s : State) (n : Nat) : Option (Nat × Nat) :=
  let st := s.laneState (pLANE n)
  if s.esOutOfRange n then some (Cls.range, 0x10)
  else if laneKind n = 2 then some (Cls.range, 0x11)
  else if st = laDown ∨ st = laAcquire ∨ st = laTrain then some (Cls.conflict, 0x14)
  else none

/-- LANE_CTRL.ES_START (R364). -/
def State.laneCtrlEsStart (n : Nat) (s : State) : State :=
  let p := pLANE n
  match s.esRefusal n with
  | some (c, d) => s.refuse p c d
  | none =>
    (((s.setFld p F.LANE.ES_STATUS_DONE 0).setFld p F.LANE.ES_STATUS_BUSY 1).setFld p F.LANE.ES_STATUS_DISTURBED 0).setLane n
      { s.laneOf n with esFrozen := s.laneState p == laFrozen }

/-- ES_START (R364). -/
def execEsStart (n : Nat) (s : State) : Out := s.onPage (pLANE n) fun s => s.onLane n (State.laneCtrlEsStart n)

/-- LANE_CTRL.ES_STOP (R364). -/
def State.laneCtrlEsStop (n : Nat) (s : State) : State := s.setFld (pLANE n) F.LANE.ES_STATUS_BUSY 0

/-- ES_STOP (R364). -/
def execEsStop (n : Nat) (s : State) : Out := s.onPage (pLANE n) fun s => s.onLane n (State.laneCtrlEsStop n)

/-- ES_DONE (R364): the point of lane `n` has compared 2^DWELL UI and found `errs` mismatches. -/
def execEsDone (n errs : Nat) (s : State) : Out :=
  let p := pLANE n
  s.event (decide (n < 38) && s.works p && s.bit p F.LANE.ES_STATUS_BUSY && decide (errs ≤ 2 ^ s.fld p F.LANE.ES_CTRL_DWELL)) fun s =>
    (((s.setFld p F.LANE.ES_STATUS_BUSY 0).setFld p F.LANE.ES_STATUS_DONE 1).put64L p F.LANE.ES_ERR_LO errs).raise p
      F.LANE.intES_DONE

/-! ## Test controls (R355, R366 to R368) -/

/-- A write of FFE (R355): an SDI out lane takes it in every state, the others while their owner is OFF. -/
def State.ffeWrite (n : Nat) (v : Word) (s : State) : State :=
  let p := pLANE n
  let pre := F.LANE.FFE_PRE.of v
  let main := F.LANE.FFE_MAIN.of v
  let post := F.LANE.FFE_POST.of v
  if !laneTx n then s
  else if !ffeLegal pre main post then s.reason p Cls.range 0x10
  else if laneKind n ≠ 2 ∧ !s.countsOff (s.laneOwner n) then s.reason p Cls.locked 0x07
  else ((s.setFld p F.LANE.FFE_PRE pre).setFld p F.LANE.FFE_MAIN main).setFld p F.LANE.FFE_POST post

/-- FFE_WRITE (R355). -/
def execFfeWrite (n : Nat) (v : Word) (s : State) : Out := s.onPage (pLANE n) fun s => if n < 38 then s.ffeWrite n v else s

/-- A write of TEST_CFG (R366, R367). -/
def State.testCfgWrite (n : Nat) (v : Word) (s : State) : State :=
  let p := pLANE n
  let old := s.reg (F.LANE.TEST_CFG.addr p)
  let exp := F.LANE.TEST_CFG_RATE_EXP.of v
  if F.LANE.TEST_CFG_BURST_LEN.of v = 0 ∨ (exp ≠ 0 ∧ (exp < 4 ∨ 40 < exp)) then s.reason p Cls.range 0x03
  else if F.LANE.TEST_CFG_GEN_PAT.of v > 4 ∨ F.LANE.TEST_CFG_CHK_PAT.of v > 4 then s.reason p Cls.range 0x04
  else if F.LANE.TEST_CFG_GEN_EN.of v = 1 ∧ F.LANE.TEST_CFG_GEN_EN.of old = 0 ∧ !s.countsOff (s.laneOwner n) then
    s.reason p Cls.conflict 0x13
  else
    let s1 := s.setReg (F.LANE.TEST_CFG.addr p) (v &&& 0x003FFFFF#32)
    if F.LANE.TEST_CFG_CHK_EN.of v = F.LANE.TEST_CFG_CHK_EN.of old then s1
    else if F.LANE.TEST_CFG_CHK_EN.of v = 1 then
      ((s1.setFld p F.LANE.PRBS_ERRORS 0).put64L p F.LANE.PRBS_BITS_LO 0).setFld p F.LANE.PRBS_STATUS_CHK_LOCK 0
    else s1.setFld p F.LANE.PRBS_STATUS_CHK_LOCK 0

/-- TEST_CFG_WRITE (R366). -/
def execTestCfgWrite (n : Nat) (v : Word) (s : State) : Out :=
  s.onPage (pLANE n) fun s => if n < 38 then s.testCfgWrite n v else s

/-- A write of LANE_CFG: ADAPT_EN and BOUND_EN always; LOOPBACK and the polarities while the owner is OFF (R368). -/
def State.laneCfgWrite (n : Nat) (v : Word) (s : State) : State :=
  let p := pLANE n
  let s1 := (s.setFld p F.LANE.LANE_CFG_ADAPT_EN (F.LANE.LANE_CFG_ADAPT_EN.of v)).setFld p F.LANE.LANE_CFG_BOUND_EN
    (F.LANE.LANE_CFG_BOUND_EN.of v)
  let lb := F.LANE.LANE_CFG_LOOPBACK.of v
  if v.toNat % 16 = (s.reg (F.LANE.LANE_CFG.addr p)).toNat % 16 then s1
  else if lb = 3 then s1.reason p Cls.range 0x04
  else if lb ≠ 0 ∧ (!laneRx n || !laneTx n) then s1.reason p Cls.range 0x11
  else if !s.countsOff (s.laneOwner n) then s1.reason p Cls.conflict 0x13
  else ((s1.setFld p F.LANE.LANE_CFG_POL_TX (F.LANE.LANE_CFG_POL_TX.of v)).setFld p F.LANE.LANE_CFG_POL_RX
    (F.LANE.LANE_CFG_POL_RX.of v)).setFld p F.LANE.LANE_CFG_LOOPBACK lb

/-- LOOPBACK_WRITE (R368). -/
def execLoopbackWrite (n : Nat) (v : Word) (s : State) : Out :=
  s.onPage (pLANE n) fun s => if n < 38 then s.laneCfgWrite n v else s

/-- The lane carries its owner's traffic. -/
def State.laneCarries (s : State) (n : Nat) : Bool :=
  match laneKind n with
  | 0 => s.ethLink (s.lanePort n) == ekUp
  | 1 => s.sdiLocked (s.sdiOwner (n - 8)) (n - 8 - s.sdiOwner (n - 8))
  | 3 => s.bit pHOST F.HOST.LINK_STATUS_DL_UP
  | 4 => s.linkActive && hasLane (s.rp F.ROPE.ROPE_STATUS_TX_MASK) (n - 34)
  | _ => false

/-- CHECKER_LOCK (R366): 64 consecutive bits match. On a lane that carries traffic the checker never locks. -/
def execCheckerLock (n : Nat) (s : State) : Out :=
  let p := pLANE n
  s.event (decide (n < 38) && laneRx n && s.works p && s.bit p F.LANE.TEST_CFG_CHK_EN && !s.bit p F.LANE.PRBS_STATUS_CHK_LOCK &&
      !s.laneCarries n) fun s =>
    (s.setFld p F.LANE.PRBS_STATUS_CHK_LOCK 1).raise p F.LANE.intCHK_LOCK

/-- CHECKER_LOST (R366): more than 16 of 64 bits mismatch; `bits` were compared and `errs` mismatched since it locked. -/
def execCheckerLost (n bits errs : Nat) (s : State) : Out :=
  let p := pLANE n
  s.event (decide (n < 38) && s.works p && s.bit p F.LANE.PRBS_STATUS_CHK_LOCK) fun s =>
    let s1 := (s.addSat p F.LANE.PRBS_ERRORS errs).put64L p F.LANE.PRBS_BITS_LO
      (min (s.live64 p F.LANE.PRBS_BITS_LO + bits) (2 ^ 48 - 1))
    ((s1.setFld p F.LANE.PRBS_STATUS_CHK_LOCK 0).incFld p F.LANE.PRBS_STATUS_LOCK_LOSSES).raise p F.LANE.intCHK_LOST

/-- RATE_INJECTION (R367): RATE_EXP selects one more bit. -/
def execRateInjection (n : Nat) (s : State) : Out :=
  let p := pLANE n
  s.event (decide (n < 38) && s.works p && s.fld p F.LANE.TEST_CFG_RATE_EXP != 0) (State.injectBits n 1)

/-! ## Training and clock recovery (R361, R370) -/

/-- LANE_TRAIN_DONE (R360, R361): the training of a lane completes, or its blind acquisition. -/
def execLaneTrainDone (n : Nat) (s : State) : Out :=
  let p := pLANE n
  s.event (decide (n < 38) && laneRx n && s.works p &&
      (s.laneState p == laTrain || (s.laneState p == laAcquire && s.laneBlind n && s.bit p F.LANE.LANE_STATUS_CDR_LOCK &&
        s.fld p F.LANE.LANE_STATUS_GOOD_WINDOWS == 16))) fun s =>
    if s.laneState p = laTrain ∧ (laneKind n = 0 ∨ laneKind n = 3) then (s.ffeTrained p (laneKind n == 3)).laneTrained p else s.laneTrained p

/-- LANE_TRAIN_FAIL (R361, R370): the training of an Ethernet or PCIe lane finds no working setting. A Rope lane's attempt ends
in ROPE_RETRAIN_RESULT or TRAIN_MS_EXPIRY. -/
def execLaneTrainFail (n : Nat) (s : State) : Out :=
  let p := pLANE n
  s.event (decide (n < 38) && s.works p && s.laneState p == laTrain && (laneKind n == 0 || laneKind n == 3)) fun s =>
    let s1 := s.laneTrainFailed p (laneKind n == 3)
    if laneKind n = 0 then (if s1.ethLink (s.lanePort n) = ekUp then s1.ethLost (s.lanePort n) else s1.ethDown (s.lanePort n)) else s1

/-- The lane is in TRACK or FROZEN (R361). -/
def State.laneTracks (s : State) (p : Nat) : Bool := s.laneState p == laTrack || s.laneState p == laFrozen

/-- CDR_LOST (R361): clock recovery loses lock. A TRACK or FROZEN lane leaves its state; a lane that was not yet there stays in
ACQUIRE or TRAIN without its clock, and an SDI lane searches again (R92, R363). -/
def execCdrLost (n : Nat) (s : State) : Out :=
  let p := pLANE n
  s.event (decide (n < 38) && laneRx n && s.works p && (s.laneTracks p || s.bit p F.LANE.LANE_STATUS_CDR_LOCK)) fun s =>
    let s1 := if s.laneTracks p then ((s.raise p F.LANE.intCDR_LOST).err p 2).laneTo p (if laneKind n = 1 then laAcquire else laDown)
      else s
    let s2 := ((s1.setFld p F.LANE.LANE_STATUS_CDR_LOCK 0).rawTo p F.LANE.rawCDR_LOCK false).setLane n
      { s1.laneOf n with lostAt := some s.fabric }
    if laneKind n = 1 then s2.sdiLose (s.sdiOwner (n - 8)) (n - 8 - s.sdiOwner (n - 8)) else s2

/-- CDR_LOCK (R361, R363): clock recovery locks; the rate of an SDI lane is fixed and the good windows count anew. -/
def execCdrLock (n : Nat) (s : State) : Out :=
  let p := pLANE n
  s.event (decide (n < 38) && laneRx n && s.works p && !s.bit p F.LANE.LANE_STATUS_CDR_LOCK &&
      (s.laneState p == laAcquire || s.laneState p == laTrain)) fun s =>
    let s1 := ((((s.setFld p F.LANE.LANE_STATUS_CDR_LOCK 1).setFld p F.LANE.LANE_STATUS_SIGNAL 1).rawTo p F.LANE.rawCDR_LOCK
      true).setFld p F.LANE.LANE_STATUS_GOOD_WINDOWS 0)
    if laneKind n = 1 then
      let o := s.sdiOwner (n - 8)
      s1.setFld p F.LANE.LANE_INFO_RATE (sdiRateCode (s.sdiPlace o (n - 8 - o)).rate)
    else s1

/-- A LANE page has left ON: its lane is DOWN, and its owner treats it as R362 says. -/
def State.laneLeft (s : State) (n : Nat) : State :=
  let s1 := s.laneStop (pLANE n)
  match laneKind n with
  | 0 => if s.ethLink (s.lanePort n) = ekUp then s1.ethLost (s.lanePort n) else s1
  | 1 =>
    let o := s.sdiOwner (n - 8)
    if s.sdiLocked o (n - 8 - o) then s1.sdiLose o (n - 8 - o) else s1
  | 2 => s1
  | 3 => s1.hostLaneLost
  | _ => if s.linkUp then s1.ropeLose (n - 34) else s1

/-- A write to LANE_CTRL with several bits: each acts, in ascending order; both injections together act as the burst. -/
def State.laneCtrlWrite (n : Nat) (v : Word) (s : State) : State :=
  let has (b : Nat) : Bool := v.toNat / 2 ^ b % 2 == 1
  let s1 := if has 0 then s.laneCtrlRetrain n else s
  let s2 := if has 1 then s1.laneCtrlFreeze n else s1
  let s3 := if has 2 then s2.laneCtrlUnfreeze n else s2
  let s4 := if has 3 then s3.laneCtrlSnapshot n else s3
  let s5 := if has 5 then s4.laneCtrlBurst n else if has 4 then s4.injectBits n 1 else s4
  let s6 := if has 6 then s5.laneCtrlEsStart n else s5
  if has 7 then s6.laneCtrlEsStop n else s6

/-- A write of ADAPT_THRESH (R357): 0 to 4,096 in each field. -/
def State.threshWrite (n : Nat) (v : Word) (s : State) : State :=
  let p := pLANE n
  if F.LANE.ADAPT_THRESH_DENSITY_MIN.of v > 4096 ∨ F.LANE.ADAPT_THRESH_BAL_MIN.of v > 4096 then s.reason p Cls.range 0x10
  else (s.setFld p F.LANE.ADAPT_THRESH_DENSITY_MIN (F.LANE.ADAPT_THRESH_DENSITY_MIN.of v)).setFld p
    F.LANE.ADAPT_THRESH_BAL_MIN (F.LANE.ADAPT_THRESH_BAL_MIN.of v)

/-- A write of BOUNDS (R359): CTLE_BOUND 1 to 15, DFE_BOUND 1 to 127. -/
def State.boundsWrite (n : Nat) (v : Word) (s : State) : State :=
  let p := pLANE n
  let c := F.LANE.BOUNDS_CTLE_BOUND.of v
  let d := F.LANE.BOUNDS_DFE_BOUND.of v
  if c = 0 ∨ d = 0 ∨ d > 127 then s.reason p Cls.range 0x10
  else (s.setFld p F.LANE.BOUNDS_CTLE_BOUND c).setFld p F.LANE.BOUNDS_DFE_BOUND d

end Sys2Proof.Machine
end

