-- ==== Sys2Proof/Machine/Pair.lean ====
section
/-! DEFINITION. The pair's messages, its controls, digests, planned switch-over, the Echo path and the witness timer
(spec/11). What a message does stands behind the acceptance of its Rope frame (R298, R299). -/

namespace Sys2Proof.Machine

/-- A pair message in a sequenced Rope frame: the frame is accepted, and acts while PAIR is ON (R263, R299). -/
def State.pairMsg (s : State) (seq : Nat) (f : State → State) : State :=
  s.ropeAccept seq fun s => if s.pairOn then f s else s

/-- The peer claim is learned (R262, R266). -/
def State.learnClaim (s : State) (claim : Nat) (primary : Bool) : State :=
  let s1 := (s.setFld pPAIR F.PAIR.PEER_CLAIM claim).setFld pPAIR F.PAIR.PAIR_STATUS_PEER_KNOWN 1
  { s1 with pair := { s1.pair with peerPrimary := primary } }.deriveStep

/-! ## Claims -/

/-- The CLAIM exchange at Rope link activation (R261, R265): the outranked unit becomes STANDBY, the outranking one ACTIVE
unless it has yielded (R278); equal claims and roles set CLAIM_CONFLICT. -/
def State.claimExchange (s : State) (claim : Nat) (primary yielded : Bool) : State :=
  let s1 := { s with pair := { s.pair with exchange := false } }
  if s1.ownClaim = claim ∧ s1.ownPrimary = primary ∧ s1.yielded = yielded then
    (s1.setFld pPAIR F.PAIR.PAIR_STATUS_CLAIM_CONFLICT 1).raise pPAIR F.PAIR.intCLAIM_CONFLICT
  else
    let s2 := s1.setFld pPAIR F.PAIR.PAIR_STATUS_CLAIM_CONFLICT 0
    if s2.isActive then
      if outranks claim primary yielded s2.ownClaim s2.ownPrimary s2.yielded then s2.becomeStandby 5 else s2
    else if !s2.yielded && outranks s2.ownClaim s2.ownPrimary s2.yielded claim primary yielded then
      s2.becomeActive claim 5 fun _ => none
    else s2

/-- CLAIM from the peer (R265, R279, R284). -/
def State.onClaim (claim : Nat) (primary yielded : Bool) (s : State) : State :=
  let s1 := s.learnClaim claim primary
  let s2 := { s1 with pair := { s1.pair with peerYielded := yielded } }
  let s3 := if yielded then s2.dropSwitch else s2
  if s3.pair.exchange then s3.claimExchange claim primary yielded else s3

def execClaimMsg (seq claim : Nat) (primary _active yielded : Bool) (s : State) : Out :=
  .next (s.pairMsg seq (State.onClaim claim primary yielded))

/-! ## Digests -/

/-- Own and peer digest of a row are compared (R267, R274, R287). -/
def State.compareDigests (s : State) (c : Nat) (d e : RowDigest) : State :=
  if d.digest = e.digest then
    if s.chStep c = ncJoining then
      ((s.updChan c fun x => { x with pair := { x.pair with join := none, sender := false, take := [], decisions := [] } }).setStep
        c ncInStep).raise pPAIR F.PAIR.intJOIN_DONE
    else if s.chStep c = ncNotCompared then s.setStep c ncInStep
    else s
  else s.outOfStep c d.k d.n 0

/-- Digests of picture `n` of channel `c` are compared: not while it is OUT_OF_STEP, and of a joining channel only from the
first picture after the refresh (R274, R287). -/
def State.comparing (s : State) (c n : Nat) : Bool :=
  s.pairOn && s.linkActive && s.chanOn c && s.chStep c != ncOutOfStep &&
    (s.chStep c != ncJoining || match (s.chanOf c).pair.join with
      | some (_, last) => decide (last < n)
      | none => true)

/-- Own digest of a row is held, or compared with the peer's if that has come (R274). -/
def State.ownDigest (s : State) (c : Nat) (d : RowDigest) : State :=
  if s.comparing c d.n then
    match (s.chanOf c).pair.peer.find? fun e => e.n == d.n && e.k == d.k with
    | some e => (s.updChan c fun x => { x with pair := { x.pair with peer := x.pair.peer.erase e } }).compareDigests c d e
    | none => s.updChan c fun x => { x with pair := { x.pair with own := x.pair.own ++ [d] } }
  else s

/-- Is row (n, k) after row (m, j). -/
def rowAfter (n k m j : Nat) : Bool := decide (m < n) || (m == n && decide (j < k))

/-- The peer's digest of a row: compared, or held among the last three rows; an earlier or duplicate one is discarded
(R274). -/
def State.peerDigest (s : State) (c : Nat) (e : RowDigest) : State :=
  if s.comparing c e.n then
    match (s.chanOf c).pair.own.find? fun d => d.n == e.n && d.k == e.k with
    | some d => (s.updChan c fun x => { x with pair := { x.pair with own := x.pair.own.erase d } }).compareDigests c d e
    | none =>
      if (s.chanOf c).pair.peer.all fun f => rowAfter e.n e.k f.n f.k then
        s.updChan c fun x => { x with pair := { x.pair with peer := (x.pair.peer ++ [e]).drop ((x.pair.peer.length + 1) - 3) } }
      else s
  else s

/-- BITS + hdr of a row whose result a joining standby takes from the active (R274, R286). -/
def State.takeBits (s : State) (c n k bits : Nat) : State :=
  match (s.chanOf c).pair.join with
  | some (_, last) =>
    if s.chStep c = ncJoining ∧ !(s.chanOf c).pair.sender ∧ n < last then
      s.updChan c fun x => { x with
        pair := { x.pair with take := x.pair.take ++ [(n, k, bits)] }
        rc := { x.rc with ledger := x.rc.ledger.map fun j => if j.n = n ∧ j.k = k then { j with bits := some bits } else j } }
    else s
  | none => s

/-- DIGEST with its entries (channel, row, frame index, digest, bits) (R274). -/
def State.onDigest (es : List (Nat × Nat × Nat × Nat × Nat)) (s : State) : State :=
  es.foldl (fun t e => (t.takeBits e.1 e.2.2.1 e.2.1 e.2.2.2.2).peerDigest e.1 ⟨e.2.2.1, e.2.1, e.2.2.2.1, e.2.2.2.2, 0⟩) s

def execDigest (seq : Nat) (es : List (Nat × Nat × Nat × Nat × Nat)) (s : State) : Out := .next (s.pairMsg seq (State.onDigest es))

/-- DIGEST_LATE: the peer's digest of the oldest row held is late (R274). -/
def execDigestLate (c : Nat) (s : State) : Out :=
  .next (match (s.chanOf c).pair.own with
  | d :: r =>
    if s.pairOn ∧ s.linkActive ∧ d.due ≤ s.now * 1000 then
      (s.updChan c fun x => { x with pair := { x.pair with own := r } }).outOfStep c d.k d.n 1
    else s
  | [] => s)

/-! ## YIELD, STEP, JOIN_REQ -/

/-- The enabled Echo entry of channel `c`. -/
def State.echoOf (s : State) (c : Nat) : Option Nat :=
  (List.range 8).find? fun e => s.bit pPAIR (F.PAIR.ECHO_CTRL_EN e) && s.fld pPAIR (F.PAIR.ECHO_CTRL_CHAN e) == c

/-- The sequence number at which the gate opens a channel on YIELD (R277). -/
def State.yieldSeq (s : State) (drain : Bool) (carried : List (Nat × Nat)) (c : Nat) : Option Nat :=
  match if drain then none else s.echoOf c with
  | some e => some ((s.fld pPAIR (F.PAIR.ECHO_SEQ e) + 1) % 2 ^ 32)
  | none => (carried.find? fun x => x.1 == c).map fun x => (x.2 + 1) % 2 ^ 32

/-- YIELD: a standby that is not yielded becomes ACTIVE and asks a refresh of every channel that is not IN_STEP (R277). -/
def State.onYield (claim : Nat) (drain : Bool) (carried : List (Nat × Nat)) (s : State) : State :=
  let s1 := (s.learnClaim claim s.pair.peerPrimary).dropSwitch
  let s2 := { s1 with pair := { s1.pair with peerYielded := true } }
  if s2.isActive || s2.yielded then s2
  else
    let s3 := s2.becomeActive claim 1 (s.yieldSeq drain carried)
    s3.chansOn.foldl (fun t c => if t.chStep c = ncInStep then t else t.requestRefresh c 0) s3

/-- A priority frame is accepted once for each P-sequence and answered with P_ACK (R302). -/
def execYieldMsg (p claim : Nat) (drain : Bool) (carried : List (Nat × Nat)) (s : State) : Out :=
  s.event (s.linkActive && p % 256 != s.rope.pRx) fun s =>
    let s1 := { s with rope := { s.rope with pRx := p % 256 } }
    if s1.pairOn then s1.onYield claim drain carried else s1

/-- STEP: the channel is OUT_OF_STEP, or its join fails (R267). -/
def execStepMsg (seq c cause n k : Nat) (s : State) : Out :=
  .next (s.pairMsg seq fun s => if c < 64 ∧ cause < 4 ∧ s.chanOn c then s.outOfStep c k n 2 else s)

/-- JOIN_REQ: the active makes a refresh request pending (R285). -/
def execJoinReq (seq c : Nat) (s : State) : Out :=
  .next (s.pairMsg seq fun s => if c < 64 ∧ s.isActive ∧ s.chanOn c then s.requestRefresh c 0 else s)

/-! ## Planned switch-over (R279, R280) -/

/-- The first frame-cycle start of group `g` at least at counter ns `t`; none while its cadence does not run. -/
def State.frameStartFrom (s : State) (g t : Nat) : Option Nat :=
  if s.running then
    (s.compareOf g).map fun n =>
      let x := (t : Int) - s.cmpOffset n
      let k := if x ≤ 0 then 0 else ((x.toNat - 1) * s.cmpNum n) / (s.cmpDen n * 1000000000) + 1
      (s.fireAt n k).toNat
  else none

def State.refGroup (s : State) : Nat := s.fld pPAIR F.PAIR.PAIR_CFG_REF_GROUP

/-- A switch instant is set; `claim` is the claim that HANDOVER carries (R279). -/
def State.setSwitch (s : State) (fs : Nat) (sender : Bool) (claim : Nat) : State :=
  ({ s with pair := { s.pair with fs := some fs, sender := sender, acked := false, carried := claim } }.setFld pPAIR
    F.PAIR.PAIR_STATUS_HANDOVER_PENDING 1).put64L pPAIR F.PAIR.HANDOVER_AT_LO fs

/-- HANDOVER with F_s and the active's claim. -/
def State.sendHandover (s : State) (fs : Nat) : State := s.ropeSend 0x15 (beBytes fs 8 ++ beBytes s.ownClaim 4)

/-- The active starts a switch: F_s is the first frame-cycle start of REF_GROUP at least 500 µs on (R279). -/
def State.startSwitch (s : State) : State :=
  match s.frameStartFrom s.refGroup (s.now + 500000) with
  | some fs => (s.setSwitch fs true s.ownClaim).sendHandover fs
  | none => s.sendHandover 0

/-- HANDOVER_REQ: the active in step with an unyielded peer replies with F_s, else with 0; also where no cadence gives it an F_s (R279; log
entry 290). -/
def execHandoverReq (seq claim : Nat) (s : State) : Out :=
  .next (s.pairMsg seq fun s =>
    if s.isActive then
      let s1 := s.learnClaim claim s.pair.peerPrimary
      if s1.stepState = 2 ∧ !s1.pair.peerYielded ∧ !s1.countsOff (pGRP s1.refGroup) then s1.startSwitch else s1.sendHandover 0
    else s)

/-- HANDOVER: F_s is set, or NOT_IN_STEP is recorded; IN_STEP_MS restarts after every reply (R279, R280). -/
def execHandover (seq fs claim : Nat) (s : State) : Out :=
  .next (s.pairMsg seq fun s =>
    if s.isActive then s
    else
      let s1 := s.learnClaim claim s.pair.peerPrimary
      let s2 := { s1 with pair := { s1.pair with inStepAt := s.now } }
      if fs = 0 then { s2 with pair := { s2.pair with revert := false } }.refuse pPAIR Cls.conflict 0x12
      else if s2.yielded then s2
      else s2.setSwitch fs false claim)

/-- At F_s the receiver becomes ACTIVE, and the sender STANDBY if HANDOVER was acknowledged (R279). -/
def State.switchInstant (s : State) : State :=
  match s.pair.fs with
  | some fs =>
    if s.pairOn ∧ fs ≤ s.now then
      let cause := if s.pair.revert then 3 else 2
      if s.pair.sender then (if s.pair.acked then s.becomeStandby cause else s.dropSwitch)
      else if s.yielded then s.dropSwitch
      else s.becomeActive s.pair.carried cause fun _ => none
    else s
  | none => s

/-- HANDOVER_REQ with the requester's claim. -/
def State.sendHandoverReq (s : State) : State := s.ropeSend 0x14 (beBytes s.ownClaim 4)

/-- IN_STEP_MS: milliseconds of continuous IN_STEP, saturating (R280). -/
def State.inStepMs (s : State) : Nat :=
  if s.fld pPAIR F.PAIR.PAIR_STATUS_STEP = 2 then min ((s.now - s.pair.inStepAt) / 1000000) 0xFFFFFFFF else 0

/-- REVERT (R280). -/
def execRevert (s : State) : Out :=
  s.event (s.pairOn && s.ownPrimary && !s.isActive && !s.yielded && s.bit pPAIR F.PAIR.PAIR_CFG_REVERT && !s.pair.revert &&
      s.pair.fs.isNone && s.stepState == 2 && decide (s.fld pPAIR F.PAIR.HOLD_OFF_MS ≤ s.inStepMs)) fun s =>
    { s with pair := { s.pair with revert := true } }.sendHandoverReq

/-- PAIR_CTRL.HANDOVER; a REF_GROUP whose cadence does not run gives no F_s and is refused as one whose page is OFF (R279; log entry
290). -/
def State.pairHandover (s : State) : State :=
  if !s.pairOn then s
  else if s.stepState ≠ 2 then s.refuse pPAIR Cls.conflict 0x12
  else if s.countsOff (pGRP s.refGroup) ∨ (s.frameStartFrom s.refGroup s.now).isNone then s.refuse pPAIR Cls.timing 0x0D
  else if s.isActive then s.startSwitch
  else { s with pair := { s.pair with revert := false } }.sendHandoverReq

def execPairCtrlHandover (s : State) : Out := s.onPage pPAIR State.pairHandover

/-- PAIR_CTRL.YIELD_NOW: the fatal fault of bit 7 on an ACTIVE unit (R276, R291). -/
def State.yieldNow (s : State) : State :=
  if !s.pairOn then s else if s.isActive then s.fatal 7 else s.refuse pPAIR Cls.conflict 0x13

def execYieldNow (s : State) : Out := s.onPage pPAIR State.yieldNow

/-- PAIR_CTRL.CLEAR_YIELD (R278). -/
def State.clearYield (s : State) : State :=
  if s.pairOn then (s.setFld pPAIR F.PAIR.PAIR_STATUS_YIELDED 0).sendClaim else s

def execClearYield (s : State) : Out := s.onPage pPAIR State.clearYield

/-- PAIR_CTRL.JOIN_NOW: JOIN_REQ for every OUT_OF_STEP channel (R285). -/
def State.joinNow (s : State) : State :=
  if s.pairOn then
    (s.chansOn.filter fun c => s.chStep c == ncOutOfStep).foldl (fun t c => t.ropeSend 0x13 [BitVec.ofNat 8 c, 0, 0, 0]) s
  else s

def execJoinNow (s : State) : Out := s.onPage pPAIR State.joinNow

/-- A write to PAIR_CFG (0) or CLAIM_INIT (1), accepted only while PAIR is OFF (R260). -/
def State.pairCfgWrite (r : Nat) (v : Word) (s : State) : State :=
  if s.st pPAIR ≠ stOff then s.reason pPAIR Cls.locked 0x07
  else match r with
    | 0 => s.setReg (F.PAIR.PAIR_CFG.addr pPAIR) (v &&& 0x0007FFFF#32)
    | 1 => s.setFld pPAIR F.PAIR.CLAIM_INIT v.toNat
    | _ => s

def execPairCfgWrite (r : Nat) (v : Word) (s : State) : Out := s.onPage pPAIR (State.pairCfgWrite r v)

/-! ## The Echo path and the witness timer -/

/-- An Echo packet with a valid tag (R271, R283). -/
def State.echoTag (s : State) (e claim : Nat) (primary : Bool) (seq : Nat) : State :=
  if claim = s.ownClaim then s
  else
    let s1 := ((s.setFld pPAIR (F.PAIR.ECHO_CLAIM e) claim).setFld pPAIR (F.PAIR.ECHO_SEQ e) seq).learnClaim claim primary
    let s2 := { s1 with pair := { s1.pair with echoAt := s.now } }
    if s2.isActive && outranks claim primary false s2.ownClaim s2.ownPrimary s2.yielded then
      (s2.raise pPAIR F.PAIR.intSAW_HIGHER).becomeStandby 6
    else s2

/-- The witness timer has reached WITNESS_TIMEOUT, and with the Rope link active has not been reported (R272). -/
def State.witnessDue (s : State) : Bool :=
  s.pairOn && !s.chansOn.isEmpty && !s.isActive && !(s.linkActive && s.pair.silent == some s.pair.echoAt) &&
    decide (s.pair.echoAt + s.fld pPAIR F.PAIR.WITNESS_TIMEOUT_US * 1000 ≤ s.now)

/-- WITNESS_TIMEOUT: ECHO_SILENT while the Rope link is active; else a unit that is not yielded takes over (R272, R282). -/
def State.witness (s : State) : State :=
  if s.linkActive then { s with pair := { s.pair with silent := some s.pair.echoAt } }.raise pPAIR F.PAIR.intECHO_SILENT
  else if s.yielded then s
  else
    let s1 := (s.becomeActive s.peerClaim 4 fun _ => none).err pPAIR 4
    let s2 := { s1 with pair := { s1.pair with witness := true } }
    s2.chansOn.foldl (fun t c => if (t.chanOf c).pair.stepAtCut then t else t.requestRefresh c 0) s2

def execWitnessTimeout (s : State) : Out := s.event s.witnessDue State.witness

/-- RETAIN_EXPIRY: packets retained for 16,384 ns are discarded (R269). -/
def execRetainExpiry (c : Nat) (s : State) : Out :=
  s.event (decide (c < 64)) fun s => s.updChan c fun x => { x with out := { x.out with retained := s.kept c } }

/-- The element of the Cairn tag (R270). -/
def State.cairnElement (s : State) : List Byte :=
  BitVec.ofNat 8 (s.fld pPAIR F.PAIR.PAIR_CFG_CAIRN_ID * 16 + 4) :: beBytes s.ownClaim 4 ++
    [BitVec.ofNat 8 (s.ownPrimary.toNat * 128 + (s.fld pPAIR F.PAIR.PAIR_STATUS_STEP == 2 : Bool).toNat * 64 +
      s.pair.witness.toNat * 32)]

/-! ## PAIR and channels enter and leave -/

/-- PAIR enters ON: claim CLAIM_INIT; ACTIVE if a CHAN page is ON, else STANDBY; its messages start with the link (R260,
R264). -/
def State.pairEnters (s : State) : State :=
  let s1 := ({ s with pair := { PairState.reset with echoAt := s.now, inStepAt := s.now } }).setFld pPAIR F.PAIR.CLAIM
    (s.fld pPAIR F.PAIR.CLAIM_INIT)
  let s2 := (List.range 64).foldl (fun t c => t.updChan c fun x => { x with pair := .reset }) s1
  let s3 := if s2.chansOn.isEmpty then s2 else s2.becomeActive 0 8 fun _ => none
  if s3.linkActive then
    ({ s3.setFld pPAIR F.PAIR.PAIR_STATUS_ROPE_UP 1 with pair := { s3.pair with exchange := true } }).sendClaim.deriveStep
  else s3.deriveStep

/-- PAIR has left: nothing of the pair is held (R263). -/
def State.pairLeaves (s : State) : State :=
  (List.range 64).foldl (fun t c => t.updChan c fun x => { x with pair := .reset, out := { x.out with retained := [], opened := none } })
    { s with pair := .reset }

/-- Channel `c` enters ON: the witness timer restarts when no other channel is ON (R272). -/
def State.pairChanOn (s : State) (c : Nat) : State :=
  (if (s.chansOn.filter (· != c)).isEmpty then { s with pair := { s.pair with echoAt := s.now } } else s).deriveStep

/-- Channel `c` has entered OFF: NOT_COMPARED (R267). -/
def State.pairChanOff (s : State) (c : Nat) : State :=
  let s1 := s.updChan c fun x => { x with pair := .reset }
  if s1.pairOn then s1.setStep c ncNotCompared else s1

end Sys2Proof.Machine
end

