-- ==== Sys2Proof/Machine/Task.lean ====
section
/-! DEFINITION. The control cores: threads, waits, atomic flows, the Sump, the command ring and its operations, and the
firmware bank swap (spec/19). -/

namespace Sys2Proof.Machine

/-! ## Threads and lists (R418, R419, R424) -/

def thReady : Nat := 1
def thWaiting : Nat := 2
def thRunning : Nat := 3

def State.thread (s : State) (id : Nat) : Thread := Tab.get .reset s.task.threads id

def State.setThread (s : State) (id : Nat) (t : Thread) : State :=
  { s with task := { s.task with threads := Tab.set .reset s.task.threads id t } }

/-- Threads, as (identifier, thread), that satisfy `q`. -/
def State.threadsWith (s : State) (q : Thread → Bool) : List (Nat × Thread) := s.task.threads.filter fun c => q c.2

/-- READY or WAITING, on chip or in the Sump. -/
def Thread.listed (t : Thread) : Bool := t.state == thReady || t.state == thWaiting

/-- READY or WAITING threads on chip, and in the Sump (R423). -/
def State.onChip (s : State) : List (Nat × Thread) := s.threadsWith fun t => t.listed && !t.sump
def State.inSump (s : State) : List (Nat × Thread) := s.threadsWith fun t => t.listed && t.sump

/-- `a` ranks lower than `b` in the lists: lesser priority; among equals WAITING below READY, then later entry lower
(R424). -/
def Thread.lower (a b : Thread) : Bool :=
  decide (a.prio < b.prio) || (a.prio == b.prio &&
    ((a.state == thWaiting && b.state == thReady) || (a.state == b.state && decide (b.entered < a.entered))))

/-- The lowest of some threads (R424). -/
def lowestThread (l : List (Nat × Thread)) : Option (Nat × Thread) :=
  l.foldl (fun o c => match o with
    | some m => if c.2.lower m.2 then some c else some m
    | none => some c) none

/-- `a` runs before `b`: greater priority, then READY longer (R419). -/
def Thread.before (a b : Thread) : Bool := decide (b.prio < a.prio) || (a.prio == b.prio && decide (a.order < b.order))

/-- The first to run of some threads (R419). -/
def firstThread (l : List (Nat × Thread)) : Option (Nat × Thread) :=
  l.foldl (fun o c => match o with
    | some m => if c.2.before m.2 then some c else some m
    | none => some c) none

/-- The next number for `order` and `entered`. -/
def State.nextSeq (s : State) : State := { s with task := { s.task with seq := s.task.seq + 1 } }

/-- The TASK registers that show threads and commands follow them (TASK_STATUS, THREAD_COUNT, CMD_STATUS, INT_RAW). -/
def State.taskShow (s : State) : State :=
  let busy := (s.threadsWith fun t => t.state == thRunning).foldl (fun m c => m ||| 2 ^ c.2.core) 0
  let low := match lowestThread s.onChip with
    | some c => c.2.prio
    | none => 0
  let run := (s.task.cmds.filter fun c => c.started.isSome).length
  let s1 := ((s.setFld pTASK F.TASK.TASK_STATUS_CORES_BUSY busy).setFld pTASK F.TASK.TASK_STATUS_LOWEST_PRIO low).setFld pTASK
    F.TASK.THREAD_COUNT_ON_CHIP s.onChip.length
  let s2 := (s1.setFld pTASK F.TASK.THREAD_COUNT_IN_SUMP s.inSump.length).rawTo pTASK F.TASK.rawIN_SUMP (!s.inSump.isEmpty)
  (s2.setFld pTASK F.TASK.CMD_STATUS_RUNNING run).setFld pTASK F.TASK.CMD_STATUS_QUEUED (s.task.cmds.length - run)

/-- Thread `id` is evicted to the Sump: ERR_COUNT0, and SUMP_SPILL if the Sump was empty (R424). -/
def State.evict (s : State) (id : Nat) : State :=
  let s1 := if s.inSump.isEmpty then s.raise pTASK F.TASK.intSUMP_SPILL else s
  (s1.setThread id { s1.thread id with sump := true }).err pTASK 0

/-- Thread `id`, as READY or WAITING in `t`, enters the lists (R424). -/
def State.enterLists (s : State) (id : Nat) (t : Thread) : State :=
  let t' := { t with entered := s.task.seq, sump := false }
  let s1 := (s.setThread id { t with state := 0 }).nextSeq
  if s1.onChip.length < 1024 then s1.setThread id t'
  else match lowestThread s1.onChip with
    | some c => if c.2.prio < t.prio then (s1.evict c.1).setThread id t' else s1.setThread id { t' with sump := true }
    | none => s1.setThread id t'

/-- Cores that neither run a thread nor are stopped. -/
def State.idleCores (s : State) : List Nat :=
  (List.range 8).filter fun c => s.task.stopped / 2 ^ c % 2 == 0 &&
    (s.threadsWith fun t => t.state == thRunning && t.core == c).isEmpty

/-- The RUNNING thread that gives way first: least priority, then highest core, on a core that is not stopped (R419). -/
def State.leastRunning (s : State) : Option (Nat × Thread) :=
  (s.threadsWith fun t => t.state == thRunning && s.task.stopped / 2 ^ t.core % 2 == 0).foldl (fun o c => match o with
    | some m => if c.2.prio < m.2.prio ∨ (c.2.prio = m.2.prio ∧ m.2.core < c.2.core) then some c else some m
    | none => some c) none

/-- Each core runs the most urgent READY thread (R419). Which of several idle cores takes a thread is open: a free value. -/
def State.dispatch : Nat → State → State
  | 0, s => s
  | fuel + 1, s =>
    if !s.works pTASK then s
    else match firstThread (s.onChip.filter fun c => c.2.state == thReady) with
      | none => s
      | some c =>
        let idle := s.idleCores
        if !idle.isEmpty then
          let core := idle.getD (s.freeWord.toNat % idle.length) 0
          State.dispatch fuel (s.tookFree.setThread c.1 { c.2 with state := thRunning, core := core, sump := false })
        else match s.leastRunning with
          | some r =>
            if r.2.prio < c.2.prio then
              let s1 := s.setThread c.1 { c.2 with state := thRunning, core := r.2.core, sump := false }
              let s2 := { s1 with task := { s1.task with front := s1.task.front - 1 } }
              State.dispatch fuel (s2.enterLists r.1 { r.2 with state := thReady, order := s2.task.front })
            else s
          | none => s

/-- Dispatch and show. -/
def State.taskRun (s : State) : State := (s.dispatch 16).taskShow

/-! ## Waits (R420, R421) -/

/-- A wait ends with `outcome` (1 EVENT, 2 TIMED_OUT): the thread is READY (R421). -/
def State.endWait (s : State) (id outcome : Nat) : State :=
  let t := s.thread id
  (s.setThread id { t with state := thReady, wait := 0, deadline := none, outcome := outcome, order := s.task.seq,
                           endedAt := s.time.root }).nextSeq

/-- Timed waits, as (identifier, deadline). -/
def State.timedWaits (s : State) : List (Nat × Nat) :=
  (s.threadsWith fun t => t.state == thWaiting).filterMap fun c => c.2.deadline.map fun d => (c.1, d)

/-- Is the deadline of a timed wait due: by the counter, or on TASK's own count of FABRIC cycles at 2/3 ns while TIME does not
run (R420). -/
def State.deadlineDue (s : State) (id d : Nat) : Bool :=
  if s.running then s.reached d
  else decide (d ≤ (s.thread id).ns + (s.fabric - (s.thread id).cycle) * 2 / 3)

/-- Every timed wait whose deadline is due ends TIMED_OUT. -/
def State.expireWaits (s : State) : State :=
  s.timedWaits.foldl (fun t w => if t.deadlineDue w.1 w.2 then t.endWait w.1 2 else t) s

/-- The earliest deadline. -/
def State.firstDeadline (s : State) : Option Nat :=
  s.timedWaits.foldl (fun o w => match o with
    | some d => some (min d w.2)
    | none => some w.2) none

/-- TASK keeps compare 15 loaded with the earliest deadline while TIME runs; a deadline already past fires at the tick in which it is
loaded (R75, R87, R420). While TIME does not run, a deadline already past ends its wait at once. -/
def State.timers (s : State) : State :=
  if !s.running then s.expireWaits
  else match s.firstDeadline with
    | none => (s.setFld pTIME (F.TIME.CMP_CTRL_ARM 15) 0).setCmp 15 { s.cmpOf 15 with fresh := false, late := none }
    | some d =>
      if s.bit pTIME (F.TIME.CMP_CTRL_ARM 15) ∧ (s.cmpOf 15).target = d then s
      else
        let s1 := ((s.setFld pTIME (F.TIME.CMP_CTRL_MODE 15) 0).setFld pTIME (F.TIME.CMP_CTRL_ACTION 15) 3).setFld pTIME
          (F.TIME.CMP_CTRL_ARM 15) 1
        (s1.put64 pTIME (F.TIME.TGT_NS_LO 15) d).newTarget 15 d

/-- A running thread begins to wait. -/
def State.beginWait (s : State) (id kind flow : Nat) (deadline : Option Nat) : State :=
  let t := s.thread id
  s.enterLists id { t with state := thWaiting, wait := kind, flow := flow, deadline := deadline, outcome := 0,
                           cycle := s.fabric, ns := s.now }

/-- TIME has stopped: deadlines are measured on FABRIC cycles from here (R420). -/
def State.taskTimeStop (s : State) : State :=
  s.timedWaits.foldl (fun t w => t.setThread w.1 { t.thread w.1 with cycle := t.fabric, ns := t.now }) s

/-! ## Atomic flows (R422) -/

def State.flow (s : State) (f : Nat) : FlowState := Tab.get .reset s.task.flows f

def State.setFlow (s : State) (f : Nat) (x : FlowState) : State :=
  { s with task := { s.task with flows := Tab.set .reset s.task.flows f x } }

/-- Items of all flows (R422). -/
def State.flowItems (s : State) : Nat := s.task.flows.foldl (fun n c => n + c.2.items.length) 0

/-- A flow that is not in service gives its first item, if a thread posted it, to a thread that waits on the flow (R422). -/
def State.serveFlow (s : State) (f : Nat) : State :=
  let x := s.flow f
  match x.holder, x.items with
  | none, 0 :: rest =>
    match firstThread (s.threadsWith fun t => t.state == thWaiting && t.wait == 2 && t.flow == f) with
    | some c => (s.setFlow f { items := rest, holder := some c.1 }).endWait c.1 1
    | none => s
  | _, _ => s

/-- THREAD_READY (R419, R421): the event of thread `id` is recorded, and its wait ends with EVENT; in the FABRIC cycle in which
its deadline fired the outcome becomes EVENT. -/
def execThreadReady (id : Nat) (s : State) : Out :=
  let t := s.thread id
  s.event (s.works pTASK && ((t.state == thWaiting && t.wait == 1) || (t.outcome == 2 && t.endedAt / 8 == s.fabric))) fun s =>
    if t.state = thWaiting then (s.endWait id 1).timers.taskRun else s.setThread id { t with outcome := 1 }

/-- THREAD_CREATE (R426): firmware creates thread `id` of priority `prio`, or is refused at the limit of R423. -/
def execThreadCreate (id prio : Nat) (s : State) : Out :=
  s.event (s.works pTASK && decide (id < 65536) && decide (prio < 64) && (s.thread id).state == 0) fun s =>
    if s.onChip.length + s.inSump.length + 1 > 1024 + min 64512 (s.fld pTASK F.TASK.SUMP_SIZE_MIB * 4096) then
      ((s.refuse pTASK Cls.capacity 0x12).err pTASK 2).raise pTASK F.TASK.intSUMP_FULL
    else (s.enterLists id { Thread.reset with prio := prio, state := thReady, order := s.task.seq }).taskRun

/-- FLOW_POST (R422): a thread posts an item to flow `f`. -/
def execFlowPost (f : Nat) (s : State) : Out :=
  s.event (s.works pTASK && decide (f < 4096)) fun s =>
    if s.flowItems ≥ 16384 then s.refuse pTASK Cls.capacity 0x1D
    else ((s.setFlow f { s.flow f with items := (s.flow f).items ++ [0] }).serveFlow f).timers.taskRun

/-- The Sump thread that is entitled to an on-chip place (R424): with a place free the most urgent READY thread of the Sump,
else its most urgent WAITING one; with none free a READY one above the lowest on chip. -/
def State.entitled (s : State) : Option Nat :=
  let ready := firstThread (s.inSump.filter fun c => c.2.state == thReady)
  if s.onChip.length < 1024 then
    match ready with
    | some c => some c.1
    | none => (s.inSump.foldl (fun o c => match o with
        | some m => if m.2.lower c.2 then some c else some m
        | none => some c) (none : Option (Nat × Thread))).map Prod.fst
  else match ready, lowestThread s.onChip with
    | some c, some l => if l.2.prio < c.2.prio then some c.1 else none
    | _, _ => none

/-- SUMP_FETCH (R424, R425): the entitled Sump thread `id` comes on chip `ns` after it became entitled; an uncorrectable
entry loses it and takes TASK to FAULT. -/
def execSumpFetch (id ns : Nat) (uncorrectable : Bool) (s : State) : Out :=
  s.event (s.works pTASK && s.entitled == some id && decide (ns ≤ 2000)) fun s =>
    if uncorrectable then
      let s1 := (s.setThread id .reset).logEv pTASK 0x20 6 0 (logHalf 24 id)
      (s1.enterFault pTASK 0x0E).taskShow
    else
      let s1 := if s.onChip.length < 1024 then s else match lowestThread s.onChip with
        | some l => s.evict l.1
        | none => s
      let s2 := (s1.setThread id { s1.thread id with sump := false, entered := s1.task.seq }).nextSeq.err pTASK 1
      (s2.setFld pTASK F.TASK.FETCH_MAX_NS (max (s2.fld pTASK F.TASK.FETCH_MAX_NS) ns)).taskRun

/-- WAIT_DEADLINE_COUNT (R420): while TIME does not run, a deadline falls due on TASK's own count. -/
def execWaitDeadlineCount (id : Nat) (s : State) : Out :=
  s.event (s.works pTASK && !s.running && s.timedWaits.any fun w => w.1 == id && s.deadlineDue id w.2) fun s =>
    (s.endWait id 2).taskRun

/-- TASK_TIMER_FIRE: compare 15 has fired; the waits whose deadline has come end TIMED_OUT (R87, R421). -/
def State.taskTimerFire (s : State) : State := s.expireWaits.timers.taskRun

/-- One tick; as the counter starts, compare 15 takes the earliest deadline (R66, R87, R420). -/
def State.tick (s : State) : State :=
  let t := s.clockTick
  if t.running && !s.running then t.timers else t

/-- TIME_LOAD_AT_PPS: the first PPS_IN edge while TIME is ON and waits (R66, R67); compare 15 takes the earliest deadline (R420). -/
def execTimeLoadAtPps (s : State) : Out :=
  s.event (s.isOn pTIME && s.time.waitPps) fun s => s.startAtPps.sawPps.timers

/-! ## Results of commands (R427 to R430) -/

def State.cmdOf (s : State) (tag : Nat) : Option TaskCmd := s.task.cmds.find? fun c => c.tag == tag

def State.setCmd (s : State) (x : TaskCmd) : State :=
  { s with task := { s.task with cmds := s.task.cmds.map fun c => if c.tag = x.tag then x else c } }

/-- Host addresses of octets `i` to `i + n - 1` of the record that is offered next to ring `r`, in its first descriptor. -/
def State.recordAddrs (s : State) (r i n : Nat) : List Nat :=
  match s.roomFor r (sub32 (s.fld (pDMA r) F.DMA.TAIL) (s.fld (pDMA r) F.DMA.HEAD)) 64 (s.fld (pDMA r) F.DMA.HEAD) with
  | some (d :: _) => if i + n ≤ d.len then (List.range n).map (d.hostAddr + i + ·) else []
  | _ => []

/-- Offer the result records that wait, oldest first, while the result ring is ON (R439). -/
def State.sendResults (s : State) : State :=
  let ring := s.fld pTASK F.TASK.CMD_CFG_RESULT_RING
  if s.ringRole ring 2 then
    s.task.unsent.foldl (fun t b => ((t.offer ring pTASK b).1).raise pTASK F.TASK.intCMD_DONE) { s with task := { s.task with unsent := [] } }
  else s

/-- Write a result record; one recorded while the result ring is not ON waits for it (R427, R428, R439). -/
def State.writeResult (s : State) (op result page tag reason start : Nat) (out : List Byte) : State :=
  let ring := s.fld pTASK F.TASK.CMD_CFG_RESULT_RING
  let rec' := leBytes (op % 256 + result * 0x100 + page * 0x10000 + tag * 2 ^ 32) 8 ++ leBytes reason 8 ++ leBytes start 8 ++
    leBytes s.now 8 ++ (out ++ List.replicate 32 0).take 32
  let at' := s.recordAddrs ring 8 2
  let s1 := { s with task := { s.task with unsent := s.task.unsent ++ [rec'] } }.sendResults
  { s1 with task := { s1.task with last := some (tag, s1.fabric, at') } }

/-- A command's result is recorded: it is no longer outstanding and its flow is free for the next item (R422, R429). -/
def State.cmdEnd (s : State) (x : TaskCmd) (result reason : Nat) (out : List Byte) : State :=
  let f := s.flow x.page
  let s1 := { s with task := { s.task with cmds := s.task.cmds.filter fun c => c.tag != x.tag } }
  let s2 := s1.setFlow x.page
    { items := f.items.filter (· != x.tag + 1), holder := if f.holder = some (65536 + x.tag) then none else f.holder }
  let s3 := s2.writeResult x.op result x.page x.tag reason ((x.started.map Prod.fst).getD 0) out
  ((if result = opRefused then s3.err pTASK 3 else s3).serveFlow x.page).timers.taskRun

/-- A command is refused for a reason of TASK's own (R435). -/
def State.cmdRefuse (s : State) (x : TaskCmd) (cls detail : Nat) : State :=
  (s.refuse pTASK cls detail).cmdEnd x opRefused (reasonCode cls .task detail) []

/-- A command that is to stop ends ABORTED: by an abort with reason ABORTED, by its time limit with CMD_TIMEOUT (R429,
R430). -/
def State.cmdStop (s : State) (x : TaskCmd) (out : List Byte) : State :=
  if x.stop = 2 then
    ((s.refuse pTASK Cls.timing 0x17).err pTASK 5).cmdEnd x opAborted (reasonCode Cls.timing .task 0x17) out
  else ((s.reason pTASK 0 0x02).err pTASK 4).cmdEnd x opAborted 0x0242 out

/-- A command thread may take the command with TAG `tag`: its flow is not in service, its item is the first, and no swap
holds command items (R422, R431, R433). -/
def State.cmdReady (s : State) (x : TaskCmd) : Bool :=
  s.works pTASK && s.task.swapTag.isNone && (s.flow x.page).holder.isNone && (s.flow x.page).items.head? == some (x.tag + 1)

/-- One step of the command with opcode `op` and TAG `tag`: it begins with `first`, or goes on with `next` (R428, R431). -/
def State.cmdStep (s : State) (op tag : Nat) (first next : TaskCmd → State → State) : State :=
  match s.cmdOf tag with
  | none => s
  | some x =>
    if x.op ≠ op then s
    else match x.started with
      | some _ => if s.works pTASK then next x s else s
      | none =>
        if s.cmdReady x then
          let x' := { x with started := some (s.now, s.fabric) }
          let s1 := (s.setFlow x.page { items := (s.flow x.page).items.tail, holder := some (65536 + tag) }).setCmd x'
          (first x' s1).taskShow
        else s

/-! ## Taking command records (R427, R428) -/

/-- Signed value of an octet. -/
def octetInt (b : Byte) : Int := b.toInt

/-- The arguments of an operation and its page are in range (R431, R365). -/
def argsInRange (op page : Nat) (args : List Byte) : Bool :=
  let b (i : Nat) : Nat := (args.getD i 0).toNat
  let i8 (i : Nat) : Int := octetInt (args.getD i 0)
  let unit := unitOf page
  match op with
  | 1 => unit == some .lane
  | 2 => unit == some .memc && decide (b 1 ≠ 0) && decide (leNat ((args.drop 2).take 2) % 512 ≠ 0)
  | 3 => unit == some .lane && decide (-32 ≤ i8 0) && decide (i8 1 ≤ 31) && decide (i8 0 ≤ i8 1) && decide (1 ≤ b 2) &&
      decide (b 2 ≤ 64) && decide (-127 ≤ i8 3) && decide (i8 3 ≤ i8 4) && decide (1 ≤ b 5) && decide (b 6 ≤ 2) &&
      decide (10 ≤ b 7) && decide (b 7 ≤ 40)
  | 4 => unit == some .pair
  | 5 => unit == some .task && decide (1 ≤ leNat ((args.drop 8).take 4)) && decide (leNat ((args.drop 8).take 4) ≤ 2097152)
  | 7 => unit == some .chmb
  | _ => unit == some .task

/-- PAGE is absent for an operation; SELFTEST acts on a page out of service (R428, R431). -/
def State.cmdPageAbsent (s : State) (op page : Nat) : Bool :=
  if op = 7 then (unitOf page).isNone || (s.page page).absence != 0 else s.absent page

/-- The first check of R428 that a command record fails. -/
def State.cmdCheck (s : State) (op page tag : Nat) (args : List Byte) : Option (Nat × Nat) :=
  if op ≤ 7 ∧ !argsInRange op page args then some (Cls.range, 0x03)
  else if op > 7 then some (Cls.range, 0x14)
  else if s.cmdPageAbsent op page then some (Cls.absent, 0x05)
  else if (s.cmdOf tag).isSome then some (Cls.conflict, 0x15)
  else if s.task.cmds.length ≥ 256 then some (Cls.capacity, 0x16)
  else if s.flowItems ≥ 16384 then some (Cls.capacity, 0x1D)
  else none

/-- COMMAND_RECORD (R428): TASK takes the oldest record of CMD_RING, checks it, and posts it to its page's flow or refuses
it. -/
def execCommandRecord (s : State) : Out :=
  let r := s.fld pTASK F.TASK.CMD_CFG_CMD_RING
  s.event (s.works pTASK && s.bit pTASK F.TASK.CMD_CFG_EN) fun s =>
    match s.takeRecord r with
    | none => s
    | some (b, s0) =>
      let w0 := leNat (b.take 8)
      let op := w0 % 256
      let page := w0 / 0x10000 % 0x1000
      let tag := w0 / 2 ^ 32
      let args := (b.drop 16).take 48
      match s0.cmdCheck op page tag args with
      | some (c, d) =>
        ((s0.refuse pTASK c d).writeResult op opRefused page tag (reasonCode c .task d) 0 []).err pTASK 3
      | none =>
        let x : TaskCmd :=
          { op := op, page := page, tag := tag, timeoutMs := leNat ((b.drop 8).take 4), args := args, started := none,
            stop := 0, stopAt := 0, phase := 0, data := [], entries := [] }
        let s1 := s0.setFlow page { s0.flow page with items := (s0.flow page).items ++ [tag + 1] }
        { s1 with task := { s1.task with cmds := s1.task.cmds ++ [x] } }.taskShow

/-- CMD_CFG takes its two rings (R434). -/
def State.cmdRings (s : State) (cr rr : Nat) : State :=
  (s.setFld pTASK F.TASK.CMD_CFG_CMD_RING cr).setFld pTASK F.TASK.CMD_CFG_RESULT_RING rr

/-- CMD_CFG.EN is written 1: the two rings must be ON with their roles (R434). -/
def State.cmdEnable (s : State) (cr rr : Nat) : State :=
  if s.ringRole cr 1 && s.ringRole rr 2 then (s.setFld pTASK F.TASK.CMD_CFG_EN 1).sendResults
  else s.refuse pTASK Cls.dependency 0x13

/-- A write of CMD_CFG (R434): while EN is 1 the rings keep their value. -/
def State.cmdCfgWrite (v : Word) (s : State) : State :=
  let p := pTASK
  let s1 := s.setFld p F.TASK.CMD_CFG_PRIO (F.TASK.CMD_CFG_PRIO.of v)
  let cr := F.TASK.CMD_CFG_CMD_RING.of v
  let rr := F.TASK.CMD_CFG_RESULT_RING.of v
  let en := F.TASK.CMD_CFG_EN.of v
  if s.bit p F.TASK.CMD_CFG_EN then
    let s2 := s1.setFld p F.TASK.CMD_CFG_EN en
    if cr ≠ s.fld p F.TASK.CMD_CFG_CMD_RING ∨ rr ≠ s.fld p F.TASK.CMD_CFG_RESULT_RING then s2.reason p Cls.locked 0x07 else s2
  else if en = 0 then s1.cmdRings cr rr
  else (s1.cmdRings cr rr).cmdEnable cr rr

/-- CMD_CFG_WRITE (R434). -/
def execCmdCfgWrite (v : Word) (s : State) : Out := s.onPage pTASK (State.cmdCfgWrite v)

/-! ## The operations (R431) -/

/-- NOP: completes with no action. -/
def execNop (tag : Nat) (s : State) : Out := .next (s.cmdStep 0 tag (fun x s => s.cmdEnd x opCompleted 0 []) fun _ s => s)

/-- The reason for which a retrain of lane `n` is refused, as its unit records it (R308, R369). -/
def State.retrainRefusal (s : State) (n : Nat) : Option Nat :=
  if laneKind n = 2 then some (reasonCode Cls.range .lane 0x11)
  else if s.laneBusy n then some (reasonCode Cls.conflict .lane 0x14)
  else if laneKind n = 3 then some (reasonCode Cls.conflict .lane 0x15)
  else if laneKind n = 4 ∧ (s.rp F.ROPE.ROPE_STATUS_TRAINING ≠ 0 ∨ !s.linkActive ∨
      lanes4 (dropLane (s.rp F.ROPE.ROPE_STATUS_TX_MASK) (n - 34)) < s.rp F.ROPE.ROPE_CFG_MIN_LANES) then
    some (reasonCode Cls.conflict .rope 0x12)
  else none

/-- OUT of RETRAIN: the lane's STATE, and TRIES of a Rope lane. -/
def State.retrainOut (s : State) (n : Nat) : List Byte :=
  leBytes (s.laneState (pLANE n) + (if laneKind n = 4 then s.rp (rlTRIES (n - 34)) else 0) * 0x100) 8

/-- CMD_RETRAIN: acts as LANE_CTRL.RETRAIN, and completes when the lane reaches TRACK (R369, R431). -/
def execCmdRetrain (tag : Nat) (s : State) : Out :=
  .next (s.cmdStep 1 tag
    (fun x s =>
      let n := instanceOf x.page
      let s1 := s.laneCtrlRetrain n
      match s.retrainRefusal n with
      | some code => s1.cmdEnd x opRefused code (s1.retrainOut n)
      | none => s1)
    (fun x s =>
      let n := instanceOf x.page
      let st := s.laneState x.page
      if st = laTrack then (if x.stop = 0 then s.cmdEnd x opCompleted 0 (s.retrainOut n) else s.cmdStop x (s.retrainOut n))
      else if st = laDown ∨ st = laFailed then
        (if x.stop = 0 then s.cmdEnd x opRefused (s.fld x.page F.PAGE_REASON_CODE) (s.retrainOut n) else s.cmdStop x (s.retrainOut n))
      else s))

/-- One probe of a sweep: PROBE_CFG names the lane, direction, SLOTS and value, and the probe starts (R376). -/
def State.sweepProbe (s : State) (x : TaskCmd) (v : Nat) : State :=
  let b (i : Nat) : Nat := (x.args.getD i 0).toNat
  let p := x.page
  let s1 := ((((s.setFld p F.MEMC.PROBE_CFG_LANE (b 0)).setFld p F.MEMC.PROBE_CFG_DIR (b 0 / 2)).setFld p F.MEMC.PROBE_CFG_SLOTS
    (b 1)).setFld p F.MEMC.PROBE_CFG_VALUE v).setFld p ⟨0x20, F.MEMC.intPROBE_DONE, 1⟩ 0
  (s1.probeStart (instanceOf p)).setCmd { x with phase := 1 + v }

/-- OUT of MEM_SWEEP: LO, HI and the value applied. -/
def sweepOut (lo hi applied : Nat) : List Byte := leBytes (lo % 512 + hi % 512 * 0x10000 + applied % 512 * 2 ^ 32) 8

/-- NEXT_RD or NEXT_WR of the swept byte lane. -/
def sweepNext (args : List Byte) : Fld :=
  let b := (args.getD 0 0).toNat
  ⟨if b / 2 % 2 = 1 then 0x14C else 0x148, if b % 2 = 1 then 16 else 0, 9⟩

/-- The sweep has probed every value: its window is applied, or there is none of MIN_WINDOW steps (R376, R377). `data` holds
the passing values, latest first. -/
def State.sweepWindow (s : State) (x : TaskCmd) : State :=
  let minW := leNat ((x.args.drop 2).take 2) % 512
  match x.data.getLast?, x.data.head? with
  | some lo, some hi =>
    if hi + 1 - lo < minW then s.cmdRefuse x Cls.resource 0x18
    else ((s.setFld x.page (sweepNext x.args) ((lo + hi) / 2)).applyDelays (instanceOf x.page)).setCmd { x with phase := 1000 }
  | _, _ => s.cmdRefuse x Cls.resource 0x18

/-- MEM_SWEEP: probes every delay value and applies the centre of the window (R376, R377, R431). Each execution is one step:
the next probe value once a probe is done, and the end once the apply has taken effect. -/
def execMemSweep (tag : Nat) (s : State) : Out :=
  .next (s.cmdStep 2 tag
    (fun x s => s.sweepProbe x 0)
    (fun x s =>
      let p := x.page
      let lo := x.data.getLast?.getD 0
      let hi := x.data.head?.getD 0
      if x.phase = 1000 then
        if s.bit p F.MEMC.MEMC_STATUS_APPLY_PENDING then s
        else if s.fld p (sweepNext x.args) = s.fld p ⟨(sweepNext x.args).off + 0x40, (sweepNext x.args).lo, 9⟩ then
          s.cmdEnd x opCompleted 0 (sweepOut lo hi ((lo + hi) / 2))
        else s.cmdEnd x opRefused (s.fld p F.PAGE_REASON_CODE) (sweepOut lo hi 0)
      else if (s.memcOf (instanceOf p)).probeLeft > 0 then s
      else
        let v := x.phase - 1
        let x' := if s.fld p F.MEMC.PROBE_RESULT_FAIL = 0 then { x with data := v :: x.data } else x
        if x.stop ≠ 0 then s.cmdStop x' (sweepOut (x'.data.getLast?.getD 0) (x'.data.head?.getD 0) 0)
        else if v < 511 then (s.setCmd x').sweepProbe x' (v + 1)
        else (s.setCmd x').sweepWindow x'))

/-- Number of values from `lo` to `hi` by `step`. -/
def scanCount (lo hi : Int) (step : Nat) : Nat := (hi - lo).toNat / step + 1

/-- Point `i` of an eye scan: (H, V), V from V_MAX down and within it H from H_MIN up (R365). -/
def scanPoint (args : List Byte) (i : Nat) : Int × Int :=
  let i8 (k : Nat) : Int := octetInt (args.getD k 0)
  let b (k : Nat) : Nat := (args.getD k 0).toNat
  let nh := scanCount (i8 0) (i8 1) (b 2)
  (i8 0 + (i % nh : Nat) * (b 2 : Int), i8 4 - (i / nh : Nat) * (b 5 : Int))

/-- Points of an eye scan (R365). -/
def scanPoints (args : List Byte) : Nat :=
  let i8 (k : Nat) : Int := octetInt (args.getD k 0)
  let b (k : Nat) : Nat := (args.getD k 0).toNat
  scanCount (i8 0) (i8 1) (b 2) * scanCount (i8 3) (i8 4) (b 5)

/-- Write an eye-scan result at its host address (R365). -/
def State.scanWrite (s : State) (x : TaskCmd) (points : Nat) : State :=
  let n := instanceOf x.page
  let b (k : Nat) : Nat := (x.args.getD k 0).toNat
  let hdr := leBytes (n + laneKind n * 0x100 + b 6 * 0x10000 + b 7 * 0x1000000) 4 ++ x.args.take 3 ++ [0] ++
    ((x.args.drop 3).take 3) ++ [0] ++ leBytes points 4 ++ leBytes (x.data.getD 0 0) 8 ++ leBytes s.now 8
  s.hostStore (leNat ((x.args.drop 8).take 8)) (hdr ++ x.entries)

/-- A scan point is aimed: the position, the eye and the dwell time stand in ES_CTRL (R365, R431). -/
def State.scanAim (s : State) (x : TaskCmd) (i : Nat) : State :=
  let b (k : Nat) : Nat := (x.args.getD k 0).toNat
  (((s.setFld x.page F.LANE.ES_CTRL_H ((scanPoint x.args i).1 % 128).toNat).setFld x.page F.LANE.ES_CTRL_V
    ((scanPoint x.args i).2 % 256).toNat).setFld x.page F.LANE.ES_CTRL_EYE (b 6)).setFld x.page F.LANE.ES_CTRL_DWELL (b 7)

/-- A scan point that has been aimed starts; a refused start ends the command (R431). -/
def State.scanGo (s : State) (x : TaskCmd) (i : Nat) : State :=
  match s.esRefusal (instanceOf x.page) with
  | some (c, d) => (s.laneCtrlEsStart (instanceOf x.page)).cmdEnd x opRefused (reasonCode c .lane d) (leBytes (i % 65536) 8)
  | none =>
    (s.laneCtrlEsStart (instanceOf x.page)).setCmd { x with phase := 1 + i, data := if i = 0 then [s.now] else x.data }

/-- Start point `i` of a scan; a refusal of the lane ends the command with the lane's reason (R364, R431). -/
def State.scanStart (s : State) (x : TaskCmd) (i : Nat) : State := (s.scanAim x i).scanGo x i

/-- EYE_SCAN: runs a scan point by point and writes its record; an aborted scan writes the points completed (R365, R431). -/
def execEyeScan (tag : Nat) (s : State) : Out :=
  .next (s.cmdStep 3 tag
    (fun x s => s.scanStart x 0)
    (fun x s =>
      let p := x.page
      let i := x.phase - 1
      if s.bit p F.LANE.ES_STATUS_BUSY then s
      else if s.bit p F.LANE.ES_STATUS_DONE then
        let e := s.live64 p F.LANE.ES_ERR_LO % 2 ^ 48 + s.fld p F.LANE.ES_STATUS_DISTURBED * 2 ^ 48 +
          (s.laneOf (instanceOf p)).esFrozen.toNat * 2 ^ 49
        let x' := { x with entries := x.entries ++ leBytes e 8 }
        if x.stop ≠ 0 then ((s.setCmd x').scanWrite x' (i + 1)).cmdStop x' (leBytes ((i + 1) % 65536) 8)
        else if i + 1 < scanPoints x.args then (s.setCmd x').scanStart x' (i + 1)
        else ((s.setCmd x').scanWrite x' (i + 1)).cmdEnd x' opCompleted 0 (leBytes ((i + 1) % 65536) 8)
      else if x.stop ≠ 0 then (s.scanWrite x i).cmdStop x (leBytes (i % 65536) 8)
      else s))

/-- The channels that JOIN names. -/
def joinMask (x : TaskCmd) : Nat := leNat (x.args.take 8)

/-- OUT of JOIN: the channels of the unit that are IN_STEP. -/
def State.joinOut (s : State) : List Byte :=
  leBytes ((s.chansOn.filter fun c => s.chStep c == ncInStep).foldl (fun m c => m + 2 ^ c) 0) 8

/-- JOIN: requests joins for the named channels, and completes when every one is IN_STEP (R285, R431). -/
def execJoin (tag : Nat) (s : State) : Out :=
  .next (s.cmdStep 4 tag
    (fun x s =>
      if !s.pairOn then s.cmdRefuse x Cls.dependency 0x06
      else (s.chansOn.filter fun c => s.chStep c == ncOutOfStep && joinMask x / 2 ^ c % 2 == 1).foldl
        (fun t c => t.ropeSend 0x13 [BitVec.ofNat 8 c, 0, 0, 0]) s)
    (fun x s =>
      if (List.range 64).all fun c => joinMask x / 2 ^ c % 2 == 0 || (s.chanOn c && s.chStep c == ncInStep) then
        s.cmdEnd x opCompleted 0 s.joinOut
      else s))

/-- FW_LOAD: the copy into the inactive bank begins, which leaves that bank empty; stopped at a 64 KiB step it stays so
(R431). -/
def execFwLoad (tag : Nat) (s : State) : Out :=
  .next (s.cmdStep 5 tag
    (fun _ s =>
      let s1 := (s.setFld pTASK F.TASK.FW_STATUS_LOADED 0).setFld pTASK F.TASK.FW_LOADED_VER 0
      if s.bit pTASK F.TASK.FW_STATUS_BANK then { s1 with task := { s1.task with bank0 := .reset } }
      else { s1 with task := { s1.task with bank1 := .reset } })
    (fun x s => if x.stop ≠ 0 then s.cmdStop x [] else s))

/-- FW_LOAD_DONE (R431): the copy has ended and Lantern has checked the image: `ok`, its version and ABI. -/
def execFwLoadDone (tag : Nat) (ok : Bool) (version abi : Nat) (s : State) : Out :=
  .next (s.cmdStep 5 tag (fun _ s => s) fun x s =>
    if x.stop ≠ 0 then s.cmdStop x []
    else if !ok then s.cmdRefuse x Cls.range 0x19
    else
      let b : FwBank := ⟨true, version % 2 ^ 32, abi % 256⟩
      let s1 := (s.setFld pTASK F.TASK.FW_STATUS_LOADED 1).setFld pTASK F.TASK.FW_LOADED_VER version
      let s2 := if s.bit pTASK F.TASK.FW_STATUS_BANK then { s1 with task := { s1.task with bank0 := b } }
        else { s1 with task := { s1.task with bank1 := b } }
      s2.cmdEnd x opCompleted 0 (leBytes version 4 ++ leBytes (abi % 256) 4))

/-! ## Firmware bank swap (R432, R433) -/

/-- The active and the inactive bank. -/
def State.activeBank (s : State) : FwBank := if s.bit pTASK F.TASK.FW_STATUS_BANK then s.task.bank1 else s.task.bank0
def State.otherBank (s : State) : FwBank := if s.bit pTASK F.TASK.FW_STATUS_BANK then s.task.bank0 else s.task.bank1

/-- The cores resume: no swap runs. -/
def State.swapOver (s : State) : State :=
  { s.setFld pTASK F.TASK.TASK_STATUS_SWAP_ACTIVE 0 with task := { s.task with stopped := 0, firstStop := none, swapTag := none } }

/-- The banks switch (R432). The entry hook's own time is open: a free value within the 50 µs of the pause. -/
def State.swapSwitch (s : State) (x : TaskCmd) : State :=
  let new := s.otherBank
  let old := s.activeBank
  let bank := 1 - s.fld pTASK F.TASK.FW_STATUS_BANK
  let stopped := (s.fabric - s.task.firstStop.getD s.fabric) * 2 / 3
  let pause := min 50000 (stopped + s.freeWord.toNat % (50001 - min 50000 stopped))
  let s1 := (((s.tookFree.setFld pTASK F.TASK.FW_STATUS_BANK bank).setFld pTASK F.TASK.TASK_STATUS_BANK bank).setFld pTASK
    F.TASK.FW_STATUS_ABI new.abi).setFld pTASK F.TASK.FW_STATUS_LOADED old.valid.toNat
  let s2 := ((s1.setFld pTASK F.TASK.FW_ACTIVE_VER new.version).setFld pTASK F.TASK.FW_LOADED_VER old.version).setFld pTASK
    F.TASK.FW_LAST_PAUSE_NS pause
  ((s2.swapOver).raise pTASK F.TASK.intFW_SWAPPED).cmdEnd x opCompleted 0 (leBytes (pause % 65536) 8)

/-- Core `c` stops; the eighth stop switches the banks (R432). -/
def State.coreStop (s : State) (c : Nat) : State :=
  let s1 := { s with task := { s.task with stopped := s.task.stopped ||| 2 ^ c, firstStop := some (s.task.firstStop.getD s.fabric) } }
  if s1.task.stopped % 256 = 255 then
    match s1.task.swapTag.bind s1.cmdOf with
    | some x => s1.swapSwitch x
    | none => s1
  else s1

/-- A swap is abandoned: the cores resume on the old bank, FW_SWAP_FAILED (R432). -/
def State.swapAbandon (s : State) : State := s.swapOver.raise pTASK F.TASK.intFW_SWAP_FAILED

/-- FW_SWAP: checks the loaded image and asks every core to stop; a core that idles stops at once (R432). -/
def execFwSwap (tag : Nat) (s : State) : Out :=
  .next (s.cmdStep 6 tag
    (fun x s =>
      if !s.otherBank.valid then s.cmdRefuse x Cls.dependency 0x1B
      else if s.otherBank.abi ≠ s.activeBank.abi then s.cmdRefuse x Cls.conflict 0x1A
      else
        let s1 := { s.setFld pTASK F.TASK.TASK_STATUS_SWAP_ACTIVE 1 with task := { s.task with swapTag := some tag } }
        s1.idleCores.foldl (fun t c => if t.task.swapTag.isSome then t.coreStop c else t) s1)
    fun _ s => s)

/-- CORE_STOPPED (R432): core `c` reaches its yield point while a swap asks it to stop. -/
def execCoreStopped (c : Nat) (s : State) : Out :=
  s.event (s.works pTASK && decide (c < 8) && s.task.swapTag.isSome && s.task.stopped / 2 ^ c % 2 == 0) fun s =>
    (s.coreStop c).taskShow

/-- SWAP_TIMEOUT (R432): the eighth core has not stopped within 60,000 FABRIC cycles of the first. -/
def execSwapTimeout (s : State) : Out :=
  s.event (s.works pTASK && (match s.task.firstStop with
    | some t => decide (s.fabric ≥ t + 60000)
    | none => false)) fun s =>
    match s.task.swapTag.bind s.cmdOf with
    | some x => s.swapAbandon.cmdRefuse x Cls.timing 0x1C
    | none => s

/-- SELFTEST: Lantern tests an out-of-service chamber to its end (R431). -/
def execSelftest (tag : Nat) (s : State) : Out :=
  .next (s.cmdStep 7 tag (fun x s => if s.st x.page = stOos then s else s.cmdRefuse x Cls.conflict 0x1E) fun _ s => s)

/-- CHAMBER_TEST_DONE (R431): the self-test of the chamber ends with PASS or failure; an abort does not stop it. -/
def execChamberTestDone (tag : Nat) (pass : Bool) (s : State) : Out :=
  .next (s.cmdStep 7 tag (fun _ s => s) fun x s => s.cmdEnd x opCompleted 0 (leBytes pass.toNat 8))

/-! ## Aborts and time limits (R429, R430) -/

/-- Stop a running command: at once where every instant is its step boundary, else at its next step (R431). A SELFTEST runs to
its end. -/
def State.cmdHalt (s : State) (x : TaskCmd) : State :=
  match x.op with
  | 4 => s.cmdStop x s.joinOut
  | 6 => s.swapAbandon.cmdStop x []
  | 2 =>
    if x.phase = 1000 ∧ s.bit x.page F.MEMC.MEMC_STATUS_APPLY_PENDING then
      (s.applyWithdraw (instanceOf x.page)).cmdStop x (sweepOut (x.data.getLast?.getD 0) (x.data.head?.getD 0) 0)
    else s.setCmd x
  | 7 => s
  | _ => s.setCmd x

/-- A write of TAG to CMD_ABORT (R429). -/
def State.cmdAbort (tag : Nat) (s : State) : State :=
  match s.cmdOf tag with
  | some x =>
    if x.started.isNone then s.cmdStop { x with stop := 1 } []
    else if x.stop = 0 ∨ (x.stop = 2 ∧ x.stopAt = s.fabric) then s.cmdHalt { x with stop := 1, stopAt := s.fabric }
    else s
  | none =>
    match s.task.last with
    | some (t, cyc, addrs) =>
      if t = tag ∧ cyc = s.fabric then
        let s1 := (addrs.zip [0x41, 0x02]).foldl (fun u e => u.hostStore e.1 [BitVec.ofNat 8 e.2]) s
        (s1.reason pTASK 0 0x01).err pTASK 6
      else s
    | none => s

/-- CMD_ABORT (R429). -/
def execCmdAbort (tag : Nat) (s : State) : Out := s.onPage pTASK (State.cmdAbort tag)

/-- TIMEOUT_MS of a running command has passed since it began (R430). -/
def State.cmdLate (s : State) (x : TaskCmd) : Bool :=
  match x.started with
  | some (ns, cyc) => x.timeoutMs != 0 &&
      (if s.running then decide (s.now ≥ ns + x.timeoutMs * 1000000) else decide (s.fabric ≥ cyc + x.timeoutMs * 1500000))
  | none => false

/-- CMD_TIMEOUT (R430). -/
def execCmdTimeout (tag : Nat) (s : State) : Out :=
  match s.cmdOf tag with
  | some x => s.event (s.works pTASK && x.stop == 0 && s.cmdLate x) fun s => s.cmdHalt { x with stop := 2, stopAt := s.fabric }
  | none => .next s

/-! ## Kernel entries (R419 to R422) -/

/-- The RUNNING thread of core `c`. -/
def State.runningOn (s : State) (c : Nat) : Option (Nat × Thread) :=
  (s.threadsWith fun t => t.state == thRunning && t.core == c).head?

/-- What a kernel entry of thread `id` does (R419 to R422). -/
def State.kernelOp (s : State) (id : Nat) : KernelOp → State
  | .waitEvent d => s.beginWait id 1 0 d
  | .sleep d => s.beginWait id 3 0 (some d)
  | .yieldCore => s.enterLists id { s.thread id with state := thReady, order := s.task.seq }
  | .takeItem f d =>
    let x := s.flow f
    if f ≥ 4096 then s
    else if x.holder.isNone ∧ x.items.head? = some 0 then s.setFlow f { items := x.items.tail, holder := some id }
    else s.beginWait id 2 f d
  | .itemDone f => if (s.flow f).holder = some id then (s.setFlow f { s.flow f with holder := none }).serveFlow f else s
  | .finish => s.setThread id .reset

/-- KERNEL_ENTRY (R419): the running thread of core `c` enters the kernel; while a swap asks the cores to stop, this is its
yield point (R432). -/
def execKernelEntry (c : Nat) (op : KernelOp) (s : State) : Out :=
  s.event (s.works pTASK && decide (c < 8) && s.task.stopped / 2 ^ c % 2 == 0) fun s =>
    match s.runningOn c with
    | none => s
    | some (id, _) =>
      let s1 := s.kernelOp id op
      let s2 := if s1.task.swapTag.isSome then s1.coreStop c else s1
      s2.timers.taskRun

end Sys2Proof.Machine
end

