-- ==== Sys2Proof/Machine/Lantern.lean ====
section
/-! DEFINITION. Lantern: resets and phases, the SPI NOR and the boot image, self-test and bring-up, sensors, watchdogs, the
logs, and the operations of the MGMT page (spec/21), the over-temperature action (spec/23 R501, R502) and log records
(spec/24). -/

namespace Sys2Proof.Machine

/-! ## The SPI NOR (R461) -/

/-- What an erased byte of the NOR reads as (R461). -/
def norDefault : Byte := 0xFF

/-- A byte of the NOR; erased bytes read 0xFF. -/
def State.norByte (s : State) (a : Nat) : Byte := Tab.get norDefault s.norMem a

/-- `n` bytes of the NOR. -/
def State.norLoad (s : State) (a : Nat) : Nat → List Byte
  | 0 => []
  | n + 1 => s.norByte a :: State.norLoad s (a + 1) n

/-- Program bytes of the NOR that are erased. -/
def State.norProgram (s : State) (a : Nat) : List Byte → State
  | [] => s
  | b :: bs => State.norProgram { s with norMem := Tab.set norDefault s.norMem a b } (a + 1) bs

/-- Erase `n` bytes of the NOR at `a`. -/
def State.norErase (s : State) (a n : Nat) : State :=
  { s with norMem := s.norMem.filter fun c => !(decide (a ≤ c.1) && decide (c.1 < a + n)) }

/-- First NOR address of a slot: A 0, B 1 (R461). -/
def slotBase (slot : Nat) : Nat := if slot = 0 then 0x100000 else 0xD00000

/-! ## The directory (R462) -/

def sdEmpty : Nat := 0
def sdValid : Nat := 1
def sdPending : Nat := 2
def sdBad : Nat := 3

/-- The 64 bytes of a directory copy. -/
def dirBytes (gen : Nat) (a b : SlotDir) : List Byte :=
  let slot (d : SlotDir) : List Byte := [BitVec.ofNat 8 d.state, BitVec.ofNat 8 d.trials, 0, 0] ++ leBytes d.seq 4
  let body := leBytes 0x5244424B 4 ++ leBytes gen 4 ++ slot a ++ slot b ++ List.replicate 36 0
  body ++ leBytes (crc32 body) 4

/-- The directory copy at `a`, if its MAGIC and CRC are good: GEN and the slots. -/
def State.dirCopy (s : State) (a : Nat) : Option (Nat × SlotDir × SlotDir) :=
  let bs := s.norLoad a 64
  if leNat (bs.take 4) = 0x5244424B ∧ leNat (bs.drop 60) = crc32 (bs.take 60) then
    let slot (o : Nat) : SlotDir :=
      { state := (bs.getD o 0).toNat, trials := (bs.getD (o + 1) 0).toNat, seq := leNat ((bs.drop (o + 4)).take 4) }
    some (leNat ((bs.drop 4).take 4), slot 8, slot 16)
  else none

/-- SLOT_STATE shows the directory. -/
def State.showSlots (s : State) : State :=
  (((s.setFld pMGMT F.MGMT.SLOT_STATE_STATE_A s.nor.slotA.state).setFld pMGMT F.MGMT.SLOT_STATE_TRIALS_A
    s.nor.slotA.trials).setFld pMGMT F.MGMT.SLOT_STATE_STATE_B s.nor.slotB.state).setFld pMGMT F.MGMT.SLOT_STATE_TRIALS_B
    s.nor.slotB.trials

/-- Lantern reads the directory: the good copy of the higher GEN is in force (R462). -/
def State.readDir (s : State) : State :=
  let put (c : Nat) (d : Nat × SlotDir × SlotDir) : State :=
    { s with nor := { s.nor with gen := d.1, slotA := d.2.1, slotB := d.2.2, copy := c } }
  (match s.dirCopy 0, s.dirCopy 0x1000 with
    | some d0, some d1 => if d1.1 > d0.1 then put 1 d1 else put 0 d0
    | some d0, none => put 0 d0
    | none, some d1 => put 1 d1
    | none, none => { s with nor := { s.nor with slotA := .reset, slotB := .reset, gen := 0, copy := 1 } }).showSlots

/-- Lantern writes a change of the directory into the other copy with GEN + 1 (R462). -/
def State.writeDir (s : State) (a b : SlotDir) : State :=
  let c := 1 - s.nor.copy
  let s1 := (s.norErase (c * 0x1000) 0x1000).norProgram (c * 0x1000) (dirBytes (s.nor.gen + 1) a b)
  { s1 with nor := { s1.nor with slotA := a, slotB := b, gen := s.nor.gen + 1, copy := c } }.showSlots

def State.slotDir (s : State) (slot : Nat) : SlotDir := if slot = 0 then s.nor.slotA else s.nor.slotB

/-- Write one slot's entry. -/
def State.setSlot (s : State) (slot : Nat) (d : SlotDir) : State :=
  if slot = 0 then s.writeDir d s.nor.slotB else s.writeDir s.nor.slotA d

/-! ## The boot image (R463, R464) -/

/-- A section of an image: type, NOR address of its contents, length. -/
structure Section where
  type : Nat
  addr : Nat
  len : Nat
deriving DecidableEq, Repr

/-- The sections of a body of `len` bytes at NOR address `a`, or none where they do not fit it. -/
def State.sections (s : State) : Nat → Nat → Nat → Option (List Section)
  | 0, _, len => if len = 0 then some [] else none
  | fuel + 1, a, len =>
    if len = 0 then some []
    else
      let ty := leNat (s.norLoad a 4)
      let l := leNat (s.norLoad (a + 4) 4)
      let size := ceilDiv (16 + l) 64 * 64
      if ty = 0 ∨ ty > 4 ∨ size > len then none
      else (State.sections s fuel (a + size) (len - size)).map (⟨ty, a + 16, l⟩ :: ·)

/-- The entries of a settings section of `n` entries at NOR address `a`. -/
def State.settingsAt (s : State) (a : Nat) : Nat → List (Nat × Nat × Nat)
  | 0 => []
  | n + 1 => (leNat (s.norLoad a 2), leNat (s.norLoad (a + 2) 2), leNat (s.norLoad (a + 4) 4)) :: State.settingsAt s (a + 8) n

/-- Ones in the low 16 bits. -/
def popCount16 (n : Nat) : Nat := ((List.range 16).filter fun b => n / 2 ^ b % 2 == 1).length

/-- A settings entry has a known key and index and a value in range (R464). -/
def settingOk (e : Nat × Nat × Nat) : Bool :=
  let i := e.2.1
  let v := e.2.2
  match e.1 with
  | 1 => i == 0 && (v == 240 || v == 120)
  | 2 => i == 0 && decide (v ≤ 2)
  | 3 => i == 0 && decide (v ≤ 0xFFFF) && decide (8 ≤ popCount16 v)
  | 4 => i == 0 && decide (v ≤ 1)
  | 5 => i == 0 && decide (v ≤ 2)
  | 6 => i == 0
  | 7 => i == 0 && decide (v ≤ 2)
  | 8 => i == 0 && v % 2 ^ 21 / 16 == 0
  | 9 => i == 0 && decide (1 ≤ v) && decide (v ≤ 16)
  | 0xA => i == 0 || (i == 1 && decide (v ≤ 15))
  | 0xB => i == 0 && decide (1 ≤ v) && decide (v ≤ 64)
  | 0x10 => i == 0 || (i == 1 && decide (v ≤ 15))
  | 0x11 => decide (i < 256) && decide (i % 8 ≤ 6) && (i % 8 != 0 || v % 4 != 3) && (i % 8 != 4 || decide (v ≤ 15))
  | 0x12 => decide (8 ≤ i) && decide (i < 32) && decide (i % 8 ≤ 5) && ((i % 8 != 1 && i % 8 != 3) || decide (v ≤ 15))
  | 0x13 => decide (i ≤ 11) && decide (-320 ≤ sext32 v) && decide (sext32 v ≤ 880)
  | _ => false

/-- Every "once" key stands exactly once and every entry is in order (R464). -/
def settingsOk (es : List (Nat × Nat × Nat)) : Bool :=
  es.all settingOk && [1, 2, 3, 4, 5, 6, 7].all fun k => (es.filter fun e => e.1 == k).length == 1

/-- What Lantern makes of the image in a slot (R463): none where it is not valid. `sound` is whether its SIGNATURE is valid under the ROM
key it names, which the spec does not give (log entry 30). -/
def State.verifyImage (s : State) (slot : Nat) (sound : Bool) : Option (List Section × List (Nat × Nat × Nat)) :=
  let a := slotBase slot
  let len := leNat (s.norLoad (a + 8) 4)
  let key := (s.norByte (a + 6)).toNat
  if leNat (s.norLoad a 4) ≠ 0x4D49424B ∨ leNat (s.norLoad (a + 4) 2) ≠ 1 ∨ key > 3 ∨ (s.norByte (a + 7)).toNat > 63 ∨
      len % 64 ≠ 0 ∨ len < 64 ∨ len > 12582656 ∨ s.nor.revoked / 2 ^ key % 2 = 1 ∨
      (s.norByte (a + 7)).toNat < s.nor.secCounter ∨ s.norLoad (a + 64) 48 ≠ sha384 (s.norLoad (a + 256) len) ∨ !sound then none
  else match s.sections 8 (a + 256) len with
    | none => none
    | some secs =>
      let one (t : Nat) : Bool := (secs.filter fun x => x.type == t).length == 1
      match secs.find? fun x => x.type == 3 with
      | none => none
      | some st =>
        let es := s.settingsAt st.addr (st.len / 8)
        if one 1 && one 2 && one 3 && decide ((secs.filter fun x => x.type == 4).length ≤ 1) && st.len % 8 == 0 && settingsOk es
        then some (secs, es) else none

/-! ## Resets and phases (R457, R459) -/

/-- A page that Lantern enables is ON: ENTERED_ON, and the enable's result in PAGE_OP (R41). -/
def State.lanternOn (s : State) (p : Nat) : State :=
  if (s.page p).absence ≠ 0 ∨ s.st p = stOn then s
  else ((((s.opBegin p 1).toState p stOn).raise p 1).opEnd p opCompleted).setFld p F.PAGE_CTRL_ENABLE 1

/-- A page is put out of service by Lantern. -/
def State.lanternOos (s : State) (p : Nat) : State :=
  if (s.page p).absence ≠ 0 then s else (s.toState p stOos).setFld p F.PAGE_CTRL_DRAIN 1

/-- Absences: defects of the fuse map (2), and pages that the map of DRAM or the lane mode does not have (1) (R34, R317, R372,
R458). -/
def State.absences (s : State) : State :=
  let mode := s.fld (pETH 0) F.ETH.PORT_STATUS_LANE_MODE
  let a (p : Nat) : Nat :=
    if s.nor.defects.contains p then 2
    else if 0x20 ≤ p ∧ p < 0x30 ∧ s.mapMask / 2 ^ (p - 0x20) % 2 = 0 then 1
    else if 0x78 ≤ p ∧ p < 0x80 ∧ (p - 0x78) % 2 ^ mode ≠ 0 then 1
    else 0
  headerPages.foldl (fun t p => if (t.page p).absence = a p then t else t.setPage p { t.page p with absence := a p }) s

/-- Units that leave service at ROOT_MULT 120 (R60). -/
def pictureUnits : List Nat :=
  UnitType.chmb.pages ++ UnitType.look.pages ++ UnitType.src.pages ++ UnitType.scal.pages ++ UnitType.chan.pages ++
    UnitType.grp.pages ++ UnitType.dec.pages

/-- CLK_STATUS shows the multiplier in force and whether the root PLL is locked (R38, R58, R61). -/
def State.clkStatus (s : State) : State :=
  (s.setFld pTIME F.TIME.CLK_STATUS_ROOT_MULT s.boot.mult).setFld pTIME F.TIME.CLK_STATUS_ROOT_LOCK (!s.boot.rootHeld).toNat

/-- What a device reset leaves beside the reset values: the lane mode taken from LANE_MODE_NEXT (R318), CLK_STATUS, the absences,
and at ROOT_MULT 120 the picture units out of service and increments of 2.0 (R60). -/
def State.afterReset (s : State) : State :=
  let mode := s.fld (pETH 0) F.ETH.LANE_MODE_NEXT_MODE
  let s1 := ((List.range 8).foldl (fun t p => t.setFld (pETH p) F.ETH.PORT_STATUS_LANE_MODE mode) s.clkStatus).absences
  if s1.boot.mult = 240 then s1
  else
    let s2 := (s1.setReg (F.TIME.INCR.addr pTIME) 0x02000000).setReg (F.TIME.SLEW_INCR.addr pTIME) 0x02000000
    pictureUnits.foldl (fun t p => t.setFld p F.PAGE_STATE stOos) s2

/-- PHASE takes a value. -/
def State.phaseTo (s : State) (ph : Nat) : State := s.setFld pMGMT F.MGMT.PHASE_STATUS_PHASE ph

/-- Lantern enters BOOT at ROOT_MULT 120 with a boot cause: PWR, SENS and MGMT are ON, the boot watchdog runs and the records
are numbered anew (R459, R468, R479, R503, R512). -/
def State.enterBoot (s : State) (cause : Nat) : State :=
  let s1 := (s.phaseTo phBoot).setFld pMGMT F.MGMT.PHASE_STATUS_BOOT_CAUSE cause
  let s2 := { s1 with boot := { s1.boot with mult := 120, bootAt := s1.boot.ps, heldSlot := none, runSlot := none, settings := [] },
                      log := { s1.log with seq := 0, opened := false },
                      nor := { s1.nor with written := none, opSlot := 0 } }
  (s2.afterReset.lanternOn pPWR).lanternOn pSENS |>.lanternOn pMGMT

/-- A Lantern-issued device reset followed by a full boot (R459). -/
def State.lanternReboot (s : State) (cause : Nat) : State :=
  ({ s.deviceReset true with boot := { s.boot with mult := 120 } }).enterBoot cause

/-- POWER_ON_RESET (R459, R491): power-on reset is released and Lantern enters BOOT; cause 5 where the newest record of the
persistent log is a shutdown record (R501). -/
def execPowerOnReset (s : State) : Out :=
  s.event s.boot.porHeld fun s =>
    let s1 := { s with boot := { s.boot with porHeld := false }, watch := { s.watch with thermtrip := false, shutdownN := false } }
    let s2 := s1.setFld pMGMT F.MGMT.TRUST_STATUS_SEC_COUNTER s.nor.secCounter
    s2.enterBoot (if s.log.shutdownLast then 5 else 0)

/-- PWRGOOD_FALL (R492): as at power-on reset; NOR, fuses and the levels of THERMTRIP_N and SHUTDOWN_N stay. -/
def execPwrgoodFall (s : State) : Out :=
  .next { State.reset with
    pending := s.pending
    freeCtr := s.freeCtr
    readData := s.readData
    mem := s.mem
    hostMem := s.hostMem
    norMem := s.norMem
    nor := { s.nor with slotA := .reset, slotB := .reset, gen := 0, copy := 0, written := none, opSlot := 0 }
    log := { LogState.reset with shutdownLast := s.log.shutdownLast }
    watch := { WatchState.reset with thermtrip := s.watch.thermtrip, shutdownN := s.watch.shutdownN } }

/-- PERST_N_ASSERT (R457): a device reset; the phase is RESET until PERST_N is released. -/
def execPerstNAssert (s : State) : Out :=
  .next (
    if s.boot.porHeld then { s with boot := { s.boot with perst := true } }
    else
      let s1 := s.deviceReset false
      ({ s1 with boot := { s1.boot with perst := true, mult := 120, pcieTraining := false } }.afterReset).phaseTo phReset)

/-- PERST_N_RELEASE (R459, R460): Lantern begins link training; a device that PERST_N held in RESET boots with cause 1. -/
def execPerstNRelease (s : State) : Out :=
  s.event s.boot.perst fun s =>
    let s1 := { s with boot := { s.boot with perst := false, pcieTraining := true } }.hostTrains
    if s.phase = phReset ∧ !s.boot.porHeld ∧ !s.boot.rootHeld then s1.enterBoot 1 else s1

/-- ROOT_PLL_LOSS (R61, R459): all clocked work stops and the device is held in reset. -/
def execRootPllLoss (s : State) : Out :=
  s.event (!s.boot.porHeld) fun s =>
    let s1 := s.deviceReset false
    (({ s1 with boot := { s1.boot with rootHeld := true, mult := 120 } }.afterReset).phaseTo phReset).setFld pMGMT
      F.MGMT.PHASE_STATUS_BOOT_CAUSE 6

/-- ROOT_PLL_RELOCK (R61, R510): the hold ends and a boot begins with cause 6; the event is recorded. -/
def execRootPllRelock (s : State) : Out :=
  s.event s.boot.rootHeld fun s =>
    let s1 := { s with boot := { s.boot with rootHeld := false } }.enterBoot 6
    (if s.boot.pcieTraining then s1.hostTrains else s1).logEv pMGMT 0x24 6 0 []

/-! ## BOOT (R462, R463) -/

/-- A slot may be booted: VALID, or PENDING with trials left. -/
def bootable (d : SlotDir) : Bool := d.state == sdValid || (d.state == sdPending && decide (0 < d.trials))

/-- The bootable slot of the higher SEQ. -/
def State.bootChoice (s : State) : Option Nat :=
  let a := bootable s.nor.slotA
  let b := bootable s.nor.slotB
  if a && b then (if s.nor.slotB.seq > s.nor.slotA.seq then some 1 else some 0)
  else if a then some 0 else if b then some 1 else none

/-- Mark a slot BAD; `why` is 0 for verification, 1 for trials exhausted (R462, R511). The records follow the BOOT record. -/
def State.markBad (s : State) (slot : Nat) : State := s.setSlot slot { s.slotDir slot with state := sdBad }

/-- Choose a slot (R462): the state with the directory written, the slots marked BAD as (slot, why) in order, and the slot
verified with its settings, if any. -/
def State.chooseSlot (sound : Nat → Bool) : Nat → State → List (Nat × Nat) →
    State × List (Nat × Nat) × Option (Nat × List (Nat × Nat × Nat))
  | 0, s, bad => (s, bad, none)
  | fuel + 1, s, bad =>
    let done := [0, 1].filter fun k => (s.slotDir k).state == sdPending && (s.slotDir k).trials == 0
    let s0 := done.foldl State.markBad s
    let bad0 := bad ++ done.map fun k => (k, 1)
    match s0.bootChoice with
    | none => (s0, bad0, none)
    | some k =>
      let d := s0.slotDir k
      let s1 := if d.state = sdPending then s0.setSlot k { d with trials := d.trials - 1 } else s0
      match s1.verifyImage k (sound k) with
      | some r => (s1, bad0, some (k, r.2))
      | none => State.chooseSlot sound fuel (s1.markBad k) (bad0 ++ [(k, 0)])

/-- Header fields of a slot's image: KEY_INDEX, IMAGE_VER, ABI, SEC_VER (R463). -/
def State.imageKey (s : State) (slot : Nat) : Nat := (s.norByte (slotBase slot + 6)).toNat
def State.imageVer (s : State) (slot : Nat) : Nat := leNat (s.norLoad (slotBase slot + 12) 4)
def State.imageAbi (s : State) (slot : Nat) : Nat := (s.norByte (slotBase slot + 16)).toNat
def State.imageSec (s : State) (slot : Nat) : Nat := (s.norByte (slotBase slot + 7)).toNat

/-- The BOOT record and those of the slots marked BAD (R510, R511). -/
def State.bootRecords (s : State) (bad : List (Nat × Nat)) : State :=
  let s1 := s.logEv pMGMT 0x20 3 0
    ((24, s.fld pMGMT F.MGMT.PHASE_STATUS_BOOT_SLOT) :: (25, s.fld pMGMT F.MGMT.PHASE_STATUS_BOOT_CAUSE) ::
      (26, s.fld pMGMT F.MGMT.TRUST_STATUS_SEC_COUNTER) :: (27, s.fld pMGMT F.MGMT.TRUST_STATUS_KEY_INDEX) ::
      logWord 28 (s.fld pMGMT F.MGMT.IMAGE_VER))
  bad.foldl (fun t b => t.logEv pMGMT 0x25 4 0 [(24, b.1), (25, b.2)]) s1

/-- MEMC_INFO and MAP_CFG show the settings in force (R372). -/
def State.showMap (s : State) : State :=
  (List.range 16).foldl (fun t c =>
    let p := pMEMC c
    let t1 := ((t.setFld p F.MEMC.MEMC_INFO_CAPACITY (t.setting 2 0 2)).setFld p F.MEMC.MEMC_INFO_MAP_POS
      ((t.mapList.findIdx? (· == c)).getD 0)).setFld p F.MEMC.MEMC_INFO_RATE (if t.boot.mult = 240 then 9600 else 4800)
    ((t1.setFld p F.MEMC.MAP_CFG_MAP_MASK t.mapMask).setFld p F.MEMC.MAP_CFG_N t.mapN).setFld p F.MEMC.MAP_CFG_SPARE_EN
      t.spareEn.toNat) s

/-- The pages that RECOVERY uses (R477). -/
def State.enterRecovery (s : State) : State :=
  let s1 := (s.phaseTo phRecovery).showMap
  let s2 := s1.mapList.foldl (fun t c => (t.lanternOn (pMEMC c)).memcBegin c) s1
  (s2.lanternOn pHOST).setFld pHOST F.HOST.HOST_CFG_AP_WRITE_EN 1

/-! ## The persistent log (R474) -/

/-- First NOR address of a sector of the persistent log. -/
def logSector (k : Nat) : Nat := 0x1900000 + k * 0x1000

/-- Sectors with a good MAGIC, as (sector, sequence number). -/
def State.logSectors (s : State) : List (Nat × Nat) :=
  (List.range 1792).filterMap fun k =>
    if s.norByte (logSector k) = 0x4B ∧ leNat (s.norLoad (logSector k) 4) = 0x474F4C4B then
      some (k, leNat (s.norLoad (logSector k + 4) 4)) else none

/-- Lantern finds the head of the persistent log from the headers (R474). -/
def State.findLogHead (s : State) : State :=
  let secs : List (Nat × Nat) := s.logSectors
  match secs.foldl (fun (o : Option (Nat × Nat)) (c : Nat × Nat) => match o with
    | some m => if m.2 < c.2 then some c else some m
    | none => some c) none with
  | none => { s with log := { s.log with sector := 0, slot := 63, seqs := [] } }
  | some h =>
    let used := ((List.range 63).filter fun i => s.norByte (logSector h.1 + 64 + 64 * i + 63) != 0xFF#8).length
    let seqs : Tab Nat := secs.foldl (fun (t : Tab Nat) (c : Nat × Nat) => Tab.set 0 t c.1 (c.2 + 1)) []
    { s with log := { s.log with sector := h.1, slot := used, seqs := seqs } }.setFld
      pMGMT F.MGMT.LOGP_SEQ h.2

/-- A new sector begins: the one of the lowest sequence number is erased and takes the highest + 1 (R474). `seqs` holds each
number + 1, 0 for a sector never used. -/
def State.nextSector (s : State) : State :=
  let num (k : Nat) : Nat := Tab.get 0 s.log.seqs k
  let low := (List.range 1792).foldl (fun m k => if num k < num m then k else m) 0
  let top := (List.range 1792).foldl (fun m k => max m (num k)) 0
  let s1 := (s.norErase (logSector low) 0x1000).norProgram (logSector low) (leBytes 0x474F4C4B 4 ++ leBytes top 4)
  { s1 with log := { s1.log with sector := low, slot := 0, seqs := Tab.set 0 s1.log.seqs low (top + 1) } }.setFld pMGMT
    F.MGMT.LOGP_SEQ top

/-- The 64 octets of a slot that holds a record (R473). -/
def logSlot (rec' : List Byte) : List Byte := rec' ++ leBytes (crc16 rec') 2 ++ List.replicate 13 0xFF#8 ++ [0]

/-- Program a record into the persistent log (R474). -/
def State.persist (s : State) (rec' : List Byte) : State :=
  let s1 := if s.log.slot ≥ 63 then s.nextSector else s
  let s2 := s1.norProgram (logSector s1.log.sector + 64 + 64 * s1.log.slot) (logSlot rec')
  { s2 with log := { s2.log with slot := s1.log.slot + 1 } }

/-- The 48 octets of record `n` (R511). -/
def State.logRecord (s : State) (e : LogEntry) (n : Nat) (persistent : Bool) : List Byte :=
  let fixed := leBytes (if e.noTime then 0 else e.time) 8 ++ leBytes n 4 ++ leBytes e.event 2 ++
    [BitVec.ofNat 8 (e.severity % 8 + e.noTime.toNat * 8 + persistent.toNat * 16), BitVec.ofNat 8 s.phase] ++
    leBytes (e.page % 4096) 2 ++ leBytes e.reason 2 ++ leBytes (s.boot.ps / 1000000000) 4
  fixed ++ (List.range 24).map fun i => BitVec.ofNat 8 (match e.data.find? fun d => d.1 == 24 + i with
    | some d => d.2
    | none => 0)

/-- Write a record into the memory log, or hold it in Lantern SRAM until BRINGUP opens the log (R473). -/
def State.memLog (s : State) (rec' : List Byte) : State :=
  if s.log.opened then
    let n := s.live64 pMGMT F.MGMT.LOGM_HEAD_LO
    (s.memStore (s.log.base + 64 * (n % (s.log.mib * 16384))) (logSlot rec')).put64L pMGMT F.MGMT.LOGM_HEAD_LO (n + 1)
  else if s.log.held.length < 256 then { s with log := { s.log with held := s.log.held ++ [rec'] } }
  else (s.incFld pMGMT F.MGMT.LOG_DROPPED).raise pMGMT F.MGMT.intLOG_DROP

/-- Lantern makes one record of an event (R473, R474, R511). -/
def State.makeRecord (s : State) (e : LogEntry) : State :=
  let severe := decide (e.severity ≥ s.fld pMGMT F.MGMT.LOG_CFG_NOR_MIN_SEV)
  let take := severe && decide (0 < s.log.tokens)
  let n := s.log.seq
  let rec' := s.logRecord e n take
  let s1 := { s with log := { s.log with seq := n + 1, shutdownLast := if take then e.event == 0x0622 else s.log.shutdownLast } }
  let s2 := s1.memLog rec'
  if take then ({ s2 with log := { s2.log with tokens := s2.log.tokens - 1 } }).persist rec'
  else if severe then (s2.incFld pMGMT F.MGMT.LOG_DROPPED).raise pMGMT F.MGMT.intLOG_DROP
  else s2

/-- LOG_EVENT (R512): Lantern takes the oldest event of the queue and makes its record; with room again after a loss it makes
one LOG_OVERFLOW record. -/
def execLogEvent (s : State) : Out :=
  s.event (!s.log.queue.isEmpty && s.phase != phReset && !s.boot.porHeld) fun s =>
    match s.log.queue with
    | [] => s
    | e :: rest =>
      let s1 := { s with log := { s.log with queue := rest } }.makeRecord e
      if s1.log.lost = 0 then s1
      else
        let lost := s1.log.lost
        ({ s1 with log := { s1.log with lost := 0 } }).logEv pMGMT 0x23 3 0 (logWord 24 lost)

/-- NOR_RATE_REFILL (R474): the bucket gains one record at each 1 / NOR_RATE s, up to NOR_RATE. -/
def execNorRateRefill (s : State) : Out :=
  let rate := max 1 (s.fld pMGMT F.MGMT.LOG_CFG_NOR_RATE)
  s.event (decide (s.boot.ps ≥ s.log.refillAt + 1000000000000 / rate)) fun s =>
    { s with log := { s.log with tokens := min rate (s.log.tokens + 1), refillAt := s.log.refillAt + 1000000000000 / rate } }

/-! ## BOOT to SERVICE -/

/-- A slot verified: PHASE_STATUS, IMAGE_VER and TRUST_STATUS show it, and the boot goes on to SELFTEST (R463, R464). -/
def State.bootFrom (s : State) (bad : List (Nat × Nat)) (k : Nat) (es : List (Nat × Nat × Nat)) : State :=
  let s1 : State := ((s.setFld pMGMT F.MGMT.PHASE_STATUS_BOOT_SLOT k).setFld pMGMT F.MGMT.IMAGE_VER (s.imageVer k)).setFld pMGMT
    F.MGMT.TRUST_STATUS_KEY_INDEX (s.imageKey k)
  let s2 : State := State.bootRecords { s1 with boot := { s1.boot with heldSlot := some k, settings := es } } bad
  let cause := s2.fld pMGMT F.MGMT.PHASE_STATUS_BOOT_CAUSE
  let s3 : State := if cause = 0 ∨ cause = 5 then s2.setFld (pETH 0) F.ETH.LANE_MODE_NEXT_MODE (s2.setting 5 0 0) else s2
  s3.phaseTo phSelftest

/-- What the choice of a slot makes of the boot. -/
def bootOutcome : State × List (Nat × Nat) × Option (Nat × List (Nat × Nat × Nat)) → State
  | (s, bad, none) => ((s.bootRecords bad).enterRecovery).setFld pMGMT F.MGMT.PHASE_STATUS_SELFTEST_OK 0
  | (s, bad, some (k, es)) => s.bootFrom bad k es

/-- BOOT (R462, R463): Lantern reads the directory, finds the log, chooses and verifies a slot, and moves to SELFTEST, or to
RECOVERY where none verifies. `soundA` and `soundB` are whether the signature of each slot's image is valid. -/
def execBoot (soundA soundB : Bool) (s : State) : Out :=
  s.event (s.phase == phBoot) fun s =>
    bootOutcome (State.chooseSlot (fun k => if k = 0 then soundA else soundB) 3 s.readDir.findLogHead [])

/-- The failed items of a mask, as (test, instance). -/
def failedItems (test n mask : Nat) : List (Nat × Nat) :=
  ((List.range n).filter fun i => mask / 2 ^ i % 2 == 1).map fun i => (test, i)

/-- The chambers of a mask that self-test reaches: those marked defective in the fuse map are skipped (R465). -/
def State.testable (s : State) (chambers : Nat) : Nat :=
  ((List.range 18).filter fun c => chambers / 2 ^ c % 2 == 1 && !s.nor.defects.contains (pCHMB c)).foldl (fun m c => m + 2 ^ c) 0

/-- The failed items of a self-test, with the test of each (R465). -/
def selftestItems (crit chambers decs clocks sites rails : Nat) : List (Nat × Nat) :=
  failedItems 0 1 crit ++ failedItems 1 1 (crit / 2) ++ failedItems 2 18 chambers ++ failedItems 3 1 (crit / 8) ++
    failedItems 4 2 decs ++ failedItems 5 5 clocks ++ failedItems 6 12 sites ++ failedItems 6 10 rails

/-- One record for each failed item, and SELFTEST_RESULT (R465). -/
def State.itemsNoted (s : State) (l : List (Nat × Nat)) : State :=
  (l.foldl (fun t i => t.logEv pMGMT 0x21 4 0 [(24, i.1), (25, i.2)]) s).setFld pMGMT F.MGMT.SELFTEST_RESULT
    (l.foldl (fun m i => m ||| 2 ^ i.1) 0)

/-- What Lantern keeps of the units that failed (R465, R466). -/
def State.failedUnits (s : State) (chambers decs clocks sites rails : Nat) : State :=
  { s.setFld pMGMT F.MGMT.CHMB_FAILED_CHAMBERS chambers with
    boot := { (s.setFld pMGMT F.MGMT.CHMB_FAILED_CHAMBERS chambers).boot with decFailed := decs % 4, refclkBad := clocks % 32 }
    watch := { (s.setFld pMGMT F.MGMT.CHMB_FAILED_CHAMBERS chambers).watch with badSites := sites % 4096, badRails := rails % 1024 } }

/-- The device leaves reset at the ROOT_MULT of the image's settings (R459, R60). -/
def State.atImageClock (s : State) : State :=
  ({ s with boot := { s.boot with mult := s.setting 1 0 240 } } : State).afterReset

/-- SELFTEST_COMPLETE (R459, R465, R466): `critical` has bit t set where test 0, 1 or 3 failed; the masks name the chambers,
decoders, reference clocks, sites and rails that failed tests 2 and 4 to 6. Without a critical failure Lantern resets the
device to the image's ROOT_MULT and enters BRINGUP. -/
def execSelftestComplete (critical chambers decs clocks sites rails : Nat) (s : State) : Out :=
  s.event (s.phase == phSelftest) fun s =>
    let s1 := (s.itemsNoted (selftestItems (critical &&& 0xB) (s.testable chambers) decs clocks sites rails)).failedUnits
      (s.testable chambers) decs clocks sites rails
    if critical &&& 0xB ≠ 0 then (s1.setFld pMGMT F.MGMT.PHASE_STATUS_SELFTEST_OK 0).enterRecovery
    else ((((s1.setFld pMGMT F.MGMT.PHASE_STATUS_SELFTEST_OK 1).deviceReset true).atImageClock).lanternOn pPWR).phaseTo phBringup

/-- The reference clock of a lane, as bits of test 5: ETH 1, PCIE 2, SDI 3, ROPE 4 (R354, R465). -/
def laneRefclk (n : Nat) : Nat := match laneKind n with | 0 => 1 | 3 => 2 | 4 => 4 | _ => 3

/-- The protected-layer data of an image: NOR address and length (R463). -/
def State.protSection (s : State) (slot : Nat) : Option Section :=
  (s.sections 8 (slotBase slot + 256) (leNat (s.norLoad (slotBase slot + 8) 4))).bind fun l => l.find? fun x => x.type == 4

/-- Step 4 of BRINGUP: the protected data, the PROT registers and the MTX windows; none where the data have no place in DRAM
(R127, R399, R467). -/
def State.protectedData (s : State) (slot : Nat) : Option State :=
  let has := s.boot.settings.any fun e => e.1 == 0x10
  let dst := (s.setting 0x10 0 0 + s.setting 0x10 1 0 * 2 ^ 32) % 2 ^ 36
  let placed : Option State := match s.protSection slot with
    | none => some s
    | some x =>
      if !has ∨ dst + x.len > s.dramTop then none
      else
        let base := dst / 4096 * 4096
        let limit := ceilDiv (dst + x.len) 4096 * 4096
        let w (r v : Nat) (t : State) : State := t.wpWrite true 0 r (BitVec.ofNat 32 v)
        some (w 5 3 (w 4 1 (w 3 (limit / 2 ^ 32) (w 2 limit (w 1 (base / 2 ^ 32) (w 0 base (s.memStore dst (s.norLoad x.addr x.len))))))))
  placed.map fun t =>
    let t1 := (t.boot.settings.filter fun e => e.1 == 0x11).foldl (fun u e =>
      State.protWrite true (e.2.1 / 8) (e.2.1 % 8) (BitVec.ofNat 32 e.2.2) u) t
    (t1.boot.settings.filter fun e => e.1 == 0x12).foldl (fun u e =>
      u.wpWrite true (e.2.1 / 8) (e.2.1 % 8) (BitVec.ofNat 32 e.2.2)) t1

/-- A slot's boot reaches SERVICE: a PENDING slot becomes VALID, and the security counter rises to the lower SEC_VER of the
two slots (R462, R463). -/
def State.slotServes (s : State) (slot : Nat) : State :=
  let s1 := { s with boot := { s.boot with runSlot := some slot } }
  if (s.slotDir slot).state = sdPending then
    let s2 := s1.setSlot slot { s.slotDir slot with state := sdValid, trials := 0 }
    let sec := max s.nor.secCounter (min (s.imageSec 0) (s.imageSec 1))
    { s2 with nor := { s2.nor with secCounter := if (s.slotDir (1 - slot)).state = sdValid then sec else s.nor.secCounter } }.setFld
      pMGMT F.MGMT.TRUST_STATUS_SEC_COUNTER (if (s.slotDir (1 - slot)).state = sdValid then sec else s.nor.secCounter)
  else s1

/-- The records held in Lantern SRAM go to the memory log that the settings place (R467 step 8, R473). -/
def State.openLog (s : State) : State :=
  if s.boot.settings.any (fun e => e.1 == 0xA) && s.boot.settings.any (fun e => e.1 == 0xB) then
    let base := (s.setting 0xA 0 0 + s.setting 0xA 1 0 * 2 ^ 32) % 2 ^ 36
    let s1 := { s with log := { s.log with opened := true, base := base, mib := s.setting 0xB 0 1, held := [] } }
    s.log.held.foldl State.memLog s1
  else s

/-- Steps 2 and 3 of BRINGUP: MTX and INTC, the map, and each memory channel that its training found settings for. -/
def State.bringMemory (trained : Nat) (s : State) : State :=
  let s1 : State := ((s.lanternOn pMTX).lanternOn pINTC).showMap
  s1.mapList.foldl (fun t c => if trained / 2 ^ c % 2 = 1 then (t.lanternOn (pMEMC c)).memcBegin c
    else t.reason (pMEMC c) Cls.resource 0x14) s1

/-- Step 5 of BRINGUP: the lanes whose reference clock toggles. -/
def State.bringLanes (s : State) : State :=
  let s4 : State := UnitType.src.pages.foldl (fun t p => t.setFld p F.SRC.PROT_LOCK_LOCK 1) s
  (List.range 38).foldl (fun t n =>
    if t.boot.refclkBad / 2 ^ laneRefclk n % 2 = 1 then t.reason (pLANE n) Cls.dependency 0x12 else t.lanternOn (pLANE n)) s4

/-- Steps 6 to 8 of BRINGUP: TASK with its firmware, the logs, HOST, TSCH and LOOK. -/
def State.bringTask (slot : Nat) (s : State) : State :=
  let sump := s.setting 8 0 0
  let s6 : State :=
    if sump / 2 ^ 21 * 2 ^ 21 + sump % 16 * 2 ^ 32 + s.setting 9 0 0 * 2 ^ 20 > s.dramTop then s.reason pTASK Cls.range 0x10
    else ((s.setFld pTASK F.TASK.SUMP_BASE_LO (sump / 2 ^ 21 * 2 ^ 21)).setFld pTASK F.TASK.SUMP_BASE_HI_ADDR
      (sump % 16)).setFld pTASK F.TASK.SUMP_SIZE_MIB (s.setting 9 0 0)
  let fw : FwBank := ⟨true, s6.imageVer slot, s6.imageAbi slot⟩
  let s7 : State := ((s6.setFld pTASK F.TASK.FW_ACTIVE_VER fw.version).setFld pTASK F.TASK.FW_STATUS_ABI fw.abi).lanternOn pTASK
  let s8 : State := { s7 with task := { TaskState.reset with bank0 := fw } }
  let s9 : State := ((s8.openLog.lanternOn pHOST).lanternOn pTSCH).setFld pHOST F.HOST.LINK_STATUS_CLK_MODE (s8.setting 7 0 0)
  if s9.boot.mult = 240 then s9.lanternOn pLOOK else s9

/-- Step 9 of BRINGUP for one chamber: OUT_OF_SERVICE where it failed self-test, else ON and pooled. -/
def State.bringChamber (s : State) (c : Nat) : State :=
  if s.boot.mult ≠ 240 then s
  else if s.fld pMGMT F.MGMT.CHMB_FAILED_CHAMBERS / 2 ^ c % 2 = 1 then s.lanternOos (pCHMB c)
  else if (s.page (pCHMB c)).absence ≠ 0 then s
  else
    let s1 : State := s.lanternOn (pCHMB c)
    { s1 with chmb := Tab.set .reset s1.chmb c { ChamberState.reset with pooled := true } }

/-- Step 9 of BRINGUP: chambers and decoders; then the warning limits of the settings and the SYS limits. -/
def State.bringUnits (s : State) : State :=
  let s10 : State := (List.range 18).foldl State.bringChamber s
  let s11 : State := [0, 1].foldl (fun t d => if t.boot.decFailed / 2 ^ d % 2 = 1 then t.lanternOos (pDEC d) else t) s10
  let s12 : State := (s11.boot.settings.filter fun e => e.1 == 0x13).foldl (fun t e => t.setFld pSENS (F.SENS.TEMP_WARN_WARN e.2.1)
    (e.2.2 % 65536)) s11
  s12.limits s12.chmbInService (s12.fld pSYS F.SYS.CHMB_RESERVE_RESERVE) s12.memcInService

/-- A critical failure of BRINGUP: Lantern resets the device to ROOT_MULT 120, at which RECOVERY runs (R58, R467, R477). -/
def State.bringFails (s : State) : State :=
  let s1 := s.deviceReset true
  (((({ s1 with boot := { s1.boot with mult := 120 } }).afterReset).lanternOn pPWR).setFld pMGMT F.MGMT.PHASE_STATUS_SELFTEST_OK 0).enterRecovery

/-- BRINGUP_COMPLETE (R467): every step of bring-up is done; `trained` has a bit for each memory channel that its training
found settings for. Where the protected data have no place in DRAM the boot fails critically. -/
def execBringupComplete (trained : Nat) (s : State) : Out :=
  s.event (s.phase == phBringup) fun s =>
    let slot := s.boot.heldSlot.getD 0
    let s2 : State := s.bringMemory trained
    match s2.protectedData slot with
    | none => s2.bringFails
    | some s3 =>
      ((((s3.bringLanes.bringTask slot).bringUnits.slotServes slot).phaseTo phService).raise pMGMT F.MGMT.intHANDED_OVER).dirChanged

/-- BOOT_WATCHDOG (R468): SERVICE is not reached within 5 s of entry to BOOT. -/
def execBootWatchdog (s : State) : Out :=
  s.event ((s.phase == phBoot || s.phase == phSelftest || s.phase == phBringup) &&
      decide (s.boot.ps ≥ s.boot.bootAt + 5000000000000)) fun s => s.lanternReboot 4

/-! ## Watchdogs (R471, R472) -/

/-- The MGMT operation in progress ends REFUSED with UNIT_FAULT; a slot being written is left EMPTY (R471, R476, R501). -/
def State.mgmtOpFails (s : State) : State :=
  let kind := s.fld pMGMT F.PAGE_OP_KIND
  if kind ≥ 5 ∧ s.opRunning pMGMT kind then (s.refuse pMGMT Cls.resource 0x0E).opEnd pMGMT opRefused else s

/-- LANTERN_WATCHDOG (R471): in SERVICE Lantern restarts in resume mode; in any other phase the expiry acts as the boot
watchdog with cause 3. -/
def execLanternWatchdog (s : State) : Out :=
  s.event (s.phase != phReset && !s.boot.porHeld) fun s =>
    if s.phase = phService then
      (((s.mgmtOpFails.raise pMGMT F.MGMT.intLANTERN_RESTARTED).logEv pMGMT F.MGMT.intLANTERN_RESTARTED 4 0 []).fatal 6)
    else s.lanternReboot 3

/-- HOST_WDT_KICK (R472). -/
def State.hostKick (s : State) : State := { s with watch := { s.watch with wdtAt := s.boot.ps } }

def execHostWdtKick (s : State) : Out := s.onPage pMGMT State.hostKick

/-- A write of HOST_WDT_CFG (R472). -/
def State.hostWdtCfg (v : Word) (s : State) : State :=
  let period := F.MGMT.HOST_WDT_CFG_PERIOD_MS.of v
  if period < 10 ∨ period > 60000 then s.reason pMGMT Cls.range 0x03
  else (s.setReg (F.MGMT.HOST_WDT_CFG.addr pMGMT) (v &&& 0x8001FFFF#32)).hostKick

/-- HOST_WDT_EXPIRED (R472): the host misses a period; with ACTION 1 the act of PAIR_CTRL.YIELD_NOW follows. -/
def execHostWdtExpired (s : State) : Out :=
  s.event (s.bit pMGMT F.MGMT.HOST_WDT_CFG_EN &&
      decide (s.boot.ps ≥ s.watch.wdtAt + s.fld pMGMT F.MGMT.HOST_WDT_CFG_PERIOD_MS * 1000000000)) fun s =>
    let s1 := ((s.raise pMGMT F.MGMT.intHOST_WDT_EXPIRED).logEv pMGMT F.MGMT.intHOST_WDT_EXPIRED 4 0 []).hostKick
    if s.bit pMGMT F.MGMT.HOST_WDT_CFG_ACTION then s1.yieldNow else s1

/-! ## Operations of the MGMT page (R475 to R477) -/

/-- `n` bytes at `a` lie in software DRAM. -/
def State.inDram (s : State) (a n : Nat) : Bool := decide (a + n ≤ s.dramTop)

/-- Start a MGMT operation: ignored with OP_BUSY while one runs; outside SERVICE and RECOVERY there is none. -/
def State.mgmtStart (s : State) (f : State → State) : State :=
  let kind := s.fld pMGMT F.PAGE_OP_KIND
  if s.phase ≠ phService ∧ s.phase ≠ phRecovery then s
  else if kind ≥ 5 ∧ s.opRunning pMGMT kind then s.reason pMGMT Cls.conflict 0x11
  else f { s with nor := { s.nor with opAbort := false } }

/-- An operation is refused at once. -/
def State.mgmtRefuse (s : State) (kind cls detail : Nat) : State :=
  ((s.opBegin pMGMT kind).refuse pMGMT cls detail).opEnd pMGMT opRefused

/-- The slot that WRITE_SLOT and ACTIVATE act on: the one not running; which of the two while neither runs is open: a free
value (R475, R477). -/
def State.spareSlot (s : State) : Nat :=
  match s.boot.runSlot with
  | some k => 1 - k
  | none => s.freeWord.toNat % 2

/-- WRITE_SLOT to a slot: it is marked EMPTY before its first erase (R475, R476). -/
def State.writeSlotTo (slot : Nat) (s : State) : State :=
  s.mgmtStart fun s =>
    let len := s.fld pMGMT F.MGMT.UPD_LEN_BYTES
    if len < 64 ∨ len > 12582912 then s.mgmtRefuse 5 Cls.range 0x03
    else if !s.inDram (s.addr36 pMGMT F.MGMT.UPD_ADDR_LO) len then s.mgmtRefuse 5 Cls.range 0x15
    else
      let s1 := (s.opBegin pMGMT 5).setSlot slot ⟨sdEmpty, 0, 0⟩
      { s1 with nor := { s1.nor with opSlot := slot, written := none } }

/-- WRITE_SLOT (R475). -/
def State.writeSlot (s : State) : State :=
  (if s.boot.runSlot.isNone then s.tookFree else s).writeSlotTo s.spareSlot

def execWriteSlot (s : State) : Out := s.onPage pMGMT State.writeSlot

/-- ACTIVATE (R475, R476): refused unless the slot holds an image verified since the last boot. -/
def State.activate (trials : Nat) (s : State) : State :=
  s.mgmtStart fun s =>
    match s.nor.written with
    | none => if trials = 0 ∨ trials > 7 then s.mgmtRefuse 6 Cls.range 0x03 else s.mgmtRefuse 6 Cls.dependency 0x14
    | some k =>
      if trials = 0 ∨ trials > 7 then s.mgmtRefuse 6 Cls.range 0x03
      else
        let s1 := (s.opBegin pMGMT 6).setFld pMGMT F.MGMT.MGMT_CMD_TRIALS trials
        { s1 with nor := { s1.nor with opSlot := k } }

def execActivate (trials : Nat) (s : State) : Out := s.onPage pMGMT (State.activate trials)

/-- NOR_READ (R475, R476). -/
def State.norRead (s : State) : State :=
  s.mgmtStart fun s =>
    let a := s.fld pMGMT F.MGMT.NOR_ADDR_ADDR
    let n := s.fld pMGMT F.MGMT.NOR_LEN_BYTES
    if n = 0 ∨ n > 33554432 then s.mgmtRefuse 7 Cls.range 0x03
    else if a + n > 33554432 ∨ !s.inDram (s.addr36 pMGMT F.MGMT.UPD_ADDR_LO) n then s.mgmtRefuse 7 Cls.range 0x15
    else s.opBegin pMGMT 7

def execNorRead (s : State) : Out := s.onPage pMGMT State.norRead

/-- RESTART (R475): a Lantern-issued reset and a full boot. -/
def State.mgmtRestart (s : State) : State :=
  s.mgmtStart fun s => ((s.opBegin pMGMT 8).opEnd pMGMT opCompleted).lanternReboot 2

def execMgmtRestart (s : State) : Out := s.onPage pMGMT State.mgmtRestart

/-- A write to MGMT_CMD (R475). -/
def State.mgmtCmd (v : Word) (s : State) : State :=
  match F.MGMT.MGMT_CMD_OP.of v with
  | 1 => s.writeSlot
  | 2 => s.activate (F.MGMT.MGMT_CMD_TRIALS.of v)
  | 3 => s.norRead
  | 4 => s.mgmtRestart
  | _ => s.reason pMGMT Cls.range 0x04

/-- An aborted WRITE_SLOT or NOR_READ ends at a block of 64 KiB; how many blocks it has done by then the spec leaves to time: a free
value (R475, log entry 256). The slot is left EMPTY. -/
def State.mgmtAborted (s : State) (kind : Nat) : State :=
  let a := s.addr36 pMGMT F.MGMT.UPD_ADDR_LO
  let n := if kind = 5 then s.fld pMGMT F.MGMT.UPD_LEN_BYTES else s.fld pMGMT F.MGMT.NOR_LEN_BYTES
  let done := min n (65536 * (s.freeWord.toNat % (ceilDiv n 65536 + 1)))
  let base := slotBase s.nor.opSlot
  let s1 := if kind = 5 then (s.norErase base (ceilDiv done 65536 * 65536)).norProgram base (s.loadBytes a done)
    else s.memStore a (s.norLoad (s.fld pMGMT F.MGMT.NOR_ADDR_ADDR) done)
  ({ s1 with nor := { s1.nor with opAbort := false } }.tookFree).opEnd pMGMT opAborted

/-- MGMT_OP_DONE (R475, R476): the running operation finishes its transfer. `sound` is whether the image's signature is
valid, `norOk` whether every erase and program verified. -/
def execMgmtOpDone (sound norOk : Bool) (s : State) : Out :=
  let kind := s.fld pMGMT F.PAGE_OP_KIND
  s.event (!s.boot.rootHeld && decide (5 ≤ kind) && decide (kind ≤ 7) && s.opRunning pMGMT kind) fun s =>
    if s.nor.opAbort then s.mgmtAborted kind else
    let a := s.addr36 pMGMT F.MGMT.UPD_ADDR_LO
    let refuse (t : State) (cls d : Nat) : State := (t.refuse pMGMT cls d).opEnd pMGMT opRefused
    if kind = 5 then
      let len := s.fld pMGMT F.MGMT.UPD_LEN_BYTES
      let base := slotBase s.nor.opSlot
      let s1 := (s.norErase base (ceilDiv len 65536 * 65536)).norProgram base (s.loadBytes a len)
      let rollback := decide ((s1.norByte (base + 7)).toNat < s.nor.secCounter)
      if !norOk then refuse s1 Cls.resource 0x16
      else match { s1 with nor := { s1.nor with secCounter := 0 } }.verifyImage s.nor.opSlot sound with
        | none => refuse s1 Cls.range 0x12
        | some _ =>
          if rollback then refuse s1 Cls.range 0x13
          else { s1 with nor := { s1.nor with written := some s.nor.opSlot } }.opEnd pMGMT opCompleted
    else if kind = 6 then
      if !norOk then refuse s Cls.resource 0x16
      else (s.setSlot s.nor.opSlot ⟨sdPending, s.fld pMGMT F.MGMT.MGMT_CMD_TRIALS, max s.nor.slotA.seq s.nor.slotB.seq + 1⟩).opEnd
        pMGMT opCompleted
    else (s.memStore a (s.norLoad (s.fld pMGMT F.MGMT.NOR_ADDR_ADDR) (s.fld pMGMT F.MGMT.NOR_LEN_BYTES))).opEnd pMGMT opCompleted

/-- XMODEM_IMAGE (R477): in RECOVERY the UART accepts an image and writes it to DRAM at 0x0; UPD_ADDR and UPD_LEN name it for
the console's load. -/
def execXmodemImage (bytes : List Byte) (s : State) : Out :=
  s.event (s.phase == phRecovery && s.inDram 0 bytes.length) fun s =>
    ((s.memStore 0 bytes).put64 pMGMT F.MGMT.UPD_ADDR_LO 0).setFld pMGMT F.MGMT.UPD_LEN_BYTES bytes.length

/-- CONSOLE_LOAD (R477): `load a` (0) or `load b` (1) in RECOVERY. -/
def execConsoleLoad (slot : Nat) (s : State) : Out :=
  s.event (s.phase == phRecovery && decide (slot < 2)) (State.writeSlotTo slot)

/-- The TASK fault in hand came within 10 s of the one before (R478). -/
def State.taskFaultAgain (s : State) : Bool :=
  match s.watch.taskFaultPrev, s.watch.taskFaultAt with
  | some a, some b => decide (b < a + 10000000000000)
  | _, _ => false

/-- Every outstanding command ends REFUSED with UNIT_FAULT (R478). -/
def State.refuseAllCmds (s : State) : State :=
  s.task.cmds.foldl (fun t x => (t.writeResult x.op opRefused x.page x.tag (reasonCode Cls.resource .task 0x0E)
    ((x.started.map Prod.fst).getD 0) []).err pTASK 3) s

/-- TASK's units take their reset values; the code banks and the results not yet sent stay (R478). -/
def State.taskCleared (s : State) : State :=
  { s with task := { TaskState.reset with bank0 := s.task.bank0, bank1 := s.task.bank1, unsent := s.task.unsent } }

/-- TASK_RESET (R478): Lantern resets TASK and the control cores after a TASK fault; outstanding commands end REFUSED with
UNIT_FAULT and threads are lost. A second fault within 10 s leaves TASK in FAULT. -/
def execTaskReset (s : State) : Out :=
  s.event (s.st pTASK == stFault && s.phase == phService && !s.taskFaultAgain) fun s =>
    (((s.logEv pTASK 0x21 5 0 []).refuseAllCmds.taskCleared.setFld pTASK F.TASK.TASK_STATUS_SWAP_ACTIVE 0).toState pTASK
      stOn).taskShow

/-! ## Sensors and temperature (R469, R470, R501, R502) -/

/-- A write to SENS_CLEAR: every MIN and MAX restarts (R469). -/
def State.sensClear (v : Word) (s : State) : State :=
  if v.toNat % 2 = 1 then { s with watch := { s.watch with fresh := true } } else s

def execSensClear (v : Word) (s : State) : Out := s.onPage pSENS (State.sensClear v)

/-- Two's complement value of a 16-bit reading. -/
def s16 (n : Nat) : Int := if n % 65536 < 32768 then (n % 65536 : Nat) else (n % 65536 : Nat) - (65536 : Int)

/-- One temperature reading: VALUE, VALID, MIN and MAX, and TEMP_WARN as it reaches its threshold (R469, R470). -/
def State.sampleTemp (s : State) (n : Nat) (v : Int) : State :=
  if s.watch.badSites / 2 ^ n % 2 = 1 then s.setFld pSENS (F.SENS.TEMP_VALID n) 0
  else
    let w := (v % 65536).toNat
    let fresh := s.watch.fresh || !s.bit pSENS (F.SENS.TEMP_VALID n)
    let lo := if fresh then v else min v (s16 (s.fld pSENS (F.SENS.TEMP_MINMAX_MIN n)))
    let hi := if fresh then v else max v (s16 (s.fld pSENS (F.SENS.TEMP_MINMAX_MAX n)))
    let warn := s16 (s.fld pSENS (F.SENS.TEMP_WARN_WARN n))
    let was := s.bit pSENS (F.SENS.TEMP_VALID n) && decide (s16 (s.fld pSENS (F.SENS.TEMP_VALUE n)) ≥ warn)
    let s1 := (((s.setFld pSENS (F.SENS.TEMP_VALUE n) w).setFld pSENS (F.SENS.TEMP_VALID n) 1).setFld pSENS
      (F.SENS.TEMP_MINMAX_MIN n) (lo % 65536).toNat).setFld pSENS (F.SENS.TEMP_MINMAX_MAX n) (hi % 65536).toNat
    if v ≥ warn ∧ !was then
      (s1.raise pSENS F.SENS.intTEMP_WARN).logEv pSENS F.SENS.intTEMP_WARN 3 0 ((24, n) :: logHalf 26 w)
    else s1

/-- One rail reading (R469, R470). -/
def State.sampleVolt (s : State) (n v : Nat) : State :=
  if s.watch.badRails / 2 ^ n % 2 = 1 then s.setFld pSENS (F.SENS.VOLT_VALID n) 0
  else
    let fresh := s.watch.fresh || !s.bit pSENS (F.SENS.VOLT_VALID n)
    let lo := if fresh then v else min v (s.fld pSENS (F.SENS.VOLT_MINMAX_MIN n))
    let hi := if fresh then v else max v (s.fld pSENS (F.SENS.VOLT_MINMAX_MAX n))
    let outside (x : Nat) : Bool := decide (x < s.fld pSENS (F.SENS.VOLT_LIM_VOLT_LOW n)) ||
      decide (x > s.fld pSENS (F.SENS.VOLT_LIM_VOLT_HIGH n))
    let was := s.bit pSENS (F.SENS.VOLT_VALID n) && outside (s.fld pSENS (F.SENS.VOLT_VALUE n))
    let s1 := (((s.setFld pSENS (F.SENS.VOLT_VALUE n) v).setFld pSENS (F.SENS.VOLT_VALID n) 1).setFld pSENS
      (F.SENS.VOLT_MINMAX_MIN n) lo).setFld pSENS (F.SENS.VOLT_MINMAX_MAX n) hi
    if outside v ∧ !was then
      (s1.raise pSENS F.SENS.intVOLT_WARN).logEv pSENS F.SENS.intVOLT_WARN 4 0 ((24, n) :: logHalf 26 v)
    else s1

/-- The valid temperature sites. -/
def State.validSites (s : State) : List Nat := (List.range 12).filter fun n => s.bit pSENS (F.SENS.TEMP_VALID n)

/-- JUNCTION and the TEMP_WARN level after a sample (R469, R470). -/
def State.junction (s : State) : State :=
  let vs := s.validSites.map fun n => s16 (s.fld pSENS (F.SENS.TEMP_VALUE n))
  let j := match vs with
    | [] => s16 (s.fld pSENS F.SENS.JUNCTION_VALUE)
    | v :: r => r.foldl max v
  let near := s.validSites.any fun n =>
    decide (s16 (s.fld pSENS (F.SENS.TEMP_VALUE n)) ≥ s16 (s.fld pSENS (F.SENS.TEMP_WARN_WARN n)) - 16)
  (s.setFld pSENS F.SENS.JUNCTION_VALUE (j % 65536).toNat).rawTo pSENS F.SENS.rawTEMP_WARN near

/-- The over-temperature action begins: OVERTEMP, SHUTDOWN, its record, FATAL_MASK bit 5 (R501). -/
def State.overtemp (s : State) (site : Nat) : State :=
  let s1 := (s.raise pSENS F.SENS.intOVERTEMP).logEv pSENS F.SENS.intOVERTEMP 6 0
    ((24, site) :: logHalf 26 (s.fld pSENS F.SENS.JUNCTION_VALUE))
  let s2 := (s1.mgmtOpFails.phaseTo phShutdown).raise pPWR F.PWR.intOT_ACTION
  ({ s2 with watch := { s2.watch with otAt := s2.boot.ps } }).fatal 5

/-- SENSOR_SAMPLE (R469, R470, R501): readings of the twelve sites in 0.125 °C and of the ten rails in mV; `implausible` of
them lie outside the plausible range. Sites 6 and 7 also reach the memory channels (R378). -/
def execSensorSample (temps : List Int) (volts : List Nat) (implausible : Nat) (s : State) : Out :=
  s.event (s.isOn pSENS && !s.boot.rootHeld && decide (temps.length = 12) && decide (volts.length = 10)) fun s =>
    let s1 := (List.range 12).foldl (fun t n => t.sampleTemp n (temps.getD n 0)) (s.errBy pSENS 0 implausible)
    let s2 := (List.range 10).foldl (fun t n => t.sampleVolt n (volts.getD n 0)) s1
    let s3 := { s2 with watch := { s2.watch with fresh := false } }.junction
    let s4 := ((List.range 16).filter fun n => s3.works (pMEMC n)).foldl (fun t n => t.memcSensor n (temps.getD (memcSite n) 0)) s3
    let j := s16 (s4.fld pSENS F.SENS.JUNCTION_VALUE)
    if j ≥ 880 ∧ s4.phase = phService ∧ !s4.validSites.isEmpty then
      s4.overtemp ((s4.validSites.find? fun n => s16 (s4.fld pSENS (F.SENS.TEMP_VALUE n)) == j).getD 0)
    else s4

/-- Picture work stops: every picture domain is to be cooled by staircase (R501). -/
def State.pictureStop (s : State) : State :=
  let s1 : State := { s with watch := { s.watch with coolAt := some s.boot.ps } }
  (govDomains.foldl (fun t d => t.govWant d false) s1).govShow

/-- The clocks of every unit but the Lantern domain stop, the shutdown record is programmed and SHUTDOWN_N falls (R501). -/
def State.clocksStop (s : State) : State :=
  let s1 := { s with pwr := { s.pwr with level := [], want := [], waking := false, cooling := false } }
  let s2 := (s1.setFld pPWR F.PWR.DOMAIN_WARM 0).govShow
  let e : LogEntry :=
    { time := if s.running then s.now else 0, noTime := !s.running, event := 0x0622, severity := 7, page := pMGMT, reason := 0,
      data := logHalf 26 (s.fld pSENS F.SENS.JUNCTION_VALUE), cycle := s.fabric }
  let s3 := ({ s2 with log := { s2.log with tokens := max 1 s2.log.tokens } }).makeRecord e
  { s3 with watch := { s3.watch with clocksStopped := true, shutdownN := true } }

/-- OT_HOLD_END (R501): HOLD_MS after the action began picture work stops; 0.01 ms later the clocks do. -/
def execOtHoldEnd (s : State) : Out :=
  let due : Bool := match s.watch.coolAt with
    | none => decide (s.boot.ps ≥ s.watch.otAt + s.fld pPWR F.PWR.OT_CFG_HOLD_MS * 1000000000)
    | some t => decide (s.boot.ps ≥ t + 10000000)
  s.event (s.phase == phShutdown && !s.watch.clocksStopped && due) fun s =>
    if s.watch.coolAt.isNone then s.pictureStop else s.clocksStop

/-- THERMTRIP (R502): the comparator at site 11 sees 115 °C. -/
def execThermtrip (s : State) : Out := .next { s with watch := { s.watch with thermtrip := true } }

/-- A write of a SENS threshold: TEMP_WARN of site `n`, or the limits of rail `n` (R470, MGMT fields). -/
def State.sensLimit (rail : Bool) (n : Nat) (v : Word) (s : State) : State :=
  if rail then s.setReg ((F.SENS.VOLT_LIM n).addr pSENS) v
  else if s16 v.toNat < -320 ∨ 880 < s16 v.toNat then s.reason pSENS Cls.range 0x03
  else s.setFld pSENS (F.SENS.TEMP_WARN_WARN n) v.toNat

/-- A write of LOG_CFG (R474): NOR_RATE 1 to 64. -/
def State.logCfg (v : Word) (s : State) : State :=
  let r := F.MGMT.LOG_CFG_NOR_RATE.of v
  if r = 0 ∨ r > 64 then s.reason pMGMT Cls.range 0x03
  else (s.setFld pMGMT F.MGMT.LOG_CFG_NOR_MIN_SEV v.toNat).setFld pMGMT F.MGMT.LOG_CFG_NOR_RATE r

end Sys2Proof.Machine
end

