-- ==== Sys2Proof/Machine/Inputs.lean ====
section
/-! DEFINITION. Video inputs (spec/04): SDI pictures and ancillary packets, ST 2110-20 packets with their policing and
merging, the line stores, frame indices, presence and missing samples. -/

namespace Sys2Proof.Machine

/-! ## Frame indices (R107 to R109) -/

/-- Two's complement of `i` in 32 bits, saturating (the PHASE fields). -/
def satWord (i : Int) : Word := toWord (max (-(2 ^ 31)) (min (2 ^ 31 - 1) i))

/-- Index group of an input page. -/
def State.indexGroup (s : State) (p : Nat) : Nat := (s.inputGeom [] p).2

/-- Active height of an input page. -/
def State.inputH (s : State) (p : Nat) : Nat := geomH (s.inputGeom [] p).1

/-- Active width of an input page. -/
def State.inputW (s : State) (p : Nat) : Nat := geomW (s.inputGeom [] p).1

/-- Index and phase of an RTP timestamp `r` accepted now, at NUM/DEN (R107). -/
def rtpIndex (now r num den : Nat) : Nat × Int :=
  let ref := now * 9 / 100000
  let ts64 := ref + sext32 (wrapSub r ref (2 ^ 32))
  let n := ((2 * ts64 * num + 90000 * den) / (180000 * den)).toNat
  (n, (now : Int) - alignPoint num den n)

/-- Index and phase of the arrival time `x`, at NUM/DEN (R108). -/
def arrivalIndex (x : Int) (num den : Nat) : Nat × Int :=
  let n := ((2 * x * num + den * 1000000000) / (2 * den * 1000000000)).toNat
  (n, x - alignPoint num den n)

/-- Is |phase| more than a quarter period (R109). -/
def phaseWide (phase : Int) (num den : Nat) : Bool := decide (4 * num * phase.natAbs > den * 1000000000)

/-! ## Line stores -/

/-- Picture `n` of an input page's line store. -/
def State.inPic (s : State) (p n : Nat) : Option InPic := (s.inputOf p).pics.find? fun x => x.n == n

/-- The key of a sample group: line and group (R104). -/
def groupKey (line g : Nat) : Nat := line * 4096 + g

/-- Write sample groups of a line from group `g` on. -/
def putGroups (t : Tab Nat) (line : Nat) : Nat → List Nat → Tab Nat
  | _, [] => t
  | g, v :: vs => putGroups (Tab.set 0 t (groupKey line g) (v % 2 ^ 40 + 1)) line (g + 1) vs

/-- Sample group (Cb, Y0, Cr, Y1) of a picture, none if it was not written. -/
def InPic.group (x : InPic) (line g : Nat) : Option (List Nat) :=
  match Tab.get 0 x.groups (groupKey line g) with
  | 0 => none
  | v + 1 => some [v / 2 ^ 30 % 1024, v / 2 ^ 20 % 1024, v / 2 ^ 10 % 1024, v % 1024]

/-- Change picture `n` of the line store of page `p`. -/
def State.updPic (s : State) (p n : Nat) (f : InPic → InPic) : State :=
  let x := s.inputOf p
  s.setInput p { x with pics := x.pics.map fun y => if y.n = n then f y else y }

/-- The number of lines of the page's ring (R104). -/
def State.ringLines (s : State) (p : Nat) : Nat := s.lsLines [] p

/-- Read instant R(k) less F of CTU row `k` of an input page's pictures, ps (R141). -/
def State.inputReadAt (s : State) (p k : Nat) : Nat :=
  let r := s.rateOf (s.indexGroup p)
  let h := s.inputH p
  min ((k + 1) * tRow r.1 r.2 h) (tAct h (tRow r.1 r.2 h))

/-- CTU rows of the frame cycle that started at counter ns `fire` whose read instants have passed (R111, R141). -/
def State.rowsDue (s : State) (p fire : Nat) : Nat :=
  ((List.range (ceilDiv (s.inputH p) 64)).filter fun k => decide (s.nowPs ≥ fire * 1000 + s.inputReadAt p k)).length

/-- First unread line of a page, over all its pictures as n × H + line: past the lines that a compositor has read, and past the
rows of the frame cycle in progress whose read instants have passed (R101, R105, R111; log entry 259). -/
def State.unread (s : State) (p : Nat) : Nat :=
  let x := s.inputOf p
  match x.frame with
  | none => x.readLine
  | some f => max x.readLine (f.n * s.inputH p + min (s.inputH p) (64 * s.rowsDue p f.fire))

/-- A new picture `n` of page `p` is accepted: it is indexed, and its phase is reported (R107 to R109). -/
def State.acceptPic (s : State) (p n : Nat) : State :=
  let x := s.inputOf p
  let h := s.inputH p
  s.setInput p { x with pics := x.pics ++ [⟨n, []⟩], last := some n,
                        readLine := if x.pics.isEmpty then max x.readLine (n * h) else x.readLine }

/-- The index is a repeated one (R109). -/
def State.indexDup (s : State) (p n : Nat) : Bool :=
  match (s.inputOf p).last with
  | some m => decide (n ≤ m)
  | none => false

/-! ## SDI receivers (R93 to R98, R108) -/

/-- The codes of LOCK_STATUS.RATE that carry a geometry at NUM/DEN on 2^links links (R91): 3G 1, 6G 3, 12G 5, one more for
a rate divided by 1.001. -/
def sdiRate (geom links num den : Nat) : Option Nat :=
  let slow := decide (num ≤ 30 * den)
  let mid := !slow && decide (num ≤ 60 * den)
  let base : Option Nat :=
    match geom, links with
    | 1, 0 => if slow || mid then some 1 else none
    | 2, 0 => if slow then some 3 else if mid then some 5 else none
    | 2, 2 => if mid then some 1 else none
    | 2, 1 => if !slow && !mid then some 5 else none
    | 3, 1 => if slow then some 5 else none
    | 3, 2 => if mid then some 5 else none
    | _, _ => none
  base.map fun b => if den = 1001 then b + 1 else b

/-- Active lines and active luma samples per line that link 1 shows of a picture of geometry `geom` on 2^links links: all of a
single link's; of four links of a two-sample interleave half the lines and half the samples (R91, R93; log entry 258). -/
def linkFormat (geom links : Nat) : Nat × Nat :=
  match links with
  | 0 => (geomH geom, geomW geom)
  | 1 => Config.dualLink geom
  | _ => (geomH geom / 2, geomW geom / 2)

/-- Lines of a picture period, blanking included, by geometry (log entry 65). -/
def totalLines (geom : Nat) : Nat := match geom with | 1 => 1125 | 2 => 2250 | _ => 4500

/-- A payload ID that R96 takes as a format mismatch: sampling other than 4:2:2 YCbCr, or not 10 bits. -/
def vpidBad (v : Word) : Bool :=
  v != 0 && (v.toNat / 2 ^ 16 % 16 != 0 || v.toNat / 2 ^ 24 % 4 != 1)

/-- The picture does not match the configured format (R93, R96). -/
def State.sdiMismatch (s : State) (n : Nat) (x : SdiPicture) : Bool :=
  let p := pSDIRX n
  let r := s.rateOf (s.indexGroup p)
  let geom := s.act p F.SDIRX.SDI_CFG_GEOM
  let links := s.act p F.SDIRX.SDI_CFG_LINKS
  (x.lines, x.samples) != linkFormat geom links || (List.range 4).any (fun i => vpidBad (s.reg ((F.SDIRX.VPID i).addr p))) ||
    decide (sdiRate geom links r.1 r.2 ≠ some (s.fld p F.SDIRX.LOCK_STATUS_RATE))

/-- What page `n` reports of every picture: DETECT, skew and line CRC errors (R93, R95). -/
def State.sdiReport (s : State) (n : Nat) (x : SdiPicture) : State :=
  let p := pSDIRX n
  ((((s.setFld p F.SDIRX.DETECT_LINES x.lines).setFld p F.SDIRX.DETECT_SAMPLES x.samples).setFld p
    F.SDIRX.LOCK_STATUS_SKEW_NS (min x.skew 65535))).errBy p 0 x.crcErrors

/-- Index and phase of a picture whose first active line starts now at SDIRX page `n` (R108). -/
def State.sdiStamp (s : State) (n : Nat) : Nat × Int :=
  let p := pSDIRX n
  let r := s.rateOf (s.indexGroup p)
  arrivalIndex ((s.now : Int) - sext32 (s.act p F.SDIRX.ALIGN_OFFSET)) r.1 r.2

/-- Line `l` of picture `m`, whose first active line starts now, is written by its row's read instant: it ends `l` + 1 line
periods later (R111; log entry 65). -/
def State.sdiInTime (s : State) (p m l : Nat) : Bool :=
  let g := s.indexGroup p
  let r := s.rateOf g
  decide (s.nowPs + (l + 1) * (1000000000000 * r.2) / (r.1 * totalLines (s.inputGeom [] p).1) ≤
    s.firePs g m + s.inputReadAt p (l / 64))

/-- Index the picture from its arrival now and write its lines (R108, R109, R111). -/
def State.sdiIndex (s : State) (n : Nat) (x : SdiPicture) : State :=
  let p := pSDIRX n
  let r := s.rateOf (s.indexGroup p)
  let i := s.sdiStamp n
  let s1 : State := s.setReg (F.SDIRX.PHASE.addr p) (satWord i.2)
  let s2 : State := if phaseWide i.2 r.1 r.2 then s1.raise p F.SDIRX.intPHASE_WARN else s1
  if s2.indexDup p i.1 then (s2.raise p F.SDIRX.intINDEX_DUP).err p 4
  else
    ((s2.acceptPic p i.1).updPic p i.1 fun y =>
      { y with groups := (x.data.filter fun d => s.sdiInTime p i.1 d.1).foldl (fun t d => putGroups t d.1 d.2.1 d.2.2) y.groups }).put64L
        p F.SDIRX.LAST_INDEX_LO i.1

/-- A picture arrives at SDIRX page `n` (R93 to R96, R108): one that differs from the format, or whose skew the buffer does not
absorb, is treated as absent. -/
def State.sdiPicture (s : State) (n : Nat) (x : SdiPicture) : State :=
  let p := pSDIRX n
  let s1 : State := s.sdiReport n x
  let differs := s1.sdiMismatch n x
  let s2 : State := if differs then s1.raise p F.SDIRX.intFORMAT_MISMATCH else s1
  let s3 : State := if x.skew > 4096 then (s2.raise p F.SDIRX.intSKEW).err p 7 else s2
  if differs || decide (x.skew > 4096) then s3 else s3.sdiIndex n x

/-- An enabled filter entry matches a packet (R97). -/
def State.ancMatch (s : State) (p : Nat) (x : AncPacket) (i : Nat) : Bool :=
  s.act p (F.SDIRX.ANC_FILTER_EN i) == 1 && s.act p (F.SDIRX.ANC_FILTER_DID i) == x.did &&
    (s.act p (F.SDIRX.ANC_FILTER_SDID_ANY i) == 1 || s.act p (F.SDIRX.ANC_FILTER_SDID i) == x.sdid) &&
    (s.act p (F.SDIRX.ANC_FILTER_SPACE i) == 0 || s.act p (F.SDIRX.ANC_FILTER_SPACE i) == (if x.hanc then 2 else 1))

/-- Pad octets with zeros to a multiple of `n`. -/
def padTo (n : Nat) (bs : List Byte) : List Byte := bs ++ List.replicate ((n - bs.length % n) % n) 0

/-- The ancillary record of a packet of the picture of index `m` (R98). -/
def ancRecord (m : Nat) (x : AncPacket) : List Byte :=
  padTo 8 (leBytes m 8 ++
    leBytes (x.line % 4096 + x.hanc.toNat * 2 ^ 12 + x.link % 4 * 2 ^ 13 + x.cStream.toNat * 2 ^ 15 + x.udw.length % 256 * 2 ^ 24) 4 ++
    leBytes (x.did % 256 + x.sdid % 256 * 256 + x.checksumOk.toNat * 2 ^ 16) 4 ++
    x.udw.flatMap fun v => leBytes (v % 1024) 2)

/-- Write the record of a packet of the picture of index `m`, or drop it where the ring has no room (R97, R98). -/
def State.ancWrite (s : State) (p m : Nat) (x : AncPacket) : State :=
  let s1 : State := if x.checksumOk then s else s.err p 6
  let o := s1.offer (s1.act p F.SDIRX.SDI_CFG_ANC_RING) p (ancRecord m x)
  if o.2 then o.1 else (o.1.raise p F.SDIRX.intANC_DROP).err p 5

/-- An ST 352 payload ID packet (R96; log entry 121). -/
def isPayloadId (x : AncPacket) : Bool := x.did == 0x41 && x.sdid == 0x01

/-- VPIDi takes bytes 1 to 4 of the latest payload ID of link i (R96). -/
def State.vpidSeen (s : State) (p : Nat) (x : AncPacket) : State :=
  let y := s.inputOf p
  (s.setReg ((F.SDIRX.VPID x.link).addr p) (BitVec.ofNat 32 (leNat (x.udw.take 4 |>.map fun v => BitVec.ofNat 8 v)))).setInput p
    { y with links := Tab.upd .reset y.links x.link fun l => { l with vpidAge := 0 } }

/-- An ancillary packet of SDIRX page `n` (R96 to R98): a payload ID is stored; a packet that a filter matches is written with the
index of its picture, one ahead of its picture's first active line when that line starts. The index of a picture whose first
active line the page has not seen is a free value (log entry 121). -/
def State.ancArrives (s : State) (n : Nat) (x : AncPacket) : State :=
  let p := pSDIRX n
  let s1 : State := if isPayloadId x then s.vpidSeen p x else s
  if s1.act p F.SDIRX.SDI_CFG_ANC_EN == 1 && (List.range 16).any (s1.ancMatch p x) then
    let y := s1.inputOf p
    if x.ahead then s1.setInput p { y with anc := y.anc ++ [x] }
    else match y.arrived with
      | some m => s1.ancWrite p m x
      | none => (s1.ancWrite p s1.freeWord.toNat x).tookFree
  else s1

/-- ANC_PACKET (R96 to R98): an ST 291 packet in the ancillary spaces of a locked link. -/
def execAncPacket (n : Nat) (x : AncPacket) (s : State) : Out :=
  s.event (decide (n < 16) && s.works (pSDIRX n) && decide (x.link < s.sdiLinks n) && s.sdiLocked n x.link) fun s => s.ancArrives n x

/-- The first active line of a picture starts at SDIRX page `n`: the packets that waited for its index are written (R98, R108). -/
def State.ancFlush (s : State) (n : Nat) : State :=
  let p := pSDIRX n
  let y := s.inputOf p
  let m := (s.sdiStamp n).1
  y.anc.foldl (fun t x => t.ancWrite p m x) (s.setInput p { y with arrived := some m, anc := [] })

/-- SDI_PICTURE_ARRIVAL: the SAV of the first active line of link 1 is accepted at a locked page (R108). -/
def execSdiPictureArrival (n : Nat) (x : SdiPicture) (s : State) : Out :=
  s.event (decide (n < 16) && s.works (pSDIRX n) && s.bit (pSDIRX n) F.SDIRX.LOCK_STATUS_LOCKED && s.running) fun s =>
    (s.sdiPicture n x).ancFlush n

/-- A frame cycle of the index group starts at an SDIRX page: VPIDi of a link without a payload ID in the last two pictures reads
0 (R96; log entry 260). -/
def State.vpidAging (s : State) (p : Nat) : State :=
  (List.range 4).foldl (fun t i =>
    let y := t.inputOf p
    let l : LinkState := Tab.get .reset y.links i
    let t1 : State := t.setInput p { y with links := Tab.set .reset y.links i { l with vpidAge := min 3 (l.vpidAge + 1) } }
    if l.vpidAge ≥ 2 then t1.setReg ((F.SDIRX.VPID i).addr p) 0 else t1) s

/-! ## IP receivers: paths (R100 to R103) -/

/-- State of path 0 (A) or 1 (B) of an IPIN page. -/
def State.path (s : State) (p b : Nat) : PathState := if b = 0 then (s.inputOf p).pathA else (s.inputOf p).pathB

def State.setPath (s : State) (p b : Nat) (x : PathState) : State :=
  let y := s.inputOf p
  s.setInput p (if b = 0 then { y with pathA := x } else { y with pathB := x })

/-- PATH_STATUS and the level copies of path `b` (R102). -/
def State.pathActive (s : State) (p b : Nat) (on : Bool) : State :=
  (s.setFld p ⟨F.IPIN.PATH_STATUS.off, b, 1⟩ on.toNat).rawTo p (8 + b) on

/-- Path `b` of an IPIN page is active (R102). -/
def State.isPathActive (s : State) (p b : Nat) : Bool := s.bit p ⟨F.IPIN.PATH_STATUS.off, b, 1⟩

/-- Both buckets are full again when a new rate or burst applies (R103). Tokens are counted in 1/8,000 byte. -/
def State.policeReset (s : State) (p : Nat) : State :=
  let full := s.act p F.IPIN.POLICE_BURST_BURST * 8000
  [0, 1].foldl (fun t b => t.setPath p b { t.path p b with tokens := full, tokAt := t.now }) s

/-- The tokens of a path now: POLICE_RATE × 125,000 bytes per second, up to POLICE_BURST (R103). -/
def State.policeTokens (s : State) (p b : Nat) : Nat :=
  min ((s.path p b).tokens + (s.now - (s.path p b).tokAt) * s.act p F.IPIN.POLICE_RATE_RATE) (s.act p F.IPIN.POLICE_BURST_BURST * 8000)

/-- The policer of path `b` judges a packet of `len` bytes: the state after and whether it is accepted (R103). -/
def State.police (s : State) (p b len : Nat) : State × Bool :=
  let tok := s.policeTokens p b
  if len * 8000 ≤ tok then (s.setPath p b { s.path p b with tokens := tok - len * 8000, tokAt := s.now }, true)
  else (((s.setPath p b { s.path p b with tokens := tok, tokAt := s.now }).raise p F.IPIN.intPOLICED).err p (3 + b), false)

/-- A packet is accepted on path `b` now (R102). -/
def State.pathSeen (s : State) (p b : Nat) : State :=
  let s1 : State := s.setPath p b { s.path p b with last := s.now }
  if s1.isPathActive p b then s1 else (s1.pathActive p b true).raise p (8 + 2 * b)

/-- IPIN_PATH_INACTIVE: no packet on an active path for one frame period of the index group (R102). -/
def execIpinPathInactive (n b : Nat) (s : State) : Out :=
  let p := pIPIN n
  let r := s.rateOf (s.indexGroup p)
  s.event (decide (n < 32) && decide (b < 2) && s.works p && s.isPathActive p b &&
      decide ((s.now - (s.path p b).last) * r.1 ≥ r.2 * 1000000000)) fun s =>
    (s.pathActive p b false).raise p (9 + 2 * b)

/-- A packet of picture `n` is accepted on path `b` now (R102). -/
def State.pathArrival (s : State) (p b n : Nat) : State :=
  let x := s.path p b
  s.setPath p b { x with arr := Tab.upd (0, 0) x.arr n fun v => (v.1 + s.now, v.2 + 1) }

/-- PATH_STATUS.SKEW_US of picture `n`, none of whose packets can be written any more: the mean arrival on B less that on A, while
both paths are active (R102; log entry 257). -/
def State.pathSkew (s : State) (p n : Nat) : State :=
  let a : Nat × Nat := Tab.get (0, 0) (s.path p 0).arr n
  let b : Nat × Nat := Tab.get (0, 0) (s.path p 1).arr n
  let s1 : State := if a.2 = 0 ∨ b.2 = 0 ∨ !s.isPathActive p 0 ∨ !s.isPathActive p 1 then s
    else
      let us : Int := ((b.1 * a.2 : Nat) - (a.1 * b.2 : Nat) : Int) / ((1000 * a.2 * b.2 : Nat) : Int)
      s.setFld p F.IPIN.PATH_STATUS_SKEW_US (BitVec.ofInt 16 (max (-(2 ^ 15)) (min (2 ^ 15 - 1) us))).toNat
  [0, 1].foldl (fun t c => t.setPath p c { t.path p c with arr := (t.path p c).arr.filter fun v => decide (v.1 > n) }) s1

/-! ## IP receivers: RTP and ST 2110-20 packets (R99, R515) -/

/-- A big-endian number of `n` octets at `o`. -/
def octetsAt (bs : List Byte) (o n : Nat) : Nat := beNat ((bs.drop o).take n)

/-- Octets of an RTP header: 12, its CSRC list, and its extension (RFC 3550). -/
def rtpHeader (bs : List Byte) : Nat :=
  let h := 12 + 4 * (octetsAt bs 0 1 % 16)
  if octetsAt bs 0 1 / 16 % 2 = 1 then h + 4 + 4 * octetsAt bs (h + 2) 2 else h

def rtpSeq (bs : List Byte) : Nat := octetsAt bs 2 2
def rtpTime (bs : List Byte) : Nat := octetsAt bs 4 4

/-- The sample row data headers of a payload: length, line, sample offset; at most `n`. -/
def rowHeaders (bs : List Byte) : Nat → Nat → List (Nat × Nat × Nat)
  | 0, _ => []
  | n + 1, o =>
    let h := (octetsAt bs o 2, octetsAt bs (o + 2) 2 % 2 ^ 15, octetsAt bs (o + 4) 2 % 2 ^ 15)
    if octetsAt bs (o + 4) 2 ≥ 2 ^ 15 then h :: rowHeaders bs n (o + 6) else [h]

/-- The packet is malformed for a picture of `w` × `h` (R515): row headers `hs` of a payload of `len` octets. -/
def malformed (w h len : Nat) (hs : List (Nat × Nat × Nat)) : Bool :=
  decide (hs.length > 3) || hs.any (fun x => decide (x.2.1 ≥ h) || decide (x.1 % 5 ≠ 0) || decide (x.2.2 + x.1 / 5 * 2 > w)) ||
    decide (2 + 6 * hs.length + hs.foldl (fun n x => n + x.1) 0 > len)

/-- Groups of 5 octets as 40-bit numbers. -/
def octetGroups : Nat → List Byte → List Nat
  | 0, _ => []
  | n + 1, bs => beNat (bs.take 5) :: octetGroups n (bs.drop 5)

/-- Write the rows of a packet into a picture. -/
def putRows (t : Tab Nat) : List (Nat × Nat × Nat) → List Byte → Tab Nat
  | [], _ => t
  | x :: xs, bs => putRows (putGroups t x.2.1 (x.2.2 / 2) (octetGroups (x.1 / 5) bs)) xs (bs.drop x.1)

/-- The sequence number nearest `ref` that is congruent to the 32-bit number `v`. -/
def unwrap32 (ref v : Nat) : Nat := (ref + sext32 (wrapSub v ref (2 ^ 32))).toNat

/-- The extended sequence number of a packet, unwrapped about the last one judged (R101). -/
def State.extSeq (s : State) (p v : Nat) : Nat :=
  match (s.inputOf p).judged with
  | some j => unwrap32 j v
  | none => v + 2 ^ 32

/-- Note that path `b` has delivered sequence number `q`, whose first row is `line` of picture `n` (R101, R516). -/
def State.seqSeen (s : State) (p q b n line : Nat) : State :=
  let y := s.inputOf p
  let r : SeqRec := Tab.get .reset y.seqs q
  s.setInput p { y with seqs := Tab.set .reset y.seqs q
                          (if b = 0 then { r with a := true, n := n, line := line } else { r with b := true, n := n, line := line }),
                        judged := some (y.judged.getD (q - 1)) }

/-- Note what became of the picture with RTP timestamp `ts`. A timestamp is forgotten once one 2^31 or more counts past it has
come, so that a later use of its value is a new picture (log entry 261). -/
def State.noteStamp (s : State) (p ts : Nat) (n : Option Nat) : State :=
  let y := s.inputOf p
  s.setInput p { y with seen := (ts, n) :: y.seen.filter fun e => decide (wrapSub ts e.1 (2 ^ 32) < 2 ^ 31) }

/-- The picture of a packet by its RTP timestamp: the first packet of a new picture indexes it, or it is discarded for a repeated
index (R107, R109). Answers the index of an accepted picture. -/
def State.ipinIndex (s : State) (p ts : Nat) : State × Option Nat :=
  match (s.inputOf p).seen.find? fun e => e.1 == ts with
  | some e => (s, e.2)
  | none =>
    let r := s.rateOf (s.indexGroup p)
    let i := rtpIndex s.now ts r.1 r.2
    let s1 : State := s.setReg (F.IPIN.PHASE.addr p) (satWord i.2)
    let s2 : State := if phaseWide i.2 r.1 r.2 then s1.raise p F.IPIN.intPHASE_WARN else s1
    if s2.indexDup p i.1 then (((s2.noteStamp p ts none).raise p F.IPIN.intINDEX_DUP).err p 7, none)
    else
      (((((s2.acceptPic p i.1).noteStamp p ts (some i.1)).put64L p F.IPIN.LAST_INDEX_LO i.1)).setReg (F.IPIN.LAST_RTP_TS.addr p)
        (BitVec.ofNat 32 ts), some i.1)

/-- A video packet accepted on path `b` (R101, R105, R111, R515, R516): `pkt` is the RTP packet. Its number is noted as delivered
only where its picture is accepted and its lowest line is still unread and finds its ring entry (log entries 262 to 264). -/
def State.ipinVideo (s : State) (p b : Nat) (pkt : List Byte) : State :=
  let bs := pkt.drop (rtpHeader pkt)
  let hs := rowHeaders bs 4 2
  let h := s.inputH p
  if malformed (s.inputW p) h bs.length hs then s.err p 7
  else
    let q := s.extSeq p (octetsAt bs 0 2 * 65536 + rtpSeq pkt)
    let s1 := s.ipinIndex p (rtpTime pkt)
    match s1.2 with
    | none => s1.1
    | some n =>
      let s2 : State := s1.1.pathArrival p b n
      let x := s2.inputOf p
      let unread := s2.unread p
      let first := hs.foldl (fun m r => min m r.2.1) h
      let last := hs.foldl (fun m r => max m r.2.1) 0
      if n * h + first < unread then s2
      else if n * h + last ≥ unread + s.ringLines p then s2.err p 7
      else
        let r : SeqRec := Tab.get .reset x.seqs q
        let s3 : State := s2.seqSeen p q b n first
        if r.a || r.b then s3
        else s3.updPic p n fun y => { y with groups := putRows y.groups hs (bs.drop (2 + 6 * hs.length)) }

/-! ## Reading rows and judging packets (R101, R105, R111) -/

/-- The page receives ST 2110-20 video (R99). -/
def State.ipVideo (s : State) (p : Nat) : Bool := unitAt p == .ipin && s.act p F.IPIN.IP_CFG_MODE == 0

/-- The sequence numbers of a page up to a global line are judged: lost ones and path gaps are counted (R101, R516). A number
that no path has delivered is judged with the first higher number seen whose lowest line has been read (log entry 263). -/
def State.judgeSeqs (s : State) (p upto : Nat) : State :=
  let y := s.inputOf p
  let h := s.inputH p
  match y.judged with
  | none => s
  | some j =>
    let top := y.seqs.foldl (fun m c => if c.2.n * h + c.2.line < upto then max m c.1 else m) j
    let dual := s.act p F.IPIN.IP_CFG_DUAL == 1
    let s1 : State := (List.range (top - j)).foldl (fun t i =>
      let r : SeqRec := Tab.get .reset y.seqs (j + 1 + i)
      if !r.a && !r.b then t.err p 0
      else if dual && !r.a then t.err p 1
      else if dual && !r.b then t.err p 2
      else t) s
    s1.setInput p { s1.inputOf p with judged := some top, seqs := (s1.inputOf p).seqs.filter fun c => decide (c.1 > top) }

/-- Some sample of the lines from `a` up to but not `b` of a picture is missing (R111). -/
def linesMissing (x : InPic) (w a b : Nat) : List Nat :=
  ((List.range (b - a)).map (a + ·)).filter fun l => (List.range (w / 2)).any fun g => Tab.get 0 x.groups (groupKey l g) == 0

/-- INT_STATUS and counter numbers of absent pictures and of missing samples, by unit. -/
def absentBit (p : Nat) : Nat := if unitAt p = .sdirx then F.SDIRX.intPIC_ABSENT else F.IPIN.intPIC_ABSENT
def absentErr (p : Nat) : Nat := if unitAt p = .sdirx then 2 else 5
def missingBit (p : Nat) : Nat := if unitAt p = .sdirx then F.SDIRX.intSAMPLES_MISSING else F.IPIN.intSAMPLES_MISSING
def missingErr (p : Nat) : Nat := if unitAt p = .sdirx then 3 else 6

/-- Picture `n` is the one of the frame cycle in progress and was present at its start (R111). -/
def InputState.presents (y : InputState) (n : Nat) : Bool :=
  match y.frame with
  | some f => f.n == n && f.present
  | none => false

/-- Lines `a` up to but not `b` of picture `n` have been read: packets are judged, the ring entries become free, and missing
samples of a present picture are counted once (R101, R105, R111). -/
def State.linesRead (s : State) (p n a b : Nat) : State :=
  let h := s.inputH p
  let s1 : State := if s.ipVideo p then s.judgeSeqs p (n * h + b) else s
  let y := s1.inputOf p
  let miss := y.presents n && match s1.inPic p n with
    | some x => !(linesMissing x (s1.inputW p) a b).isEmpty
    | none => false
  let s2 : State := s1.setInput p { y with readLine := max y.readLine (n * h + b), counted := if miss then some n else y.counted }
  if !miss ∨ y.counted = some n ∨ unitAt p = .dec then s2 else (s2.raise p (missingBit p)).err p (missingErr p)

/-- Picture `n` of an input page is present: the page is ON, not leaving (R114), and holds a sample of it (R111). -/
def State.inputPresent (s : State) (p n : Nat) : Bool :=
  s.isOn p && match s.inPic p n with
    | some x => !x.groups.isEmpty
    | none => false

/-- The frame cycle in progress at an input page is over: every read instant of its picture has passed, whether or not a source
read it. Its packets are judged, its missing samples counted and its path skew reported (R101, R102, R111; log entry 259). -/
def State.inputEnd (s : State) (p : Nat) : State :=
  match (s.inputOf p).frame with
  | none => s
  | some f =>
    let s1 : State := s.linesRead p f.n 0 (s.inputH p)
    if s.ipVideo p then s1.pathSkew p f.n else if unitAt p = .sdirx then s1.vpidAging p else s1

/-- Older pictures than `n` leave the line store of an input page. -/
def State.dropBefore (s : State) (p n : Nat) : State :=
  let y := s.inputOf p
  s.setInput p { y with pics := y.pics.filter fun x => decide (x.n ≥ n), readLine := max y.readLine (n * s.inputH p) }

/-- The frame cycle of index `n` starts at an input page of the group at counter ns `fire`: the one before it ends, presence is
fixed, and an absent picture of an ON page is counted (R111, R112). A DEC page counts in its own chapter (R246). -/
def State.inputFrame (s : State) (p n fire : Nat) : State :=
  let s1 : State := (s.inputEnd p).dropBefore p n
  let present := s1.inputPresent p n
  let s2 : State := s1.setInput p { s1.inputOf p with frame := some ⟨n, fire, present⟩ }
  if present || !s.isOn p || !(unitAt p == .sdirx || s.ipVideo p) then s2 else (s2.raise p (absentBit p)).err p (absentErr p)

/-- An input page enters ON: its registers and its line store start afresh (R104, R109). -/
def State.inputOn (s : State) (p : Nat) : State :=
  let s1 : State := s.setInput p { InputState.reset with links := (s.inputOf p).links }
  match unitOf p with
  | some .sdirx => s1.setFld p F.SDIRX.LS_LINES_LINES (s1.lsLines [] p)
  | some .ipin => (s1.setFld p F.IPIN.LS_LINES_LINES (s1.lsLines [] p)).policeReset p
  | _ => s1

end Sys2Proof.Machine
end

