-- ==== Sys2Proof/Machine/Compose.lean ====
section
/-! DEFINITION. Composition and protected content (spec/05): layers and their blend, region signatures, the protected layer,
fences, and the row of the source that is read at its read instant (R116 to R129, R141). -/

namespace Sys2Proof.Machine

/-! ## Blend arithmetic (R119) -/

/-- dr: nearest by floor division. -/
def dr (x : Int) : Int := (x + 511) / 1023

/-- Limit a number to a range. -/
def clip (x lo hi : Int) : Int := max lo (min hi x)

/-- One sample blended: beneath `d`, layer value `v`, pixel alpha `a`, layer alpha `g`, offset `off` (R119). -/
def blend (premult : Bool) (d v a g off : Int) : Int :=
  let e := dr (a * g)
  if premult then
    let pg := off + dr ((v - off) * g)
    clip (pg + dr ((d - off) * (1023 - e))) 4 1019
  else clip (d + dr ((v - d) * e)) 4 1019

/-! ## Layers (R117) -/

/-- A layer as the compositor draws it. -/
structure Layer where
  fmt : Nat
  premult : Bool
  alpha : Nat
  x : Nat
  y : Nat
  w : Nat
  h : Nat
  base : Nat
  stride : Nat
  colour : Nat
deriving DecidableEq, Repr

/-- Layer `i` (1 to 7) of source `n` by its active registers. -/
def State.layer (s : State) (n i : Nat) : Layer :=
  let p := pSRC n
  let pos := s.act p (F.SRC.LAYER_POS i)
  let size := s.act p (F.SRC.LAYER_SIZE i)
  { fmt := s.act p (F.SRC.LAYER_CTRL_FMT i),
    premult := s.act p (F.SRC.LAYER_CTRL_PREMULT i) == 1 && s.act p (F.SRC.LAYER_CTRL_FMT i) != 3,
    alpha := s.act p (F.SRC.LAYER_CTRL_ALPHA i), x := loHalf pos, y := hiHalf pos, w := loHalf size, h := hiHalf size,
    base := (s.act p (F.SRC.LAYER_BASE_LO i) + s.act p (F.SRC.LAYER_BASE_HI_ADDR i) * 2 ^ 32) % 2 ^ 36,
    stride := s.act p (F.SRC.LAYER_STRIDE i) % 2 ^ 24, colour := s.act p (F.SRC.LAYER_COLOUR i) }

/-- The protected layer of source `n` (R128): always straight, layer alpha 1023. -/
def State.protLayer (s : State) (n : Nat) : Layer :=
  let p := pSRC n
  let pos := s.fld p F.SRC.PROT_POS
  let size := s.fld p F.SRC.PROT_SIZE
  { fmt := s.fld p ⟨0x600, 4, 2⟩, premult := false, alpha := 1023, x := loHalf pos, y := hiHalf pos, w := loHalf size,
    h := hiHalf size, base := s.addr36 p F.SRC.PROT_BASE_LO, stride := s.fld p F.SRC.PROT_STRIDE % 2 ^ 24,
    colour := s.fld p F.SRC.PROT_COLOUR }

/-- Layer `i` is composed: enabled and not hidden (R123). -/
def State.layerShown (s : State) (n i : Nat) : Bool :=
  s.act (pSRC n) (F.SRC.LAYER_CTRL_EN i) == 1 && !s.bit (pSRC n) ⟨F.SRC.LAYER_STATE.off, 16 + i, 1⟩

/-- Value and alpha of component `q` (0 Cb, 1 Y even, 2 Cr, 3 Y odd) of the pixel pair `j` of a layer line (R117). -/
def layerSample (l : Layer) (bs : List Byte) (j q : Nat) : Nat × Nat :=
  let word (k : Nat) : Nat := leNat ((bs.drop (8 * k)).take 8)
  match l.fmt with
  | 1 =>
    let w := word (if q = 3 then 2 * j + 1 else 2 * j)
    (w / 2 ^ (match q with | 0 => 16 | 2 => 32 | _ => 0) % 1024, w / 2 ^ 48 % 1024)
  | 2 =>
    let w := word j
    (w / 2 ^ (match q with | 0 => 10 | 1 => 0 | 2 => 30 | _ => 20) % 1024, w / 2 ^ (if q = 3 then 50 else 40) % 1024)
  | _ =>
    let a8 := (bs.getD (if q = 3 then 2 * j + 1 else 2 * j) 0).toNat
    (l.colour / 2 ^ (match q with | 0 => 10 | 2 => 20 | _ => 0) % 1024, a8 * 4 + a8 / 64)

/-- Offset of a component: 64 for luma, 512 for chroma (R119). -/
def sampleOff (q : Nat) : Int := if q = 1 ∨ q = 3 then 64 else 512

/-- Blend a layer line onto a composed line; sample i of a line is component i mod 4 of pixel pair i / 4. -/
def blendLine (l : Layer) (bs : List Byte) : Nat → List Nat → List Nat
  | _, [] => []
  | i, d :: ds =>
    let pair := i / 4
    let q := i % 4
    (if l.x / 2 ≤ pair ∧ pair < l.x / 2 + l.w / 2 then
      let v := layerSample l bs (pair - l.x / 2) q
      (blend l.premult d v.1 v.2 l.alpha (sampleOff q)).toNat
    else d) :: blendLine l bs (i + 1) ds

/-- A layer line drawn with alpha 0: the samples beneath, limited as every result of the blend is (R119). -/
def clearLine (l : Layer) : Nat → List Nat → List Nat
  | _, [] => []
  | i, d :: ds =>
    (if l.x / 2 ≤ i / 4 ∧ i / 4 < l.x / 2 + l.w / 2 then (clip d 4 1019).toNat else d) :: clearLine l (i + 1) ds

/-- Draw line `y` of a layer onto a composed line. A fetch that fails draws alpha 0 and counts in ERR_COUNT3 (R119). -/
def State.drawLayer (s : State) (n : Nat) (l : Layer) (y : Nat) (line : List Nat) : State × List Nat :=
  if l.y ≤ y ∧ y < l.y + l.h then
    let r := s.devRead mSRC (l.base + (y - l.y) * l.stride) (l.w * layerBpp l.fmt)
    match r.2.2 with
    | .ok => (r.1, blendLine l r.2.1 0 line)
    | _ => (r.1.err (pSRC n) 3, clearLine l 0 line)
  else (s, line)

/-- Opaque black over the protected rectangle of a line (R129). -/
def blackRect (l : Layer) : Nat → List Nat → List Nat
  | _, [] => []
  | i, d :: ds =>
    (if l.x / 2 ≤ i / 4 ∧ i / 4 < l.x / 2 + l.w / 2 then (if i % 2 = 1 then 64 else 512) else d) :: blackRect l (i + 1) ds

/-- Draw line `y` of the protected layer; a fetch that fails draws the line black and counts in ERR_COUNT4 (R129). -/
def State.drawProt (s : State) (n : Nat) (y : Nat) (line : List Nat) : State × List Nat :=
  let l := s.protLayer n
  if l.y ≤ y ∧ y < l.y + l.h then
    let r := s.devRead mSRC (l.base + (y - l.y) * l.stride) (l.w * layerBpp l.fmt)
    match r.2.2 with
    | .ok => (r.1, blendLine l r.2.1 0 line)
    | _ => (r.1.err (pSRC n) 4, blackRect l 0 line)
  else (s, line)

/-! ## Rows of a source (R111, R116, R141) -/

/-- Width and height of the picture that a source composes (R116). -/
def State.srcW (s : State) (n : Nat) : Nat := geomW (s.srcOf n).geom
def State.srcH (s : State) (n : Nat) : Nat := geomH (s.srcOf n).geom

/-- A black sample group: Cb, Y, Cr, Y. -/
def blackGroup : List Nat := [512, 64, 512, 64]

/-- Layer 0 of line `y`: the input's samples, black where one is missing or the picture is absent (R111, R112). -/
def State.videoLine (s : State) (n y : Nat) : List Nat :=
  let x := s.srcOf n
  let pic := if x.present then s.inPic x.input x.n else none
  (List.range (s.srcW n / 2)).flatMap fun g =>
    match pic with
    | some p => (p.group y g).getD blackGroup
    | none => blackGroup

/-- The protected layer is shown in the picture in composition (R128). -/
def State.protShown (s : State) (n : Nat) : Bool :=
  s.fld (pSRC n) F.SRC.PROT_CFG_MODE == 2 ||
    (s.fld (pSRC n) F.SRC.PROT_CFG_MODE == 1 && s.bit (pSRC n) ⟨F.SRC.SIG_STATUS.off, 16, 1⟩)

/-- Compose line `y` of source `n` (R116, R119, R128). -/
def State.composeLine (s : State) (n y : Nat) : State :=
  let r0 : State × List Nat := (s, s.videoLine n y)
  let r1 : State × List Nat := ((List.range 8).drop 1).foldl (fun (r : State × List Nat) i =>
    if r.1.layerShown n i then r.1.drawLayer n (r.1.layer n i) y r.2 else r) r0
  let r2 : State × List Nat := if r1.1.protShown n then r1.1.drawProt n y r1.2 else r1
  let x := r2.1.srcOf n
  r2.1.setSrc n { x with under := Tab.set [] x.under y r1.2, lines := Tab.set [] x.lines y r2.2 }

/-! ## Region signatures (R124 to R126) -/

/-- The octets of a region of the picture composed from layers 0 to 7. -/
def State.regionBytes (s : State) (n x y w h : Nat) : List Byte :=
  (List.range h).flatMap fun j =>
    (((Tab.get [] (s.srcOf n).under (y + j)).drop (2 * x)).take (2 * w)).flatMap fun v => leBytes v 2

/-- Evaluate region `i`, whose last sample has been composed (R126). -/
def State.evalRegion (s : State) (n i : Nat) : State :=
  let p := pSRC n
  let pos := s.act p (F.SRC.SIG_POS i)
  let size := s.act p (F.SRC.SIG_SIZE i)
  let v := crc32 (s.regionBytes n (loHalf pos) (hiHalf pos) (loHalf size) (hiHalf size))
  let s1 : State := s.setReg ((F.SRC.SIG_RESULT i).addr p) (BitVec.ofNat 32 v)
  let bit : Fld := ⟨F.SRC.SIG_STATUS.off, i, 1⟩
  if v = s.act p (F.SRC.SIG_EXPECT i) then s1.setFld p bit 0
  else
    let s2 : State := ((s1.setFld p bit 1).raise p F.SRC.intSIG_FAIL).err p 0
    if s.act p ⟨(F.SRC.SIG_CTRL i).off, 1, 1⟩ = 1 then s2.setSrc n { s2.srcOf n with failed := true } else s2

/-- The regions of a source whose last line lies in the lines from `a` up to but not `b`. -/
def State.regionsEnding (s : State) (n a b : Nat) : List Nat :=
  (List.range 16).filter fun i =>
    let last := hiHalf (s.act (pSRC n) (F.SRC.SIG_POS i)) + hiHalf (s.act (pSRC n) (F.SRC.SIG_SIZE i)) - 1
    s.act (pSRC n) ⟨(F.SRC.SIG_CTRL i).off, 0, 1⟩ == 1 && decide (a ≤ last) && decide (last < b)

/-! ## The protected layer in MODE 1 (R128) -/

def relCount : Fld := ⟨0x440, 24, 8⟩
def shownFld : Fld := ⟨0x440, 16, 1⟩

/-- Show or hide the protected layer: SIG_STATUS.SHOWN and its level condition. -/
def State.protSet (s : State) (n : Nat) (on : Bool) : State :=
  ((s.setFld (pSRC n) shownFld on.toNat).setFld (pSRC n) relCount 0).rawTo (pSRC n) F.SRC.rawPROT_SHOWN on

/-- A composed picture has ended (R128). -/
def State.protStep (s : State) (n : Nat) : State :=
  let p := pSRC n
  if s.fld p F.SRC.PROT_CFG_MODE ≠ 1 then s
  else if (s.srcOf n).failed then
    if s.bit p shownFld then s.setFld p relCount 0 else (s.protSet n true).raise p F.SRC.intPROT_SHOWN
  else if s.bit p shownFld then
    if s.fld p relCount + 1 ≥ s.fld p F.SRC.PROT_CFG_RELEASE then (s.protSet n false).raise p F.SRC.intPROT_RELEASED
    else s.setFld p relCount (s.fld p relCount + 1)
  else s

/-! ## The frame cycle of a source, and its rows -/

/-- Read and compose lines `a` up to but not `b` of source `n`. -/
def State.readLines (s : State) (n a b : Nat) : State :=
  let x := s.srcOf n
  let ls := (List.range (b - a)).map (a + ·)
  let miss := if x.present then
      match s.inPic x.input x.n with
      | some p => linesMissing p (s.srcW n) a b
      | none => ls
    else []
  let s1 : State := if x.composed then ls.foldl (fun t y => t.composeLine n y) s else s
  let s2 : State := s1.setSrc n { s1.srcOf n with missing := (s1.srcOf n).missing ++ miss }
  let s3 : State := if s2.works x.input then s2.linesRead x.input x.n a b else s2
  if x.composed then (s3.regionsEnding n a b).foldl (fun t i => t.evalRegion n i) s3 else s3

/-- CTU rows of a source's picture. -/
def State.srcRows (s : State) (n : Nat) : Nat := ceilDiv (s.srcH n) 64

/-- Channels that code the source `n`: CHAN pages at work whose scaler names it. -/
def State.chansOf (s : State) (n : Nat) : List Nat :=
  s.chansOn.filter fun c => s.act (pSCAL (s.act (pCHAN c) F.CHAN.CHAN_CFG_SCALER)) F.SCAL.SCAL_CFG_SOURCE == n

/-- Read instant of line `l` of source `n` less F, ps: that of its CTU row, or that of the row of a scaled channel whose nominal
span holds it, if that is earlier (R141; log entry 265). -/
def State.lineReadAt (s : State) (n l : Nat) : Nat :=
  let r := s.rateOf (s.srcOf n).group
  let h := s.srcH n
  (s.chansOf n).foldl (fun t c => min t ((s.geo c).readAt (l * (s.geo c).h / h / 64)))
    (min ((l / 64 + 1) * tRow r.1 r.2 h) (tAct h (tRow r.1 r.2 h)))

/-- The read instant of line `l` of the picture in composition has come. -/
def State.lineDue (s : State) (n l : Nat) : Bool :=
  decide (s.nowPs ≥ (Tab.get .reset s.grp (s.srcOf n).group).fire * 1000 + s.lineReadAt n l)

/-- First line after those of CTU row `k` of source `n` that are due and follow the lines read. -/
def State.readTo (s : State) (n k : Nat) : Nat :=
  let a := (s.srcOf n).done
  a + (((List.range (min (64 * k + 64) (s.srcH n) - a)).map (a + ·)).takeWhile (s.lineDue n)).length

/-- The lines of source `n` up to `b` are read, those that have not been (R111, R124 to R128, R141). -/
def State.rowRead (s : State) (n b : Nat) : State :=
  let a := (s.srcOf n).done
  let s0 : State := if a = 0 ∧ (s.srcOf n).composed ∧ s.fld (pSRC n) F.SRC.PROT_CFG_MODE = 1 ∧ s.protShown n
    then s.err (pSRC n) 1 else s
  let s1 : State := s0.readLines n a b
  let s2 : State := s1.setSrc n { s1.srcOf n with done := b }
  if b = s.srcH n ∧ (s.srcOf n).composed then s2.protStep n else s2

/-- A channel would code an absent picture over black: POLICY 1, or nothing to repeat (R112). -/
def State.codesBlack (s : State) (c : Nat) : Bool :=
  s.act (pCHAN c) F.CHAN.LOSS_CTRL_POLICY == 1 || (s.chanOf c).rc.first

/-- The picture of index `m` starts at source `n`: whether it is present and whether it is composed (R111, R112, R126). With
MODE 2 the protected layer is shown in every composed picture (R128). -/
def State.srcFrame (s : State) (n m : Nat) : State :=
  let x := s.srcOf n
  let present := s.inputPresent x.input m
  let composed := present || (s.chansOf n).any s.codesBlack
  let s1 : State := s.setSrc n { x with n := m, present := present, composed := composed, lines := [], under := [], missing := [],
                                        failed := false, done := 0, started := true }
  if composed && s.fld (pSRC n) F.SRC.PROT_CFG_MODE == 2 then s1.protSet n true else s1

/-! ## Fences, protected registers (R121, R127) -/

/-- Add `k` to FENCE_DONE of a layer (R121). -/
def State.fenceDone (s : State) (n i k : Nat) : State :=
  let f : Fld := ⟨(F.SRC.FENCE_DONE i).off, 0, 16⟩
  s.setFld (pSRC n) f (s.fld (pSRC n) f + k)

/-- FENCE_SIGNAL (R121): each bit 1 to 7 written 1 increments FENCE_DONE of its layer. -/
def State.fenceSignal (n : Nat) (v : Word) (s : State) : State :=
  ((List.range 8).drop 1).foldl (fun t i => if v.toNat / 2 ^ i % 2 = 1 then t.fenceDone n i 1 else t) s

def execFenceSignal (n : Nat) (v : Word) (s : State) : Out :=
  if n < 32 then s.onPage (pSRC n) (State.fenceSignal n v) else .next s

/-- A layer is ready: shadow EN 0, or FENCE_DONE has reached the shadow FENCE_WANT (R121). -/
def State.layerReady (s : State) (n i : Nat) : Bool :=
  let p := pSRC n
  s.fld p (F.SRC.LAYER_CTRL_EN i) == 0 ||
    decide (wrapSub (s.fld p ⟨(F.SRC.FENCE_DONE i).off, 0, 16⟩) (s.fld p ⟨(F.SRC.LAYER_FENCE_WANT i).off, 0, 16⟩) 65536 < 32768)

/-- PROT_WRITE (R127): a write to PROT_CFG to PROT_COLOUR (r from 0 to 6). -/
def execProtWrite (byLantern : Bool) (n r : Nat) (v : Word) (s : State) : Out :=
  if n < 32 ∧ r < 7 then
    (if byLantern then .next (State.protWrite true n r v s) else s.onPage (pSRC n) (State.protWrite false n r v))
  else .next s

/-- PROT_LOCK (R127): Lantern sets LOCK; the host's write is ignored with LOCKED_FIELD. -/
def execProtLock (byLantern : Bool) (n : Nat) (s : State) : Out :=
  if n < 32 then
    (if byLantern then .next (State.protWrite true n 7 1#32 s) else s.onPage (pSRC n) (State.protWrite false n 7 1#32))
  else .next s

end Sys2Proof.Machine
end

