-- ==== Sys2Proof/Machine/Look.lean ====
section
/-! DEFINITION. Scaling (spec/05, R130 to R133, R137), staging (spec/06, R148, R149) and lookahead (R143, R150 to R152, R517,
R518): the samples that a channel codes, the staging ring, the luma proxy of its pictures, the costs of a row, scene cuts, and
missing samples. -/

namespace Sys2Proof.Machine

/-! ## Packed fields -/

/-- Fields (value, width) as a number, the first at bit 0, and their bits (R225). -/
def packBits : List (Nat × Nat) → Nat × Nat
  | [] => (0, 0)
  | (v, w) :: fs => let r := packBits fs; (v % 2 ^ w + r.1 * 2 ^ w, w + r.2)

/-- Octets of fields. -/
def packBytes (fs : List (Nat × Nat)) : List Byte := let r := packBits fs; leBytes r.1 (ceilDiv r.2 8)

/-- `n` fields of `w` bits from octets that start at bit `o`. -/
def unpackBits (w : Nat) (bs : List Byte) (o n : Nat) : List Nat := (List.range n).map fun i => leNat bs / 2 ^ (o + w * i) % 2 ^ w

/-! ## The polyphase filters (R131, R133) -/

/-- Two's complement value of 16 bits. -/
def sext16 (n : Nat) : Int := if n % 65536 < 32768 then (n % 65536 : Nat) else (n % 65536 : Nat) - 65536

/-- Coefficient `i` of phase `ph` of a table held as octets from `base` on. -/
def coefAt (coef : List Byte) (base ph i : Nat) : Int := sext16 (leNat ((coef.drop (base + 2 * (16 * ph + i))).take 2))

/-- First input sample and phase of output sample `j` on an axis (R131). -/
def axisPos (nIn nOut t j : Nat) : Int × Nat :=
  let step := nIn * 65536 / nOut
  let pos : Int := ((step : Int) - 65536) / 2 + j * step
  (pos / 65536 - t / 2 + 1, (pos / 1024 % 64).toNat)

/-- Index of tap `i`: clipped to the axis. -/
def tapAt (base : Int) (nIn i : Nat) : Nat := (clip (base + i) 0 ((nIn : Int) - 1)).toNat

/-- Horizontal pass of output sample `j`: two fraction bits kept (R131). `x` gives the input samples. -/
def scaleH (coef : List Byte) (t nIn nOut : Nat) (x : Nat → Nat) (j : Nat) : Int :=
  if nIn = nOut then x j * 4
  else
    let b := axisPos nIn nOut t j
    let acc := (List.range t).foldl (fun a i => a + coefAt coef 0 b.2 i * x (tapAt b.1 nIn i)) (0 : Int)
    clip ((acc + 128) / 256) 0 4095

/-- Vertical pass of output line `j` (R131). `x` gives the results of the horizontal pass by input line. -/
def scaleV (coef : List Byte) (t nIn nOut : Nat) (x : Nat → Int) (j : Nat) : Nat :=
  if nIn = nOut then (clip ((x j + 2) / 4) 4 1019).toNat
  else
    let b := axisPos nIn nOut t j
    let acc := (List.range t).foldl (fun a i => a + coefAt coef 2048 b.2 i * x (tapAt b.1 nIn i)) (0 : Int)
    (clip ((acc + 2048) / 4096) 4 1019).toNat

/-- The 4:2:0 chroma sample of output line `m` from the 4:2:2 chroma lines `c` of a picture of height `h` (R132). -/
def convChroma (h : Nat) (c : Nat → Nat) (m : Nat) : Nat :=
  let x (i : Int) : Int := c (clip i 0 ((h : Int) - 1)).toNat
  (clip ((-64 * x (2 * m - 1) + 576 * x (2 * m) + 576 * x (2 * m + 1) - 64 * x (2 * m + 2) + 512) / 1024) 4 1019).toNat

/-- A composed sample of source `n`: component 0 Y, 1 Cb, 2 Cr, at position `x` of its own grid; black where the line was not
composed (R137). -/
def State.srcSample (s : State) (n comp x y : Nat) : Nat :=
  (Tab.get [] (s.srcOf n).lines y).getD (match comp with | 0 => 2 * x + 1 | 1 => 4 * x | _ => 4 * x + 2)
    (if comp = 0 then 64 else 512)

/-- Taps of an axis of scaler `m` in its active configuration. -/
def State.tapsH (s : State) (m : Nat) : Nat := 2 * s.act (pSCAL m) F.SCAL.SCAL_CFG_TAPS_H
def State.tapsV (s : State) (m : Nat) : Nat := 2 * s.act (pSCAL m) F.SCAL.SCAL_CFG_TAPS_V

/-- The 4:2:2 sample of scaler `m`: component, column and line of the output (R130, R131). -/
def State.scaled (s : State) (m comp j y : Nat) : Nat :=
  let n := s.act (pSCAL m) F.SCAL.SCAL_CFG_SOURCE
  let half := if comp = 0 then 1 else 2
  let wOut := s.act (pSCAL m) F.SCAL.OUT_SIZE_W / half
  let wIn := s.srcW n / half
  let coef := (s.scalOf m).coef
  scaleV coef (s.tapsV m) (s.srcH n) (s.act (pSCAL m) F.SCAL.OUT_SIZE_H)
    (fun l => scaleH coef (s.tapsH m) wIn wOut (fun x => s.srcSample n comp x l) j) y

/-- The chroma sample that a channel codes: converted to 4:2:0 with CONV, else as scaled (R132). -/
def State.scaledChroma (s : State) (m comp j y : Nat) : Nat :=
  if s.act (pSCAL m) F.SCAL.SCAL_CFG_CONV = 1 then
    convChroma (s.act (pSCAL m) F.SCAL.OUT_SIZE_H) (fun l => s.scaled m comp j l) y
  else s.scaled m comp j y

/-- An HEVC Main channel converts each sample to 8 bits (R165). -/
def toEightBit (v : Nat) : Nat := min ((v + 2) / 4) 255

/-! ## Source lines that a line is made from (R517) -/

/-- Source lines that output line `j` of an axis reads through its taps. -/
def axisLines (nIn nOut t j : Nat) : List Nat :=
  if nIn = nOut then [j]
  else
    let b := axisPos nIn nOut t j
    (List.range t).map (tapAt b.1 nIn)

/-- Source lines of the nominal span of output line `j`: from the first that it covers up to the first that the next line covers
(log entry 266). -/
def spanLines (nIn nOut j : Nat) : List Nat :=
  let a := j * nIn / nOut
  (List.range (ceilDiv ((j + 1) * nIn) nOut - a)).map fun i => min (a + i) (nIn - 1)

/-- Source lines that line `y` of channel `c` is made from: its nominal span, its filter taps, and with CONV the lines of the
conversion (R132, R517). -/
def State.lineSources (s : State) (c y : Nat) : List Nat :=
  let m := s.act (pCHAN c) F.CHAN.CHAN_CFG_SCALER
  let n := s.act (pSCAL m) F.SCAL.SCAL_CFG_SOURCE
  let h := s.act (pSCAL m) F.SCAL.OUT_SIZE_H
  let ys := if s.act (pSCAL m) F.SCAL.SCAL_CFG_CONV = 1 then
      [y, y / 2 * 2 - 1, y / 2 * 2, min (y / 2 * 2 + 1) (h - 1), min (y / 2 * 2 + 2) (h - 1)]
    else [y]
  spanLines (s.srcH n) h y ++ ys.flatMap (axisLines (s.srcH n) h (s.tapsV m))

/-! ## The lines of a channel's picture (R137, R143, R148, R149) -/

def State.lookPic (s : State) (c n : Nat) : LookPic :=
  ((s.chanOf c).looks.find? fun x => x.n == n).getD { LookPic.reset with n := n }

/-- Change what LOOK and the scaler hold of picture `n` of a channel, adding it if it is new. -/
def State.updLook (s : State) (c n : Nat) (f : LookPic → LookPic) : State :=
  s.updChan c fun x =>
    if x.looks.any fun y => y.n == n then { x with looks := x.looks.map fun y => if y.n = n then f y else y }
    else { x with looks := x.looks ++ [f { LookPic.reset with n := n }] }

/-- Key of line `y` of component `comp` (0 Y, 1 Cb, 2 Cr). -/
def planeKey (comp y : Nat) : Nat := comp * 8192 + y

/-- Coded width and height of a component. -/
def ChanGeo.codedW (g : ChanGeo) (comp : Nat) : Nat := if comp = 0 then 64 * g.nRow else 32 * g.nRow
def ChanGeo.codedH (g : ChanGeo) (comp : Nat) : Nat := if comp = 0 ∨ !g.c420 then 64 * g.rRows else 32 * g.rRows

/-- Active width and height of a component. -/
def ChanGeo.activeW (g : ChanGeo) (comp : Nat) : Nat := if comp = 0 then g.w else g.w / 2
def ChanGeo.activeH (g : ChanGeo) (comp : Nat) : Nat := if comp = 0 ∨ !g.c420 then g.h else g.h / 2

/-- The last sample of a line repeated to the coded width (R143). -/
def padLine (w : Nat) (xs : List Nat) : List Nat := xs ++ List.replicate (w - xs.length) (xs.getLastD 0)

/-- Line `y` of a component as the scaler writes it, padded to the right (R130 to R132, R143). -/
def State.madeLine (s : State) (c comp y : Nat) : List Nat :=
  let g := s.geo c
  padLine (g.codedW comp) ((List.range (g.activeW comp)).map fun j =>
    if comp = 0 then s.scaled g.scaler 0 j y else s.scaledChroma g.scaler comp j y)

/-- Bytes of a staged line of a component, and the place of its plane in a staged picture: 10 bits a sample, the planes Y, Cb and
Cr one after another (R149; log entry 123). -/
def ChanGeo.stageLine (g : ChanGeo) (comp : Nat) : Nat := g.codedW comp * 5 / 4
def ChanGeo.stagePlane (g : ChanGeo) (comp : Nat) : Nat :=
  ((List.range comp).map fun q => g.codedH q * g.stageLine q).foldl (· + ·) 0

/-- Device address of line `y` of a component of picture `n` in the staging ring of channel `c` (R149). -/
def State.stageAddr (s : State) (c n comp y : Nat) : Nat :=
  let g := s.geo c
  let base := (s.act (pCHAN c) F.CHAN.STAGE_BASE_LO + s.act (pCHAN c) F.CHAN.STAGE_BASE_HI_ADDR * 2 ^ 32) % 2 ^ 36
  base + n % (g.depth + 2) * ceil64 g.raw + g.stagePlane comp + y * g.stageLine comp

/-- Write a line into the staging buffer of picture `n` (R148, R149). -/
def State.stageWrite (s : State) (c n comp y : Nat) (xs : List Nat) : State :=
  (s.devWriteUnits mSCAL 64 (s.stageAddr c n comp y) (packBytes (xs.map fun v => (v, 10)))).1

/-- The `w` samples a read of a staged line gives; what memory does not return is free values (R148; log entry 123). -/
def stagedSamples (r : State × List Byte × Access) (w : Nat) : State × List Nat :=
  if r.2.2 = .ok then (r.1, unpackBits 10 r.2.1 0 w)
  else (r.1.tookFree, (List.range w).map fun i => (Config.lostSample r.1.freeCtr i).toNat)

/-- Read a line back from the staging buffer (R148, R149). -/
def State.stageRead (s : State) (c n comp y : Nat) : State × List Nat :=
  stagedSamples (s.devRead mSCAL (s.stageAddr c n comp y) ((s.geo c).stageLine comp)) ((s.geo c).codedW comp)

/-- The scaler writes line `y` of a component of picture `n`, and after the last active line the padding below it (R143). -/
def State.writeLine (s : State) (c n comp y : Nat) : State :=
  let g := s.geo c
  let xs := s.madeLine c comp y
  let s1 : State := s.updLook c n fun z => { z with src := Tab.set [] z.src (planeKey comp y) xs }
  if g.buffered then
    (List.range (if y + 1 = g.activeH comp then g.codedH comp - y else 1)).foldl (fun t i => t.stageWrite c n comp (y + i) xs) s1
  else s1

/-- The scaler writes line `y` of picture `n` of channel `c`: luma, and the chroma line that it completes. A row one of whose
source lines has missing samples, or was not composed, is noted (R137, R517). -/
def State.scaleLine (s : State) (c n y : Nat) : State :=
  let g := s.geo c
  let x := s.srcOf g.source
  let miss := (s.lineSources c y).any fun l => x.missing.contains l || Tab.get [] x.lines l == []
  let s1 : State := s.writeLine c n 0 y
  let s2 : State := if !g.c420 then (s1.writeLine c n 1 y).writeLine c n 2 y
    else if y % 2 = 0 then (s1.writeLine c n 1 (y / 2)).writeLine c n 2 (y / 2) else s1
  s2.updLook c n fun z =>
    { z with lines := y + 1, missing := if miss && !z.missing.contains (y / 64) then z.missing ++ [y / 64] else z.missing }

/-- The scaler writes the lines of picture `n` of channel `c` up to `b` that it has not written. -/
def State.scaleTo (s : State) (c n b : Nat) : State :=
  (((List.range b).filter fun y => decide ((s.lookPic c n).lines ≤ y))).foldl (fun t y => t.scaleLine c n y) s

/-- The lines whose sources the compositor has all read, after those written (R141). -/
def State.scaleReady (s : State) (c n : Nat) : Nat :=
  let a := (s.lookPic c n).lines
  a + (((List.range ((s.geo c).h - a)).map (a + ·)).takeWhile fun y =>
    (s.lineSources c y).all fun l => decide (l < (s.srcOf (s.geo c).source).done)).length

/-- Line `y` of a component of the picture that a channel codes, while the scaler's line buffers hold it: the last active line
repeated downwards, black where it was not written (R137, R143). -/
def LookPic.line (x : LookPic) (g : ChanGeo) (comp y : Nat) : List Nat :=
  match Tab.get [] x.src (planeKey comp (min y (g.activeH comp - 1))) with
  | [] => List.replicate (g.codedW comp) (if comp = 0 then 64 else 512)
  | xs => xs

/-! ## Proxy and costs (R150) -/

/-- Key of a proxy sample. -/
def proxyKey (u v : Nat) : Nat := v * 2048 + u

/-- Proxy sample (u, v) from luma given by column and line (R150). -/
def proxySample (w h : Nat) (y : Nat → Nat → Nat) (u v : Nat) : Nat :=
  let sum := (List.range 8).foldl (fun a j => (List.range 8).foldl (fun b i =>
    b + y (min (8 * u + i) (w - 1)) (min (8 * v + j) (h - 1))) a) 0
  min ((sum + 128) / 256) 255

/-- |a − b|. -/
def absDiff (a b : Nat) : Nat := (a - b) + (b - a)

/-- Intra cost of CTU (cx, cy) of a proxy (R150). -/
def intraCost (p : Nat → Nat → Nat) (cx cy : Nat) : Nat :=
  (List.range 64).foldl (fun a k =>
    let u := 8 * cx + k % 8
    let v := 8 * cy + k / 8
    a + (if u > 0 then absDiff (p u v) (p (u - 1) v) else 0) + (if v > 0 then absDiff (p u v) (p u (v - 1)) else 0)) 0

/-- The vector (dx, dy) is better than (bx, by') at equal cost (R150). -/
def betterVec (dx dy bx by' : Int) : Bool :=
  let a := dx.natAbs + dy.natAbs
  let b := bx.natAbs + by'.natAbs
  decide (a < b) || (a == b && (decide (dy < by') || (dy == by' && decide (dx < bx))))

/-- SAD of CTU (cx, cy) at displacement (dx, dy) in a reference proxy of pw × ph samples (R150). -/
def ctuSad (p q : Nat → Nat → Nat) (pw ph cx cy : Nat) (dx dy : Int) : Nat :=
  (List.range 64).foldl (fun a k =>
    let u := 8 * cx + k % 8
    let v := 8 * cy + k / 8
    a + absDiff (p u v) (q (clip (u + dx) 0 (pw - 1)).toNat (clip (v + dy) 0 (ph - 1)).toNat)) 0

/-- Inter cost of CTU (cx, cy): full search of ±8 proxy samples (R150). -/
def interCost (p q : Nat → Nat → Nat) (pw ph cx cy : Nat) : Nat :=
  ((List.range 289).foldl (fun (best : Nat × Int × Int) k =>
    let dx : Int := (k % 17 : Nat) - 8
    let dy : Int := (k / 17 : Nat) - 8
    let sad := ctuSad p q pw ph cx cy dx dy
    if sad < best.1 ∨ (sad = best.1 ∧ betterVec dx dy best.2.1 best.2.2) then (sad, dx, dy) else best) (65535, 0, 0)).1

/-! ## Rows of a picture (R151, R152) -/

/-- LOOK computes the costs of row `k` of picture `n`, which the channel's scaler has made (R150 to R152). -/
def State.lookRow (s : State) (c n k : Nat) : State :=
  let g := s.geo c
  let pw := 8 * g.nRow
  let ph := 8 * g.rRows
  let x := s.lookPic c n
  let proxy := (List.range (8 * pw)).foldl (fun t i =>
    let u := i % pw
    let v := 8 * k + i / pw
    Tab.set 0 t (proxyKey u v) (proxySample g.w g.h (fun a b => (x.line g 0 b).getD a 64) u v)) x.proxy
  let p (u v : Nat) : Nat := Tab.get 0 proxy (proxyKey u v)
  let intra (cx : Nat) : Nat := intraCost p cx k
  let inter (cx : Nat) : Nat := match (s.chanOf c).proxy with
    | some q => interCost p (fun u v => Tab.get 0 q (proxyKey u v)) pw ph cx k
    | none => intra cx
  let sum (f : Nat → Nat) : Nat := (List.range g.nRow).foldl (fun a cx => a + f cx) 0
  s.updLook c n fun y =>
    { y with proxy := proxy, intra := Tab.set 0 y.intra k (sum intra), inter := Tab.set 0 y.inter k (sum inter),
             cost := Tab.set 0 y.cost k (sum fun cx => min (intra cx) (inter cx)), rows := k + 1 }

/-- Row `k` of a picture is a scene-cut row (R151). -/
def LookPic.cutRow (x : LookPic) (ratio nRow k : Nat) : Bool :=
  x.present && decide (16 * Tab.get 0 x.inter k > ratio * Tab.get 0 x.intra k) && decide (Tab.get 0 x.inter k ≥ 64 * nRow)

/-- A scene-cut picture (R151). -/
def LookPic.cut (x : LookPic) (ratio nRow rRows : Nat) : Bool :=
  decide (2 * ((List.range rRows).filter (x.cutRow ratio nRow)).length ≥ rRows)

/-- The picture has been looked at whole: it becomes the previous present picture, and a cut sets CUT (R150, R151, R518). -/
def State.lookDone (s : State) (c n : Nat) : State :=
  let g := s.geo c
  let x := s.lookPic c n
  if !x.present then s
  else
    let s1 : State := s.updChan c fun y => { y with proxy := some x.proxy }
    if x.cut (s.act (pCHAN c) F.CHAN.LOOK_CFG_SCENE_RATIO) g.nRow g.rRows then s1.raise (pCHAN c) F.CHAN.intCUT else s1

end Sys2Proof.Machine
end

