-- ==== Sys2Proof/Machine/Headers.lean ====
section
/-! DEFINITION. NAL units and headers of a channel (spec/07, R164 to R176, R179, R182, R183), the limits of levels (R166,
R199), and floor costs (spec/08, R192, R197, R198). -/

namespace Sys2Proof.Machine

/-! ## Profiles and levels (R164, R166, R199) -/

/-- CODEC, PROFILE and C420 make a row of the table of R164. -/
def profileCarries (codec profile : Nat) (c420 : Bool) : Bool :=
  match codec, profile with
  | 0, 0 => c420
  | 0, 1 => true
  | 1, 0 => c420
  | 1, 1 => c420
  | 1, 2 => true
  | _, _ => false

/-- The place of LEVEL_IDC among levels 4, 4.1, 5, 5.1, 5.2, 6, 6.1, 6.2 of the codec (R166). -/
def levelPlace (codec idc : Nat) : Option Nat :=
  (if codec = 0 then [64, 67, 80, 83, 86, 96, 99, 102] else [120, 123, 150, 153, 156, 180, 183, 186]).findIdx? (· == idc)

/-- MaxLumaPs of a level place; both recommendations (PRESUMED, log entry 42). -/
def maxLumaPs (place : Nat) : Nat := if place < 2 then 2228224 else if place < 5 then 8912896 else 35651584

/-- MaxLumaSr of a level place; both recommendations (PRESUMED, log entry 42). -/
def maxLumaSr (place : Nat) : Nat :=
  [66846720, 133693440, 267386880, 534773760, 1069547520, 1069547520, 2139095040, 4278190080].getD place 0

/-- MaxBR and MaxCPB of a level place and tier, in the units of the CPB factor: Annex A of H.266 (0) and of H.265 (1) (PRESUMED,
log entry 42). -/
def maxBr (codec place tier : Nat) : Nat :=
  let main := if codec = 0 then [12000, 20000, 25000, 40000, 60000, 80000, 120000, 180000]
    else [12000, 20000, 25000, 40000, 60000, 60000, 120000, 240000]
  let high := if codec = 0 then [30000, 50000, 100000, 160000, 240000, 240000, 480000, 800000]
    else [30000, 50000, 100000, 160000, 240000, 240000, 480000, 800000]
  (if tier = 0 then main else high).getD place 0

/-- CpbNalFactor of a profile (PRESUMED, log entry 42). -/
def cpbNalFactor (codec profile : Nat) : Nat :=
  match codec, profile with
  | 0, 1 => 2750
  | 1, 2 => 1833
  | _, _ => 1100

/-- The picture size and rate are within the level (R166). -/
def levelHolds (place w h num den : Nat) : Bool :=
  decide (w * h ≤ maxLumaPs place) && decide (w * w ≤ 8 * maxLumaPs place) && decide (h * h ≤ 8 * maxLumaPs place) &&
    decide (w * h * num ≤ maxLumaSr place * den)

/-! ## GDR waves (R179) -/

/-- Band width w. -/
def bandWidth (nRow g : Nat) : Nat := ceilDiv (nRow - 1) g + 1

/-- First column of the band of wave picture `i`. -/
def bandStart (nRow g i : Nat) : Nat := i * (bandWidth nRow g - 1)

/-- Refreshed width after wave picture `i`. -/
def bandEnd (nRow g i : Nat) : Nat := min (bandStart nRow g i + bandWidth nRow g) nRow

/-- X_lim(j): luma columns that wave picture `j` may be read below, none for no limit (R180). -/
def xLimit (nRow g j : Nat) : Option Nat := if bandEnd nRow g j < nRow then some (64 * bandEnd nRow g j - 8) else none

/-! ## A picture's form -/

/-- What the headers and floor costs of a picture depend on. -/
structure PicForm where
  /-- PIC_TYPE: 0 IDR, 1 GDR first, 2 GDR continuing, 3 inter, 4 skip (R154). -/
  kind : Nat
  /-- Index of the wave picture, and G. -/
  wave : Nat
  g : Nat
  /-- After a wave, before the next refresh point (R180). -/
  clean : Bool
  n : Nat
  poc : Nat
  /-- Media-clock timestamp (R79). -/
  ts : Nat
  /-- POC distances of its references, most recent first (R173). -/
  refs : List Nat
  absent : Bool
  prot : Bool
  /-- CRC of each component of the decoded picture, once it is known (R182). -/
  hash : List Nat
deriving DecidableEq, Repr

/-- A refresh point: an IDR picture or the first picture of a wave (R170). -/
def PicForm.refreshPoint (f : PicForm) : Bool := f.kind == 0 || f.kind == 1

/-! ## Floor costs (R197, R198) -/

/-- Bound c of a floor CTU: 0 skip, 1 intra in an IDR picture, 2 intra in an inter picture (R197). -/
def floorBound (codec form : Nat) : Nat :=
  match codec, form with
  | 0, 0 => 47 | 0, 1 => 129 | 0, _ => 141
  | _, 0 => 46 | _, 1 => 86 | _, _ => 98

/-- CTU columns from the left that take an intra bound (R198). -/
def PicForm.intraCols (f : PicForm) (nRow : Nat) : Nat :=
  match f.kind with
  | 0 => nRow
  | 1 => bandEnd nRow f.g f.wave
  | 2 => bandEnd nRow f.g f.wave
  | 3 => if f.clean then nRow else 0
  | _ => 0

/-- Σ c over the columns from `a` on (R198, R205). -/
def PicForm.boundSum (f : PicForm) (codec nRow a : Nat) : Nat :=
  let wide := f.intraCols nRow
  (wide - a) * floorBound codec (if f.kind = 0 then 1 else 2) + (nRow - max a wide) * floorBound codec 0

/-- 12 × ceil((Σ c + 24) / 8): the bits that columns from `a` on may take at floor (R198, R205). -/
def PicForm.floorRest (f : PicForm) (codec nRow a : Nat) : Nat := 12 * ceilDiv (f.boundSum codec nRow a + 24) 8

/-- ni(k): intra CTUs that a row must have (R202). -/
def PicForm.mustIntra (f : PicForm) (nRow : Nat) : Nat :=
  match f.kind with
  | 0 => nRow
  | 1 => bandEnd nRow f.g f.wave - bandStart nRow f.g f.wave
  | 2 => bandEnd nRow f.g f.wave - bandStart nRow f.g f.wave
  | _ => 0

/-! ## NAL units (R169 to R171) -/

/-- Emulation prevention: 0x03 before an octet of 0 to 3 that follows two zero octets; `z` zeros have just gone. -/
def emulate : Nat → List Byte → List Byte
  | _, [] => []
  | z, b :: bs =>
    let z' := if b = 0 then 1 else 0
    if z ≥ 2 ∧ b.toNat ≤ 3 then 0x03#8 :: b :: emulate z' bs
    else b :: emulate (if b = 0 then z + 1 else 0) bs

/-- A NAL unit: its two header octets (layer 0, TemporalId 0; PRESUMED, log entry 43) and its body, which carries its own
emulation prevention. -/
def nalUnit (codec vvc hevc : Nat) (body : List Byte) : List Byte :=
  (if codec = 0 then [0x00#8, BitVec.ofNat 8 (vvc * 8 + 1)] else [BitVec.ofNat 8 (hevc * 2), 0x01#8]) ++ body

/-! ## The values that headers carry (R164 to R175, R179) -/

/-- general_profile_idc (R164). -/
def profileIdc (codec profile : Nat) : Nat :=
  match codec, profile with
  | 0, 0 => 1 | 0, _ => 33
  | _, 0 => 1 | _, 1 => 2 | _, _ => 4

/-- Coded bit depth (R164). -/
def codedDepth (codec profile : Nat) : Nat := if codec = 1 ∧ profile = 0 then 8 else 10

/-- Enabling flags of the tools that the encoder does not use (R167). -/
def unusedTools (codec : Nat) : List Elem :=
  if codec = 0 then
    [.subpictures, .resampling, .ternarySplit, .dualTree, .mip, .isp, .multiRefLine, .cclm, .intraBlockCopy, .palette, .bdpcm, .colourTransform,
     .temporalMvp, .affine, .sbTmvp, .mmvd, .gpm, .ciip, .dmvr, .bdof, .prof, .amvr, .smvd, .bcw, .weightedPred, .longTermRefs,
     .transform64, .transformSkip, .mts, .lfnst, .sbt, .depQuant, .scalingLists, .jointCbCr, .cuChromaQp, .alf, .ccAlf, .lmcs, .virtualBoundaries]
  else
    [.amp, .nonSquareParts, .intraBlockCopy, .palette, .bdpcm, .colourTransform, .temporalMvp, .weightedPred, .longTermRefs, .transformSkip,
     .scalingLists, .cuChromaQp]

/-- The parts of a sequence that the VPS and the SPS carry: profile, tier and level (R164, R166). -/
def State.levelFields (s : State) (incl : List Nat) (c : Nat) : List (Elem × Nat) :=
  let p := pCHAN c
  let codec := s.cv incl p F.CHAN.CODEC_CFG_CODEC
  let profile := s.cv incl p F.CHAN.CODEC_CFG_PROFILE
  [(.profileIdc, profileIdc codec profile), (.tier, s.cv incl p F.CHAN.CODEC_CFG_TIER), (.levelIdc, s.cv incl p F.CHAN.CODEC_CFG_LEVEL_IDC),
   (.progressiveSource, 1), (.frameOnly, 1), (.layers, 1), (.subLayers, 1), (.reorderPics, 0), (.hrd, 0)] ++
    if codec = 1 ∧ profile = 2 then [(.compatibility4, 1), (.rextConstraints, 1)] else []

/-- The VUI (R174). -/
def State.vuiFields (s : State) (incl : List Nat) (c : Nat) : List (Elem × Nat) :=
  let v (f : Fld) : Nat := s.cv incl (pCHAN c) f
  if v F.CHAN.VUI_CFG_VUI_EN = 1 then
    [(.vui, 1), (.colourPrimaries, v F.CHAN.VUI_CFG_PRIMARIES), (.transfer, v F.CHAN.VUI_CFG_TRANSFER), (.matrix, v F.CHAN.VUI_CFG_MATRIX),
     (.fullRange, v F.CHAN.VUI_CFG_FULL_RANGE), (.timing, 0)]
  else [(.vui, 0)]

/-- The SPS of a channel's configuration (R164, R167, R169, R170, R172, R174). -/
def State.spsFields (s : State) (incl : List Nat) (c : Nat) : List (Elem × Nat) :=
  let p := pCHAN c
  let g := s.chanGeo incl c
  let codec := s.cv incl p F.CHAN.CODEC_CFG_CODEC
  let d := codedDepth codec (s.cv incl p F.CHAN.CODEC_CFG_PROFILE)
  [(.spsId, 0), (.vpsId, 0)] ++ s.levelFields incl c ++
  [(.chromaFormat, if g.c420 then 1 else 2), (.bitDepth, d), (.width, 64 * g.nRow), (.height, 64 * g.rRows),
   (.cropRight, (64 * g.nRow - g.w) / 2), (.cropBottom, (64 * g.rRows - g.h) / (if g.c420 then 2 else 1)),
   (.log2Ctu, 6), (.log2MinCb, 3), (.log2MaxTb, 5), (.btDepth, if codec = 0 then 1 else 0), (.btMaxSize, if codec = 0 then 32 else 0),
   (.mergeCands, if codec = 0 then 6 else 5), (.log2PocLsb, 16), (.sao, 1), (.signHiding, 1),
   (.entropySync, 1 - s.cv incl p F.CHAN.CODEC_CFG_SLICE_MODE), (.entryPoints, 0)] ++
  s.vuiFields incl c ++ (unusedTools codec).map fun e => (e, 0)

/-- The PPS (R167 to R170). -/
def State.ppsFields (s : State) (incl : List Nat) (c : Nat) : List (Elem × Nat) :=
  let mode := s.cv incl (pCHAN c) F.CHAN.CODEC_CFG_SLICE_MODE
  [(.ppsId, 0), (.spsId, 0), (.tiles, 1), (.rowSlices, mode), (.entropySync, 1 - mode), (.cuQpDelta, 1), (.signHiding, 1), (.cbQpOffset, 0),
   (.crQpOffset, 0), (.deblocking, 1), (.betaOffset, 0), (.tcOffset, 0), (.loopAcrossSlices, 1), (.weightedPred, 0), (.transformSkip, 0)]

/-- Slice type of a picture: 0 B, 1 P, 2 I (R173). -/
def PicForm.sliceType (f : PicForm) : Nat := if f.kind = 0 ∨ f.refs = [] then 2 else if f.refs.length = 1 then 1 else 0

/-- Reference lists: list 0 holds the references, list 1 the same where there are two or more (R173). -/
def PicForm.listFields (f : PicForm) : List (Elem × Nat) :=
  if f.kind = 0 then []
  else f.refs.map (fun d => (.refList0, d)) ++ if f.refs.length < 2 then [] else f.refs.map fun d => (.refList1, d)

/-- What a picture's header says of the picture (R172, R173, R175, R179). -/
def PicForm.picFields (f : PicForm) : List (Elem × Nat) :=
  [(.pocLsb, f.poc % 65536), (.nonRefPic, if f.kind = 4 then 1 else 0), (.gdrPic, if f.kind = 1 then 1 else 0)] ++
    (if f.kind = 1 then [(.recoveryPocCnt, f.g - 1)] else []) ++ f.listFields

/-- The header of the slice or slice segment that begins at row `k` (R168, R169, R173, R175). -/
def PicForm.sliceFields (f : PicForm) (codec mode k : Nat) : List (Elem × Nat) :=
  let sao := if f.kind = 4 then 0 else 1
  let own : List (Elem × Nat) :=
    [(.sliceType, f.sliceType), (.sliceQp, Config.sliceQp codec), (.sliceSaoLuma, sao), (.sliceSaoChroma, sao), (.numEntryPoints, 0)]
  if codec = 0 then
    if mode = 0 then [(.phInSlice, 1), (.firstRow, 0)] ++ f.picFields ++ own else [(.phInSlice, 0), (.firstRow, k)] ++ own
  else if mode = 0 ∧ k > 0 then [(.firstRow, k), (.dependentSegment, 1), (.numEntryPoints, 0)]
  else [(.firstRow, k), (.dependentSegment, 0), (.pocLsb, f.poc % 65536)] ++ f.listFields ++ own

/-- The body of a header NAL unit: the bits that the codec's recommendation gives its elements (log entry 40), with emulation
prevention (R192). -/
def headerBody (codec : Nat) (kind : HeaderKind) (fields : List (Elem × Nat)) : List Byte := emulate 0 (Config.headerRbsp codec kind fields)

/-- The octets of an SEI message: type, size, payload. -/
def seiMessage (ty : Nat) (payload : List Byte) : List Byte :=
  BitVec.ofNat 8 ty :: BitVec.ofNat 8 payload.length :: payload

/-- An SEI NAL unit that holds messages (log entry 44). -/
def seiNal (codec vvc hevc : Nat) (msgs : List (List Byte)) : List Byte :=
  if msgs.isEmpty then [] else nalUnit codec vvc hevc (emulate 0 (msgs.flatten ++ [0x80#8]))

/-- Number of bits of x: bitlen of R185. -/
def bitlen (x : Nat) : Nat := if x = 0 then 0 else Nat.log2 x + 1

/-- The octets of a recovery point payload: recovery_poc_cnt G - 1 as a signed exp-Golomb code, exact_match_flag 1,
broken_link_flag 0, and the alignment of an SEI payload (R179). -/
def recoveryPayload (g : Nat) : List Byte :=
  let code := if g ≤ 1 then 1 else 2 * (g - 1)
  let len := 2 * bitlen code - 1 + 2
  let v := code * 4 + 2
  let pad := (8 - len % 8) % 8
  let v' := if pad = 0 then v else v * 2 ^ pad + 2 ^ (pad - 1)
  beBytes v' ((len + pad) / 8)

/-- The octets "KWTR-D880-FRMIDX" (R183). -/
def frameUuid : List Byte :=
  [0x4B, 0x57, 0x54, 0x52, 0x2D, 0x44, 0x38, 0x38, 0x30, 0x2D, 0x46, 0x52, 0x4D, 0x49, 0x44, 0x58]

/-- The frame-information payload (R183). -/
def frameInfo (c : Nat) (f : PicForm) : List Byte :=
  frameUuid ++ beBytes f.n 8 ++ beBytes f.ts 4 ++
    [BitVec.ofNat 8 c, BitVec.ofNat 8 (f.kind + f.absent.toNat * 8 + f.prot.toNat * 16)]

/-- Mastering display colour volume payload from MDCV0 to MDCV5 (R182). -/
def State.mdcvPayload (s : State) (incl : List Nat) (c : Nat) : List Byte :=
  let r (i : Nat) : Nat := s.cv incl (pCHAN c) (F.CHAN.MDCV i)
  ([0, 1, 2, 3].flatMap fun i => beBytes (r i % 65536) 2 ++ beBytes (r i / 65536) 2) ++ beBytes (r 4) 4 ++ beBytes (r 5) 4

/-- Prefix SEI messages of a picture, in the order of the table of R182. -/
def State.prefixMessages (s : State) (incl : List Nat) (c : Nat) (f : PicForm) : List (List Byte) :=
  let p := pCHAN c
  let hevc := s.cv incl p F.CHAN.CODEC_CFG_CODEC == 1
  (if hevc && f.kind == 1 then [seiMessage 6 (recoveryPayload f.g)] else []) ++
  (if f.refreshPoint && s.cv incl p F.CHAN.SEI_CFG_MDCV == 1 then [seiMessage 137 (s.mdcvPayload incl c)] else []) ++
  (if f.refreshPoint && s.cv incl p F.CHAN.SEI_CFG_CLL == 1 then
    [seiMessage 144 (beBytes (s.cv incl p F.CHAN.CLL_MAX_CLL) 2 ++ beBytes (s.cv incl p F.CHAN.CLL_MAX_FALL) 2)] else []) ++
  (if s.cv incl p F.CHAN.SEI_CFG_FRAME_INFO == 1 then [seiMessage 5 (frameInfo c f)] else [])

/-- NAL type of a picture's slices: VVC and HEVC (R170, R175, R179). -/
def PicForm.sliceTypes (f : PicForm) : Nat × Nat :=
  match f.kind with
  | 0 => (8, 20)
  | 1 => (10, 1)
  | 4 => (0, 0)
  | _ => (0, 1)

/-- Row `k` begins a NAL unit: its slice, or its slice segment (R169). -/
def rowBegins (codec sliceMode k : Nat) : Bool := k == 0 || codec == 1 || sliceMode == 1

/-- NAL units 1 to 6 of the picture's access unit, handed over with row 0 (R170, R171). -/
def State.headNals (s : State) (incl : List Nat) (c : Nat) (f : PicForm) : List (List Byte) :=
  let p := pCHAN c
  let codec := s.cv incl p F.CHAN.CODEC_CFG_CODEC
  let mode := s.cv incl p F.CHAN.CODEC_CFG_SLICE_MODE
  let sei := seiNal codec 23 39 (s.prefixMessages incl c f)
  [nalUnit codec 20 35 (headerBody codec .aud [(.sliceType, f.sliceType), (.gdrPic, if f.kind = 1 then 1 else 0)])] ++
    (if f.refreshPoint then
      (if codec = 1 then [nalUnit codec 0 32 (headerBody codec .vps ((.vpsId, 0) :: s.levelFields incl c))] else []) ++
        [nalUnit codec 15 33 (headerBody codec .sps (s.spsFields incl c)), nalUnit codec 16 34 (headerBody codec .pps (s.ppsFields incl c))]
     else []) ++
    (if sei.isEmpty then [] else [sei]) ++
    (if codec = 0 ∧ mode = 1 then [nalUnit codec 19 0 (headerBody codec .pictureHeader f.picFields)] else [])

/-- The NAL header and slice header of row `k`, empty where the row begins no NAL unit (R169, R170). -/
def State.sliceHead (s : State) (incl : List Nat) (c : Nat) (f : PicForm) (k : Nat) : List Byte :=
  let p := pCHAN c
  let codec := s.cv incl p F.CHAN.CODEC_CFG_CODEC
  let mode := s.cv incl p F.CHAN.CODEC_CFG_SLICE_MODE
  if rowBegins codec mode k then
    nalUnit codec f.sliceTypes.1 f.sliceTypes.2 (headerBody codec .slice ((.nalType, if codec = 0 then f.sliceTypes.1 else f.sliceTypes.2) ::
      (.ppsId, 0) :: f.sliceFields codec mode k))
  else []

/-- The header octets handed over with row `k` before its substream: NAL units 1 to 6 with row 0, and the row's slice header
(R170, R171). -/
def State.rowHeader (s : State) (incl : List Nat) (c : Nat) (f : PicForm) (k : Nat) : List Byte :=
  (if k = 0 then (s.headNals incl c f).flatten else []) ++ s.sliceHead incl c f k

/-- The last row carries the suffix SEI (R171, R182). -/
def State.hashRow (s : State) (incl : List Nat) (c k : Nat) : Bool :=
  k + 1 == (s.chanGeo incl c).rRows && s.cv incl (pCHAN c) F.CHAN.SEI_CFG_HASH == 1

/-- The suffix SEI octets handed over with the last row: the decoded picture hash, hash type CRC, of every component (R171, R182). -/
def State.rowTrailer (s : State) (incl : List Nat) (c : Nat) (f : PicForm) (k : Nat) : List Byte :=
  if s.hashRow incl c k then
    seiNal (s.cv incl (pCHAN c) F.CHAN.CODEC_CFG_CODEC) 24 40
      [seiMessage 132 (0x01#8 :: [0, 1, 2].flatMap fun i => beBytes (f.hash.getD i 0) 2)]
  else []

/-- hdr(k): header bits handed over with row `k`, as they stand when the budget is set: the picture hash, which is not known then, counts
as the 96 bits of its SEI NAL unit (R192; log entry 269). -/
def State.hdr (s : State) (incl : List Nat) (c : Nat) (f : PicForm) (k : Nat) : Nat :=
  8 * (s.rowHeader incl c f k).length + if s.hashRow incl c k then 96 else 0

/-- The header bits that row `k` has handed over, emulation prevention of the picture hash included (R192, R196). -/
def State.hdrSent (s : State) (incl : List Nat) (c : Nat) (f : PicForm) (k : Nat) : Nat :=
  8 * ((s.rowHeader incl c f k).length + (s.rowTrailer incl c f k).length)

/-- fr(k): the floor row cost (R198). -/
def State.fr (s : State) (incl : List Nat) (c : Nat) (f : PicForm) (k : Nat) : Nat :=
  s.hdr incl c f k + f.floorRest (s.cv incl (pCHAN c) F.CHAN.CODEC_CFG_CODEC) (s.chanGeo incl c).nRow 0

/-- Σ fr(k) over the rows from `a` on. -/
def State.frFrom (s : State) (incl : List Nat) (c : Nat) (f : PicForm) (a : Nat) : Nat :=
  ((List.range (s.chanGeo incl c).rRows).filter (a ≤ ·)).foldl (fun t k => t + s.fr incl c f k) 0

/-- The forms of picture that a configuration can produce, as far as sizes go: by kind, wave picture, number of references and POC; the
references follow one another, and the frame information is taken where it needs most emulation prevention (R198). -/
def State.picForms (s : State) (incl : List Nat) (c : Nat) : List PicForm :=
  let p := pCHAN c
  let g := s.cv incl p F.CHAN.REFRESH_CFG_GDR_PICS
  let nref := (s.chanGeo incl c).nref
  let form (kind wave : Nat) (clean : Bool) (refs poc : Nat) : PicForm :=
    ⟨kind, wave, g, clean, 0, poc, 0, (List.range refs).map (· + 1), false, false, []⟩
  let refs := (List.range nref).map (· + 1)
  form 0 0 false 0 0 :: (List.range 65536).flatMap fun poc =>
    form 4 0 false 1 poc :: refs.map (fun r => form 3 0 false r poc) ++
      (if s.cv incl p F.CHAN.REFRESH_CFG_KIND = 1 then
        refs.map (fun r => form 3 0 true r poc) ++ refs.map (fun r => form 1 0 false r poc) ++
          (List.range g).flatMap fun i => refs.map fun r => form 2 i false r poc
       else [])

/-- fr_max: the largest fr(k) over every row of every form (R198). -/
def State.frMax (s : State) (incl : List Nat) (c : Nat) : Nat :=
  (s.picForms incl c).foldl (fun m f => (List.range (s.chanGeo incl c).rRows).foldl (fun m k => max m (s.fr incl c f k)) m) 0

end Sys2Proof.Machine
end

