-- ==== Sys2Proof/Machine/RateCtl.lean ====
section
/-! DEFINITION. Row-locked rate control (spec/08, R192 to R214): the output queue, picture budgets, row caps and QPs, the scales,
rate-model tables, and pooled groups. -/

namespace Sys2Proof.Machine

/-! ## The rate in force (R193, R209) -/

def State.rcOf (s : State) (c : Nat) : RcState := (s.chanOf c).rc

def State.updRc (s : State) (c : Nat) (f : RcState → RcState) : State := s.updChan c fun x => { x with rc := f x.rc }

/-- RC_RATE in bits per second in a configuration (R193). -/
def State.cvRate (s : State) (incl : List Nat) (c : Nat) : Nat := s.cv incl (pCHAN c) F.CHAN.RC_RATE_KBPS * 1000

/-- drow of a configuration (R193). -/
def State.cvDrow (s : State) (incl : List Nat) (c : Nat) : Nat := rateBits (s.cvRate incl c) (s.chanGeo incl c).tr 1

/-- buf of a configuration (R193). -/
def State.cvBuf (s : State) (incl : List Nat) (c : Nat) : Nat :=
  rateBits (s.cvRate incl c) (s.chanGeo incl c).tr (s.cv incl (pCHAN c) F.CHAN.RC_BUF_ROWS)

/-- What drains between two instants, in 10^-12 bit, with the earlier rates and the instants at which they ended (R194, R209). -/
def drain (rate : Nat) : List (Nat × Nat) → Nat → Nat → Nat
  | [], u, t => rate * (t - u)
  | (e, r) :: rs, u, t => r * (min t e - u) + drain rate rs (max u e) t

/-- 10^12: the units of occupancy in a bit (R194). -/
def occUnit : Nat := 1000000000000

/-! ## Pooled groups (R210, R211) -/

/-- Group of a channel at work, and whether it is pooled. -/
def State.chanGroup (s : State) (c : Nat) : Nat := s.act (pCHAN c) F.CHAN.CHAN_CFG_GROUP
def State.grpPooled (s : State) (g : Nat) : Bool := s.works (pGRP g) && s.act (pGRP g) F.GRP.GRP_CFG_POOL == 1
def State.pooled (s : State) (c : Nat) : Bool := s.grpPooled (s.chanGroup c)

/-- The CHAN pages at work in a group, in ascending order. -/
def State.members (s : State) (g : Nat) : List Nat := s.chansOn.filter fun c => s.chanGroup c == g

/-- S by the channels that are members now, bits per second (R210). -/
def State.sharedNow (s : State) (g : Nat) : Nat :=
  s.act (pGRP g) F.GRP.POOL_RATE_KBPS * 1000 - (s.members g).foldl (fun n c => n + s.cvRate [] c) 0

def State.grpOf (s : State) (g : Nat) : GrpState := Tab.get .reset s.grp g
def State.setGrp (s : State) (g : Nat) (x : GrpState) : State := { s with grp := Tab.set .reset s.grp g x }

/-- S in force: it is taken up at frame-cycle starts (R209 to R211; log entry 270). -/
def State.sharedRate (s : State) (g : Nat) : Nat := (s.grpOf g).rate

/-- bufs (R210). -/
def State.sharedBuf (s : State) (g : Nat) : Nat := s.sharedRate g * s.act (pGRP g) F.GRP.POOL_BUF_US / 1000000

/-- S at the frame-cycle start of counter ns `fire`; what drained before it did so at the earlier S (R209, R211). -/
def State.takeShared (s : State) (g fire : Nat) : State :=
  let y := s.grpOf g
  if s.sharedNow g = y.rate then s
  else s.setGrp g { y with rate := s.sharedNow g, rates := y.rates ++ [(fire * 1000, y.rate)] }

/-! ## Pictures -/

/-- Change picture `n` of a channel. -/
def State.updPicRec (s : State) (c n : Nat) (f : PicRec → PicRec) : State :=
  s.updChan c fun x => { x with pics := x.pics.map fun y => if y.n = n then f y else y }

def State.picRec (s : State) (c n : Nat) : Option PicRec := (s.chanOf c).pics.find? fun x => x.n == n

/-- The form of a picture in coding. -/
def State.formOf (s : State) (c : Nat) (x : PicRec) : PicForm :=
  let r := s.rateOf (s.chanGroup c)
  { kind := x.kind, wave := x.wave, g := x.g, clean := x.clean, n := x.n, poc := x.poc, ts := mediaClock r.1 r.2 x.n,
    refs := x.refs.map fun i => x.n - (((s.chanOf c).bufs[i]?).getD .reset).n, absent := x.absent, prot := x.prot, hash := x.hash }

def State.codec (s : State) (c : Nat) : Nat := s.act (pCHAN c) F.CHAN.CODEC_CFG_CODEC

/-- O(k) of picture `x`, counter ps (R141, R148). -/
def State.outPs (s : State) (c : Nat) (x : PicRec) (k : Nat) : Nat := x.fire * 1000 + (s.geo c).outputAt k

/-! ## Occupancy (R194, R202) -/

/-- Rows of a ledger before `t`, their caps entering the queue; `amount` is what enters of a row. -/
def project (rate : Nat) (rates : List (Nat × Nat)) (amount : Ledger → Nat) (t : Nat) : Nat → Nat → List Ledger → Nat
  | q, u, [] => q - drain rate rates u t
  | q, u, j :: js =>
    if j.at' < t then project rate rates amount t (q - drain rate rates u j.at' + amount j * occUnit) j.at' js
    else project rate rates amount t q u js

/-- What a ledger row counts as in the queue or floor lane of its channel (R202, R211). -/
def laneAmount (pooled : Bool) (j : Ledger) : Nat := if pooled then min j.cap j.fr else j.cap

/-- occ_at(t) of a channel's queue, or of its floor lane when pooled, in whole bits rounded up (R194, R202, R211). -/
def State.occAt (s : State) (c t : Nat) : Nat :=
  let r := s.rcOf c
  ceilDiv (project r.rate r.rates (laneAmount (s.pooled c)) t r.qk r.tk r.ledger) occUnit

/-- Row `a` comes before row `b` in the shared projection: by output instant, then channel index (R211). -/
def poolBefore (a b : Nat × Ledger) : Bool := decide (a.2.at' < b.2.at') || (a.2.at' == b.2.at' && decide (a.1 < b.1))

/-- Rows of all members' ledgers with their channels, in the order of the shared projection (R211). -/
def State.sharedRows (s : State) (g : Nat) : List (Nat × Ledger) :=
  ((s.members g).flatMap fun c => ((s.rcOf c).ledger.map fun j => (c, j))).mergeSort fun a b => !poolBefore b a

/-- The shared occupancy after rows, their parts above the floor entering, at instant `t` (R211). -/
def projectShared (rate : Nat) (rates : List (Nat × Nat)) (t : Nat) : Nat → Nat → List Ledger → Nat
  | q, u, [] => q - drain rate rates u t
  | q, u, j :: js => projectShared rate rates t (q - drain rate rates u j.at' + (j.cap - min j.cap j.fr) * occUnit) j.at' js

/-- occs_at(t) for channel `c`: the shared occupancy projected through the rows before `t`, and those at `t` of lower channels, bits
rounded up (R211). -/
def State.sharedAt (s : State) (g c t : Nat) : Nat :=
  let y := s.grpOf g
  let js := ((s.sharedRows g).filter fun a => decide (a.2.at' < t) || (a.2.at' == t && decide (a.1 < c))).map (·.2)
  ceilDiv (projectShared y.rate y.rates t y.qs y.ts js) occUnit

/-! ## Results (R196, R202, R205) -/

/-- The scale of class `k` of a channel. -/
def State.scale (s : State) (c k : Nat) : Nat := s.fld (pCHAN c) (F.CHAN.RC_SCALE_SCALE k)

/-- A row's new scale from its bits (R205). -/
def newScale (old bits hdr e : Nat) : Nat :=
  let so := (bits - hdr - 24) * 2048 / e
  min 16384 (max 1024 ((15 * old + so + 8) / 16))

/-- update_scale(j): the controller learns from a known row (R205). -/
def State.updateScale (s : State) (c : Nat) (j : Ledger) (bits : Nat) : State :=
  if !j.learns ∨ j.e = 0 then s
  else s.setFld (pCHAN c) (F.CHAN.RC_SCALE_SCALE j.cls) (newScale (s.scale c j.cls) bits j.hdr j.e)

/-- The result of the first ledger row of a channel is applied (R202). -/
def State.applyRow (s : State) (c : Nat) (j : Ledger) (bits : Nat) : State :=
  let amount := if s.pooled c then min bits j.fr else bits
  let s1 : State := s.updRc c fun r =>
    { r with qk := r.qk - drain r.rate r.rates r.tk j.at' + amount * occUnit, tk := j.at', ledger := r.ledger.drop 1 }
  (s1.updPicRec c j.n fun y => { y with spent := y.spent - j.cap + bits }).updateScale c j bits

/-- apply_known(x) of a channel that is not pooled: in output order up to the first row not yet known (R196). -/
def State.applyOwn (s : State) (c x : Nat) : Nat → State
  | 0 => s
  | fuel + 1 =>
    match (s.rcOf c).ledger with
    | [] => s
    | j :: _ =>
      match j.bits with
      | some b => if j.at' ≤ x then State.applyOwn (s.applyRow c j b) c x fuel else s
      | none => s

/-- The member whose first ledger row comes next: least output instant, then least channel (R211). -/
def State.nextMember (s : State) (ms : List Nat) : Option Nat :=
  ms.foldl (fun (o : Option Nat) c =>
    match (s.rcOf c).ledger.head?, o with
    | none, _ => o
    | some _, none => some c
    | some j, some d => match (s.rcOf d).ledger.head? with
      | some i => if j.at' < i.at' then some c else o
      | none => some c) none

/-- apply_known(x) of a pooled group: rows of all members by output instant, then channel (R211). -/
def State.applyShared (s : State) (g x : Nat) : Nat → State
  | 0 => s
  | fuel + 1 =>
    match s.nextMember (s.members g) with
    | none => s
    | some c =>
      match (s.rcOf c).ledger with
      | [] => s
      | j :: _ =>
        match j.bits with
        | none => s
        | some b =>
          if j.at' > x then s
          else
            let y := s.grpOf g
            let s1 : State := s.setGrp g { y with qs := y.qs - drain y.rate y.rates y.ts j.at' + (b - min b j.fr) * occUnit, ts := j.at' }
            State.applyShared (s1.applyRow c j b) g x fuel

/-- apply_known(x) before a decision of channel `c` (R196, R202, R211). -/
def State.applyKnown (s : State) (c x : Nat) : State :=
  if s.pooled c then s.applyShared (s.chanGroup c) x (s.sharedRows (s.chanGroup c)).length
  else s.applyOwn c x (s.rcOf c).ledger.length

/-! ## The rate-model table (R202, R207) -/

/-- tab[cls][qp][bin] of the active table. -/
def RcState.entry (r : RcState) (cls qp bin : Nat) : Nat :=
  leNat ((r.table.drop (64 + 2 * (cls * 1024 + qp * 16 + bin))).take 2)

/-- The octets of a rate-model table are valid for a codec and chroma format (R207). -/
def tableValid (bs : List Byte) (codec : Nat) (c420 : Bool) : Bool :=
  let at2 (o : Nat) : Nat := leNat ((bs.drop o).take 2)
  let at1 (o : Nat) : Nat := (bs.getD o 0).toNat
  leNat (bs.take 4) == 0x544D524B && at2 4 == 1 && at1 6 == codec && at1 7 == (if c420 then 1 else 2) && at1 8 == 64 && at1 9 == 16 &&
    at1 10 == 3 && at1 11 == 0 && ((bs.drop 20).take 44).all (· == 0) && leNat ((bs.drop 12).take 4) == crc32 (bs.drop 64) &&
    (List.range 48).all fun i => (List.range (if codec = 0 then 63 else 51)).all fun q =>
      decide (at2 (64 + 2 * (i / 16 * 1024 + (q + 1) * 16 + i % 16)) ≤ at2 (64 + 2 * (i / 16 * 1024 + q * 16 + i % 16)))

/-- Address of a configuration's table. -/
def State.cvTable (s : State) (incl : List Nat) (c : Nat) : Nat := s.cvAddr incl (pCHAN c) F.CHAN.RC_TABLE_BASE_LO

/-- A table applies: the active copy, the scales 4,096, TABLE_APPLIED (R205, R208). -/
def State.applyTable (s : State) (c a : Nat) (bs : List Byte) : State :=
  let p := pCHAN c
  let s1 : State := s.updRc c fun r => { r with table := bs, tableAt := a, tableCrc := leNat ((bs.drop 12).take 4) }
  let s2 : State := [0, 1, 2].foldl (fun t k => t.setFld p (F.CHAN.RC_SCALE_SCALE k) 4096) s1
  (s2.setReg (F.CHAN.RC_TABLE_ID.addr p) (BitVec.ofNat 32 (leNat ((bs.drop 16).take 4)))).raise p F.CHAN.intTABLE_APPLIED

/-- A commit applies the table that it read where it differs from the active one in address, TABLE_ID or BODY_CRC (R208). -/
def State.commitTable (s : State) (c a : Nat) (bs : List Byte) : State :=
  let r := s.rcOf c
  if r.tableAt = a ∧ r.tableCrc = leNat ((bs.drop 12).take 4) ∧
      s.fld (pCHAN c) F.CHAN.RC_TABLE_ID = leNat ((bs.drop 16).take 4) then s
  else s.applyTable c a bs

/-! ## Costs (R201, R202) -/

/-- The largest value that a 32-bit register holds. -/
def sat32 (v : Nat) : Word := BitVec.ofNat 32 (min v (2 ^ 32 - 1))

/-- INTRA_SUM and COST_SUM of row `k` of picture `n`: 0 for a picture coded under R112 (R151, R518). -/
def State.isum (s : State) (c n k : Nat) : Nat := Tab.get 0 (s.lookPic c n).intra k
def State.csum (s : State) (c n k : Nat) : Nat := Tab.get 0 (s.lookPic c n).cost k

/-- cost(j) as the decision of row `k` of picture `x` sees it (R201). -/
def State.costAt (s : State) (c : Nat) (x : PicRec) (k j : Nat) : Nat :=
  let own (i : Nat) : Nat := if x.kind = 0 then s.isum c x.n i else s.csum c x.n i
  if x.absent then 0
  else if j ≤ k ∨ (s.geo c).buffered then own j
  else
    let r := s.rcOf c
    match (if x.kind = 0 then r.prevI else r.prevC)[j]? with
    | some v => v
    | none => own k

/-- The row is a scene-cut row (R151). -/
def State.cutRow (s : State) (c n k : Nat) : Bool :=
  (s.lookPic c n).cutRow (s.act (pCHAN c) F.CHAN.LOOK_CFG_SCENE_RATIO) (s.geo c).nRow k

/-- The picture is a scene-cut picture (R151). -/
def State.cutPic (s : State) (c n : Nat) : Bool :=
  (s.lookPic c n).cut (s.act (pCHAN c) F.CHAN.LOOK_CFG_SCENE_RATIO) (s.geo c).nRow (s.geo c).rRows

/-! ## The picture budget (R200, R211) -/

/-- wt_pic (R200). -/
def State.weight (s : State) (c : Nat) (x : PicRec) : Nat :=
  let p := pCHAN c
  let w := match x.kind with
    | 0 => s.act p F.CHAN.RC_WEIGHT_IDR
    | 1 => s.act p F.CHAN.RC_WEIGHT_GDR
    | 2 => s.act p F.CHAN.RC_WEIGHT_GDR
    | _ => 16
  if (s.geo c).buffered ∧ !x.absent ∧ s.cutPic c x.n then
    (if x.kind < 3 then max w (s.act p F.CHAN.RC_WEIGHT_CUT) else s.act p F.CHAN.RC_WEIGHT_CUT)
  else w

/-- A scene-cut picture lies among the LOOK_DEPTH pictures after `n` of a buffered channel (R200). -/
def State.cutAhead (s : State) (c n : Nat) : Bool :=
  (s.geo c).buffered && (List.range (s.geo c).depth).any fun i => s.cutPic c (n + 1 + i)

/-- buf falls to its new value once the queue at O(0) leaves room (R209). -/
def State.settle (s : State) (c o0 : Nat) : State :=
  let p := pCHAN c
  let nb := s.cvBuf [] c
  if s.bit p F.CHAN.RC_STATUS_SETTLED then s
  else if s.occAt c o0 + s.cvDrow [] c ≤ nb then
    (((s.updRc c fun r => { r with buf := nb }).setFld p F.CHAN.RC_STATUS_SETTLED 1).setReg (F.CHAN.RC_BUF_BITS.addr p)
      (sat32 nb)).raise p F.CHAN.intRATE_SETTLED
  else s

/-- Hold budget `b` for picture `x` and show it. -/
def State.putBudget (s : State) (c n b : Nat) : State :=
  (s.updPicRec c n fun y => { y with budget := b, spent := 0 }).setReg (F.CHAN.RC_PIC_BUDGET.addr (pCHAN c)) (sat32 b)

/-- The budget of a picture of a channel that is not pooled (R200, R202). -/
def State.ownBudget (s : State) (c : Nat) (x : PicRec) : State :=
  let p := pCHAN c
  let g := s.geo c
  let s1 : State := s.applyKnown c (x.fire * 1000)
  let o0 := s1.outPs c x 0
  let s2 : State := s1.settle c o0
  let r := s2.rcOf c
  let credit := (r.rate * g.den + r.crem) / g.num
  let fsum := s2.frFrom [] c (s2.formOf c x) 0
  let occ0 := s2.occAt c o0
  let tgt := r.buf * s2.act p F.CHAN.RC_CFG_TARGET / 8 / (if s2.cutAhead c x.n then 2 else 1)
  let want : Int := (credit * s2.weight c x / 16 : Nat) + ((tgt : Int) - occ0) / 4
  let top : Int := (r.buf : Int) - occ0 + (r.rate * (s2.outPs c x (g.rRows - 1) - o0) / occUnit : Nat)
  (s2.updRc c fun r => { r with crem := (r.rate * g.den + r.crem) % g.num }).putBudget c x.n (clip want fsum top).toNat

/-- Σ cost of a member's previous present picture, or of its own picture in buffered mode (R211). -/
def State.memberCost (s : State) (c : Nat) (x : PicRec) : Nat :=
  let r := s.rcOf c
  if (s.geo c).buffered then (List.range (s.geo c).rRows).foldl (fun a k => a + s.costAt c x k k) 0
  else (if x.kind = 0 then r.prevI else r.prevC).foldl (· + ·) 0

/-- The budgets of the pictures that start in a pooled group at counter ns `fire`: (channel, frame index) in ascending channel
order (R211). -/
def State.poolBudgets (s : State) (g fire : Nat) (cs : List (Nat × Nat)) : State :=
  let xs := cs.filterMap fun c => (s.picRec c.1 c.2).map fun x => (c.1, x)
  match xs with
  | [] => s
  | (c0, x0) :: _ =>
    let s1 : State := (s.takeShared g fire).applyKnown c0 (fire * 1000)
    let s2 : State := xs.foldl (fun t c => t.settle c.1 (t.outPs c.1 c.2 0)) s1
    let rate := s2.sharedRate g
    let r := s2.rateOf g
    let y := s2.grpOf g
    let credit := (rate * r.2 + y.srem) / r.1
    let occ := s2.sharedAt g 0 (fire * 1000)
    let bufs := s2.sharedBuf g
    let top : Int := (bufs : Int) - occ + (rate * r.2 / r.1 : Nat)
    let pool := (clip ((credit : Int) + ((bufs * 4 / 8 : Nat) - (occ : Int)) / 4) 0 top).toNat
    let w (c : Nat × PicRec) : Nat := (s2.memberCost c.1 c.2 + 1) * s2.weight c.1 c.2 / 16
    let wsum := xs.foldl (fun a c => a + w c) 0
    let share (c : Nat × PicRec) : Nat := pool * w c / wsum
    let left := pool - xs.foldl (fun a c => a + share c) 0
    let s3 : State := (s2.setGrp g { y with srem := (rate * r.2 + y.srem) % r.1 }).setReg (F.GRP.POOL_PIC.addr (pGRP g)) (sat32 pool)
    let s4 : State := xs.foldl (fun t c => t.putBudget c.1 c.2.n (t.frFrom [] c.1 (t.formOf c.1 c.2) 0 + share c)) s3
    s4.putBudget c0 x0.n (s4.frFrom [] c0 (s4.formOf c0 x0) 0 + share (c0, x0) + left)

/-! ## Row cap, target and QP (R201 to R204) -/

/-- pred(k, q) and its unscaled prediction e (R202). -/
def State.pred (s : State) (c : Nat) (x : PicRec) (f : PicForm) (k hdr q : Nat) : Nat × Nat :=
  let r := s.rcOf c
  let nRow := (s.geo c).nRow
  let cc := if s.cutRow c x.n k then 2 else 1
  let ni := f.mustIntra nRow
  let bi := min 15 (bitlen (s.isum c x.n k / nRow))
  let bc := min 15 (bitlen (s.csum c x.n k / nRow))
  let e := ni * r.entry 0 q bi + (nRow - ni) * r.entry cc q bc
  let cls := if ni = nRow then 0 else cc
  (hdr + 24 + (s.scale c cls * e + 1024) / 2048, e)

/-- The smallest q from `lo` to `hi` that satisfies `ok`. -/
def firstQp (lo hi : Nat) (ok : Nat → Bool) : Option Nat := ((List.range (hi + 1)).filter (lo ≤ ·)).find? ok

/-- The plan of row `k` of a picture, with its target, and the occupancy it saw (R201 to R204, R211). -/
def State.planRow (s : State) (c : Nat) (x : PicRec) (k : Nat) : RowPlan × Nat × Nat :=
  let p := pCHAN c
  let g := s.geo c
  let f := s.formOf c x
  let r := s.rcOf c
  let hdr := s.hdr [] c f k
  let fr := s.fr [] c f k
  let o := s.outPs c x k
  let occ := s.occAt c o
  let cut := s.cutRow c x.n k
  let cls := if f.mustIntra g.nRow = g.nRow then 0 else if cut then 2 else 1
  if x.kind = 4 then (⟨fr, r.qlast, false, false, cls, 0, hdr, fr⟩, fr, occ)
  else
    let a1 : Int := (x.budget : Int) - x.spent - s.frFrom [] c f (k + 1)
    let a2 : Int := if s.pooled c then (fr : Int) + s.sharedBuf (s.chanGroup c) - s.sharedAt (s.chanGroup c) c o else (r.buf : Int) - occ
    let cap := (min a1 a2).toNat
    let share := (a1 - fr).toNat
    let wsum := ((List.range g.rRows).filter (k ≤ ·)).foldl (fun a j => a + s.costAt c x k j + 1) 0
    let t := fr + share * (s.costAt c x k k + 1) / wsum
    let step := s.act p F.CHAN.RC_CFG_QP_STEP
    let window := decide (step > 0) && (decide (k > 0) || !r.first) && !cut
    let lo := if window then max (s.act p F.CHAN.RC_CFG_QP_MIN) (r.qlast - step) else s.act p F.CHAN.RC_CFG_QP_MIN
    let hi := if window then min (s.act p F.CHAN.RC_CFG_QP_MAX) (r.qlast + step) else s.act p F.CHAN.RC_CFG_QP_MAX
    let pr (q : Nat) : Nat := (s.pred c x f k hdr q).1
    let q1 := (firstQp lo hi fun q => decide (pr q ≤ t)).getD hi
    let q2 := if pr q1 ≤ cap then some q1 else firstQp (q1 + 1) (s.act p F.CHAN.RC_CFG_QP_MAX) fun q => decide (pr q ≤ cap)
    match q2 with
    | some q => (⟨cap, q, false, cut, cls, (s.pred c x f k hdr q).2, hdr, fr⟩, t, occ)
    | none => (⟨fr, r.qlast, true, cut, cls, 0, hdr, fr⟩, t, occ)

/-- RC_ROW_BUDGET shows a plan. -/
def State.showPlan (s : State) (c : Nat) (pl : RowPlan) : State :=
  let p := pCHAN c
  ((s.setFld p F.CHAN.RC_ROW_BUDGET_CAP (min (pl.cap / 8) (2 ^ 21 - 1))).setFld p F.CHAN.RC_ROW_BUDGET_QP pl.qp).setFld p
    F.CHAN.RC_ROW_BUDGET_FLOOR pl.floor.toNat

/-- A row decided at floor: RC_FLOOR_ROWS and FLOOR (R203). -/
def State.floorRow (s : State) (c : Nat) : State := (s.incFld (pCHAN c) F.CHAN.RC_FLOOR_ROWS).raise (pCHAN c) F.CHAN.intFLOOR

/-- A new row of a picture with its plan, not yet dispatched. -/
def RowRec.new (pl : RowPlan) : RowRec := ⟨pl, none, 0, [], .reset, [], 0, 0, false, false, false, false, false, none, false, []⟩

def RowRec.reset : RowRec := .new ⟨0, 0, false, false, 0, 0, 0, 0⟩

/-- The row takes its plan: it enters the ledger at its cap (R202). `own` is false for a row whose result comes from the peer. -/
def State.takePlan (s : State) (c : Nat) (x : PicRec) (k : Nat) (pl : RowPlan) : State :=
  let j : Ledger := ⟨x.n, k, s.outPs c x k, pl.cap, pl.e, pl.cls, pl.hdr, pl.fr, none, !pl.floor && x.kind != 4 && pl.e != 0⟩
  let s1 : State := s.updRc c fun r =>
    { r with qlast := if pl.floor ∨ x.kind = 4 then r.qlast else pl.qp, ledger := r.ledger ++ [j], first := r.first && decide (k > 0) }
  s1.updPicRec c x.n fun y => { y with spent := y.spent + pl.cap, rows := Tab.set .reset y.rows k (.new pl) }

/-- The controller decides row `k` of a picture at its release instant (R196, R201 to R204). -/
def State.decideRow (s : State) (c n k : Nat) : State :=
  let p := pCHAN c
  match s.picRec c n with
  | none => s
  | some x0 =>
    let s1 : State := s.applyKnown c (x0.fire * 1000 + (s.geo c).releaseAt k)
    let x := (s1.picRec c n).getD x0
    let d := s1.planRow c x k
    let s2 : State := (s1.takePlan c x k d.1).showPlan c d.1
    let s3 : State := if x.kind = 4 then s2 else s2.setReg (F.CHAN.RC_ROW_TARGET.addr p) (sat32 d.2.1)
    let s4 : State := s3.setReg (F.CHAN.RC_OCC.addr p) (sat32 d.2.2)
    let s5 : State := if s.pooled c then
        s4.setReg (F.GRP.POOL_OCC.addr (pGRP (s.chanGroup c))) (sat32 (s1.sharedAt (s.chanGroup c) c (s1.outPs c x k)))
      else s4
    if d.1.floor then s5.floorRow c else s5

/-! ## Enable and commits (R193, R208, R209) -/

/-- A channel enters ON: its rate-control state starts afresh with the table that the check read (R193, R207, R212). -/
def State.rcEnter (s : State) (c : Nat) (table : List Byte) : State :=
  let p := pCHAN c
  let s1 : State := s.updRc c fun _ =>
    { RcState.reset with rate := s.cvRate [] c, buf := s.cvBuf [] c, qlast := s.act p F.CHAN.RC_CFG_QP_MAX }
  let s2 : State := ((s1.setReg (F.CHAN.RC_BUF_BITS.addr p) (sat32 (s.cvBuf [] c))).setReg (F.CHAN.RC_DROW.addr p)
    (sat32 (s.cvDrow [] c))).setFld p F.CHAN.RC_STATUS_POOLED (s.pooled c).toNat
  s2.applyTable c (s.cvTable [] c) table

/-- A commit has changed RC_RATE at the boundary `f`, counter ps: the drain changes there; where the rate rises buf takes its new value at
once, where it falls it does so later (R209). -/
def State.rateCommit (s : State) (c f : Nat) : State :=
  let p := pCHAN c
  let rate := s.cvRate [] c
  let r := s.rcOf c
  if r.rate = rate then s
  else
    let s1 : State := (s.updRc c fun r => { r with rate := rate, rates := r.rates ++ [(f, r.rate)] }).setReg (F.CHAN.RC_DROW.addr p)
      (sat32 (s.cvDrow [] c))
    if r.rate < rate then
      ((s1.updRc c fun r => { r with buf := s.cvBuf [] c }).setReg (F.CHAN.RC_BUF_BITS.addr p) (sat32 (s.cvBuf [] c))).setFld p
        F.CHAN.RC_STATUS_SETTLED 1
    else s1.setFld p F.CHAN.RC_STATUS_SETTLED 0

end Sys2Proof.Machine
end

