-- ==== Sys2Proof/Machine/Refp.lean ====
section
/-! DEFINITION. The reference pool, Squeeze and the search proxy (spec/09, R215 to R236): picture buffers and their marks, the
Squeeze block, what a chamber writes of a CTU, and the reading back of blocks. -/

namespace Sys2Proof.Machine

/-! ## Picture buffers (R215, R219) -/

/-- Device address of buffer `i` of channel `c`. -/
def State.bufAddr (s : State) (c i : Nat) : Nat :=
  let base := (s.act pREFP F.REFP.POOL_BASE_LO + s.act pREFP F.REFP.POOL_BASE_HI_ADDR * 2 ^ 32) % 2 ^ 36
  base + (s.fld pREFP (F.REFP.ALLOC_FIRST c) + i * s.fld pREFP (F.REFP.ALLOC_GPB c)) * 2097152

/-- Device address of block `b` of CTU `t` of a buffer (R215, R216). -/
def State.blockAddr (s : State) (c i t b : Nat) : Nat := s.bufAddr c i + t * (s.geo c).sCtu + b * 192

/-- Device address of the proxy of CTU `t` of a buffer (R215). -/
def State.proxyAddr (s : State) (c i t : Nat) : Nat := s.bufAddr c i + (s.geo c).nCtu * (s.geo c).sCtu + t * 4096

/-- Blocks of a CTU (R216). -/
def ChanGeo.blocks (g : ChanGeo) : Nat := if g.c420 then 48 else 64

/-! ## The Squeeze block (R224 to R228) -/

/-- pred(i, j) in a plane of width `w` (R224). -/
def sqzPred (x : Nat → Nat) (w k : Nat) : Nat :=
  let i := k % w
  let j := k / w
  if i = 0 ∧ j = 0 then 512
  else if j = 0 then x (k - 1)
  else if i = 0 then x (k - w)
  else
    let a := x (k - 1)
    let b := x (k - w)
    let c := x (k - w - 1)
    if c ≥ max a b then min a b else if c ≤ min a b then max a b else a + b - c

/-- u of a sample from its prediction (R224). -/
def sqzFold (x pred : Nat) : Nat :=
  let d := (x + 1536 - pred) % 1024
  if d ≥ 512 then 2 * (d - 512) else 2 * (512 - d) - 1

/-- The sample from its u and its prediction (R224). -/
def sqzUnfold (u pred : Nat) : Nat := if u % 2 = 0 then (pred + u / 2) % 1024 else (pred + 1024 - (u + 1) / 2) % 1024

/-- Width of the planes of a block, and the first sample of the plane that holds sample `k`: 16×8 luma, or two 8×8 chroma
planes (R216, R224). -/
def planeOf (chroma : Bool) (k : Nat) : Nat × Nat := if chroma then (8, k / 64 * 64) else (16, 0)

/-- The residuals u of a block of 128 samples in coding order (R224). -/
def sqzResiduals (chroma : Bool) (xs : List Nat) : List Nat :=
  (List.range 128).map fun k =>
    let p := planeOf chroma k
    sqzFold (xs.getD k 0) (sqzPred (fun q => xs.getD (p.2 + q) 0) p.1 (k - p.2))

/-- w(g) of a group of 16 residuals (R224). -/
def sqzWidth (us : List Nat) (g : Nat) : Nat := bitlen (((us.drop (16 * g)).take 16).foldl max 0)

/-- The compressed payload: width field and residual stream (R225). -/
def sqzPayload (us : List Nat) : List Byte :=
  let ws := (List.range 8).map (sqzWidth us)
  packBytes (ws.map fun w => (w, 4)) ++
    packBytes ((List.range 128).map fun k => (us.getD k 0, ws.getD (k / 16) 0))

/-- The raw payload: 128 samples of 10 bits (R225). -/
def sqzRaw (xs : List Nat) : List Byte := packBytes ((List.range 128).map fun k => (xs.getD k 0, 10))

/-- The samples of a block from its residuals: each plane in order, every sample predicted from those before it (R224). -/
def sqzSamples (chroma : Bool) (us : List Nat) : List Nat :=
  us.foldl (fun xs u =>
    let p := planeOf chroma xs.length
    xs ++ [sqzUnfold u (sqzPred (fun q => xs.getD (p.2 + q) 0) p.1 (xs.length - p.2))]) []

/-- The residuals of a compressed payload; widths above 10 are decoded as 10 (R225, R231). -/
def sqzStream (bs : List Byte) : List Nat :=
  let ws := (unpackBits 4 bs 0 8).map (min 10)
  ((List.range 128).foldl (fun (r : List Nat × Nat) k =>
    let w := ws.getD (k / 16) 0
    (r.1 ++ [leNat bs / 2 ^ r.2 % 2 ^ w], r.2 + w)) ([], 32)).1

/-- The samples of a stored block by its map entry; `o` is 16 for block 0, else 0 (R224 to R226). -/
def blockSamples (entry b : Nat) (bs : List Byte) : List Nat :=
  let payload := bs.drop (if b = 0 then 16 else 0)
  if entry = 3 then unpackBits 10 payload 0 128 else sqzSamples (decide (b ≥ 32)) (sqzStream payload)

/-- Sectors of a block: its map entry; `o` is 16 for block 0, else 0 (R226). -/
def sqzEntry (raw : Bool) (o len : Nat) : Nat := if raw then 3 else if o + len + 2 ≤ 64 then 1 else if o + len + 2 ≤ 128 then 2 else 3

/-- The sectors of a stored block: head (the map, for block 0), payload, zeros, CRC-16 (R226, R228). -/
def sqzSectors (entry : Nat) (head payload : List Byte) : List Byte :=
  let body := head ++ payload
  let full := body ++ List.replicate (64 * entry - 2 - body.length) 0
  full ++ leBytes (crc16 full) 2

/-- Map entry of block `b` of a CTU (R226, R227). -/
def blockEntry (raw : Bool) (b : Nat) (xs : List Nat) : Nat :=
  sqzEntry raw (if b = 0 then 16 else 0) (sqzPayload (sqzResiduals (decide (b ≥ 32)) xs)).length

/-- The stored octets of block `b` (R226). -/
def blockStored (raw : Bool) (b : Nat) (map : List Byte) (xs : List Nat) : List Byte :=
  let e := blockEntry raw b xs
  sqzSectors e (if b = 0 then map else [])
    (if e = 3 then sqzRaw xs else sqzPayload (sqzResiduals (decide (b ≥ 32)) xs))

/-- The map of a CTU: 16 octets, two bits for a block (R227). -/
def ctuMap (raw : Bool) (bs : List (List Nat)) : List Byte :=
  let r := packBytes ((List.range bs.length).map fun b => (blockEntry raw b (bs.getD b []), 2))
  r ++ List.replicate (16 - r.length) 0

/-! ## What a chamber writes of a CTU (R229, R233) -/

/-- Luma sample (x, y) of a CTU from its blocks (R216). -/
def ctuLuma (bs : List (List Nat)) (x y : Nat) : Nat := (bs.getD (y / 8 * 4 + x / 16) []).getD (y % 8 * 16 + x % 16) 0

/-- The proxy of a CTU (R217, R233). -/
def ctuProxy (bs : List (List Nat)) : List Byte :=
  (List.range 4096).map fun i => BitVec.ofNat 8 (min ((ctuLuma bs (i % 64) (i / 64) + 2) / 4) 255)

/-- Keep Squeeze writes of the last 1,048,576 FABRIC cycles (SQZ_RATIO). -/
def State.noteSqz (s : State) (raw stored : Nat) : State :=
  { s with sqz := (s.sqz.filter fun e => decide (e.1 + 1048576 > s.fabric)) ++ [(s.fabric, raw, stored)] }

/-- Bytes written by Squeeze per 1,000 raw bytes over that span (SQZ_RATIO). -/
def State.sqzRatio (s : State) : Nat :=
  let w := s.sqz.filter fun e => decide (e.1 + 1048576 > s.fabric)
  w.foldl (fun a e => a + e.2.2) 0 * 1000 / w.foldl (fun a e => a + e.2.1) 0

/-- Write the blocks of final CTU `t` of a picture buffer, block 0 last, and its proxy (R229, R233). -/
def State.writeCtu (s : State) (c i t : Nat) (raw : Bool) (bs : List (List Nat)) : State :=
  let map := ctuMap raw bs
  let order := ((List.range bs.length).drop 1) ++ (if bs.isEmpty then [] else [0])
  let s1 : State := order.foldl (fun u b =>
    (u.devWriteUnits mREFP 4 (u.blockAddr c i t b) (blockStored raw b map (bs.getD b []))).1) s
  let s2 : State := (s1.devWriteUnits mREFP 32 (s1.proxyAddr c i t) (ctuProxy bs)).1
  s2.noteSqz (160 * bs.length) (bs.zipIdx.foldl (fun a b => a + 64 * blockEntry raw b.2 b.1) 0)

/-! ## Marks (R221) -/

def mkFree : Nat := 0
def mkCurrent : Nat := 1
def mkReference : Nat := 2
def mkHeld : Nat := 3

/-- Every row of a picture has been coded. -/
def PicRec.coded (x : PicRec) (rRows : Nat) : Bool := (List.range rRows).all fun k => ((Tab.get .reset x.rows k).endedAt).isSome

/-- The pictures of a channel still in coding. -/
def State.inCoding (s : State) (c : Nat) : List PicRec := (s.chanOf c).pics.filter fun x => !x.coded (s.geo c).rRows

/-- Buffer `i` is in use: a reference of a picture still in coding (R221). -/
def State.bufInUse (s : State) (c i : Nat) : Bool := (s.inCoding c).any fun x => x.refs.contains i

def State.setBufs (s : State) (c : Nat) (bs : List BufState) : State := s.updChan c fun x => { x with bufs := bs }

/-- A buffer with a new mark; FREE clears its poison (R221). -/
def BufState.toMark (b : BufState) (m : Nat) : BufState :=
  if m = mkFree then { b with mark := m, poisoned := [] } else { b with mark := m }

/-- A picture starts whose references are `refs`: each REFERENCE buffer that is not among them becomes HELD or FREE (R221). -/
def State.marksAtStart (s : State) (c : Nat) (refs : List Nat) : State :=
  s.setBufs c ((s.chanOf c).bufs.zipIdx.map fun b =>
    if b.1.mark = mkReference ∧ !refs.contains b.2 then b.1.toMark (if s.bufInUse c b.2 then mkHeld else mkFree) else b.1)

/-- The lowest-indexed FREE buffer. -/
def State.freeBuf (s : State) (c : Nat) : Option Nat := (s.chanOf c).bufs.findIdx? fun b => b.mark == mkFree

/-- Picture `n` completes in buffer `i`; HELD buffers that nothing uses any more become FREE (R221). -/
def State.marksAtEnd (s : State) (c i : Nat) : State :=
  let l := (s.chanOf c).refresh.list.take (s.geo c).nref
  s.setBufs c ((s.chanOf c).bufs.zipIdx.map fun b =>
    if b.2 = i ∧ b.1.mark = mkCurrent then
      b.1.toMark (if l.contains i then mkReference else if s.bufInUse c i then mkHeld else mkFree)
    else if b.1.mark = mkHeld ∧ !s.bufInUse c b.2 then b.1.toMark mkFree
    else b.1)

/-- The marks that MARK_STATE0 (`h` = 0) or MARK_STATE1 (1) shows (REFP fields). -/
def State.markState (s : State) (h : Nat) : Nat :=
  let bs := (s.chanOf (s.fld pREFP F.REFP.MARK_SEL_CHAN)).bufs
  (List.range 10).foldl (fun a i => a + ((bs[10 * h + i]?).getD .reset).mark * 2 ^ (3 * i)) 0

/-- MARK_POISON. -/
def State.markPoison (s : State) : Nat :=
  let bs := (s.chanOf (s.fld pREFP F.REFP.MARK_SEL_CHAN)).bufs
  (List.range 20).foldl (fun a i => a + (if ((bs[i]?).getD .reset).poisoned.isEmpty then 0 else 2 ^ i)) 0

/-! ## The reference window (R223, R229 to R231) -/

/-- Row `r` of the picture in buffer `i` has been written: it and the row below it have been coded. -/
def State.rowWritten (s : State) (c i r : Nat) : Bool :=
  match (s.chanOf c).pics.find? fun x => x.buf == some i && x.n == (((s.chanOf c).bufs[i]?).getD .reset).n with
  | some x =>
    ((Tab.get .reset x.rows r).endedAt).isSome &&
      (decide (r + 1 ≥ (s.geo c).rRows) || ((Tab.get .reset x.rows (r + 1)).endedAt).isSome)
  | none => true

/-- What a picture's window holds of CTU `t` of buffer `i`. -/
def PicRec.winOf (x : PicRec) (i t : Nat) : WinCtu := (x.win.find? fun w => w.buf == i && w.ctu == t).getD ⟨i, t, false, false, []⟩

/-- The window has every verdict of the CTU. -/
def WinCtu.read (w : WinCtu) (blocks : Nat) : Bool := w.lost || (w.mapped && decide (w.blocks.length = blocks))

/-- Block `b` of the CTU is the window's to read: block 0 first, the others by its verified map, each once (R229, R230). -/
def WinCtu.wants (w : WinCtu) (b : Nat) : Bool := if b = 0 then !w.mapped && !w.lost else w.mapped && !w.lost && (Tab.get [] w.blocks b).isEmpty

/-- CTUs of a reference within the reach of CTU column range and row `k`: three rows above and below (R223, R232). -/
def State.reachRows (s : State) (c k : Nat) : List Nat :=
  (List.range (min (k + 4) (s.geo c).rRows)).filter fun r => decide (k ≤ r + 3)

/-- Every CTU of the references within the reach of row `k` has been written and read with a verdict (R223). -/
def State.refsReady (s : State) (c : Nat) (x : PicRec) (k : Nat) : Bool :=
  let g := s.geo c
  x.refs.all fun i => (s.reachRows c k).all fun r => s.rowWritten c i r &&
    (List.range g.nRow).all fun q => (x.winOf i (r * g.nRow + q)).read g.blocks

/-- CTU `t` of a picture is affected: its reach in a reference holds a poisoned CTU (R232). -/
def State.affected (s : State) (c : Nat) (x : PicRec) (t : Nat) : Bool :=
  let nRow := (s.geo c).nRow
  x.kind != 4 && x.refs.any fun i => (((s.chanOf c).bufs[i]?).getD .reset).poisoned.any fun q =>
    decide (absDiff (q % nRow) (t % nRow) ≤ 9) && decide (absDiff (q / nRow) (t / nRow) ≤ 3)

/-! ## Reading back (R230, R231) -/

/-- The map entry of block `b` as stored. -/
def State.mapEntry (s : State) (c i t b : Nat) : Nat := (s.byte (s.blockAddr c i t 0 + b / 4)).toNat / 2 ^ (2 * (b % 4)) % 4

/-- Sectors that a read of block `b` takes: at least the one that holds the map, for block 0. -/
def State.blockLen (s : State) (c i t b : Nat) : Nat := if b = 0 then max 1 (s.mapEntry c i t 0) else s.mapEntry c i t b

/-- The 64-byte blocks of memory that a read of block `b` takes. -/
def State.blockUnits (s : State) (c i t b : Nat) : List Nat := blocksOf (s.blockAddr c i t b) (64 * s.blockLen c i t b)

/-- The stored state of a block fails a read: an uncorrectable sector, a bad CRC, or for block 0 a map that gives another block
entry 0 while entry 0 is not 0 (R230). -/
def State.blockFails (s : State) (c i t b : Nat) : Bool :=
  let e := s.blockLen c i t b
  let bs := s.loadBytes (s.blockAddr c i t b) (64 * e)
  (s.blockUnits c i t b).any s.blockBad ||
    decide (crc16 (bs.take (64 * e - 2)) ≠ leNat (bs.drop (64 * e - 2))) ||
    (b == 0 && s.mapEntry c i t 0 != 0 && (List.range (s.geo c).blocks).any fun q => s.mapEntry c i t q == 0)

/-- CTU `t` of a buffer is poisoned (R231). -/
def State.isPoisoned (s : State) (c i t : Nat) : Bool := (((s.chanOf c).bufs[i]?).getD .reset).poisoned.contains t

/-- A CTU is poisoned by block `b`, or because its map reads VOID, as picture `n` read it (R231, R511). -/
def State.poisonCtu (s : State) (c n i t b : Nat) (void : Bool) : State :=
  let first := (((s.chanOf c).bufs[i]?).getD .reset).poisoned.isEmpty
  let s1 : State := (s.setBufs c ((s.chanOf c).bufs.zipIdx.map fun x =>
    if x.2 = i then { x.1 with poisoned := x.1.poisoned ++ [t] } else x.1)).err pREFP 2
  let s2 : State :=
    if first then
      let info := c + i * 2 ^ 8 + b * 2 ^ 16 + void.toNat * 2 ^ 31
      let s3 : State := ((s1.setReg (F.REFP.POISON_INFO.addr pREFP) (BitVec.ofNat 32 info)).setFld pREFP F.REFP.POISON_CTU_CTU t).raise
        pREFP F.REFP.intPOISON
      s3.logEv pREFP F.REFP.intPOISON 4 0 (logWord 24 info ++ logWord 28 t ++ logWord 32 n ++ logWord 36 (n / 2 ^ 32))
    else s1
  s2.requestRefresh c 0

/-- Attempts that a read of block `b` may make: a poisoned CTU is read once (R230, R231). -/
def State.tries (s : State) (c i t : Nat) : Nat := if s.isPoisoned c i t then 1 else 3

/-- Failed attempts of a read of block `b`: all of them where what is stored fails, else the first `transient` (R230). -/
def State.failures (s : State) (c i t b transient : Nat) : Nat := if s.blockFails c i t b then s.tries c i t else min transient (s.tries c i t)

/-- What memory counts for a read of block `b` with `fails` failed attempts: uncorrectable sectors at each, and the re-reads but for those
of a poison mark (R382 to R384). -/
def State.countReads (s : State) (c i t b fails : Nat) : State :=
  let us := s.blockUnits c i t b
  let n := s.servedBy (s.blockAddr c i t b)
  let rereads := if us.any s.blockPoison then 0 else min fails (s.tries c i t - 1)
  let s1 : State := (List.range fails).foldl (fun u _ => us.foldl (fun v q => v.noteBad q) u) s
  if rereads = 0 then s1 else s1.setMemc n { s1.memcOf n with rereads := (s1.memcOf n).rereads + rereads }

/-- The samples that the window takes from the last attempt at block `b`: those stored, or free ones where memory did not deliver it
(R231; log entry 123). -/
def State.lastSamples (s : State) (c i t b fails : Nat) : List Nat :=
  let e := s.blockLen c i t b
  if (s.blockUnits c i t b).any s.blockBad ∨ (fails = s.tries c i t ∧ s.blockFails c i t b = false) then
    (List.range 128).map fun k => (Config.lostSample s.freeCtr k).toNat
  else blockSamples e b (s.loadBytes (s.blockAddr c i t b) (64 * e))

/-- Change what the window of picture `n` holds of a CTU. -/
def State.updWin (s : State) (c n i t : Nat) (f : WinCtu → WinCtu) : State :=
  s.updPicRec c n fun x => { x with win := (x.win.filter fun w => !(w.buf == i && w.ctu == t)) ++ [f (x.winOf i t)] }

/-- The verdict on block `b` of CTU `t` of buffer `i` for the window of picture `n`: at most three attempts, the first `transient` of them
failing beside what is stored (R230, R231). -/
def State.readBlock (s : State) (c n i t b transient : Nat) : State :=
  let fails := s.failures c i t b transient
  let failed := decide (fails = s.tries c i t)
  let void := b == 0 && !failed && s.mapEntry c i t 0 == 0
  let xs := s.lastSamples c i t b fails
  let s1 : State := ((s.countReads c i t b fails).errBy pREFP 0 fails).tookFree
  let s2 : State := s1.updWin c n i t fun w =>
    { w with mapped := w.mapped || b == 0, lost := w.lost || void || (b == 0 && failed), blocks := Tab.set [] w.blocks b xs }
  if s.isPoisoned c i t then s2
  else if failed ∨ void then s2.poisonCtu c n i t b void
  else if fails = 0 then s2
  else (s2.err pREFP 1).raise pREFP F.REFP.intCRC_RETRY

/-- The read of sector `j` of a CTU's proxy for picture `n`: one that memory reports uncorrectable after its re-reads is used as zeros and
counts (R236). -/
def State.readProxy (s : State) (c n i t j : Nat) (lost : Bool) : State :=
  if lost || s.blockBad ((s.proxyAddr c i t + 64 * j) / 64) then
    ((s.updPicRec c n fun x => { x with lostProxy := x.lostProxy ++ [(i, t, j)] }).err pREFP 5).raise pREFP F.REFP.intPROXY_LOST
  else s

/-- The picture for whose window block `b` of CTU `t` of buffer `i` is read: the first in coding that uses the buffer and has not read it
(R223, R229). Past the last block, `b` numbers the sectors of the proxy. -/
def State.reader (s : State) (c i t b : Nat) : Option PicRec :=
  (s.inCoding c).find? fun x => x.refs.contains i &&
    if b < (s.geo c).blocks then (x.winOf i t).wants b else !x.lostProxy.contains (i, t, b - (s.geo c).blocks)

/-- BLOCK_READ (R230, R236): the reference window reads block `b` of CTU `t` in buffer `i` of channel `c` once the CTU has been written; the
memory reports the first `transient` attempts uncorrectable beside what it holds. Past the last block, `b` numbers the 64 sectors of the
CTU's proxy, which is read once: memory has made its own re-reads. -/
def execBlockRead (c i t b transient : Nat) (s : State) : Out :=
  s.event (decide (c < 64) && s.chanOn c && decide (i < (s.chanOf c).bufs.length) && decide (t < (s.geo c).nCtu) &&
      decide (b < (s.geo c).blocks + 64) && s.rowWritten c i (t / (s.geo c).nRow) && (s.reader c i t b).isSome) fun s =>
    match s.reader c i t b with
    | some x =>
      if b < (s.geo c).blocks then s.readBlock c x.n i t b transient
      else s.readProxy c x.n i t (b - (s.geo c).blocks) (decide (0 < transient))
    | none => s

end Sys2Proof.Machine
end

