-- ==== Sys2Proof/Machine/Search.lean ====
section
/-! DEFINITION. What a CTU is predicted from, and the motion search (spec/07, R180, R184 to R186): the samples that a vector
reads, the motion constraints, the search costs, and the stages of the search. The codec's own filters are constants of Config (log
entry 40). -/

namespace Sys2Proof.Machine

/-! ## What coding reads -/

/-- What R180 lets a CU of the clean area read of a reference: all, luma columns below a limit, or nothing. -/
inductive RefLimit where
  | free
  | below (x : Nat)
  | never
deriving DecidableEq, Repr

/-- What the coding of a CTU reads beside its context: the scaled source at coded depth and its search proxy, the references as the
window holds them and their proxies, all by position in the picture; and the constraints on the CTU. -/
structure CodeEnv where
  /-- Source: component, column, line. -/
  src : Nat → Nat → Nat → Nat
  srcProxy : Nat → Nat → Nat
  /-- Reference: index, component, column, line. -/
  ref : Nat → Nat → Nat → Nat → Nat
  refProxy : Nat → Nat → Nat → Nat
  /-- The CTU lies in the clean area, and what it may read of each reference (R180). -/
  clean : Bool
  limit : Nat → RefLimit
  /-- Poisoned CTUs of each reference, and whether the CTU is affected by one (R232). -/
  poisoned : Nat → List Nat
  affected : Bool
  /-- Every CU is intra: an IDR picture or a refresh band (R176, R179). -/
  intra : Bool
  /-- First luma column right of the band of whose rightmost column the CTU is, where that is not the last (R181). -/
  edge : Option Nat

/-! ## Grids -/

/-- Width and height of a component's grid for one in luma samples. -/
def gridW (comp w : Nat) : Nat := if comp = 0 then w else w / 2
def gridH (c420 : Bool) (comp h : Nat) : Nat := if comp = 0 ∨ !c420 then h else h / 2

/-- An area in the grid of a component. -/
def Area.grid (a : Area) (c420 : Bool) (comp : Nat) : Area := ⟨gridW comp a.x, gridH c420 comp a.y, gridW comp a.w, gridH c420 comp a.h⟩

/-- The positions of an area in raster order. -/
def Area.cells (a : Area) : List (Nat × Nat) := (List.range (a.w * a.h)).map fun i => (a.x + i % a.w, a.y + i / a.w)

/-- Tiles of at most `n` × `n` of an area, in raster order. -/
def Area.tiles (a : Area) (n : Nat) : List Area :=
  let w := min n a.w
  let h := min n a.h
  (List.range (a.h / h)).flatMap fun j => (List.range (a.w / w)).map fun i => ⟨a.x + i * w, a.y + j * h, w, h⟩

/-- An index clamped to 0 … n − 1: samples outside the picture repeat its edge. -/
def clampTo (n : Nat) (v : Int) : Nat := (clip v 0 ((n : Int) - 1)).toNat

/-! ## Samples that a vector reads (R180, R184) -/

/-- Quarter samples of luma in one sample of a component. -/
def unitX (comp : Nat) : Nat := if comp = 0 then 4 else 8
def unitY (c420 : Bool) (comp : Nat) : Nat := if comp = 0 ∨ !c420 then 4 else 8

/-- Interpolation taps before and after a fractional position. -/
def tapsBefore (comp : Nat) : Nat := if comp = 0 then 3 else 1
def tapsAfter (comp : Nat) : Nat := if comp = 0 then 4 else 2

/-- First sample and number of samples that a run of `n` samples from `p` reads at displacement `v` of `unit` to a sample (R180). -/
def readRun (comp unit p n : Nat) (v : Int) : Int × Nat :=
  if v % (unit : Int) = 0 then (p + v / unit, n) else (p + v / unit - tapsBefore comp, n + tapsBefore comp + tapsAfter comp)

/-- Fraction of a vector component, in eighths of a sample of the component. -/
def fraction (unit : Nat) (v : Int) : Nat := (v % (unit : Int)).toNat * (8 / unit)

/-- The samples of reference `r` that an area of a component's grid reads with a vector, in raster order (R180, R184). -/
def CodeEnv.reads (e : CodeEnv) (ctx : CodeCtx) (comp : Nat) (a : Area) (r : Nat) (v : Mv) : List Nat :=
  let xr := readRun comp (unitX comp) a.x a.w v.x
  let yr := readRun comp (unitY ctx.c420 comp) a.y a.h v.y
  (List.range yr.2).flatMap fun (j : Nat) => (List.range xr.2).map fun (i : Nat) =>
    e.ref r comp (clampTo (gridW comp ctx.width) (xr.1 + i)) (clampTo (gridH ctx.c420 comp ctx.height) (yr.1 + j))

/-- One direction of a prediction. -/
def CodeEnv.oneWay (e : CodeEnv) (ctx : CodeCtx) (comp : Nat) (a : Area) (m : Nat × Mv) : List Int :=
  Config.interpolate ctx comp (a.w, a.h) (fraction (unitX comp) m.2.x, fraction (unitY ctx.c420 comp) m.2.y) (e.reads ctx comp a m.1 m.2)

/-- Inter prediction of an area of a component's grid. -/
def CodeEnv.interBlock (e : CodeEnv) (ctx : CodeCtx) (comp : Nat) (a : Area) (m : Motion) : List Nat :=
  Config.combine ctx ((m.l0.toList ++ m.l1.toList).map (e.oneWay ctx comp a))

/-! ## Motion constraints (R180, R184, R232) -/

/-- The integer part of a vector lies within ±512 and ±128 (R184). -/
def Mv.inRange (v : Mv) : Bool := decide (-512 ≤ v.x / 4) && decide (v.x / 4 ≤ 512) && decide (-128 ≤ v.y / 4) && decide (v.y / 4 ≤ 128)

/-- First and last sample of a run, in luma: a chroma column counts as two luma columns (R180). -/
def lumaRun (comp unit p n size : Nat) (wide : Bool) (v : Int) : Nat × Nat :=
  let r := readRun comp unit p n v
  let a := clampTo size r.1
  let b := clampTo size (r.1 + r.2 - 1)
  if wide then (2 * a, 2 * b + 1) else (a, b)

/-- Luma columns, and luma lines, that a prediction of an area with vector `v` reads: first and last (R180). -/
def readColumns (ctx : CodeCtx) (a : Area) (v : Mv) : Nat × Nat :=
  let y := lumaRun 0 4 a.x a.w ctx.width false v.x
  let c := lumaRun 1 8 (a.x / 2) (a.w / 2) (ctx.width / 2) true v.x
  (min y.1 c.1, max y.2 c.2)
def readLines (ctx : CodeCtx) (a : Area) (v : Mv) : Nat × Nat :=
  let y := lumaRun 0 4 a.y a.h ctx.height false v.y
  let c := lumaRun 1 (unitY ctx.c420 1) (gridH ctx.c420 1 a.y) (gridH ctx.c420 1 a.h) (gridH ctx.c420 1 ctx.height) ctx.c420 v.y
  (min y.1 c.1, max y.2 c.2)

/-- A reference may be read so by a CU of the clean area (R180). -/
def RefLimit.allows (l : RefLimit) (last : Nat) : Bool :=
  match l with
  | .free => true
  | .below x => decide (last < x)
  | .never => false

/-- The motion of an area meets every motion constraint (R180, R184). -/
def CodeEnv.allows (e : CodeEnv) (ctx : CodeCtx) (a : Area) (m : Motion) : Bool :=
  (m.l0.toList ++ m.l1.toList).all fun v =>
    v.2.inRange && decide (v.1 < ctx.refs.length) && (!e.clean || (e.limit v.1).allows (readColumns ctx a v.2).2)

/-- A prediction reads a sample of a poisoned CTU (R232). -/
def CodeEnv.readsPoison (e : CodeEnv) (ctx : CodeCtx) (a : Area) (m : Motion) : Bool :=
  (m.l0.toList ++ m.l1.toList).any fun v =>
    let xs := readColumns ctx a v.2
    let ys := readLines ctx a v.2
    (e.poisoned v.1).any fun q => decide (xs.1 / 64 ≤ q % ctx.nRow) && decide (q % ctx.nRow ≤ xs.2 / 64) &&
      decide (ys.1 / 64 ≤ q / ctx.nRow) && decide (q / ctx.nRow ≤ ys.2 / 64)

/-! ## Multipliers and the vector cost (R185, R186) -/

/-- isqrt: the largest s with s × s ≤ x, for x below 2^64 (R186). -/
def isqrt (x : Nat) : Nat := (List.range 32).foldl (fun r i => let t := r + 2 ^ (31 - i); if t * t ≤ x then t else r) 0

/-- lam_q8 (R186). -/
def lamQ8 (qp : Nat) : Nat := [2335, 2942, 3706].getD (qp % 3) 0 * 2 ^ (qp / 3) / 256

/-- lam_satd_q8 (R186). -/
def lamSatdQ8 (qp : Nat) : Nat := isqrt (lamQ8 qp * 256)

/-- mvr16 of a vector (R185). -/
def mvr16 (v : Mv) : Nat := 16 * ((2 * bitlen v.x.natAbs + 1) + (2 * bitlen v.y.natAbs + 1))

/-- The vector term of a search cost (R185). -/
def vecCost (qp : Nat) (v : Mv) : Nat := lamSatdQ8 qp * mvr16 v / 4096

/-- A vector of least cost; equal costs by the order of better() (R150, R185). -/
def bestVector (cost : Mv → Nat) : List Mv → Option (Mv × Nat)
  | [] => none
  | v :: vs => match bestVector cost vs with
    | none => some (v, cost v)
    | some b => some (if cost v < b.2 ∨ (cost v = b.2 ∧ betterVec v.x v.y b.1.x b.1.y) then (v, cost v) else b)

/-! ## Coarse and fine stages on the search proxy (R185, R233, R235) -/

/-- SAD of a 16×16 block of proxies at an integer vector. -/
def CodeEnv.sad16 (e : CodeEnv) (ctx : CodeCtx) (r : Nat) (b : Area) (v : Mv) : Nat :=
  b.cells.foldl (fun a p =>
    a + absDiff (e.srcProxy p.1 p.2) (e.refProxy r (clampTo ctx.width (p.1 + v.x / 4)) (clampTo ctx.height (p.2 + v.y / 4)))) 0

/-- Cost of a square block of 16, 32 or 64: the sum of the costs of its 16×16 blocks, each its SAD and the vector term (R185; log entry
271). -/
def CodeEnv.blockCost (e : CodeEnv) (ctx : CodeCtx) (r : Nat) (a : Area) (v : Mv) : Nat :=
  (a.tiles 16).foldl (fun t b => t + (e.sad16 ctx r b v + vecCost ctx.qp v)) 0

/-- The 4-sample grid over the full range: 257 × 65 positions (R185). -/
def coarseGrid : List Mv :=
  (List.range 65).flatMap fun (j : Nat) => (List.range 257).map fun (i : Nat) => ⟨16 * ((i : Int) - 128), 16 * ((j : Int) - 32)⟩

/-- The 48 integer positions within ±3 of a position, that position left out (R185), within the range of R184. -/
def fineGrid (v : Mv) : List Mv :=
  (((List.range 49).filter (· ≠ 24)).map fun (i : Nat) => (⟨v.x + 4 * (((i % 7 : Nat) : Int) - 3), v.y + 4 * (((i / 7 : Nat) : Int) - 3)⟩ : Mv)).filter
    Mv.inRange

/-- The best integer vector of a square block: coarse stage, then fine stage (R185). -/
def CodeEnv.integerVector (e : CodeEnv) (ctx : CodeCtx) (r : Nat) (a : Area) : Mv :=
  let cost := e.blockCost ctx r a
  match bestVector cost coarseGrid with
  | none => ⟨0, 0⟩
  | some b => match bestVector cost (b.1 :: fineGrid b.1) with
    | none => b.1
    | some f => f.1

/-! ## Fractional refinement on the true reference (R185) -/

/-- Sign of entry (i, j) of the 8-point Hadamard matrix. -/
def hadamard (i j : Nat) : Int := if (i % 2 * (j % 2) + i / 2 % 2 * (j / 2 % 2) + i / 4 % 2 * (j / 4 % 2)) % 2 = 0 then 1 else -1

/-- Sum of the absolute values of the 8×8 Hadamard transform of 64 differences. -/
def hadamardSum (d : List Int) : Nat :=
  (List.range 64).foldl (fun t uv =>
    t + ((List.range 64).foldl (fun a xy => a + hadamard (uv % 8) (xy % 8) * hadamard (uv / 8) (xy / 8) * d.getD xy 0) (0 : Int)).natAbs) 0

/-- 8×8 Hadamard SATD of luma of an area against a prediction of it in raster order (R185). -/
def CodeEnv.satd (e : CodeEnv) (a : Area) (pred : List Nat) : Nat :=
  (a.tiles 8).foldl (fun t b =>
    t + Config.satdOf (hadamardSum (b.cells.map fun p =>
      ((e.src 0 p.1 p.2 : Nat) : Int) - ((pred.getD ((p.2 - a.y) * a.w + (p.1 - a.x)) 0 : Nat) : Int)))) 0

/-- Cost of a vector on the true reference (R185). -/
def CodeEnv.fracCost (e : CodeEnv) (ctx : CodeCtx) (r : Nat) (a : Area) (v : Mv) : Nat :=
  e.satd a (e.interBlock ctx 0 a ⟨some (r, v), none⟩) + vecCost ctx.qp v

/-- A position and the eight around it at a distance in quarter samples, within the range of R184. -/
def ringOf (v : Mv) (d : Int) : List Mv :=
  ((List.range 9).map fun (i : Nat) => (⟨v.x + d * (((i % 3 : Nat) : Int) - 1), v.y + d * (((i / 3 : Nat) : Int) - 1)⟩ : Mv)).filter Mv.inRange

/-- Half-sample, then quarter-sample positions around a vector (R185); answers the vector and its cost. -/
def CodeEnv.refine (e : CodeEnv) (ctx : CodeCtx) (r : Nat) (a : Area) (v : Mv) : Mv × Nat :=
  let cost := e.fracCost ctx r a
  let half := (bestVector cost (ringOf v 2)).getD (v, cost v)
  (bestVector cost (ringOf half.1 1)).getD half

/-- The vector of a square block of 16, 32 or 64 (R185). -/
def CodeEnv.squareVector (e : CodeEnv) (ctx : CodeCtx) (r : Nat) (a : Area) : Mv × Nat := e.refine ctx r a (e.integerVector ctx r a)

/-- The square block of a size that holds the top-left sample of an area. -/
def Area.square (a : Area) (n : Nat) : Area := ⟨a.x / n * n, a.y / n * n, n, n⟩

/-- The vector that an AMVP option of a CU takes for reference `r`, and its cost (R185). A half of a binary split takes the better of the
square block it lies in and the 16×16 block at its top-left, judged by the cost of the half itself, and refines it (log entry 272). The
spec names none for an 8×8 block (log entry 273). -/
def CodeEnv.vector (e : CodeEnv) (ctx : CodeCtx) (r : Nat) (a : Area) : Mv × Nat :=
  if a.w = 8 ∧ a.h = 8 then
    let v := Config.vector8 r a ([16, 32, 64].map fun n => (e.squareVector ctx r (a.square n)).1)
    (v, e.fracCost ctx r a v)
  else if a.w = a.h then e.squareVector ctx r a
  else
    let outer := (e.squareVector ctx r (a.square (max a.w a.h))).1
    let inner := (e.squareVector ctx r (a.square 16)).1
    let best := (bestVector (e.fracCost ctx r a) [outer, inner]).getD (outer, 0)
    e.refine ctx r a best.1

end Sys2Proof.Machine
end

