-- ==== Sys2Proof/Machine/Decide.lean ====
section
/-! DEFINITION. How a CTU is coded (spec/07, R175, R176, R179 to R181, R186 to R190): quantisation with sign data hiding, the estimate of bits,
the coding of a CU, the top-down decision, and the floor CTU. -/

namespace Sys2Proof.Machine

/-! ## The estimate of bits (R187) -/

/-- cost16[idx] = round(−16 × log2((2 × idx + 1) / 256)) (R187). -/
def cost16 (idx : Nat) : Nat := 128 - (Nat.log2 ((2 * idx + 1) ^ 32) + 1) / 2

/-- The 15-bit probability of the value of a context-coded bin (R187). -/
def binProb (codec : Nat) (st : Nat × Nat) (v : Bool) : Nat :=
  if codec = 0 then
    let p := (st.1 * 16 + st.2) / 2
    if v then p else 32768 - p
  else
    let lps := Config.rangeTabLps0 st.1 * 32768 / 288
    if v = decide (st.2 = 1) then 32768 - lps else lps

/-- Cost of a bin in 1/16 bit with the context states of the start of the CTU; terminate bins are not counted (R187). -/
def binCost (codec : Nat) (cs : List (Nat × Nat)) : Bin → Nat
  | .bypass _ => 16
  | .context i v => cost16 (binProb codec (cs.getD i (0, 0)) v / 256)
  | .terminate _ => 0

/-- r16 of bins (R187). -/
def r16 (ctx : CodeCtx) (bs : List Bin) : Nat := bs.foldl (fun a b => a + binCost ctx.codec ctx.coder.contexts b) 0

/-- The bins of a CU: they follow from the CUs before it, not from samples. -/
def binsOf (ctx : CodeCtx) (cu : Cu) : List Bin := Config.cuBins { ctx with own := { ctx.own with patches := [] } } cu

/-! ## Quantisation and sign data hiding (R188) -/

/-- Sum of squared differences. -/
def sqDiff (xs ys : List Int) : Nat := (xs.zip ys).foldl (fun a p => a + (p.1 - p.2).natAbs ^ 2) 0

/-- A level: the rounding offset is 171/512 of a step for intra and 85/512 for inter CUs (R188). -/
def levelOf (scale shift : Nat) (intra : Bool) (c : Int) : Int :=
  let n : Nat := (c.natAbs * scale + (if intra then 171 else 85) * 2 ^ shift / 512) / 2 ^ shift
  if c < 0 then -(n : Int) else n

/-- A group of levels in scan order hides the sign of its first level: its first and last are more than three apart (log entry 40). -/
def hidesSign (g : List Int) : Bool :=
  match g.findIdx? (· ≠ 0), g.reverse.findIdx? (· ≠ 0) with
  | some a, some b => decide (a + 3 < g.length - 1 - b)
  | _, _ => false

/-- The parity of the level sum gives the hidden sign: even for a positive first level (log entry 40). -/
def signHolds (g : List Int) : Bool :=
  !hidesSign g || match g.find? (· ≠ 0) with
    | some v => decide (0 < v) == decide (g.foldl (fun a l => a + l.natAbs) 0 % 2 = 0)
    | none => true

/-- Where the parity of a group does not match, the change of a level by ±1 that adds the least SSE is made; ties go to the last position in
scan order (R188; log entry 274). -/
def hideGroup (sse : List Int → Nat) (levels : List Int) (group : List Nat) : List Int :=
  let sub (ls : List Int) : List Int := group.map fun p => ls.getD p 0
  if signHolds (sub levels) then levels
  else
    let cands := (group.flatMap fun p => [levels.set p (levels.getD p 0 + 1), levels.set p (levels.getD p 0 - 1)]).filter fun ls => signHolds (sub ls)
    (cands.foldl (fun (b : Option (List Int)) ls => match b with
      | none => some ls
      | some m => if sse ls ≤ sse m then some ls else some m) none).getD levels

/-- The levels of a block's residual (R188). -/
def levelsOf (ctx : CodeCtx) (comp w h : Nat) (pred : CuPred) (intra : Bool) (res : List Int) : List Int :=
  let q := Config.quantScale ctx comp w h
  let ls := (Config.transform ctx comp w h intra res).map (levelOf q.1 q.2 intra)
  (Config.scanGroups ctx comp w h pred).foldl (hideGroup fun l => sqDiff (Config.residual ctx comp w h intra l) res) ls

/-! ## Coding a CU (R167, R168, R189) -/

def CuPred.isIntra : CuPred → Bool
  | .intra _ _ => true
  | _ => false

/-- Transform blocks of a CU in coding order: component and area in its grid; TUs are of CU size, split where 32 forces it, and HEVC codes
4:2:2 chroma in squares (R167). -/
def transformBlocks (ctx : CodeCtx) (a : Area) : List (Nat × Area) :=
  (a.tiles 32).flatMap fun t => (0, t) :: [1, 2].flatMap fun comp =>
    let g := t.grid ctx.c420 comp
    (if ctx.codec = 1 then g.tiles g.w else [g]).map fun b => (comp, b)

/-- The prediction of a transform block. -/
def CodeEnv.predict (e : CodeEnv) (ctx : CodeCtx) (p : CuPred) (comp : Nat) (a : Area) : List Nat :=
  match p with
  | .skip _ m => e.interBlock ctx comp a m
  | .merge _ m => e.interBlock ctx comp a m
  | .amvp m => e.interBlock ctx comp a m
  | .intra luma chroma => Config.intraBlock ctx comp a luma chroma

/-- A reconstructed sample: prediction and residual, clipped to the coded depth. -/
def reconSample (depth p : Nat) (r : Int) : Nat := (clip (p + r) 0 (2 ^ depth - 1)).toNat

/-- Code a transform block, with a residual or without: its levels and its reconstruction. -/
def CodeEnv.codeBlock (e : CodeEnv) (ctx : CodeCtx) (p : CuPred) (resid : Bool) (comp : Nat) (a : Area) : List Int × Patch :=
  let pr := e.predict ctx p comp a
  if resid then
    let res := (a.cells.zip pr).map fun c => ((e.src comp c.1.1 c.1.2 : Nat) : Int) - (c.2 : Int)
    let ls := levelsOf ctx comp a.w a.h p p.isIntra res
    (ls, ⟨comp, a.x, a.y, a.w, a.h, (pr.zip (Config.residual ctx comp a.w a.h p.isIntra ls)).map fun c => reconSample ctx.depth c.1 c.2⟩)
  else ([], ⟨comp, a.x, a.y, a.w, a.h, pr⟩)

/-- A CU of the CTU has sent its cu_qp_delta: the quantisation group is the CTU (R167, R168). -/
def CodeCtx.sentDelta (ctx : CodeCtx) : Bool := ctx.own.cus.any fun u => u.delta.isSome

/-- Code a CU: the context with the CU and its reconstruction. Its QP is the row QP from the first residual of the CTU on, which sends
cu_qp_delta, and the predicted QP before (R168). -/
def CodeEnv.codeCu (e : CodeEnv) (ctx : CodeCtx) (splits : List Nat) (a : Area) (p : CuPred) (resid : Bool) : CodeCtx × Cu :=
  let r := (transformBlocks ctx a).foldl (fun (t : CodeCtx × List (List Int)) b =>
    let q := e.codeBlock t.1 p resid b.1 b.2
    ({ t.1 with own := { t.1.own with patches := q.2 :: t.1.own.patches } }, t.2 ++ [q.1])) (ctx, [])
  let coded := r.2.any fun ls => ls.any (· ≠ 0)
  let delta : Option Int := if coded && !ctx.sentDelta then some ((ctx.qp : Int) - ctx.coder.predQp) else none
  let cu : Cu := ⟨a, splits, p, r.2, if coded || ctx.sentDelta then ctx.qp else ctx.coder.predQp, delta⟩
  ({ r.1 with own := { r.1.own with cus := r.1.own.cus ++ [cu] } }, cu)

/-- The reconstruction of a component at a position among patches, the latest first. -/
def patchSample : List Patch → Nat → Nat → Nat → Nat
  | [], _, _, _ => 0
  | q :: qs, comp, x, y =>
    if q.comp = comp ∧ q.x ≤ x ∧ x < q.x + q.w ∧ q.y ≤ y ∧ y < q.y + q.h then q.samples.getD ((y - q.y) * q.w + (x - q.x)) 0
    else patchSample qs comp x y

/-- Luma and chroma SSE of an area against the source, before the in-loop filters, at coded depth (R186, R189). -/
def CodeEnv.sse (e : CodeEnv) (ctx : CodeCtx) (a : Area) : Nat :=
  [0, 1, 2].foldl (fun t comp => (a.grid ctx.c420 comp).cells.foldl (fun d p =>
    d + absDiff (e.src comp p.1 p.2) (patchSample ctx.own.patches comp p.1 p.2) ^ 2) t) 0

/-- An option: its cost J and the context after it (R186). -/
abbrev Choice := Nat × CodeCtx

/-- J of a CU just coded (R186). -/
def CodeEnv.cuCost (e : CodeEnv) (before : CodeCtx) (r : CodeCtx × Cu) : Nat :=
  4096 * e.sse r.1 r.2.area + lamQ8 before.qp * r16 before (binsOf before r.2)

/-- Evaluate a CU option (R189); a merge with residual has one. -/
def CodeEnv.tryCu (e : CodeEnv) (ctx : CodeCtx) (splits : List Nat) (a : Area) (p : CuPred) (resid : Bool) : Option Choice :=
  let r := e.codeCu ctx splits a p resid
  match p with
  | .merge _ _ => if r.2.levels.any (fun ls => ls.any (· ≠ 0)) then some (e.cuCost ctx r, r.1) else none
  | _ => some (e.cuCost ctx r, r.1)

/-- The option of least J; equal values go to the earlier one (R189). -/
def leastJ : List Choice → Option Choice
  | [] => none
  | c :: cs => match leastJ cs with
    | none => some c
    | some d => some (if c.1 ≤ d.1 then c else d)

/-! ## Inter options (R167, R184, R185, R189) -/

/-- Merge candidates of a CU that meet every motion constraint, with their indices: 6 in VVC, 5 in HEVC (R167, R180, R184). -/
def CodeEnv.merges (e : CodeEnv) (ctx : CodeCtx) (a : Area) : List (Motion × Nat) :=
  (((Config.mergeCands ctx a).take (if ctx.codec = 0 then 6 else 5)).zipIdx).filter fun m => e.allows ctx a m.1

/-- The motion of an AMVP option. -/
def listMotion (second : Bool) (r : Nat) (v : Mv) : Motion := if second then ⟨none, some (r, v)⟩ else ⟨some (r, v), none⟩

/-- AMVP options of a list by reference index: vector and choice (R185, R189). -/
def CodeEnv.amvp (e : CodeEnv) (ctx : CodeCtx) (splits : List Nat) (a : Area) (second : Bool) : List ((Nat × Mv) × Choice) :=
  (List.range ctx.refs.length).filterMap fun r =>
    let v := (e.vector ctx r a).1
    let m := listMotion second r v
    if e.allows ctx a m then (e.tryCu ctx splits a (.amvp m) true).map fun c => ((r, v), c) else none

/-- The best of a list's options: least J, the earlier of equals. -/
def bestAmvp : List ((Nat × Mv) × Choice) → Option ((Nat × Mv) × Choice)
  | [] => none
  | c :: cs => match bestAmvp cs with
    | none => some c
    | some d => some (if c.2.1 ≤ d.2.1 then c else d)

/-- Inter options of a CU in the order of R189: skip, merge with residual, AMVP of list 0 and of list 1, and the pair of the best of each list.
P slices have list 0 alone (R173). -/
def CodeEnv.interOptions (e : CodeEnv) (ctx : CodeCtx) (splits : List Nat) (a : Area) : List Choice :=
  let ms := e.merges ctx a
  let l0 := e.amvp ctx splits a false
  let l1 := if ctx.refs.length < 2 then [] else e.amvp ctx splits a true
  let bi : List Choice := match bestAmvp l0, bestAmvp l1 with
    | some x, some y =>
      let m : Motion := ⟨some x.1, some y.1⟩
      if e.allows ctx a m then (e.tryCu ctx splits a (.amvp m) true).toList else []
    | _, _ => []
  (ms.filterMap fun m => e.tryCu ctx splits a (.skip m.2 m.1) false) ++ (ms.filterMap fun m => e.tryCu ctx splits a (.merge m.2 m.1) true) ++
    l0.map (·.2) ++ l1.map (·.2) ++ bi

/-! ## Intra options (R167, R181, R189) -/

/-- Luma modes of the codec: planar, DC, then angular in ascending number (R167, R189). -/
def lumaModes (codec : Nat) : List Nat := List.range (if codec = 0 then 67 else 35)

/-- The pure horizontal mode. -/
def horizontalMode (codec : Nat) : Nat := if codec = 0 then 18 else 10

/-- The CU may use only DC or pure horizontal prediction (R181). -/
def CodeEnv.restricted (e : CodeEnv) (a : Area) : Bool :=
  match e.edge with
  | some x => decide (x < a.x + 2 * a.w)
  | none => false

/-- Cost of a luma mode in the pre-selection: SATD and bits (R189). -/
def CodeEnv.modeCost (e : CodeEnv) (ctx : CodeCtx) (a : Area) (m : Nat) : Nat :=
  (a.tiles 32).foldl (fun t b => t + e.satd b (Config.intraBlock ctx 0 b m 0)) 0 + lamSatdQ8 ctx.qp * r16 ctx (Config.modeBins ctx a m) / 4096

/-- Luma modes that are evaluated in full: the three of least cost, and planar and DC, in the order of R189; in the column of R181, DC and
horizontal. -/
def CodeEnv.modesTried (e : CodeEnv) (ctx : CodeCtx) (a : Area) : List Nat :=
  if e.restricted a then [1, horizontalMode ctx.codec]
  else
    let three := (((lumaModes ctx.codec).map fun m => (m, e.modeCost ctx a m)).mergeSort fun x y => x.2 ≤ y.2).take 3
    (lumaModes ctx.codec).filter fun m => m ≤ 1 || three.any fun t => t.1 == m

/-- Chroma modes in the order of R189: DM, planar, vertical, horizontal, DC; in the column of R181 those of DC and horizontal prediction. -/
def CodeEnv.chromaTried (e : CodeEnv) (a : Area) : List Nat := if e.restricted a then [0, 3, 4] else [0, 1, 2, 3, 4]

/-- Intra options of a CU in the order of R189. -/
def CodeEnv.intraOptions (e : CodeEnv) (ctx : CodeCtx) (splits : List Nat) (a : Area) : List Choice :=
  (e.modesTried ctx a).flatMap fun l => (e.chromaTried a).filterMap fun ch => e.tryCu ctx splits a (.intra l ch) true

/-! ## The decision (R189, R232) -/

/-- A node coded without a split. Intra alone in an IDR picture, in a refresh band, and where the CTU is affected (R179, R232). -/
def CodeEnv.whole (e : CodeEnv) (ctx : CodeCtx) (splits : List Nat) (a : Area) : Option Choice :=
  leastJ ((if e.intra || e.affected then [] else e.interOptions ctx splits a) ++ e.intraOptions ctx splits a)

/-- Nodes one after another: J is their sum (R189). -/
def chain (f : CodeCtx → Area → Option Choice) : List Area → CodeCtx → Option Choice
  | [], ctx => some (0, ctx)
  | a :: as, ctx => match f ctx a with
    | none => none
    | some c => (chain f as c.2).map fun d => (c.1 + d.1, d.2)

/-- Quarters of a node in coding order, and the halves of a horizontal and of a vertical binary split. -/
def quarters (a : Area) : List Area := a.tiles (a.w / 2)
def halvesH (a : Area) : List Area := [⟨a.x, a.y, a.w, a.h / 2⟩, ⟨a.x, a.y + a.h / 2, a.w, a.h / 2⟩]
def halvesV (a : Area) : List Area := [⟨a.x, a.y, a.w / 2, a.h⟩, ⟨a.x + a.w / 2, a.y, a.w / 2, a.h⟩]

/-- The decision of a node of 8 × 2^n samples: no split, quadtree, binary horizontal, binary vertical; binary splits are of 32×32 and 16×16
nodes in VVC (R167, R189). -/
def CodeEnv.node (e : CodeEnv) : Nat → CodeCtx → List Nat → Area → Option Choice
  | 0, ctx, sp, a => e.whole ctx sp a
  | n + 1, ctx, sp, a =>
    let bin (k : Nat) (hs : List Area) : List Choice :=
      if ctx.codec = 0 ∧ (a.w = 32 ∨ a.w = 16) then (chain (fun t b => e.whole t (sp ++ [k]) b) hs ctx).toList else []
    leastJ ((e.whole ctx sp a).toList ++ (chain (fun t b => CodeEnv.node e n t (sp ++ [1]) b) (quarters a) ctx).toList ++
      bin 2 (halvesH a) ++ bin 3 (halvesV a))

/-- The area of the CTU of a context. -/
def CodeCtx.area (ctx : CodeCtx) : Area := ⟨64 * ctx.cx, 64 * ctx.cy, 64, 64⟩

/-! ## The floor CTU (R175, R176, R232) -/

/-- The motion of a floor CTU, and whether it reads poisoned samples: the lowest merge index that meets every motion constraint, of an
affected CTU one that reads no poisoned CTU if there is one; in a skip picture the zero vector to reference 0 (R175, R176, R232). -/
def CodeEnv.floorMotion (e : CodeEnv) (ctx : CodeCtx) : Option (Motion × Nat × Bool) :=
  if ctx.kind = 4 then some (⟨some (0, ⟨0, 0⟩), none⟩, 0, false)
  else if e.intra then none
  else
    let ms := e.merges ctx ctx.area
    match ms.find? fun m => !e.affected || !e.readsPoison ctx ctx.area m.1 with
    | some m => some (m.1, m.2, false)
    | none => ms.head?.map fun m => (m.1, m.2, true)

/-- A floor CTU: one 64×64 CU with no residual, skip or intra DC with chroma DM; answers the context and whether it drifts (R176, R232). -/
def CodeEnv.floorCtu (e : CodeEnv) (ctx : CodeCtx) : CodeCtx × Bool :=
  match e.floorMotion ctx with
  | some m => ((e.codeCu ctx [] ctx.area (.skip m.2.1 m.1) false).1, m.2.2)
  | none => ((e.codeCu ctx [] ctx.area (.intra 1 0) false).1, false)

/-- A CTU coded in full (R189). -/
def CodeEnv.fullCtu (e : CodeEnv) (ctx : CodeCtx) : CodeCtx := ((e.node 3 ctx [] ctx.area).getD (0, (e.floorCtu ctx).1)).2

end Sys2Proof.Machine
end

