-- ==== Sys2Proof/Machine/Code.lean ====
section
/-! DEFINITION. A CTU on its chamber (spec/07, R165, R169, R173, R180, R181, R189; spec/06, R140, R153; spec/09, R229, R232): its context, what it reads
of the source and of the reference window, SAO, its bits, the samples that become final, what is measured of a row, and the picture
hash. -/

namespace Sys2Proof.Machine

/-! ## Reference samples (R165, R231, R236) -/

/-- The sample of component `comp` at (x, y) of a CTU among its blocks of 128 samples (R216). -/
def blockSample (c420 : Bool) (bs : Nat → List Nat) (comp x y : Nat) : Nat :=
  if comp = 0 then (bs (y % 64 / 8 * 4 + x % 64 / 16)).getD (y % 8 * 16 + x % 16) 512
  else (bs (32 + y % (gridH c420 1 64) / 8 * 4 + x % 32 / 8)).getD (64 * (comp - 1) + y % 8 * 8 + x % 8) 512

/-- CTU index of a position of a component's grid. -/
def ctuAt (c420 : Bool) (nRow comp x y : Nat) : Nat := y / gridH c420 comp 64 * nRow + x / gridW comp 64

/-- A sample of reference buffer `i` as the window of a picture holds it; 512 throughout a CTU whose map cannot be used (R231). -/
def PicRec.refSample (x : PicRec) (g : ChanGeo) (i comp px py : Nat) : Nat :=
  let w := x.winOf i (ctuAt g.c420 g.nRow comp px py)
  if w.lost then 512 else blockSample g.c420 (fun b => Tab.get [] w.blocks b) comp px py

/-- A sample of the proxy of reference buffer `i`: 0 in a sector that memory lost (R217, R236). -/
def State.refProxy (s : State) (c : Nat) (x : PicRec) (i px py : Nat) : Nat :=
  let t := py / 64 * (s.geo c).nRow + px / 64
  if x.lostProxy.contains (i, t, py % 64) then 0 else (s.byte (s.proxyAddr c i t + py % 64 * 64 + px % 64)).toNat

/-! ## The context and what is read (R164, R165, R173, R180, R181) -/

/-- Coded bit depth of a channel (R164). -/
def State.depth (s : State) (c : Nat) : Nat := codedDepth (s.codec c) (s.act (pCHAN c) F.CHAN.CODEC_CFG_PROFILE)

/-- A 10-bit sample at coded depth: the conversion of HEVC Main at the chamber input (R165). -/
def toDepth (depth v : Nat) : Nat := if depth = 8 then toEightBit v else v

/-- A reconstructed sample as the pool holds it, 10 bits, and back (R165). -/
def toPool (depth v : Nat) : Nat := if depth = 8 then 4 * v else v
def ofPool (depth v : Nat) : Nat := if depth = 8 then v / 4 else v

/-- A sample of the scaled source of a picture, 10 bits (R143). -/
def PicRec.srcSample (x : PicRec) (comp px py : Nat) : Nat := (Tab.get [] x.src (planeKey comp py)).getD px (if comp = 0 then 64 else 512)

/-- CTUs that precede a CTU and lie beside it: its row up to it, and in the row above up to the one right of it (R139). -/
def PicRec.around (x : PicRec) (nRow cx cy : Nat) : List (Nat × CtuRec) :=
  x.ctus.filter fun e => (e.1 / nRow == cy && decide (e.1 % nRow < cx)) ||
    (decide (0 < cy) && e.1 / nRow == cy - 1 && decide (cx ≤ e.1 % nRow + 1) && decide (e.1 % nRow ≤ cx + 1))

/-- The context of a CTU. -/
def State.codeCtx (s : State) (c : Nat) (x : PicRec) (qp : Nat) (coder : Coder) (cx cy : Nat) : CodeCtx :=
  let g := s.geo c
  { codec := s.codec c, depth := s.depth c, c420 := g.c420, width := 64 * g.nRow, height := 64 * g.rRows,
    rowSlices := s.act (pCHAN c) F.CHAN.CODEC_CFG_SLICE_MODE == 1, kind := x.kind, poc := x.poc, refs := (s.formOf c x).refs, qp := qp,
    cx := cx, cy := cy, nRow := g.nRow, coder := coder, ctus := x.around g.nRow cx cy, own := .reset }

/-- What a CU of the clean area may read of the picture in buffer `i`: nothing of a picture before wave picture 0, columns below X_lim(j) of
wave picture j, and all of a picture after the wave (R180). -/
def State.refLimit (s : State) (c : Nat) (x : PicRec) (i : Nat) : RefLimit :=
  let b := ((s.chanOf c).bufs[i]?).getD .reset
  if b.n < x.origin then .never
  else if b.kind = 1 ∨ b.kind = 2 then
    match xLimit (s.geo c).nRow b.g b.wave with
    | some l => .below l
    | none => .free
  else .free

/-- Column `cx` lies in the refresh band of a wave picture (R179). -/
def PicRec.inBand (x : PicRec) (nRow cx : Nat) : Bool :=
  (x.kind == 1 || x.kind == 2) && decide (bandStart nRow x.g x.wave ≤ cx) && decide (cx < bandEnd nRow x.g x.wave)

/-- Column `cx` lies in the clean area: left of the band of a wave picture, or anywhere after the wave until the next refresh point
(R179, R180). -/
def PicRec.inClean (x : PicRec) (nRow cx : Nat) : Bool :=
  ((x.kind == 1 || x.kind == 2) && decide (cx < bandStart nRow x.g x.wave)) || (x.kind == 3 && x.clean)

/-- What the coding of CTU (cx, cy) of a picture reads; `affected` was fixed when the CTU began (R232). -/
def State.codeEnv (s : State) (c : Nat) (x : PicRec) (cx : Nat) (affected : Bool) : CodeEnv :=
  let g := s.geo c
  let d := s.depth c
  let buf (r : Nat) : Nat := x.refs.getD r 0
  let last := bandEnd g.nRow x.g x.wave
  { src := fun comp px py => toDepth d (x.srcSample comp px py)
    srcProxy := fun px py => toEightBit (x.srcSample 0 px py)
    ref := fun r comp px py => ofPool d (x.refSample g (buf r) comp px py)
    refProxy := fun r px py => s.refProxy c x (buf r) px py
    clean := x.inClean g.nRow cx
    limit := fun r => s.refLimit c x (buf r)
    poisoned := fun r => (((s.chanOf c).bufs[buf r]?).getD .reset).poisoned
    affected := affected
    intra := x.kind == 0 || x.inBand g.nRow cx
    edge := if x.inBand g.nRow cx && cx + 1 == last && decide (last < g.nRow) then some (64 * last) else none }

/-! ## SAO (R167, R189) -/

/-- Neighbours of a sample on an edge class: 0 horizontal, 1 vertical, 2 and 3 diagonal (log entry 40). -/
def edgeStep (cls : Nat) : Int × Int := match cls with | 0 => (1, 0) | 1 => (0, 1) | 2 => (1, 1) | _ => (-1, 1)

/-- Sign of a − b. -/
def signOf (a b : Nat) : Int := if a < b then -1 else if b < a then 1 else 0

/-- The category of a sample, 1 to 4, or 0 for none: four bands from the position, or the form of the edge; an edge sample with a neighbour
outside the picture has none (log entry 40). -/
def saoCategory (depth w h : Nat) (p : SaoComp) (deb : Nat → Nat → Nat) (x y : Nat) : Nat :=
  match p with
  | .off => 0
  | .band pos _ => let k := (deb x y / 2 ^ (depth - 5) + 32 - pos) % 32; if k < 4 then k + 1 else 0
  | .edge cls _ =>
    let d := edgeStep cls
    let inside (u v : Int) : Bool := decide (0 ≤ u) && decide (u < w) && decide (0 ≤ v) && decide (v < h)
    let a : Int × Int := ((x : Int) - d.1, (y : Int) - d.2)
    let b : Int × Int := ((x : Int) + d.1, (y : Int) + d.2)
    if inside a.1 a.2 && inside b.1 b.2 then
      match signOf (deb x y) (deb a.1.toNat a.2.toNat) + signOf (deb x y) (deb b.1.toNat b.2.toNat) with
      | -2 => 1
      | -1 => 2
      | 1 => 3
      | 2 => 4
      | _ => 0
    else 0

/-- Offsets of a component's SAO. -/
def SaoComp.offs : SaoComp → List Int
  | .off => []
  | .band _ o => o
  | .edge _ o => o

/-- A sample after SAO. -/
def saoSample (depth w h : Nat) (p : SaoComp) (deb : Nat → Nat → Nat) (x y : Nat) : Nat :=
  match saoCategory depth w h p deb x y with
  | 0 => deb x y
  | k + 1 => (clip ((deb x y : Nat) + p.offs.getD k 0) 0 (2 ^ depth - 1)).toNat

/-- The rounded mean of a sum over `n` samples; a half may go either way (R189). -/
def roundedMean (sum : Int) (n : Nat) : Int :=
  if n = 0 then 0
  else
    let q := sum / n
    let r := (sum % n).toNat
    if 2 * r < n then q else if 2 * r > n then q + 1 else if Config.meanUp sum n then q + 1 else q

/-- The range of an offset of category `k` (log entry 40). -/
def saoRange (depth : Nat) (p : SaoComp) (k : Nat) : Int × Int :=
  let m : Int := (2 ^ (min depth 10 - 5) - 1 : Nat)
  match p with
  | .edge _ _ => if k < 2 then (0, m) else (-m, 0)
  | _ => (-m, m)

/-- The offsets of a form of SAO: the rounded mean error of each category, clipped to the standard's range (R189). -/
def saoOffsets (depth w h : Nat) (p : SaoComp) (deb src : Nat → Nat → Nat) (cells : List (Nat × Nat)) : List Int :=
  (List.range 4).map fun k =>
    let es := (cells.filter fun q => saoCategory depth w h p deb q.1 q.2 == k + 1).map fun q => ((src q.1 q.2 : Nat) : Int) - (deb q.1 q.2 : Nat)
    let r := saoRange depth p k
    clip (roundedMean (es.foldl (· + ·) 0) es.length) r.1 r.2

/-- The form with its offsets. -/
def SaoComp.withOffs (p : SaoComp) (o : List Int) : SaoComp :=
  match p with
  | .off => .off
  | .band pos _ => .band pos o
  | .edge cls _ => .edge cls o

/-- Forms of SAO in the order of R189: off, bands by position, edges by class. -/
def saoForms : List SaoComp := .off :: ((List.range 32).map fun i => .band i []) ++ (List.range 4).map fun i => .edge i []

/-- Two forms of the chroma components go together: the components share the kind and the class (log entry 40). -/
def SaoComp.pairs : SaoComp → SaoComp → Bool
  | .off, .off => true
  | .band _ _, .band _ _ => true
  | .edge a _, .edge b _ => a == b
  | _, _ => false

/-- SAO of a component of a CTU. -/
def Sao.comp (p : Sao) (comp : Nat) : SaoComp := match comp with | 0 => p.y | 1 => p.cb | _ => p.cr

/-- Squared error of a component of the CTU after deblocking and SAO (R189). -/
def CodeEnv.saoError (e : CodeEnv) (ctx : CodeCtx) (comp : Nat) (p : SaoComp) : Nat :=
  (ctx.area.grid ctx.c420 comp).cells.foldl (fun d q =>
    d + absDiff (e.src comp q.1 q.2) (saoSample ctx.depth (gridW comp ctx.width) (gridH ctx.c420 comp ctx.height) p
      (fun a b => Config.deblock ctx comp (a, b)) q.1 q.2) ^ 2) 0

/-- J of SAO parameters of a CTU (R186, R189). -/
def CodeEnv.saoCost (e : CodeEnv) (ctx : CodeCtx) (p : Sao) : Nat :=
  4096 * [0, 1, 2].foldl (fun a comp => a + e.saoError ctx comp (p.comp comp)) 0 + lamQ8 ctx.qp * r16 ctx (Config.saoBins ctx p)

/-- Parameters of least J; equal values go to the earlier. -/
def CodeEnv.leastSao (e : CodeEnv) (ctx : CodeCtx) : List Sao → Option Sao
  | [] => none
  | p :: ps => match e.leastSao ctx ps with
    | none => some p
    | some q => some (if e.saoCost ctx p ≤ e.saoCost ctx q then p else q)

/-- A form for a component with the offsets that the CTU gives it. -/
def CodeEnv.formed (e : CodeEnv) (ctx : CodeCtx) (comp : Nat) (f : SaoComp) : SaoComp :=
  f.withOffs (saoOffsets ctx.depth (gridW comp ctx.width) (gridH ctx.c420 comp ctx.height) f (fun a b => Config.deblock ctx comp (a, b)) (e.src comp)
    (ctx.area.grid ctx.c420 comp).cells)

/-- New parameters: luma, then Cb, then Cr with the kind of Cb, each by least J (R189; log entry 275). -/
def CodeEnv.newSao (e : CodeEnv) (ctx : CodeCtx) : Sao :=
  let y := (e.leastSao ctx (saoForms.map fun f => { Sao.none with y := e.formed ctx 0 f })).getD .none
  let both (cb : SaoComp) : List Sao := (saoForms.filter cb.pairs).map fun f => { y with cb := cb, cr := e.formed ctx 2 f }
  (e.leastSao ctx (saoForms.filterMap fun f => e.leastSao ctx (both (e.formed ctx 1 f)))).getD y

/-- SAO of a CTU coded in full: merged left, merged up, or new, by least J, in that order at equal J; slices of one row merge left only
(R169, R189). -/
def CodeEnv.decideSao (e : CodeEnv) (ctx : CodeCtx) : Sao :=
  let t := ctx.cy * ctx.nRow + ctx.cx
  let of (q : Nat) : Sao := ((ctx.ctus.find? fun z => z.1 == q).map fun z => z.2.sao).getD .none
  let left := if ctx.cx = 0 then [] else [{ of (t - 1) with merge := 1 }]
  let up := if ctx.cy = 0 ∨ ctx.rowSlices then [] else [{ of (t - ctx.nRow) with merge := 2 }]
  (e.leastSao ctx (left ++ up ++ [e.newSao ctx])).getD .none

/-! ## Bits (R140, R169, R171, R205) -/

/-- Whole octets of a string of bits, the first bit most significant, and the bits left over. -/
def bitOctets : Nat → List Bool → List Byte × List Bool
  | 0, bs => ([], bs)
  | fuel + 1, bs =>
    if bs.length < 8 then ([], bs)
    else
      let r := bitOctets fuel (bs.drop 8)
      (BitVec.ofNat 8 ((bs.take 8).foldl (fun a b => 2 * a + b.toNat) 0) :: r.1, r.2)

/-- Zero octets at the end of a string of octets, `z` before it. -/
def zerosAfter (z : Nat) (bs : List Byte) : Nat := bs.foldl (fun n b => if b = 0 then n + 1 else 0) z

/-- Octets with emulation prevention, and the zeros then just written. -/
def escape (z : Nat) (bs : List Byte) : List Byte × Nat :=
  let out := emulate z bs
  (out, zerosAfter z out)

/-- The coder takes bins: the octets written and the coder after (R140). -/
def Coder.take (k : Coder) (codec : Nat) (bins : List Bin) (predQp : Nat) : List Byte × Coder :=
  let r := Config.encode codec k.contexts k.arith bins
  let bs := bitOctets (k.bits ++ r.2.2).length (k.bits ++ r.2.2)
  let o := escape k.zeros bs.1
  (o.1, ⟨r.1, r.2.1, bs.2, o.2, predQp⟩)

/-- Bits held in the arithmetic coder, outstanding bits and those of an octet not yet whole included (R205). -/
def Coder.held (k : Coder) (codec : Nat) : Nat := Config.arithHeld codec k.arith + k.bits.length

/-- The end of a row's substream: the coder is flushed, and a 1 bit with zeros after it completes the last octet (R169, R171). -/
def Coder.finish (k : Coder) (codec : Nat) : List Byte :=
  let bits := k.bits ++ Config.flush codec k.arith ++ [true]
  let pad := (8 - bits.length % 8) % 8
  emulate k.zeros (bitOctets (bits.length + pad) (bits ++ List.replicate pad false)).1

/-- The coder at the start of row `k`: fresh, with the contexts stored in the row above under WPP; its predicted QP is that of the slice
(R168, R169). -/
def State.rowCoder (s : State) (c : Nat) (x : PicRec) (k : Nat) : Coder :=
  let codec := s.codec c
  let qp := Config.sliceQp codec
  let sync := k != 0 && s.act (pCHAN c) F.CHAN.CODEC_CFG_SLICE_MODE == 0
  ⟨if sync then (Tab.get RowRec.reset x.rows (k - 1)).wpp else Config.initContexts codec x.kind qp, Config.arithStart codec, [], 0, qp⟩

/-- CTUs of a row after which its contexts are stored for the row below: one in VVC, two in HEVC (log entry 40). -/
def wppAfter (codec : Nat) : Nat := if codec = 0 then 1 else 2

/-! ## A CTU coded (R138, R189, R205) -/

/-- What the coding of a CTU gives: its record, the coder after it, the octets written, the bits then held, and whether it was
reconstructed from poisoned samples (R232). -/
structure CtuCode where
  ctu : CtuRec
  coder : Coder
  bytes : List Byte
  held : Nat
  drift : Bool
deriving DecidableEq, Repr

/-- The bins of a CTU: SAO, its CUs in order, and what follows the last (R187, R189). -/
def ctuBins (ctx : CodeCtx) (r : CtuRec) (lastInRow lastInPic : Bool) : List Bin :=
  (if ctx.kind = 4 then [] else Config.saoBins { ctx with own := .reset } r.sao) ++
    (r.cus.foldl (fun (t : List Cu × List Bin) u =>
      (t.1 ++ [u], t.2 ++ binsOf { ctx with own := ⟨t.1, [], .none⟩ } u)) ([], [])).2 ++ Config.tailBins ctx lastInRow lastInPic

/-- The CTU is written: its bins go to the coder (R140, R205). -/
def writeCtuBits (ctx : CodeCtx) (r : CtuRec) (rRows : Nat) (drift : Bool) : CtuCode :=
  let lastInRow := ctx.cx + 1 == ctx.nRow
  let qp := if r.cus.any fun u => u.delta.isSome then ctx.qp else ctx.coder.predQp
  let o := ctx.coder.take ctx.codec (ctuBins ctx r lastInRow (lastInRow && ctx.cy + 1 == rRows)) qp
  ⟨r, o.2, o.1, o.2.held ctx.codec, drift⟩

/-- The CTU coded in full: the decisions of R189, then SAO. -/
def CodeEnv.codeFull (e : CodeEnv) (ctx : CodeCtx) (rRows : Nat) : CtuCode :=
  let r := (e.fullCtu ctx).own
  writeCtuBits ctx { r with sao := e.decideSao { ctx with own := r } } rRows false

/-- The CTU coded as a floor CTU (R176). -/
def CodeEnv.codeFloor (e : CodeEnv) (ctx : CodeCtx) (rRows : Nat) : CtuCode :=
  let r := e.floorCtu ctx
  writeCtuBits ctx r.1.own rRows r.2

/-! ## Final samples (R153, R190, R229) -/

/-- The context of the in-loop filters of a CTU: the CTUs around it in rows up to `lastRow`. -/
def State.filterCtx (s : State) (c : Nat) (x : PicRec) (cx cy lastRow : Nat) : CodeCtx :=
  let nRow := (s.geo c).nRow
  { s.codeCtx c x 0 .reset cx cy with
    ctus := x.ctus.filter fun e => decide (cx ≤ e.1 % nRow + 1) && decide (e.1 % nRow ≤ cx + 1) && decide (cy ≤ e.1 / nRow + 1) &&
      decide (e.1 / nRow ≤ min lastRow (cy + 1)) && e.1 != cy * nRow + cx
    own := Tab.get .reset x.ctus (cy * nRow + cx) }

/-- A reconstructed sample of a CTU at coded depth after every in-loop filter. No block edge of a skip picture is filtered, and its SAO is
off (R175). -/
def filtered (ctx : CodeCtx) (comp px py : Nat) : Nat :=
  if ctx.kind = 4 then patchSample ctx.own.patches comp px py
  else saoSample ctx.depth (gridW comp ctx.width) (gridH ctx.c420 comp ctx.height) (ctx.own.sao.comp comp)
    (fun a b => Config.deblock ctx comp (a, b)) px py

/-- The blocks of a CTU in the order of R216, from its samples. -/
def ctuBlocks (c420 : Bool) (cx cy : Nat) (f : Nat → Nat → Nat → Nat) : List (List Nat) :=
  ((List.range 32).map fun b => (Area.mk (64 * cx + b % 4 * 16) (64 * cy + b / 4 * 8) 16 8).cells.map fun p => f 0 p.1 p.2) ++
    (List.range (if c420 then 16 else 32)).map fun b =>
      [1, 2].flatMap fun comp => (Area.mk (32 * cx + b % 4 * 8) (gridH c420 1 64 * cy + b / 4 * 8) 8 8).cells.map fun p => f comp p.1 p.2

/-- CTUs whose samples become final when CTU (cx, cy) has been coded: filtering reaches into the CTUs right of it and below (R223, R229). -/
def finalAfter (nRow rRows cx cy : Nat) : List (Nat × Nat) :=
  let inRow (y : Nat) : List (Nat × Nat) := (if cx = 0 then [] else [(cx - 1, y)]) ++ if cx + 1 = nRow then [(cx, y)] else []
  (if cy = 0 then [] else inRow (cy - 1)) ++ if cy + 1 = rRows then inRow cy else []

/-- The blocks of final CTU (cx, cy), samples of 10 bits as the pool holds them (R165, R216). -/
def State.finalBlocks (s : State) (c : Nat) (x : PicRec) (cx cy : Nat) : List (List Nat) :=
  let ctx := s.filterCtx c x cx cy (s.geo c).rRows
  ctuBlocks ctx.c420 cx cy fun comp px py => toPool ctx.depth (filtered ctx comp px py)

/-- A final sample of a picture, at coded depth. -/
def PicRec.finalSample (x : PicRec) (c420 : Bool) (nRow depth comp px py : Nat) : Nat :=
  let bs := Tab.get [] x.final (ctuAt c420 nRow comp px py)
  ofPool depth (blockSample c420 (fun b => bs.getD b []) comp px py)

/-- SSE of a component over the active samples of row `k`, at coded depth: the scaled source against the reconstruction after the in-loop
filters as the rows up to `k` give it; 0 for a skip picture, whose decoder shows what is coded (R143, R153, R154, R165; log entry 276). -/
def State.rowSse (s : State) (c : Nat) (x : PicRec) (k comp : Nat) : Nat :=
  let g := s.geo c
  let d := s.depth c
  if x.kind = 4 then 0
  else (List.range g.nRow).foldl (fun t cx =>
    let ctx := s.filterCtx c x cx k k
    ((ctx.area.grid g.c420 comp).cells.filter fun p => decide (p.1 < g.activeW comp) && decide (p.2 < g.activeH comp)).foldl (fun a p =>
      a + absDiff (toDepth d (x.srcSample comp p.1 p.2)) (filtered ctx comp p.1 p.2) ^ 2) t) 0

/-! ## The picture hash (R182) -/

/-- The CRC of a component of a decoded picture by its octets: the register is shifted through them and through 16 zero bits (log entry
41). -/
def pictureCrc (bs : List Byte) : Nat :=
  (bs ++ [0x00#8, 0x00#8]).foldl (fun c b => (List.range 8).foldl (fun r i =>
    let t := (r * 2 + b.toNat / 2 ^ (7 - i) % 2) % 65536
    if r / 32768 = 1 then t ^^^ 0x1021 else t) c) 0xFFFF

/-- The hashes of the decoded picture, one for each component: an octet for a sample of 8 bits, else two, low first (R182; log entry 41). -/
def State.pictureHash (s : State) (c : Nat) (x : PicRec) : List Nat :=
  let g := s.geo c
  let d := s.depth c
  [0, 1, 2].map fun comp =>
    pictureCrc ((Area.mk 0 0 (g.codedW comp) (g.codedH comp)).cells.flatMap fun p =>
      leBytes (x.finalSample g.c420 g.nRow d comp p.1 p.2) (if d = 8 then 1 else 2))

end Sys2Proof.Machine
end

