-- ==== Sys2Proof/Machine/Chan.lean ====
section
/-! DEFINITION. A channel's pictures and rows up to dispatch (spec/06, 07, 08, 11): what kind of picture a frame cycle codes,
its references and budget, the release of its rows, and the decisions that a joining standby takes from the active
(R112, R141, R148, R172 to R179, R196, R221, R286, R519, R520). -/

namespace Sys2Proof.Machine

/-! ## Refresh points (R177, R178) -/

/-- A request is due at picture `m`. -/
def RefreshState.requested (r : RefreshState) (m : Nat) : Bool := r.requests.any fun f => decide (f ≤ m)

/-- Picture `m` falls on the period of a channel. -/
def State.periodic (s : State) (c m : Nat) : Bool :=
  let per := s.act (pCHAN c) F.CHAN.REFRESH_CFG_PERIOD
  per != 0 && m % per == 0

/-- PIC_TYPE, wave index and G of picture `m` (R177 to R179). A start that waits because it fell on a skip picture, or because its wave
was abandoned there, takes the kind and G in force when it comes; an IDR that was deferred stays one (R178; log entry 129). -/
def State.refreshKind (s : State) (c m : Nat) (skip first : Bool) : Nat × Nat × Nat :=
  let r := (s.chanOf c).refresh
  let p := pCHAN c
  let g := s.act p F.CHAN.REFRESH_CFG_GDR_PICS
  let idr := s.act p F.CHAN.REFRESH_CFG_KIND == 0
  let req := r.requested m
  let per := s.periodic c m
  if skip then (4, 0, 0)
  else if first || r.deferred == 1 || (idr && (req || per || r.deferred == 2)) then (0, 0, 0)
  else if r.deferred == 2 || (!idr && (req || (per && r.wave.isNone))) then (1, 0, g)
  else match r.wave with
    | some i => (2, i, r.g)
    | none => (3, 0, 0)

/-- A start that falls on a skip picture: 1 an IDR, 2 a wave, 0 none that must be kept (R178). -/
def State.deferOnSkip (s : State) (c m : Nat) : Nat :=
  let r := (s.chanOf c).refresh
  let idr := s.act (pCHAN c) F.CHAN.REFRESH_CFG_KIND == 0
  let due := s.periodic c m || r.requested m
  if r.deferred = 1 ∨ (idr && due) then 1
  else if r.deferred = 2 ∨ r.wave.isSome ∨ (!idr && due) then 2
  else 0

/-- The refresh state after picture `m` of the given kind has started (R172, R177 to R179). -/
def State.refreshAfter (s : State) (c m kind wave g : Nat) : RefreshState :=
  let r := (s.chanOf c).refresh
  let served := r.requests.filter (m < ·)
  match kind with
  | 0 => { r with nIdr := m, requests := served, wave := none, deferred := 0, clean := false, list := [], start := m }
  | 1 => { r with requests := served, wave := if g > 1 then some 1 else none, g := g, deferred := 0, clean := decide (g ≤ 1), start := m }
  | 2 => { r with wave := if wave + 1 < g then some (wave + 1) else none, clean := decide (wave + 1 ≥ g) }
  | 4 => { r with wave := none, deferred := s.deferOnSkip c m }
  | _ => r

/-- BS_STATUS and LAST_REFRESH after a picture has started. -/
def State.showRefresh (s : State) (c m kind wave : Nat) : State :=
  let p := pCHAN c
  let s1 : State := (s.setFld p F.CHAN.BS_STATUS_REFRESH_PENDING ((s.chanOf c).refresh.requests != []).toNat).setFld p
    F.CHAN.BS_STATUS_WAVE_ACTIVE (kind == 1 || kind == 2).toNat
  let s2 : State := if kind = 1 ∨ kind = 2 then s1.setFld p F.CHAN.BS_STATUS_WAVE_INDEX wave else s1
  if kind = 0 ∨ kind = 1 then s2.put64L p F.CHAN.LAST_REFRESH_LO m else s2

/-! ## A picture starts -/

/-- A new picture takes a buffer and enters coding (R173, R221). -/
def State.enterPic (s : State) (c : Nat) (x : PicRec) : State :=
  if x.kind = 4 then s.updChan c fun y => { y with pics := y.pics ++ [x] }
  else
    let s1 : State := s.marksAtStart c x.refs
    match s1.freeBuf c with
    | none => s1.updChan c fun y => { y with pics := y.pics ++ [x] }
    | some i =>
      (s1.setBufs c ((s1.chanOf c).bufs.zipIdx.map fun b => if b.2 = i then ⟨mkCurrent, x.n, x.kind, x.wave, x.g, []⟩ else b.1)).updChan c fun y =>
        { y with pics := y.pics ++ [{ x with buf := some i }],
                 refresh := { y.refresh with list := (i :: y.refresh.list).take 4 } }

/-- The references of a picture of kind `kind` (R173, R175). -/
def State.refsFor (s : State) (c kind : Nat) : List Nat :=
  let l := (s.chanOf c).refresh.list
  match kind with
  | 0 => []
  | 4 => l.take 1
  | _ => l.take (s.geo c).nref

/-- No picture has been coded since the page entered ON. -/
def State.firstPic (s : State) (c : Nat) : Bool := (s.rcOf c).first && (s.chanOf c).pics.isEmpty

/-- Picture `m` of channel `c` starts at counter ns `fire` (R112, R172 to R179). -/
def State.startPic (s : State) (c m fire : Nat) : State :=
  let p := pCHAN c
  let look := s.lookPic c m
  let absent := !look.present
  let first := s.firstPic c
  let skip := absent && s.act p F.CHAN.LOSS_CTRL_POLICY == 0 && !first
  let k := s.refreshKind c m skip first
  let refs := s.refsFor c k.1
  let old := (s.chanOf c).refresh
  let s1 : State := if absent then (s.raise p F.CHAN.intLOSS).err p 3 else s
  let s2 : State := if skip && old.wave.isSome then s1.raise p F.CHAN.intWAVE_ABANDONED else s1
  let s3 : State := s2.updChan c fun x => { x with refresh := s.refreshAfter c m k.1 k.2.1 k.2.2 }
  let s4 : State := s3.showRefresh c m k.1 k.2.1
  s4.enterPic c
    { n := m, fire := fire, kind := k.1, absent := absent, wave := k.2.1, g := k.2.2, clean := old.clean,
      poc := wrapSub m (s3.chanOf c).refresh.nIdr (2 ^ 32), refs := refs, buf := none, budget := 0, spent := 0, rows := [],
      layer := look.layer, prot := look.prot, missing := false, raw := s.act pREFP F.REFP.SQZ_CFG_RAW_ONLY == 1,
      fed := 0, src := [], ctus := [], final := [], hash := [], origin := (s3.chanOf c).refresh.start, win := [], lostProxy := [] }

/-- Is the source picture of index `n` of a channel present: its source and scaler work and its input page is ON and holds a
sample (R111, R112). -/
def State.sourcePresent (s : State) (c n : Nat) : Bool :=
  let g := s.geo c
  s.works (pSRC g.source) && s.works (pSCAL g.scaler) && s.inputPresent (s.srcOf g.source).input n

/-- The channel begins picture work at a frame cycle: it is ON, not draining (R43). -/
def State.chanBegins (s : State) (c : Nat) : Bool := s.isOn (pCHAN c)

/-- The frame cycle of index `n` starts for channel `c`: LOOK takes the picture, and the channel codes it, or in buffered mode the
one LOOK_DEPTH cycles before. Answers the index coded (R141, R148). `held` says that a layer of its source was held or hidden at
the commit of this picture (R123). -/
def State.chanFrame (s : State) (c n fire : Nat) (held : Bool) : State × Option Nat :=
  let g := s.geo c
  let s1 : State := s.updLook c n fun y => { y with present := s.sourcePresent c n, prot := s.protShown g.source, layer := held }
  let m := if g.buffered then n - g.depth else n
  if (s1.chanOf c).looks.any (fun y => y.n == m) && (!g.buffered || decide (g.depth ≤ n)) then (s1.startPic c m fire, some m)
  else (s1, none)

/-! ## The pair's part in a refresh (R285 to R287, R315) -/

/-- The body of SNAPSHOT (R315). -/
def State.snapshotBody (s : State) (c : Nat) (x : PicRec) : List Byte :=
  let r := s.rcOf c
  let rr := (s.geo c).rRows
  let pooled := s.pooled c
  let y := s.grpOf (s.chanGroup c)
  let sh (v : Nat) : Nat := if pooled then v else 0
  [BitVec.ofNat 8 c, BitVec.ofNat 8 (if x.kind = 0 then 0 else 1)] ++ beBytes rr 2 ++ beBytes x.n 8 ++ beBytes r.qk 12 ++ beBytes r.tk 9 ++
    beBytes r.crem 4 ++ ([0, 1, 2].flatMap fun k => beBytes (s.scale c k) 2) ++ [BitVec.ofNat 8 r.qlast] ++
    beBytes (s.fld (pCHAN c) F.CHAN.RC_TABLE_ID) 4 ++ beBytes r.tableCrc 4 ++ beBytes (sh y.qs) 12 ++ beBytes (sh y.ts) 9 ++
    beBytes (sh y.srem) 4 ++ [BitVec.ofNat 8 (r.ledger.take 16).length] ++
    ((r.ledger.take 16).flatMap fun j => beBytes j.at' 9 ++ beBytes j.cap 4 ++ beBytes j.e 4) ++
    (List.range rr).flatMap fun k => beBytes (r.prevI.getD k 0) 4 ++ beBytes (r.prevC.getD k 0) 4

/-- Index of the last refresh picture of a refresh that begins at picture `x` (R285). -/
def lastRefresh (x : PicRec) : Nat := if x.kind = 0 then x.n else x.n + x.g - 1

/-- After the budgets of a frame cycle: the active sends SNAPSHOT for a refresh picture of a channel that is OUT_OF_STEP, which
is then JOINING (R267, R286). -/
def State.sendSnapshot (s : State) (c n : Nat) : State :=
  match s.picRec c n with
  | none => s
  | some x =>
    if s.pairOn ∧ s.linkActive ∧ s.isActive ∧ s.chStep c = ncOutOfStep ∧ x.kind < 2 then
      ((s.ropeSend 0x22 (s.snapshotBody c x)).updChan c fun y => { y with
        pair := { y.pair with join := some (n, lastRefresh x), sender := true, own := [], peer := [], failed := none } }).setStep c ncJoining
    else s

/-- The unit takes the decisions of picture `n` from the active (R286). -/
def State.receiving (s : State) (c n : Nat) : Bool :=
  s.pairOn && s.chStep c == ncJoining && !(s.chanOf c).pair.sender &&
    match (s.chanOf c).pair.join with
    | some (a, b) => decide (a ≤ n) && decide (n ≤ b)
    | none => false

/-- The results of picture `n` come from the active: every picture before the last refresh picture (R286). -/
def State.takesResults (s : State) (c n : Nat) : Bool :=
  s.pairOn && s.chStep c == ncJoining && !(s.chanOf c).pair.sender &&
    match (s.chanOf c).pair.join with
    | some (_, b) => decide (n < b)
    | none => false

/-- A row of a refresh picture whose join failed without its DECISION (R520). -/
def State.floorFailed (s : State) (c n : Nat) : Bool :=
  match (s.chanOf c).pair.failed with
  | some (a, b) => decide (a ≤ n) && decide (n ≤ b)
  | none => false

/-- DECISION for a row just decided, while the channel joins and this unit sends (R286, R315). -/
def State.sendDecision (s : State) (c n k : Nat) : State :=
  match s.picRec c n, (s.chanOf c).pair.join with
  | some x, some (a, b) =>
    if s.pairOn ∧ s.chStep c = ncJoining ∧ (s.chanOf c).pair.sender ∧ a ≤ n ∧ n ≤ b then
      let pl := (Tab.get .reset x.rows k).plan
      s.ropeSend 0x21 ([BitVec.ofNat 8 c, BitVec.ofNat 8 pl.floor.toNat] ++ beBytes k 2 ++ beBytes n 8 ++ beBytes pl.cap 4 ++
        [BitVec.ofNat 8 pl.qp, 0, 0, 0] ++ beBytes pl.e 4)
    else s
  | _, _ => s

/-! ## Rows are released -/

/-- The rate-control state that the digest of row `k` carries (R273). -/
def State.snapRow (s : State) (c n k : Nat) : State :=
  let r := s.rcOf c
  let y := s.grpOf (s.chanGroup c)
  let pooled := s.pooled c
  s.updPicRec c n fun x => { x with rows := Tab.upd .reset x.rows k fun z =>
    { z with snap := [r.qk, r.tk, r.crem, s.scale c 0, s.scale c 1, s.scale c 2, r.qlast, if pooled then y.qs else 0, if pooled then y.srem else 0],
             missing := !x.absent && (s.lookPic c n).missing.contains k } }

/-- A row is placed with a plan that the controller did not form (R519, R520). -/
def State.placePlan (s : State) (c n k : Nat) (plan : PicRec → RowPlan) : State :=
  match s.picRec c n with
  | none => s
  | some x0 =>
    let s1 : State := s.applyKnown c (x0.fire * 1000 + (s.geo c).releaseAt k)
    let x := (s1.picRec c n).getD x0
    let pl := plan x
    let s2 : State := ((s1.takePlan c x k pl).showPlan c pl).setReg (F.CHAN.RC_ROW_TARGET.addr (pCHAN c)) 0
    if pl.floor then s2.floorRow c else s2

/-- The class that row `k` would have (R202). -/
def State.rowClass (s : State) (c : Nat) (x : PicRec) (k : Nat) : Nat :=
  if (s.formOf c x).mustIntra (s.geo c).nRow = (s.geo c).nRow then 0 else if s.cutRow c x.n k then 2 else 1

/-- A row coded with a DECISION (R286, R519). -/
def State.takeDecision (s : State) (c : Nat) (d : Decision) : State :=
  let s1 : State := s.placePlan c d.n d.k fun x =>
    ⟨d.cap, d.qp, d.floor, s.cutRow c d.n d.k, s.rowClass c x d.k, d.e, s.hdr [] c (s.formOf c x) d.k, s.fr [] c (s.formOf c x) d.k⟩
  (s1.updChan c fun x => { x with
    pair := { x.pair with decisions := x.pair.decisions.erase d }
    rc := { x.rc with ledger := x.rc.ledger.map fun j =>
      if j.n = d.n ∧ j.k = d.k then { j with bits := ((x.pair.take.find? fun t => t.1 == j.n && t.2.1 == j.k).map fun t => t.2.2) } else j } }).snapRow
    c d.n d.k

/-- A row of a refresh picture after a failed join: floor, cap fr(k), QP qlast (R520). -/
def State.placeFloor (s : State) (c n k : Nat) : State :=
  (s.placePlan c n k fun x =>
    ⟨s.fr [] c (s.formOf c x) k, (s.rcOf c).qlast, true, s.cutRow c n k, s.rowClass c x k, 0, s.hdr [] c (s.formOf c x) k,
      s.fr [] c (s.formOf c x) k⟩).snapRow c n k

/-- After the last row of a present picture: its sums are those of the previous present picture (R201, R212, R518). -/
def State.keepSums (s : State) (c n k : Nat) : State :=
  if k + 1 = (s.geo c).rRows ∧ (s.lookPic c n).present then
    s.updRc c fun r => { r with
      prevI := (List.range (k + 1)).map fun j => s.isum c n j
      prevC := (List.range (k + 1)).map fun j => s.csum c n j }
  else s

/-- Row `k` of picture `n` is placed at the head of coding: by the active's DECISION, at floor after a failed join, or by the
channel's own decision (R196, R286, R520). -/
def State.placeRow (s : State) (c n k : Nat) : State :=
  match s.picRec c n with
  | none => s
  | some x =>
    if k ≠ x.rows.length then s
    else if s.receiving c n then
      match (s.chanOf c).pair.decisions.find? fun d => d.n == n && d.k == k with
      | some d => (s.takeDecision c d).keepSums c n k
      | none => s
    else if s.floorFailed c n then (s.placeFloor c n k).keepSums c n k
    else (((s.decideRow c n k).snapRow c n k).sendDecision c n k).keepSums c n k

/-- A parity fault of the lookahead SRAM takes the costs of a row: each is 0 (R163). -/
def State.lookLost (s : State) (c n k : Nat) : State :=
  (s.updLook c n fun y =>
    { y with intra := Tab.set 0 y.intra k 0, inter := Tab.set 0 y.inter k 0, cost := Tab.set 0 y.cost k 0 }).err pLOOK 0

/-- LOOK analyses row `k` of a present picture of a low-delay channel at its release (R152); a row whose costs are lost has
costs of 0 (R163). -/
def State.lookAtRelease (s : State) (c n k : Nat) (lost : Bool) : State :=
  let y := s.lookPic c n
  let due := !(s.geo c).buffered && y.present && y.rows == k
  let s1 : State := if due then s.lookRow c n k else s
  let s2 : State := if lost && y.present then s1.lookLost c n k else s1
  if due && k + 1 == (s.geo c).rRows then s2.lookDone c n else s2

/-- Lines of a component in CTU row `k`: the first and their number. -/
def ChanGeo.rowSpan (g : ChanGeo) (comp k : Nat) : Nat × Nat := if comp = 0 ∨ !g.c420 then (64 * k, 64) else (32 * k, 32)

/-- Row `k` of picture `n` is handed to coding: from the line buffers, or in buffered mode from the staging ring; lines that the
scaler has not written are black, and the row is noted (R137, R143, R148). -/
def State.feedRow (s : State) (c n k : Nat) : State :=
  let g := s.geo c
  let x := s.lookPic c n
  let take (t : State × Tab (List Nat)) (comp y : Nat) : State × Tab (List Nat) :=
    let r : State × List Nat := if g.buffered && decide (min y (g.activeH comp - 1) < (if comp = 0 ∨ !g.c420 then x.lines else (x.lines + 1) / 2))
      then t.1.stageRead c n comp y else (t.1, x.line g comp y)
    (r.1, Tab.set [] t.2 (planeKey comp y) r.2)
  let got := [0, 1, 2].foldl (fun t comp => (List.range (g.rowSpan comp k).2).foldl (fun t i => take t comp ((g.rowSpan comp k).1 + i)) t)
    (s, ([] : Tab (List Nat)))
  let late := decide (x.lines < min (64 * k + 64) g.h)
  (got.1.updPicRec c n fun z => { z with fed := k + 1, src := got.2.foldl (fun t e => Tab.set [] t e.1 e.2) z.src }).updLook c n fun z =>
    { z with missing := if late && !z.missing.contains k then z.missing ++ [k] else z.missing }

/-- The scaler of channel `c` works on picture `n`: it and the source are composing it. -/
def State.scaling (s : State) (c n : Nat) : Bool :=
  let g := s.geo c
  s.works (pSCAL g.scaler) && (s.srcOf g.source).composed && (s.srcOf g.source).started && (s.srcOf g.source).n == n

/-- At the release of row `k` of a low-delay channel, lines that a source which has stopped did not compose are scaled as black
(R137). -/
def State.scaleRest (s : State) (c n k : Nat) : State :=
  if !(s.geo c).buffered && s.scaling c n then s.scaleTo c n (min (64 * k + 64) (s.geo c).h) else s

/-- The compositor has read every line that row `k` of picture `n` is made from, or no longer reads them (R13, R141). -/
def State.rowReady (s : State) (c n k : Nat) : Bool :=
  let g := s.geo c
  g.buffered || !s.works (pSRC g.source) || !s.scaling c n || decide (min (64 * k + 64) g.h ≤ s.scaleReady c n)

/-- Row `k` of a picture is taken up at its release: its samples, and in low-delay mode its costs (R141, R152). -/
def State.takeRow (s : State) (c n k : Nat) (lost : Bool) : State :=
  match s.picRec c n with
  | some x => if k = x.fed then ((s.scaleRest c n k).lookAtRelease c n k lost).feedRow c n k else s
  | none => s

/-- The release instant of row `k` has passed (R141, R148). -/
def State.released (s : State) (c : Nat) (x : PicRec) (k : Nat) : Bool :=
  s.running && decide (k < (s.geo c).rRows) && decide (s.nowPs ≥ x.fire * 1000 + (s.geo c).releaseAt k)

/-- Release instant, counter ps, of the next row that channel `c` decides itself: of the first picture that has one left (R196). -/
def State.nextDecision (s : State) (c : Nat) : Option Nat :=
  (((s.chanOf c).pics.filter fun x => decide (x.rows.length < (s.geo c).rRows) && !s.receiving c x.n).map fun x =>
    x.fire * 1000 + (s.geo c).releaseAt x.rows.length).min?

/-- No member of the pooled group has a decision before that of channel `c` at instant `t`: they are taken by instant, then channel (R211). -/
def State.decidesNext (s : State) (c t : Nat) : Bool :=
  !s.pooled c || (s.members (s.chanGroup c)).all fun d => match s.nextDecision d with
    | some u => decide (t < u) || (t == u && decide (c ≤ d)) || d == c
    | none => true

/-- ROW_RELEASE (R141, R144, R196): row `k` of picture `n` of channel `c` becomes available, rows in order. -/
def execRowRelease (c n k : Nat) (lost : Bool) (s : State) : Out :=
  s.event (decide (c < 64) && s.chanOn c && match s.picRec c n with
    | some x => s.released c x k && s.rowReady c n k && s.decidesNext c (x.fire * 1000 + (s.geo c).releaseAt k) && (decide (k = x.rows.length) || (s.receiving c n && decide (k = x.fed)))
    | none => false) fun s => (s.takeRow c n k lost).placeRow c n k

/-! ## Staging (R148 to R152) -/

/-- A row of a buffered channel is staged whole: LOOK has built its proxy during the write and computes its costs (R148, R152). The
row leaves the line buffers. -/
def State.rowStaged (s : State) (c n k : Nat) : State :=
  let g := s.geo c
  let s1 : State := if (s.lookPic c n).present then s.lookRow c n k else s.updLook c n fun y => { y with rows := k + 1 }
  let s2 : State := s1.updLook c n fun y => { y with src := y.src.filter fun e => decide (64 * k + 64 ≤ e.1 % 8192 * (if g.c420 && decide (8192 ≤ e.1) then 2 else 1)) }
  if k + 1 = g.rRows then s2.lookDone c n else s2

/-- The scaler of channel `c` writes the lines whose sources have been read; in buffered mode the rows they complete are staged. -/
def State.scaleOn (s : State) (c n : Nat) : State :=
  let g := s.geo c
  if s.scaling c n && (s.chanOf c).looks.any (fun y => y.n == n) then
    let s1 : State := s.scaleTo c n (s.scaleReady c n)
    if g.buffered then
      ((List.range g.rRows).filter fun k => decide ((s1.lookPic c n).rows ≤ k) && decide (min (64 * k + 64) g.h ≤ (s1.lookPic c n).lines)).foldl
        (fun t k => t.rowStaged c n k) s1
    else s1
  else s

/-- The lines of CTU row `k` of a source that are due are read, and the scalers go on (R141). -/
def State.rowReadStage (s : State) (n k : Nat) : State :=
  let s1 : State := s.rowRead n (s.readTo n k)
  (s1.chansOf n).foldl (fun t c => t.scaleOn c (s1.srcOf n).n) s1

/-- ROW_READ_INSTANT (R141): at R(k) the compositor reads CTU row `k` of the picture of source `n`, the rows in order. Lines of the
row that a scaled channel reads earlier are read at that instant (log entry 265). -/
def execRowReadInstant (n k : Nat) (s : State) : Out :=
  s.event (decide (n < 32) && s.works (pSRC n) && s.running && decide (k < s.srcRows n) && (s.srcOf n).started &&
      decide (k = (s.srcOf n).done / 64) && decide ((s.srcOf n).done < s.readTo n k)) fun s => s.rowReadStage n k

end Sys2Proof.Machine
end

