-- ==== Sys2Proof/Machine/Chamber.lean ====
section
/-! DEFINITION. The chambers (spec/06, R138 to R147, R160, R161): dispatch of released rows, the CTUs that a chamber codes, the
cap guard and the forced floor, what a chamber fault does, and chambers leaving and joining the pool. -/

namespace Sys2Proof.Machine

def State.chamber (s : State) (h : Nat) : ChamberState := Tab.get .reset s.chmb h
def State.updChamber (s : State) (h : Nat) (f : ChamberState → ChamberState) : State := { s with chmb := Tab.upd .reset s.chmb h f }

/-- Row `k` of picture `n` of a channel, if it has been placed. -/
def State.rowRec (s : State) (c n k : Nat) : Option (PicRec × RowRec) :=
  match s.picRec c n with
  | some x => if k < x.rows.length then some (x, Tab.get .reset x.rows k) else none
  | none => none

def State.updRow (s : State) (c n k : Nat) (f : RowRec → RowRec) : State :=
  s.updPicRec c n fun x => { x with rows := Tab.upd .reset x.rows k f }

/-! ## Dispatch (R144) -/

/-- A row in the dispatch order: channel, picture, row, output instant in counter ps, and its rank among equal instants: a
resumed row 0, a preempted row 1, else 2 (R146). -/
structure Waiting where
  chan : Nat
  n : Nat
  k : Nat
  out : Nat
  rank : Nat
deriving DecidableEq, Repr

/-- A row has been dispatched at least once, or is done. -/
def RowRec.begun (r : RowRec) : Bool := r.chamber.isSome || decide (r.next > 0) || r.endedAt.isSome

/-- The rows of a channel that wait for a chamber: released, not held by one, not done, the row above dispatched, the references
written (R144, R223). -/
def State.waitingOf (s : State) (c : Nat) : List Waiting :=
  (s.chanOf c).pics.flatMap fun x =>
    ((List.range x.rows.length).filter fun k =>
      let r := Tab.get .reset x.rows k
      r.chamber.isNone && r.endedAt.isNone && (k == 0 || (Tab.get .reset x.rows (k - 1)).begun) && s.refsReady c x k).map fun k =>
        let r := Tab.get .reset x.rows k
        ⟨c, x.n, k, s.outPs c x k, if r.lost then 0 else if r.next > 0 then 1 else 2⟩

/-- Comes before in the dispatch order (R144, R146). -/
def Waiting.before (a b : Waiting) : Bool :=
  if (a.rank == 0) != (b.rank == 0) then a.rank == 0
  else if a.out != b.out then decide (a.out < b.out)
  else if a.rank != b.rank then decide (a.rank < b.rank)
  else if a.chan != b.chan then decide (a.chan < b.chan)
  else if a.n != b.n then decide (a.n < b.n)
  else decide (a.k < b.k)

/-- The first of a list in the dispatch order. -/
def firstWaiting : List Waiting → Option Waiting
  | [] => none
  | a :: as => match firstWaiting as with
    | some b => some (if b.before a then b else a)
    | none => some a

/-- The row that a free chamber takes. -/
def State.nextRow (s : State) : Option Waiting := firstWaiting (s.chansOn.flatMap s.waitingOf)

/-! ## CTUs begin (R139, R147) -/

/-- The CTU above and to the right of the next CTU of row `k` has ended (R139). -/
def State.lagMet (s : State) (c : Nat) (x : PicRec) (k next : Nat) : Bool :=
  k == 0 || decide ((Tab.get .reset x.rows (k - 1)).next ≥ min (next + 2) (s.geo c).nRow)

/-- CTU `x` of a row can still be coded in full: the test of R147, in thirds of a ps. -/
def State.fitsFull (s : State) (c x out : Nat) : Bool :=
  decide (3 * s.nowPs + (10240 + 1280 * ((s.geo c).nRow - 1 - x)) * 1000 ≤ 3 * out)

/-- CHMB_STATUS shows what chamber `h` holds. -/
def State.showChamber (s : State) (h : Nat) : State :=
  let p := pCHMB h
  match (s.chamber h).row with
  | some (c, _, k) =>
    (((s.setFld p F.CHMB.CHMB_STATUS_BUSY 1).setFld p F.CHMB.CHMB_STATUS_FLOOR ((s.chamber h).floorCtu && (s.chamber h).begun).toNat).setFld p
      F.CHMB.CHMB_STATUS_CHAN c).setFld p F.CHMB.CHMB_STATUS_ROW k
  | none => s.setReg (F.CHMB.CHMB_STATUS.addr p) 0

/-- A row is forced to floor from here on: FORCED, ROW_FORCED and ERR_COUNT2, once for the row (R147). -/
def State.forceRow (s : State) (c n k : Nat) : State :=
  match s.rowRec c n k with
  | some (_, r) =>
    if r.forced then s
    else ((s.updRow c n k fun z => { z with forced := true }).raise (pCHAN c) F.CHAN.intROW_FORCED).err (pCHAN c) 2
  | none => s

/-- Chamber `h` begins the next CTU of its row if the lag is met (R139), after the test of R147. -/
def State.tryBegin (s : State) (h : Nat) : State :=
  match (s.chamber h).row with
  | none => s
  | some (c, n, k) =>
    match s.rowRec c n k with
    | none => s
    | some (x, r) =>
      if (s.chamber h).begun || !s.lagMet c x k r.next then s
      else
        let s1 : State := if r.forced || s.fitsFull c r.next (s.outPs c x k) then s else s.forceRow c n k
        let forced := r.forced || !s.fitsFull c r.next (s.outPs c x k)
        (s1.updChamber h fun y => { y with begun := true, since := s.core, floorCtu := forced || r.plan.floor || x.kind == 4,
                                            affected := s.affected c x (k * (s.geo c).nRow + r.next) }).showChamber h

/-- Busy intervals of the last 1,048,576 FABRIC cycles (LOAD). -/
def pruneBusy (core : Nat) (bs : List (Nat × Nat)) : List (Nat × Nat) := bs.filter fun b => decide (b.2 + 2097152 > core)

/-- Chamber `h` takes a row. -/
def State.assign (s : State) (h c n k : Nat) : State :=
  ((s.updRow c n k fun r => { r with chamber := some h, lost := false }).updChamber h fun y =>
    { y with row := some (c, n, k), begun := false, floorCtu := false, busy := pruneBusy s.core y.busy ++ [(s.core, s.core)] }).tryBegin h
    |>.showChamber h

/-- The last busy interval ends now. -/
def closeBusy (core : Nat) : List (Nat × Nat) → List (Nat × Nat)
  | [] => []
  | [b] => [(b.1, core)]
  | b :: bs => b :: closeBusy core bs

/-- Chamber `h` holds no row any more. -/
def State.unassign (s : State) (h : Nat) : State :=
  (s.updChamber h fun y => { y with row := none, begun := false, floorCtu := false, busy := closeBusy s.core y.busy }).showChamber h

/-- LOAD.PERMILLE: CORE cycles busy per 1,000 over the last 1,048,576 FABRIC cycles. -/
def State.chmbLoad (s : State) (h : Nat) : Nat :=
  let y := s.chamber h
  let bs := if y.row.isSome then closeBusy s.core y.busy else y.busy
  let from' := s.core - 2097152
  bs.foldl (fun a b => a + (b.2 - max b.1 from')) 0 * 1000 / 2097152

/-- Chamber `h` may take a row: it is in the pool and holds none. -/
def State.chamberFree (s : State) (h : Nat) : Bool := s.works (pCHMB h) && (s.chamber h).pooled && (s.chamber h).row.isNone

/-- ROW_DISPATCH (R144): the free chamber `h` takes the first row of the dispatch order. -/
def execRowDispatch (h : Nat) (s : State) : Out :=
  s.event (decide (h < 18) && s.chamberFree h && s.nextRow.isSome) fun s =>
    match s.nextRow with
    | some w => s.assign h w.chan w.n w.k
    | none => s

/-! ## CTUs end (R138, R140, R205, R229, R231) -/

/-- Bits that a row may reach if this CTU stands: hdr(k) + used + rest (R205). -/
def State.guardSum (s : State) (c : Nat) (x : PicRec) (r : RowRec) (code : CtuCode) : Nat :=
  r.plan.hdr + 8 * (r.bytes.length + code.bytes.length) + 2 * code.held + (s.formOf c x).floorRest (s.codec c) (s.geo c).nRow (r.next + 1)

/-- What an affected CTU counts in REFP: coded in full it is intra; as a floor CTU of an inter picture it may have been reconstructed from
poisoned samples (R232). -/
def State.notePoison (s : State) (affected floor drift : Bool) : State :=
  if !affected then s
  else if !floor then s.err pREFP 3
  else if drift then (s.raise pREFP F.REFP.intPOISON_DRIFT).err pREFP 4
  else s

/-- The row's CTU stands: its checkpoint (R140). -/
def RowRec.withCtu (r : RowRec) (codec : Nat) (code : CtuCode) (guarded : Bool) : RowRec :=
  { r with next := r.next + 1, bytes := r.bytes ++ code.bytes, coder := code.coder, guarded := r.guarded || guarded,
           wpp := if r.next + 1 = wppAfter codec then code.coder.contexts else r.wpp }

/-- A CTU is recorded in its picture and its row (R140). -/
def State.noteCtu (s : State) (c n k t : Nat) (code : CtuCode) (guarded : Bool) : State :=
  (s.updPicRec c n fun x => { x with ctus := Tab.set .reset x.ctus t code.ctu }).updRow c n k fun r => r.withCtu (s.codec c) code guarded

/-- Final CTU `q` (column, row) of picture `n`: its samples are kept, and its Squeeze blocks and proxy are written, but for a skip picture
(R175, R229, R233). -/
def State.writeFinal (s : State) (c n : Nat) (q : Nat × Nat) : State :=
  match s.picRec c n with
  | none => s
  | some x =>
    let t := q.2 * (s.geo c).nRow + q.1
    let bs := s.finalBlocks c x q.1 q.2
    let s1 : State := s.updPicRec c n fun y => { y with final := Tab.set [] y.final t bs }
    match x.buf with
    | some i => if x.kind = 4 then s1 else s1.writeCtu c i t x.raw bs
    | none => s1

/-- After the last CTU of a row: the substream ends, and its squared errors are measured (R153, R171). -/
def State.endSubstream (s : State) (c n k : Nat) : State :=
  match s.rowRec c n k with
  | none => s
  | some (x, r) =>
    s.updRow c n k fun z => { z with bytes := r.bytes ++ r.coder.finish (s.codec c), sseY := s.rowSse c x k 0,
                                     sseC := s.rowSse c x k 1 + s.rowSse c x k 2 }

/-- The picture is whole: its hash is known (R182). -/
def State.noteHash (s : State) (c n : Nat) : State :=
  match s.picRec c n with
  | some x => s.updPicRec c n fun y => { y with hash := s.pictureHash c x }
  | none => s

/-- The ledger learns the bits of a row coded here, unless they come from the active (R196, R205, R286). -/
def State.knowBits (s : State) (c n k : Nat) : State :=
  match s.rowRec c n k with
  | none => s
  | some (x, r) =>
    let learn := !r.forced && !r.guarded
    s.updRc c fun y => { y with ledger := y.ledger.map fun j =>
      if j.n = n ∧ j.k = k then
        { j with bits := if s.takesResults c n then j.bits else some (8 * r.bytes.length + s.hdrSent [] c (s.formOf c x) k),
                 learns := j.learns && learn }
      else j }

/-- The last CTU of a row has ended: its chamber is free, ROWS_DONE counts it, and a picture all of whose rows have been coded
completes (R196, R221). -/
def State.rowEnd (s : State) (h c n k : Nat) : State :=
  let s1 : State := s.updRow c n k fun r => { r with endedAt := some s.nowPs, chamber := none }
  let s2 : State := ((s1.knowBits c n k).unassign h).incFld (pCHMB h) F.CHMB.ROWS_DONE
  match s2.picRec c n with
  | some x =>
    match x.buf with
    | some i => if x.coded (s2.geo c).rRows then s2.marksAtEnd c i else s2
    | none => s2
  | none => s2

/-- The chamber that holds row `k` of picture `n` tries to begin its next CTU. -/
def State.wake (s : State) (c n k : Nat) : State :=
  match s.rowRec c n k with
  | some (_, r) => match r.chamber with
    | some h => s.tryBegin h
    | none => s
  | none => s

/-- The resumed row that waits for a chamber, earliest output instant first (R146). -/
def State.resumedRow (s : State) : Option Waiting := firstWaiting ((s.chansOn.flatMap s.waitingOf).filter fun w => w.rank == 0)

/-- At the end of a CTU a chamber that is to give up its row does so, PREEMPTED and ERR_COUNT1, and takes the resumed row; it keeps
its row where no resumed row waits any more (R146). -/
def State.preempted (s : State) (h : Nat) : State :=
  if !(s.chamber h).preempt then s
  else
    let s1 : State := s.updChamber h fun y => { y with preempt := false }
    match s1.resumedRow, (s1.chamber h).row with
    | some w, some (c, n, k) =>
      ((((s1.updRow c n k fun r => { r with chamber := none }).unassign h).raise (pCHMB h) F.CHMB.intPREEMPTED).err (pCHMB h) 1).assign
        h w.chan w.n w.k
    | some w, none => if s1.chamberFree h then s1.assign h w.chan w.n w.k else s1
    | none, _ => s1

/-- The next row of the picture and the next CTU of this one may begin. -/
def State.goOn (s : State) (h c n k : Nat) : State := ((s.wake c n (k + 1)).preempted h).tryBegin h

/-- The context of the next CTU of a row: its coder goes on from the checkpoint, or starts the row (R140, R169). -/
def State.nextCtx (s : State) (c : Nat) (x : PicRec) (r : RowRec) (k : Nat) : CodeCtx :=
  s.codeCtx c x r.plan.qp (if r.next = 0 then s.rowCoder c x k else r.coder) r.next k

/-- The next CTU of a row as its chamber codes it: as a floor CTU where that was fixed when it began, else in full, or as a floor CTU if that
would break the cap; answers the code, and whether the guard acted (R138, R205). -/
def State.codeCtu (s : State) (h c : Nat) (x : PicRec) (r : RowRec) (k : Nat) : CtuCode × Bool :=
  let e := s.codeEnv c x r.next (s.chamber h).affected
  let ctx := s.nextCtx c x r k
  let floor := e.codeFloor ctx (s.geo c).rRows
  if (s.chamber h).floorCtu then (floor, false)
  else
    let full := e.codeFull ctx (s.geo c).rRows
    if s.guardSum c x r full > r.plan.cap then (floor, true) else (full, false)

/-- What a CTU's code changes beside its chamber: the counters, its record, and the CTUs that become final (R140, R205, R229, R232). -/
def State.takeCode (s : State) (h c n k : Nat) (r : RowRec) (code : CtuCode × Bool) : State :=
  let g := s.geo c
  let s1 : State := if code.2 then (s.raise (pCHAN c) F.CHAN.intGUARD).err (pCHAN c) 4 else s
  let s2 : State := s1.notePoison (s.chamber h).affected ((s.chamber h).floorCtu || code.2) code.1.drift
  let s3 : State := s2.noteCtu c n k (k * g.nRow + r.next) code.1 code.2
  (finalAfter g.nRow g.rRows r.next k).foldl (fun t q => t.writeFinal c n q) s3

/-- Chamber `h` ends a CTU of row (c, n, k) (R138, R205). -/
def State.ctuEnd (s : State) (h c n k : Nat) : State :=
  match s.rowRec c n k with
  | none => s
  | some (x, r) =>
    let g := s.geo c
    let s1 : State := s.takeCode h c n k r (s.codeCtu h c x r k)
    let q := pCHMB h
    let s2 : State := (s1.put64L q F.CHMB.CTU_DONE_LO (s1.live64 q F.CHMB.CTU_DONE_LO + 1)).updChamber h fun y => { y with begun := false }
    let s3 : State :=
      if r.next + 1 = g.nRow then
        let s4 : State := s2.endSubstream c n k
        (if k + 1 = g.rRows then s4.noteHash c n else s4).rowEnd h c n k
      else s2.showChamber h
    s3.goOn h c n k

/-- Chamber `h` is coding CTU `x` of row `k` of the picture that it holds. -/
def State.codesCtu (s : State) (h k x : Nat) : Bool :=
  match (s.chamber h).row with
  | some (c, n, j) => j == k && match s.rowRec c n j with
    | some (_, r) => r.next == x
    | none => false
  | none => false

/-- CTU_COMPLETE (R138): chamber `h` has coded CTU `x` of row `k` in its fixed time. What the CTU gives follows from the source, the references
and the CTUs before it (R189, R190); whether it stands in full, the forced floor and the cap guard decide (R147, R205). -/
def execCtuComplete (h k x : Nat) (s : State) : Out :=
  let y := s.chamber h
  s.event (decide (h < 18) && s.works (pCHMB h) && y.begun && s.codesCtu h k x &&
      decide (s.core ≥ y.since + (if y.floorCtu then 1280 else 10240))) fun s =>
    match (s.chamber h).row with
    | some (c, n, j) => s.ctuEnd h c n j
    | none => s

/-! ## Chambers leave and join (R23, R146, R160, R161) -/

/-- The chambers in service, the reserve held and the limits change together (R19, R23). -/
def State.chamberCount (s : State) (chambers held : Nat) : State :=
  s.limits chambers held (s.fld pSYS F.SYS.ADM_RESOURCES_MEMC_IN_SERVICE)

/-- A chamber leaves the pool: one fewer in service; where a reserve was held its work is remapped, and the reserve held falls by one
(R23). Checks serialised in this FABRIC cycle use the reduced limit (R28). -/
def State.chamberGone (s : State) (h : Nat) : State :=
  if (s.chamber h).pooled then
    let held := s.fld pSYS F.SYS.ADM_RESOURCES_RESERVE_HELD
    let s1 : State := { s.updChamber h fun y => { y with pooled := false } with remapped := s.remapped + min held 1 }
    ((s1.chamberCount (s.fld pSYS F.SYS.ADM_RESOURCES_CHMB_IN_SERVICE - 1) (held - 1)).govChamberLeaves h).resourceLeft
  else s

/-- A row loses its chamber to a fault: RESUMED, ROW_RESUMED, ERR_COUNT1 (R146). -/
def State.resumeRow (s : State) (c n k : Nat) : State :=
  ((s.updRow c n k fun r => { r with chamber := none, resumed := true, lost := true }).raise (pCHAN c) F.CHAN.intROW_RESUMED).err (pCHAN c) 1

/-- The chamber that holds the row with the latest output instant and is not yet to give it up (R146). A chamber whose drain has taken
effect takes no new row, so none of these (R160; log entry 268). -/
def State.latestHolder (s : State) : Option Nat :=
  let out (h : Nat) : Nat := match (s.chamber h).row with
    | some (c, n, k) => match s.picRec c n with
      | some x => s.outPs c x k
      | none => 0
    | none => 0
  ((List.range 18).filter fun h => (s.chamber h).row.isSome && (s.chamber h).pooled && !(s.chamber h).preempt).foldl
    (fun (o : Option Nat) h => match o with
      | none => some h
      | some j => if out h > out j then some h else some j) none

/-- The resumed row goes to a free chamber, or one is told to give up its row (R146). -/
def State.placeResumed (s : State) : State :=
  match s.resumedRow with
  | none => s
  | some w =>
    match (List.range 18).find? s.chamberFree with
    | some h => s.assign h w.chan w.n w.k
    | none => match s.latestHolder with
      | some h => s.updChamber h fun y => { y with preempt := true }
      | none => s

/-- CHAMBER_FAULT (R146): a parity fault ends the CTU of chamber `h`. -/
def execChamberFault (h : Nat) (s : State) : Out :=
  s.event (decide (h < 18) && (s.st (pCHMB h) == stOn || s.st (pCHMB h) == stDraining)) fun s =>
    let row := (s.chamber h).row
    let s1 : State := ((s.err (pCHMB h) 0).enterFault (pCHMB h) 0x0E).chamberGone h
    let s2 : State := (s1.unassign h).updChamber h fun y => { y with preempt := false, joinAt := none }
    match row with
    | some (c, n, k) => (s2.resumeRow c n k).placeResumed
    | none => s2

/-- A frame cycle of a group that is not OFF has started after root cycle `root`, at counter ns `ns` or later (R160, R161). -/
def State.frameAfter (s : State) (root ns : Nat) : Bool :=
  (List.range 8).any fun g => !s.countsOff (pGRP g) && decide ((s.grpOf g).rootAt > root) && decide ((s.grpOf g).fire ≥ ns)

/-- CHMB_DRAIN_EFFECT (R160). -/
def execChmbDrainEffect (h : Nat) (s : State) : Out :=
  s.event (decide (h < 18) && s.st (pCHMB h) == stDraining && !(s.chamber h).drained &&
      (s.allGrpOff || s.frameAfter (s.page (pCHMB h)).since 0)) fun s =>
    (s.chamberGone h).updChamber h fun y => { y with drained := true, joinAt := none }

/-- CHMB_DRAIN_END (R160): the draining chamber has finished the row it held. -/
def execChmbDrainEnd (h : Nat) (s : State) : Out :=
  s.event (decide (h < 18) && s.st (pCHMB h) == stDraining && (s.chamber h).drained && (s.chamber h).row.isNone) fun s =>
    s.leave (pCHMB h)

/-- CHMB_POOL_JOIN (R161): CHMB_IN_SERVICE increases and the reserve held rises by one, up to the configured reserve (R23). -/
def execChmbPoolJoin (h : Nat) (s : State) : Out :=
  s.event (decide (h < 18) && s.isOn (pCHMB h) && s.works (pCHMB h) && !(s.chamber h).pooled && match (s.chamber h).joinAt with
    | some t => s.allGrpOff || s.frameAfter (s.page (pCHMB h)).since (t + 1000)
    | none => false) fun s =>
      { s.updChamber h fun y => { y with pooled := true, joinAt := none } with remapped := s.remapped - 1 }.chamberCount
        (s.fld pSYS F.SYS.ADM_RESOURCES_CHMB_IN_SERVICE + 1)
        (min (s.fld pSYS F.SYS.ADM_RESOURCES_RESERVE_HELD + 1) (s.fld pSYS F.SYS.CHMB_RESERVE_RESERVE))

/-- A CHMB page enters ON: it waits to join the pool, and the governor wakes it (R161, R495). -/
def State.chamberOn (s : State) (h : Nat) : State :=
  (s.updChamber h fun _ => { ChamberState.reset with joinAt := some s.now }).govChamberReturns h

end Sys2Proof.Machine
end

