-- ==== Sys2Proof/Machine/Output.lean ====
section
/-! DEFINITION. The output of a channel (spec/13, R328 to R336; spec/11, R268 to R274; spec/06, R153, R154; spec/20, R453): what is
handed over at a row's output instant, its packets, the gate, the row digest, the bitstream copy and the status record. -/

namespace Sys2Proof.Machine

/-! ## Pieces of a row (R169 to R171, R331) -/

/-- A whole NAL unit, or the part of one that is handed over with a row. -/
structure Piece where
  bytes : List Byte
  whole : Bool
  /-- It begins, it ends its NAL unit. -/
  begins : Bool
  ends : Bool
  /-- The two octets of its NAL unit header. -/
  header : List Byte
  /-- It belongs to the picture's last VCL NAL unit. -/
  lastVcl : Bool
deriving DecidableEq, Repr

/-- A whole NAL unit as a piece. -/
def Piece.ofNal (n : List Byte) : Piece := ⟨n, true, true, true, n.take 2, false⟩

/-- The pieces of row `k` in hand-over order (R171). -/
def State.rowPieces (s : State) (c : Nat) (x : PicRec) (k : Nat) (sub : List Byte) : List Piece :=
  let f := s.formOf c x
  let codec := s.codec c
  let rr := (s.geo c).rRows
  let oneNal := codec == 0 && s.act (pCHAN c) F.CHAN.CODEC_CFG_SLICE_MODE == 0
  let begins := !oneNal || k == 0
  let ends := !oneNal || k + 1 == rr
  let tail := s.rowTrailer [] c f k
  (if k = 0 then (s.headNals [] c f).map .ofNal else []) ++
    [⟨s.sliceHead [] c f k ++ sub, begins && ends, begins, ends, nalUnit codec f.sliceTypes.1 f.sliceTypes.2 [], oneNal || k + 1 == rr⟩] ++
    (if tail.isEmpty then [] else [.ofNal tail])

/-! ## RTP payloads (R331) -/

/-- An aggregation packet of whole NAL units; all are of layer 0 and TID 0. -/
def aggregate (codec : Nat) (ns : List (List Byte)) : List Byte :=
  (if codec = 0 then [0x00#8, BitVec.ofNat 8 (28 * 8 + 1)] else [BitVec.ofNat 8 (48 * 2), 0x01#8]) ++
    ns.flatMap fun n => beBytes n.length 2 ++ n

/-- The payloads of a list of units gathered for one packet: none, a single NAL unit packet, or an AP. -/
def flushUnits (codec : Nat) : List (List Byte) → List (List Byte)
  | [] => []
  | [n] => [n]
  | ns => [aggregate codec ns]

/-- One fragment: payload header, FU header with S, E and (VVC) P, and octets. -/
def fragmentOf (codec : Nat) (header : List Byte) (first last pbit : Bool) (bs : List Byte) : List Byte :=
  let h0 := (header.getD 0 0).toNat
  let h1 := (header.getD 1 0).toNat
  let se := first.toNat * 128 + last.toNat * 64
  (if codec = 0 then [BitVec.ofNat 8 h0, BitVec.ofNat 8 (29 * 8 + h1 % 8), BitVec.ofNat 8 (se + pbit.toNat * 32 + h1 / 8)]
   else [BitVec.ofNat 8 (h0 / 128 * 128 + 49 * 2 + h0 % 2), BitVec.ofNat 8 h1, BitVec.ofNat 8 (se + h0 / 2 % 64)]) ++ bs

/-- Fragments of `size` octets, the last shorter; `fuel` bounds their number. -/
def fragments (codec size : Nat) (p : Piece) : Nat → Bool → List Byte → List (List Byte)
  | 0, _, _ => []
  | fuel + 1, first, bs =>
    if bs.length ≤ size then [fragmentOf codec p.header (first && p.begins) p.ends (p.ends && p.lastVcl) bs]
    else fragmentOf codec p.header (first && p.begins) false false (bs.take size) :: fragments codec size p fuel false (bs.drop size)

/-- FU packets of a piece: the NAL unit's own header is not in an FU's payload. -/
def fragmentPiece (codec pm : Nat) (p : Piece) : List (List Byte) :=
  let bs := if p.begins then p.bytes.drop 2 else p.bytes
  fragments codec (pm - 3) p (bs.length + 1) true bs

/-- The RTP payloads of a row's pieces (R331). `ap` are the units gathered, `len` is ap_len. -/
def payloads (codec pm : Nat) : List (List Byte) → Nat → List Piece → List (List Byte)
  | ap, _, [] => flushUnits codec ap
  | ap, len, p :: ps =>
    let n := p.bytes.length
    if p.whole && decide (n + 4 ≤ pm) then
      if len + 2 + n > pm then flushUnits codec ap ++ payloads codec pm [p.bytes] (4 + n) ps
      else payloads codec pm (ap ++ [p.bytes]) (len + 2 + n) ps
    else if p.whole && decide (n ≤ pm) then flushUnits codec ap ++ [p.bytes] ++ payloads codec pm [] 2 ps
    else flushUnits codec ap ++ fragmentPiece codec pm p ++ payloads codec pm [] 2 ps

/-! ## Transport-stream packets (R332 to R335) -/

/-- A start code before a piece that begins a NAL unit: 4 octets before the access unit delimiter, 3 before any other (R333). -/
def startCode (aud : Bool) (p : Piece) : List Byte :=
  if !p.begins then [] else if aud then [0x00#8, 0x00#8, 0x00#8, 0x01#8] else [0x00#8, 0x00#8, 0x01#8]

/-- The byte stream of a row's pieces (R333). -/
def byteStream (k : Nat) (ps : List Piece) : List Byte :=
  ps.zipIdx.flatMap fun p => startCode (k == 0 && p.2 == 0) p.1 ++ p.1.bytes

/-- Header of a transport-stream packet: `afc` 1 payload only, 3 adaptation field and payload. -/
def tsHeader (pusi : Bool) (pid afc cc : Nat) : List Byte :=
  [0x47#8, BitVec.ofNat 8 (pusi.toNat * 64 + pid / 256 % 32), BitVec.ofNat 8 pid, BitVec.ofNat 8 (afc * 16 + cc % 16)]

/-- An adaptation field of `len` octets after its length octet: flags, PCR if any, stuffing. -/
def adaptation (pcr : Option Nat) (len : Nat) : List Byte :=
  match pcr with
  | some v =>
    let base := v / 300 % 2 ^ 33
    let x := base * 2 ^ 15 + 63 * 2 ^ 9 + v % 300
    BitVec.ofNat 8 len :: 0x10#8 :: (beBytes x 6 ++ List.replicate (len - 7) 0xFF#8)
  | none => if len = 0 then [0x00#8] else BitVec.ofNat 8 len :: 0x00#8 :: List.replicate (len - 1) 0xFF#8

/-- The video packets of a row from its octets: `pusi` on the first, PCR on the first, the last filled with stuffing (R333).
Answers the packets and the continuity counter after them. -/
def videoPackets (pid : Nat) : Nat → Bool → Option Nat → Nat → List Byte → List (List Byte)
  | 0, _, _, _, _ => []
  | fuel + 1, pusi, pcr, cc, bs =>
    let af := if pcr.isSome then 8 else 0
    let room := 184 - af
    if bs.length ≥ room then
      let pkt := tsHeader pusi pid (if pcr.isSome then 3 else 1) cc ++ (if pcr.isSome then adaptation pcr 7 else []) ++ bs.take room
      if bs.length = room then [pkt] else pkt :: videoPackets pid fuel false none (cc + 1) (bs.drop room)
    else [tsHeader pusi pid 3 cc ++ adaptation pcr (183 - bs.length) ++ bs]

/-- The PES header of an access unit (R333). -/
def pesHeader (pts : Nat) : List Byte :=
  [0x00#8, 0x00#8, 0x01#8, 0xE0#8, 0x00#8, 0x00#8, 0x84#8, 0x80#8, 0x05#8, BitVec.ofNat 8 (0x20 + pts / 2 ^ 30 % 8 * 2 + 1)] ++
    beBytes (pts / 2 ^ 15 % 2 ^ 15 * 2 + 1) 2 ++ beBytes (pts % 2 ^ 15 * 2 + 1) 2

/-- A section in a packet of its own: pointer field, section with its CRC, 0xFF (R334). -/
def sectionPacket (pid cc : Nat) (body : List Byte) : List Byte :=
  let sec := body ++ beBytes (crc32Mpeg body) 4
  tsHeader true pid 1 cc ++ 0x00#8 :: (sec ++ List.replicate (183 - sec.length) 0xFF#8)

/-- The PAT of a channel (R334). -/
def State.patBody (s : State) (c : Nat) : List Byte :=
  let p := pCHAN c
  [0x00#8] ++ beBytes (0xB000 + 13) 2 ++ beBytes (s.act p F.CHAN.TSID_ID) 2 ++ [0xC1#8, 0x00#8, 0x00#8] ++ beBytes 1 2 ++
    beBytes (0xE000 + s.act p F.CHAN.TS_PIDS_PMT_PID) 2

/-- The enabled TS_STREAM numbers of a channel. -/
def State.tsStreams (s : State) (c : Nat) : List Nat := (List.range 8).filter fun n => s.act (pCHAN c) (F.CHAN.TS_STREAM_EN n) == 1

/-- The PMT of a channel (R334). -/
def State.pmtBody (s : State) (c : Nat) : List Byte :=
  let p := pCHAN c
  let video := s.act p F.CHAN.TS_PIDS_VIDEO_PID
  let desc (n : Nat) : List Byte :=
    if s.act p (F.CHAN.TS_REG n) = 0 then [] else [0x05#8, 0x04#8] ++ beBytes (s.act p (F.CHAN.TS_REG n)) 4
  let es (ty pid : Nat) (d : List Byte) : List Byte :=
    BitVec.ofNat 8 ty :: (beBytes (0xE000 + pid) 2 ++ beBytes (0xF000 + d.length) 2 ++ d)
  let loop := es (if s.codec c = 0 then 0x33 else 0x24) video [] ++
    (s.tsStreams c).flatMap fun n => es (s.act p (F.CHAN.TS_STREAM_STREAM_TYPE n)) (s.act p (F.CHAN.TS_STREAM_PID n)) (desc n)
  [0x02#8] ++ beBytes (0xB000 + 9 + loop.length + 4) 2 ++ beBytes 1 2 ++
    [BitVec.ofNat 8 (0xC1 + s.fld p F.CHAN.PMT_VERSION_VERSION * 2), 0x00#8, 0x00#8] ++ beBytes (0xE000 + video) 2 ++
    beBytes 0xF000 2 ++ loop

/-- Change what the packetiser of a channel holds. -/
def State.updOut (s : State) (c : Nat) (f : OutState → OutState) : State := s.updChan c fun x => { x with out := f x.out }

/-- continuity_counter of a PID, and that it has been used `n` times more (R333). -/
def State.contOf (s : State) (c pid : Nat) : Nat := Tab.get 0 (s.chanOf c).out.cc pid
def State.contAdd (s : State) (c pid n : Nat) : State :=
  s.updOut c fun o => { o with cc := Tab.set 0 o.cc pid ((Tab.get 0 o.cc pid + n) % 16) }

/-- PSI is due at a picture (R332). -/
def State.psiDue (s : State) (c : Nat) (x : PicRec) : Bool :=
  let o := (s.chanOf c).out
  o.first || x.n % s.act (pCHAN c) F.CHAN.TS_CFG_PSI_EVERY == 0 || decide (x.kind < 2) ||
    match o.psiAt with
    | some m => decide (m ≤ x.n)
    | none => false

/-- PMT_VERSION counts the committed change that applies at picture `x` (R332). -/
def State.psiVersion (s : State) (c : Nat) (x : PicRec) : State :=
  match (s.chanOf c).out.psiAt with
  | some m =>
    if m ≤ x.n then
      (s.setFld (pCHAN c) F.CHAN.PMT_VERSION_VERSION (s.fld (pCHAN c) F.CHAN.PMT_VERSION_VERSION + 1)).updOut c fun o => { o with psiAt := none }
    else s
  | none => s

/-- The host packets of row `k` of picture `n`, each with its continuity counter rewritten (R335). -/
def State.hostPackets (s : State) (c : Nat) : List (List Byte) → State × List (List Byte)
  | [] => (s, [])
  | b :: bs =>
    let pid := (b.getD 1 0).toNat % 32 * 256 + (b.getD 2 0).toNat
    let cc := s.contOf c pid
    let b3 := (b.getD 3 0).toNat
    let payload := b3 / 16 % 2 == 1
    let out := b.take 3 ++ [BitVec.ofNat 8 (b3 / 16 * 16 + (if payload then cc else (cc + 15) % 16))] ++ b.drop 4
    let r := State.hostPackets (if payload then s.contAdd c pid 1 else s) c bs
    (r.1, out :: r.2)

/-- The transport-stream packets of a row (R332 to R335). -/
def State.tsRow (s : State) (c : Nat) (x : PicRec) (k : Nat) (ps : List Piece) : State × List (List Byte) :=
  let p := pCHAN c
  let video := s.act p F.CHAN.TS_PIDS_VIDEO_PID
  let pmt := s.act p F.CHAN.TS_PIDS_PMT_PID
  let r := s.rateOf (s.chanGroup c)
  let psi := k == 0 && s.psiDue c x
  let s1 : State := if psi then s.psiVersion c x else s
  let head := if psi then [sectionPacket 0 (s1.contOf c 0) (s1.patBody c), sectionPacket pmt (s1.contOf c pmt) (s1.pmtBody c)] else []
  let s2 : State := if psi then (s1.contAdd c 0 1).contAdd c pmt 1 else s1
  let pts := (alignPoint r.1 r.2 x.n * 9 / 100000 + s.act p F.CHAN.PTS_DELAY_TICKS) % 2 ^ 33
  let bs := (if k = 0 then pesHeader pts else []) ++ byteStream k ps
  let pcr := s.outPs c x k / 1000 * 27 / 1000
  let vs := videoPackets video (bs.length + 1) (k == 0) (some pcr) (s2.contOf c video) bs
  let s3 : State := s2.contAdd c video vs.length
  let mine := (s3.chanOf c).out.host.filter fun h => h.1 == x.n && h.2.1 == k
  let hs := (s3.updOut c fun o => { o with host := o.host.filter fun h => !(h.1 == x.n && h.2.1 == k) }).hostPackets c (mine.flatMap fun h => h.2.2)
  (hs.1, head ++ vs ++ hs.2)

/-- Groups of at most `n` packets, each one RTP payload. -/
def tsGroups (n : Nat) : Nat → List (List Byte) → List (List Byte)
  | 0, _ => []
  | fuel + 1, ps => if ps.isEmpty then [] else (ps.take n).flatten :: tsGroups n fuel (ps.drop n)

/-! ## Packets and frames (R328 to R330) -/

/-- Ones' complement sum of the 16-bit words of octets. -/
def onesSum : List Byte → Nat
  | [] => 0
  | [a] => a.toNat * 256
  | a :: b :: bs => a.toNat * 256 + b.toNat + onesSum bs

/-- Fold a sum into 16 bits and complement it. -/
def checksum (n : Nat) : Nat :=
  let f (v : Nat) : Nat := v % 65536 + v / 65536
  65535 - f (f (f n))

/-- The RTP header extension block (R270, R330). -/
def State.extension (s : State) (c k : Nat) (lastInRow lastRow : Bool) : List Byte :=
  let p := pCHAN c
  let cairn := if s.pairOn && s.bit pPAIR F.PAIR.PAIR_CFG_CAIRN_EN then s.cairnElement else []
  let row := if s.act p F.CHAN.OUT_CFG_ROW_EXT = 1 then
      BitVec.ofNat 8 (s.act p F.CHAN.OUT_CFG_ROW_ID * 16 + 2) :: (beBytes k 2 ++ [BitVec.ofNat 8 (lastInRow.toNat * 128 + lastRow.toNat * 64)])
    else []
  let body := padTo 4 (cairn ++ row)
  if body.isEmpty then [] else [0xBE#8, 0xDE#8] ++ beBytes (body.length / 4) 2 ++ body

/-- The RTP packet of a payload (R329). -/
def State.rtpPacket (s : State) (c : Nat) (x : PicRec) (k seq : Nat) (lastInRow marker : Bool) (payload : List Byte) : List Byte :=
  let p := pCHAN c
  let ts := s.act p F.CHAN.OUT_CFG_MODE == 1
  let r := s.rateOf (s.chanGroup c)
  let ext := s.extension c k lastInRow (k + 1 == (s.geo c).rRows)
  let stamp := if ts then s.outPs c x k / 1000 * 9 / 100000 % 2 ^ 32 else mediaClock r.1 r.2 x.n
  [BitVec.ofNat 8 (0x80 + (if ext.isEmpty then 0 else 0x10)),
    BitVec.ofNat 8 ((marker && !ts).toNat * 128 + (if ts then 33 else s.act p F.CHAN.OUT_CFG_PT))] ++
    beBytes (seq % 65536) 2 ++ beBytes stamp 4 ++ beBytes (s.act p F.CHAN.OUT_SSRC) 4 ++ ext ++ payload

/-- The frame of an RTP packet on path `b`, 0 A and 1 B, from DA up to the FCS, padded to 60 octets; its port writes SA
(R324, R329). -/
def State.outFrame (s : State) (c b : Nat) (rtp : List Byte) : Frame :=
  let p := pCHAN c
  let dip := s.act p (F.CHAN.PATH_DIP b)
  let sip := s.act p (F.CHAN.PATH_SIP b)
  let da := if dip / 2 ^ 28 = 14 then beBytes (0x01005E * 2 ^ 24 + dip % 2 ^ 23) 6
    else beBytes (s.act p (F.CHAN.PATH_DMAC_HI_ADDR b)) 2 ++ beBytes (s.act p (F.CHAN.PATH_DMAC_LO b)) 4
  let tag := if s.act p (F.CHAN.PATH_TAGS_VLAN_EN b) = 1 then
      beBytes 0x8100 2 ++ beBytes (s.act p (F.CHAN.PATH_TAGS_PCP b) * 8192 + s.act p (F.CHAN.PATH_TAGS_VID b)) 2
    else []
  let ulen := 8 + rtp.length
  let ports := beBytes (s.act p (F.CHAN.PATH_UDP_SRC b)) 2 ++ beBytes (s.act p (F.CHAN.PATH_UDP_DST b)) 2
  let pseudo := beBytes sip 4 ++ beBytes dip 4 ++ [0x00#8, 0x11#8] ++ beBytes ulen 2
  let sum := checksum (onesSum (pseudo ++ ports ++ beBytes ulen 2 ++ [0, 0] ++ rtp))
  let ucs := if s.act p F.CHAN.OUT_CFG_UDP_CSUM = 1 then (if sum = 0 then 65535 else sum) else 0
  let ip0 := [0x45#8, BitVec.ofNat 8 (s.act p (F.CHAN.PATH_TAGS_DSCP b) * 4)] ++ beBytes (20 + ulen) 2 ++ beBytes 0 2 ++ beBytes 0x4000 2 ++
    [BitVec.ofNat 8 (s.act p (F.CHAN.PATH_TAGS_TTL b)), 0x11#8]
  let ip1 := beBytes sip 4 ++ beBytes dip 4
  let eth := da ++ List.replicate 6 0 ++ tag ++ beBytes 0x0800 2 ++ ip0 ++ beBytes (checksum (onesSum (ip0 ++ [0, 0] ++ ip1))) 2 ++ ip1 ++
    ports ++ beBytes ulen 2 ++ beBytes ucs 2 ++ rtp
  { queue := s.act p (F.CHAN.PATH_QUEUE_QUEUE b), octets := eth ++ List.replicate (60 - eth.length) 0, chan := some c, stamp := none }

/-- A formed packet takes its number and comes to the gate: it passes whole to the queues of its paths, or is retained; where the gate has
opened at a later number it is discarded (R268, R269, R328). -/
def State.sendPacket (s : State) (c : Nat) (x : PicRec) (k : Nat) (lastInRow marker : Bool) (payload : List Byte) : State :=
  let p := pCHAN c
  let seq := s.fld p F.CHAN.SEQ_NEXT
  let rtp := s.rtpPacket c x k seq lastInRow marker payload
  let frames := s.outFrame c 0 rtp :: (if s.act p F.CHAN.OUT_CFG_DUAL = 1 then [s.outFrame c 1 rtp] else [])
  let s1 : State := (s.incFld p F.CHAN.SEQ_NEXT).incFld p F.CHAN.PKT_COUNT
  let before := match (s.chanOf c).out.opened with
    | some n => s.pairOn && !seqFrom seq n
    | none => false
  if s.gateOpen && before then s1
  else if s.gateOpen then
    { s1.updOut c fun o => { o with passed := some seq } with tsch := { s1.tsch with handoff := s1.tsch.handoff ++ frames } }
  else s1.updOut c fun o => { o with retained := o.retained ++ [⟨seq, s.now, frames⟩] }

/-- Send the payloads of a row in order; `last` marks the picture's last row. -/
def State.sendRow (s : State) (c : Nat) (x : PicRec) (k : Nat) (last : Bool) : List (List Byte) → State
  | [] => s
  | b :: bs => State.sendRow (s.sendPacket c x k bs.isEmpty (last && bs.isEmpty) b) c x k last bs

/-! ## The row digest (R273, R274) -/

/-- The octets that the digest of a row covers (R273). -/
def digestInput (c : Nat) (x : PicRec) (k : Nat) (r : RowRec) (seq packets : Nat) (nals : List Byte) : List Byte :=
  let z (i : Nat) : Nat := r.snap.getD i 0
  leBytes x.n 8 ++ [BitVec.ofNat 8 c, BitVec.ofNat 8 (r.plan.floor.toNat + r.forced.toNat * 2 + r.plan.cut.toNat * 4 + r.missing.toNat * 8 +
      x.absent.toNat * 16)] ++ leBytes k 2 ++ [BitVec.ofNat 8 r.plan.qp, BitVec.ofNat 8 x.kind, 0, 0] ++ leBytes r.plan.cap 4 ++ leBytes seq 4 ++
    leBytes packets 2 ++ List.replicate 6 0 ++ leBytes r.sseY 6 ++ leBytes r.sseC 6 ++ leBytes (z 0) 12 ++ leBytes (z 1) 12 ++ leBytes (z 2) 4 ++
    leBytes (z 3) 2 ++ leBytes (z 4) 2 ++ leBytes (z 5) 2 ++ [BitVec.ofNat 8 (z 6), 0] ++ leBytes (z 7) 12 ++ leBytes (z 8) 4 ++ nals

/-- An entry of DIGEST (R315). -/
def digestEntry (c k n digest bits : Nat) : List Byte :=
  [BitVec.ofNat 8 c, 0] ++ beBytes k 2 ++ beBytes n 8 ++ beBytes digest 8 ++ beBytes bits 4

/-- Put an entry among those of a DIGEST, in ascending channel and row. -/
def insertEntry (e : List Byte) : Nat → List Byte → List Byte
  | 0, bs => e ++ bs
  | m + 1, bs => if beNat (e.take 4) < beNat (bs.take 4) then e ++ bs else bs.take 24 ++ insertEntry e m (bs.drop 24)

/-- A DIGEST body with one more entry. -/
def addEntry (body e : List Byte) : List Byte :=
  let n := (body.getD 0 0).toNat
  [BitVec.ofNat 8 (n + 1), 0, 0, 0] ++ insertEntry e n (body.drop 4)

/-- Send a row's digest: rows whose output instants fall in one FABRIC cycle share a message of up to 32 entries (R274). -/
def State.sendDigest (s : State) (e : List Byte) : State :=
  match s.rope.held.getLast? with
  | some f =>
    if f.type = 0x20 ∧ f.sentAt = s.fabric ∧ (f.body.getD 0 0).toNat < 32 ∧ s.linkActive then
      { s with rope := { s.rope with held := s.rope.held.dropLast ++ [{ f with body := addEntry f.body e }] } }
    else s.ropeSend 0x20 ([1, 0, 0, 0] ++ e)
  | none => s.ropeSend 0x20 ([1, 0, 0, 0] ++ e)

/-! ## The bitstream copy and the status record (R154, R453) -/

/-- The BITSTREAM rings that copy a channel. -/
def State.copyRing (s : State) (c : Nat) : Option Nat :=
  (List.range 256).find? fun r => s.ringRole r 5 && s.fld (pDMA r) F.DMA.RING_CFG_SOURCE == c

/-- The bitstream record of a row (R453). -/
def bitstreamRecord (c : Nat) (x : PicRec) (k : Nat) (lastRow gate : Bool) (ts : Nat) (bs : List Byte) : List Byte :=
  padTo 8 (leBytes x.n 8 ++ leBytes (c + k * 2 ^ 16 + lastRow.toNat * 2 ^ 24 + gate.toNat * 2 ^ 25 + bs.length * 2 ^ 32) 8 ++ leBytes ts 8 ++
    leBytes 0 8 ++ bs)

/-- Row slack: output instant less end of coding, ps; 0 for a row that ended after it. -/
def State.slackPs (s : State) (c : Nat) (x : PicRec) (k : Nat) : Nat :=
  s.outPs c x k - ((Tab.get .reset x.rows k).endedAt).getD 0

/-- Smallest slack over the rows of a picture, ps. -/
def State.minSlack (s : State) (c : Nat) (x : PicRec) : Nat :=
  let rr := (s.geo c).rRows
  (List.range rr).foldl (fun m k => min m (s.slackPs c x k)) (s.slackPs c x 0)

/-- The per-picture status record (R154). -/
def State.statusRecord (s : State) (c : Nat) (x : PicRec) : List Byte :=
  let rr := (s.geo c).rRows
  let r := s.rateOf (s.chanGroup c)
  let row (k : Nat) : RowRec := Tab.get .reset x.rows k
  let ks := List.range rr
  let any (f : RowRec → Bool) : Nat := (ks.any fun k => f (row k)).toNat
  let sum (f : RowRec → Nat) : Nat := ks.foldl (fun a k => a + f (row k)) 0
  let flags := any (fun z => z.plan.floor) + (s.cutPic c x.n).toNat * 2 + x.absent.toNat * 4 + any (fun z => z.missing) * 8 +
    any (fun z => z.resumed) * 16 + any (fun z => z.forced) * 32 + x.prot.toNat * 64 + x.layer.toNat * 128
  leBytes x.n 8 ++ leBytes (mediaClock r.1 r.2 x.n + c * 2 ^ 32 + s.chanGroup c * 2 ^ 40 + (64 + 24 * rr) * 2 ^ 48) 8 ++
    leBytes (ks.foldl (fun a k => a + s.hdrSent [] c (s.formOf c x) k + 8 * (row k).bytes.length) 0 % 2 ^ 40 + x.kind * 2 ^ 40 + flags * 2 ^ 48) 8 ++
    leBytes (sum (fun z => z.sseY) % 2 ^ 48) 8 ++ leBytes (sum (fun z => z.sseC) % 2 ^ 48) 8 ++
    leBytes (sum (fun z => z.plan.floor.toNat) + min (s.minSlack c x / 1000000) 65535 * 2 ^ 16) 8 ++ List.replicate 16 0 ++
    ks.flatMap fun k =>
      let z := row k
      leBytes (z.sseY % 2 ^ 48 + z.plan.qp * 2 ^ 48 + z.plan.floor.toNat * 2 ^ 56 + z.forced.toNat * 2 ^ 57 + z.resumed.toNat * 2 ^ 58 +
        z.plan.cut.toNat * 2 ^ 59 + z.missing.toNat * 2 ^ 60) 8 ++ leBytes (z.sseC % 2 ^ 48) 8 ++
        leBytes (8 * z.bytes.length + s.csum c x.n k * 2 ^ 32) 8

/-- The status record is offered to its ring; with no room it is dropped: STATUS_DROP, ERR_COUNT0 (R154). -/
def State.chanStatus (s : State) (c : Nat) (x : PicRec) : State :=
  let p := pCHAN c
  if s.act p F.CHAN.STATUS_CFG_EN = 1 then
    let o := s.offer (s.act p F.CHAN.STATUS_CFG_RING) p (s.statusRecord c x)
    if o.2 then o.1 else (o.1.raise p F.CHAN.intSTATUS_DROP).err p 0
  else s

/-! ## The output instant (R15, R141) -/

/-- The picture's last row is out: PIC_DONE, REFRESH, PIC_COUNT, SLACK, its status record; it leaves the channel. -/
def State.picOut (s : State) (c : Nat) (x : PicRec) : State :=
  let p := pCHAN c
  let s1 : State := s.raise p F.CHAN.intPIC_DONE
  let s2 : State := if x.kind = 0 ∨ ((x.kind = 1 ∨ x.kind = 2) ∧ x.wave + 1 = x.g) then s1.raise p F.CHAN.intREFRESH else s1
  let s3 : State := (s2.put64L p F.CHAN.PIC_COUNT_LO (s2.live64 p F.CHAN.PIC_COUNT_LO + 1)).setReg (F.CHAN.SLACK.addr p)
    (sat32 (s.minSlack c x / 1000))
  (s3.chanStatus c x).updChan c fun y => { y with pics := y.pics.filter fun z => z.n != x.n, looks := y.looks.filter fun z => decide (z.n > x.n) }

/-- The packets of a row are formed and come to the gate (R328 to R335). -/
def State.packetise (s : State) (c : Nat) (x : PicRec) (k : Nat) (ps : List Piece) : State :=
  let p := pCHAN c
  let last := k + 1 == (s.geo c).rRows
  let s1 : State × List (List Byte) :=
    if s.act p F.CHAN.OUT_CFG_MODE = 1 then
      let r := s.tsRow c x k ps
      (r.1, tsGroups (s.act p F.CHAN.TS_CFG_TS_PER_RTP) r.2.length r.2)
    else (s, payloads (s.codec c) (s.act p F.CHAN.PAYLOAD_MAX_OCTETS) [] 2 ps)
  (s1.1.sendRow c x k last s1.2).updOut c fun o => { o with first := false }

/-- Row `k` of picture `x` is handed over (R15, R171, R268, R273, R274, R453). -/
def State.outputRow (s : State) (c : Nat) (x : PicRec) (k : Nat) : State :=
  let p := pCHAN c
  let g := s.geo c
  let r := Tab.get .reset x.rows k
  let ps := s.rowPieces c x k r.bytes
  let gate := s.gateOpen
  let seq := s.fld p F.CHAN.SEQ_NEXT
  let rate := s.rateOf (s.chanGroup c)
  let s1 : State := match s.copyRing c with
    | some q => (s.offer q p (bitstreamRecord c x k (k + 1 == g.rRows) gate (mediaClock rate.1 rate.2 x.n) (byteStream k ps))).1
    | none => s
  let s2 : State := s1.packetise c x k ps
  let count := wrapSub (s2.fld p F.CHAN.SEQ_NEXT) seq (2 ^ 32)
  let bits := 8 * r.bytes.length + s.hdrSent [] c (s.formOf c x) k
  let s3 : State :=
    if s2.pairOn then
      let d := crc64 (digestInput c x k r seq count (ps.flatMap Piece.bytes))
      (s2.sendDigest (digestEntry c k x.n d bits)).ownDigest c ⟨x.n, k, d, bits, s.outPs c x k + 2 * g.tr⟩
    else s2
  let s4 : State := s3.updRow c x.n k fun z => { z with sent := true }
  if k + 1 = g.rRows then
    match s4.picRec c x.n with
    | some y => s4.picOut c y
    | none => s4
  else s4

/-- Run `f` for picture `n` of channel `c`: a picture before the boundary of a commit completes under the values before it (R53). -/
def State.withOld (s : State) (c n : Nat) (f : State → State) : State :=
  match (s.chanOf c).oldCfg.find? fun e => decide (n < e.1) with
  | some (_, cells) => (f (s.setActive (pCHAN c) cells)).setActive (pCHAN c) (s.activeCells (pCHAN c))
  | none => f s

/-- The number of rows of a picture handed over. -/
def PicRec.sentRows (x : PicRec) : Nat := (x.rows.filter fun r => r.2.sent).length

/-- OUTPUT_INSTANT (R15, R141): at O(k), or when a late row of a join completes (R520), row `k` of the oldest picture of channel
`c`, of frame index `n`, is handed over; rows in order. -/
def execOutputInstant (c n k : Nat) (s : State) : Out :=
  s.event (decide (c < 64) && s.chanOn c && s.running && match (s.chanOf c).pics.head? with
    | some x => x.n == n && k == x.sentRows && decide (k < x.rows.length) && ((Tab.get .reset x.rows k).endedAt).isSome &&
        decide (s.nowPs ≥ s.outPs c x k)
    | none => false) fun s =>
      match s.picRec c n with
      | some x => s.withOld c n fun t => t.outputRow c x k
      | none => s

/-! ## Host transport-stream records (R335) -/

/-- The packets of a TS-insert record. -/
def hostRecordPackets : Nat → List Byte → List (List Byte)
  | 0, _ => []
  | n + 1, bs => if bs.length < 188 then [] else bs.take 188 :: hostRecordPackets n (bs.drop 188)

/-- A packet that may be inserted: sync octet, and a PID of an enabled TS_STREAM. -/
def State.hostPacketOk (s : State) (c : Nat) (b : List Byte) : Bool :=
  b.getD 0 0 == 0x47#8 && (s.tsStreams c).any fun n =>
    s.act (pCHAN c) (F.CHAN.TS_STREAM_PID n) == (b.getD 1 0).toNat % 32 * 256 + (b.getD 2 0).toNat

/-- Frame index of the frame cycle in which a channel codes picture `n` (R148). -/
def ChanGeo.codedIn (g : ChanGeo) (n : Nat) : Nat := if g.buffered then n + g.depth else n

/-- A TS-insert record is taken (R335). -/
def State.takeHostTs (s : State) (c : Nat) (rec : List Byte) : State :=
  let p := pCHAN c
  let g := s.geo c
  let n := leNat (rec.take 8)
  let r := leNat ((rec.drop 8).take 2)
  let ps := hostRecordPackets ((rec.drop 10).getD 0 0).toNat (rec.drop 16)
  let notAfter := match (s.chanOf c).out.lastHost with
    | some (m, j) => !rowAfter n r m j
    | none => false
  let late := decide (r < g.rRows) && decide (s.nowPs > s.firePs (s.chanGroup c) (g.codedIn n) + g.releaseAt r)
  let s1 : State := s.updOut c fun o => { o with lastHost := some (n, r) }
  if notAfter || late then (s1.raise p F.CHAN.intHOST_TS_LATE).errBy p 5 ps.length
  else
    let ok := if r < g.rRows then (ps.filter (s.hostPacketOk c)).take (s.act p F.CHAN.TS_CFG_HOST_MAX) else []
    let bad := ps.length - ok.length
    let s2 : State := s1.updOut c fun o => { o with host := o.host ++ [(n, r, ok)] }
    if bad = 0 then s2 else (s2.raise p F.CHAN.intHOST_TS_OVER).errBy p 6 bad

/-- TS_HOST_RECORD (R335): the channel takes the next record of its TS-insert ring. -/
def execTsHostRecord (c : Nat) (s : State) : Out :=
  let p := pCHAN c
  let r := s.act p F.CHAN.TS_CFG_HOST_RING
  s.event (decide (c < 64) && s.chanOn c && s.act p F.CHAN.OUT_CFG_MODE == 1 && s.act p F.CHAN.TS_CFG_HOST_EN == 1 && s.ringRole r 9) fun s =>
    match s.takeRecord r with
    | some (rec, t) => t.takeHostTs c rec
    | none => s

/-- A channel enters ON: its packetiser starts afresh (R328, R332). -/
def State.outEnter (s : State) (c : Nat) : State :=
  (s.updOut c fun _ => .reset).setReg (F.CHAN.SEQ_NEXT.addr (pCHAN c)) (BitVec.ofNat 32 (s.act (pCHAN c) F.CHAN.SEQ_INIT))

end Sys2Proof.Machine
end

