-- ==== Sys2Proof/Machine/PairJoin.lean ====
section
/-! DEFINITION. A standby channel joins the active at a refresh point: SNAPSHOT and DECISION (spec/11: R286, R287, R519,
R520). -/

namespace Sys2Proof.Machine

/-- The picture and row of channel `c` with output instant `at'`, counter ps. -/
def State.rowAtOut (s : State) (c at' : Nat) : Option (PicRec × Nat) :=
  (s.chanOf c).pics.findSome? fun x => ((List.range (s.geo c).rRows).find? fun k => s.outPs c x k == at').map fun k => (x, k)

/-- A ledger entry of SNAPSHOT as this unit holds it (R286; log entry 54). -/
def State.ledgerEntry (s : State) (c : Nat) (e : Nat × Nat × Nat) : Ledger :=
  match s.rowAtOut c e.1 with
  | some (x, k) => ⟨x.n, k, e.1, e.2.1, e.2.2, s.rowClass c x k, s.hdr [] c (s.formOf c x) k, s.fr [] c (s.formOf c x) k, none, e.2.2 != 0⟩
  | none => ⟨0, 0, e.1, e.2.1, e.2.2, 1, 0, 0, none, e.2.2 != 0⟩

/-- The rate-control state of SNAPSHOT replaces the channel's own (R212, R286). -/
def State.takeSnapshot (s : State) (m : SnapshotMsg) : State :=
  let c := m.chan
  let s1 := s.updRc c fun r => { r with
    qk := m.qk, tk := m.tk, crem := m.crem, qlast := m.qlast
    ledger := m.ledger.map (s.ledgerEntry c)
    prevI := m.sums.map Prod.fst
    prevC := m.sums.map Prod.snd }
  let s2 := [0, 1, 2].foldl (fun t k => t.setFld (pCHAN c) (F.CHAN.RC_SCALE_SCALE k) (m.scales.getD k 4096)) s1
  if s.pooled c then s2.setGrp (s.chanGroup c) { s2.grpOf (s.chanGroup c) with qs := m.qs, ts := m.ts, srem := m.srem } else s2

/-- Picture `n0` becomes a refresh picture of kind 0 (IDR) or 1 (first of a wave), and its budget is discarded (R286). -/
def State.forceRefresh (s : State) (c n0 kind : Nat) : State :=
  match s.picRec c n0 with
  | none => s
  | some x =>
    let g := s.act (pCHAN c) F.CHAN.REFRESH_CFG_GDR_PICS
    let s1 : State := match x.buf with
      | some i =>
        (s.setBufs c ((s.chanOf c).bufs.zipIdx.map fun b => if b.2 = i then .reset else b.1)).updChan c fun y =>
          { y with refresh := { y.refresh with list := y.refresh.list.filter (· != i) } }
      | none => s
    let s2 : State := s1.updChan c fun y => { y with pics := y.pics.filter fun z => z.n != n0 }
    let old := (s2.chanOf c).refresh
    let refs := s2.refsFor c kind
    let s3 : State := s2.updChan c fun y => { y with refresh := s2.refreshAfter c n0 kind 0 g }
    ((s3.showRefresh c n0 kind 0).enterPic c
      { x with kind := kind, wave := 0, g := g, clean := old.clean, poc := wrapSub n0 (s3.chanOf c).refresh.nIdr (2 ^ 32),
               refs := refs, buf := none, spent := 0, rows := [] }).putBudget c n0 0

/-- SNAPSHOT came in time for its picture: before X(0), with no row placed (R287). -/
def State.snapshotInTime (s : State) (c n0 : Nat) : Bool :=
  match s.picRec c n0 with
  | some x => x.rows.isEmpty && decide (s.nowPs ≤ x.fire * 1000 + (s.geo c).releaseAt 0)
  | none => false

/-- SNAPSHOT on a standby whose channel is OUT_OF_STEP (R285 to R287, R520). -/
def State.onSnapshot (m : SnapshotMsg) (s : State) : State :=
  let c := m.chan
  if c ≥ 64 || s.isActive || !s.chanOn c || s.chStep c != ncOutOfStep then s
  else if s.snapshotInTime c m.n0 then
    let kind := if m.kind = 0 then 0 else 1
    let s1 := (s.takeSnapshot m).forceRefresh c m.n0 kind
    let last := match s1.picRec c m.n0 with
      | some x => lastRefresh x
      | none => m.n0
    (s1.updChan c fun y => { y with pair := { y.pair with
      join := some (m.n0, last), sender := false, own := [], peer := [], take := [], decisions := [], failed := none } }).setStep
      c ncJoining
  else s.joinFailed c 0 m.n0 3 true

def execSnapshot (seq : Nat) (m : SnapshotMsg) (s : State) : Out := .next (s.pairMsg seq (State.onSnapshot m))

/-- DECISION for a row that this unit receives: late after its output instant; else its row is placed if it has been
released (R286, R287). -/
def State.onDecision (c : Nat) (d : Decision) (s : State) : State :=
  if c ≥ 64 || !s.receiving c d.n then s
  else match s.picRec c d.n with
    | none => s.updChan c fun y => { y with pair := { y.pair with decisions := y.pair.decisions ++ [d] } }
    | some x =>
      if s.outPs c x d.k < s.nowPs then s.joinFailed c d.k d.n 3 true
      else
        let s1 : State := s.updChan c fun y => { y with pair := { y.pair with decisions := y.pair.decisions ++ [d] } }
        if s1.released c x d.k then s1.placeRow c d.n d.k else s1

def execDecision (seq c n k cap qp : Nat) (floor : Bool) (e : Nat) (s : State) : Out :=
  .next (s.pairMsg seq (State.onDecision c ⟨n, k, cap, qp, floor, e⟩))

end Sys2Proof.Machine
end

