-- ==== Sys2Proof/Machine/Check.lean ====
section
/-! DEFINITION. The enable check and the commit check of every unit (R44 to R49): the tests of a page in the order of the steps
and of their detail codes, and the admission terms of its configuration (R19 to R25). A configuration is read through
`State.cv`, so that one list of tests serves both checks (R46). -/

namespace Sys2Proof.Machine

/-! ## Shared tests -/

/-- The magnitude of a signed ns offset is not below one period of the group's compare. -/
def State.offsetLong (s : State) (g off : Nat) : Bool :=
  match s.groupRate g with
  | some r => decide ((sext32 off).natAbs * r.1 ≥ r.2.1 * 1000000000)
  | none => false

/-- No compare with ACTION 2 is armed for group `g` (R106). -/
def State.noCompare (s : State) (g : Nat) : Bool := (s.compareOf g).isNone

/-- A ring in FAULT (R44). -/
def State.ringFault (s : State) (r : Nat) : Bool := s.st (pDMA r) == stFault

/-- A ring that is not ON in a role. -/
def State.ringNot (s : State) (r role : Nat) : Bool := !(s.isOn (pDMA r) && s.fld (pDMA r) F.DMA.RING_CFG_ROLE == role)

/-- An SRC page that is not OFF took other values from input page `p` (R116, INPUT_BOUND). -/
def State.inputBound (s : State) (incl : List Nat) (p : Nat) : Bool :=
  (List.range 32).any fun n =>
    s.inUse (pSRC n) && (s.srcOf n).input == p && ((s.srcOf n).geom, (s.srcOf n).group) != s.inputGeom incl p

/-- The line stores would overflow with page `p` (R105). -/
def State.linesFull (s : State) (incl : List Nat) (p : Nat) : Bool :=
  decide ((lineStorePages.filter fun q => q == p || s.inUse q).foldl (fun n q => n + s.lsBytes incl q) 0 > 33554432)

/-- A queue that a page wants is not ready: not enabled, or MAX_FRAME too small (R344). -/
def State.queueUnready (s : State) (q largest : Nat) : Bool := !s.qEn q || decide (s.qfld F.QTAB.Q_CTRL_MAX_FRAME q < largest)

/-- Another page owns queue `q` (R344). -/
def State.queueTaken (s : State) (q : Nat) (chan : Bool) (inst : Nat) : Bool :=
  let k := s.qfld F.QTAB.Q_OWNER_KIND q
  k != 0 && !((k != 3) == chan && s.qfld F.QTAB.Q_OWNER_INSTANCE q == inst)

/-! ## Clocks and inputs (R66, R91 to R106, R115) -/

/-- TIME (R66). -/
def State.checkTime (s : State) : List Test × List Test :=
  ([(decide (s.fld pTIME F.TIME.TIME_CFG_PPS_WIDTH = 0) || decide (s.fld pTIME F.TIME.TIME_CFG_PPS_WIDTH > 50000), Cls.range, 0x03),
    (!incrInRange (s.fld pTIME F.TIME.INCR) || !incrInRange (s.fld pTIME F.TIME.SLEW_INCR), Cls.range, 0x10),
    (!s.bit pTIME F.TIME.CLK_STATUS_ROOT_LOCK, Cls.dependency, 0x18)], [])

/-- Inputs of the link set that a page assembles: the page's own first (R94). -/
def linkSet (n links : Nat) : List Nat := (List.range (2 ^ links)).map (n + ·)

/-- Another page of the link set of SDIRX `n` is not OFF, or the page belongs to the set of one that is not (R94). -/
def State.linkBusy (s : State) (incl : List Nat) (n : Nat) : Bool :=
  (linkSet n (s.cv incl (pSDIRX n) F.SDIRX.SDI_CFG_LINKS)).any (fun m => m != n && m < 16 && s.inUse (pSDIRX m)) ||
    (List.range 16).any fun m => m != n && s.inUse (pSDIRX m) && (linkSet m (s.cv incl (pSDIRX m) F.SDIRX.SDI_CFG_LINKS)).contains n

/-- SDIRX `n`. -/
def State.checkSdirx (s : State) (incl : List Nat) (n : Nat) : List Test × List Test :=
  let p := pSDIRX n
  let links := s.cv incl p F.SDIRX.SDI_CFG_LINKS
  let geom := s.cv incl p F.SDIRX.SDI_CFG_GEOM
  let g := s.cv incl p F.SDIRX.SDI_CFG_INDEX_GROUP
  let anc := s.cv incl p F.SDIRX.SDI_CFG_ANC_EN == 1
  let ring := s.cv incl p F.SDIRX.SDI_CFG_ANC_RING
  let r := s.rateOf g
  ([(s.offsetLong g (s.cv incl p F.SDIRX.ALIGN_OFFSET), Cls.range, 0x03),
    (links == 3 || geom == 0 || (List.range 16).any fun i => s.cv incl p (F.SDIRX.ANC_FILTER_SPACE i) == 3, Cls.range, 0x04),
    ([24, 50, 100].all (fun f => (sdiRate geom links f 1).isNone) || n % 2 ^ links != 0, Cls.range, 0x10),
    (anc && s.absent (pDMA ring), Cls.absent, 0x05),
    (anc && s.ringFault ring, Cls.resource, 0x0E),
    (anc && s.ringNot ring 4, Cls.dependency, 0x11)],
   [(s.linkBusy incl n, Cls.conflict, 0x12),
    (s.inputBound incl p, Cls.conflict, 0x15),
    (s.linesFull incl p, Cls.capacity, 0x0C),
    (s.noCompare g, Cls.timing, 0x13),
    ((sdiRate geom links r.1 r.2).isNone, Cls.timing, 0x14)])

/-- The flow of a path: port, UDP port, destination, source filter (R100). -/
def State.ipFlow (s : State) (incl : List Nat) (p i : Nat) : Nat × Nat × Nat × Nat :=
  (s.cv incl p (F.IPIN.PATH_PORT_ETH i), s.cv incl p (F.IPIN.PATH_PORT_UDP i), s.cv incl p (F.IPIN.PATH_DEST i),
    s.cv incl p (F.IPIN.PATH_SRC i))

/-- The paths that a page uses. -/
def State.flows (s : State) (incl : List Nat) (p : Nat) : List (Nat × Nat × Nat × Nat) :=
  (List.range (if s.cv incl p F.IPIN.IP_CFG_DUAL = 1 then 2 else 1)).map (s.ipFlow incl p)

/-- Two paths name the same port, destination, UDP port and source (R515). -/
def sameFlow (a b : Nat × Nat × Nat × Nat) : Bool := a == b

/-- IPIN `n`. -/
def State.checkIpin (s : State) (incl : List Nat) (n : Nat) : List Test × List Test :=
  let p := pIPIN n
  let fs := s.flows incl p
  let rate := s.cv incl p F.IPIN.POLICE_RATE_RATE
  let burst := s.cv incl p F.IPIN.POLICE_BURST_BURST
  ([(fs.any fun f => f.2.1 == 0, Cls.range, 0x03),
    (decide (s.cv incl p F.IPIN.IP_CFG_MODE ≥ 2) || s.cv incl p F.IPIN.IP_CFG_GEOM == 0, Cls.range, 0x04),
    (decide (rate < 1 ∨ 100000 < rate ∨ burst < 9216 ∨ 4194304 < burst), Cls.range, 0x10),
    (decide (s.cv incl p F.IPIN.JITTER_NS_JITTER > 1000000), Cls.range, 0x11),
    (fs.any fun f => s.absent (pETH f.1), Cls.absent, 0x05),
    (fs.any fun f => !s.isOn (pETH f.1), Cls.dependency, 0x06)],
   [((List.range 32).any fun m => m != n && s.works (pIPIN m) && fs.any fun f => (s.flows incl (pIPIN m)).any (sameFlow f),
      Cls.conflict, 0x12),
    (s.inputBound incl p, Cls.conflict, 0x14),
    (s.linesFull incl p, Cls.capacity, 0x0C),
    (s.noCompare (s.cv incl p F.IPIN.IP_CFG_INDEX_GROUP), Cls.timing, 0x13)])

/-! ## Sources and scalers (R116 to R136) -/

/-- Input page, geometry code and index group that SRC `n` takes at its enable check: from the input's active copy if it is ON
or DRAINING, and from its shadow copy otherwise (R116). -/
def State.srcTakes (s : State) (incl : List Nat) (n : Nat) : Nat × Nat × Nat :=
  let q := inputPage (s.cv incl (pSRC n) F.SRC.SRC_CFG_INPUT_KIND) (s.cv incl (pSRC n) F.SRC.SRC_CFG_INPUT)
  let v := if s.works q then s.inputGeom [] q else (s.capture q).inputGeom [q] q
  (q, v.1, v.2)

/-- A layer breaks R117 or R118: its placement in a picture of `w` × `h`, its buffer or its stride. -/
def layerBad (w h fmt pos size base stride : Nat) : Bool :=
  let x := loHalf pos
  let y := hiHalf pos
  let lw := loHalf size
  let lh := hiHalf size
  x % 2 != 0 || lw % 2 != 0 || decide (lw < 2) || decide (lh < 1) || decide (x + lw > w) || decide (y + lh > h) ||
    base % 64 != 0 || stride % 64 != 0 || decide (stride % 2 ^ 24 < ceil64 (lw * layerBpp fmt))

/-- A region breaks R124. -/
def regionBad (w h pos size : Nat) : Bool :=
  loHalf pos % 2 != 0 || loHalf size % 2 != 0 || decide (loHalf size < 2) || decide (hiHalf size < 1) ||
    decide (loHalf pos + loHalf size > w) || decide (hiHalf pos + hiHalf size > h)

/-- SRC `n`; its geometry is that of its input as it stands at the check, or as the page holds it (R116). -/
def State.checkSrc (s : State) (incl : List Nat) (n : Nat) : List Test × List Test :=
  let p := pSRC n
  let t := if s.works p then ((s.srcOf n).input, (s.srcOf n).geom, (s.srcOf n).group) else s.srcTakes incl n
  let w := geomW t.2.1
  let h := geomH t.2.1
  let layers := ((List.range 8).drop 1).filter fun i => s.cv incl p (F.SRC.LAYER_CTRL_EN i) == 1
  let regions := (List.range 16).filter fun i => s.cv incl p (F.SRC.SIG_CTRL_EN i) == 1
  let mode := s.fld p F.SRC.PROT_CFG_MODE
  ([(s.fld p F.SRC.PROT_CFG_RELEASE == 0, Cls.range, 0x03),
    (s.cv incl p F.SRC.SRC_CFG_INPUT_KIND == 3 || mode == 3 || (mode != 0 && s.fld p ⟨0x600, 4, 2⟩ == 0) ||
      layers.any fun i => s.cv incl p (F.SRC.LAYER_CTRL_FMT i) == 0, Cls.range, 0x04),
    ((layers.any fun i => layerBad w h (s.cv incl p (F.SRC.LAYER_CTRL_FMT i)) (s.cv incl p (F.SRC.LAYER_POS i))
        (s.cv incl p (F.SRC.LAYER_SIZE i)) (s.cvAddr incl p (F.SRC.LAYER_BASE_LO i)) (s.cv incl p (F.SRC.LAYER_STRIDE i))) ||
      (mode != 0 && layerBad w h (s.fld p ⟨0x600, 4, 2⟩) (s.fld p F.SRC.PROT_POS) (s.fld p F.SRC.PROT_SIZE)
        (s.addr36 p F.SRC.PROT_BASE_LO) (s.fld p F.SRC.PROT_STRIDE)), Cls.range, 0x10),
    (regions.any fun i => regionBad w h (s.cv incl p (F.SRC.SIG_POS i)) (s.cv incl p (F.SRC.SIG_SIZE i)), Cls.range, 0x11),
    (mode == 0 && (List.range 16).any fun i => s.cv incl p (F.SRC.SIG_CTRL_ACTION i) == 1, Cls.range, 0x12),
    (!inputExists (s.cv incl p F.SRC.SRC_CFG_INPUT_KIND) (s.cv incl p F.SRC.SRC_CFG_INPUT) || s.absent t.1, Cls.absent, 0x05),
    (s.st t.1 == stFault, Cls.resource, 0x0E),
    (mode != 0 && !s.bit p F.SRC.PROT_LOCK_LOCK, Cls.dependency, 0x13)],
   [((List.range 32).any fun m => m != n && s.inUse (pSRC m) && (s.srcOf m).input == t.1, Cls.conflict, 0x14)])

/-- The table at `base` of an axis with `taps` taps breaks R133. -/
def coefBad (bs : List Byte) (base taps : Nat) : Bool :=
  (List.range 64).any fun ph =>
    let cs := (List.range taps).map (coefAt bs base ph)
    decide (cs.foldl (· + ·) 0 ≠ 1024) || cs.any fun c => decide (c < -2048) || decide (c > 2047)

/-- One axis breaks R130: its size, or its ratio to the input where that is known (0 where not). -/
def sizeBad (lo hi nIn nOut : Nat) : Bool :=
  nOut % 2 != 0 || decide (nOut < lo) || decide (nOut > hi) || (nIn != 0 && (decide (nIn > 8 * nOut) || decide (nOut > 4 * nIn)))

/-- SCAL `n`. The ratio and the table are tested against the geometry that the source holds (R116). -/
def State.checkScal (s : State) (incl : List Nat) (n : Nat) : List Test × List Test :=
  let p := pSCAL n
  let src := s.cv incl p F.SCAL.SCAL_CFG_SOURCE
  let held := s.inUse (pSRC src)
  let wi := if held then geomW (s.srcOf src).geom else 0
  let hi := if held then geomH (s.srcOf src).geom else 0
  let w := s.cv incl p F.SCAL.OUT_SIZE_W
  let h := s.cv incl p F.SCAL.OUT_SIZE_H
  let th := s.cv incl p F.SCAL.SCAL_CFG_TAPS_H
  let tv := s.cv incl p F.SCAL.SCAL_CFG_TAPS_V
  let gang := s.cv incl p F.SCAL.SCAL_CFG_GANG == 1
  let filters := held && (wi != w || hi != h)
  let base := s.cvAddr incl p F.SCAL.COEF_BASE_LO
  let used (vertical : Bool) : Bool := if vertical then hi != h else wi != w
  let bad (bs : List Byte) : Bool := (used false && coefBad bs 0 (2 * th)) || (used true && coefBad bs 2048 (2 * tv))
  let parts := (if used false then [base] else []) ++ (if used true then [base + 2048] else [])
  ([(decide (th < 1 ∨ 8 < th ∨ tv < 1 ∨ 8 < tv), Cls.range, 0x03),
    (sizeBad 128 7680 wi w || sizeBad 64 4320 hi h, Cls.range, 0x10),
    (filters && base % 64 != 0, Cls.range, 0x11),
    (filters && parts.any fun a => (s.tableBytes a 2048).isNone, Cls.resource, 0x0E),
    (filters && bad (s.loadBytes base 4096), Cls.range, 0x11),
    (s.absent (pSRC src), Cls.absent, 0x05),
    (!s.isOn (pSRC src), Cls.dependency, 0x06)],
   [((gang && (n % 2 == 1 || s.inUse (pSCAL (n + 1)))) ||
      (n % 2 == 1 && s.inUse (pSCAL (n - 1)) && s.cv incl (pSCAL (n - 1)) F.SCAL.SCAL_CFG_GANG == 1), Cls.conflict, 0x12),
    (decide (w * scalLines hi h tv (s.cv incl p F.SCAL.SCAL_CFG_CONV == 1) > (if gang then 131072 else 65536)),
      Cls.capacity, 0x13)])

/-! ## Channels (R142 to R166, R179, R193 to R220, R334 to R344) -/

/-- h of R336 for a channel's configuration: frame octets beside the RTP payload; `vlan` for a tagged path. -/
def State.headOctets (s : State) (incl : List Nat) (c : Nat) (vlan : Bool) : Nat :=
  let cairn := s.pairOn && s.bit pPAIR F.PAIR.PAIR_CFG_CAIRN_EN
  let row := s.cv incl (pCHAN c) F.CHAN.OUT_CFG_ROW_EXT == 1
  let e := match cairn, row with
    | true, true => 16
    | true, false => 12
    | false, true => 8
    | false, false => 0
  58 + (if vlan then 4 else 0) + e

/-- The paths that a channel sends on: A, and B with DUAL. -/
def State.outPaths (s : State) (incl : List Nat) (c : Nat) : List Nat :=
  if s.cv incl (pCHAN c) F.CHAN.OUT_CFG_DUAL = 1 then [0, 1] else [0]

/-- The largest frame that a channel sends on path `b` (R344). -/
def State.largestFrame (s : State) (incl : List Nat) (c b : Nat) : Nat :=
  let p := pCHAN c
  let h := s.headOctets incl c (s.cv incl p (F.CHAN.PATH_TAGS_VLAN_EN b) == 1)
  if s.cv incl p F.CHAN.OUT_CFG_MODE = 0 then s.cv incl p F.CHAN.PAYLOAD_MAX_OCTETS + h
  else 188 * s.cv incl p F.CHAN.TS_CFG_TS_PER_RTP + h

/-- An output field of a path is out of range (R338, the fields of chapter 13). -/
def State.pathBad (s : State) (incl : List Nat) (c b : Nat) : Bool :=
  let p := pCHAN c
  s.cv incl p (F.CHAN.PATH_UDP_DST b) == 0 || s.cv incl p (F.CHAN.PATH_TAGS_TTL b) == 0 ||
    (s.cv incl p (F.CHAN.PATH_TAGS_VLAN_EN b) == 1 &&
      (s.cv incl p (F.CHAN.PATH_TAGS_VID b) == 0 || s.cv incl p (F.CHAN.PATH_TAGS_VID b) == 4095))

/-- OUT_RANGE (R330, R338). -/
def State.outRange (s : State) (incl : List Nat) (c : Nat) : Bool :=
  let p := pCHAN c
  let pm := s.cv incl p F.CHAN.PAYLOAD_MAX_OCTETS
  let rid := s.cv incl p F.CHAN.OUT_CFG_ROW_ID
  let k := s.cv incl p F.CHAN.TS_CFG_TS_PER_RTP
  decide (pm < 256 ∨ 9000 < pm) || decide (rid < 1 ∨ 14 < rid) ||
    (s.cv incl p F.CHAN.OUT_CFG_MODE == 0 && decide (s.cv incl p F.CHAN.OUT_CFG_PT < 96)) ||
    (s.outPaths incl c).any (s.pathBad incl c) || s.cv incl p F.CHAN.TS_CFG_PSI_EVERY == 0 || decide (k < 1 ∨ 48 < k) ||
    decide (s.cv incl p F.CHAN.TS_CFG_HOST_MAX > 64) || decide (s.cv incl p F.CHAN.PTS_DELAY_TICKS > 900000) ||
    (s.cv incl p F.CHAN.OUT_CFG_ROW_EXT == 1 && s.bit pPAIR F.PAIR.PAIR_CFG_CAIRN_EN &&
      rid == s.fld pPAIR F.PAIR.PAIR_CFG_CAIRN_ID) ||
    (s.cv incl p F.CHAN.OUT_CFG_DUAL == 1 &&
      s.cv incl p (F.CHAN.PATH_QUEUE_QUEUE 0) == s.cv incl p (F.CHAN.PATH_QUEUE_QUEUE 1))

/-- PID_CLASH (R334). -/
def State.pidClash (s : State) (incl : List Nat) (c : Nat) : Bool :=
  let p := pCHAN c
  let pids := [s.cv incl p F.CHAN.TS_PIDS_VIDEO_PID, s.cv incl p F.CHAN.TS_PIDS_PMT_PID] ++
    (((List.range 8).filter fun i => s.cv incl p (F.CHAN.TS_STREAM_EN i) == 1).map fun i => s.cv incl p (F.CHAN.TS_STREAM_PID i))
  s.cv incl p F.CHAN.OUT_CFG_MODE == 1 && (decide (¬ pids.Nodup) || pids.any fun q => decide (q < 0x10) || decide (0x1FFE < q))

/-- The channels that count beside channel `c` in a check: every other CHAN page that is not OFF (R45). -/
def State.otherChans (s : State) (c : Nat) : List Nat := (List.range 64).filter fun d => d != c && s.inUse (pCHAN d)

/-- The sum of a demand over channel `c` and the others. -/
def State.chanSum (s : State) (incl : List Nat) (c : Nat) (f : ChanGeo → Nat) : Nat :=
  (s.otherChans c).foldl (fun n d => n + f (s.chanGeo incl d)) (f (s.chanGeo incl c))

/-- The other members of the channel's group. -/
def State.otherMembers (s : State) (incl : List Nat) (c g : Nat) : List Nat :=
  (s.otherChans c).filter fun d => s.cv incl (pCHAN d) F.CHAN.CHAN_CFG_GROUP == g

/-- Σ RC_RATE of a group with channel `c`, kb/s (R210). -/
def State.memberRates (s : State) (incl : List Nat) (c g : Nat) : Nat :=
  (s.otherMembers incl c g).foldl (fun n d => n + s.cv incl (pCHAN d) F.CHAN.RC_RATE_KBPS) (s.cv incl (pCHAN c) F.CHAN.RC_RATE_KBPS)

/-- The configuration's group is pooled. -/
def State.cvPooled (s : State) (incl : List Nat) (g : Nat) : Bool := s.inUse (pGRP g) && s.cv incl (pGRP g) F.GRP.GRP_CFG_POOL == 1

/-- The shared rate S of a pooled group with channel `c`, bit/s (R210). -/
def State.cvShared (s : State) (incl : List Nat) (c g : Nat) : Nat :=
  if s.cvPooled incl g then (s.cv incl (pGRP g) F.GRP.POOL_RATE_KBPS - s.memberRates incl c g) * 1000 else 0

/-- The lowest free run of granules that holds the channel's buffers (R220). -/
def State.runFor (s : State) (g : ChanGeo) : Option Nat :=
  (s.poolFreeRuns.find? fun r => decide (g.nb * g.gb ≤ r.2)).map fun r => r.1

/-- The groups of a channel and of its source differ in rate or OFFSET (R162). -/
def State.cadenceDiffers (s : State) (g : ChanGeo) : Bool := s.groupRate g.group != s.groupRate (s.srcOf g.source).group

/-- CHAN `c`. Tests of its run, GDR_PICS and RC_RATE that R179, R199 and R220 make at an enable, or at a commit that changes the
value, are left out of other commits. -/
def State.checkChan (s : State) (incl : List Nat) (c : Nat) : List Test × List Test :=
  let p := pCHAN c
  let g := s.chanGeo incl c
  let entering := !s.works p
  let v (f : Fld) : Nat := s.cv incl p f
  let changes (f : Fld) : Bool := entering || v f != s.act p f
  let codec := v F.CHAN.CODEC_CFG_CODEC
  let profile := v F.CHAN.CODEC_CFG_PROFILE
  let place := levelPlace codec (v F.CHAN.CODEC_CFG_LEVEL_IDC)
  let lvl := place.getD 0
  let kbps := v F.CHAN.RC_RATE_KBPS
  let bound := maxBr codec lvl (v F.CHAN.CODEC_CFG_TIER) * cpbNalFactor codec profile
  let stage := s.cvAddr incl p F.CHAN.STAGE_BASE_LO
  let table := s.cvTable incl c
  let ts := v F.CHAN.OUT_CFG_MODE == 1
  let status := v F.CHAN.STATUS_CFG_EN == 1
  let host := ts && v F.CHAN.TS_CFG_HOST_EN == 1
  let need := [pSCAL g.scaler, pGRP g.group, pLOOK, pREFP, pTSCH]
  let queues := (s.outPaths incl c).map fun b => (v (F.CHAN.PATH_QUEUE_QUEUE b), s.largestFrame incl c b)
  ([(decide (kbps < 1000 ∨ 16000000 < kbps ∨ v F.CHAN.RC_BUF_ROWS < 1 ∨ 64 < v F.CHAN.RC_BUF_ROWS ∨ v F.CHAN.RC_WEIGHT_IDR < 1 ∨
      v F.CHAN.RC_WEIGHT_GDR < 1 ∨ v F.CHAN.RC_WEIGHT_CUT < 1), Cls.range, 0x03),
    (decide (g.nref < 1 ∨ 4 < g.nref), Cls.range, 0x10),
    ((g.buffered && decide (g.depth < 1 ∨ 8 < g.depth)) || v F.CHAN.LOOK_CFG_SCENE_RATIO == 0, Cls.range, 0x11),
    (g.buffered && (stage % 64 != 0 || decide (stage + (g.depth + 2) * ceil64 g.raw > s.dramTop)), Cls.range, 0x12),
    (!profileCarries codec profile g.c420, Cls.range, 0x17),
    (place.isNone, Cls.range, 0x18),
    (!levelHolds lvl (g.nRow * 64) (g.rRows * 64) g.num g.den, Cls.range, 0x19),
    (v F.CHAN.REFRESH_CFG_KIND == 1 && (changes F.CHAN.REFRESH_CFG_KIND || changes F.CHAN.REFRESH_CFG_GDR_PICS) &&
      decide (v F.CHAN.REFRESH_CFG_GDR_PICS < 2 ∨ min 255 (g.nRow - 1) < v F.CHAN.REFRESH_CFG_GDR_PICS), Cls.range, 0x1A),
    (decide (v F.CHAN.RC_CFG_QP_MIN > v F.CHAN.RC_CFG_QP_MAX ∨ v F.CHAN.RC_CFG_QP_MAX > (if codec = 0 then 63 else 51) ∨
      v F.CHAN.RC_CFG_TARGET < 1 ∨ 7 < v F.CHAN.RC_CFG_TARGET), Cls.range, 0x1B),
    (table % 64 == 0 && (s.tableBytes table 6208).isNone, Cls.resource, 0x22),
    (table % 64 != 0 || !tableValid (s.loadBytes table 6208) codec g.c420, Cls.range, 0x1C),
    (changes F.CHAN.RC_RATE_KBPS && decide (kbps * 1000 + s.cvShared incl c g.group > bound), Cls.range, 0x1D),
    (changes F.CHAN.RC_RATE_KBPS && decide (s.cvBuf incl c > bound), Cls.range, 0x1E),
    (changes F.CHAN.RC_RATE_KBPS && decide (s.frMax incl c > s.cvDrow incl c), Cls.range, 0x1F),
    (s.outRange incl c, Cls.range, 0x24),
    (s.pidClash incl c, Cls.range, 0x25),
    (need.any s.absent || (status && s.absent (pDMA (v F.CHAN.STATUS_CFG_RING))) ||
      (host && s.absent (pDMA (v F.CHAN.TS_CFG_HOST_RING))), Cls.absent, 0x05),
    (need.any fun q => !s.isOn q, Cls.dependency, 0x06),
    ((status && s.ringFault (v F.CHAN.STATUS_CFG_RING)) || (host && s.ringFault (v F.CHAN.TS_CFG_HOST_RING)), Cls.resource, 0x0E),
    (status && s.ringNot (v F.CHAN.STATUS_CFG_RING) 2, Cls.dependency, 0x13),
    (host && s.ringNot (v F.CHAN.TS_CFG_HOST_RING) 9, Cls.dependency, 0x26),
    (queues.any fun q => s.queueUnready q.1 q.2, Cls.dependency, 0x27)],
   [(s.cvPooled incl g.group && (s.otherMembers incl c g.group).any fun d =>
      (s.chanGeo incl d).buffered != g.buffered || (g.buffered && (s.chanGeo incl d).depth != g.depth), Cls.conflict, 0x21),
    (queues.any fun q => s.queueTaken q.1 true c, Cls.conflict, 0x28),
    (entering && decide (s.chanSum incl c ChanGeo.window > 83886080), Cls.capacity, 0x0C),
    (entering && decide (s.chanSum incl c ChanGeo.look > 16777216), Cls.capacity, 0x0C),
    (entering && decide (s.chanSum incl c ChanGeo.items > 131072), Cls.capacity, 0x14),
    (s.cvPooled incl g.group && decide (s.memberRates incl c g.group > s.cv incl (pGRP g.group) F.GRP.POOL_RATE_KBPS), Cls.capacity, 0x20),
    (entering && (s.runFor g).isNone, Cls.capacity, 0x23),
    (decide (g.delay < dMin g.nRow g.tr ∨ 16 < g.delay), Cls.timing, 0x15),
    (s.cadenceDiffers g, Cls.timing, 0x16)])

/-- GRP `g` (R80, R214). -/
def State.checkGrp (s : State) (incl : List Nat) (g : Nat) : List Test × List Test :=
  let p := pGRP g
  let rate := s.cv incl p F.GRP.POOL_RATE_KBPS
  let us := s.cv incl p F.GRP.POOL_BUF_US
  ([(s.cv incl p F.GRP.GRP_CFG_POOL == 1 && decide (rate < 1000 ∨ 16000000 < rate ∨ us < 100 ∨ 20000 < us), Cls.range, 0x10)],
   [(!s.cadence g, Cls.timing, 0x0D),
    (!incrInWindow (s.fld pTIME F.TIME.INCR) || s.time.incrPending.any (fun v => !incrInWindow v.toNat) ||
      (s.bit pTIME F.TIME.TIME_STATUS_SLEW_ACTIVE && !incrInWindow (s.fld pTIME F.TIME.SLEW_INCR)), Cls.timing, 0x11)])

/-- REFP (R218). -/
def State.checkRefp (s : State) (incl : List Nat) : List Test × List Test :=
  let base := s.cvAddr incl pREFP F.REFP.POOL_BASE_LO
  let size := s.cv incl pREFP F.REFP.POOL_SIZE_GRANULES
  ([(decide (base % 2097152 ≠ 0 ∨ size < 1 ∨ 31744 < size ∨ base + size * 2097152 > s.dramTop), Cls.range, 0x10)], [])

/-! ## Decoders and SDI outputs (R239, R247, R253 to R259) -/

/-- DEC `d`. -/
def State.checkDec (s : State) (incl : List Nat) (d : Nat) : List Test × List Test :=
  let p := pDEC d
  let v (f : Fld) : Nat := s.cv incl p f
  let geom := v F.DEC.DEC_CFG_GEOM
  let g := v F.DEC.DEC_CFG_INDEX_GROUP
  let r := s.rateOf g
  let cpb := v F.DEC.CPB_CFG_MIB
  let delay := v F.DEC.DEC_CFG_PRESENT_DELAY
  let base := s.cvAddr incl p F.DEC.REGION_BASE_LO
  let size := v F.DEC.REGION_SIZE_GRANULES
  let ring := v F.DEC.DEC_CFG_INPUT_KIND == 1
  let input := v F.DEC.DEC_CFG_INPUT
  let source := v F.DEC.OUT_CFG_TO_SOURCE == 1
  let sdi := v F.DEC.OUT_CFG_TO_SDI == 1
  let tx := v F.DEC.OUT_CFG_SDITX
  let status := v F.DEC.STATUS_CFG_EN == 1
  let inPage := if ring then pDMA input else pIPIN input
  let others := (List.range 2).filter (· != d)
  ([(decide (v F.DEC.DEC_CFG_TRANSPORT ≥ 2) || geom == 0, Cls.range, 0x04),
    (decide (delay < 1 ∨ 8 < delay ∨ cpb < 4 ∨ 256 < cpb ∨ v F.DEC.DEC_CFG_POC_STEP < 1 ∨ 2 < v F.DEC.DEC_CFG_POC_STEP ∨
      v F.DEC.VIDEO_PID_PID < 0x10 ∨ 0x1FFE < v F.DEC.VIDEO_PID_PID ∨ base % 2097152 ≠ 0 ∨ size < decRegion geom cpb delay ∨
      base + size * 2097152 > s.dramTop), Cls.range, 0x10),
    (!source && !sdi, Cls.range, 0x11),
    ((!ring && decide (input ≥ 32)) || s.absent inPage || (sdi && s.absent (pSDITX tx)) ||
      (status && s.absent (pDMA (v F.DEC.STATUS_CFG_RING))), Cls.absent, 0x05),
    (!s.isOn inPage || (status && s.ringNot (v F.DEC.STATUS_CFG_RING) 2), Cls.dependency, 0x06),
    (sdi && s.st (pSDITX tx) == stFault, Cls.resource, 0x0E),
    (if ring then s.ringNot input 6 else s.cv incl inPage F.IPIN.IP_CFG_MODE != 1, Cls.dependency, 0x12),
    (sdi && (!s.isOn (pSDITX tx) || s.cv incl (pSDITX tx) F.SDITX.SDO_CFG_GEOM != geom ||
      s.cv incl (pSDITX tx) F.SDITX.SDO_CFG_INDEX_GROUP != g), Cls.dependency, 0x13)],
   [(sdi && others.any fun e => s.works (pDEC e) && s.act (pDEC e) F.DEC.OUT_CFG_TO_SDI == 1 &&
      s.act (pDEC e) F.DEC.OUT_CFG_SDITX == tx, Cls.conflict, 0x14),
    (others.any fun e => s.inUse (pDEC e) && s.cv incl (pDEC e) F.DEC.DEC_CFG_INPUT_KIND == v F.DEC.DEC_CFG_INPUT_KIND &&
      s.cv incl (pDEC e) F.DEC.DEC_CFG_INPUT == input, Cls.conflict, 0x15),
    (s.inputBound incl p, Cls.conflict, 0x18),
    (source && s.linesFull incl p, Cls.capacity, 0x0C),
    (decide (decLoad geom r.1 r.2 > 1000000000), Cls.capacity, 0x16),
    (s.noCompare g, Cls.timing, 0x17)])

/-- SDITX `n` (R255). -/
def State.checkSditx (s : State) (incl : List Nat) (n : Nat) : List Test × List Test :=
  let p := pSDITX n
  let geom := s.cv incl p F.SDITX.SDO_CFG_GEOM
  let g := s.cv incl p F.SDITX.SDO_CFG_INDEX_GROUP
  let r := s.rateOf g
  ([(s.offsetLong g (s.cv incl p F.SDITX.SDO_OFFSET), Cls.range, 0x03),
    (geom == 0 || geom == 3, Cls.range, 0x04),
    (!s.noCompare g && (sdiRate geom 0 r.1 r.2).isNone, Cls.range, 0x10)],
   [(!s.noCompare g && (r.2 == 1001) != (s.cv incl p F.SDITX.SDO_CFG_REFCLK_FRAC == 1), Cls.timing, 0x11),
    (s.noCompare g, Cls.timing, 0x12)])

/-! ## The pair, the Rope link and the ports (R260, R263, R316, R338, R344) -/

/-- PAIR (R260, R263). -/
def State.checkPair (s : State) : List Test × List Test :=
  let claim := s.fld pPAIR F.PAIR.CLAIM_INIT
  ([(decide (claim < 1 ∨ 0xFFFF0000 < claim), Cls.range, 0x10),
    ((List.range 32).all fun i => !s.bit pPAIR (F.PAIR.ECHO_CTRL_EN i), Cls.range, 0x11),
    (s.bit pPAIR F.PAIR.PAIR_CFG_CAIRN_EN && (List.range 64).any fun c => s.inUse (pCHAN c) &&
      s.cv [] (pCHAN c) F.CHAN.OUT_CFG_ROW_EXT == 1 &&
      s.cv [] (pCHAN c) F.CHAN.OUT_CFG_ROW_ID == s.fld pPAIR F.PAIR.PAIR_CFG_CAIRN_ID, Cls.range, 0x17),
    (s.absent pROPE, Cls.absent, 0x05),
    (!s.isOn pROPE, Cls.dependency, 0x06)], [])

/-- The Rope lanes of ROPE_CFG.LANES, as lane pages (R292). -/
def State.cfgLanes (s : State) : List Nat :=
  ((List.range 4).filter fun i => s.fld pROPE F.ROPE.ROPE_CFG_LANES / 2 ^ i % 2 == 1).map fun i => pLANE (34 + i)

/-- ROPE (R316). -/
def State.checkRope (s : State) : List Test × List Test :=
  let least := s.fld pROPE F.ROPE.ROPE_CFG_MIN_LANES
  let ms := s.fld pROPE F.ROPE.ROPE_CFG_TRAIN_MS
  ([(decide (ms < 10 ∨ 1000 < ms) || s.fld pROPE F.ROPE.ROPE_CFG_RETRAIN_TRIES == 0, Cls.range, 0x03),
    (decide (s.cfgLanes.length = 0 ∨ least < 1 ∨ s.cfgLanes.length < least), Cls.range, 0x10),
    (s.cfgLanes.any s.absent, Cls.absent, 0x05),
    (s.cfgLanes.any fun q => !s.isOn q, Cls.dependency, 0x06)], [])

/-- ETH `e` (R319, R338, R344). -/
def State.checkEth (s : State) (e : Nat) : List Test × List Test :=
  let p := pETH e
  let mac := s.fld p F.ETH.MAC_HI_ADDR * 2 ^ 32 + s.fld p F.ETH.MAC_LO
  let phy := s.fld p F.ETH.PORT_CFG_PHY
  let retry := s.fld p F.ETH.LINK_CFG_RETRY_MS
  let host := s.bit p F.ETH.HOST_CFG_HOST_EN
  let q := s.fld p F.ETH.HOST_QUEUE_QUEUE
  let tx := s.fld p F.ETH.HOST_CFG_TX_RING
  let rx := s.fld p F.ETH.HOST_CFG_RX_RING
  ([(mac == 0 || mac / 2 ^ 40 % 2 == 1, Cls.range, 0x10),
    (phy == 3 || (phy == 2 && s.bit p F.ETH.PORT_CFG_AN_EN) || decide (retry < 10 ∨ 10000 < retry), Cls.range, 0x11),
    ((s.ethLanes e).any s.absent || (host && (s.absent (pDMA tx) || s.absent (pDMA rx))), Cls.absent, 0x05),
    ((s.ethLanes e).any fun l => !s.isOn l, Cls.dependency, 0x06),
    (host && (s.ringFault tx || s.ringFault rx), Cls.resource, 0x0E),
    (host && (s.ringNot tx 7 || s.ringNot rx 8), Cls.dependency, 0x12),
    (host && s.queueUnready q 9216, Cls.dependency, 0x14)],
   [(host && s.queueTaken q false e, Cls.conflict, 0x15)])

/-! ## Lanes, memory channels, rings, check units (R354, R387, R405, R454) -/

/-- LANE `n`: its reference clock toggles (chapter 15, REFCLK_ABSENT). -/
def State.checkLane (s : State) (n : Nat) : List Test × List Test :=
  ([(s.boot.refclkBad / 2 ^ laneRefclk n % 2 == 1, Cls.dependency, 0x12)], [])

/-- MEMC `n`: a failed or retired channel returns only at device reset (R387). -/
def State.checkMemc (s : State) (n : Nat) : List Test × List Test := ([((s.memcOf n).gone, Cls.resource, 0x16)], [])

/-- DMA ring `r` (R453, R454). -/
def State.checkDma (s : State) (r : Nat) : List Test × List Test :=
  let p := pDMA r
  let role := s.fld p F.DMA.RING_CFG_ROLE
  let lg := s.fld p F.DMA.RING_CFG_LOG2_SIZE
  let src := s.fld p F.DMA.RING_CFG_SOURCE
  ([(decide (role < 1 ∨ 9 < role ∨ lg < 4 ∨ 16 < lg ∨ s.fld p F.DMA.DESC_BASE_LO % 4096 ≠ 0 ∨ s.fld p F.DMA.CPL_BASE_LO % 4096 ≠ 0),
      Cls.range, 0x10),
    ((role == 5 && s.absent (pCHAN src)) || s.absent pHOST, Cls.absent, 0x05),
    (!s.isOn pHOST, Cls.dependency, 0x06)],
   [(role == 5 && (List.range 256).any fun q => q != r && s.inUse (pDMA q) && s.fld (pDMA q) F.DMA.RING_CFG_ROLE == 5 &&
      s.fld (pDMA q) F.DMA.RING_CFG_SOURCE == src, Cls.conflict, 0x12)])

/-- CHK `k` (R405). -/
def State.checkChk (s : State) (k : Nat) : List Test × List Test :=
  let p := pCHK k
  let w := s.fld p F.CHK.CHK_CFG_WIDTH
  let ring := s.fld p F.CHK.CHK_CFG_RING
  let role := s.fld (pDMA ring) F.DMA.RING_CFG_ROLE
  ([(decide (w < 8 ∨ 64 < w ∨ s.get64 p F.CHK.POLY_LO ≥ 2 ^ w ∨ s.get64 p F.CHK.INIT_LO ≥ 2 ^ w), Cls.range, 0x10),
    (!s.absent (pDMA ring) && decide (role < 6 ∨ 9 < role), Cls.range, 0x11),
    (s.absent (pDMA ring), Cls.absent, 0x05),
    (!s.isOn (pDMA ring), Cls.dependency, 0x06)],
   [((List.range 8).any fun j => j != k && s.inUse (pCHK j) && s.fld (pCHK j) F.CHK.CHK_CFG_RING == ring, Cls.conflict, 0x12)])

/-! ## The check of a page -/

/-- The tests of page `p`: those of steps 1 to 4, and those of steps 5 to 7 (R44). -/
def State.tests (s : State) (incl : List Nat) (p : Nat) : List Test × List Test :=
  let n := instanceOf p
  match unitOf p with
  | some .time => s.checkTime
  | some .sdirx => s.checkSdirx incl n
  | some .sditx => s.checkSditx incl n
  | some .ipin => s.checkIpin incl n
  | some .eth => s.checkEth n
  | some .src => s.checkSrc incl n
  | some .scal => s.checkScal incl n
  | some .chan => s.checkChan incl n
  | some .grp => s.checkGrp incl n
  | some .dec => s.checkDec incl n
  | some .pair => s.checkPair
  | some .rope => s.checkRope
  | some .refp => s.checkRefp incl
  | some .memc => s.checkMemc n
  | some .lane => s.checkLane n
  | some .dma => s.checkDma n
  | some .chk => s.checkChk n
  | _ => ([], [])

/-- Chamber and memory terms of a page's configuration (R22, R24, R25, R120). -/
def State.terms (s : State) (incl : List Nat) (p : Nat) : Nat × Nat :=
  let n := instanceOf p
  match unitOf p with
  | some .chan => ((s.chanGeo incl n).load, (s.chanGeo incl n).mem)
  | some .src => (0, s.srcMem incl n (if s.works p then (s.srcOf n).group else (s.srcTakes incl n).2.2))
  | some .dec => (0, 8000)
  | _ => (0, 0)

/-- Tests of steps 1 to 4 and 5 to 7 joined, with the capacity terms before the timing step and the tests `mixed` at the head of
step 5 (R44, R48, R49). -/
def orderTests (ts : List Test × List Test) (mixed adm : List Test) : List Test :=
  ts.1 ++ mixed ++ ts.2.filter (fun t => t.2.1 != Cls.timing) ++ adm ++ ts.2.filter fun t => t.2.1 == Cls.timing

/-- What CHECK_DETAIL or ALLOC_NEED shows for a refusal of page `p` (R135, R156, R157, R162, R220). -/
def State.checkInfo (s : State) (incl : List Nat) (p cls d : Nat) : Nat :=
  let n := instanceOf p
  match unitOf p with
  | some .scal =>
    if cls = Cls.capacity ∧ d = 0x13 then
      let src := s.cv incl p F.SCAL.SCAL_CFG_SOURCE
      let l := scalLines (geomH (s.srcOf src).geom) (s.cv incl p F.SCAL.OUT_SIZE_H) (s.cv incl p F.SCAL.SCAL_CFG_TAPS_V)
        (s.cv incl p F.SCAL.SCAL_CFG_CONV == 1)
      s.cv incl p F.SCAL.OUT_SIZE_W * l % 2 ^ 18 + l * 2 ^ 24
    else 0
  | some .chan =>
    let g := s.chanGeo incl n
    let show' (kind v : Nat) : Nat := v % 2 ^ 28 + kind * 2 ^ 28
    if cls = Cls.capacity ∧ d = 0x0C then
      (if s.chanSum incl n ChanGeo.window > 83886080 then show' 1 (s.chanSum incl n ChanGeo.window)
       else show' 2 (s.chanSum incl n ChanGeo.look))
    else if cls = Cls.capacity ∧ d = 0x14 then show' 3 (s.chanSum incl n ChanGeo.items)
    else if cls = Cls.capacity ∧ d = 0x23 then g.nb * g.gb % 2 ^ 16 + n * 2 ^ 16
    else if cls = Cls.timing ∧ d = 0x15 then show' 4 (dMin g.nRow g.tr)
    else 0
  | _ => 0

/-- A refusal shows its figure: CHAN CHECK_DETAIL on a refusal of class CAPACITY or TIMING, REFP ALLOC_NEED on REF_POOL_FULL, SCAL
CHECK_DETAIL on LINEBUF_SHORT; the uncorrectable blocks of a table that could not be read count at their channels (R382, R383). -/
def State.showInfo (s : State) (p code info : Nat) : State :=
  match unitOf p with
  | some .chan =>
    if code = reasonCode Cls.resource .chan 0x22 then s.noteRead (s.addr36 p F.CHAN.RC_TABLE_BASE_LO) 6208
    else if code = reasonCode Cls.capacity .chan 0x23 then
      (s.setReg (F.CHAN.CHECK_DETAIL.addr p) 0).setReg (F.REFP.ALLOC_NEED.addr pREFP) (BitVec.ofNat 32 info)
    else if code / 0x1000 = Cls.capacity ∨ code / 0x1000 = Cls.timing then s.setReg (F.CHAN.CHECK_DETAIL.addr p) (BitVec.ofNat 32 info)
    else s
  | some .scal =>
    if code = reasonCode Cls.capacity .scal 0x13 then s.setReg (F.SCAL.CHECK_DETAIL.addr p) (BitVec.ofNat 32 info)
    else if code = reasonCode Cls.resource .scal 0x0E then s.noteRead (s.addr36 p F.SCAL.COEF_BASE_LO) 4096
    else s
  | _ => s

/-- The table that a check reads: a scaler's coefficients, a channel's rate model (R133, R207). -/
def State.checkTable (s : State) (incl : List Nat) (p : Nat) : List Byte :=
  match unitOf p with
  | some .scal => s.loadBytes (s.cvAddr incl p F.SCAL.COEF_BASE_LO) 4096
  | some .chan => s.loadBytes (s.cvTable incl (instanceOf p)) 6208
  | _ => []

/-! ## Fields changeable only while OFF (R49) -/

/-- Bits of the RW-S register at offset `o` that are changeable only while OFF, as the chapters mark them. -/
def offOnly (u : UnitType) (o : Nat) : Nat :=
  match u with
  | .sdirx => if o = 0x100 ∨ o = 0x104 then 0xFFFFFFFF else 0
  | .ipin => if 0x100 ≤ o ∧ o ≤ 0x120 then 0xFFFFFFFF else 0
  | .src => if o = 0x100 then 0x1F03 else 0
  | .scal => if o = 0x100 then 0x31F else if o = 0x104 then 0xFFFFFFFF else 0
  | .chan =>
    if o = 0x100 ∨ o = 0x104 ∨ o = 0x114 ∨ o = 0x118 ∨ o = 0x180 ∨ o = 0x194 ∨ o = 0x208 ∨ (0x400 ≤ o ∧ o ≤ 0x40C) ∨ o = 0x460 ∨
      o = 0x468 ∨ o = 0x46C then 0xFFFFFFFF
    else if o = 0x108 then 0xF else if o = 0x464 then 0xFFFF3F00 else 0
  | .grp => if 0x100 ≤ o ∧ o ≤ 0x108 then 0xFFFFFFFF else 0
  | .refp => if 0x100 ≤ o ∧ o ≤ 0x108 then 0xFFFFFFFF else 0
  | .dec => if o = 0x104 then 0xFFFFFEFF else if 0x100 ≤ o ∧ o ≤ 0x118 then 0xFFFFFFFF else 0
  | .sditx => if o = 0x100 then 0xFFFFFDFF else if o = 0x104 then 0xFFFFFFFF else 0
  | _ => 0

/-- Offsets of the RW-S registers of a unit. -/
def shadowOffsets (u : UnitType) : List Nat :=
  (u.rows.filter fun r => r.sh != 0).flatMap fun r => (List.range r.count).map fun i => r.off + i * r.stride

/-- A field changeable only while OFF differs between the captured and the active copy of page `p` (R49). -/
def State.runningChange (s : State) (p : Nat) : Bool :=
  match unitOf p with
  | some u => (shadowOffsets u).any fun o =>
      let a := p * 0x1000 + o
      let old := s.reg (a + 0x800)
      let new := Tab.get (resetVal a) (s.page p).captured a
      (old.toNat ^^^ new.toNat) &&& offOnly u o != 0
  | none => false

/-- Channels that a SRC, SCAL or input page feeds (R48, R137). -/
def State.feeds (s : State) (p : Nat) : List Nat :=
  let scalOf (c : Nat) : Nat := s.cv [] (pCHAN c) F.CHAN.CHAN_CFG_SCALER
  let srcOfC (c : Nat) : Nat := s.cv [] (pSCAL (scalOf c)) F.SCAL.SCAL_CFG_SOURCE
  let cs := (List.range 64).filter fun c => s.inUse (pCHAN c)
  match unitOf p with
  | some .scal => cs.filter fun c => scalOf c == instanceOf p
  | some .src => cs.filter fun c => srcOfC c == instanceOf p
  | some .ipin => cs.filter fun c => s.inUse (pSRC (srcOfC c)) && (s.srcOf (srcOfC c)).input == p
  | _ => []

/-- GROUP_MIXED of a page armed to group `g` (R48): a channel of another group, or a page that feeds channels and no channel of `g`, or
channels of groups with other frame-cycle starts. -/
def State.groupMixed (s : State) (p g : Nat) : Bool :=
  match unitOf p with
  | some .chan => s.cv [] p F.CHAN.CHAN_CFG_GROUP != g
  | _ =>
    let gs := (s.feeds p).map fun c => s.cv [] (pCHAN c) F.CHAN.CHAN_CFG_GROUP
    !gs.isEmpty && (!gs.contains g || gs.any fun h => s.groupRate h != s.groupRate g)

end Sys2Proof.Machine
end

