-- ==== Sys2Proof/Machine/Commit.lean ====
section
/-! DEFINITION. Group and device commits: requests, readiness of layers, capture, check, the pair's verdicts, application,
refusal and abort (spec/02 R47 to R56, spec/05 R121 to R123, spec/11 R288 to R290), and the write of CHMB_RESERVE (R159). -/

namespace Sys2Proof.Machine

/-! ## Records and what SYS shows -/

/-- The record of group `g` (0 to 7), or of the device commit (8). -/
def State.commitOf (s : State) (g : Nat) : CommitRec := Tab.get .reset s.commits g

def State.setCommit (s : State) (g : Nat) (r : CommitRec) : State := { s with commits := Tab.set .reset s.commits g r }

/-- COMMIT_CTRL.GROUP of the pages of a commit: 0xF for the device commit. -/
def groupCode (g : Nat) : Nat := if g = 8 then 0xF else g

/-- The pages of a commit of `g`: ON, ARMED and of that group (R47). -/
def State.included (s : State) (g : Nat) : List Nat :=
  headerPages.filter fun p => s.isOn p && s.bit p F.ARMED && s.fld p F.COMMIT_GROUP == groupCode g

def reqBit (g : Nat) : Fld := ⟨F.SYS.COMMIT_STATUS.off, g, 1⟩
def progBit (g : Nat) : Fld := ⟨F.SYS.COMMIT_STATUS.off, 16 + g, 1⟩
def commitRes (g : Nat) : Fld := ⟨F.SYS.COMMIT_RESULT.off, 2 * g, 2⟩

/-- A captured commit of `g` has no result yet. -/
def State.inProgress (s : State) (g : Nat) : Bool := s.bit pSYS (progBit g)

/-- A request of `g` waits. -/
def CommitRec.requested (r : CommitRec) : Bool := r.plain || !r.reqs.isEmpty

/-- Hold a record; COMMIT_STATUS.REQUESTED follows it. -/
def State.putCommit (s : State) (g : Nat) (r : CommitRec) : State := (s.setCommit g r).setFld pSYS (reqBit g) r.requested.toNat

/-- COMMIT_REASON names the first refusing page (R52). -/
def State.commitReason (s : State) (g code page : Nat) : State :=
  ((s.setFld pSYS F.SYS.COMMIT_REASON_CODE code).setFld pSYS F.SYS.COMMIT_REASON_GROUP (groupCode g)).setFld pSYS
    F.SYS.COMMIT_REASON_PAGE page

/-- A result of `g` is recorded: COMMIT_RESULT, IN_PROGRESS 0. -/
def State.commitResult (s : State) (g r : Nat) : State :=
  ((s.setFld pSYS (commitRes g) r).setFld pSYS (progBit g) 0).putCommit g
    { s.commitOf g with pages := [], codes := [], old := [], passed := false, paired := false, resultAt := s.fabric }

/-- An included page ends its part of a commit: PENDING and WAITING clear, LAST_RESULT and PAGE_OP take the result. -/
def State.pageDone (s : State) (p lastResult result : Nat) : State :=
  let s1 := (((s.setFld p F.PENDING 0).setFld p F.WAITING 0).setFld p F.WAIT_COUNT 0).setFld p F.LAST_RESULT lastResult
  if s1.opRunning p 4 then s1.opEndOf p 4 result else s1

/-- The admission terms return to their old values for pages that still hold theirs (R56). -/
def State.termsBack (s : State) (old : List (Nat × Nat × Nat)) : State :=
  old.foldl (fun t x => if t.inUse x.1 then t.setTerms x.1 x.2.1 x.2.2 else t) s

/-! ## Requests (R51, R288) -/

/-- A commit of a group whose cadence does not run is refused (R51). -/
def State.noCadence (s : State) (g : Nat) : State :=
  let ps := s.included g
  let code (p : Nat) : Nat := reasonCode Cls.timing (unitAt p) 0x0D
  let s1 := ps.foldl (fun t p => (t.refuse p Cls.timing 0x0D).pageDone p 2 opRefused) s
  let s2 := match ps.head? with
    | some p => s1.commitReason g (code p) p
    | none => (s1.recordCode pSYS 0x708D).commitReason g 0x708D pSYS
  let r := s2.commitOf g
  ((s2.setFld pSYS (commitRes g) 2)).putCommit g { r with plain := false, reqs := [], waits := 0, resultAt := s.fabric }

/-- Waiting requests of groups whose cadence has stopped are refused (R51). -/
def State.cadenceStops (s : State) : State :=
  (List.range 8).foldl (fun t g => if (t.commitOf g).requested && !t.cadence g then t.noCadence g else t) s

/-- The first frame index of group `g` whose start is at or after counter ns `t`. -/
def State.indexFrom (s : State) (g t : Nat) : Nat :=
  match s.compareOf g with
  | some n =>
    let x := (t : Int) - s.cmpOffset n
    if x ≤ 0 then 0 else ((x.toNat - 1) * s.cmpNum n) / (s.cmpDen n * 1000000000) + 1
  | none => 0

/-- Group commits are coupled to the peer's while the Rope link is active (R288). -/
def State.coupled (s : State) : Bool := s.pairOn && s.linkActive

/-- Add a boundary to the coupled requests that wait. -/
def addReq (b : Nat) (l : List Nat) : List Nat := if l.contains b then l else (l.filter (· < b)) ++ [b] ++ l.filter (b < ·)

/-- A coupled request of group `g` for the boundary `b`. -/
def State.requestAt (s : State) (g b : Nat) : State := s.putCommit g { s.commitOf g with reqs := addReq b (s.commitOf g).reqs }

/-- COMMIT_REQ.GROUP_MASK (R51, R288): each group is requested, or refused where its cadence does not run; a coupled request
is sent to the peer with its boundary, the first start whose cut-off lies at least 20 µs ahead. -/
def State.groupCommitReq (mask : Nat) (s : State) : State :=
  let gs := (List.range 8).filter fun g => mask / 2 ^ g % 2 == 1
  let run := gs.filter s.cadence
  let s1 := (gs.filter fun g => !s.cadence g).foldl State.noCadence s
  if s1.coupled then
    let bs := run.map fun g => (g, s1.indexFrom g (s1.now + 24000))
    let s2 := bs.foldl (fun t x => t.requestAt x.1 x.2) s1
    if bs.isEmpty then s2
    else s2.ropeSend 0x30 (BitVec.ofNat 8 (bs.foldl (fun m x => m + 2 ^ x.1) 0) :: bs.flatMap fun x => beBytes x.2 8)
  else run.foldl (fun t g => t.putCommit g { t.commitOf g with plain := true }) s1

/-- GROUP_COMMIT_REQ: SYS.COMMIT_REQ with a group mask (R51). -/
def execGroupCommitReq (mask : Nat) (s : State) : Out := s.onPage pSYS (State.groupCommitReq (mask % 256))

/-- COMMIT_REQ: the peer's request names groups and boundaries (R288). -/
def execCommitReq (seq : Nat) (reqs : List (Nat × Nat)) (s : State) : Out :=
  .next (s.pairMsg seq fun s => reqs.foldl (fun t x =>
    if x.1 < 8 then (if t.cadence x.1 then t.requestAt x.1 x.2 else t.noCadence x.1) else t) s)

/-! ## Arming (R47) -/

/-- COMMIT_CTRL.ARM: the page is armed, or RESERVED_VALUE where GROUP holds a reserved value. -/
def State.arm (p : Nat) (s : State) : State :=
  if 8 ≤ s.fld p F.COMMIT_GROUP ∧ s.fld p F.COMMIT_GROUP < 0xF then (s.setFld p F.ARMED 0).reason p Cls.range 0x04
  else s.setFld p F.ARMED 1

/-- COMMIT_CTRL.DISARM; ignored while PENDING. -/
def State.disarm (p : Nat) (s : State) : State := if s.bit p F.PENDING then s else s.setFld p F.ARMED 0

/-- COMMIT_CTRL.DISCARD: the shadow copy takes the active copy, DIRTY clears, the page is disarmed; ignored while PENDING. -/
def State.discard (p : Nat) (s : State) : State :=
  if s.bit p F.PENDING then s
  else (((s.setShadow p (s.activeCells p)).setFld p F.DIRTY 0).setFld p F.ARMED 0).setFld p F.LAST_RESULT 3

/-- Run a header command on a page that has a header. -/
def State.onHeader (s : State) (p : Nat) (f : State → State) : Out := s.onPage p fun s => if (unitOf p).isSome then f s else s

def execArm (p : Nat) (s : State) : Out := s.onHeader p (State.arm p)
def execDisarm (p : Nat) (s : State) : Out := s.onHeader p (State.disarm p)
def execDiscard (p : Nat) (s : State) : Out := s.onHeader p (State.discard p)

/-! ## Readiness of layers (R121, R122, R290) -/

/-- Instances of the SRC pages of a commit of `g`. -/
def State.includedSrc (s : State) (g : Nat) : List Nat :=
  ((s.included g).filter fun p => unitAt p == .src).map instanceOf

/-- Readiness of layers 1 to 7 of source `n` by its own fences, as bits 7 to 1 (R121). -/
def State.ownReady (s : State) (n : Nat) : Nat :=
  ((List.range 8).drop 1).foldl (fun m i => if s.layerReady n i then m + 2 ^ i else m) 0

/-- What a READY message of the cut-off of boundary `b` says of a source, 0 where none came. -/
def readyAt (t : Tab Nat) (g n b : Nat) : Nat :=
  let v := Tab.get 0 t (g * 32 + n)
  if v / 256 = b + 1 then v % 256 else 0

/-- Layer `i` of source `n` counts as ready at the cut-off of boundary `m` (R122, R290). -/
def State.countsReady (s : State) (g n i m : Nat) : Bool :=
  if s.coupled then
    decide (0 < m) && readyAt s.pair.ownReady g n (m - 1) / 2 ^ i % 2 == 1 && readyAt s.pair.peerReady g n (m - 1) / 2 ^ i % 2 == 1
  else s.layerReady n i

/-- Layers of source `n` that are not ready at the cut-off of boundary `m`. -/
def State.unready (s : State) (g m n : Nat) : List Nat := ((List.range 8).drop 1).filter fun i => !s.countsReady g n i m

/-- LAYER_STATE.READY of each included source takes the readiness of this cut-off. -/
def State.showReady (s : State) (g m : Nat) : State :=
  (s.includedSrc g).foldl (fun t n => t.setFld (pSRC n) F.SRC.LAYER_STATE_READY
    (((List.range 8).drop 1).foldl (fun v i => if s.countsReady g n i m then v + 2 ^ (i - 1) else v) 0)) s

/-- READY is sent at a cut-off of a group whose commits include an SRC page (R290, R315). -/
def State.sendReady (s : State) (g m : Nat) : State :=
  let ns := s.includedSrc g
  if !s.coupled || ns.isEmpty then s
  else
    let s1 := { s with pair := { s.pair with
      ownReady := ns.foldl (fun t n => Tab.set 0 t (g * 32 + n) ((m + 1) * 256 + s.ownReady n)) s.pair.ownReady } }
    s1.ropeSend 0x32 ([BitVec.ofNat 8 g, BitVec.ofNat 8 ns.length] ++ beBytes m 8 ++
      ns.flatMap fun n => [BitVec.ofNat 8 n, BitVec.ofNat 8 (s.ownReady n)])

/-- READY: the peer's readiness at the cut-off of boundary `m` (R290). -/
def execReady (seq g m : Nat) (entries : List (Nat × Nat)) (s : State) : Out :=
  .next (s.pairMsg seq fun s => if g < 8 then { s with pair := { s.pair with
    peerReady := entries.foldl (fun t e => if e.1 < 32 then Tab.set 0 t (g * 32 + e.1) ((m + 1) * 256 + e.2 % 256) else t)
      s.pair.peerReady } } else s)

/-! ## Capture (R51, R54, R123) -/

/-- The eight registers of layer `i` of SRC page `p`. -/
def layerRegs (p i : Nat) : List Nat := (List.range 8).map fun j => (F.SRC.LAYER_CTRL i).addr p + 4 * j

/-- The layers of an SRC page that LAYER_STATE shows as held (bit 8 + layer) or hidden (bit 16 + layer). -/
def State.layersAt (s : State) (p b : Nat) : List Nat :=
  ((List.range 8).drop 1).filter fun i => s.bit p ⟨F.SRC.LAYER_STATE.off, b + i, 1⟩

/-- Capture the shadow copy of page `p` for a commit of `g`; of the layers `un` that are not ready, those whose shadow POLICY is 0
keep their active values, the others will be hidden (R123; log entry 267). A device commit is no commit at which a layer becomes
ready: a layer held before it stays held (R54, R123). -/
def State.capturePage (s : State) (g p : Nat) (un : List Nat) : State :=
  let policy (i : Nat) : Nat := s.fld p (F.SRC.LAYER_CTRL_POLICY i)
  let held := if g = 8 then (if unitAt p = .src then s.layersAt p 8 else []) else un.filter fun i => policy i == 0
  let hidden := if g = 8 then [] else un.filter fun i => policy i != 0
  let bits (l : List Nat) : Nat := l.foldl (fun m i => m + 2 ^ i) 0
  let cells := (held.flatMap (layerRegs p)).foldl (fun t a => Tab.set (resetVal a) t a (s.reg (a + 0x800))) (s.shadowCells p)
  let s1 := s.setPage p { s.page p with captured := cells, held := bits held, hidden := bits hidden, late := false }
  ((s1.setFld p F.PENDING 1).setFld p F.WAITING 0).opBegin p 4

/-- The reason code of an included page: 0 when it passes (R44, R48, R49). -/
def State.commitCode (s : State) (incl : List Nat) (g p : Nat) (old new : Nat × Nat) (all : List ((Nat × Nat) × (Nat × Nat))) : Nat :=
  let mixed : List Test := [(s.runningChange p, Cls.conflict, 0x08), (s.groupMixed p (groupCode g), Cls.conflict, 0x09)]
  let sums := s.sumsWith all
  match firstTest (orderTests (s.tests incl p) mixed (s.admTests old new all sums.1 sums.2)) with
  | some (c, d) => reasonCode c (unitAt p) d
  | none => 0

/-- The configuration digest: the CRC of R273 over every captured RW-S register (R289). -/
def State.configDigest (s : State) (ps : List Nat) : Nat :=
  crc64 (ps.flatMap fun p => ((shadowOffsets (unitAt p)).mergeSort (· ≤ ·)).flatMap fun o =>
    leBytes p 2 ++ leBytes o 2 ++ leBytes (Tab.get (resetVal (p * 0x1000 + o)) (s.page p).captured (p * 0x1000 + o)).toNat 4)

/-- Capture a commit of `g` for the boundary `m`: the pages are captured, checked against each other and the totals, and the new terms
replace the old ones (R45, R51). -/
def State.captureCommit (s : State) (g m : Nat) (paired : Bool) : State :=
  let ps := s.included g
  let s1 := ps.foldl (fun t p => t.capturePage g p (if unitAt p = .src ∧ g < 8 then s.unready g m (instanceOf p) else [])) s
  let olds := ps.map fun p => ((s.page p).chmb, (s.page p).mem)
  let news := ps.map fun p => s1.terms ps p
  let all := olds.zip news
  let codes := (ps.zip all).filterMap fun x =>
    let c := s1.commitCode ps g x.1 x.2.1 x.2.2 all
    if c = 0 then none else some (x.1, c)
  let s2 := ps.foldl (fun t p =>
    let c := ((codes.find? fun x => x.1 == p).map fun x => x.2).getD 0
    t.setPage p { t.page p with info := s1.checkInfo ps p (c / 0x1000) (c % 64), table := s1.checkTable ps p }) s1
  let s3 := (ps.zip news).foldl (fun t x => t.setTerms x.1 x.2.1 x.2.2) s2
  let r := s3.commitOf g
  (s3.setFld pSYS (progBit g) 1).putCommit g
    { r with plain := false, reqs := r.reqs.filter (m < ·), waits := 0, pages := ps, codes := codes, passed := false, boundary := m,
             old := (ps.zip olds), paired := paired, ownDigest := if paired then s1.configDigest ps else 0,
             capturedAt := s.fabric }

/-! ## Cut-off (R82, R122) -/

/-- W: the smallest COMMIT_WAIT of the included pages with an unready layer. -/
def State.waitLimit (s : State) (g m : Nat) : Nat :=
  (((s.includedSrc g).filter fun n => !(s.unready g m n).isEmpty).map fun n => s.act (pSRC n) F.SRC.SRC_CFG_COMMIT_WAIT).foldl min 15

/-- A layer of an included source is not ready. -/
def State.anyUnready (s : State) (g m : Nat) : Bool := (s.includedSrc g).any fun n => !(s.unready g m n).isEmpty

/-- The commit waits for readiness (R122). -/
def State.commitWaits (s : State) (g m : Nat) : State :=
  let s1 := (s.included g).foldl (fun t p => (t.setFld p F.WAITING 1).incFld p F.WAIT_COUNT) s
  let s2 := (s.includedSrc g).foldl (fun t n => if (s.unready g m n).isEmpty then t else t.raise (pSRC n) F.SRC.intLAYER_WAIT) s1
  s2.putCommit g { s2.commitOf g with waits := (s2.commitOf g).waits + 1 }

/-- A request is due at the cut-off of boundary `m`. -/
def CommitRec.due (r : CommitRec) (m : Nat) : Bool := r.plain || r.reqs.any fun b => decide (b ≤ m)

/-- The cut-off of the start of index `m` of group `g` (R82, R51, R122). -/
def State.cutOff (s : State) (g m : Nat) : State :=
  let s1 := s.setGrp g { s.grpOf g with cutoff := m + 1 }
  let r := s1.commitOf g
  let s2 :=
    if !r.due m || s1.inProgress g then s1
    else if s1.anyUnready g m && decide (r.waits < s1.waitLimit g m) then s1.commitWaits g m
    else s1.captureCommit g m (s1.coupled && !(r.reqs.filter (· ≤ m)).isEmpty)
  (s2.showReady g m).sendReady g m

/-- The index and the instant, counter ns, of the next frame-cycle start of group `g`. -/
def State.nextStart (s : State) (g : Nat) : Option (Nat × Int) :=
  (s.compareOf g).map fun n => ((s.cmpOf n).index, s.fireAt n (s.cmpOf n).index)

/-- COMMIT_CUTOFF: the counter reaches T(n) + OFFSET − 4,000 ns of the next start of group `g` (R82). -/
def execCommitCutoff (g : Nat) (s : State) : Out :=
  let due := match s.nextStart g with
    | some (m, f) => (s.grpOf g).cutoff != m + 1 && decide ((s.now : Int) ≥ f - 4000)
    | none => false
  s.event (decide (g < 8) && s.cadence g && due) fun s =>
    match s.nextStart g with
    | some (m, _) => s.cutOff g m
    | none => s

/-! ## The end of the check (R52, R289) -/

/-- A commit of `g` is refused: each refusing page records its reason; the terms return (R52). -/
def State.refuseCommit (s : State) (g : Nat) (codes : List (Nat × Nat)) : State :=
  let r := s.commitOf g
  let s1 := codes.foldl (fun t x => (t.showInfo x.1 x.2 (t.page x.1).info).refuseCode x.1 x.2) s
  let s2 := r.pages.foldl (fun t p => t.pageDone p 2 opRefused) s1
  let s3 := match codes.head? with
    | some x => s2.commitReason g x.2 x.1
    | none => s2
  (s3.termsBack r.old).commitResult g 2

/-- COMMIT_VERDICT to the peer (R289, R315). -/
def State.sendVerdict (s : State) (g : Nat) (pass : Bool) : State :=
  let r := s.commitOf g
  if r.paired ∧ s.coupled then
    s.ropeSend 0x31 ([BitVec.ofNat 8 g, if pass then 1 else 2] ++ beBytes r.boundary 8 ++ beBytes r.ownDigest 8)
  else s

/-- The check of a captured group commit ends (R52, R289). -/
def State.commitChecked (s : State) (g : Nat) : State :=
  let r := s.commitOf g
  let s1 := s.sendVerdict g r.codes.isEmpty
  if r.codes.isEmpty then s1.setCommit g { s1.commitOf g with passed := true } else s1.refuseCommit g r.codes

/-- COMMIT_CHECK_END (R52). -/
def execCommitCheckEnd (g : Nat) (s : State) : Out :=
  s.event (decide (g < 8) && s.inProgress g && !(s.commitOf g).passed) fun s => s.commitChecked g

/-- Counter (2^-24 ns) of the tick 300 FABRIC cycles, 200 TIMECK ticks, from now at the increment in force (R10, R289). -/
def State.in300 (s : State) : Nat := s.time.acc.toNat + 200 * s.incrEff

/-- COMMIT_VERDICT: the peer's verdict and digest for the boundary `b`, if it comes by 300 FABRIC cycles before it (R289). -/
def execCommitVerdict (seq g b : Nat) (pass : Bool) (digest : Nat) (s : State) : Out :=
  .next (s.pairMsg seq fun s =>
    let late := s.inProgress g && (s.commitOf g).boundary == b && decide (s.in300 > s.fireNs g b * 2 ^ 24)
    if g < 8 ∧ !late then s.setCommit g { s.commitOf g with peer := some (b, pass, digest) } else s)

/-- The peer's part of a coupled commit: none when it passed with an equal digest, else the class and detail of the refusal
(R289). -/
def CommitRec.peerFault (r : CommitRec) : Option (Nat × Nat) :=
  if !r.paired then none
  else match r.peer with
    | some (b, pass, d) =>
      if b ≠ r.boundary then some (Cls.timing, 0x16)
      else if !pass then some (Cls.dependency, 0x14)
      else if d ≠ r.ownDigest then some (Cls.conflict, 0x15) else none
    | none => some (Cls.timing, 0x16)

/-- A coupled commit is refused for the peer's part: page 0x013, ERR_COUNT6 (R289). -/
def State.peerRefuses (s : State) (g : Nat) (x : Nat × Nat) : State :=
  ((s.err pPAIR 6).refuseCommit g [(pPAIR, reasonCode x.1 .pair x.2)])

/-- VERDICT_DEADLINE: 300 FABRIC cycles (200 ns) before the boundary (R289). -/
def execVerdictDeadline (g : Nat) (s : State) : Out :=
  let r := s.commitOf g
  s.event (decide (g < 8) && s.inProgress g && r.passed && r.peerFault.isSome && decide (s.in300 ≥ s.fireNs g r.boundary * 2 ^ 24)) fun s =>
    match r.peerFault with
    | some x => s.peerRefuses g x
    | none => s

/-! ## Application (R52, R53) -/

/-- A page owns queue `q`: Q_OWNER (R344). -/
def State.ownQueue (s : State) (q kind inst : Nat) : State :=
  (s.setQfld F.QTAB.Q_OWNER_KIND q kind).setQfld F.QTAB.Q_OWNER_INSTANCE q inst

/-- Channel `c` owns the queues of its active paths and no other (R344). -/
def State.chanQueues (s : State) (c : Nat) : State :=
  (s.outPaths [] c).foldl (fun t b => t.ownQueue (t.act (pCHAN c) (F.CHAN.PATH_QUEUE_QUEUE b)) (1 + b) c)
    ((s.queuesOwned true c).foldl State.disown s)

/-- The registers of channel `c` that show its active geometry and demands (chapter 06). -/
def State.chanShow (s : State) (c : Nat) : State :=
  let p := pCHAN c
  let g := s.geo c
  let s1 := ((s.setFld p F.CHAN.GEOM_N_ROW g.nRow).setFld p F.CHAN.GEOM_R_ROWS g.rRows).setFld p F.CHAN.GEOM_C420 g.c420.toNat
  (((s1.put64L p F.CHAN.ADM_LOAD_LO g.load).setFld p F.CHAN.ADM_MEM g.mem).setFld p F.CHAN.ADM_WIN g.window).setFld p
    F.CHAN.ADM_ITEMS_ITEMS g.items

/-- LB_NEED of scaler `m` shows the need of its active configuration (R134). -/
def State.scalShow (s : State) (m : Nat) : State :=
  let p := pSCAL m
  let src := s.act p F.SCAL.SCAL_CFG_SOURCE
  let h := s.act p F.SCAL.OUT_SIZE_H
  s.setFld p F.SCAL.LB_NEED_NEED (s.act p F.SCAL.OUT_SIZE_W *
    scalLines (geomH (s.srcOf src).geom) h (s.act p F.SCAL.SCAL_CFG_TAPS_V) (s.act p F.SCAL.SCAL_CFG_CONV == 1))

/-- An active register of page `p` differs from the copy `old`. -/
def State.regChanged (s : State) (old : Tab Word) (p : Nat) (f : Fld) : Bool :=
  s.reg (f.act.addr p) != Tab.get (resetVal (f.addr p)) old (f.addr p)

/-- Number of ones in the low eight bits. -/
def ones8 (v : Nat) : Nat := ((List.range 8).filter fun i => v / 2 ^ i % 2 == 1).length

/-- What a commit of group `g` does beside the registers as page `p` takes new active values at the boundary of index `m`, counter ps
`f`; `old` is the active copy before (R53, R103, R123, R133, R208, R209, R332, R344). -/
def State.applied (s : State) (p g m f : Nat) (old : Tab Word) (info : PageInfo) : State :=
  let n := instanceOf p
  match unitOf p with
  | some .chan =>
    let keep (x : ChanState) : List (Nat × Tab Word) := x.oldCfg.filter fun e => x.pics.any fun y => decide (y.n < e.1)
    let s1 := s.updChan n fun x => { x with oldCfg := if g < 8 then keep x ++ [(m, old)] else [] }
    let s2 := (s1.rateCommit n f).commitTable n (s1.cvTable [] n) info.table
    let s3 := if (List.range 8).any fun i => s2.regChanged old p (F.CHAN.TS_STREAM i) || s2.regChanged old p (F.CHAN.TS_REG i) then
        s2.updOut n fun o => { o with psiAt := some (o.psiAt.getD m) } else s2
    let s4 := if s3.regChanged old p F.CHAN.REFRESH_AT_LO || s3.regChanged old p F.CHAN.REFRESH_AT_HI then
        s3.requestRefresh n (s3.act p F.CHAN.REFRESH_AT_LO + s3.act p F.CHAN.REFRESH_AT_HI * 2 ^ 32) else s3
    (s4.chanQueues n).chanShow n
  | some .src =>
    if g = 8 then s
    else
      let stay := ((s.layersAt p 16).filter fun i => info.held / 2 ^ i % 2 == 1).foldl (fun m i => m + 2 ^ i) 0
      let s1 := (s.setFld p F.SRC.LAYER_STATE_HELD (info.held / 2)).setFld p F.SRC.LAYER_STATE_HIDDEN ((info.hidden + stay) / 2)
      let s2 := if info.held = 0 then s1 else s1.raise p F.SRC.intLAYER_HELD
      let s3 := if info.hidden = 0 then s2 else s2.raise p F.SRC.intLAYER_HIDDEN
      s3.errBy p 2 (ones8 info.held + ones8 info.hidden)
  | some .scal => (s.setScal n { s.scalOf n with coef := info.table }).scalShow n
  | some .ipin =>
    if s.regChanged old p F.IPIN.POLICE_RATE || s.regChanged old p F.IPIN.POLICE_BURST then s.policeReset p else s
  | _ => s

/-- Page `p` takes its captured values: COMMITTED, COMMIT_SEQ + 1, LAST_RESULT 1; DIRTY stays for writes after the capture (R51,
R52). A page that has left ON in the meantime takes none. -/
def State.applyPage (s : State) (g m f p : Nat) : State :=
  if !s.works p then s.pageDone p 1 opCompleted
  else
    let info := s.page p
    let old := s.activeCells p
    let s1 := ((s.setActive p info.captured).raise p 4).incFld p F.COMMIT_SEQ
    ((s1.setFld p F.DIRTY info.late.toNat).pageDone p 1 opCompleted).applied p g m f old info

/-- The passed commit of `g` applies at the boundary of index `m`, counter ps `f` (R52). -/
def State.applyCommit (s : State) (g m f : Nat) : State :=
  ((s.commitOf g).pages.foldl (fun t p => t.applyPage g m f p) s).commitResult g 1

/-- At the frame-cycle start of index `m`: a commit that has passed and waits for this boundary applies, or is refused where the
peer's part is missing (R52, R289). -/
def State.commitApply (s : State) (g m f : Nat) : State :=
  let r := s.commitOf g
  if s.inProgress g && r.passed && decide (r.boundary ≤ m) then
    match r.peerFault with
    | some x => s.peerRefuses g x
    | none => s.applyCommit g m f
  else s

/-! ## Device commits (R54) -/

/-- COMMIT_REQ.DEVICE: captured at once; while one is in progress the request waits for its end. -/
def State.deviceCommitReq (s : State) : State :=
  if s.inProgress 8 then s.putCommit 8 { s.commitOf 8 with plain := true } else s.captureCommit 8 0 false

/-- DEVICE_COMMIT_REQ (R54). -/
def execDeviceCommitReq (s : State) : Out := s.onPage pSYS State.deviceCommitReq

/-- A request that waited is captured. -/
def State.deviceNext (s : State) : State := if (s.commitOf 8).plain then s.captureCommit 8 0 false else s

/-- DEVICE_COMMIT_COMPLETE: the check ends; the values apply in that cycle, or the commit is refused (R54). -/
def execDeviceCommitComplete (s : State) : Out :=
  s.event (s.inProgress 8) fun s =>
    (if (s.commitOf 8).codes.isEmpty then s.applyCommit 8 0 s.nowPs else s.refuseCommit 8 (s.commitOf 8).codes).deviceNext

/-! ## Aborts (R55, R56) -/

/-- A commit of `g` is aborted: a captured one ends, a request is withdrawn; a result recorded in this FABRIC cycle stands and SYS
records LATE_ABORT. -/
def State.abortCommit (s : State) (g : Nat) : State :=
  let r := s.commitOf g
  let withdraw (t : State) : State :=
    if r.requested then
      let t1 := (t.included g).foldl (fun u p => (u.setFld p F.WAITING 0).setFld p F.WAIT_COUNT 0) t
      t1.putCommit g { t1.commitOf g with plain := false, reqs := [], waits := 0 }
    else t
  if s.inProgress g then
    withdraw (((r.pages.foldl (fun t p => t.pageDone p 4 opAborted) s).termsBack r.old).commitResult g 3)
  else if r.requested then withdraw s
  else if s.fld pSYS (commitRes g) ≠ 0 ∧ r.resultAt = s.fabric then s.reason pSYS Cls.none 0x01
  else s

/-- COMMIT_ABORT.GROUP_MASK (R56). -/
def State.abortGroups (mask : Nat) (s : State) : State :=
  ((List.range 8).filter fun g => mask / 2 ^ g % 2 == 1).foldl State.abortCommit s

def execCommitAbortGroup (mask : Nat) (s : State) : Out := s.onPage pSYS (State.abortGroups (mask % 256))

/-- COMMIT_ABORT.DEVICE (R55, R56). -/
def execCommitAbortDevice (s : State) : Out := s.onPage pSYS fun s => s.abortCommit 8

/-! ## The configured reserve (R23, R159) -/

/-- A write to SYS.CHMB_RESERVE: lowered at once; a raise is checked against the chamber sum. The reserve held is the configured one
less the chambers remapped, not below 0 (R23). -/
def State.reserveWrite (v : Word) (s : State) : State :=
  let new := v.toNat % 16
  let old := s.fld pSYS F.SYS.CHMB_RESERVE_RESERVE
  let chambers := s.fld pSYS F.SYS.ADM_RESOURCES_CHMB_IN_SERVICE
  let held' := new - s.remapped
  if new > 8 then s.reason pSYS Cls.range 0x03
  else if new > old ∧ s.chmbSum > chmbLimit chambers held' then s.reason pSYS Cls.capacity 0x0A
  else (s.setFld pSYS F.SYS.CHMB_RESERVE_RESERVE new).limits chambers held' (s.fld pSYS F.SYS.ADM_RESOURCES_MEMC_IN_SERVICE)

/-- CHMB_RESERVE_WRITE (R159). -/
def execChmbReserveWrite (v : Word) (s : State) : Out := s.onPage pSYS (State.reserveWrite v)

/-! ## A compare that no longer starts its group (R51, R73) -/

/-- CMP_ARM: a write of CMP_CTRL of compare `n`; a waiting commit whose cadence it stops is refused in this cycle (R51, R73). -/
def execCmpArm (n : Nat) (v : Word) (s : State) : Out := s.onPage pTIME fun s => (State.cmpArm n v s).cadenceStops

/-- CMP_BOUND_WRITE: a write of CMP_CTRL (0), RATE_NUM (1), RATE_DEN (2) or OFFSET (3) of compare `n` (R81). -/
def execCmpBoundWrite (n r : Nat) (v : Word) (s : State) : Out := s.onPage pTIME fun s => (State.cmpRegWrite n r v s).cadenceStops

end Sys2Proof.Machine
end

