-- ==== Sys2Proof/Machine/Eth.lean ====
section
/-! DEFINITION. Frames of the Ethernet ports (spec/13, spec/04, spec/10, spec/11): what a port accepts and where it goes, the
merge of compressed packets, the host's frames, and the end of a frame sent. -/

namespace Sys2Proof.Machine

/-! ## A received frame -/

/-- Tagged with 802.1Q (TPID 0x8100). -/
def ethTagged (fr : List Byte) : Bool := octetsAt fr 12 2 == 0x8100

/-- Octet of the EtherType, past a tag. -/
def ethTypeAt (fr : List Byte) : Nat := if ethTagged fr then 16 else 12

def ethType (fr : List Byte) : Nat := octetsAt fr (ethTypeAt fr) 2

/-- The IPv4 packet of a frame, by its total length; empty if it carries none. -/
def ipv4Of (fr : List Byte) : List Byte :=
  let ip := fr.drop (ethTypeAt fr + 2)
  if ethType fr = 0x0800 ∧ octetsAt ip 0 1 / 16 = 4 then ip.take (octetsAt ip 2 2) else []

/-- Octets of an IPv4 header. -/
def ipHeader (ip : List Byte) : Nat := octetsAt ip 0 1 % 16 * 4

/-- The UDP datagram of an IPv4 packet; empty if it carries none, or none from its start. -/
def udpOf (ip : List Byte) : List Byte :=
  if octetsAt ip 9 1 = 17 ∧ octetsAt ip 6 2 % 2 ^ 13 = 0 then ip.drop (ipHeader ip) else []

def ipSrc (ip : List Byte) : Nat := octetsAt ip 12 4
def ipDst (ip : List Byte) : Nat := octetsAt ip 16 4
def udpDst (udp : List Byte) : Nat := octetsAt udp 2 2

/-- The payload of a UDP datagram, by its length field. -/
def udpPayload (udp : List Byte) : List Byte := (udp.take (octetsAt udp 4 2)).drop 8

/-- Destination address of a frame. -/
def ethDst (fr : List Byte) : Nat := octetsAt fr 0 6

/-! ## What a port accepts (R321, R322) -/

/-- A subscription entry of port `p` admits the multicast frame (R322). -/
def State.subscribed (s : State) (p : Nat) (fr : List Byte) : Bool :=
  let ip := ipv4Of fr
  !ip.isEmpty && ethDst fr == 0x01005E * 2 ^ 24 + ipDst ip % 2 ^ 23 && decide (ipDst ip / 2 ^ 28 = 14) &&
    (List.range 128).any fun n => s.fld (pETH p) (F.ETH.SUB_GROUP n) == ipDst ip &&
      (s.fld (pETH p) (F.ETH.SUB_SOURCE n) == 0 || s.fld (pETH p) (F.ETH.SUB_SOURCE n) == ipSrc ip)

/-- The enabled Echo entry that a frame received on port `p` matches while PAIR is ON (R271). -/
def State.echoEntry (s : State) (p : Nat) (fr : List Byte) : Option Nat :=
  let ip := ipv4Of fr
  let udp := udpOf ip
  if udp.isEmpty || !s.pairOn then none
  else (List.range 8).find? fun e => s.bit pPAIR (F.PAIR.ECHO_CTRL_EN e) && s.fld pPAIR (F.PAIR.ECHO_CTRL_ETH e) == p &&
    s.fld pPAIR (F.PAIR.ECHO_CTRL_UDP e) == udpDst udp && s.fld pPAIR (F.PAIR.ECHO_DEST e) == ipDst ip

/-- The destination address of a frame is one that port `p` accepts (R321). -/
def State.daAccepted (s : State) (p : Nat) (fr : List Byte) : Bool :=
  ethDst fr == beNat (s.portMac p) || ethDst fr == 2 ^ 48 - 1 || s.subscribed p fr ||
    (s.bit (pETH p) F.ETH.PORT_CFG_PTP_L2 && (ethDst fr == 0x011B19000000 || ethDst fr == 0x0180C200000E)) ||
    (s.bit (pETH p) F.ETH.PORT_CFG_ECHO_ANY_DA && (s.echoEntry p fr).isSome)

/-- The frame's tag is one that port `p` accepts (R321). -/
def State.tagAccepted (s : State) (p : Nat) (fr : List Byte) : Bool :=
  !ethTagged fr || (s.bit (pETH p) F.ETH.PORT_CFG_RX_VLAN_EN && octetsAt fr 14 2 % 4096 == s.fld (pETH p) F.ETH.PORT_CFG_RX_VID)

/-! ## Echo packets (R270, R271) -/

/-- The data of the first element of ID `id` with `n` data octets in a one-byte-header extension block. -/
def extElement (id n : Nat) : Nat → List Byte → Option (List Byte)
  | 0, _ => none
  | _ + 1, [] => none
  | fuel + 1, b :: bs =>
    if b = 0 then extElement id n fuel bs
    else if b.toNat / 16 = 15 then none
    else if b.toNat / 16 = id ∧ b.toNat % 16 + 1 = n then some (bs.take n)
    else extElement id n fuel (bs.drop (b.toNat % 16 + 1))

/-- The Cairn tag of an RTP packet, with this unit's CAIRN_ID (R270, R271): its five data octets. -/
def State.cairnTag (s : State) (rtp : List Byte) : Option (List Byte) :=
  let o := 12 + 4 * (octetsAt rtp 0 1 % 16)
  let block := (rtp.drop (o + 4)).take (4 * octetsAt rtp (o + 2) 2)
  if octetsAt rtp 0 1 / 16 % 2 = 1 ∧ octetsAt rtp o 2 = 0xBEDE then
    match extElement (s.fld pPAIR F.PAIR.PAIR_CFG_CAIRN_ID) 5 block.length block with
    | some d => if d.length = 5 then some d else none
    | none => none
  else none

/-- The number nearest `ref` that is congruent to the 16-bit number `v`. -/
def unwrap16 (ref v : Nat) : Nat := (ref + sext32 (wrapSub v ref (2 ^ 16) * 2 ^ 16) / 2 ^ 16).toNat

/-- A packet of Echo entry `e` (R271). -/
def State.echoPacket (s : State) (e : Nat) (rtp : List Byte) : State :=
  match s.cairnTag rtp with
  | some d =>
    let c := s.fld pPAIR (F.PAIR.ECHO_CTRL_CHAN e)
    s.echoTag e (octetsAt d 0 4) (octetsAt d 4 1 ≥ 128) (unwrap16 (s.fld (pCHAN c) F.CHAN.SEQ_NEXT) (rtpSeq rtp) % 2 ^ 32)
  | none => s.err pPAIR 7

/-! ## IPIN paths (R100) and the merge of compressed packets (R242) -/

/-- Path `b` of IPIN page `n` accepts the packet (R100). -/
def State.pathTakes (s : State) (p n b : Nat) (ip : List Byte) : Bool :=
  let q := pIPIN n
  let udp := udpOf ip
  let rtp := udpPayload udp
  !udp.isEmpty && s.works q && (b == 0 || s.act q F.IPIN.IP_CFG_DUAL == 1) && s.act q (F.IPIN.PATH_PORT_ETH b) == p &&
    s.act q (F.IPIN.PATH_DEST b) == ipDst ip && s.act q (F.IPIN.PATH_PORT_UDP b) == udpDst udp &&
    (s.act q (F.IPIN.PATH_SRC b) == 0 || s.act q (F.IPIN.PATH_SRC b) == ipSrc ip) &&
    octetsAt rtp 1 1 % 128 == s.act q F.IPIN.IP_CFG_PT &&
    (s.act q F.IPIN.IP_CFG_SSRC_CHECK == 0 || octetsAt rtp 8 4 == s.act q F.IPIN.SSRC)

/-- A packet taken in sequence goes to the ON decoder that names the page, or is discarded (R241, R242). -/
def State.forward (s : State) (n : Nat) (at' : Nat) (rtp : List Byte) : State :=
  (List.range 2).foldl (fun t d =>
    if t.isOn (pDEC d) && t.act (pDEC d) F.DEC.DEC_CFG_INPUT_KIND == 0 && t.act (pDEC d) F.DEC.DEC_CFG_INPUT == n then
      t.setDec d { t.decOf d with input := (t.decOf d).input ++ [(at', rtp)] }
    else t) s

/-- Held packets are taken in sequence up to the first number missing (R242). -/
def State.mergeDrain (n : Nat) : Nat → State → State
  | 0, s => s
  | fuel + 1, s =>
    let x := s.inputOf (pIPIN n)
    match x.held with
    | h :: r =>
      if x.next = some h.seq then
        State.mergeDrain n fuel ((s.setInput (pIPIN n) { x with held := r, next := some (h.seq + 1) }).forward n h.at' h.bytes)
      else s
    | [] => s

/-- Numbers taken or lost at least JITTER_NS ago are judged: a number that one path of two did not deliver is a gap of that
path (R101; log entry 60). The arrival time of the first delivery stands in `line`. -/
def State.mergeJudge (s : State) (p : Nat) : State :=
  let x := s.inputOf p
  let old := fun (c : Nat × SeqRec) => decide (c.1 < x.next.getD 0) && decide (c.2.line + s.act p F.IPIN.JITTER_NS_JITTER ≤ s.now)
  let dual := s.act p F.IPIN.IP_CFG_DUAL == 1
  let s1 := (x.seqs.filter old).foldl (fun t c =>
    if dual && !c.2.a then t.err p 1 else if dual && !c.2.b then t.err p 2 else t) s
  s1.setInput p { s1.inputOf p with seqs := x.seqs.filter fun c => !old c }

/-- Insert a held packet in sequence order. -/
def insertHeld (h : HeldPacket) : List HeldPacket → List HeldPacket
  | [] => [h]
  | x :: xs => if h.seq < x.seq then h :: x :: xs else x :: insertHeld h xs

/-- A compressed packet accepted on path `b` (R101, R242). -/
def State.ipinCompressed (s : State) (n b : Nat) (rtp : List Byte) : State :=
  let p := pIPIN n
  let x := s.inputOf p
  let q := match x.ext with
    | some e => unwrap16 e (rtpSeq rtp)
    | none => rtpSeq rtp + 2 ^ 16
  let r := Tab.get .reset x.seqs q
  let r' : SeqRec := if b = 0 then { r with a := true } else { r with b := true }
  let seen := r.a || r.b
  let fresh := !seen && decide (x.next.getD q ≤ q)
  let s1 := s.setInput p { x with
    ext := some (max q (x.ext.getD 0))
    next := some (x.next.getD q)
    seqs := if seen || fresh then Tab.set .reset x.seqs q (if seen then r' else { r' with line := s.now }) else x.seqs
    held := if fresh then insertHeld ⟨q, s.now, rtp⟩ x.held else x.held }
  (State.mergeDrain n (x.held.length + 1) s1).mergeJudge p

/-- A packet that path `b` of IPIN page `n` accepts: policed, merged, and written or forwarded (R101 to R103, R241). -/
def State.ipinPacket (s : State) (n b : Nat) (ip : List Byte) : State :=
  let p := pIPIN n
  let t := s.police p b ip.length
  if t.2 then
    let s1 := t.1.pathSeen p b
    let rtp := udpPayload (udpOf ip)
    if s1.act p F.IPIN.IP_CFG_MODE = 1 then s1.ipinCompressed n b rtp else s1.ipinVideo p b rtp
  else t.1

/-- The (page, path) pairs that accept a packet received on port `p` (R100). -/
def State.pathsOf (s : State) (p : Nat) (ip : List Byte) : List (Nat × Nat) :=
  (List.range 32).flatMap fun n => ([0, 1].filter fun b => s.pathTakes p n b ip).map fun b => (n, b)

/-- IPIN_SEQ_LOST: the next number is missing while a later packet has waited JITTER_NS (R242). -/
def execIpinSeqLost (n : Nat) (s : State) : Out :=
  let p := pIPIN n
  let x := s.inputOf p
  s.event (decide (n < 32) && s.works p && s.act p F.IPIN.IP_CFG_MODE == 1 &&
      x.held.any fun h => decide (h.at' + s.act p F.IPIN.JITTER_NS_JITTER ≤ s.now)) fun s =>
    let s1 := (s.setInput p { x with next := x.next.map (· + 1) }).err p 0
    (State.mergeDrain n x.held.length s1).mergeJudge p

/-! ## The host's frames (R323 to R326) -/

/-- Receive class of a frame: 0 ARP, 1 ICMP, 2 IGMP, 3 PTP, 4 OTHER (R323). -/
def rxClass (fr : List Byte) : Nat :=
  let ip := ipv4Of fr
  let udp := udpOf ip
  if ethType fr = 0x0806 then 0
  else if ethType fr = 0x88F7 then 3
  else if !udp.isEmpty && (udpDst udp == 319 || udpDst udp == 320) then 3
  else if !ip.isEmpty && octetsAt ip 9 1 == 1 then 1
  else if !ip.isEmpty && octetsAt ip 9 1 == 2 then 2
  else 4

/-- The stamp of an instant `back` 2^-24 ns ago, 0 while TIME is not RUNNING (R326, R327; log entry 61). -/
def State.stampOf (s : State) (back : Nat) : Nat := if s.running then s.time.acc.toNat - back else 0

/-- An accepted frame goes to the first of an Echo entry, an IPIN path and the host that it matches (R323). -/
def State.ethDeliver (s : State) (p : Nat) (fr : List Byte) (back : Nat) : State :=
  let ip := ipv4Of fr
  match s.echoEntry p fr with
  | some e => s.echoPacket e (udpPayload (udpOf ip))
  | none =>
    match s.pathsOf p ip with
    | x :: xs => (x :: xs).foldl (fun t y => t.ipinPacket y.1 y.2 ip) s
    | [] =>
      if s.bit (pETH p) F.ETH.HOST_CFG_HOST_EN && s.fld (pETH p) F.ETH.HOST_CFG_RX_CLASSES / 2 ^ rxClass fr % 2 == 1 then
        (s.hostRx p (hostRxHeader p 0 false (s.stampOf back) fr.length ++ padTo 8 fr)).1
      else s.err (pETH p) 4

/-- A frame has been received on port `p`, from DA up to the FCS (R319, R321, R323). -/
def State.ethFrame (s : State) (p : Nat) (good : Bool) (fr : List Byte) (back : Nat) : State :=
  if !good then s.err (pETH p) 2
  else if fr.length + 4 < 64 ∨ 9216 < fr.length + 4 then s.err (pETH p) 3
  else if ethType fr = 0x8808 then s.err (pETH p) 5
  else if s.tagAccepted p fr && s.daAccepted p fr then (s.incFld (pETH p) F.ETH.RX_FRAMES).ethDeliver p fr back
  else s

/-- FEC codewords corrected and uncorrectable, and symbols corrected, since the last received frame (R319; log entry 106). -/
def State.fecCount (s : State) (p corrected uncorr symbols : Nat) : State :=
  let s1 := ((s.errBy (pETH p) 0 corrected).errBy (pETH p) 1 uncorr).addFld (pETH p) F.ETH.FEC_SYMBOLS symbols
  if uncorr = 0 then s1 else s1.raise (pETH p) F.ETH.intFEC_UNCORR

/-- ETH_FRAME_RECEIVE: `good` is a good FCS and no uncorrectable codeword; `back` is how long ago, in 2^-24 ns, the message
timestamp point crossed the ball (R321, R326). A port that is not UP accepts nothing (R320). -/
def execEthFrameReceive (p : Nat) (good : Bool) (fr : List Byte) (back corrected uncorr symbols : Nat) (s : State) : Out :=
  s.event (decide (p < 8) && s.works (pETH p) && s.portUp p) fun s =>
    (s.fecCount p corrected uncorr symbols).ethFrame p good fr back

/-- SUB_WRITE: a write of SUB`n`_GROUP (`source` false) or SUB`n`_SOURCE; a GROUP that is neither 0 nor multicast is ignored
(R322). -/
def State.subWrite (p n : Nat) (source : Bool) (v : Word) (s : State) : State :=
  if source then s.setFld (pETH p) (F.ETH.SUB_SOURCE n) v.toNat
  else if v.toNat ≠ 0 ∧ v.toNat / 2 ^ 28 ≠ 14 then s.reason (pETH p) Cls.range 0x13
  else s.setFld (pETH p) (F.ETH.SUB_GROUP n) v.toNat

def execSubWrite (p n : Nat) (source : Bool) (v : Word) (s : State) : Out :=
  if p < 8 ∧ n < 128 then s.onPage (pETH p) (State.subWrite p n source v) else .next s

/-- A host transmit record is taken: its frame, padded to 60 octets, goes to HOST_QUEUE (R324, R341). A record whose LENGTH is
outside 14 to 9,212, among them what a CHK unit leaves of a discarded one, has no frame that could be sent: a requested stamp is
written with DROPPED set (R325, R403; log entry 67). -/
def State.hostTx (s : State) (p : Nat) (rec : List Byte) : State :=
  let h := leNat (rec.take 8)
  let fr := (rec.drop 16).take (h % 2 ^ 14)
  let f : Frame :=
    { queue := s.fld (pETH p) F.ETH.HOST_QUEUE_QUEUE
      octets := fr ++ List.replicate (60 - fr.length) 0
      chan := none
      stamp := if h / 2 ^ 16 % 2 = 1 then some (p, h / 2 ^ 32) else none }
  if h % 2 ^ 14 < 14 ∨ 9212 < h % 2 ^ 14 then s.txStamp f true 0
  else { s with tsch := { s.tsch with handoff := s.tsch.handoff ++ [f] } }

/-- HOST_TX_RECORD (R324). -/
def execHostTxRecord (p : Nat) (s : State) : Out :=
  let r := s.fld (pETH p) F.ETH.HOST_CFG_TX_RING
  s.event (decide (p < 8) && s.works (pETH p) && s.bit (pETH p) F.ETH.HOST_CFG_HOST_EN && s.ringRole r 7) fun s =>
    match s.takeRecord r with
    | some (rec, t) => t.hostTx p rec
    | none => s

/-- FRAME_TRANSMIT_END: the frame leaves the port; it is counted, its bytes are released, and a requested stamp is written
(R325, R326, R341). -/
def execFrameTransmitEnd (p back : Nat) (s : State) : Out :=
  s.event (decide (p < 8) && s.works pTSCH && (s.portOf p).sending.isSome) fun s =>
    match (s.portOf p).sending with
    | some (_, f) => ((s.txEnd p).incFld (pETH p) F.ETH.TX_FRAMES).txStamp f false (s.stampOf back)
    | none => s

end Sys2Proof.Machine
end

