-- ==== Sys2Proof/Machine/DecIn.lean ====
section
/-! DEFINITION. The input of a decoder (spec/10, R241 to R244): DMA records, RTP payloads and transport streams, access units and
their indices, and the coded picture buffer in the DEC region. -/

namespace Sys2Proof.Machine

/-! ## Errors and settings of a decoder -/

def State.updDec (s : State) (d : Nat) (f : DecState → DecState) : State := s.setDec d (f (s.decOf d))

/-- `n` errors (R248). -/
def State.decErrors (s : State) (d n : Nat) : State :=
  if n = 0 then s else (s.errBy (pDEC d) 0 n).raise (pDEC d) F.DEC.intSYNTAX_ERR

/-- Bytes in the CPB. -/
def DecState.level (x : DecState) : Nat := x.aus.foldl (fun n a => n + a.bytes) 0

/-- CPB_LEVEL follows the access units held. -/
def State.cpbLevel (s : State) (d : Nat) : State := s.setFld (pDEC d) F.DEC.CPB_LEVEL_BYTES (s.decOf d).level

/-- Bytes of the CPB (CPB_CFG), at the base of the DEC region (R247). -/
def State.cpbSize (s : State) (d : Nat) : Nat := s.act (pDEC d) F.DEC.CPB_CFG_MIB * 1048576
def State.decBase (s : State) (d : Nat) : Nat :=
  (s.act (pDEC d) F.DEC.REGION_BASE_LO + s.act (pDEC d) F.DEC.REGION_BASE_HI_ADDR * 2 ^ 32) % 2 ^ 36

/-- Index group, P and codec of a decoder. -/
def State.decGroup (s : State) (d : Nat) : Nat := s.act (pDEC d) F.DEC.DEC_CFG_INDEX_GROUP
def State.decDelay (s : State) (d : Nat) : Nat := s.act (pDEC d) F.DEC.DEC_CFG_PRESENT_DELAY
def State.decCodec (s : State) (d : Nat) : Nat := s.act (pDEC d) F.DEC.DEC_CFG_CODEC

/-! ## Indices (R244) -/

/-- The largest n with T(n) + OFFSET at or before `t` in the index group (R244). -/
def State.cycleAt (s : State) (g t : Nat) : Nat :=
  match s.compareOf g with
  | some c =>
    let r := s.rateOf g
    let m := ((t : Int) * r.1 / (r.2 * 1000000000)).toNat + 1
    ((List.range 4).map fun i => m + 1 - i).find? (fun n => decide (s.fireAt c n ≤ t)) |>.getD 0
  | none => 0

/-- Index `n` repeats that of an access unit or picture held or of the last one accepted, or is not above that of the picture presented
last: pictures are taken in index order, "so the reordering of the stream is undone by the index" (R109, R244; log entry 63). -/
def DecState.repeated (x : DecState) (n : Nat) : Bool :=
  x.last == some n || (x.aus.any fun a => a.index == some n) || (x.pics.any fun a => a.index == n) ||
    match x.shown with
    | some a => decide (n ≤ a.index)
    | none => false

/-- PHASE of an access unit of index `n` whose first packet was accepted at `at'`, and PHASE_WARN (R109, R244). -/
def State.decPhase (s : State) (d n at' : Nat) : State :=
  let r := s.rateOf (s.decGroup d)
  let ph : Int := (at' : Int) - alignPoint r.1 r.2 n
  let s1 := s.setReg (F.DEC.PHASE.addr (pDEC d)) (satWord ph)
  if phaseWide ph r.1 r.2 then s1.raise (pDEC d) F.DEC.intPHASE_WARN else s1

/-- A repeated index (R109, R244). -/
def State.decDup (s : State) (d : Nat) : State := (s.raise (pDEC d) F.DEC.intINDEX_DUP).err (pDEC d) 6

/-- Index of an access unit that begins with a packet accepted at `at'` with timestamp `ts` (R244): none in INDEX_MODE 1. -/
def State.packetIndex (s : State) (d at' ts : Nat) : Option Nat :=
  if s.act (pDEC d) F.DEC.DEC_CFG_INDEX_MODE = 1 then none
  else
    let r := s.rateOf (s.decGroup d)
    some (rtpIndex at' ts r.1 r.2).1

/-! ## The coded picture buffer (R243, R247) -/

/-- The last access unit ends; one refused for its index, or whose picture is complete, leaves. -/
def State.auEnd (s : State) (d : Nat) : State :=
  s.updDec d fun x => { x with
    fu := false
    aus := (x.aus.map fun a => { a with ended := true }).filter fun a => !a.refused && !a.decoded }

/-- The access unit that is open. -/
def DecState.open' (x : DecState) : Option AccessUnit :=
  match x.aus.getLast? with
  | some a => if a.ended then none else some a
  | none => none

/-- An access unit begins with timestamp `ts`, accepted at `at'`; its index is known, or comes with its POC (R244). -/
def State.auBegin (s : State) (d : Nat) (index : Option Nat) (at' ts : Nat) : State :=
  let add (t : State) (refused : Bool) : State :=
    t.updDec d fun x => { x with aus := x.aus ++ [⟨index, x.wp, [], at', ts, false, none, false, false, false, false, refused, false⟩] }
  match index with
  | some n =>
    let s1 := s.decPhase d n at'
    if (s1.decOf d).repeated n then add (s1.decDup d) true
    else (add s1 false).updDec d fun x => { x with last := some n }
  | none => add s false

/-- Change the last access unit. -/
def DecState.updLast (x : DecState) (f : AccessUnit → AccessUnit) : DecState :=
  match x.aus.getLast? with
  | some a => { x with aus := x.aus.dropLast ++ [f a] }
  | none => x

/-- Bytes extend the last piece of an access unit, or begin a new one. -/
def AccessUnit.extend (a : AccessUnit) (new : Bool) (n : Nat) : AccessUnit :=
  match a.pieces.getLast?, new with
  | some p, false => { a with pieces := a.pieces.dropLast ++ [(p.1 + n, p.2)] }
  | _, _ => { a with pieces := a.pieces ++ [(n, false)] }

/-- Write `bs` at offset `o` of the DEC region, and `more` at its start. -/
def State.cpbPut (s : State) (d o : Nat) (bs more : List Byte) : State :=
  ((s.devWriteUnits (mDEC d) (bs.length + 1) (s.decBase d + o) bs).1.devWriteUnits (mDEC d) (more.length + 1) (s.decBase d) more).1

/-- Write bytes into the ring of the CPB from byte `pos` on (R243, R247). -/
def State.cpbWrite (s : State) (d pos : Nat) (bs : List Byte) : State :=
  s.cpbPut d (pos % s.cpbSize d) (bs.take (s.cpbSize d - pos % s.cpbSize d)) (bs.drop (s.cpbSize d - pos % s.cpbSize d))

/-- Bytes of the last access unit arrive, in a piece of their own or not: a byte that finds the CPB full discards the rest of the access
unit (R243). -/
def State.auBytes (s : State) (d : Nat) (new : Bool) (bs : List Byte) : State :=
  let x := s.decOf d
  match x.aus.getLast? with
  | some a =>
    if a.refused || a.dropping || a.decoded then s
    else
      let room := s.cpbSize d - x.level
      let kept := bs.take room
      let s1 := (s.cpbWrite d x.wp kept).updDec d fun y =>
        { y.updLast fun a => a.extend new kept.length with wp := y.wp + kept.length }
      if bs.length ≤ room then s1
      else ((s1.updDec d fun y => y.updLast fun a => { a with dropping := true, broken := true }).raise
        (pDEC d) F.DEC.intCPB_OVERFLOW).err (pDEC d) 7
  | none => s

/-! ## DMA records (R243) -/

/-- DISCONT cuts off what the last access unit holds (R248). -/
def AccessUnit.cutOff (a : AccessUnit) : AccessUnit :=
  match a.pieces.getLast? with
  | some p => { a with pieces := a.pieces.dropLast ++ [(p.1, true)], broken := true }
  | none => { a with broken := true }

/-- A DMA record: header and payload; `disc` is a loss before it (R243, R403). After DISCONT what stands before the next start code is of
no NAL unit (R248). -/
def State.decRecord (s : State) (d : Nat) (rec : List Byte) (disc : Bool) : State :=
  let n := leNat (rec.take 8)
  let h := leNat ((rec.drop 8).take 8)
  let lost := decide (h / 2 ^ 33 % 2 = 1) || disc
  let s0 := if lost then s.decErrors d 1 else s
  let cur := match (s0.decOf d).open' with
    | some a => a.index == some n
    | none => false
  let s1 := if lost && cur then s0.updDec d fun x => x.updLast AccessUnit.cutOff else s0
  let s2 := if cur then s1 else (s1.auEnd d).auBegin d (some n) s.now 0
  let s3 := if lost && !cur then s2.updDec d fun x => x.updLast AccessUnit.cutOff else s2
  let s4 := s3.auBytes d lost ((rec.drop 16).take (h % 2 ^ 32))
  if h / 2 ^ 32 % 2 = 1 then s4.auEnd d else s4

/-! ## NAL units as packets carry them (R241; their types are those of H.266 and H.265, PRESUMED, log entry 64) -/

/-- nal_unit_type and nuh_layer_id of a NAL unit, by codec (0 VVC, 1 HEVC). -/
def nalType (codec : Nat) (nal : List Byte) : Nat := if codec = 0 then octetsAt nal 1 1 / 8 else octetsAt nal 0 1 / 2 % 64
def nalLayer (codec : Nat) (nal : List Byte) : Nat := if codec = 0 then octetsAt nal 0 1 % 64 else octetsAt nal 0 2 / 8 % 64

/-- The NAL unit is a slice. -/
def isSlice (codec : Nat) (nal : List Byte) : Bool :=
  let t := nalType codec nal
  if codec = 0 then decide (t ≤ 11) else decide (t ≤ 31)

/-- The NAL unit begins an access unit where slices have come before it: the first slice of a picture, or a unit that stands before the
slices of one. -/
def beginsUnit (codec : Nat) (nal : List Byte) : Bool :=
  let t := nalType codec nal
  nalLayer codec nal == 0 &&
    if isSlice codec nal then decide (octetsAt nal 2 1 ≥ 128)
    else if codec = 0 then (decide (12 ≤ t ∧ t ≤ 17) || t == 19 || t == 20 || t == 23)
    else (decide (32 ≤ t ∧ t ≤ 35) || t == 39)

/-- A NAL unit, or the first fragment of one, accepted at `at'` with timestamp `ts`: it belongs to the open access unit, or is the first
of the next (R241). -/
def State.rtpNal (d at' ts : Nat) (s : State) (nal : List Byte) : State :=
  let codec := s.decCodec d
  let same := match (s.decOf d).open' with
    | some a => a.ts == ts && !(a.vcl && beginsUnit codec nal)
    | none => false
  let s1 := if same then s else (s.auEnd d).auBegin d (s.packetIndex d at' ts) at' ts
  (s1.auBytes d true nal).updDec d fun x => x.updLast fun a => { a with vcl := a.vcl || isSlice codec nal }

/-- The NAL units of an aggregation packet, past its header; at most `n`. -/
def aggregated : Nat → List Byte → List (List Byte)
  | 0, _ => []
  | n + 1, bs => if bs.length ≤ 2 then [] else ((bs.drop 2).take (octetsAt bs 0 2)) :: aggregated n (bs.drop (2 + octetsAt bs 0 2))

/-- A fragmentation unit: the first opens a NAL unit, the others extend it (R241). -/
def State.rtpFragment (s : State) (d at' ts : Nat) (pl : List Byte) : State :=
  let f := octetsAt pl 2 1
  let b0 := octetsAt pl 0 1
  let b1 := octetsAt pl 1 1
  let hd := if s.decCodec d = 0 then [b0, f % 32 * 8 + b1 % 8] else [b0 / 128 * 128 + f % 64 * 2 + b0 % 2, b1]
  if f ≥ 128 then (s.rtpNal d at' ts (hd.map (BitVec.ofNat 8) ++ pl.drop 3)).updDec d fun x => { x with fu := true }
  else if (s.decOf d).fu then (s.auBytes d false (pl.drop 3)).updDec d fun x => { x with fu := decide (f / 64 % 2 = 0) }
  else s

/-- The payload of an RTP packet: past its header, without padding (RFC 3550). -/
def rtpPayload (pkt : List Byte) : List Byte :=
  let pl := pkt.drop (rtpHeader pkt)
  if octetsAt pkt 0 1 / 32 % 2 = 1 then pl.take (pl.length - octetsAt pl (pl.length - 1) 1) else pl

/-- A packet in TRANSPORT 0: single NAL unit packets, aggregation packets and fragmentation units; a lost number ends the NAL unit
that is open, and the marker bit the access unit (R241; RFC 9328, RFC 7798). -/
def State.rtpInput (s : State) (d at' : Nat) (pkt : List Byte) : State :=
  let ts := rtpTime pkt
  let codec := s.decCodec d
  let pl := rtpPayload pkt
  let t := nalType codec pl
  let s0 := s.updDec d fun x => { x with
    seq := some (rtpSeq pkt)
    fu := x.fu && x.seq.map (fun q => (q + 1) % 65536) == some (rtpSeq pkt) }
  let s1 :=
    if t = (if codec = 0 then 28 else 48) then (aggregated pl.length (pl.drop 2)).foldl (State.rtpNal d at' ts) s0
    else if t = (if codec = 0 then 29 else 49) then s0.rtpFragment d at' ts pl
    else if codec = 1 ∧ t = 50 then s0
    else State.rtpNal d at' ts s0 pl
  let s2 := if Config.carriesDonl pl then s1.updDec d fun x => x.updLast fun a => { a with donl := true } else s1
  if octetsAt pkt 1 1 ≥ 128 then s2.auEnd d else s2

/-! ## Transport streams (R241) -/

/-- The payload of a transport-stream packet, past its adaptation field. -/
def tsPayload (b : List Byte) : List Byte :=
  match octetsAt b 3 1 / 16 % 4 with
  | 1 => b.drop 4
  | 3 => b.drop (5 + octetsAt b 4 1)
  | _ => []

/-- PTS of a PES packet, modulo 2^32 (R244). -/
def pesPts (b : List Byte) : Nat :=
  (octetsAt b 9 1 / 2 % 8 * 2 ^ 30 + octetsAt b 10 2 / 2 * 2 ^ 15 + octetsAt b 12 2 / 2) % 2 ^ 32

/-- Payload bytes of the PES packet that is open: up to those that its length leaves, with which its access unit ends (R241). -/
def State.pesBytes (s : State) (d : Nat) (bs : List Byte) : State :=
  match (s.decOf d).open' with
  | some a =>
    match a.left with
    | some n =>
      let s1 := (s.auBytes d false (bs.take n)).updDec d fun x => x.updLast fun a => { a with left := some (n - bs.length) }
      if n ≤ bs.length then s1.auEnd d else s1
    | none => s.auBytes d false bs
  | none => s

/-- A transport-stream packet in TRANSPORT 1 (R241): the PES packets of VIDEO_PID, one access unit each. -/
def State.tsInput (d at' : Nat) (s : State) (b : List Byte) : State :=
  if octetsAt b 0 1 ≠ 0x47 ∨ octetsAt b 1 2 % 2 ^ 13 ≠ s.act (pDEC d) F.DEC.VIDEO_PID_PID then s
  else
    let pl := tsPayload b
    if octetsAt b 1 1 / 64 % 2 = 1 then
      let hd := 9 + octetsAt pl 8 1
      let len := octetsAt pl 4 2
      let left := if len = 0 then none else some (len + 6 - hd)
      let s1 := (s.auEnd d).auBegin d (s.packetIndex d at' (pesPts pl)) at' (pesPts pl)
      (s1.updDec d fun x => x.updLast fun a => { a with left := left }).pesBytes d (pl.drop hd)
    else s.pesBytes d pl

/-- The 188-octet packets of a payload. -/
def tsSplit : Nat → List Byte → List (List Byte)
  | 0, _ => []
  | n + 1, bs => bs.take 188 :: tsSplit n (bs.drop 188)

/-- DEC_INPUT_RECORD: the oldest compressed-input record of the ring, or the oldest packet that IPIN forwarded, enters the
CPB (R241, R243). -/
def execDecInputRecord (d : Nat) (s : State) : Out :=
  let p := pDEC d
  let r := s.act p F.DEC.DEC_CFG_INPUT
  s.event (decide (d < 2) && s.works p) fun s =>
    if s.act p F.DEC.DEC_CFG_INPUT_KIND = 1 then
      if s.ringRole r 6 then
        match s.takeRecord r with
        | some (rec, t) =>
          let disc := (t.ringOf r).discont
          ((t.setRing r { t.ringOf r with discont := false }).decRecord d rec disc).cpbLevel d
        | none => s
      else s
    else match (s.decOf d).input with
      | (at', pkt) :: rest =>
        let s1 := s.updDec d fun x => { x with input := rest }
        (if s1.act p F.DEC.DEC_CFG_TRANSPORT = 0 then s1.rtpInput d at' pkt
         else (tsSplit ((rtpPayload pkt).length / 188) (rtpPayload pkt)).foldl (State.tsInput d at') s1).cpbLevel d
      | [] => s

end Sys2Proof.Machine
end

