-- ==== Sys2Proof/Machine/DecRead.lean ====
section
/-! DEFINITION. What a decoder makes of an access unit (spec/10, R238, R247 to R250): its NAL units, the errors in them, the CTUs that
are decoded, the picture slots of the DEC region, concealment and generated references. What the codec recommendations define
is a constant of Config (log entries 40 and 62). -/

namespace Sys2Proof.Machine

/-! ## NAL units of the coded picture buffer -/

/-- Bytes of the DEC region, with zeros where no target decodes them and free ones where memory does not return them (R382, R390; log entry
123). -/
def State.decOctets (s : State) (d a n : Nat) : List Byte :=
  match s.readStatus (mDEC d) a n with
  | .decodeError => List.replicate n 0#8
  | _ => (s.loadBytes a n).mapIdx fun i b => if s.blockBad ((a + i) / 64) then (Config.lostSample s.freeCtr (a + i)).setWidth 8 else b

/-- What the matrix and the memory count for a read of the DEC region. -/
def State.decTouch (s : State) (d a n : Nat) : State := if n = 0 then s else (s.devRead (mDEC d) a n).1

/-- Bytes of the CPB from byte `pos` of its ring on, and what reading them counts (R243). -/
def State.cpbRead (s : State) (d pos n : Nat) : List Byte :=
  let o := pos % s.cpbSize d
  let k := min n (s.cpbSize d - o)
  s.decOctets d (s.decBase d + o) k ++ s.decOctets d (s.decBase d) (n - k)
def State.cpbTouch (s : State) (d pos n : Nat) : State :=
  let o := pos % s.cpbSize d
  let k := min n (s.cpbSize d - o)
  (s.decTouch d (s.decBase d + o) k).decTouch d (s.decBase d) (n - k)

/-- The NAL units of octets in byte-stream format: what stands between start codes, without trailing zeros (R241, R248). `z` zeros have just
gone by; `cur` holds the octets of the open unit, last first. -/
def nalScan : Nat → Option (List Byte) → List Byte → List (List Byte)
  | _, cur, [] => match cur with
    | some l => [(l.dropWhile (· == 0#8)).reverse]
    | none => []
  | z, cur, b :: bs =>
    if b = 1#8 ∧ 2 ≤ z then
      (match cur with
       | some l => [(l.dropWhile (· == 0#8)).reverse]
       | none => []) ++ nalScan 0 (some []) bs
    else nalScan (if b = 0#8 then z + 1 else 0) (cur.map (b :: ·)) bs

/-- The pieces of an access unit, each with whether DISCONT cut it off. -/
def State.auPieces (s : State) (d : Nat) : Nat → List (Nat × Bool) → List (List Byte × Bool)
  | _, [] => []
  | pos, p :: ps => (s.cpbRead d pos p.1, p.2) :: State.auPieces s d (pos + p.1) ps

/-- The NAL units of an access unit; DISCONT has cut the last one of its piece (R241, R243, R248). -/
def State.auNals (s : State) (d : Nat) (a : AccessUnit) : List (List Byte × Bool) :=
  let ps := s.auPieces d a.pos a.pieces
  if s.act (pDEC d) F.DEC.DEC_CFG_INPUT_KIND = 0 ∧ s.act (pDEC d) F.DEC.DEC_CFG_TRANSPORT = 0 then ps
  else ps.flatMap fun p =>
    let us := nalScan 0 none p.1
    us.mapIdx fun i u => (u, p.2 && i + 1 == us.length)

/-! ## Reading them (R238, R248) -/

/-- What has been read of an access unit: errors, the slices with the number of their CTUs that are decoded, those CTUs, the POCs that
the slices name, the header of the picture, a recovery point and a picture hash. -/
structure AuRead where
  errors : Nat
  slices : List (List Byte × Nat)
  done : List Nat
  refs : List Int
  head : Option SliceRead
  recovery : Option Int
  hash : Option (Nat × List Nat)
deriving DecidableEq, Repr

def AuRead.reset : AuRead := ⟨0, [], [], [], none, none, none⟩

/-- An error discards the rest of the NAL unit; one that DISCONT has cut off has counted already (R248). -/
def AuRead.fail (a : AuRead) (cut : Bool) : AuRead := { a with errors := a.errors + (!cut).toNat }

/-- CTUs of a picture, by columns and rows. -/
def SpsRead.cols (p : SpsRead) : Nat := ceilDiv p.codedW p.ctu
def SpsRead.ctus (p : SpsRead) : Nat := p.cols * ceilDiv p.codedH p.ctu

/-- Keep a parameter set in place of the one of its id (R248). -/
def DecHead.keep (h : DecHead) (kind id : Nat) (nal : List Byte) : DecHead :=
  { h with params := (h.params.filter fun q => !(q.1 == kind && q.2.1 == id)) ++ [(kind, id, nal)] }

/-- The CTUs that a slice adds: up to the first that lies outside the picture or repeats one (R248). -/
def newCtus (n : Nat) (done : List Nat) : List Nat → List Nat
  | [] => []
  | c :: cs => if n ≤ c ∨ done.contains c then [] else c :: newCtus n (c :: done) cs

/-- A slice: the parameter sets it refers to are there, its address and entry points are in place, and its data ends as it must; else it
is in error, and holds the CTUs before that (R248). -/
def readSlice (h : DecHead) (a : AuRead) (nal : List Byte) (cut : Bool) (x : SliceRead) : DecHead × AuRead :=
  if x.refers.any fun r => !h.params.any fun q => q.1 == r.1 && q.2.1 == r.2 then (h, a.fail cut)
  else
    let h1 := if a.head.isNone then { h with prev := x.poc, base := if x.base then x.poc else h.base, sps := some x.sps } else h
    let a1 := if a.head.isNone then { a with head := some x } else a
    let r := Config.sliceCtus nal h.params
    let cs := newCtus x.sps.ctus a.done r.1
    if x.sps.ctus ≤ x.first ∨ a.done.contains x.first ∨ x.dataLen < x.entry then (h1, a1.fail cut)
    else
      let a2 := { a1 with done := a1.done ++ cs, slices := a1.slices ++ [(nal, cs.length)], refs := a1.refs ++ x.refs }
      (h1, if r.2 && cs.length == r.1.length then a2 else a2.fail cut)

/-- A NAL unit; those of other layers are discarded (R238, R248). -/
def readUnit (codec : Nat) (k : DecHead × AuRead) (u : List Byte × Bool) : DecHead × AuRead :=
  if nalLayer codec u.1 ≠ 0 then k
  else match Config.readNal u.1 k.1.params k.1.base with
    | .bad => (k.1, k.2.fail u.2)
    | .params kind id => (k.1.keep kind id u.1, k.2)
    | .slice x => readSlice k.1 k.2 u.1 u.2 x
    | .sei r q => (k.1, { k.2 with recovery := r.orElse fun _ => k.2.recovery, hash := q.orElse fun _ => k.2.hash })
    | .other => k

/-- What has come of an access unit, read on headers `h`. A picture whose header was lost takes the POC after the previous one (R249). -/
def State.auRead (s : State) (d : Nat) (h : DecHead) (a : AccessUnit) : DecHead × AuRead :=
  let k := (s.auNals d a).foldl (readUnit (s.decCodec d)) (h, .reset)
  if a.ended ∧ k.2.head = none then ({ k.1 with prev := k.1.prev + 1 }, k.2) else k

/-- The stream is supported (R238; the numbers of profiles and levels are those of H.266 and H.265, PRESUMED, log entry 62). -/
def State.decSupported (s : State) (d : Nat) (p : SpsRead) (donl : Bool) : Bool :=
  let geom := s.act (pDEC d) F.DEC.DEC_CFG_GEOM
  let profile := if p.codec = 0 then p.profileIdc == 1 || p.profileIdc == 33
    else p.profileIdc == 1 || p.profileIdc == 2 || (p.profileIdc == 4 && p.main422)
  profile && decide (p.levelIdc ≤ if p.codec = 0 then 102 else 186) && (p.chroma == 1 || p.chroma == 2) && decide (p.depth ≤ 10) &&
    decide (p.depthC ≤ 10) && !p.fieldCoded && decide (p.buffers ≤ 16) && p.width == geomW geom && p.height == geomH geom &&
    p.codec == s.decCodec d && !donl

/-! ## Indices by POC (R244) -/

/-- The index of an access unit and the anchor after it: its own, or in INDEX_MODE 1 that of its POC, once its header is read or it has
ended (R244). -/
def State.auIndex (s : State) (d : Nat) (anchor : Option (Nat × Int)) (a : AccessUnit) (k : DecHead × AuRead) :
    Option Nat × Option (Nat × Int) :=
  match a.index with
  | some n => (some n, anchor)
  | none =>
    let follow (q : Int) : Option Nat :=
      anchor.map fun r => ((r.1 : Int) + (q - r.2) / s.act (pDEC d) F.DEC.DEC_CFG_POC_STEP).toNat
    match k.2.head with
    | some x =>
      if x.irap || x.gdr.isSome then
        let n := s.cycleAt (s.decGroup d) a.at'
        (some n, some (n, x.poc))
      else (follow x.poc, anchor)
    | none => if a.ended then (follow k.1.prev, anchor) else (none, anchor)

/-- Indices of the access units held whose pictures can be decoded, by what has come of each (R244 to R246). -/
def State.auIndices (s : State) (d : Nat) : DecHead → Option (Nat × Int) → List AccessUnit → List Nat
  | _, _, [] => []
  | h, anchor, a :: as =>
    let k := s.auRead d h a
    let r := s.auIndex d anchor a k
    let ok := !a.refused && !a.decoded && match k.1.sps with
      | some p => s.decSupported d p a.donl
      | none => !a.ended
    (if ok then r.1.toList else []) ++ State.auIndices s d k.1 r.2 as

/-! ## Picture slots (R247) -/

/-- Octets of a line of a picture slot, and the address of line `l` of slot `k` (log entry 281). -/
def State.slotLine (s : State) (d : Nat) : Nat := ceil64 (geomW (s.act (pDEC d) F.DEC.DEC_CFG_GEOM)) * 5 / 2
def State.slotAddr (s : State) (d k l : Nat) : Nat :=
  s.decBase d + s.cpbSize d + k * ceil64 (ceilDiv (codedArea (s.act (pDEC d) F.DEC.DEC_CFG_GEOM) * 5) 2) + l * s.slotLine d

/-- Lines of the components of a picture. -/
structure Planes where
  y : List (List Nat)
  cb : List (List Nat)
  cr : List (List Nat)
deriving DecidableEq, Repr

def Planes.of (ps : List (List (List Nat))) : Planes := ⟨ps.getD 0 [], ps.getD 1 [], ps.getD 2 []⟩
def Planes.list (p : Planes) : List (List (List Nat)) := [p.y, p.cb, p.cr]

/-- Chroma width and height divisors of chroma_format_idc 1 (4:2:0) and 2 (4:2:2). -/
def chromaDiv (chroma : Nat) : Nat × Nat := if chroma = 1 then (2, 2) else (2, 1)

/-- Samples of a line in the order Cb, Y, Cr, Y; `n` groups. -/
def groupOrder (y cb cr : List Nat) : Nat → List Nat
  | 0 => []
  | n + 1 => cb.headD 0 :: y.headD 0 :: cr.headD 0 :: (y.drop 1).headD 0 :: groupOrder (y.drop 2) (cb.drop 1) (cr.drop 1) n

/-- Write a picture into a slot, raw, as 10-bit samples packed in 4:2:2: both lines of a 4:2:0 pair carry its chroma line (R247; log entry
281). -/
def State.slotWrite (s : State) (d k : Nat) (p : SpsRead) (x : Planes) : State :=
  let c := chromaDiv p.chroma
  let w := min (s.slotLine d / 5) (p.codedW / 2)
  (List.range (min p.codedH (ceil64 (geomH (s.act (pDEC d) F.DEC.DEC_CFG_GEOM))))).foldl (fun t l =>
    (t.devWriteUnits (mDEC d) 80 (t.slotAddr d k l)
      (packBytes ((groupOrder (x.y.getD l []) (x.cb.getD (l / c.2) []) (x.cr.getD (l / c.2) []) w).map fun v => (v, 10)))).1) s

/-- Read a picture from a slot, in the stream's format, and what reading it counts (R247). -/
def State.slotRead (s : State) (d k : Nat) (p : SpsRead) : Planes :=
  let c := chromaDiv p.chroma
  let line (l : Nat) : List Nat := unpackBits 10 (s.decOctets d (s.slotAddr d k l) (s.slotLine d)) 0 (p.codedW * 2)
  let pick (o l : Nat) : List Nat := (List.range (p.codedW / 2)).map fun i => (line l).getD (4 * i + o) 0
  ⟨(List.range p.codedH).map fun l => (List.range p.codedW).map fun i => (line l).getD (2 * i + 1) 0,
    (List.range (p.codedH / c.2)).map fun l => pick 0 (l * c.2), (List.range (p.codedH / c.2)).map fun l => pick 2 (l * c.2)⟩
def State.slotTouch (s : State) (d k : Nat) (p : SpsRead) : State :=
  (List.range p.codedH).foldl (fun t l => t.decTouch d (t.slotAddr d k l) (t.slotLine d)) s

/-! ## Concealment and generated references (R249, R250) -/

/-- The picture of a buffer nearest in POC to `poc`, the earlier on a tie (R249, R250). -/
def nearestPoc (poc : Int) : List DecFrame → Option DecFrame
  | [] => none
  | f :: fs =>
    match nearestPoc poc fs with
    | none => some f
    | some g =>
      if (f.poc - poc).natAbs < (g.poc - poc).natAbs ∨ ((f.poc - poc).natAbs = (g.poc - poc).natAbs ∧ f.poc < g.poc)
      then some f else some g

/-- Replace `w` samples from column `x0` of the lines `y0` up to `y0 + h` by those that `f` gives for a line. -/
def patch (plane : List (List Nat)) (x0 y0 w h : Nat) (f : Nat → List Nat) : List (List Nat) :=
  plane.mapIdx fun y l =>
    if y0 ≤ y ∧ y < y0 + h then l.take x0 ++ (f y).take (min w (l.length - x0)) ++ l.drop (x0 + w) else l

/-- Rounded mean of the samples directly above and directly left of an area, or half the range (R249). -/
def areaDc (plane : List (List Nat)) (x0 y0 w h half : Nat) : Nat :=
  let above := if y0 = 0 then [] else ((plane.getD (y0 - 1) []).drop x0).take w
  let left := if x0 = 0 then [] else ((plane.drop y0).take h).map fun l => l.getD (x0 - 1) 0
  let vs := above ++ left
  if vs.isEmpty then half else (vs.foldl (· + ·) 0 + vs.length / 2) / vs.length

/-- Conceal one area of a component, from the reference or with DC (R249). -/
def concealArea (ref : Option (List (List Nat))) (half x0 y0 w h : Nat) (plane : List (List Nat)) : List (List Nat) :=
  match ref with
  | some q => patch plane x0 y0 w h fun y => (q.getD y []).drop x0
  | none =>
    let dc := areaDc plane x0 y0 w h half
    patch plane x0 y0 w h fun _ => List.replicate w dc

/-- 64×64 areas that hold a CTU which was not decoded, in raster order (R249; log entry 282). -/
def SpsRead.undecoded (p : SpsRead) (done : List Nat) : List Nat :=
  let cols := ceilDiv p.codedW 64
  (List.range (cols * ceilDiv p.codedH 64)).filter fun a =>
    (List.range p.ctus).any fun c =>
      let x := c % p.cols * p.ctu
      let y := c / p.cols * p.ctu
      !done.contains c && decide (x < a % cols * 64 + 64) && decide (a % cols * 64 < x + p.ctu) && decide (y < a / cols * 64 + 64) &&
        decide (a / cols * 64 < y + p.ctu)

/-- 64-line rows of the picture, from its top, that are decoded (R245). -/
def SpsRead.rowsDone (p : SpsRead) (done : List Nat) : Nat :=
  match p.undecoded done with
  | [] => ceilDiv p.codedH 64
  | a :: _ => a / ceilDiv p.codedW 64

/-- A component without samples, as large as the picture's. -/
def SpsRead.blank (p : SpsRead) (v : Nat) : Planes :=
  let c := chromaDiv p.chroma
  let plane (w h : Nat) := List.replicate h (List.replicate w v)
  ⟨plane p.codedW p.codedH, plane (p.codedW / c.1) (p.codedH / c.2), plane (p.codedW / c.1) (p.codedH / c.2)⟩

/-- Conceal the areas that were not decoded, in raster order (R249). -/
def concealPicture (p : SpsRead) (areas : List Nat) (ref : Option Planes) (f : Planes) : Planes :=
  let cols := ceilDiv p.codedW 64
  let c := chromaDiv p.chroma
  areas.foldl (fun f a =>
    let x0 := a % cols * 64
    let y0 := a / cols * 64
    let ch (r : Option (List (List Nat))) := concealArea r (2 ^ (p.depthC - 1)) (x0 / c.1) (y0 / c.2) (64 / c.1) (64 / c.2)
    ⟨concealArea (ref.map Planes.y) (2 ^ (p.depth - 1)) x0 y0 64 64 f.y, ch (ref.map Planes.cb) f.cb, ch (ref.map Planes.cr) f.cr⟩) f

/-- A reference of the picture in decoding: POC, its samples, its motion, and whether it is generated: a copy of the available picture
nearest in POC, or half the range in every sample (R250). -/
def State.reference (s : State) (d : Nat) (p : SpsRead) (dpb : List DecFrame) (poc : Int) : Int × List Nat × List (List (List Nat)) :=
  match dpb.find? fun f => f.poc == poc with
  | some f => (poc, f.motion, (s.slotRead d f.slot f.sps).list)
  | none => match nearestPoc poc dpb with
    | some f => (poc, f.motion, (s.slotRead d f.slot f.sps).list)
    | none => (poc, [], (p.blank (2 ^ (p.depth - 1))).list)

/-- The POCs that the slices read name and the buffer `dpb` does not hold (R250). -/
def missingRefs (r : AuRead) (dpb : List DecFrame) : List Int :=
  ((r.refs.filter fun q => !dpb.any fun f => f.poc == q).eraseDups).take 16

/-- The decoded picture buffer as the picture finds it: what its header keeps, at most 16 pictures with those to be generated (R247). -/
def keptFrames (r : AuRead) (dpb : List DecFrame) : List DecFrame :=
  match r.head with
  | some x =>
    let kept := dpb.filter fun f => x.kept.contains f.poc
    kept.drop (kept.length + (missingRefs r kept).length - 16)
  | none => dpb.drop (dpb.length - 16)

/-- The picture as far as its slices have been read: motion, and samples (R248). -/
def State.samplesOf (s : State) (d : Nat) (p : SpsRead) (k : DecHead × AuRead) (dpb : List DecFrame) : List Nat × Planes :=
  if k.2.slices = [] then ([], p.blank (2 ^ (p.depth - 1)))
  else
    let r := Config.decodePicture k.1.params k.2.slices (k.2.refs.eraseDups.map (s.reference d p dpb))
    (r.1, .of r.2)

/-! ## Conversion to 10-bit 4:2:2 (R253) -/

/-- A line of a chroma component in 4:2:2: its own line, or interpolated from 4:2:0 with clipped indices (R253). -/
def chromaLine (chroma : Nat) (plane : List (List Nat)) (l : Nat) : List Nat :=
  if chroma = 1 then
    let m := l / 2
    let near := if l % 2 = 0 then m - 1 else min (m + 1) (plane.length - 1)
    List.zipWith (fun a b => (3 * a + b + 2) / 4) (plane.getD m []) (plane.getD near [])
  else plane.getD l []

/-- A plane of 8-bit samples in 10 bits (R253). -/
def widen (depth : Nat) (plane : List (List Nat)) : List (List Nat) :=
  if depth = 8 then plane.map fun l => l.map (· * 4) else plane

/-- A line's sample groups (Cb, Y0, Cr, Y1) of 40 bits. -/
def lineGroups (y cb cr : List Nat) : Nat → List Nat
  | 0 => []
  | n + 1 =>
    (cb.headD 0 % 1024 * 2 ^ 30 + y.headD 0 % 1024 * 2 ^ 20 + cr.headD 0 % 1024 * 2 ^ 10 + (y.drop 1).headD 0 % 1024) ::
      lineGroups (y.drop 2) (cb.drop 1) (cr.drop 1) n

/-- The sample groups of the conformance window of a picture in the format of the line stores (R253). -/
def convertPicture (p : SpsRead) (f : Planes) : Tab Nat :=
  let c := chromaDiv p.chroma
  let y := widen p.depth ((f.y.drop p.top).map fun l => l.drop p.left)
  let ch (q : List (List Nat)) := widen p.depthC (((q.drop (p.top / c.2)).take (p.height / c.2)).map fun l => l.drop (p.left / c.1))
  (List.range p.height).foldl (fun t l =>
    putGroups t l 0 (lineGroups (y.getD l []) (chromaLine p.chroma (ch f.cb) l) (chromaLine p.chroma (ch f.cr) l) (p.width / 2))) []

end Sys2Proof.Machine
end

