-- ==== Sys2Proof/Machine/Dec.lean ====
section
/-! DEFINITION. The decoders and the SDI outputs (spec/10): decoding an access unit, marking, presentation, status records, and the
pictures of SDITX. -/

namespace Sys2Proof.Machine

/-! ## Marking and status records (R251, R257) -/

/-- What the active SPS shows (STREAM_INFO, STREAM_SIZE, DEC_STATUS.SUPPORTED). -/
def State.streamInfo (s : State) (d : Nat) (o : SpsRead) (donl : Bool) : State :=
  let p := pDEC d
  ((((((s.setFld p F.DEC.STREAM_INFO_PROFILE_IDC o.profileIdc).setFld p F.DEC.STREAM_INFO_LEVEL_IDC o.levelIdc).setFld p
    F.DEC.STREAM_INFO_CHROMA o.chroma).setFld p F.DEC.STREAM_INFO_DEPTH o.depth).setFld p F.DEC.STREAM_SIZE_W o.width).setFld p
    F.DEC.STREAM_SIZE_H o.height).setFld p F.DEC.DEC_STATUS_SUPPORTED (s.decSupported d o donl).toNat

/-- Marking begins: CONCEALED, DEC_STATUS.CONCEALING and its level copy (R251). -/
def State.markBegin (s : State) (d : Nat) : State :=
  ((s.setFld (pDEC d) F.DEC.DEC_STATUS_CONCEALING 1).rawTo (pDEC d) F.DEC.rawCONCEALING true).raise (pDEC d) F.DEC.intCONCEALED

/-- Marking ends: CLEAN (R251). -/
def State.markEnd (s : State) (d : Nat) : State :=
  ((s.setFld (pDEC d) F.DEC.DEC_STATUS_CONCEALING 0).rawTo (pDEC d) F.DEC.rawCONCEALING false).raise (pDEC d) F.DEC.intCLEAN

def State.concealing (s : State) (d : Nat) : Bool := s.bit (pDEC d) F.DEC.DEC_STATUS_CONCEALING

/-- What presenting picture `x` does to the marking: the state, whether the picture is marked, whether it ends the marking
(R251). -/
def State.markShow (s : State) (d : Nat) (x : DecPic) : State × Bool × Bool :=
  if s.concealing d then
    if x.clean then (s.markEnd d, false, true) else (s.err (pDEC d) 3, true, false)
  else if x.concealed then ((s.markBegin d).err (pDEC d) 3, true, false)
  else (s, false, false)

/-- The 32-byte status record of source picture `m` (R257). -/
def decStatusRecord (d m : Nat) (x : DecPic) (marked late absent clean : Bool) : List Byte :=
  leBytes m 8 ++
    leBytes ((x.poc % 2 ^ 32).toNat + marked.toNat * 2 ^ 32 + x.generated.toNat * 2 ^ 33 + late.toNat * 2 ^ 34 +
      absent.toNat * 2 ^ 35 + x.hashFail.toNat * 2 ^ 36 + clean.toNat * 2 ^ 37 + d * 2 ^ 38) 8 ++
    leBytes (x.areas + x.bytes % 2 ^ 32 * 2 ^ 32) 8 ++ leBytes 0 8

/-- Write a status record to the status ring, if one is in use (R257). -/
def State.decStatus (s : State) (d : Nat) (rec : List Byte) : State :=
  let p := pDEC d
  let r := s.act p F.DEC.STATUS_CFG_RING
  if s.act p F.DEC.STATUS_CFG_EN ≠ 1 then s
  else
    let o := if s.ringRole r 2 then s.offer r p rec else (s, false)
    if o.2 then o.1 else (o.1.raise p F.DEC.intSTATUS_DROP).err p 7

def DecPic.none : DecPic := ⟨0, 0, 0, false, false, false, false, 0, 0, default⟩

/-! ## Rows of a late picture (R245) -/

/-- The first `rows` 64-line rows of one picture, above the rows of another. -/
def overRows (rows : Nat) (new old : Tab Nat) : Tab Nat :=
  (new.filter fun c => decide (c.1 / 4096 < 64 * rows)) ++ old.filter fun c => decide (64 * rows ≤ c.1 / 4096)

/-- The rows of `old` that `keep` names stay, the others among the first `rows` come from `new`. -/
def fillRows (keep : Nat → Bool) (rows : Nat) (new old : Tab Nat) : Tab Nat :=
  (List.range 68).foldl (fun t k =>
    if k < rows ∧ !keep k then
      overRows k t ((new.filter fun c => c.1 / 4096 / 64 == k) ++ t.filter fun c => decide (k < c.1 / 4096 / 64))
    else t) old

/-- Lines of an SDI frame, blanking included: 1,125 or 2,250 (log entry 65). -/
def sdiLines (geom : Nat) : Nat := if geom = 1 then 1125 else 2250

def State.sdoOf (s : State) (n : Nat) : SdoState := Tab.get .reset s.sdo n
def State.setSdo (s : State) (n : Nat) (x : SdoState) : State := { s with sdo := Tab.set .reset s.sdo n x }

/-- The ON decoder that drives SDITX `n` (R254). -/
def State.sdoDriver (s : State) (n : Nat) : Option Nat :=
  (List.range 2).find? fun d => s.works (pDEC d) && s.act (pDEC d) F.DEC.OUT_CFG_TO_SDI == 1 && s.act (pDEC d) F.DEC.OUT_CFG_SDITX == n

/-- The first line of row `k` of the picture that output `n` sends has had its SDI line time. -/
def State.sdoPassed (s : State) (n k : Nat) : Bool :=
  let r := s.rateOf (s.act (pSDITX n) F.SDITX.SDO_CFG_INDEX_GROUP)
  decide ((s.sdoOf n).start * r.1 * sdiLines (s.act (pSDITX n) F.SDITX.SDO_CFG_GEOM) + 64 * k * r.2 * 1000000000 ≤
    s.now * r.1 * sdiLines (s.act (pSDITX n) F.SDITX.SDO_CFG_GEOM))

/-- The first `rows` rows of late source picture `m` are complete: each goes to the source if its read instant is still to come, and to the
SDI output if its line time is (R245). -/
def State.lateFill (s : State) (d m rows : Nat) (groups : Tab Nat) : State :=
  let p := pDEC d
  let keep := s.unread p
  let h := s.inputH p
  let s1 := s.updPic p m fun y => { y with groups := fillRows (fun k => decide (m * h + 64 * k < keep)) rows groups y.groups }
  (List.range 2).foldl (fun t n =>
    if t.sdoDriver n = some d ∧ (t.sdoOf n).sent ∧ (t.sdoOf n).m = m then
      t.setSdo n { t.sdoOf n with groups := fillRows (fun k => s.sdoPassed n k) rows groups (t.sdoOf n).groups }
    else t) s1

/-- Rows that are complete of the picture of stream index `i`, over those of the picture presented before it (R245). -/
def DecState.composite (x : DecState) (i : Nat) : Tab Nat :=
  match x.work with
  | some w => if w.index = i then overRows w.rows w.groups x.groups else x.groups
  | none => x.groups

/-- A picture presented late completes (R245). -/
def State.lateDone (s : State) (d m : Nat) (x : DecPic) (groups : Tab Nat) : State :=
  let s1 := s.lateFill d m 68 groups
  let s2 := if s1.concealing d then (if x.clean then s1.markEnd d else s1) else if x.concealed then s1.markBegin d else s1
  (s2.updDec d fun y => { y with
    late := Option.none, shown := some x, groups := groups, pics := y.pics.filter fun z => z.index != x.index }).decStatus d
      (decStatusRecord d m x true true false (s1.concealing d && x.clean))

/-! ## Decoding an access unit (R238, R240, R244, R248 to R252) -/

/-- The picture does not match its hash (R252; log entry 41). -/
def hashBad (r : AuRead) (p : SpsRead) (x : Planes) : Bool :=
  match r.hash with
  | some (ty, vs) => vs != (x.list.mapIdx fun i pl => Config.planeHash ty (if i = 0 then p.depth else p.depthC) pl).take vs.length
  | none => false

/-- Slots of a region that no picture of the buffer or in wait holds (R247). -/
def State.freeSlots (s : State) (d : Nat) (dpb : List DecFrame) : List Nat :=
  (List.range (17 + s.decDelay d)).filter fun k =>
    !(dpb.any fun f => f.slot == k) && !((s.decOf d).pics.any fun x => x.slot == k)

/-- Missing references are generated, each in a slot of its own (R250). -/
def State.generate (s : State) (d : Nat) (p : SpsRead) (r : AuRead) (dpb : List DecFrame) : State :=
  (missingRefs r dpb).foldl (fun t q =>
    let x := t.decOf d
    let m := t.reference d p x.dpb q
    let t1 := match nearestPoc q x.dpb with
      | some f => t.slotTouch d f.slot f.sps
      | none => t
    let k := (t.freeSlots d x.dpb).headD 0
    (t1.slotWrite d k p (.of m.2.2)).updDec d fun y => { y with dpb := y.dpb ++ [⟨q, true, k, p, m.2.1⟩] }) s

/-- Where a recovery point lies that the picture of POC `poc` tells: a VVC GDR picture, or HEVC's recovery point SEI (R251). -/
def recoveryOf (r : AuRead) (poc : Int) : Option Int :=
  match r.head with
  | some x => if x.irap then none else (x.gdr.orElse fun _ => r.recovery).map (· + poc)
  | none => none

/-- The supported picture of access unit `a`, read as `k`, is complete: concealed where it was not decoded, checked, kept as a reference,
and in wait for its presentation at index `n` if that is still to come (R244, R245, R248 to R252). -/
def State.finishPic (s : State) (d : Nat) (a : AccessUnit) (k : DecHead × AuRead) (p : SpsRead) (n : Option Nat) : State :=
  let q := pDEC d
  let poc := k.1.prev
  let dpb := keptFrames k.2 (s.decOf d).dpb
  let missing := missingRefs k.2 dpb
  let s1 := (s.updDec d fun x => { x with dpb := dpb }).generate d p k.2 dpb
  let frames := (s1.decOf d).dpb
  let areas := p.undecoded k.2.done
  let made := s1.samplesOf d p k frames
  let near := nearestPoc poc frames
  let pic := concealPicture p areas (near.map fun f => s1.slotRead d f.slot f.sps) made.2
  let touched := frames.filter fun f => k.2.refs.contains f.poc || (!areas.isEmpty && near == some f)
  let s2 := touched.foldl (fun t f => t.slotTouch d f.slot f.sps) s1
  let slot := (s2.freeSlots d frames).headD 0
  let s3 := s2.slotWrite d slot p pic
  let errorless := k.2.errors == 0 && !a.broken && areas.isEmpty
  let irap := match k.2.head with
    | some x => x.irap
    | none => false
  let recover := if errorless then (recoveryOf k.2 poc).orElse fun _ => (s.decOf d).recover else none
  let clean := errorless && (irap || match recover with
    | some r => decide (r ≤ poc)
    | none => false)
  let marked := frames.any fun f => k.2.refs.contains f.poc && f.marked
  let concealed := !areas.isEmpty || !missing.isEmpty || marked
  let hashFail := s.act q F.DEC.OUT_CFG_HASH_CHECK == 1 && hashBad k.2 p pic
  let s4 := s3.errBy q 1 areas.length
  let s5 := if missing.isEmpty then s4 else (s4.errBy q 2 missing.length).raise q F.DEC.intREF_GENERATED
  let s6 := if hashFail then (s5.err q 0).raise q F.DEC.intHASH_MISMATCH else s5
  let s7 := (s6.updDec d fun x => { x with
    dpb := frames ++ [⟨poc, concealed && !clean, slot, p, made.1⟩]
    recover := if clean then none else recover }).tookFree
  match n with
  | some i =>
    let z : DecPic := ⟨i, poc, areas.length, !missing.isEmpty, concealed, hashFail, clean, a.bytes, slot, p⟩
    match (s.decOf d).late with
    | some (m, j) =>
      if j = i then s7.lateDone d m z (convertPicture p pic)
      else s7.updDec d fun x => { x with pics := x.pics ++ [z] }
    | none =>
      if (s.decOf d).m.any fun m => decide (i + s.decDelay d ≤ m) then s7
      else s7.updDec d fun x => { x with pics := x.pics ++ [z] }
  | none => s7

/-- The oldest access unit leaves the CPB; one that has not ended stays, and its further bytes are not kept (R240). -/
def State.auLeave (s : State) (d : Nat) (a : AccessUnit) : State :=
  ((s.cpbTouch d a.pos a.bytes).updDec d fun x => { x with
    work := none
    aus := if a.ended then x.aus.drop 1 else { a with decoded := true, pieces := [], pos := a.pos + a.bytes } :: x.aus.drop 1 }).cpbLevel d

/-- The access unit has its index: one that repeats is discarded with it (R109, R244). -/
def State.auIndexed (s : State) (d : Nat) (a : AccessUnit) (n : Nat) : State × Bool :=
  if a.index = some n then (s, true)
  else
    let s1 := s.decPhase d n a.at'
    if (s1.decOf d).repeated n then (s1.decDup d, false)
    else (s1.updDec d fun x => { x with last := some n, aus := { a with index := some n } :: x.aus.drop 1 }, true)

/-- The oldest access unit `a`, read as `k` and of index `n`, is decoded: the headers in force, errors, and its picture if the stream is
supported (R238, R248). -/
def State.decoded (s : State) (d : Nat) (a : AccessUnit) (k : DecHead × AuRead) (n : Option Nat) : State :=
  let s1 := ((s.updDec d fun x => { x with head := k.1 }).decErrors d k.2.errors).auLeave d a
  match k.1.sps with
  | none => s1
  | some p =>
    let s2 := s1.streamInfo d p a.donl
    if s.decSupported d p a.donl then s2.finishPic d a k p n else s2.raise (pDEC d) F.DEC.intSTREAM_UNSUPPORTED

/-- The first `rows` rows of the oldest access unit `a` of index `i` are decoded; the rows of a late picture go out (R240, R245). -/
def State.decProgress (s : State) (d i : Nat) (a : AccessUnit) (k : DecHead × AuRead) (p : SpsRead) (rows : Nat) : State :=
  let was := match (s.decOf d).work with
    | some w => w.rows
    | none => 0
  let groups := convertPicture p (s.samplesOf d p k (keptFrames k.2 (s.decOf d).dpb)).2
  let done := max was (min rows (p.rowsDone k.2.done))
  let s1 := (s.updDec d fun x => { x with work := some ⟨i, k.1.prev, a.bytes, done, groups⟩ }).tookFree
  match (s.decOf d).late with
  | some (m, j) => if j = i then s1.lateFill d m done groups else s1
  | none => s1

/-- What has come of the oldest access unit decodes the whole picture, so that it may complete before the unit has ended; a hash that may
still come is waited for (R240, R252; log entry 283). -/
def State.mayComplete (s : State) (d : Nat) (a : AccessUnit) (k : DecHead × AuRead) : Bool :=
  a.ended || match k.1.sps with
    | some p => k.2.head.isSome && (p.undecoded k.2.done).isEmpty && (s.act (pDEC d) F.DEC.OUT_CFG_HASH_CHECK == 0 || k.2.hash.isSome)
    | none => false

/-- Pictures that await presentation and are not in the decoded picture buffer hold at most P slots (R247; log entry 281). -/
def State.slotFree (s : State) (d : Nat) (r : AuRead) : Bool :=
  let dpb := keptFrames r (s.decOf d).dpb
  decide (((s.decOf d).pics.filter fun x => !dpb.any fun f => f.slot == x.slot).length ≤ s.decDelay d)

/-- DEC_PICTURE_DECODED: the first `rows` 64-line rows of the oldest access unit are decoded; with all of them its picture is complete
(R240, R249; log entry 62). -/
def execDecPictureDecoded (d rows : Nat) (s : State) : Out :=
  s.event (decide (d < 2) && s.works (pDEC d)) fun s =>
    match (s.decOf d).aus with
    | a :: _ =>
      if a.refused || a.decoded then s
      else
        let x := s.decOf d
        let k := s.auRead d x.head a
        let r := s.auIndex d x.anchor a k
        let all := match k.1.sps with
          | some p => decide (ceilDiv p.codedH 64 ≤ rows)
          | none => true
        let whole := all && s.mayComplete d a k && s.slotFree d k.2
        let s0 := s.updDec d fun y => { y with anchor := r.2 }
        match r.1 with
        | some n =>
          let t := s0.auIndexed d a n
          if !t.2 then t.1.auLeave d a
          else if whole then t.1.decoded d { a with index := some n } k (some n)
          else match k.1.sps with
            | some p => if s.decSupported d p a.donl && k.2.head.isSome then t.1.decProgress d n a k p rows else t.1
            | none => t.1
        | none => if whole then s0.decoded d a k none else s0
    | [] => s

/-! ## Presentation (R245, R246, R253) -/

/-- Write a presented picture as picture `m` of the decoder's line store, if it feeds a source (R253). -/
def State.toSource (s : State) (d m : Nat) (groups : Tab Nat) : State :=
  let p := pDEC d
  if s.act p F.DEC.OUT_CFG_TO_SOURCE = 1 then
    let y := s.inputOf p
    s.setInput p { y with pics := (y.pics.filter fun x => decide (x.n < m)) ++ [⟨m, groups⟩], last := some m }
  else s

/-- A late picture of which nothing more came is over: its record is written with what was presented (R257). -/
def State.lateOver (s : State) (d : Nat) : State :=
  match (s.decOf d).late with
  | some (m, i) =>
    let x := s.decOf d
    let z : DecPic := match x.work with
      | some w => if w.index = i then { DecPic.none with index := i, poc := w.poc, bytes := w.bytes } else { DecPic.none with index := i }
      | none => { DecPic.none with index := i }
    (s.updDec d fun y => { y with late := none, shown := some z, groups := x.composite i }).decStatus d
      (decStatusRecord d m z true true false false)
  | none => s

/-- Source picture `m` is presented at decoder `d` (R245, R246, R251, R257). -/
def State.decPresent (s0 : State) (d m : Nat) : State :=
  let p := pDEC d
  let s := s0.lateOver d
  let x := s.decOf d
  let i := m - s.decDelay d
  let early := decide (m < s.decDelay d)
  let t := s.updDec d fun y => { y with m := some m, pics := y.pics.filter fun q => early || decide (i < q.index) }
  match (if early then none else x.pics.find? fun z => z.index == i) with
  | some z =>
    let k := (t.slotTouch d z.slot z.sps).markShow d z
    let groups := convertPicture z.sps (s.slotRead d z.slot z.sps)
    let s1 := ((k.1.updDec d fun y => { y with shown := some z, groups := groups }).toSource d m groups).tookFree
    (s1.put64L p F.DEC.LAST_INDEX_LO m).decStatus d (decStatusRecord d m z k.2.1 false false k.2.2)
  | none =>
    if !early && (s.auIndices d x.head x.anchor x.aus).contains i then
      let s1 := (((t.raise p F.DEC.intLATE).err p 4).err p 3).updDec d fun y => { y with late := some (m, i) }
      (s1.toSource d m (x.composite i)).put64L p F.DEC.LAST_INDEX_LO m
    else
      ((t.raise p F.DEC.intPIC_ABSENT).err p 5).decStatus d (decStatusRecord d m DecPic.none false false true false)

/-- A frame cycle of group `g` and index `m` starts: every ON decoder of the group presents; one that is DRAINING begins no new picture
(R41, R114, R245). -/
def State.presentAll (s : State) (g m : Nat) : State :=
  (List.range 2).foldl (fun t d => if t.isOn (pDEC d) && t.decGroup d == g then t.decPresent d m else t) s

/-- A decoder enters ON: its buffers are empty. -/
def State.decEnter (s : State) (d : Nat) : State := (s.setDec d .reset).inputOn (pDEC d)

/-! ## SDI outputs (R254 to R256) -/

/-- SDO_STATUS.DRIVEN and DEC of each working output follow the decoders. -/
def State.sdoDriven (s : State) : State :=
  (List.range 2).foldl (fun t n =>
    if t.works (pSDITX n) then
      (t.setFld (pSDITX n) F.SDITX.SDO_STATUS_DRIVEN (t.sdoDriver n).isSome.toNat).setFld (pSDITX n) F.SDITX.SDO_STATUS_DEC
        ((t.sdoDriver n).getD 0)
    else t) s

/-- An SDITX page enters ON: it sends black at the rate of its group (R255, R256). -/
def State.sdoEnter (s : State) (n : Nat) : State :=
  let p := pSDITX n
  let r := s.rateOf (s.act p F.SDITX.SDO_CFG_INDEX_GROUP)
  ((s.setFld p F.SDITX.SDO_STATUS_RATE ((sdiRate (s.act p F.SDITX.SDO_CFG_GEOM) 0 r.1 r.2).getD 0)).sdoDriven).setSdo n .reset

/-- Source picture `m` of the decoder that drives output `n`: once it has been presented, as it was, absent too; before that, if it is
decoded already (R246, R256). -/
def State.sdoPicture (s : State) (n m : Nat) : Option (Tab Nat) :=
  match s.sdoDriver n with
  | some d =>
    let x := s.decOf d
    if x.m.any fun k => decide (m ≤ k) then
      match x.late, x.shown with
      | some (k, i), _ => if k = m then some (x.composite i) else none
      | none, some z => if z.index + s.decDelay d = m then some x.groups else none
      | none, none => none
    else if !s.isOn (pDEC d) then none
    else (x.pics.find? fun q => q.index + s.decDelay d == m).map fun z => convertPicture z.sps (s.slotRead d z.slot z.sps)
  | none => none

/-- PHASE of a starting picture: its departure less its correct instant, at which a picture after a realignment begins; and the
realignment error where it is more than one line time (R256). -/
def State.sdoAlign (s : State) (n m : Nat) : State :=
  let p := pSDITX n
  let g := s.act p F.SDITX.SDO_CFG_INDEX_GROUP
  let r := s.rateOf g
  let ph : Int := if (s.sdoOf n).realign then 0 else (s.now : Int) - ((s.fireNs g m : Nat) + sext32 (s.act p F.SDITX.SDO_OFFSET))
  let wide := decide (ph.natAbs * r.1 * sdiLines (s.act p F.SDITX.SDO_CFG_GEOM) > r.2 * 1000000000)
  let s1 := (s.setReg (F.SDITX.PHASE.addr p) (satWord ph)).setSdo n { s.sdoOf n with realign := wide }
  if wide then (s1.raise p F.SDITX.intREALIGN).err p 1 else s1

/-- What output `n` sends as picture `m`: the picture it has, or its filler with ERR_COUNT0 (R256). -/
def State.sdoSend (s : State) (n m : Nat) : State :=
  let x := s.sdoOf n
  match s.sdoPicture n m with
  | some t => s.setSdo n { x with sent := true, groups := t, m := m, start := s.now }
  | none =>
    let groups := if s.act (pSDITX n) F.SDITX.SDO_CFG_POLICY = 1 then [] else x.groups
    (s.setSdo n (if x.sent then { x with groups := groups, m := m, start := s.now } else { x with start := s.now })).err (pSDITX n) 0

/-- The picture that output `n` sends has ended: one period of its group after its start (R41). -/
def State.sdoIdle (s : State) (n : Nat) : Bool :=
  let r := s.rateOf (s.act (pSDITX n) F.SDITX.SDO_CFG_INDEX_GROUP)
  !s.running || (s.sdoOf n).start == 0 || decide (s.now ≥ (s.sdoOf n).start + ceilDiv (r.2 * 1000000000) r.1)

/-- The output starts picture `m`: its phase, a realignment, and what it sends (R256). -/
def State.sdoStart (s : State) (n m : Nat) : State := (s.sdoAlign n m).sdoSend n m

/-- SDI_OUT_PICTURE: the SAV of the first active line of picture `m` leaves output `n` (R256); without its LANE page the output has
stopped (R362). -/
def execSdiOutPicture (n m : Nat) (s : State) : Out :=
  s.event (decide (n < 2) && s.works (pSDITX n) && s.laneState (sdoLane n) == laTrack && s.running && (decide ((s.sdoOf n).m < m) || !(s.sdoOf n).sent)) fun s => s.sdoStart n m

end Sys2Proof.Machine
end

