-- ==== Sys2Proof/Machine/Pages.lean ====
section
/-! DEFINITION. Page states (spec/02 R38 to R45, R513, R514): the enable check and what a page does as it enters ON, stops and
drains, boundaries, aborts, faults of units, and shedding (R27, R388). The rules of single units on a drain are those of R68,
R114, R137, R160, R163, R213, R218, R316, R362, R387 and of the chapters of INTC, MTX, HOST, TASK, PWR, SENS and MGMT. -/

namespace Sys2Proof.Machine

/-- DIR and SYS are ON from reset and ignore PAGE_CTRL. -/
def alwaysOn (p : Nat) : Bool := p == 0 || p == pSYS

/-- Run a PAGE_CTRL command on a page that has a header and follows the table of R41. -/
def State.onCtrl (s : State) (p : Nat) (f : State → State) : Out :=
  s.onPage p fun s => if (unitOf p).isSome && !alwaysOn p then f s else s

/-! ## The enable check begins (R41, R45) -/

/-- What a page holds from CHECKING on beside its terms: a source takes its input's geometry and group (R116), a channel its run
of the pool (R220); a DEC page's check wakes its domain, and the ENABLE write of a GRP page is timed (R496). -/
def State.checkHolds (s : State) (p : Nat) : State :=
  let n := instanceOf p
  match unitOf p with
  | some .src =>
    let t := s.srcTakes [p] n
    s.setSrc n { SrcState.reset with input := t.1, geom := t.2.1, group := t.2.2 }
  | some .chan =>
    let g := s.chanGeo [p] n
    match s.runFor g with
    | some first => (((s.setFld pREFP (F.REFP.ALLOC_FIRST n) first).setFld pREFP (F.REFP.ALLOC_BUFFERS n) g.nb).setFld pREFP
        (F.REFP.ALLOC_GPB n) g.gb).poolTotals
    | none => s
  | some .dec => s.govDec n true
  | some .grp => s.setGrp n { s.grpOf n with enabledNs := s.now }
  | _ => s

/-- The outcome of the enable check of page `p`, whose shadow copy is captured: 0, or the reason code (R44). -/
def State.enableCode (s : State) (p : Nat) (new : Nat × Nat) : Nat :=
  let all := [((0, 0), new)]
  let sums := s.sumsWith all
  match firstTest (orderTests (s.tests [p] p) [] (s.admTests (0, 0) new all sums.1 sums.2)) with
  | some (c, d) => reasonCode c (unitAt p) d
  | none => 0

/-- ENABLE written 1 to an OFF page: CHECKING, KIND 1, the shadow copy captured; the check is decided as things stand now, and
what the page will hold is reserved (R41, R45). -/
def State.enablePage (p : Nat) (s : State) : State :=
  if s.st p ≠ stOff then s
  else
    let s1 := (((s.setFld p F.PAGE_CTRL_ENABLE 1).opBegin p 1).toState p stChecking).capture p
    let new := s1.terms [p] p
    let code := s1.enableCode p new
    let s2 := s1.setPage p { s1.page p with verdict := code, info := s1.checkInfo [p] p (code / 0x1000) (code % 64),
                                            table := s1.checkTable [p] p }
    (s2.checkHolds p).setTerms p new.1 new.2

/-- PAGE_ENABLE (R41). -/
def execPageEnable (p : Nat) (s : State) : Out := s.onCtrl p (State.enablePage p)

/-! ## A page enters ON -/

/-- Channel `c` enters ON: its buffers, its controller, its packetiser, its queues, its part in the pair (R202, R208, R221, R328,
R344, R272); the pages that feed it note its group (R137). -/
def State.chanEnter (s : State) (c : Nat) (table : List Byte) : State :=
  let g := s.geo c
  let s1 := s.setChan c { ChanState.reset with bufs := List.replicate g.nb .reset }
  let s2 := ((s1.rcEnter c table).outEnter c).chanShow c
  let s3 := (s2.setScal g.scaler { s2.scalOf g.scaler with fed := some g.group }).setSrc g.source
    { s2.srcOf g.source with fed := some g.group }
  (s3.chanQueues c).pairChanOn c

/-- What a page does beside its header as it enters ON; its active copy stands. `table` is what its check read. -/
def State.pageEnters (s : State) (p : Nat) (table : List Byte) : State :=
  let n := instanceOf p
  match unitOf p with
  | some .time => s.timeOn
  | some .sdirx => (s.inputOn p).sdiEnters n
  | some .sditx => (s.sdoEnter n).sdoLaneShow n
  | some .ipin => s.inputOn p
  | some .eth =>
    (if s.bit p F.ETH.HOST_CFG_HOST_EN then s.ownQueue (s.fld p F.ETH.HOST_QUEUE_QUEUE) 3 n else s).ethBegin n
  | some .src => (s.setSrc n { s.srcOf n with started := false, done := 0 }).protSet n false
  | some .scal => (s.setScal n { coef := table, fed := none, fedLeft := 0 }).scalShow n
  | some .chan => s.chanEnter n table
  | some .grp => s.govWake.govIdle
  | some .chmb => s.chamberOn n
  | some .dec => ((s.decEnter n).sdoDriven).govIdle
  | some .pair => s.pairEnters
  | some .rope => s.ropeEnters
  | some .refp => s.poolTotals
  | some .memc => (s.memcBegin n).memcLimits s.memcInService
  | some .dma =>
    ((((s.setFld p F.DMA.TAIL 0).setFld p F.DMA.HEAD 0).setFld p F.DMA.DONE 0).setRing n .reset).sendResults
  | some .lane => if laneKind n = 2 then s.sdoLaneShow (n - 24) else s
  | some .chk => s.put64L p F.CHK.CHECK_LO (s.chkValue p nineDigits)
  | _ => s

/-- The check passes: ON, the active copy takes the captured one, ENTERED_ON (R41). -/
def State.checkPasses (s : State) (p : Nat) : State :=
  let i := s.page p
  ((((s.setActive p i.captured).toState p stOn).raise p 1).opEnd p opCompleted).pageEnters p i.table

/-- A DEC page whose check ends without passing has its domain cooled again (log entry 66). -/
def State.checkLeft (s : State) (p : Nat) : State := if unitAt p = .dec then s.govDec (instanceOf p) false else s

/-- The check refuses with `code`: OFF, ENABLE 0, the reason, REFUSED; the reservations end (R41, R45). -/
def State.checkRefuses (s : State) (p code : Nat) : State :=
  let s1 := ((s.showInfo p code (s.page p).info).refuseCode p code).opEnd p opRefused
  (((s1.toState p stOff).setFld p F.PAGE_CTRL_ENABLE 0).release p).checkLeft p

/-- ENABLE_CHECK_COMPLETE (R44): the check of page `p` ends. `parityOk` is the outcome of a chamber's parity self-check (R161). A
DEC page passes only once its domain is WARM (R496). -/
def execEnableCheckComplete (p : Nat) (parityOk : Bool) (s : State) : Out :=
  let code := if (s.page p).verdict = 0 ∧ unitAt p = .chmb ∧ !parityOk then reasonCode Cls.resource .chmb 0x0E else (s.page p).verdict
  s.event (s.st p == stChecking && (code != 0 || unitAt p != .dec || s.warm (20 + instanceOf p))) fun s =>
    if code = 0 then s.checkPasses p else s.checkRefuses p code

/-! ## A page stops -/

/-- A channel that stops at once gives up its rows: chambers that hold one are free, its pictures are dropped. -/
def State.chanGone (s : State) (c : Nat) : State :=
  let s1 := (List.range 18).foldl (fun t h => match (t.chamber h).row with
    | some r => if r.1 = c then t.unassign h else t
    | none => t) s
  (s1.setChan c .reset).pairChanOff c

/-- What a unit does to others as it stops, while its registers still show its work; the pages that wait for it take note (R137,
R213). -/
def State.unitStops (s : State) (p : Nat) : State :=
  let n := instanceOf p
  match unitOf p with
  | some .sdirx => s.sdiLeaves n (s.sdiLinks n)
  | some .chan =>
    let g := s.geo n
    (s.setGrp g.group { s.grpOf g.group with leftAt := s.time.root }).setScal g.scaler { s.scalOf g.scaler with fedLeft := s.time.root }
  | some .scal =>
    let src := s.act p F.SCAL.SCAL_CFG_SOURCE
    s.setSrc src { s.srcOf src with fedLeft := s.time.root }
  | some .eth => s.ethDown n
  | some .rope => s.linkDown
  | some .tsch => s.tschOff
  | some .lane => s.laneLeft n
  | _ => s

/-- What follows once a page has ceased to work: it has entered OFF or OUT_OF_SERVICE from DRAINING, or FAULT. -/
def State.pageStopped (s : State) (p : Nat) : State :=
  let n := instanceOf p
  match unitOf p with
  | some .time => s.timeOff.taskTimeStop.cadenceStops
  | some .chan => s.chanGone n
  | some .grp => s.govIdle
  | some .dec => ((s.govDec n false).sdoDriven).govIdle
  | some .pair => s.pairLeaves
  | some .sditx => s.sdoLaneShow n
  | some .dma => s.setRing n .reset
  | _ => s

/-- A DRAINING page reaches its boundary: OFF or OUT_OF_SERVICE (R41, R514). -/
def State.leavePage (s : State) (p : Nat) : State := ((s.unitStops p).leave p).pageStopped p

/-- The units that take no ENABLE 0 or DRAIN 1, and the detail that they record (R400, R417, R434, R439, R479, R503). -/
def inUseDetail (p : Nat) : Option Nat :=
  match unitOf p with
  | some .sens | some .mgmt | some .pwr | some .mtx | some .intc | some .host => some 0x10
  | some .task => some 0x11
  | _ => none

/-- A page that is ON begins to drain: KIND 2 to OFF, KIND 3 to OUT_OF_SERVICE (R41). -/
def State.beginDrain (s : State) (p kind : Nat) : State := (s.opBegin p kind).toState p stDraining

/-- ENABLE written 0 (R41, R387, and the units that take none). -/
def State.stopPage (p : Nat) (s : State) : State :=
  match inUseDetail p with
  | some d => s.reason p Cls.conflict d
  | none =>
    if s.st p ≠ stOn then s
    else if unitAt p = .memc then s.reason p Cls.conflict 0x12
    else (s.setFld p F.PAGE_CTRL_ENABLE 0).beginDrain p 2

/-- PAGE_STOP (R41). -/
def execPageStop (p : Nat) (s : State) : Out := s.onCtrl p (State.stopPage p)

/-- DRAIN 1 retires an ON memory channel: its slice leaves and the budget falls in this cycle, with SHED and its record (R387). -/
def State.retire (s : State) (p : Nat) : State :=
  let n := instanceOf p
  let left := s.fld pSYS F.SYS.ADM_RESOURCES_MEMC_IN_SERVICE - 1
  let s0 := if s.bit p F.MEMC.MEMC_STATUS_APPLY_PENDING then s.applyWithdraw n else s
  let s1 := (if s0.opRunning p 6 then s0.opEndOf p 6 opAborted else s0).setMemc n
    { s0.memcOf n with probeLeft := 0, probeAbort := false }
  let s2 := (((s1.setFld p F.PAGE_CTRL_DRAIN 1).beginDrain p 3).sliceGone n).memcLimits left
  let code := reasonCode Cls.resource .memc 0x0F
  (s2.recordCode p code).logEv p 0x02 5 code (logWord 24 (s2.fld p ⟨0x40, 0, 32⟩))

/-- DRAIN written 1 (R41): an ON page drains, an OFF or FAULT page is out of service at once. -/
def State.drainPage (p : Nat) (s : State) : State :=
  match inUseDetail p with
  | some d => s.reason p Cls.conflict d
  | none =>
    if s.st p = stOn then
      (if unitAt p = .memc then s.retire p else (s.setFld p F.PAGE_CTRL_DRAIN 1).beginDrain p 3)
    else if s.st p = stOff ∨ s.st p = stFault then
      ((((s.setFld p F.PAGE_CTRL_DRAIN 1).setFld p F.PAGE_CTRL_ENABLE 0).toState p stOos).toOffValues p).release p
    else s

/-- PAGE_DRAIN (R41). -/
def execPageDrain (p : Nat) (s : State) : Out := s.onCtrl p (State.drainPage p)

/-- DRAIN written 0 to an OUT_OF_SERVICE page: OFF (R41). At ROOT_MULT 120 the picture units stay out of service (R60). -/
def State.undoDrain (p : Nat) (s : State) : State :=
  if s.st p = stOos ∧ ¬ (s.boot.mult = 120 ∧ p ∈ pictureUnits) then (s.setFld p F.PAGE_CTRL_DRAIN 0).toState p stOff else s

/-- Run a command on a page that accepts a write of DRAIN 0 while out of service (R35). -/
def execDrainUndo (p : Nat) (s : State) : Out :=
  .next (if s.served p && (unitOf p).isSome && !alwaysOn p && (s.page p).absence == 0 then s.undoDrain p else s)

/-- CLEAR_FAULT written 1 while in FAULT: OFF (R41). ENABLE reads 0 there. -/
def State.clearFault (p : Nat) (s : State) : State :=
  if s.st p = stFault then ((s.toState p stOff).setFld p F.PAGE_CTRL_ENABLE 0).toOffValues p else s

/-- CLEAR_FAULT (R41). -/
def execClearFault (p : Nat) (s : State) : Out := s.onCtrl p (State.clearFault p)

/-! ## Boundaries -/

/-- A field of page `p` as it holds it: of the captured copy while it is CHECKING, else of the active copy. -/
def State.holds (s : State) (p : Nat) (f : Fld) : Nat := s.cv (if s.st p = stChecking then [p] else []) p f

/-- A page that waits for others until they count as OFF (R163, R213, R218, R316, R514; TSCH, chapter 14); the others wait for their own
work. -/
def State.othersOff (s : State) (p : Nat) : Bool :=
  let n := instanceOf p
  match unitOf p with
  | some .look | some .refp => UnitType.chan.pages.all s.countsOff
  | some .grp => (List.range 64).all fun c => s.countsOff (pCHAN c) || s.holds (pCHAN c) F.CHAN.CHAN_CFG_GROUP != n
  | some .rope => s.countsOff pPAIR
  | some .tsch =>
    (List.range 64).all (fun c => s.countsOff (pCHAN c) || (s.queuesOwned true c).isEmpty) &&
      (List.range 8).all fun e => s.countsOff (pETH e) || (s.queuesOwned false e).isEmpty
  | _ => true

/-- A frame-cycle start of group `g` has come since page `p` took its present state, or its cadence does not run. -/
def State.cycleSince (s : State) (p g : Nat) : Bool := !s.cadence g || decide ((s.grpOf g).rootAt > (s.page p).since)

/-- A record of a ring is in progress (R404, R454). -/
def State.recordOpen (s : State) (r : Nat) : Bool := (s.ringOf r).inRecord

/-- The work of a draining page has ended: its next boundary (chapter 02, and the rules of single units). -/
def State.boundaryReached (s : State) (p : Nat) : Bool :=
  let n := instanceOf p
  s.othersOff p &&
  match unitOf p with
  | some .chan => (s.chanOf n).pics.isEmpty
  | some .grp => !s.cadence n || decide ((s.grpOf n).rootAt > max (s.page p).since (s.grpOf n).leftAt)
  | some .dma => !s.recordOpen n
  | some .eth => ((s.portOf n).sending).isNone
  | some .sditx => s.sdoIdle n
  | some .dec => s.cycleSince p (s.indexGroup p)
  | some .chk => !s.recordOpen (s.fld p F.CHK.CHK_CFG_RING) || !(s.ringOf (s.fld p F.CHK.CHK_CFG_RING)).guarded
  | _ => true

/-- Pages whose leaving has a command of its own: TIME, inputs, sources, scalers, chambers. -/
def State.leavesApart (s : State) (p : Nat) : Bool :=
  match unitOf p with
  | some .time | some .sdirx | some .ipin | some .src | some .scal | some .chmb => true
  | some .dec => s.act p F.DEC.OUT_CFG_TO_SOURCE == 1
  | _ => false

/-- NEXT_BOUNDARY_REACHED (R41, R42). -/
def execNextBoundaryReached (p : Nat) (s : State) : Out :=
  s.event ((unitOf p).isSome && s.st p == stDraining && !s.leavesApart p && s.boundaryReached p) fun s => s.leavePage p

/-- INPUT_PAGE_LEAVE (R114): at the next frame-cycle start of the index group, or where its cadence does not run. -/
def execInputPageLeave (p : Nat) (s : State) : Out :=
  let input := unitAt p == .sdirx || unitAt p == .ipin || (unitAt p == .dec && s.act p F.DEC.OUT_CFG_TO_SOURCE == 1)
  s.event (input && s.st p == stDraining && s.cycleSince p (s.indexGroup p)) fun s => s.leavePage p

/-- The pages that a source or a scaler feeds count as OFF (R137). -/
def State.fedOff (s : State) (p : Nat) : Bool :=
  match unitOf p with
  | some .src => (List.range 32).all fun m => s.countsOff (pSCAL m) || s.holds (pSCAL m) F.SCAL.SCAL_CFG_SOURCE != instanceOf p
  | _ => (List.range 64).all fun c => s.countsOff (pCHAN c) || s.holds (pCHAN c) F.CHAN.CHAN_CFG_SCALER != instanceOf p

/-- The group at whose frame-cycle start a source or a scaler leaves: that of the channels it fed, else its source's index group
(R137). -/
def State.leaveGroup (s : State) (p : Nat) : Nat :=
  match unitOf p with
  | some .src => ((s.srcOf (instanceOf p)).fed).getD (s.srcOf (instanceOf p)).group
  | _ => ((s.scalOf (instanceOf p)).fed).getD (s.srcOf (s.act p F.SCAL.SCAL_CFG_SOURCE)).group

/-- Root cycle at which the last page that a source or a scaler feeds stopped, or it began to drain. -/
def State.fedSince (s : State) (p : Nat) : Nat :=
  max (s.page p).since (match unitOf p with
    | some .src => (s.srcOf (instanceOf p)).fedLeft
    | _ => (s.scalOf (instanceOf p)).fedLeft)

/-- FEEDER_DRAIN_END (R137): every page fed counts as OFF; at the next frame-cycle start, or where that cadence does not run. -/
def execFeederDrainEnd (p : Nat) (s : State) : Out :=
  let g := s.leaveGroup p
  s.event ((unitAt p == .src || unitAt p == .scal) && s.st p == stDraining && s.fedOff p &&
      (!s.cadence g || decide ((s.grpOf g).rootAt > s.fedSince p))) fun s => s.leavePage p

/-- TIME_STOP (R68): every GRP page counts as OFF; the counter stops, every compare is disarmed, every trigger idle. -/
def execTimeStop (s : State) : Out := s.event (s.st pTIME == stDraining && s.allGrpOff) fun s => s.leavePage pTIME

/-! ## Aborts (R40, R55) -/

/-- A running drain is aborted: ON, ENABLE 1, DRAIN 0 (R41). -/
def State.abortDrain (s : State) (p : Nat) : State :=
  ((((s.toState p stOn).setFld p F.PAGE_CTRL_ENABLE 1).setFld p F.PAGE_CTRL_DRAIN 0)).opEnd p opAborted

/-- A running enable check is aborted: OFF, ENABLE 0; its reservations end (R41, R45). -/
def State.abortCheck (s : State) (p : Nat) : State :=
  ((((s.opEnd p opAborted).toState p stOff).setFld p F.PAGE_CTRL_ENABLE 0).release p).checkLeft p

/-- LATE_ABORT: class 0 (R55). -/
def State.lateAbort (s : State) (p : Nat) : State := s.reason p Cls.none 0x01

/-- An operation of the unit is aborted where its chapter says so: a pending apply, a probe at the end of its stolen slot, WRITE_SLOT
and NOR_READ at their next block of 64 KiB, and ACTIVATE at once, since its directory write is its last act, in MGMT_OP_DONE (R375,
R376, R475). Queue commands, gate swaps and RESTART are not (R342, R351). -/
def State.abortUnit (s : State) (p kind : Nat) : State :=
  let n := instanceOf p
  match unitOf p with
  | some .memc =>
    if kind = 5 then s.applyWithdraw n
    else if kind = 6 then s.setMemc n { s.memcOf n with probeAbort := true } else s
  | some .mgmt =>
    if kind = 5 ∨ kind = 7 then { s with nor := { s.nor with opAbort := true } }
    else if kind = 6 then s.opEnd p opAborted else s
  | _ => s

/-- Operations that an ABORT may reach: not a commit, an operation of TSCH, or RESTART of MGMT (R40, R342, R351, R475). -/
def abortable (p kind : Nat) : Bool := kind != 4 && unitAt p != .tsch && !(unitAt p == .mgmt && kind == 8)

/-- PAGE_CTRL.ABORT (R40, R41, R55, R160): by the kind of the running operation; a result recorded in this FABRIC cycle stands and the
page records LATE_ABORT. The effects of a chamber's drain and of a channel's retirement stand once they have begun. -/
def State.abortPage (p : Nat) (s : State) : State :=
  let kind := s.fld p F.PAGE_OP_KIND
  if kind = 0 then s
  else if s.fld p F.PAGE_OP_RESULT ≠ 0 then
    (if abortable p kind ∧ (s.page p).resultAt = s.fabric then s.lateAbort p else s)
  else if kind = 1 then (if s.st p = stChecking then s.abortCheck p else s)
  else if kind = 2 ∨ kind = 3 then
    (if s.st p ≠ stDraining then s
     else if unitAt p = .memc ∨ (unitAt p = .chmb ∧ (s.chamber (instanceOf p)).drained) then s.lateAbort p
     else s.abortDrain p)
  else if kind = 4 then s
  else s.abortUnit p kind

/-- ABORT (R40). -/
def execAbortPage (p : Nat) (s : State) : Out := s.onCtrl p (State.abortPage p)

/-- A write of PAGE_CTRL (R40): ABORT alone acts; else DRAIN going to 1, then DRAIN going to 0, CLEAR_FAULT, and a change of ENABLE. -/
def State.pageCtrlWrite (p : Nat) (v : Word) (s : State) : State :=
  let en := v.toNat % 2 == 1
  let dr := v.toNat / 2 % 2 == 1
  if alwaysOn p then s
  else if v.toNat / 4 % 2 = 1 then s.abortPage p
  else if (inUseDetail p).isSome && s.isOn p then (if dr then s.drainPage p else if en then s else s.stopPage p)
  else if dr && s.st p != stOos && s.st p != stDraining then s.drainPage p
  else if !dr && s.st p == stOos then s.undoDrain p
  else if v.toNat / 8 % 2 = 1 ∧ s.st p = stFault then s.clearFault p
  else if en && !s.bit p F.PAGE_CTRL_ENABLE then s.enablePage p
  else if !en && s.bit p F.PAGE_CTRL_ENABLE then s.stopPage p
  else s

/-! ## Faults of units (R41) -/

/-- UNIT_FAULT_DETECTED: a unit that has no row of its own for its faults detects one. TSCH and TASK count it, and a fault of
TSCH, or of a port that carries a gated flow, is fatal (R276). -/
def State.unitFault (s : State) (p : Nat) : State :=
  let gated := unitAt p == .eth && s.gatedPort (instanceOf p)
  let s0 := match unitOf p with
    | some .tsch => s.err p 5
    | some .task => s.err p 7
    | _ => s
  let s1 := ((s0.unitStops p).enterFault p 0x0E).pageStopped p
  if unitAt p = .tsch then s1.fatal 0 else if gated then s1.fatal 1 else s1

/-- UNIT_FAULT_DETECTED (R41). Faults of chambers and of memory channels have rows of their own. -/
def execUnitFaultDetected (p : Nat) (s : State) : Out :=
  s.event ((unitOf p).isSome && !alwaysOn p && unitAt p != .chmb && unitAt p != .memc && s.inUse p && !s.absent p) fun s => s.unitFault p

/-! ## Shedding (R27, R388) -/

/-- The page that an entry of the shed order names. -/
def shedPage (e : Nat) : Nat := if e < 0x40 then pCHAN e else pDEC (e - 0x40)

/-- The shed order: the list of MEMC0 up to 0xFF, then the pages that it does not name (R388). -/
def State.shedOrder (s : State) : List Nat :=
  let list := ((List.range 64).map fun j => s.fld (pMEMC 0) ⟨(F.MEMC.SHED (j / 4)).off, 8 * (j % 4), 8⟩).takeWhile (· != 0xFF)
  let rest := ((List.range 64).reverse ++ [0x41, 0x40]).filter fun e => !list.contains e
  (list ++ rest).map shedPage

/-- Chamber and memory terms of page `p` as it runs: none while it is CHECKING, its old ones while a commit of it waits (R27). -/
def State.runningTerms (s : State) (p : Nat) : Nat × Nat :=
  if s.st p = stChecking then (0, 0)
  else match (s.commits.flatMap fun c => c.2.old).find? fun x => x.1 == p with
    | some x => x.2
    | none => ((s.page p).chmb, (s.page p).mem)

/-- The running configuration no longer fits its limits (R27). -/
def State.overLimit (s : State) : Bool :=
  let ts := s.pages.map fun c => s.runningTerms c.1
  decide (ts.foldl (fun n t => n + t.1) 0 > s.live64 pSYS F.SYS.ADM_CHMB_LIMIT_LO) ||
    decide (ts.foldl (fun n t => n + t.2) 0 > s.fld pSYS F.SYS.ADM_MEM_BUDGET)

/-- The page to be shed next: the first in the order that works (R388). -/
def State.shedVictim (s : State) : Option Nat := if s.overLimit then s.shedOrder.find? s.works else none

/-- A page is shed: OFF, RESOURCE_FAULT SHED and its record (R27, R510); a shed channel is a fatal fault of bit 3 (R276). -/
def State.shedPageNow (s : State) (p : Nat) : State :=
  let code := reasonCode Cls.resource (unitAt p) 0x0F
  let s1 := (s.recordCode p code).logEv p 0x02 5 code (logWord 24 (s.fld p ⟨0x40, 0, 32⟩))
  let s2 := (if s1.st p = stDraining then s1.opEnd p opCompleted else s1).unitStops p
  let s3 := ((((s2.toState p stOff).setFld p F.PAGE_CTRL_ENABLE 0).setFld p F.PAGE_CTRL_DRAIN 0).toOffValues p).release p
  let s4 := s3.pageStopped p
  if unitAt p = .chan then s4.fatal 3 else s4

/-- The victim is at a picture boundary: a channel has no picture begun, a decoder is at a presentation or has no cadence. -/
def State.shedDue (s : State) (p : Nat) : Bool :=
  if unitAt p = .chan then (s.chanOf (instanceOf p)).pics.isEmpty
  else !s.cadence (s.decGroup (instanceOf p)) || (s.grpOf (s.decGroup (instanceOf p))).rootAt == s.time.root

/-- SHED (R27). -/
def execShed (s : State) : Out :=
  s.event (match s.shedVictim with
      | some p => s.shedDue p
      | none => false) fun s =>
    match s.shedVictim with
    | some p => s.shedPageNow p
    | none => s

end Sys2Proof.Machine
end

