-- ==== Sys2Proof/Machine/FrameCycle.lean ====
section
/-! DEFINITION. Compares and the frame-cycle start (spec/03, R43, R52, R72 to R77, R82, R111, R200, R211, R279, R496): what a
fire of each action does, and everything that happens at the start of a frame cycle of a group. -/

namespace Sys2Proof.Machine

/-- A layer of source `n` was held or hidden by a commit that applied since `old` (R123, R154). -/
def State.heldSince (s old : State) (n : Nat) : Bool :=
  let p := pSRC n
  s.fld p F.COMMIT_SEQ != old.fld p F.COMMIT_SEQ &&
    (s.fld p F.SRC.LAYER_STATE_HELD != 0 || s.fld p F.SRC.LAYER_STATE_HIDDEN != 0)

/-- The input pages of group `g` start the picture of index `m` (R109, R111). -/
def State.inputsFrame (s : State) (g m fire : Nat) : State :=
  (lineStorePages.filter fun p => s.works p && s.indexGroup p == g).foldl (fun t p => t.inputFrame p m fire) s

/-- The sources of group `g` start the picture of index `m` (R111, R112, R126). -/
def State.sourcesFrame (s : State) (g m : Nat) : State :=
  ((List.range 32).filter fun n => s.works (pSRC n) && (s.srcOf n).group == g).foldl (fun t n => t.srcFrame n m) s

/-- Group `g` does picture work at a frame cycle that fires at counter ns `fire`: its page works, and 10,000 ns have passed since
its ENABLE write was accepted (R43, R496). -/
def State.groupBegins (s : State) (g fire : Nat) : Bool := s.works (pGRP g) && decide ((s.grpOf g).enabledNs + 10000 ≤ fire)

/-- The channels of group `g` that begin a picture: ON, and not about to be shed (R27, R43). -/
def State.beginners (s : State) (g fire : Nat) : List Nat :=
  if s.groupBegins g fire then
    (List.range 64).filter fun c => s.chanBegins c && s.chanGroup c == g && s.shedVictim != some (pCHAN c)
  else []

/-- Each beginning channel takes the picture of index `m`; answers the pictures that start coding (R141, R148). -/
def State.chansFrame (old : State) (m fire : Nat) : List Nat → State → State × List (Nat × Nat)
  | [], s => (s, [])
  | c :: cs, s =>
    let r := s.chanFrame c m fire (s.heldSince old (s.geo c).source)
    let t := State.chansFrame old m fire cs r.1
    (t.1, match r.2 with
      | some k => (c, k) :: t.2
      | none => t.2)

/-- The budgets of the pictures that start: of the pool, or of each channel; none for a picture whose decisions come from the
active (R200, R202, R211, R286). -/
def State.budgets (s : State) (g fire : Nat) (cs : List (Nat × Nat)) : State :=
  let s1 : State := if s.grpPooled g then s.poolBudgets g fire cs
    else cs.foldl (fun t c => match t.picRec c.1 c.2 with
      | some x => t.ownBudget c.1 x
      | none => t) s
  cs.foldl (fun t c => if t.receiving c.1 c.2 then t.putBudget c.1 c.2 0 else t) s1

/-- The frame cycle of index `m` of group `g` starts at counter ns `fire`. -/
def State.frameCycle (s : State) (g m fire : Nat) : State :=
  let s1 := s.commitApply g m (fire * 1000)
  let s2 := if s1.pair.fs = some fire then s1.switchInstant else s1
  let s3 := ((s2.presentAll g m).inputsFrame g m fire).sourcesFrame g m
  let r := State.chansFrame s m fire (s3.beginners g fire) s3
  let s4 := r.1.budgets g fire r.2
  let s5 := r.2.foldl (fun t c => t.sendSnapshot c.1 c.2) s4
  s5.setGrp g { s5.grpOf g with n := m, fire := fire, rootAt := s.time.root }

/-- The action of a compare that has fired at index `m` and counter ns `fire` (R83, R85, R87; the CMP_CTRL fields). A frame cycle
is started by a periodic compare only (R77). -/
def State.fireAction (s : State) (n m : Nat) (fire : Nat) (periodic : Bool) : State :=
  match s.fld pTIME (F.TIME.CMP_CTRL_ACTION n) with
  | 1 => s.trigFire (s.fld pTIME (F.TIME.CMP_CTRL_TRIG n)) fire
  | 2 => if periodic then s.frameCycle (s.fld pTIME (F.TIME.CMP_CTRL_GROUP n)) m fire else s
  | 3 => s.taskTimerFire
  | _ => s

/-- COMPARE_FIRE: a tick has found an armed compare at or past its target (R64, R72, R75). -/
def execCompareFire (n : Nat) (s : State) : Out :=
  s.event (decide (n < 16) && s.running && s.bit pTIME (F.TIME.CMP_CTRL_ARM n) && !(s.cmpOf n).fresh && s.reached (s.cmpTarget n))
    fun s =>
      let periodic := s.fld pTIME (F.TIME.CMP_CTRL_MODE n) == 1
      let c := s.cmpOf n
      let fire := if periodic then (s.fireAt n c.index).toNat else s.shotTime n
      ((s.lateRecord n).fireRecord n).fireAction n c.index fire periodic

end Sys2Proof.Machine
end

