-- ==== Sys2Proof/Machine/Bus.lean ====
section
/-! DEFINITION. BAR0 (R5 to R7, R30 to R37, R50, R460): what a write of any register does, by its access code or by the rule that
its chapter gives it, and what a read of any register returns. -/

namespace Sys2Proof.Machine

/-! ## Writes by access code (R6) -/

/-- A write to an RW-S register: its shadow copy takes the value, DIRTY is set, and a write after the page's capture waits for a
later commit (R6, R51). -/
def State.shadowWrite (a : Nat) (r : RegRow) (v : Word) (s : State) : State :=
  let p := pageOf a
  let s1 := (s.setReg a (r.written (s.reg a) v)).setFld p F.DIRTY 1
  if s.bit p F.PENDING then s1.setPage p { s1.page p with late := true } else s1

/-- A write to a register that follows its access codes alone; a reserved register ignores it (R6, R7). -/
def State.plainWrite (a : Nat) (v : Word) (s : State) : State :=
  match rowAt a with
  | some r => if r.sh != 0 then s.shadowWrite a r v else s.setReg a (r.written (s.reg a) v)
  | none => s

/-- A write that is accepted only while page `p` is OFF; else it is ignored with LOCKED_FIELD (R316, R337, R405, R454). -/
def State.offWrite (a : Nat) (v : Word) (s : State) : State :=
  if s.st (pageOf a) = stOff then s.plainWrite a v else s.reason (pageOf a) Cls.locked 0x07

/-- A write that is accepted only where `ok` holds; else it is ignored with FIELD_RANGE. -/
def State.rangeWrite (ok : Bool) (a : Nat) (v : Word) (s : State) : State :=
  if ok then s.plainWrite a v else s.reason (pageOf a) Cls.range 0x03

/-- The next state of a command, as part of a write. -/
def State.does (s : State) (f : State → Out) : State :=
  match f s with
  | .next t => t
  | _ => s

/-- Run `f` where bit `b` of `v` is written 1. -/
def onBit (v : Word) (b : Nat) (f : State → State) (s : State) : State := if v.toNat / 2 ^ b % 2 = 1 then f s else s

/-- A field of the word written. -/
def bitsOf (v : Word) (lo w : Nat) : Nat := v.toNat / 2 ^ lo % 2 ^ w

/-! ## The common header -/

/-- A write to COMMIT_CTRL: GROUP is stored, and ARM, DISARM and DISCARD act (R47). -/
def State.commitCtrlWrite (p : Nat) (v : Word) (s : State) : State :=
  onBit v 2 (State.discard p) (onBit v 1 (State.disarm p) (onBit v 0 (State.arm p)
    (s.setFld p F.COMMIT_GROUP (F.COMMIT_GROUP.of v))))

/-- A write to INT_SET (R33): the INT_STATUS bits that the unit has; reserved bits stay 0 (R7). -/
def State.intSet (p : Nat) (v : Word) (s : State) : State :=
  s.setReg (F.INT_STATUS.addr p) (s.reg (F.INT_STATUS.addr p) ||| (v &&& BitVec.ofNat 32 (unitAt p).intBits))

/-- A write to the common header of page `p` at offset `o` (R33, R38 to R41, R47, R57). -/
def State.headerWrite (p o : Nat) (v : Word) (s : State) : State :=
  let a := p * 0x1000 + o
  if o = 0x008 then s.pageCtrlWrite p v
  else if o = 0x00C then (if v.toNat / 2 ^ 31 = 1 then s.setReg a 0 else s)
  else if o = 0x020 then s.setReg a (s.reg a &&& ~~~ v)
  else if o = 0x024 then s.setReg a v
  else if o = 0x028 then s.intSet p v
  else if o = 0x034 then s.commitCtrlWrite p v
  else if 0x040 ≤ o ∧ o ≤ 0x05C then s.setReg a (s.reg a &&& ~~~ v)
  else s

/-! ## The registers of the units -/

/-- SYS (R50, R51, R54, R56, R159). -/
def State.sysWrite (o : Nat) (v : Word) (s : State) : State :=
  match o with
  | 0x100 => onBit v 8 State.deviceCommitReq (s.groupCommitReq (v.toNat % 256))
  | 0x104 => onBit v 8 (fun s => s.abortCommit 8) (s.abortGroups (v.toNat % 256))
  | 0x140 => s.reserveWrite v
  | _ => s

/-- A compare block (R73 to R75, R81, R87, R88). -/
def State.compareWrite (a n r : Nat) (v : Word) (s : State) : State :=
  match r with
  | 0x00 => (State.cmpArm n v s).cadenceStops
  | 0x08 => s.cmpHost n false (State.plainWrite a v)
  | 0x0C => s.tgtWrite n v
  | 0x10 => s.tgt32Write n v
  | 0x14 => (State.cmpRegWrite n 1 v s).cadenceStops
  | 0x18 => (State.cmpRegWrite n 2 v s).cadenceStops
  | 0x1C => (State.cmpRegWrite n 3 v s).cadenceStops
  | _ => s.cmpHost n false id

/-- A trigger block: EN 0 holds the pin at its inactive level (TRIG_CTRL). -/
def State.trigWrite (a k : Nat) (v : Word) (s : State) : State :=
  let s1 := s.plainWrite a v
  if a % 0x10 = 0 ∧ v.toNat % 2 = 0 then s1.setFld pTIME (F.TIME.TRIG_STATUS_ACTIVE k) 0 else s1

/-- TIME (R63 to R65, R69, R70). -/
def State.timeWrite (a o : Nat) (v : Word) (s : State) : State :=
  if 0x200 ≤ o ∧ o < 0x600 then s.compareWrite a ((o - 0x200) / 0x40) ((o - 0x200) % 0x40) v
  else if 0x700 ≤ o ∧ o < 0x780 then s.trigWrite a ((o - 0x700) / 0x10) v
  else match o with
    | 0x100 => s.loadWrite 3 v
    | 0x110 => s.loadWrite 0 v
    | 0x114 => s.loadWrite 1 v
    | 0x118 => s.loadWrite 2 v
    | 0x130 => s.writeIncr v
    | 0x134 => s.writeSlewIncr v
    | 0x13C => onBit v 0 State.slewStart s
    | _ => s.plainWrite a v

/-- SENS (R469, R470). -/
def State.sensWrite (o : Nat) (v : Word) (s : State) : State :=
  if 0x110 ≤ o ∧ o < 0x1D0 ∧ o % 0x10 = 8 then s.sensLimit false ((o - 0x110) / 0x10) v
  else if 0x200 ≤ o ∧ o < 0x2A0 ∧ o % 0x10 = 8 then s.sensLimit true ((o - 0x200) / 0x10) v
  else if o = 0x300 then s.sensClear v
  else s

/-- MGMT (R472, R474, R475). -/
def State.mgmtWrite (a o : Nat) (v : Word) (s : State) : State :=
  match o with
  | 0x12C => s.mgmtCmd v
  | 0x140 => s.hostWdtCfg v
  | 0x144 => s.hostKick
  | 0x15C => s.logCfg v
  | _ => s.plainWrite a v

/-- INTC, its header page (R406, R414). -/
def State.intcWrite (o : Nat) (v : Word) (s : State) : State :=
  if o = 0x104 then s.swSet (v.toNat % 2048)
  else if o = 0x108 then s.swClr (v.toNat % 2048)
  else if 0x400 ≤ o ∧ o < 0x890 ∧ o % 0x10 = 0 then s.intcCtrlWrite ((o - 0x400) / 0x10) 4 v
  else if 0x400 ≤ o ∧ o < 0x890 ∧ o % 0x10 = 8 then State.eoi ((o - 0x400) / 0x10) (v.toNat % 2048) s
  else s

/-- MTX (R399, R400). -/
def State.mtxWrite (a o : Nat) (v : Word) (s : State) : State :=
  if o = 0x100 then s.rangeWrite (decide (256 ≤ v.toNat % 65536)) a v
  else if 0x200 ≤ o ∧ o < 0x280 then
    (if (o - 0x200) % 0x20 / 4 < 6 then s.wpWrite false ((o - 0x200) / 0x20) ((o - 0x200) % 0x20 / 4) v else s)
  else s.plainWrite a v

/-- TASK (R423, R425, R428, R434). -/
def State.taskWrite (a o : Nat) (v : Word) (s : State) : State :=
  match o with
  | 0x100 => s.reason pTASK Cls.locked 0x07
  | 0x104 => s.reason pTASK Cls.locked 0x07
  | 0x108 => s.reason pTASK Cls.locked 0x07
  | 0x114 => if v = 0 then s.setReg a 0 else s
  | 0x120 => s.cmdCfgWrite v
  | 0x124 => s.cmdAbort v.toNat
  | _ => s.plainWrite a v

/-- HOST (R438, R442, R443). -/
def State.hostWrite (a o : Nat) (v : Word) (s : State) : State :=
  if o = 0x104 then s.does (execApertureWrite false v)
  else if o = 0x108 then s.does (execApertureWrite true v)
  else if o = 0x110 then onBit v 0 (State.does · execHostRetrain) s
  else if 0x400 ≤ o ∧ o < 0x800 ∧ o % 0x10 = 0xC ∧ v.toNat % 2 = 0 then s.msixUnmask ((o - 0x400) / 0x10) false
  else s.plainWrite a v

/-- A DMA ring (R446, R454). -/
def State.dmaWrite (r a o : Nat) (v : Word) (s : State) : State :=
  if o ≤ 0x110 then s.offWrite a v
  else if o = 0x114 then s.does (execTailWrite r v [])
  else s.plainWrite a v

/-- PAIR (R260, R291 and the PAIR_CTRL fields). -/
def State.pairWrite (a o : Nat) (v : Word) (s : State) : State :=
  match o with
  | 0x100 => s.pairCfgWrite 0 v
  | 0x104 => s.pairCfgWrite 1 v
  | 0x108 => s.rangeWrite (decide (20 ≤ bitsOf v 0 17 ∧ bitsOf v 0 17 ≤ 100000)) a v
  | 0x10C => s.rangeWrite (decide (100 ≤ bitsOf v 0 20 ∧ bitsOf v 0 20 ≤ 600000)) a v
  | 0x110 => onBit v 3 State.joinNow (onBit v 2 State.clearYield (onBit v 1 State.yieldNow (onBit v 0 State.pairHandover s)))
  | _ => s.plainWrite a v

/-- ROPE (R308, R309, R313, R315, R316). -/
def State.ropeWrite (a o : Nat) (v : Word) (s : State) : State :=
  match o with
  | 0x100 => s.offWrite a v
  | 0x110 =>
    let s1 := (List.range 4).foldl (fun t i => onBit v i (State.does · (execRopeRetrain i)) t) s
    onBit v 16 State.mboxSend (onBit v 9 State.ropeClear (onBit v 8 State.ropeRestart s1))
  | _ => s.plainWrite a v

/-- A field of MEMC configuration is in range (R389). -/
def memcRange (o : Nat) (v : Word) : Bool :=
  match o with
  | 0x10C => decide (bitsOf v 0 2 < 3) && decide (1 ≤ bitsOf v 8 5) && decide (bitsOf v 8 5 ≤ 16)
  | 0x110 => decide (6 ≤ bitsOf v 8 4) && decide (bitsOf v 8 4 ≤ 14)
  | 0x114 => decide (1 ≤ bitsOf v 0 13) && decide (bitsOf v 0 13 ≤ 4096) && decide (1 ≤ bitsOf v 16 4)
  | 0x11C => decide (500 ≤ bitsOf v 0 16)
  | 0x1C0 => decide (1 ≤ bitsOf v 8 8)
  | _ => true

/-- A memory channel (R375, R376, R388, R389). -/
def State.memcWrite (n a o : Nat) (v : Word) (s : State) : State :=
  if o = 0x120 then onBit v 1 (State.probeStart n) (onBit v 0 (State.applyDelays n) s)
  else if 0x300 ≤ o ∧ o < 0x340 then s.does (execShedWrite n ((o - 0x300) / 4) v)
  else if o = 0x10C ∧ s.works (pMEMC n) then (s.rangeWrite (memcRange o v) a v).memcTemp n
  else s.rangeWrite (memcRange o v) a v

/-- A lane (R355 to R359, R365 to R368). -/
def State.laneWrite (n a o : Nat) (v : Word) (s : State) : State :=
  match o with
  | 0x104 => s.laneCfgWrite n v
  | 0x10C => s.threshWrite n v
  | 0x114 => s.boundsWrite n v
  | 0x118 => s.laneCtrlWrite n v
  | 0x120 => s.ffeWrite n v
  | 0x160 => s.testCfgWrite n v
  | _ => s.plainWrite a v

/-- An Ethernet port (R318, R322, R337). -/
def State.ethWrite (n a o : Nat) (v : Word) (s : State) : State :=
  if 0x400 ≤ o ∧ o < 0x800 then s.subWrite n ((o - 0x400) / 8) (o % 8 == 4) v
  else if o = 0x130 then s.laneModeNext n v
  else if o ≤ 0x118 then s.offWrite a v
  else s.plainWrite a v

/-- TSCH.Q_CMD; a reserved operation is refused with RESERVED_VALUE (R342). -/
def State.qCmd (v : Word) (s : State) : State :=
  let q := v.toNat % 65536
  match bitsOf v 16 4 with
  | 1 => s.enableQueue q
  | 2 => s.disableQueue q
  | 3 => s.setShaper q
  | 4 => s.returnQueue q
  | op => s.qCommand q op fun t => t.qFail Cls.range 0x04

/-- TSCH (R342, R351). -/
def State.tschWrite (a o : Nat) (v : Word) (s : State) : State :=
  if o = 0x100 then s.qCmd v
  else if 0x200 ≤ o ∧ o < 0x400 ∧ (o - 0x200) % 0x40 = 0xC then
    onBit v 1 (State.gateCancel ((o - 0x200) / 0x40)) (onBit v 0 (State.gateSwap ((o - 0x200) / 0x40)) s)
  else s.plainWrite a v

/-- The queue table (R339). -/
def State.qtabWrite (a : Nat) (v : Word) (s : State) : State :=
  let q := (a - 0x400000) / 0x20
  if (a - 0x400000) % 0x20 ≥ 0x10 then s
  else if s.qfld F.QTAB.Q_CTRL_EN q = 1 then s.reason pTSCH Cls.locked 0x07
  else s.plainWrite a v

/-- A source (R121, R127). -/
def State.srcWrite (n a o : Nat) (v : Word) (s : State) : State :=
  if o = 0x220 then s.fenceSignal n v
  else if 0x600 ≤ o ∧ o ≤ 0x61C then State.protWrite false n ((o - 0x600) / 4) v s
  else s.plainWrite a v

/-- A check unit (R405). -/
def State.chkWrite (a o : Nat) (v : Word) (s : State) : State := if o ≤ 0x110 then s.offWrite a v else s.plainWrite a v

/-- A write to a unit's own register. -/
def State.unitWrite (p o : Nat) (v : Word) (s : State) : State :=
  let a := p * 0x1000 + o
  let n := instanceOf p
  match unitAt p with
  | .sys => s.sysWrite o v
  | .time => s.timeWrite a o v
  | .pwr => if o = 0x100 then s.pwrCfgWrite false v else if o = 0x114 then s.pwrCfgWrite true v else s
  | .sens => s.sensWrite o v
  | .mgmt => s.mgmtWrite a o v
  | .intc => s.intcWrite o v
  | .mtx => s.mtxWrite a o v
  | .task => s.taskWrite a o v
  | .host => s.hostWrite a o v
  | .dma => s.dmaWrite n a o v
  | .pair => s.pairWrite a o v
  | .rope => s.ropeWrite a o v
  | .memc => s.memcWrite n a o v
  | .lane => s.laneWrite n a o v
  | .eth => s.ethWrite n a o v
  | .tsch => s.tschWrite a o v
  | .src => s.srcWrite n a o v
  | .chk => s.chkWrite a o v
  | _ => s.plainWrite a v

/-- A write to an extension page: the source table of INTC, or the queue table of TSCH (R32). -/
def State.extensionWrite (a : Nat) (v : Word) (s : State) : State :=
  if 0x7000 ≤ a ∧ a < 0xF000 then s.intcCtrlWrite ((a - 0x7000) / 0x10) (a % 0x10 / 4) v
  else if 0x400000 ≤ a ∧ a < 0x440000 then s.qtabWrite a v
  else s

/-- A page that is out of service by a drain, and served: its PAGE_CTRL alone still answers (R35). -/
def State.outOfService (s : State) (p : Nat) : Bool := s.served p && (s.page p).absence == 0 && s.st p == stOos

/-- A BAR0 write of 32 bits (R31). -/
def State.busWrite (a : Nat) (v : Word) (s : State) : State :=
  let p := pageOf a
  let o := offsetOf a
  if a % 4 ≠ 0 then s
  else if s.outOfService p && o == 0x008 then s.pageCtrlWrite p v
  else if !s.bar p then s
  else if (unitOf p).isNone then s.extensionWrite a v
  else if o < 0x100 then s.headerWrite p o v
  else s.unitWrite p o v

/-! ## Reads -/

/-- DIR_ENTRY of page `i` (R34). -/
def State.dirEntry (s : State) (i : Nat) : Nat :=
  let u := match unitOf i with
    | some u => some u
    | none => extensionOf i
  match u with
  | none => 0
  | some u =>
    let own := ownerPage i
    let ext := (unitOf i).isNone
    let ab := s.absence own
    (if ab = 0 ∧ s.served own then u.code else 0) + (if ext then 0 else i - u.base) % 256 * 2 ^ 8 +
      (if ab = 1 ∨ ab = 2 then 0 else s.st own) * 2 ^ 16 + ext.toNat * 2 ^ 19 + ab * 2 ^ 20

/-- The channel's configuration as the shadow copies of its page give it. -/
def State.shadowView (s : State) (p : Nat) : State := s.capture p

/-- OUT_RATE_MIN, kb/s (R336). -/
def State.outRateMin (s : State) (c : Nat) : Nat :=
  let p := pCHAN c
  let t := s.shadowView p
  let f (x : Fld) : Nat := t.cv [p] p x
  let g := t.chanGeo [p] c
  let vlan := f (F.CHAN.PATH_TAGS_VLAN_EN 0) == 1 || (f F.CHAN.OUT_CFG_DUAL == 1 && f (F.CHAN.PATH_TAGS_VLAN_EN 1) == 1)
  let h := t.headOctets [p] c vlan
  let rate := t.cvRate [p] c + t.cvShared [p] c g.group
  let k := f F.CHAN.TS_CFG_TS_PER_RTP
  let pm := f F.CHAN.PAYLOAD_MAX_OCTETS
  let m0 := f F.CHAN.OUT_CFG_MODE == 0
  let rn := if m0 then rate * (pm + h) else rate * (188 * k + h)
  let rd := if m0 then pm - 3 else 184 * k
  let rowC := if m0 then 7 * (h + 5) else ((4 + f F.CHAN.TS_CFG_HOST_MAX) * (188 * k + h) + k - 1) / k + h
  ceilDiv (ceilDiv rn rd + ceilDiv (8 * rowC * 1000000000000) g.tr) 1000

/-- What CHAN computes from its shadow configuration: D_MIN (R142), RC_FLOOR_MAX (R199), OUT_RATE_MIN (R336); 0 while its scaler or
its group's compare gives no timetable (log entry 68). -/
def State.chanComputed (s : State) (c o : Nat) : Nat :=
  let p := pCHAN c
  let t := s.shadowView p
  let g := t.chanGeo [p] c
  if g.tr = 0 ∨ g.w = 0 ∨ (t.groupRate g.group).isNone then 0
  else if o = 0x124 then dMin g.nRow g.tr
  else if o = 0x23C then min (t.frMax [p] c) 0xFFFFFFFF
  else s.outRateMin c

/-- What DEC computes from its shadow configuration: LOAD (R239) and REGION_NEED (R247). -/
def State.decComputed (s : State) (d o : Nat) : Nat :=
  let p := pDEC d
  let geom := s.fld p F.DEC.DEC_CFG_GEOM
  if o = 0x124 then decRegion geom (s.fld p F.DEC.CPB_CFG_MIB) (s.fld p F.DEC.DEC_CFG_PRESENT_DELAY)
  else match s.groupRate (s.fld p F.DEC.DEC_CFG_INDEX_GROUP) with
    | some r => decLoad geom r.1 r.2.1
    | none => 0

/-- The ON channels, and a sum over them (LOOK). -/
def State.onChans (s : State) : List Nat := (List.range 64).filter fun c => s.isOn (pCHAN c)
def State.onSum (s : State) (f : ChanGeo → Nat) : Nat := s.onChans.foldl (fun n c => n + f (s.geo c)) 0

/-- The ON members of group `g` as a mask, and the sum of their rates (GRP). -/
def State.onMembers (s : State) (g : Nat) : List Nat := s.onChans.filter fun c => s.chanGroup c == g
def State.memberMask (s : State) (g : Nat) : Nat := (s.onMembers g).foldl (fun n c => n + 2 ^ c) 0
def State.memberRate (s : State) (g : Nat) : Nat :=
  (s.onMembers g).foldl (fun n c => n + s.act (pCHAN c) F.CHAN.RC_RATE_KBPS) 0

/-- THREAD_INFO of the selected thread. -/
def State.threadInfo (s : State) : Nat :=
  match Tab.get none (s.task.threads.map fun c => (c.1, some c.2)) (s.fld pTASK F.TASK.THREAD_SEL_ID) with
  | some t => t.state % 8 + t.sump.toNat * 2 ^ 3 + t.prio % 64 * 2 ^ 4 + (if t.state = 3 then t.core % 8 else 0) * 2 ^ 12 +
      (if t.state = 2 then t.wait % 4 else 0) * 2 ^ 16 + (t.state == 2 && t.deadline.isSome).toNat * 2 ^ 18 +
      (if t.state = 2 ∧ t.wait = 2 then t.flow % 4096 else 0) * 2 ^ 20
  | none => 0

/-- The tokens of queue `q` in 48 bits, two's complement (Q_TOK). -/
def State.tokenBits (s : State) (q : Nat) : Nat := (s.tokensNow q % 2 ^ 48).toNat

/-- A unit register whose value is computed as it is read; none for a register that holds its value. -/
def State.computed (s : State) (p o : Nat) : Option Nat :=
  let n := instanceOf p
  match unitAt p, o with
  | .time, 0x120 => some s.now
  | .time, 0x12C => some s.now
  | .pwr, 0x10C => some (s.freeWord.toNat % 4096)
  | .mtx, 0x124 => some (Tab.get 0 s.mtx.flits (s.fld pMTX F.MTX.PORT_SEL_PORT))
  | .mtx, 0x128 => some (Tab.get 0 s.mtx.agedBy (s.fld pMTX F.MTX.PORT_SEL_PORT))
  | .task, 0x11C => some s.threadInfo
  | .pair, 0x120 => some s.inStepMs
  | .refp, 0x11C => some s.sqzRatio
  | .refp, 0x134 => some (s.markState 0)
  | .refp, 0x138 => some (s.markState 1)
  | .refp, 0x13C => some s.markPoison
  | .chan, 0x124 => some (s.chanComputed n o)
  | .chan, 0x23C => some (s.chanComputed n o)
  | .chan, 0x4C8 => some (s.chanComputed n o)
  | .chmb, 0x110 => some (s.chmbLoad n)
  | .look, 0x100 => some (s.onSum ChanGeo.look)
  | .look, 0x104 => some (s.onSum ChanGeo.items)
  | .look, 0x108 => some (s.onSum ChanGeo.window)
  | .grp, 0x10C => some (s.memberMask n)
  | .grp, 0x110 => some (s.memberMask n / 2 ^ 32)
  | .grp, 0x114 => some (s.memberRate n)
  | .dec, 0x120 => some (s.decComputed n o)
  | .dec, 0x124 => some (s.decComputed n o)
  | .tsch, 0x110 => some s.qEnabled
  | .tsch, 0x114 => some s.poolUsed
  | .dir, _ => if 0x400 ≤ o ∧ o < 0xC00 then some (s.dirEntry (s.fld 0 F.DIR.DIR_WINDOW_SELECT * 512 + (o - 0x400) / 4)) else none
  | _, _ => none

/-- The registers whose read latches the one above: unit, offset of the first _LO, how many, how far apart (R50 and the register
summaries). -/
def latchRows : List (UnitType × Nat × Nat × Nat) :=
  [(.sys, 0x120, 2, 8), (.time, 0x220, 16, 0x40), (.time, 0x228, 16, 0x40), (.time, 0x230, 16, 0x40), (.time, 0x608, 8, 0x20),
   (.sdirx, 0x118, 1, 4), (.ipin, 0x138, 1, 4), (.chan, 0x128, 1, 4), (.chan, 0x144, 1, 4), (.chan, 0x1B8, 1, 4),
   (.chmb, 0x104, 1, 4), (.dec, 0x138, 1, 4), (.pair, 0x128, 1, 4), (.pair, 0x144, 1, 4), (.pair, 0x150, 1, 4),
   (.tsch, 0x218, 8, 0x40), (.lane, 0x158, 1, 4), (.lane, 0x16C, 1, 4), (.mtx, 0x114, 1, 4), (.chk, 0x114, 1, 4),
   (.dma, 0x124, 1, 4), (.mgmt, 0x150, 1, 4)]

/-- A read of offset `o` of a unit of type `u` latches. -/
def latches (u : UnitType) (o : Nat) : Bool :=
  latchRows.any fun r => r.1 == u && r.2.1 ≤ o && (o - r.2.1) % r.2.2.2 == 0 && decide ((o - r.2.1) / r.2.2.2 < r.2.2.1)

/-- The register at `a` shows its live value from now on. -/
def State.latch (s : State) (a : Nat) : State := s.setReg a (s.live a)

/-- What a read of a unit register does beside returning its value: the latches of R50, of NOW_NS and of CAP_NS; a read of
CORE_EST takes a free value (R503). -/
def State.readEffect (s : State) (p o : Nat) : State :=
  let a := p * 0x1000 + o
  match unitAt p, o with
  | .time, 0x120 =>
    (s.setReg (F.TIME.NOW_NS_HI.addr pTIME) (BitVec.ofNat 32 (s.now / 2 ^ 32))).setReg (F.TIME.NOW_FRAC.addr pTIME)
      (BitVec.ofNat 32 (s.time.acc.toNat % 2 ^ 24))
  | .pwr, 0x10C => s.tookFree
  | u, _ =>
    if latches u o then
      let s1 := s.latch (a + 4)
      if u = .time ∧ 0x608 ≤ o then s1.latch (a + 8) else s1
    else s

/-- A read of a unit register: the state after it, and the value. -/
def State.unitRead (s : State) (p o : Nat) : State × Word :=
  if unitAt p = .intc ∧ 0x400 ≤ o ∧ o < 0x890 ∧ o % 0x10 = 4 then
    let r := s.claimRead ((o - 0x400) / 0x10)
    (r.1, BitVec.ofNat 32 r.2)
  else
    (s.readEffect p o, match s.computed p o with
      | some v => if s.st p = stOff ∧ !keptWhileOff (unitAt p) o then resetVal (p * 0x1000 + o) else BitVec.ofNat 32 v
      | none => s.reg (p * 0x1000 + o))

/-- A read of an extension page (R32): the queue table's Q_TOK words are computed as they are read, _LO latching _HI. -/
def State.extensionRead (s : State) (a : Nat) : State × Word :=
  if 0x400000 ≤ a ∧ a < 0x440000 ∧ a % 0x20 = 0x18 then
    let t := s.tokenBits ((a - 0x400000) / 0x20)
    (s.setReg (a + 4) (BitVec.ofNat 32 (t / 2 ^ 32)), BitVec.ofNat 32 t)
  else (s, s.reg a)

/-- The common header of page `p` at offset `o`: COMMIT_CTRL.ARM reads ARMED, INT_SET, a W1S register, the current INT_STATUS
(R6, R38, R47). -/
def State.headerRead (s : State) (p o : Nat) : Word :=
  if o = 0x028 then s.reg (F.INT_STATUS.addr p)
  else if o = 0x034 then BitVec.ofNat 32 (s.fld p F.ARMED + s.fld p F.COMMIT_GROUP * 2 ^ 8) else s.reg (p * 0x1000 + o)

/-- A BAR0 read of 32 bits: the state after it, and the value (R7, R31, R35, R460). -/
def State.busRead (s : State) (a : Nat) : State × Word :=
  let p := pageOf a
  let o := offsetOf a
  if a % 4 ≠ 0 then (s, 0)
  else if s.outOfService p then (s, if o = 0x004 then 4 else if o = 0x008 then 2 else 0)
  else if !s.bar p then (s, 0)
  else if (unitOf p).isNone then s.extensionRead a
  else if o < 0x100 then (s, s.headerRead p o)
  else s.unitRead p o

/-- A read whose value the host takes. -/
def State.hostRead (s : State) (a : Nat) : State :=
  let r := s.busRead a
  { r.1 with readData := r.2.toNat }

/-! ## Commands -/

/-- REGISTER_WRITE (R6, R7): a BAR0 write of 32 bits. -/
def execRegisterWrite (a : Nat) (v : Word) (s : State) : Out := .next (s.busWrite a v)

/-- SHADOW_WRITE (R6): a write to an RW-S register of page `p` at offset `o`. -/
def execShadowWrite (p o : Nat) (v : Word) (s : State) : Out :=
  s.onPage p fun s =>
    match rowAt (p * 0x1000 + o) with
    | some r => if r.sh != 0 && decide (o < 0x1000) then s.shadowWrite (p * 0x1000 + o) r v else s
    | none => s

/-- INT_SET (R33). -/
def execIntSet (p : Nat) (v : Word) (s : State) : Out := s.onHeader p (State.intSet p v)

/-- LATCHING_READ (R50): a BAR0 read of 32 bits. -/
def execLatchingRead (a : Nat) (s : State) : Out := .next (s.hostRead a)

/-- The bytes that a read of `len` at `a` takes of its 32-bit register. -/
def narrowBytes (w : Word) (a len : Nat) : Nat := w.toNat / 2 ^ (8 * (a % 4)) % 2 ^ (8 * len)

/-- BAR0_NARROW_ACCESS (R31): an access of 1, 2 or 8 octets, a write of `data` or a read. 8 octets are two accesses of 32 bits, the
lower address first; a narrower write is ignored, and a narrower read returns bytes of the containing register. -/
def execBar0NarrowAccess (a len : Nat) (data : Option Nat) (s : State) : Out :=
  .next (
    if len = 8 then
      match data with
      | some d => (s.busWrite a (BitVec.ofNat 32 d)).busWrite (a + 4) (BitVec.ofNat 32 (d / 2 ^ 32))
      | none =>
        let lo := s.busRead a
        let hi := lo.1.busRead (a + 4)
        { hi.1 with readData := lo.2.toNat + hi.2.toNat * 2 ^ 32 }
    else if (len = 1 ∨ len = 2) ∧ a % len = 0 then
      match data with
      | some _ => s
      | none =>
        let r := s.busRead (a / 4 * 4)
        { r.1 with readData := narrowBytes r.2 a len }
    else s)

end Sys2Proof.Machine
end

