-- ==== Sys2Proof/Machine/Dispatch.lean ====
section
/-! DEFINITION. The meaning of every command: one arm for each constructor of Instr. -/

namespace Sys2Proof.Machine

def exec (i : Instr) (s : State) : Host.Outcome State Fault Refusal :=
  match i with
  | .registerWrite a v => Sys2Proof.Machine.execRegisterWrite a v s
  | .bar0NarrowAccess a len data => Sys2Proof.Machine.execBar0NarrowAccess a len data s
  | .pageEnable p => Sys2Proof.Machine.execPageEnable p s
  | .enableCheckComplete p parityOk => Sys2Proof.Machine.execEnableCheckComplete p parityOk s
  | .pageStop p => Sys2Proof.Machine.execPageStop p s
  | .pageDrain p => Sys2Proof.Machine.execPageDrain p s
  | .drainUndo p => Sys2Proof.Machine.execDrainUndo p s
  | .nextBoundaryReached p => Sys2Proof.Machine.execNextBoundaryReached p s
  | .abortPage p => Sys2Proof.Machine.execAbortPage p s
  | .clearFault p => Sys2Proof.Machine.execClearFault p s
  | .unitFaultDetected p => Sys2Proof.Machine.execUnitFaultDetected p s
  | .arm p => Sys2Proof.Machine.execArm p s
  | .disarm p => Sys2Proof.Machine.execDisarm p s
  | .discard p => Sys2Proof.Machine.execDiscard p s
  | .shadowWrite p o v => Sys2Proof.Machine.execShadowWrite p o v s
  | .groupCommitReq mask => Sys2Proof.Machine.execGroupCommitReq mask s
  | .deviceCommitReq => Sys2Proof.Machine.execDeviceCommitReq s
  | .deviceCommitComplete => Sys2Proof.Machine.execDeviceCommitComplete s
  | .commitAbortGroup mask => Sys2Proof.Machine.execCommitAbortGroup mask s
  | .commitAbortDevice => Sys2Proof.Machine.execCommitAbortDevice s
  | .commitCutoff g => Sys2Proof.Machine.execCommitCutoff g s
  | .commitCheckEnd g => Sys2Proof.Machine.execCommitCheckEnd g s
  | .chmbReserveWrite v => Sys2Proof.Machine.execChmbReserveWrite v s
  | .shed => Sys2Proof.Machine.execShed s
  | .intSet p v => Sys2Proof.Machine.execIntSet p v s
  | .incrWrite v => Sys2Proof.Machine.execIncrWrite v s
  | .slewIncrWrite v => Sys2Proof.Machine.execSlewIncrWrite v s
  | .slewStart => Sys2Proof.Machine.execSlewStart s
  | .slewDone => Sys2Proof.Machine.execSlewDone s
  | .timeLoadAtPps => Sys2Proof.Machine.execTimeLoadAtPps s
  | .timeStop => Sys2Proof.Machine.execTimeStop s
  | .loadWrite r v => Sys2Proof.Machine.execLoadWrite r v s
  | .cmpArm n v => Sys2Proof.Machine.execCmpArm n v s
  | .cmpBoundWrite n r v => Sys2Proof.Machine.execCmpBoundWrite n r v s
  | .tgtWrite n v => Sys2Proof.Machine.execTgtWrite n v s
  | .tgt32Write n v => Sys2Proof.Machine.execTgt32Write n v s
  | .compareFire n => Sys2Proof.Machine.execCompareFire n s
  | .triggerPulseEnd k => Sys2Proof.Machine.execTriggerPulseEnd k s
  | .captureEdge n rising => Sys2Proof.Machine.execCaptureEdge n rising s
  | .ppsOutRise => Sys2Proof.Machine.execPpsOutRise s
  | .ppsOutFall => Sys2Proof.Machine.execPpsOutFall s
  | .rootPllLoss => Sys2Proof.Machine.execRootPllLoss s
  | .rootPllRelock => Sys2Proof.Machine.execRootPllRelock s
  | .sdiRateDwell n r => Sys2Proof.Machine.execSdiRateDwell n r s
  | .sdiLinkLock n r => Sys2Proof.Machine.execSdiLinkLock n r s
  | .sdiLockLoss n r => Sys2Proof.Machine.execSdiLockLoss n r s
  | .sdiPictureArrival n x => Sys2Proof.Machine.execSdiPictureArrival n x s
  | .ancPacket n x => Sys2Proof.Machine.execAncPacket n x s
  | .ipinPathInactive n b => Sys2Proof.Machine.execIpinPathInactive n b s
  | .ipinSeqLost n => Sys2Proof.Machine.execIpinSeqLost n s
  | .rowReadInstant n k => Sys2Proof.Machine.execRowReadInstant n k s
  | .inputPageLeave p => Sys2Proof.Machine.execInputPageLeave p s
  | .fenceSignal n v => Sys2Proof.Machine.execFenceSignal n v s
  | .protWrite byLantern n r v => Sys2Proof.Machine.execProtWrite byLantern n r v s
  | .protLock byLantern n => Sys2Proof.Machine.execProtLock byLantern n s
  | .feederDrainEnd p => Sys2Proof.Machine.execFeederDrainEnd p s
  | .rowRelease c n k lost => Sys2Proof.Machine.execRowRelease c n k lost s
  | .rowDispatch h => Sys2Proof.Machine.execRowDispatch h s
  | .ctuComplete h k x => Sys2Proof.Machine.execCtuComplete h k x s
  | .chamberFault h => Sys2Proof.Machine.execChamberFault h s
  | .outputInstant c n k => Sys2Proof.Machine.execOutputInstant c n k s
  | .chmbDrainEffect h => Sys2Proof.Machine.execChmbDrainEffect h s
  | .chmbDrainEnd h => Sys2Proof.Machine.execChmbDrainEnd h s
  | .chmbPoolJoin h => Sys2Proof.Machine.execChmbPoolJoin h s
  | .blockRead c r t b transient => Sys2Proof.Machine.execBlockRead c r t b transient s
  | .decInputRecord d => Sys2Proof.Machine.execDecInputRecord d s
  | .decPictureDecoded d rows => Sys2Proof.Machine.execDecPictureDecoded d rows s
  | .sdiOutPicture n m => Sys2Proof.Machine.execSdiOutPicture n m s
  | .claimMsg seq claim primary active yielded => Sys2Proof.Machine.execClaimMsg seq claim primary active yielded s
  | .digest seq es => Sys2Proof.Machine.execDigest seq es s
  | .digestLate c => Sys2Proof.Machine.execDigestLate c s
  | .yieldMsg p claim drain carried => Sys2Proof.Machine.execYieldMsg p claim drain carried s
  | .snapshot seq m => Sys2Proof.Machine.execSnapshot seq m s
  | .decision seq c n k cap qp floor e => Sys2Proof.Machine.execDecision seq c n k cap qp floor e s
  | .stepMsg seq c cause n k => Sys2Proof.Machine.execStepMsg seq c cause n k s
  | .joinReq seq c => Sys2Proof.Machine.execJoinReq seq c s
  | .handoverReq seq claim => Sys2Proof.Machine.execHandoverReq seq claim s
  | .handover seq fs claim => Sys2Proof.Machine.execHandover seq fs claim s
  | .commitReq seq reqs => Sys2Proof.Machine.execCommitReq seq reqs s
  | .commitVerdict seq g b pass digest => Sys2Proof.Machine.execCommitVerdict seq g b pass digest s
  | .verdictDeadline g => Sys2Proof.Machine.execVerdictDeadline g s
  | .ready seq g m entries => Sys2Proof.Machine.execReady seq g m entries s
  | .witnessTimeout => Sys2Proof.Machine.execWitnessTimeout s
  | .retainExpiry c => Sys2Proof.Machine.execRetainExpiry c s
  | .revert => Sys2Proof.Machine.execRevert s
  | .pairCtrlHandover => Sys2Proof.Machine.execPairCtrlHandover s
  | .yieldNow => Sys2Proof.Machine.execYieldNow s
  | .clearYield => Sys2Proof.Machine.execClearYield s
  | .joinNow => Sys2Proof.Machine.execJoinNow s
  | .pairCfgWrite r v => Sys2Proof.Machine.execPairCfgWrite r v s
  | .ropeLinkCut => Sys2Proof.Machine.execRopeLinkCut s
  | .heartbeatSend => Sys2Proof.Machine.execHeartbeatSend s
  | .heartbeat lane rx next pAck => Sys2Proof.Machine.execHeartbeat lane rx next pAck s
  | .am lane tx rx skew ins del invalid => Sys2Proof.Machine.execAm lane tx rx skew ins del invalid s
  | .amSend => Sys2Proof.Machine.execAmSend s
  | .ack next nak pAck => Sys2Proof.Machine.execAck next nak pAck s
  | .ropeFrameBad sequenced cause => Sys2Proof.Machine.execRopeFrameBad sequenced cause s
  | .ropeReplayTimeout => Sys2Proof.Machine.execRopeReplayTimeout s
  | .yieldRepeat => Sys2Proof.Machine.execYieldRepeat s
  | .ropeLaneLost r lockLost invalid => Sys2Proof.Machine.execRopeLaneLost r lockLost invalid s
  | .blockLock r => Sys2Proof.Machine.execBlockLock r s
  | .signalDetect mask => Sys2Proof.Machine.execSignalDetect mask s
  | .ropeTrainDone r => Sys2Proof.Machine.execRopeTrainDone r s
  | .trainMsExpiry => Sys2Proof.Machine.execTrainMsExpiry s
  | .alignDone => Sys2Proof.Machine.execAlignDone s
  | .linkStateTimeout => Sys2Proof.Machine.execLinkStateTimeout s
  | .caps seq version member stepping lanes minLanes window next => Sys2Proof.Machine.execCaps seq version member stepping lanes minLanes window next s
  | .mailbox seq words => Sys2Proof.Machine.execMailbox seq words s
  | .ropeRetrain r => Sys2Proof.Machine.execRopeRetrain r s
  | .ropeRetrainResult r => Sys2Proof.Machine.execRopeRetrainResult r s
  | .ropeRestart => Sys2Proof.Machine.execRopeRestart s
  | .clearFailed => Sys2Proof.Machine.execClearFailed s
  | .mboxSend => Sys2Proof.Machine.execMboxSend s
  | .ethFrameReceive p good fr back corrected uncorr symbols => Sys2Proof.Machine.execEthFrameReceive p good fr back corrected uncorr symbols s
  | .anComplete p => Sys2Proof.Machine.execAnComplete p s
  | .ethAttemptTimeout p noAbility => Sys2Proof.Machine.execEthAttemptTimeout p noAbility s
  | .ethTrainDone p => Sys2Proof.Machine.execEthTrainDone p s
  | .linkUp p => Sys2Proof.Machine.execLinkUp p s
  | .linkDown p => Sys2Proof.Machine.execLinkDown p s
  | .retryMsExpiry p => Sys2Proof.Machine.execRetryMsExpiry p s
  | .laneModeNextWrite p v => Sys2Proof.Machine.execLaneModeNextWrite p v s
  | .subWrite p n source v => Sys2Proof.Machine.execSubWrite p n source v s
  | .hostTxRecord p => Sys2Proof.Machine.execHostTxRecord p s
  | .tsHostRecord c => Sys2Proof.Machine.execTsHostRecord c s
  | .enableQueue q => Sys2Proof.Machine.execEnableQueue q s
  | .disableQueue q => Sys2Proof.Machine.execDisableQueue q s
  | .disableComplete => Sys2Proof.Machine.execDisableComplete s
  | .setShaper q => Sys2Proof.Machine.execSetShaper q s
  | .returnQueue q => Sys2Proof.Machine.execReturnQueue q s
  | .frameHandoff => Sys2Proof.Machine.execFrameHandoff s
  | .frameTransmitStart p => Sys2Proof.Machine.execFrameTransmitStart p s
  | .frameTransmitEnd p back => Sys2Proof.Machine.execFrameTransmitEnd p back s
  | .gateSwap p => Sys2Proof.Machine.execGateSwap p s
  | .gateCancel p => Sys2Proof.Machine.execGateCancel p s
  | .gateSwapped p => Sys2Proof.Machine.execGateSwapped p s
  | .gateEntryChange p => Sys2Proof.Machine.execGateEntryChange p s
  | .adaptWindowEnd n density balance dPeak dTaps => Sys2Proof.Machine.execAdaptWindowEnd n density balance dPeak dTaps s
  | .laneRetrain n => Sys2Proof.Machine.execLaneRetrain n s
  | .freeze n => Sys2Proof.Machine.execFreeze n s
  | .unfreeze n => Sys2Proof.Machine.execUnfreeze n s
  | .snapshotBaseline n => Sys2Proof.Machine.execSnapshotBaseline n s
  | .injectSingle n => Sys2Proof.Machine.execInjectSingle n s
  | .injectBurst n => Sys2Proof.Machine.execInjectBurst n s
  | .esStart n => Sys2Proof.Machine.execEsStart n s
  | .esStop n => Sys2Proof.Machine.execEsStop n s
  | .esDone n errs => Sys2Proof.Machine.execEsDone n errs s
  | .ffeWrite n v => Sys2Proof.Machine.execFfeWrite n v s
  | .testCfgWrite n v => Sys2Proof.Machine.execTestCfgWrite n v s
  | .loopbackWrite n v => Sys2Proof.Machine.execLoopbackWrite n v s
  | .laneTrainDone n => Sys2Proof.Machine.execLaneTrainDone n s
  | .laneTrainFail n => Sys2Proof.Machine.execLaneTrainFail n s
  | .cdrLost n => Sys2Proof.Machine.execCdrLost n s
  | .memcRequest n fails => Sys2Proof.Machine.execMemcRequest n fails s
  | .refiExpiry n => Sys2Proof.Machine.execRefiExpiry n s
  | .refreshIssue n => Sys2Proof.Machine.execRefreshIssue n s
  | .mr4Poll n code => Sys2Proof.Machine.execMr4Poll n code s
  | .sensorSample temps volts implausible => Sys2Proof.Machine.execSensorSample temps volts implausible s
  | .applyDelays n => Sys2Proof.Machine.execApplyDelays n s
  | .probeStart n => Sys2Proof.Machine.execProbeStart n s
  | .stolenSlot n pass => Sys2Proof.Machine.execStolenSlot n pass s
  | .rrWindowEnd n => Sys2Proof.Machine.execRrWindowEnd n s
  | .shedWrite n k v => Sys2Proof.Machine.execShedWrite n k v s
  | .mtxBurstRequest master addr len data fence busy => Sys2Proof.Machine.execMtxBurstRequest master addr len data fence busy s
  | .ageLimitExpiry id => Sys2Proof.Machine.execAgeLimitExpiry id s
  | .flitCrcFail master addr attempt => Sys2Proof.Machine.execFlitCrcFail master addr attempt s
  | .wpWrite byLantern w r v => Sys2Proof.Machine.execWpWrite byLantern w r v s
  | .pageLineChange p => Sys2Proof.Machine.execPageLineChange p s
  | .swSet n => Sys2Proof.Machine.execSwSet n s
  | .swClr n => Sys2Proof.Machine.execSwClr n s
  | .srcCtrlWrite n r v => Sys2Proof.Machine.execSrcCtrlWrite n r v s
  | .intcRoute bad => Sys2Proof.Machine.execIntcRoute bad s
  | .claimRead t => Sys2Proof.Machine.execClaimRead t s
  | .eoi t n => Sys2Proof.Machine.execEoi t n s
  | .msixUnmask v err => Sys2Proof.Machine.execMsixUnmask v err s
  | .threadReady id => Sys2Proof.Machine.execThreadReady id s
  | .threadCreate id prio => Sys2Proof.Machine.execThreadCreate id prio s
  | .flowPost f => Sys2Proof.Machine.execFlowPost f s
  | .sumpFetch id ns uncorrectable => Sys2Proof.Machine.execSumpFetch id ns uncorrectable s
  | .commandRecord => Sys2Proof.Machine.execCommandRecord s
  | .nop tag => Sys2Proof.Machine.execNop tag s
  | .cmdRetrain tag => Sys2Proof.Machine.execCmdRetrain tag s
  | .memSweep tag => Sys2Proof.Machine.execMemSweep tag s
  | .eyeScan tag => Sys2Proof.Machine.execEyeScan tag s
  | .join tag => Sys2Proof.Machine.execJoin tag s
  | .fwLoad tag => Sys2Proof.Machine.execFwLoad tag s
  | .fwSwap tag => Sys2Proof.Machine.execFwSwap tag s
  | .coreStopped c => Sys2Proof.Machine.execCoreStopped c s
  | .swapTimeout => Sys2Proof.Machine.execSwapTimeout s
  | .selftest tag => Sys2Proof.Machine.execSelftest tag s
  | .cmdAbort tag => Sys2Proof.Machine.execCmdAbort tag s
  | .cmdTimeout tag => Sys2Proof.Machine.execCmdTimeout tag s
  | .cmdCfgWrite v => Sys2Proof.Machine.execCmdCfgWrite v s
  | .pcieLinkDown => Sys2Proof.Machine.execPcieLinkDown s
  | .hostRetrain => Sys2Proof.Machine.execHostRetrain s
  | .pcieLinkTrained lanes speed => Sys2Proof.Machine.execPcieLinkTrained lanes speed s
  | .bar2Access off len data => Sys2Proof.Machine.execBar2Access off len data s
  | .apertureWrite hi v => Sys2Proof.Machine.execApertureWrite hi v s
  | .tailWrite r v stores => Sys2Proof.Machine.execTailWrite r v stores s
  | .descriptorFetch r hostErr => Sys2Proof.Machine.execDescriptorFetch r hostErr s
  | .dmaDescComplete r => Sys2Proof.Machine.execDmaDescComplete r s
  | .recordOffer r source rec => Sys2Proof.Machine.execRecordOffer r source rec s
  | .coalTimeout r => Sys2Proof.Machine.execCoalTimeout r s
  | .powerOnReset => Sys2Proof.Machine.execPowerOnReset s
  | .pwrgoodFall => Sys2Proof.Machine.execPwrgoodFall s
  | .perstNRelease => Sys2Proof.Machine.execPerstNRelease s
  | .boot soundA soundB => Sys2Proof.Machine.execBoot soundA soundB s
  | .selftestComplete critical chambers decs clocks sites rails => Sys2Proof.Machine.execSelftestComplete critical chambers decs clocks sites rails s
  | .bringupComplete trained => Sys2Proof.Machine.execBringupComplete trained s
  | .bootWatchdog => Sys2Proof.Machine.execBootWatchdog s
  | .lanternWatchdog => Sys2Proof.Machine.execLanternWatchdog s
  | .hostWdtKick => Sys2Proof.Machine.execHostWdtKick s
  | .hostWdtExpired => Sys2Proof.Machine.execHostWdtExpired s
  | .writeSlot => Sys2Proof.Machine.execWriteSlot s
  | .activate trials => Sys2Proof.Machine.execActivate trials s
  | .norRead => Sys2Proof.Machine.execNorRead s
  | .mgmtRestart => Sys2Proof.Machine.execMgmtRestart s
  | .logEvent => Sys2Proof.Machine.execLogEvent s
  | .norRateRefill => Sys2Proof.Machine.execNorRateRefill s
  | .xmodemImage bytes => Sys2Proof.Machine.execXmodemImage bytes s
  | .consoleLoad slot => Sys2Proof.Machine.execConsoleLoad slot s
  | .taskReset => Sys2Proof.Machine.execTaskReset s
  | .sensClear v => Sys2Proof.Machine.execSensClear v s
  | .otHoldEnd => Sys2Proof.Machine.execOtHoldEnd s
  | .thermtrip => Sys2Proof.Machine.execThermtrip s
  | .governorStage => Sys2Proof.Machine.execGovernorStage s
  | .coolDelayExpiry => Sys2Proof.Machine.execCoolDelayExpiry s
  | .perstNAssert => Sys2Proof.Machine.execPerstNAssert s
  | .latchingRead a => Sys2Proof.Machine.execLatchingRead a s
  | .ppsInEdge => Sys2Proof.Machine.execPpsInEdge s
  | .ppsSeenLapse => Sys2Proof.Machine.execPpsSeenLapse s
  | .cdrLock n => Sys2Proof.Machine.execCdrLock n s
  | .checkerLock n => Sys2Proof.Machine.execCheckerLock n s
  | .checkerLost n bits errs => Sys2Proof.Machine.execCheckerLost n bits errs s
  | .rateInjection n => Sys2Proof.Machine.execRateInjection n s
  | .trainingFrame r pre main post preset => Sys2Proof.Machine.execTrainingFrame r pre main post preset s
  | .detectRetry => Sys2Proof.Machine.execDetectRetry s
  | .waitDeadlineCount id => Sys2Proof.Machine.execWaitDeadlineCount id s
  | .kernelEntry c op => Sys2Proof.Machine.execKernelEntry c op s
  | .mgmtOpDone sound norOk => Sys2Proof.Machine.execMgmtOpDone sound norOk s
  | .fwLoadDone tag ok version abi => Sys2Proof.Machine.execFwLoadDone tag ok version abi s
  | .chamberTestDone tag pass => Sys2Proof.Machine.execChamberTestDone tag pass s
  | .aerError correctable => Sys2Proof.Machine.execAerError correctable s

end Sys2Proof.Machine
end

