-- ==== Sys2Proof/Safety.lean ====
section
/-! DEFINITION. What a safe run is: the block never stops, and the memories and the register file keep their canonical form. -/

namespace Sys2Proof.Machine

/-- The canonical form of memory: addresses strictly rising, and no entry equal to what an unlisted address reads as. -/
def Memory.wf (m : Tab Byte) : Bool := Tab.wf (fun _ => memDefault) m

/-- The canonical form of a register file: addresses strictly rising, and no entry equal to the register's value at reset. -/
def Registers.wf (r : Tab Word) : Bool := Tab.wf resetVal r

/-- The canonical form of the NOR: no entry is an erased byte. -/
def Nor.wf (m : Tab Byte) : Bool := Tab.wf (fun _ => norDefault) m

/-- Device memory, host memory, the NOR, the registers and the live values behind latched registers are each in their canonical form, so
that equal contents are equal data. -/
def State.canonical (s : State) : Bool :=
  Memory.wf s.mem && Memory.wf s.hostMem && Registers.wf s.regs && Registers.wf s.hiLive && Nor.wf s.norMem

/-- A state from which the next step neither faults nor is refused, and keeps the canonical form. -/
def State.stepsSafely (s : State) : Prop := ∃ t, step s = .next t ∧ t.canonical = true

end Sys2Proof.Machine
end

