-- ==== Sys2Proof/Certificates/Slice0/Obligations.lean ====
section
/-! DEFINITION. The statements about the model, for the provers. -/

open Sys2Proof Sys2Proof.Machine

/-- A step at a state with a command in front is that command's exec on the state with the queue's rest (the row's form of a block:
  log entry 1). -/
def Obligations.StepRunsTheFrontCommand : Prop :=
  ∀ (c : Instr) (r : List Instr) (s : State), s.pending = c :: r → step s = exec c { s with pending := r }

/-- The tick on an empty queue is the model's choice (log entry 1); what a tick does follows R58, R61, R62 and R63. -/
def Obligations.EmptyQueueLetsTheClocksTick : Prop :=
  (∀ (s : State), s.pending = [] → s.boot.rootHeld = true → step s = .next s) ∧
  (∀ (s : State), s.pending = [] → s.boot.rootHeld = false → s.time.starting = false → s.running = false → (∀ n, n < 16 →
    (Tab.get .reset s.time.cmp n).fresh = false) → step s = .next
    { s with time := { s.time with root := s.time.root + 12, starting := false }, boot := { s.boot with ps := s.boot.ps + (if s.boot.mult = 240 then 1000 else 2000) } }) ∧
  (∀ (s : State), s.pending = [] → s.boot.rootHeld = false → s.time.starting = false → s.watch.clocksStopped = false → s.running
    = true → s.fld pTIME F.TIME.SLEW_REMAIN = 0 → s.time.acc.toNat + s.fld pTIME F.TIME.INCR < 2 ^ 88 → (∀ n, n < 16 → (Tab.get
    .reset s.time.cmp n).fresh = false) → step s = .next
    { s with time := { s.time with root := s.time.root + 12, starting := false, acc := BitVec.ofNat 88 (s.time.acc.toNat + s.fld pTIME F.TIME.INCR) }, boot := { s.boot with ps := s.boot.ps + (if s.boot.mult = 240 then 1000 else 2000) } }) ∧
  (∀ (s : State), s.canonical = true → s.pending = [] → s.boot.rootHeld = false → s.time.starting = true → s.running = false → (∀
    n, n < 16 → (Tab.get .reset s.time.cmp n).fresh = false) → step s = .next
    ((({ s with time := { s.time with root := s.time.root + 12, starting := false }, boot := { s.boot with ps := s.boot.ps + (if s.boot.mult = 240 then 1000 else 2000) } }
    : State).setFld pTIME F.TIME.TIME_STATUS_RUNNING 1).raise pTIME F.TIME.intLOADED).timers)

/-- The state right after reset (R8, R459); the values the spec gives none for are the log's entries 5 and 9. -/
def Obligations.ResetStateIsCanonicalAndIdle : Prop :=
  (State.reset.pending = []) ∧
  (State.reset.canonical = true) ∧
  (State.reset.phase = phReset ∧ State.reset.boot.porHeld = true ∧ State.reset.running = false) ∧
  (headerPages.all (fun p => alwaysOn p || State.reset.st p == stOff) = true)

/-- The invariant the other statements take as a premise; State.reset has it. -/
def Obligations.EveryStepKeepsTheCanonicalForm : Prop :=
  ∀ (s t : State), s.canonical = true → step s = .next t → t.canonical = true

/-- No behaviour of this block is a fault or a refusal: the spec gives every command an effect in every state (NOTES.md, Stops). -/
def Obligations.NoCommandStopsOrTouchesTheQueue : Prop :=
  (∀ (c : Instr) (s : State), (∃ t, exec c s = .next t)) ∧
  (∀ (c : Instr) (s t : State), s.canonical = true → exec c s = .next t → t.pending = s.pending)

/-- What the operation under every register effect does (R5, R6). -/
def Obligations.FieldWritesReachOneFieldOnly : Prop :=
  (∀ (s : State) (p v : Nat) (f : Fld), s.canonical = true → f.lo + f.w ≤ 32 → (s.setFld p f v).fld p f = v % 2 ^ f.w) ∧
  (∀ (s : State) (p v : Nat) (f g : Fld), s.canonical = true → f.lo + f.w ≤ 32 → g.off = f.off → (g.lo + g.w ≤ f.lo ∨ f.lo + f.w
    ≤ g.lo) → (s.setFld p f v).fld p g = s.fld p g) ∧
  (∀ (s : State) (p v a : Nat) (f : Fld), s.canonical = true → a ≠ f.addr p → (s.setFld p f v).reg a = s.reg a) ∧
  (∀ (s : State) (p v a : Nat) (f : Fld), (s.setFld p f v).byte a = s.byte a ∧ (s.setFld p f v).hostByte a = s.hostByte a ∧
    (s.setFld p f v).norByte a = s.norByte a)

/-- What the operations under every command that stores do; byte i of a list stands at address a + i (R9), and an erased byte of the
  NOR reads 0xFF (R461). -/
def Obligations.StoresReachTheirBytesOnly : Prop :=
  (∀ (s : State) (a b : Nat) (bs : List Byte), s.canonical = true → a ≤ b → b < a + bs.length → (s.storeBytes a bs).byte b =
    bs.getD (b - a) 0) ∧
  (∀ (s : State) (a b : Nat) (bs : List Byte), s.canonical = true → (b < a ∨ a + bs.length ≤ b) → (s.storeBytes a bs).byte b =
    s.byte b) ∧
  (∀ (s : State) (a b : Nat) (bs : List Byte), s.canonical = true → a ≤ b → b < a + bs.length → (s.hostStore a bs).hostByte b =
    bs.getD (b - a) 0) ∧
  (∀ (s : State) (a b : Nat) (bs : List Byte), s.canonical = true → (b < a ∨ a + bs.length ≤ b) → (s.hostStore a bs).hostByte b =
    s.hostByte b) ∧
  (∀ (s : State) (a b : Nat) (bs : List Byte), s.canonical = true → a ≤ b → b < a + bs.length → (s.norProgram a bs).norByte b =
    bs.getD (b - a) 0) ∧
  (∀ (s : State) (a b : Nat) (bs : List Byte), s.canonical = true → (b < a ∨ a + bs.length ≤ b) → (s.norProgram a bs).norByte b =
    s.norByte b) ∧
  (∀ (s : State) (a b n : Nat), s.canonical = true → a ≤ b → b < a + n → (s.norErase a n).norByte b = norDefault) ∧
  (∀ (s : State) (a b n : Nat), s.canonical = true → (b < a ∨ a + n ≤ b) → (s.norErase a n).norByte b = s.norByte b)

/-- GOVERNOR_STAGE and COOL_DELAY_EXPIRY (R494, R497). -/
def Obligations.GovernorStagesWakeAndCool : Prop :=
  (∀ (s : State) (d : Nat), s.canonical = true → s.works pPWR = true → s.watch.clocksStopped = false → s.wakeLeft + s.coolLeft >
    0 → s.core ≥ s.pwr.lastStage + 60 → govDomains.find? (fun d => s.govWanted d && decide (s.govLevel d < govStages d)) = some
    d → ∃ t, exec .governorStage s = .next t ∧ t.pwr.level = Tab.set 0 s.pwr.level d (s.govLevel d + 1) ∧ t.pwr.lastStage =
    s.core ∧ t.pwr.want = s.pwr.want ∧ t.mem = s.mem ∧ ∀ a, pageOf a ≠ pPWR → t.reg a = s.reg a) ∧
  (∀ (s : State) (d : Nat), s.canonical = true → s.works pPWR = true → s.watch.clocksStopped = false → s.wakeLeft + s.coolLeft >
    0 → s.core ≥ s.pwr.lastStage + 60 → govDomains.find? (fun d => s.govWanted d && decide (s.govLevel d < govStages d)) = none
    → govDomains.reverse.find? (fun d => !s.govWanted d && decide (0 < s.govLevel d)) = some d → ∃ t, exec .governorStage s =
    .next t ∧ t.pwr.level = Tab.set 0 s.pwr.level d (s.govLevel d - 1) ∧ t.pwr.lastStage = s.core ∧ t.mem = s.mem ∧ ∀ a, pageOf
    a ≠ pPWR → t.reg a = s.reg a) ∧
  (∀ (s : State) (t0 : Nat), s.works pPWR = true → s.pwr.idleSince = some t0 → s.boot.ps ≥ t0 + s.fld pPWR
    F.PWR.GOV_CFG_COOL_DELAY_MS * 1000000000 → s.pictureIdle = true → s.bit pPWR F.PWR.GOV_CFG_HOLD_WARM = false → exec
    .coolDelayExpiry s = .next (((List.range 20).foldl (fun t d => t.govWant d false) s).govShow))

/-- The periodic work of a MEMC page. -/
def Obligations.MemcRefreshAndTemperature : Prop :=
  (∀ (s : State) (n : Nat), n < 16 → s.works (pMEMC n) = true → s.memck ≥ (s.memcOf n).refiAt + s.refi n → exec (.refiExpiry n) s
    = .next ((s.setMemc n { s.memcOf n with refiAt := (s.memcOf n).refiAt + s.refi n }).addSat (pMEMC n) F.MEMC.MEMC_STATUS_OWED
    1)) ∧
  (∀ (s : State) (n : Nat), n < 16 → s.works (pMEMC n) = true → s.fld (pMEMC n) F.MEMC.MEMC_STATUS_OWED > 0 → s.requestWaits n =
    false → s.bit (pMEMC n) F.MEMC.MEMC_STATUS_APPLY_PENDING = false → s.canonical = true → exec (.refreshIssue n) s = .next
    (s.setFld (pMEMC n) F.MEMC.MEMC_STATUS_OWED (s.fld (pMEMC n) F.MEMC.MEMC_STATUS_OWED - 1))) ∧
  (∀ (s : State) (n code : Nat), n < 16 → s.works (pMEMC n) = true → s.boot.ps ≥ (s.memcOf n).pollAt → code ≠ 0 → exec (.mr4Poll
    n code) s = .next ((s.setMemc n
    { s.memcOf n with pollAt := (s.memcOf n).pollAt + (s.memcOf n).pollGap, pollGap := s.fld (pMEMC n) F.MEMC.REF_CFG_POLL_MS * 1000000000, mr4Bad := 0, mr4Hot := decide (code ≥ 2), mr4Quarter := decide (code = 3) }).memcTemp
    n)) ∧
  (∀ (s : State) (n : Nat), n < 16 → s.works (pMEMC n) = true → s.boot.ps ≥ (s.memcOf n).pollAt → (s.memcOf n).mr4Bad = 0 → exec
    (.mr4Poll n 0) s = .next (s.setMemc n
    { s.memcOf n with pollAt := (s.memcOf n).pollAt + (s.memcOf n).pollGap, pollGap := s.fld (pMEMC n) F.MEMC.REF_CFG_POLL_MS * 1000000000, mr4Bad := 1 })) ∧
  (∀ (s : State) (n : Nat), n < 16 → s.works (pMEMC n) = true → s.fabric ≥ (s.memcOf n).windowAt + 1048576 → (s.memcOf n).rereads
    ≤ s.fld (pMEMC n) F.MEMC.RR_CFG_RR_LIMIT → exec (.rrWindowEnd n) s = .next (((s.setFld (pMEMC n) F.MEMC.RR_STATUS_COUNT (min
    (s.memcOf n).rereads 65535)).setMemc n { s.memcOf n with rereads := 0, windowAt := (s.memcOf n).windowAt + 1048576 }).setFld
    (pMEMC n) F.MEMC.MEMC_STATUS_HIGH_WINDOWS 0))

/-- APPLY, PROBE_START, the stolen slots and SHED (R375, R376, R388). -/
def Obligations.MemcDelaysAndProbes : Prop :=
  (∀ (s : State) (n : Nat), n < 16 → s.bar (pMEMC n) = true → s.nextInRange n = true → s.bit (pMEMC n)
    F.MEMC.MEMC_STATUS_APPLY_PENDING = false → exec (.applyDelays n) s = .next ((s.setFld (pMEMC n)
    F.MEMC.MEMC_STATUS_APPLY_PENDING 1).opBegin (pMEMC n) 5)) ∧
  (∀ (s : State) (n : Nat), n < 16 → s.bar (pMEMC n) = true → s.nextInRange n = true → s.bit (pMEMC n)
    F.MEMC.MEMC_STATUS_APPLY_PENDING = true → exec (.applyDelays n) s = .next (s.refuse (pMEMC n) Cls.conflict 0x13)) ∧
  (∀ (s : State) (n : Nat), n < 16 → s.bar (pMEMC n) = true → (s.memcOf n).probeLeft = 0 → exec (.probeStart n) s = .next
    (((s.setFld (pMEMC n) F.MEMC.PROBE_RESULT 0).setMemc n
    { s.memcOf n with probeLeft := s.fld (pMEMC n) F.MEMC.PROBE_CFG_SLOTS, slotAt := s.boot.ps, probeWrote := false, probeAbort := false }).opBegin
    (pMEMC n) 6)) ∧
  (∀ (s : State) (n : Nat) (pass : Bool), n < 16 → (s.memcOf n).probeLeft > 1 → s.boot.ps ≥ (s.memcOf n).slotAt + s.fld (pMEMC n)
    F.MEMC.STEAL_CFG_STEAL_NS * 1000 → s.bit (pMEMC n) F.MEMC.PROBE_CFG_DIR = false → (s.memcOf n).probeAbort = false → exec
    (.stolenSlot n pass) s = .next ((s.addSat (pMEMC n) (if pass then F.MEMC.PROBE_RESULT_PASS else F.MEMC.PROBE_RESULT_FAIL)
    1).setMemc n
    { s.memcOf n with probeLeft := (s.memcOf n).probeLeft - 1, slotAt := s.boot.ps, probeWrote := false, probeAbort := false })) ∧
  (∀ (s : State) (n : Nat) (pass : Bool), n < 16 → (s.memcOf n).probeLeft = 1 → s.boot.ps ≥ (s.memcOf n).slotAt + s.fld (pMEMC n)
    F.MEMC.STEAL_CFG_STEAL_NS * 1000 → s.bit (pMEMC n) F.MEMC.PROBE_CFG_DIR = false → (s.memcOf n).probeAbort = false → exec
    (.stolenSlot n pass) s = .next ((((s.addSat (pMEMC n) (if pass then F.MEMC.PROBE_RESULT_PASS else F.MEMC.PROBE_RESULT_FAIL)
    1).setMemc n { s.memcOf n with probeLeft := 0, slotAt := s.boot.ps, probeWrote := false, probeAbort := false }).raise (pMEMC
    n) F.MEMC.intPROBE_DONE).opEndOf (pMEMC n) 6 opCompleted)) ∧
  (∀ (s : State) (k : Nat) (v : Word), k < 16 → s.bar (pMEMC 0) = true → (∀ j, j < 4 → shedEntryOk (v.toNat / 256 ^ j % 256) =
    true) → exec (.shedWrite 0 k v) s = .next (s.setReg ((F.MEMC.SHED k).addr (pMEMC 0)) v)) ∧
  (∀ (s : State) (n k : Nat) (v : Word), n ≠ 0 → s.bar (pMEMC n) = true → exec (.shedWrite n k v) s = .next s)

/-- The matrix in motion and the write-protection windows. -/
def Obligations.MatrixQueuesBurstsAndErrors : Prop :=
  (∀ (s : State) (master addr len : Nat) (data : Option (List Byte)) (fence : Bool), s.targetOf addr ≠ 63 → allowed master
    (s.targetOf addr) = true → exec (.mtxBurstRequest master addr len data fence true) s = .next
    (({ s.matrixAge with mtx := { s.matrixAge.mtx with waiting := s.matrixAge.mtx.waiting ++ [({ id := s.mtx.nextId, master := master, target := s.targetOf addr, addr := addr, len := min len (256 - addr % 256), data := data.map (·.take (min len (256 - addr % 256))), fence := fence, since := s.fabric, aged := false } : Burst)], nextId := s.matrixAge.mtx.nextId + 1 } }
    : State).tookFree)) ∧
  (∀ (s : State) (master addr len : Nat) (data : Option (List Byte)) (fence busy : Bool), s.targetOf addr = 63 → exec
    (.mtxBurstRequest master addr len data fence busy) s = .next (s.decodeError master addr)) ∧
  (∀ (s : State) (b : Burst), s.mtx.waiting = [b] → s.mtx.outstanding = [] → s.fabric ≥ b.since + s.fld pMTX
    F.MTX.MTX_CFG_AGE_LIMIT → b.fence = false → b.aged = false → exec (.ageLimitExpiry b.id) s = .next
    { s with mtx := { s.mtx with waiting := [{ b with aged := true }] } }) ∧
  (∀ (s : State) (master addr attempt : Nat), attempt < 4 → exec (.flitCrcFail master addr attempt) s = .next (((s.err pMTX
    0).err pMTX 1).raise pMTX F.MTX.intREPLAY)) ∧
  (∀ (s : State) (n : Nat) (b : Burst) (fails : List Nat), n < 16 → s.works (pMEMC n) = true → s.memcBusy n = false →
    s.mtx.waiting = [] → s.requestWaits n = true → s.nextRequest n = some b → b.data = none → ∃ t, exec (.memcRequest n fails) s
    = .next t ∧ t.readData = leNat (s.loadBytes b.addr b.len) ∧ t.mtx.outstanding = s.mtx.outstanding.filter (·.id != b.id) ∧
    t.mtx.waiting = [] ∧ t.mem = s.mem ∧ t.hostMem = s.hostMem) ∧
  (∀ (s : State) (w r : Nat) (v : Word) (row : RegRow), w < 4 → r < 5 → s.bit pMTX (F.MTX.WP_CTRL_LOCK w) = false → rowAt (pMTX *
    0x1000 + 0x200 + w * 0x20 + r * 4) = some row → exec (.wpWrite true w r v) s = .next (s.setReg (pMTX * 0x1000 + 0x200 + w *
    0x20 + r * 4) (row.written (s.reg (pMTX * 0x1000 + 0x200 + w * 0x20 + r * 4)) v))) ∧
  (∀ (s : State) (w r : Nat) (v : Word), w < 4 → r < 6 → s.bar pMTX = true → exec (.wpWrite false w r v) s = .next (s.reason pMTX
    Cls.locked 0x07))

/-- The DMA rings (R445 to R452). -/
def Obligations.DmaRingsFetchCompleteAndOffer : Prop :=
  (∀ (s : State) (r : Nat) (v : Word), s.bar (pDMA r) = true → sub32 v.toNat (s.fld (pDMA r) F.DMA.DONE) ≤ s.ringSize r → sub32
    v.toNat (s.fld (pDMA r) F.DMA.DONE) ≥ sub32 (s.fld (pDMA r) F.DMA.TAIL) (s.fld (pDMA r) F.DMA.DONE) → exec (.tailWrite r v
    []) s = .next (s.setReg (F.DMA.TAIL.addr (pDMA r)) v)) ∧
  (∀ (s : State) (r : Nat) (v : Word) (l : List (Nat × List Byte)), s.bar (pDMA r) = true → sub32 v.toNat (s.fld (pDMA r)
    F.DMA.DONE) > s.ringSize r → exec (.tailWrite r v l) s = .next ((l.foldl (fun t e => t.hostStore e.1 e.2) s).reason (pDMA r)
    Cls.range 0x11)) ∧
  (∀ (s : State) (r : Nat) (e : Bool), s.isOn (pDMA r) = true → toDevice (s.fld (pDMA r) F.DMA.RING_CFG_ROLE) = true → (s.ringOf
    r).fetched.length < 8 → s.fld (pDMA r) F.DMA.HEAD ≠ s.fld (pDMA r) F.DMA.TAIL → exec (.descriptorFetch r e) s = .next
    ((s.setRing r { s.ringOf r with fetched := (s.ringOf r).fetched ++ [s.descriptor r (s.fld (pDMA r) F.DMA.HEAD) e] }).incFld
    (pDMA r) F.DMA.HEAD)) ∧
  (∀ (s : State) (r : Nat) (d : DmaDesc) (l : List DmaDesc), s.works (pDMA r) = true → (s.ringOf r).fetched = d :: l → d.invalid
    = true → exec (.dmaDescComplete r) s = .next (((((s.setRing r { s.ringOf r with fetched := l }).raise (pDMA r)
    F.DMA.intDESC_ERR).setRing r
    { ((s.setRing r { s.ringOf r with fetched := l }).raise (pDMA r) F.DMA.intDESC_ERR).ringOf r with inRecord := true, discard := true, part := [] }).err
    (pDMA r) 1).complete r d.count d.sop d.eop 3 0 d.tag 0 d.irq)) ∧
  (∀ (s : State) (r : Nat) (d : DmaDesc) (l : List DmaDesc), s.works (pDMA r) = true → (s.ringOf r).fetched = d :: l → d.invalid
    = false → d.hostErr = false → s.fld (pDMA r) F.DMA.RING_CFG_ROLE ≠ 3 → d.sop = false → d.eop = false → (s.ringOf r).inRecord
    = true → (s.ringOf r).discard = false → exec (.dmaDescComplete r) s = .next (((s.setRing r
    { s.ringOf r with fetched := l }).setRing r
    { (s.setRing r { s.ringOf r with fetched := l }).ringOf r with inRecord := true, discard := false, part := (s.ringOf r).part ++ d.bytes, guarded := (s.ringOf r).guarded }).complete
    r d.count false false 0 d.len d.tag 0 d.irq)) ∧
  (∀ (s : State) (r source : Nat) (rec : List Byte), r < 256 → s.isOn (pDMA r) = true → toDevice (s.fld (pDMA r)
    F.DMA.RING_CFG_ROLE) = false → s.chkOf r = none → s.roomFor r (sub32 (s.fld (pDMA r) F.DMA.TAIL) (s.fld (pDMA r)
    F.DMA.HEAD)) rec.length (s.fld (pDMA r) F.DMA.HEAD) = none → rec.length ≤ s.ringSize r * 65536 → exec (.recordOffer r source
    rec) s = .next ((s.raise (pDMA r) F.DMA.intNO_ROOM).err (pDMA r) 0)) ∧
  (∀ (s : State) (r source : Nat) (rec : List Byte) (ds : List DmaDesc), r < 256 → s.isOn (pDMA r) = true → toDevice (s.fld (pDMA
    r) F.DMA.RING_CFG_ROLE) = false → s.chkOf r = none → s.roomFor r (sub32 (s.fld (pDMA r) F.DMA.TAIL) (s.fld (pDMA r)
    F.DMA.HEAD)) rec.length (s.fld (pDMA r) F.DMA.HEAD) = some ds → exec (.recordOffer r source rec) s = .next (s.fillBuffers r
    source true ds rec)) ∧
  (∀ (s : State) (r source c : Nat) (rec : List Byte) (ds : List DmaDesc), r < 256 → s.isOn (pDMA r) = true → toDevice (s.fld
    (pDMA r) F.DMA.RING_CFG_ROLE) = false → s.chkOf r = some c → s.fld (pDMA r) F.DMA.RING_CFG_ROLE = 8 → (s.chkAppend c
    rec).1.roomFor r (sub32 (s.fld (pDMA r) F.DMA.TAIL) (s.fld (pDMA r) F.DMA.HEAD)) (s.chkAppend c rec).2.length (s.fld (pDMA
    r) F.DMA.HEAD) = some ds → exec (.recordOffer r source rec) s = .next ((s.chkAppend c rec).1.fillBuffers r source true ds
    (s.chkAppend c rec).2)) ∧
  (∀ (s : State) (r source : Nat) (rec : List Byte), (toDevice (s.fld (pDMA r) F.DMA.RING_CFG_ROLE) = true ∨ s.isOn (pDMA r) =
    false) → exec (.recordOffer r source rec) s = .next s) ∧
  (∀ (s : State) (r source : Nat) (first : Bool) (d : DmaDesc) (rec : List Byte), d.invalid = false → s.fillBuffers r source
    first [d] rec = ((s.incFld (pDMA r) F.DMA.HEAD).hostStore d.hostAddr (rec.take d.len)).complete r d.count first true 0
    (rec.take d.len).length d.tag source d.irq) ∧
  (∀ (s : State) (r t0 : Nat), (s.ringOf r).oldest = some t0 → s.fld (pDMA r) F.DMA.COAL_TIME_US ≠ 0 → s.now ≥ t0 + s.fld (pDMA
    r) F.DMA.COAL_TIME_US * 1000 → exec (.coalTimeout r) s = .next ((s.setRing r
    { s.ringOf r with sinceCpl := 0, oldest := none }).raise (pDMA r) F.DMA.intCPL))

/-- HOST: the PCI Express link and the apertures. -/
def Obligations.HostLinkAndApertureCommands : Prop :=
  (∀ (s : State), s.bar pHOST = true → s.bit pHOST F.HOST.LINK_STATUS_RETRAINING = false → exec .hostRetrain s = .next
    ((List.range 8).foldl State.hostLaneTrain (s.setFld pHOST F.HOST.LINK_STATUS_RETRAINING 1))) ∧
  (∀ (s : State), s.bar pHOST = true → s.bit pHOST F.HOST.LINK_STATUS_RETRAINING = true → exec .hostRetrain s = .next (s.refuse
    pHOST Cls.conflict 0x11)) ∧
  (∀ (s u : State) (lanes speed w : Nat), s.boot.pcieTraining = true → s.boot.rootHeld = false → 1 ≤ speed → speed ≤ 5 → w =
    linkWidth (s.hostWorking lanes) → u = ((List.range 8).foldl (fun t i => t.hostLaneTrained w (s.hostWorking lanes) i)
    (s.setFld pHOST F.HOST.LINK_STATUS_RETRAINING 0)) → w = 0 → exec (.pcieLinkTrained lanes speed) s = .next u) ∧
  (∀ (s u : State) (lanes speed w : Nat), s.boot.pcieTraining = true → s.boot.rootHeld = false → 1 ≤ speed → speed ≤ 5 → w =
    linkWidth (s.hostWorking lanes) → u = ((List.range 8).foldl (fun t i => t.hostLaneTrained w (s.hostWorking lanes) i)
    (s.setFld pHOST F.HOST.LINK_STATUS_RETRAINING 0)) → w ≠ 0 → exec (.pcieLinkTrained lanes speed) s = .next (u.hostLinkAt w
    speed)) ∧
  (∀ (s : State) (lanes speed : Nat), (s.boot.pcieTraining = false ∨ s.boot.rootHeld = true ∨ speed = 0 ∨ 5 < speed) → exec
    (.pcieLinkTrained lanes speed) s = .next s) ∧
  (∀ (s : State) (w lanes i : Nat), s.hostLaneWorks i = true → i < w → s.laneState (hostLane i) = laTrain → s.hostLaneTrained w
    lanes i = (s.ffeTrained (hostLane i) true).laneTrained (hostLane i)) ∧
  (∀ (s : State) (w lanes i : Nat), s.hostLaneWorks i = true → w ≤ i → s.laneState (hostLane i) = laTrain → hasLane lanes i =
    false → s.hostLaneTrained w lanes i = s.laneTrainFailed (hostLane i) true) ∧
  (∀ (s u : State) (w speed : Nat), s.bit pHOST F.HOST.LINK_STATUS_DL_UP = false → s.fld pHOST F.HOST.LINK_STATUS_WIDTH = 0 →
    s.fld pHOST F.HOST.LINK_STATUS_SPEED = 0 → u = (((((s.setFld pHOST F.HOST.LINK_STATUS_WIDTH w).setFld pHOST
    F.HOST.LINK_STATUS_SPEED speed).setFld pHOST F.HOST.LANES_OK (2 ^ w - 1)).setFld pHOST F.HOST.LINK_STATUS_DL_UP 1).raise
    pHOST F.HOST.intLINK_UP) → s.hostLinkAt w speed = (List.range 64).foldl (fun t v => t.msixLaunch v false) u) ∧
  (∀ (s : State) (off len : Nat), s.served pHOST = true → s.readStatus mHOST_IN (s.addr36 pHOST F.HOST.APERTURE_BASE_LO + off)
    len = .ok → ∃ t, exec (.bar2Access off len none) s = .next t ∧ t.readData = leNat (s.loadBytes (s.addr36 pHOST
    F.HOST.APERTURE_BASE_LO + off) len) ∧ t.mem = s.mem ∧ t.regs = s.regs) ∧
  (∀ (s : State) (off len : Nat) (bs : List Byte), s.bit pHOST F.HOST.HOST_CFG_AP_WRITE_EN = false → exec (.bar2Access off len
    (some bs)) s = .next s) ∧
  (∀ (s : State) (v : Word), s.bar pHOST = true → v.toNat % 2 ^ 28 = 0 → exec (.apertureWrite false v) s = .next (s.setReg
    (F.HOST.APERTURE_BASE_LO.addr pHOST) v)) ∧
  (∀ (s : State) (v : Word), s.bar pHOST = true → v.toNat % 2 ^ 28 ≠ 0 → exec (.apertureWrite false v) s = .next (s.reason pHOST
    Cls.range 0x12)) ∧
  (∀ (s : State), exec (.aerError true) s = .next ((s.raise pHOST F.HOST.intAER_CORR).err pHOST 0) ∧ exec (.aerError false) s =
    .next ((s.raise pHOST F.HOST.intAER_UNCORR).err pHOST 1)) ∧
  (∀ (s : State), ∃ t, exec .pcieLinkDown s = .next t ∧ t.mem = s.mem ∧ t.hostMem = s.hostMem ∧ t.pages = ((List.range 256).foldl
    (fun t r => t.ringOff r) s).pages)

/-- R413, whole. -/
def Obligations.ClaimPushesTheSourceOnTheStack : Prop :=
  (∀ (s : State) (t n : Nat), t < 73 → (s.bar pINTC = true ∨ 64 ≤ t) → s.claimSource t = some n → ∃ u, exec (.claimRead t) s =
    .next u ∧ u.stack t = (n, s.srcPrio n) :: s.stack t ∧ u.readData = n + s.srcPrio n * 0x1000 + (!isSoft n && !s.srcLine
    n).toNat * 0x10000 + (isSoft n).toNat * 0x20000) ∧
  (∀ (s : State) (t prio n p : Nat) (rest : List (Nat × Nat)), s.stack t = (n, p) :: rest → (s.runsBelow t prio = true ↔ p <
    prio)) ∧
  (∀ (s : State) (t prio : Nat), s.stack t = [] → s.runsBelow t prio = true)

/-- INTC beside CLAIM. -/
def Obligations.InterruptSourcesAndTargets : Prop :=
  (∀ (s : State) (n : Nat), s.bar pINTC = true → isSoft n = true → s.srcState n = siIdle → exec (.swSet n) s = .next ((s.setFld
    pST (F.SRCTAB.SRC_CTRL_PEND n) 1).srcTo n siPending)) ∧
  (∀ (s : State) (n : Nat), s.bar pINTC = true → isSoft n = true → s.srcState n = siPending → exec (.swClr n) s = .next
    ((s.setFld pST (F.SRCTAB.SRC_CTRL_PEND n) 0).srcTo n siIdle)) ∧
  (∀ (s : State) (n : Nat), s.bar pINTC = true → n < 0x400 → exec (.swSet n) s = .next s.swReject ∧ exec (.swClr n) s = .next
    s.swReject) ∧
  (∀ (s : State) (p : Nat), p < 0x400 → s.works pINTC = true → s.srcLine p = true → s.bit pST (F.SRCTAB.SRC_CTRL_PEND p) = false
    → s.srcState p = siIdle → exec (.pageLineChange p) s = .next ((s.setFld pST (F.SRCTAB.SRC_CTRL_PEND p) 1).srcTo p siPending)) ∧
  (∀ (s : State) (n : Nat) (v : Word), s.bar pINTC = true → n < 0x7FF → isSoft n = true → v.toNat % 2 = 0 → s.srcState n =
    siCommitted → exec (.srcCtrlWrite n 0 v) s = .next (((s.setFld pST (F.SRCTAB.SRC_CTRL_ENABLE n) 0).setFld pST
    (F.SRCTAB.SRC_CTRL_PRIO n) ((F.SRCTAB.SRC_CTRL_PRIO n).of v)).srcTo n siPending)) ∧
  (∀ (s : State) (bad : List Nat), s.intc.routedAt = some s.fabric → exec (.intcRoute bad) s = .next s) ∧
  (∀ (s u : State) (bad : List Nat) (n : Nat), s.works pINTC = true → s.intc.routedAt ≠ some s.fabric → (∀ m, m ∈ allSources →
    s.srcState m ≠ siCommitted) → u = { s with intc := { s.intc with routedAt := some s.fabric } } → u.urgent u.routable = some
    n → (u.routeOne bad n).urgent (u.routeOne bad n).routable = none → exec (.intcRoute bad) s = .next (u.routeOne bad n)) ∧
  (∀ (s : State) (t n p : Nat) (rest : List (Nat × Nat)), t < 73 → (s.bar pINTC = true ∨ 64 ≤ t) → n < 2048 → s.stack t = (n, p)
    :: rest → exec (.eoi t n) s = .next ((s.setStack t rest).resample n)) ∧
  (∀ (s : State) (t n : Nat), t < 73 → (s.bar pINTC = true ∨ 64 ≤ t) → s.stack t = [] → exec (.eoi t n) s = .next ((s.raise pINTC
    F.INTC.intEOI_EMPTY).err pINTC 1)) ∧
  (∀ (s u : State) (v : Nat) (e : Bool), s.bar pHOST = true → v < 64 → u = s.setFld pHOST (F.HOST.MSIX_CTRL_MASK v) 0 → (u.bit
    pHOST (pbaBit v) = false ∨ u.vecMasked v = true) → exec (.msixUnmask v e) s = .next u) ∧
  (∀ (s u : State) (v : Nat) (e : Bool), s.bar pHOST = true → v < 64 → u = s.setFld pHOST (F.HOST.MSIX_CTRL_MASK v) 0 → u.bit
    pHOST (pbaBit v) = true → u.vecMasked v = false → exec (.msixUnmask v e) s = .next ((u.setFld pHOST (pbaBit v)
    0).raiseTarget v (if e then [v] else [])))

/-- INCR_WRITE, SLEW_INCR_WRITE, SLEW_START and SLEW_DONE (R63, R69, R70). -/
def Obligations.IncrementsAndSlews : Prop :=
  (∀ (s : State) (v : Word), s.bar pTIME = true → (v.toNat < 0x00800000 ∨ 0x02000000 < v.toNat) → exec (.incrWrite v) s = .next
    (s.reason pTIME Cls.range 0x10) ∧ exec (.slewIncrWrite v) s = .next (s.reason pTIME Cls.range 0x10)) ∧
  (∀ (s : State) (v : Word), s.bar pTIME = true → s.allGrpOff = false → 0x00800000 ≤ v.toNat → v.toNat ≤ 0x02000000 → (v.toNat <
    0x00FFE000 ∨ 0x01002000 < v.toNat) → exec (.incrWrite v) s = .next (s.reason pTIME Cls.timing 0x11) ∧ exec (.slewIncrWrite
    v) s = .next (s.reason pTIME Cls.timing 0x11)) ∧
  (∀ (s : State) (v : Word), s.bar pTIME = true → 0x00800000 ≤ v.toNat → v.toNat ≤ 0x02000000 → (s.allGrpOff = true ∨ (0x00FFE000
    ≤ v.toNat ∧ v.toNat ≤ 0x01002000)) → s.fld pTIME F.TIME.SLEW_REMAIN = 0 → exec (.incrWrite v) s = .next (s.setFld pTIME
    F.TIME.INCR v.toNat)) ∧
  (∀ (s : State) (v : Word), s.bar pTIME = true → 0x00800000 ≤ v.toNat → v.toNat ≤ 0x02000000 → (s.allGrpOff = true ∨ (0x00FFE000
    ≤ v.toNat ∧ v.toNat ≤ 0x01002000)) → s.fld pTIME F.TIME.SLEW_REMAIN > 0 → exec (.incrWrite v) s = .next
    { s with time := { s.time with incrPending := some v } }) ∧
  (∀ (s : State) (v : Word), s.bar pTIME = true → 0x00800000 ≤ v.toNat → v.toNat ≤ 0x02000000 → (s.allGrpOff = true ∨ (0x00FFE000
    ≤ v.toNat ∧ v.toNat ≤ 0x01002000)) → exec (.slewIncrWrite v) s = .next (s.setFld pTIME F.TIME.SLEW_INCR v.toNat)) ∧
  (∀ (s : State), s.bar pTIME = true → s.works pTIME = true → (s.allGrpOff = true ∨ incrInWindow (s.fld pTIME F.TIME.SLEW_INCR) =
    true) → s.fld pTIME F.TIME.SLEW_TICKS > 0 → (s.running = false ∨ s.fld pTIME F.TIME.SLEW_REMAIN ≠ 1) → exec .slewStart s =
    .next ((s.setFld pTIME F.TIME.SLEW_REMAIN (s.fld pTIME F.TIME.SLEW_TICKS)).setFld pTIME F.TIME.TIME_STATUS_SLEW_ACTIVE 1)) ∧
  (∀ (s : State), s.bar pTIME = true → s.works pTIME = true → (s.allGrpOff = true ∨ incrInWindow (s.fld pTIME F.TIME.SLEW_INCR) =
    true) → s.running = true → s.fld pTIME F.TIME.SLEW_REMAIN = 1 → exec .slewStart s = .next
    { s with time := { s.time with slewNext := some (s.fld pTIME F.TIME.SLEW_TICKS) } }) ∧
  (∀ (s : State), s.time.slewEnded = true → exec .slewDone s = .next ((({ s with time := { s.time with slewEnded := false } } :
    State)).raise pTIME F.TIME.intSLEW_DONE)) ∧
  (∀ (s : State) (v : Word), s.canonical = true → s.pending = [] → s.boot.rootHeld = false → s.time.starting = false →
    s.watch.clocksStopped = false → s.running = true → s.fld pTIME F.TIME.SLEW_REMAIN = 1 → s.time.incrPending = some v → (∀ n,
    n < 16 → (Tab.get .reset s.time.cmp n).fresh = false) → ∃ t, step s = .next t ∧ t.fld pTIME F.TIME.INCR = v.toNat ∧
    t.time.incrPending = none ∧ t.time.slewEnded = true ∧ t.fld pTIME F.TIME.SLEW_REMAIN = s.time.slewNext.getD 0 % 2 ^ 32 ∧
    t.mem = s.mem)

/-- LOAD_WRITE, TIME_LOAD_AT_PPS, PPS_IN_EDGE, PPS_SEEN_LAPSE and TIME_STOP (R65 to R68). -/
def Obligations.CounterLoadsOnlyAtEnable : Prop :=
  (∀ (s : State) (v : Word), s.bar pTIME = true → s.st pTIME = stOff → exec (.loadWrite 0 v) s = .next (s.setFld pTIME
    F.TIME.LOAD_NS_LO v.toNat)) ∧
  (∀ (s : State) (v : Word), s.bar pTIME = true → s.st pTIME = stOff → exec (.loadWrite 1 v) s = .next (s.setFld pTIME
    F.TIME.LOAD_NS_HI v.toNat)) ∧
  (∀ (s : State) (v : Word), s.bar pTIME = true → s.st pTIME = stOff → exec (.loadWrite 2 v) s = .next (s.setFld pTIME
    F.TIME.LOAD_FRAC_FRAC v.toNat)) ∧
  (∀ (s : State) (v : Word) (r : Nat), s.bar pTIME = true → s.st pTIME ≠ stOff → r < 3 → exec (.loadWrite r v) s = .next
    (s.reason pTIME Cls.locked 0x07)) ∧
  (∀ (s u : State) (v : Word), s.bar pTIME = true → s.st pTIME ≠ stOff → F.TIME.TIME_CFG_LOAD_MODE.of v ≠ s.fld pTIME
    F.TIME.TIME_CFG_LOAD_MODE → u = (s.setFld pTIME F.TIME.TIME_CFG_PPS_OUT_EN (F.TIME.TIME_CFG_PPS_OUT_EN.of v)).setFld pTIME
    F.TIME.TIME_CFG_PPS_WIDTH (F.TIME.TIME_CFG_PPS_WIDTH.of v) → exec (.loadWrite 3 v) s = .next ((if
    F.TIME.TIME_CFG_PPS_OUT_EN.of v = 0 then { u with time := { u.time with ppsOut := false } } else u).reason pTIME Cls.locked
    0x07)) ∧
  (∀ (s : State), s.isOn pTIME = true → s.time.waitPps = true → exec .timeLoadAtPps s = .next (s.startAtPps.sawPps.timers)) ∧
  (∀ (s : State), s.time.waitPps = false → exec .timeLoadAtPps s = .next s) ∧
  (∀ (s : State), s.running = true → exec .ppsInEdge s = .next
    (({ s.setFld pTIME F.TIME.TIME_STATUS_PPS_SEEN 1 with time := { s.time with ppsEdge := s.now } } : State))) ∧
  (∀ (s : State), s.running = false → exec .ppsInEdge s = .next s) ∧
  (∀ (s : State), s.bit pTIME F.TIME.TIME_STATUS_PPS_SEEN = true → s.time.ppsEdge + 1100000000 ≤ s.now → exec .ppsSeenLapse s =
    .next (s.setFld pTIME F.TIME.TIME_STATUS_PPS_SEEN 0)) ∧
  (∀ (s : State), s.st pTIME = stDraining → s.allGrpOff = true → exec .timeStop s = .next (s.leavePage pTIME)) ∧
  (∀ (s : State), s.allGrpOff = false → exec .timeStop s = .next s)

/-- CMP_ARM, CMP_BOUND_WRITE, TGT_WRITE and COMPARE_FIRE (R72 to R76, R81, R87). -/
def Obligations.ComparesArmBindAndFire : Prop :=
  (∀ (s : State) (v : Word) (r : Nat), s.bar pTIME = true → exec (.cmpArm 15 v) s = .next ((s.reason pTIME Cls.locked
    0x17).cadenceStops) ∧ exec (.cmpBoundWrite 15 r v) s = .next ((s.reason pTIME Cls.locked 0x17).cadenceStops) ∧ exec
    (.tgtWrite 15 v) s = .next (s.reason pTIME Cls.locked 0x17)) ∧
  (∀ (s : State) (n r : Nat) (v : Word), s.bar pTIME = true → n < 15 → s.cmpBound n = true → exec (.cmpArm n v) s = .next
    ((s.reason pTIME Cls.conflict 0x12).cadenceStops) ∧ exec (.cmpBoundWrite n r v) s = .next ((s.reason pTIME Cls.conflict
    0x12).cadenceStops)) ∧
  (∀ (s : State) (n : Nat) (v : Word), s.bar pTIME = true → n < 15 → s.cmpBound n = false → v.toNat % 2 = 0 → exec (.cmpArm n v)
    s = .next (((s.setReg ((F.TIME.CMP_CTRL n).addr pTIME) (cmpCtrlFields v)).setCmp n
    { s.cmpOf n with fresh := false, late := none }).cadenceStops)) ∧
  (∀ (s : State) (n c d : Nat) (v : Word), s.bar pTIME = true → n < 15 → s.cmpBound n = false → v.toNat % 2 = 1 → ((s.setReg
    ((F.TIME.CMP_CTRL n).addr pTIME) (cmpCtrlFields v)).setCmp n { s.cmpOf n with fresh := false, late := none }).armCheck n =
    some (c, d) → exec (.cmpArm n v) s = .next ((((s.setReg ((F.TIME.CMP_CTRL n).addr pTIME) (cmpCtrlFields v)).setCmp n
    { s.cmpOf n with fresh := false, late := none }).refuse pTIME c d).cadenceStops)) ∧
  (∀ (s : State) (n : Nat) (v : Word), s.bar pTIME = true → n < 15 → s.cmpBound n = false → v.toNat % 2 = 1 → ((s.setReg
    ((F.TIME.CMP_CTRL n).addr pTIME) (cmpCtrlFields v)).setCmp n { s.cmpOf n with fresh := false, late := none }).armCheck n =
    none → ((s.setReg ((F.TIME.CMP_CTRL n).addr pTIME) (cmpCtrlFields v)).setCmp n
    { s.cmpOf n with fresh := false, late := none }).fld pTIME (F.TIME.CMP_CTRL_MODE n) = 0 → exec (.cmpArm n v) s = .next
    (((((s.setReg ((F.TIME.CMP_CTRL n).addr pTIME) (cmpCtrlFields v)).setCmp n
    { s.cmpOf n with fresh := false, late := none }).setFld pTIME (F.TIME.CMP_CTRL_ARM n) 1).setCmp n
    { ((s.setReg ((F.TIME.CMP_CTRL n).addr pTIME) (cmpCtrlFields v)).setCmp n { s.cmpOf n with fresh := false, late := none }).cmpOf n with fresh := true }).cadenceStops)) ∧
  (∀ (s : State) (n : Nat) (v : Word), s.bar pTIME = true → n < 15 → s.cmpBound n = false → v.toNat % 2 = 1 → ((s.setReg
    ((F.TIME.CMP_CTRL n).addr pTIME) (cmpCtrlFields v)).setCmp n { s.cmpOf n with fresh := false, late := none }).armCheck n =
    none → ((s.setReg ((F.TIME.CMP_CTRL n).addr pTIME) (cmpCtrlFields v)).setCmp n
    { s.cmpOf n with fresh := false, late := none }).fld pTIME (F.TIME.CMP_CTRL_MODE n) = 1 → exec (.cmpArm n v) s = .next
    (((((s.setReg ((F.TIME.CMP_CTRL n).addr pTIME) (cmpCtrlFields v)).setCmp n
    { s.cmpOf n with fresh := false, late := none }).setFld pTIME (F.TIME.CMP_CTRL_ARM n) 1).setCmp n
    { ((s.setReg ((F.TIME.CMP_CTRL n).addr pTIME) (cmpCtrlFields v)).setCmp n { s.cmpOf n with fresh := false, late := none }).cmpOf n with index := ((s.setReg ((F.TIME.CMP_CTRL n).addr pTIME) (cmpCtrlFields v)).setCmp n { s.cmpOf n with fresh := false, late := none }).firstIndex n }).cadenceStops)) ∧
  (∀ (s : State) (n r : Nat) (v : Word), s.bar pTIME = true → n < 15 → s.cmpBound n = false → (r = 1 ∨ r = 2 ∨ r = 3) → exec
    (.cmpBoundWrite n r v) s = .next ((s.setFld pTIME (if r = 1 then F.TIME.RATE_NUM_NUM n else if r = 2 then
    F.TIME.RATE_DEN_DEN n else F.TIME.OFFSET n) v.toNat).cadenceStops)) ∧
  (∀ (s : State) (n : Nat) (v : Word), s.bar pTIME = true → n < 15 → exec (.tgtWrite n v) s = .next ((s.setFld pTIME
    (F.TIME.TGT_NS_HI n) v.toNat).newTarget n ((s.setFld pTIME (F.TIME.TGT_NS_HI n) v.toNat).get64 pTIME (F.TIME.TGT_NS_LO n)))) ∧
  (∀ (s : State) (n : Nat), n < 16 → s.running = true → s.bit pTIME (F.TIME.CMP_CTRL_ARM n) = true → (s.cmpOf n).fresh = false →
    s.reached (s.cmpTarget n) = true → exec (.compareFire n) s = .next (((s.lateRecord n).fireRecord n).fireAction n (s.cmpOf
    n).index (if s.fld pTIME (F.TIME.CMP_CTRL_MODE n) = 1 then (s.fireAt n (s.cmpOf n).index).toNat else s.shotTime n) (s.fld
    pTIME (F.TIME.CMP_CTRL_MODE n) == 1))) ∧
  (∀ (s : State) (n : Nat), (s.running = false ∨ s.bit pTIME (F.TIME.CMP_CTRL_ARM n) = false ∨ (s.cmpOf n).fresh = true ∨
    s.reached (s.cmpTarget n) = false) → exec (.compareFire n) s = .next s)

/-- TGT32_WRITE (R88). -/
def Obligations.Tgt32PlacesTheTargetNearNow : Prop :=
  (∀ (s : State) (n : Nat) (v : Word), s.bar pTIME = true → n < 15 → exec (.tgt32Write n v) s = .next (s.newTarget n (((s.nextNow
    + sext32 ((v.toNat + 2 ^ 32 - s.nextNow % 2 ^ 32) % 2 ^ 32)) % 2 ^ 64 : Int).toNat))) ∧
  (∀ (x : Nat), x < 2 ^ 32 → -2147483648 ≤ sext32 x ∧ sext32 x ≤ 2147483647 ∧ sext32 x % 2 ^ 32 = x) ∧
  (∀ (s : State) (v : Word), s.bar pTIME = true → exec (.tgt32Write 15 v) s = .next (s.reason pTIME Cls.locked 0x17))

/-- Triggers (R85); TRIGGER_PULSE_END. -/
def Obligations.TriggersNeverGap : Prop :=
  (∀ (s : State) (k fire : Nat), s.bit pTIME (F.TIME.TRIG_CTRL_EN k) = true → s.bit pTIME (F.TIME.TRIG_STATUS_ACTIVE k) = true →
    Tab.get 0 s.time.trigTick k ≠ s.time.root → s.trigFire k fire =
    (((({ s.setFld pTIME (F.TIME.TRIG_STATUS_ACTIVE k) 1 with time := { s.time with trigEnd := Tab.set 0 s.time.trigEnd k (fire + 4 + s.fld pTIME (F.TIME.TRIG_CTRL_WIDTH k)), trigTick := Tab.set 0 s.time.trigTick k s.time.root } }
    : State).tookFree).incFld pTIME (F.TIME.TRIG_STATUS_OVERLAP_COUNT k)).err pTIME 1).raise pTIME F.TIME.intTRIG_OVERLAP) ∧
  (∀ (s : State) (k fire : Nat), s.bit pTIME (F.TIME.TRIG_CTRL_EN k) = true → s.bit pTIME (F.TIME.TRIG_STATUS_ACTIVE k) = true →
    Tab.get 0 s.time.trigTick k = s.time.root → s.trigFire k fire =
    ({ s.setFld pTIME (F.TIME.TRIG_STATUS_ACTIVE k) 1 with time := { s.time with trigEnd := Tab.set 0 s.time.trigEnd k (fire + 4 + s.fld pTIME (F.TIME.TRIG_CTRL_WIDTH k)), trigTick := Tab.set 0 s.time.trigTick k s.time.root } }
    : State).tookFree) ∧
  (∀ (s : State) (k fire : Nat), s.bit pTIME (F.TIME.TRIG_CTRL_EN k) = true → s.bit pTIME (F.TIME.TRIG_STATUS_ACTIVE k) = false →
    s.trigFire k fire =
    ({ s.setFld pTIME (F.TIME.TRIG_STATUS_ACTIVE k) 1 with time := { s.time with trigEnd := Tab.set 0 s.time.trigEnd k (fire + 4 + s.fld pTIME (F.TIME.TRIG_CTRL_WIDTH k)), trigTick := Tab.set 0 s.time.trigTick k s.time.root, trigEdge := Tab.set 0 s.time.trigEdge k ((fire + 4) * 2 ^ 24 + s.freeWord.toNat % (2 ^ 24 + 1) - 2 ^ 23) } }
    : State).tookFree) ∧
  (∀ (s : State) (k : Nat), k < 8 → s.bit pTIME (F.TIME.TRIG_STATUS_ACTIVE k) = true → Tab.get 0 s.time.trigEnd k ≤ s.now → exec
    (.triggerPulseEnd k) s = .next (s.setFld pTIME (F.TIME.TRIG_STATUS_ACTIVE k) 0)) ∧
  (∀ (s : State) (k : Nat), s.now < Tab.get 0 s.time.trigEnd k → exec (.triggerPulseEnd k) s = .next s)

/-- PPS_OUT_RISE and PPS_OUT_FALL (R86). -/
def Obligations.PpsOutFollowsTheSecond : Prop :=
  (∀ (s : State) (k : Nat), s.running = true → s.bit pTIME F.TIME.TIME_CFG_PPS_OUT_EN = true → s.time.ppsOut = false → s.now = k
    * 1000000000 + 4 → s.time.ppsOutSec ≠ k + 1 → exec .ppsOutRise s = .next
    { s with time := { s.time with ppsOut := true, ppsOutSec := k + 1 } }) ∧
  (∀ (s : State), (s.running = false ∨ s.bit pTIME F.TIME.TIME_CFG_PPS_OUT_EN = false) → exec .ppsOutRise s = .next s) ∧
  (∀ (s : State) (k : Nat), s.time.ppsOut = true → s.time.ppsOutSec = k + 1 → k * 1000000000 + 4 + s.fld pTIME
    F.TIME.TIME_CFG_PPS_WIDTH * 10000 ≤ s.now → exec .ppsOutFall s = .next { s with time := { s.time with ppsOut := false } }) ∧
  (∀ (s : State) (k : Nat), s.time.ppsOutSec = k + 1 → s.now < k * 1000000000 + 4 + s.fld pTIME F.TIME.TIME_CFG_PPS_WIDTH * 10000
    → exec .ppsOutFall s = .next s)

/-- CAPTURE_EDGE (R67, R83, R84); the error within ±0.5 ns is a free value (log entry 2). -/
def Obligations.CapturesStampOnce : Prop :=
  (∀ (s : State) (n : Nat) (rising : Bool), n < 8 → s.works pTIME = true → edgeSelected (s.fld pTIME (F.TIME.CAP_CTRL_EDGE n))
    rising = true → (s.bit pTIME (F.TIME.CAP_CTRL_EN n) = false ∨ s.running = false) → exec (.captureEdge n rising) s = .next
    (s.incFld pTIME (F.TIME.CAP_STATUS_EDGE_COUNT n))) ∧
  (∀ (s : State) (n : Nat) (rising : Bool), n < 8 → s.works pTIME = true → edgeSelected (s.fld pTIME (F.TIME.CAP_CTRL_EDGE n))
    rising = true → s.bit pTIME (F.TIME.CAP_CTRL_EN n) = true → s.running = true → s.bit pTIME (F.TIME.CAP_STATUS_VALID n) =
    true → exec (.captureEdge n rising) s = .next ((((s.incFld pTIME (F.TIME.CAP_STATUS_EDGE_COUNT n)).setFld pTIME
    (F.TIME.CAP_STATUS_OVERRUN n) 1).err pTIME 0).raise pTIME F.TIME.intCAP_OVERRUN)) ∧
  (∀ (s : State) (n : Nat) (rising : Bool), n < 8 → s.works pTIME = true → edgeSelected (s.fld pTIME (F.TIME.CAP_CTRL_EDGE n))
    rising = true → s.bit pTIME (F.TIME.CAP_CTRL_EN n) = true → s.running = true → s.bit pTIME (F.TIME.CAP_STATUS_VALID n) =
    false → exec (.captureEdge n rising) s = .next (((((((s.incFld pTIME (F.TIME.CAP_STATUS_EDGE_COUNT n)).setFld pTIME
    (F.TIME.CAP_STATUS_VALID n) 1).setFld pTIME (F.TIME.CAP_STATUS_LAST_RISING n) rising.toNat).put64L pTIME (F.TIME.CAP_NS_LO
    n) (s.stamp / 2 ^ 24)).setLive ((F.TIME.CAP_FRAC n).addr pTIME) (BitVec.ofNat 32 (s.stamp % 2 ^ 24))).setFld pTIME
    (F.TIME.CAP_COMPAT n) (s.stamp / 2 ^ 24)).tookFree.raise pTIME F.TIME.intCAPTURED)) ∧
  (∀ (s : State) (n : Nat) (rising : Bool), edgeSelected (s.fld pTIME (F.TIME.CAP_CTRL_EDGE n)) rising = false → exec
    (.captureEdge n rising) s = .next s) ∧
  (∀ (s : State), s.time.acc.toNat + 4 * 2 ^ 24 - 2 ^ 23 ≤ s.stamp ∧ s.stamp ≤ s.time.acc.toNat + 4 * 2 ^ 24 + 2 ^ 23)

/-- PAGE_ENABLE, ENABLE_CHECK_COMPLETE, PAGE_STOP, PAGE_DRAIN, DRAIN_UNDO and CLEAR_FAULT (R41). -/
def Obligations.PageStatesEnterAndLeaveOn : Prop :=
  (∀ (s s1 : State) (p : Nat), s.bar p = true → (unitOf p).isSome = true → alwaysOn p = false → s.st p = stOff → s1 = (((s.setFld
    p F.PAGE_CTRL_ENABLE 1).opBegin p 1).toState p stChecking).capture p → exec (.pageEnable p) s = .next (((s1.setPage p
    { s1.page p with verdict := s1.enableCode p (s1.terms [p] p), info := s1.checkInfo [p] p (s1.enableCode p (s1.terms [p] p) / 0x1000) (s1.enableCode p (s1.terms [p] p) % 64), table := s1.checkTable [p] p }).checkHolds
    p).setTerms p (s1.terms [p] p).1 (s1.terms [p] p).2)) ∧
  (∀ (s : State) (p : Nat), s.st p ≠ stOff → exec (.pageEnable p) s = .next s) ∧
  (∀ (s : State) (p : Nat) (ok : Bool), s.st p = stChecking → (s.page p).verdict = 0 → unitAt p ≠ .chmb → (unitAt p ≠ .dec ∨
    s.warm (20 + instanceOf p) = true) → exec (.enableCheckComplete p ok) s = .next (((((s.setActive p (s.page
    p).captured).toState p stOn).raise p 1).opEnd p opCompleted).pageEnters p (s.page p).table)) ∧
  (∀ (s : State) (p : Nat) (ok : Bool), s.st p = stChecking → (s.page p).verdict ≠ 0 → exec (.enableCheckComplete p ok) s = .next
    (((((((s.showInfo p (s.page p).verdict (s.page p).info).refuseCode p (s.page p).verdict).opEnd p opRefused).toState p
    stOff).setFld p F.PAGE_CTRL_ENABLE 0).release p).checkLeft p)) ∧
  (∀ (s : State) (p : Nat), s.st p = stChecking → (s.page p).verdict = 0 → unitAt p = .chmb → exec (.enableCheckComplete p false)
    s = .next (((((((s.showInfo p (reasonCode Cls.resource .chmb 0x0E) (s.page p).info).refuseCode p (reasonCode Cls.resource
    .chmb 0x0E)).opEnd p opRefused).toState p stOff).setFld p F.PAGE_CTRL_ENABLE 0).release p).checkLeft p)) ∧
  (∀ (s : State) (p : Nat) (ok : Bool), (s.page p).verdict = 0 → unitAt p = .dec → s.warm (20 + instanceOf p) = false → exec
    (.enableCheckComplete p ok) s = .next s) ∧
  (∀ (s : State) (p : Nat), s.bar p = true → (unitOf p).isSome = true → alwaysOn p = false → inUseDetail p = none → s.st p = stOn
    → unitAt p ≠ .memc → exec (.pageStop p) s = .next (((s.setFld p F.PAGE_CTRL_ENABLE 0).opBegin p 2).toState p stDraining)) ∧
  (∀ (s : State) (p d : Nat), s.bar p = true → (unitOf p).isSome = true → alwaysOn p = false → inUseDetail p = some d → exec
    (.pageStop p) s = .next (s.reason p Cls.conflict d) ∧ exec (.pageDrain p) s = .next (s.reason p Cls.conflict d)) ∧
  (∀ (s : State) (p : Nat), s.bar p = true → (unitOf p).isSome = true → alwaysOn p = false → inUseDetail p = none → s.st p = stOn
    → unitAt p ≠ .memc → exec (.pageDrain p) s = .next (((s.setFld p F.PAGE_CTRL_DRAIN 1).opBegin p 3).toState p stDraining)) ∧
  (∀ (s : State) (p : Nat), s.bar p = true → (unitOf p).isSome = true → alwaysOn p = false → inUseDetail p = none → (s.st p =
    stOff ∨ s.st p = stFault) → exec (.pageDrain p) s = .next (((((s.setFld p F.PAGE_CTRL_DRAIN 1).setFld p F.PAGE_CTRL_ENABLE
    0).toState p stOos).toOffValues p).release p)) ∧
  (∀ (s : State) (p : Nat), s.served p = true → (unitOf p).isSome = true → alwaysOn p = false → (s.page p).absence = 0 → s.st p =
    stOos → ¬ (s.boot.mult = 120 ∧ p ∈ pictureUnits) → exec (.drainUndo p) s = .next ((s.setFld p F.PAGE_CTRL_DRAIN 0).toState p
    stOff)) ∧
  (∀ (s : State) (p : Nat), s.boot.mult = 120 → p ∈ pictureUnits → exec (.drainUndo p) s = .next s) ∧
  (∀ (s : State) (p : Nat), s.bar p = true → (unitOf p).isSome = true → alwaysOn p = false → s.st p = stFault → exec (.clearFault
    p) s = .next (((s.toState p stOff).setFld p F.PAGE_CTRL_ENABLE 0).toOffValues p)) ∧
  (∀ (s : State) (p : Nat), s.st p ≠ stFault → exec (.clearFault p) s = .next s)

/-- NEXT_BOUNDARY_REACHED, INPUT_PAGE_LEAVE, FEEDER_DRAIN_END, ABORT, UNIT_FAULT_DETECTED and SHED. -/
def Obligations.PagesDrainFaultAndShed : Prop :=
  (∀ (s : State) (p : Nat), (unitOf p).isSome = true → s.st p = stDraining → s.leavesApart p = false → s.boundaryReached p = true
    → exec (.nextBoundaryReached p) s = .next (((s.unitStops p).leave p).pageStopped p)) ∧
  (∀ (s : State) (p : Nat), s.st p ≠ stDraining → exec (.nextBoundaryReached p) s = .next s ∧ exec (.inputPageLeave p) s = .next
    s ∧ exec (.feederDrainEnd p) s = .next s) ∧
  (∀ (s : State) (p : Nat), (unitAt p = .sdirx ∨ unitAt p = .ipin) → s.st p = stDraining → s.cycleSince p (s.indexGroup p) = true
    → exec (.inputPageLeave p) s = .next (((s.unitStops p).leave p).pageStopped p)) ∧
  (∀ (s : State) (p : Nat), s.cadence (s.indexGroup p) = true → (s.grpOf (s.indexGroup p)).rootAt ≤ (s.page p).since → exec
    (.inputPageLeave p) s = .next s) ∧
  (∀ (s : State) (p : Nat), (unitAt p = .src ∨ unitAt p = .scal) → s.st p = stDraining → s.fedOff p = true → (s.cadence
    (s.leaveGroup p) = false ∨ (s.grpOf (s.leaveGroup p)).rootAt > s.fedSince p) → exec (.feederDrainEnd p) s = .next
    (((s.unitStops p).leave p).pageStopped p)) ∧
  (∀ (s : State) (p : Nat), s.fedOff p = false → exec (.feederDrainEnd p) s = .next s) ∧
  (∀ (s : State) (p : Nat), s.fld p F.PAGE_OP_KIND = 0 → exec (.abortPage p) s = .next s) ∧
  (∀ (s : State) (p : Nat), s.bar p = true → (unitOf p).isSome = true → alwaysOn p = false → s.fld p F.PAGE_OP_KIND = 1 → s.fld p
    F.PAGE_OP_RESULT = 0 → s.st p = stChecking → exec (.abortPage p) s = .next (((((s.opEnd p opAborted).toState p stOff).setFld
    p F.PAGE_CTRL_ENABLE 0).release p).checkLeft p)) ∧
  (∀ (s : State) (p : Nat), s.bar p = true → (unitOf p).isSome = true → alwaysOn p = false → (s.fld p F.PAGE_OP_KIND = 2 ∨ s.fld
    p F.PAGE_OP_KIND = 3) → s.fld p F.PAGE_OP_RESULT = 0 → s.st p = stDraining → unitAt p ≠ .memc → unitAt p ≠ .chmb → exec
    (.abortPage p) s = .next ((((s.toState p stOn).setFld p F.PAGE_CTRL_ENABLE 1).setFld p F.PAGE_CTRL_DRAIN 0).opEnd p
    opAborted)) ∧
  (∀ (s : State) (p : Nat), s.bar p = true → (unitOf p).isSome = true → alwaysOn p = false → s.fld p F.PAGE_OP_KIND ≠ 0 →
    abortable p (s.fld p F.PAGE_OP_KIND) = true → s.fld p F.PAGE_OP_RESULT ≠ 0 → (s.page p).resultAt = s.fabric → exec
    (.abortPage p) s = .next (s.reason p Cls.none 0x01)) ∧
  (∀ (s : State) (p : Nat), (unitOf p).isSome = true → alwaysOn p = false → unitAt p ≠ .chmb → unitAt p ≠ .memc → unitAt p ≠
    .tsch → unitAt p ≠ .task → unitAt p ≠ .eth → s.inUse p = true → s.absent p = false → exec (.unitFaultDetected p) s = .next
    (((s.unitStops p).enterFault p 0x0E).pageStopped p)) ∧
  (∀ (s : State) (p : Nat), s.inUse p = false → exec (.unitFaultDetected p) s = .next s) ∧
  (∀ (s : State) (p : Nat), s.overLimit = true → s.shedOrder.find? s.works = some p → s.shedDue p = true → exec .shed s = .next
    (s.shedPageNow p)) ∧
  (∀ (s : State), s.overLimit = false → exec .shed s = .next s)

/-- BAR0_NARROW_ACCESS, REGISTER_WRITE and LATCHING_READ (R31). -/
def Obligations.Bar0AcceptsWords : Prop :=
  (∀ (s : State) (a d : Nat), exec (.bar0NarrowAccess a 8 (some d)) s = .next ((s.busWrite a (BitVec.ofNat 32 d)).busWrite (a +
    4) (BitVec.ofNat 32 (d / 2 ^ 32)))) ∧
  (∀ (s : State) (a : Nat), exec (.bar0NarrowAccess a 8 none) s = .next
    (({ ((s.busRead a).1.busRead (a + 4)).1 with readData := (s.busRead a).2.toNat + ((s.busRead a).1.busRead (a + 4)).2.toNat * 2 ^ 32 }
    : State))) ∧
  (∀ (s : State) (a len d : Nat), (len = 1 ∨ len = 2) → exec (.bar0NarrowAccess a len (some d)) s = .next s) ∧
  (∀ (s : State) (a len : Nat), (len = 1 ∨ len = 2) → a % len = 0 → exec (.bar0NarrowAccess a len none) s = .next
    (({ (s.busRead (a / 4 * 4)).1 with readData := (s.busRead (a / 4 * 4)).2.toNat / 2 ^ (8 * (a % 4)) % 2 ^ (8 * len) } :
    State))) ∧
  (∀ (s : State) (a : Nat) (v : Word), exec (.registerWrite a v) s = .next (s.busWrite a v) ∧ exec (.latchingRead a) s = .next
    (({ (s.busRead a).1 with readData := (s.busRead a).2.toNat } : State)) ∧ (a % 4 ≠ 0 → s.busWrite a v = s ∧ s.busRead a = (s,
    0)))

/-- LATCHING_READ of SYS (R50). -/
def Obligations.AdmReadsLatchTheHighHalf : Prop :=
  (∀ (s : State) (o : Nat), s.bar pSYS = true → (o = 0x120 ∨ o = 0x128) → exec (.latchingRead (pSYS * 0x1000 + o)) s = .next
    (({ s.setReg (pSYS * 0x1000 + o + 4) (s.live (pSYS * 0x1000 + o + 4)) with readData := (s.reg (pSYS * 0x1000 + o)).toNat } :
    State))) ∧
  (∀ (s : State) (o : Nat), s.canonical = true → s.bar pSYS = true → (o = 0x120 ∨ o = 0x128) → ∃ t, exec (.latchingRead (pSYS *
    0x1000 + o)) s = .next t ∧ (t.busRead (pSYS * 0x1000 + o + 4)).2 = s.live (pSYS * 0x1000 + o + 4))

/-- The interrupt line of a page and INT_SET (R33). -/
def Obligations.InterruptSourcesFollowStatusAndEnable : Prop :=
  (∀ (s : State) (p : Nat), (unitOf p).isSome = true → (s.srcLine p = true ↔ s.reg (p * 0x1000 + 0x20) &&& s.reg (p * 0x1000 +
    0x24) ≠ 0)) ∧
  (∀ (s : State) (p : Nat), unitOf p = none → s.srcLine p = false) ∧
  (∀ (s : State) (p : Nat) (v : Word), s.bar p = true → (unitOf p).isSome = true → exec (.intSet p v) s = .next (s.setReg (p *
    0x1000 + 0x20) (s.reg (p * 0x1000 + 0x20) ||| (v &&& BitVec.ofNat 32 (unitAt p).intBits))))

/-- REGISTER_WRITE and SHADOW_WRITE by access codes (R6, R7). -/
def Obligations.RegisterWritesFollowAccessCodes : Prop :=
  (∀ (s : State) (a : Nat) (v : Word), s.bar (pageOf a) = false → s.outOfService (pageOf a) = false → exec (.registerWrite a v) s
    = .next s) ∧
  (∀ (s : State) (p : Nat) (v : Word), s.bar p = true → s.outOfService p = false → (unitOf p).isSome = true → exec
    (.registerWrite (p * 0x1000 + 0x20) v) s = .next (s.setReg (p * 0x1000 + 0x20) (s.reg (p * 0x1000 + 0x20) &&& ~~~ v))) ∧
  (∀ (s : State) (p : Nat) (v : Word), s.bar p = true → s.outOfService p = false → (unitOf p).isSome = true → exec
    (.registerWrite (p * 0x1000 + 0x24) v) s = .next (s.setReg (p * 0x1000 + 0x24) (v))) ∧
  (∀ (s : State) (p k : Nat) (v : Word), s.bar p = true → s.outOfService p = false → (unitOf p).isSome = true → k < 8 → exec
    (.registerWrite (p * 0x1000 + 0x40 + 4 * k) v) s = .next (s.setReg (p * 0x1000 + 0x40 + 4 * k) (s.reg (p * 0x1000 + 0x40 + 4
    * k) &&& ~~~ v))) ∧
  (∀ (s : State) (p o : Nat) (v : Word), s.bar p = true → s.outOfService p = false → (unitOf p).isSome = true → (o = 0x004 ∨ o =
    0x010 ∨ o = 0x02C) → exec (.registerWrite (p * 0x1000 + o) v) s = .next s) ∧
  (∀ (s : State) (p o : Nat) (v : Word) (r : RegRow), s.bar p = true → o < 0x1000 → rowAt (p * 0x1000 + o) = some r → r.sh ≠ 0 →
    s.bit p F.PENDING = false → exec (.shadowWrite p o v) s = .next ((s.setReg (p * 0x1000 + o) (r.written (s.reg (p * 0x1000 +
    o)) v)).setFld p F.DIRTY 1)) ∧
  (∀ (s : State) (p o : Nat) (v : Word) (r : RegRow), rowAt (p * 0x1000 + o) = some r → r.sh = 0 → exec (.shadowWrite p o v) s =
    .next s)

/-- CHMB_RESERVE_WRITE (R159). -/
def Obligations.ReserveOfChambers : Prop :=
  (State.reset.fld pSYS F.SYS.CHMB_RESERVE_RESERVE = 2) ∧
  (∀ (s : State) (v : Word), s.bar pSYS = true → v.toNat % 16 > 8 → exec (.chmbReserveWrite v) s = .next (s.reason pSYS Cls.range
    0x03)) ∧
  (∀ (s : State) (v : Word), s.bar pSYS = true → v.toNat % 16 ≤ 8 → v.toNat % 16 > s.fld pSYS F.SYS.CHMB_RESERVE_RESERVE →
    s.chmbSum > chmbLimit (s.fld pSYS F.SYS.ADM_RESOURCES_CHMB_IN_SERVICE) (v.toNat % 16 - s.remapped) → exec (.chmbReserveWrite
    v) s = .next (s.reason pSYS Cls.capacity 0x0A)) ∧
  (∀ (s : State) (v : Word), s.bar pSYS = true → v.toNat % 16 ≤ 8 → (v.toNat % 16 ≤ s.fld pSYS F.SYS.CHMB_RESERVE_RESERVE ∨
    s.chmbSum ≤ chmbLimit (s.fld pSYS F.SYS.ADM_RESOURCES_CHMB_IN_SERVICE) (v.toNat % 16 - s.remapped)) → exec
    (.chmbReserveWrite v) s = .next ((s.setFld pSYS F.SYS.CHMB_RESERVE_RESERVE (v.toNat % 16)).limits (s.fld pSYS
    F.SYS.ADM_RESOURCES_CHMB_IN_SERVICE) (v.toNat % 16 - s.remapped) (s.fld pSYS F.SYS.ADM_RESOURCES_MEMC_IN_SERVICE)))

/-- ARM, DISARM, DISCARD, GROUP_COMMIT_REQ, DEVICE_COMMIT_REQ, COMMIT_ABORT_GROUP and COMMIT_ABORT_DEVICE. -/
def Obligations.CommitsAreRequestedAndWithdrawn : Prop :=
  (∀ (s : State) (p : Nat), s.bar p = true → (unitOf p).isSome = true → 8 ≤ s.fld p F.COMMIT_GROUP → s.fld p F.COMMIT_GROUP < 15
    → exec (.arm p) s = .next ((s.setFld p F.ARMED 0).reason p Cls.range 0x04)) ∧
  (∀ (s : State) (p : Nat), s.bar p = true → (unitOf p).isSome = true → (s.fld p F.COMMIT_GROUP < 8 ∨ s.fld p F.COMMIT_GROUP =
    15) → exec (.arm p) s = .next (s.setFld p F.ARMED 1)) ∧
  (∀ (s : State) (p : Nat), s.bit p F.PENDING = true → exec (.disarm p) s = .next s ∧ exec (.discard p) s = .next s) ∧
  (∀ (s : State) (p : Nat), s.bar p = true → (unitOf p).isSome = true → s.bit p F.PENDING = false → exec (.disarm p) s = .next
    (s.setFld p F.ARMED 0) ∧ exec (.discard p) s = .next ((((s.setShadow p (s.activeCells p)).setFld p F.DIRTY 0).setFld p
    F.ARMED 0).setFld p F.LAST_RESULT 3)) ∧
  (∀ (s : State) (g mask : Nat), s.bar pSYS = true → g < 8 → mask % 256 = 2 ^ g → s.cadence g = true → s.coupled = false → exec
    (.groupCommitReq mask) s = .next (s.putCommit g { s.commitOf g with plain := true })) ∧
  (∀ (s : State) (g mask : Nat), s.bar pSYS = true → g < 8 → mask % 256 = 2 ^ g → s.cadence g = false → (s.noCadence g).coupled =
    false → exec (.groupCommitReq mask) s = .next (s.noCadence g)) ∧
  (∀ (s : State), s.bar pSYS = true → s.inProgress 8 = false → exec .deviceCommitReq s = .next (s.captureCommit 8 0 false)) ∧
  (∀ (s : State), s.bar pSYS = true → s.inProgress 8 = true → exec .deviceCommitReq s = .next (s.putCommit 8
    { s.commitOf 8 with plain := true })) ∧
  (∀ (s : State), s.bar pSYS = true → s.inProgress 8 = true → (s.commitOf 8).requested = false → exec .commitAbortDevice s =
    .next (((((s.commitOf 8).pages.foldl (fun t p => t.pageDone p 4 opAborted) s).termsBack (s.commitOf 8).old).commitResult 8
    3))) ∧
  (∀ (s : State) (g mask : Nat), s.bar pSYS = true → g < 8 → mask % 256 = 2 ^ g → s.inProgress g = true → (s.commitOf
    g).requested = false → exec (.commitAbortGroup mask) s = .next (((((s.commitOf g).pages.foldl (fun t p => t.pageDone p 4
    opAborted) s).termsBack (s.commitOf g).old).commitResult g 3))) ∧
  (∀ (s : State) (g mask : Nat), s.bar pSYS = true → g < 8 → mask % 256 = 2 ^ g → s.inProgress g = false → (s.commitOf
    g).requested = false → s.fld pSYS (commitRes g) ≠ 0 → (s.commitOf g).resultAt = s.fabric → exec (.commitAbortGroup mask) s =
    .next (s.reason pSYS Cls.none 0x01))

/-- COMMIT_CUTOFF, COMMIT_CHECK_END, DEVICE_COMMIT_COMPLETE, COMMIT_REQ, COMMIT_VERDICT, VERDICT_DEADLINE and READY. -/
def Obligations.CommitsAreCapturedCheckedAndDecided : Prop :=
  (∀ (s : State) (g m : Nat) (f : Int), g < 8 → s.cadence g = true → s.nextStart g = some (m, f) → (s.grpOf g).cutoff ≠ m + 1 →
    (s.now : Int) ≥ f - 4000 → exec (.commitCutoff g) s = .next (s.cutOff g m)) ∧
  (∀ (s : State) (g m : Nat) (f : Int), s.nextStart g = some (m, f) → ((s.now : Int) < f - 4000 ∨ (s.grpOf g).cutoff = m + 1) →
    exec (.commitCutoff g) s = .next s) ∧
  (∀ (s : State) (g : Nat), g < 8 → s.inProgress g = true → (s.commitOf g).passed = false → (s.commitOf g).paired = false →
    (s.commitOf g).codes = [] → exec (.commitCheckEnd g) s = .next (s.setCommit g { s.commitOf g with passed := true })) ∧
  (∀ (s : State) (g : Nat) (l : List (Nat × Nat)), g < 8 → s.inProgress g = true → (s.commitOf g).passed = false → (s.commitOf
    g).paired = false → (s.commitOf g).codes = l → l ≠ [] → exec (.commitCheckEnd g) s = .next (s.refuseCommit g l)) ∧
  (∀ (s : State), s.inProgress 8 = true → (s.commitOf 8).codes = [] → exec .deviceCommitComplete s = .next (s.applyCommit 8 0
    s.nowPs).deviceNext) ∧
  (∀ (s : State) (l : List (Nat × Nat)), s.inProgress 8 = true → (s.commitOf 8).codes = l → l ≠ [] → exec .deviceCommitComplete s
    = .next (s.refuseCommit 8 l).deviceNext) ∧
  (∀ (s u : State) (seq : Nat) (l : List (Nat × Nat)), (s.link = 4 ∨ s.link = 5) → seq = s.fld pROPE F.ROPE.SEQ_STATUS_RX_NEXT →
    u = s.ropeTook seq → u.pairOn = true → exec (.commitReq seq l) s = .next (l.foldl (fun t x => if x.1 < 8 then (if t.cadence
    x.1 then t.requestAt x.1 x.2 else t.noCadence x.1) else t) u)) ∧
  (∀ (s u : State) (seq g b digest : Nat) (pass : Bool), (s.link = 4 ∨ s.link = 5) → seq = s.fld pROPE F.ROPE.SEQ_STATUS_RX_NEXT
    → u = s.ropeTook seq → u.pairOn = true → g < 8 → (u.inProgress g = false ∨ (u.commitOf g).boundary ≠ b ∨ u.in300 ≤ u.fireNs
    g b * 2 ^ 24) → exec (.commitVerdict seq g b pass digest) s = .next (u.setCommit g
    { u.commitOf g with peer := some (b, pass, digest) })) ∧
  (∀ (s u : State) (seq g m : Nat) (l : List (Nat × Nat)), (s.link = 4 ∨ s.link = 5) → seq = s.fld pROPE
    F.ROPE.SEQ_STATUS_RX_NEXT → u = s.ropeTook seq → u.pairOn = true → g < 8 → exec (.ready seq g m l) s = .next
    { u with pair := { u.pair with peerReady := l.foldl (fun t e => if e.1 < 32 then Tab.set 0 t (g * 32 + e.1) ((m + 1) * 256 + e.2 % 256) else t) u.pair.peerReady } }) ∧
  (∀ (s : State) (g c d : Nat), g < 8 → s.inProgress g = true → (s.commitOf g).passed = true → (s.commitOf g).peerFault = some
    (c, d) → s.in300 ≥ s.fireNs g (s.commitOf g).boundary * 2 ^ 24 → exec (.verdictDeadline g) s = .next ((s.err pPAIR
    6).refuseCommit g [(pPAIR, reasonCode c .pair d)])) ∧
  (∀ (s : State) (g : Nat), (s.commitOf g).peerFault = none → exec (.verdictDeadline g) s = .next s)

/-- The order of sequenced frames (R298), MAILBOX (R315). A frame that fails R297 is ROPE_FRAME_BAD. -/
def Obligations.SequencedFramesAreTakenInOrder : Prop :=
  (∀ (s : State) (seq a b c d e f g : Nat) (b1 b2 b3 : Bool) (es : List (Nat × Nat × Nat × Nat × Nat)) (m : SnapshotMsg) (rs :
    List (Nat × Nat)) (ws : List Nat) (i : Instr), (s.link = 4 ∨ s.link = 5) → seq ≠ s.fld pROPE F.ROPE.SEQ_STATUS_RX_NEXT → i ∈
    [.claimMsg seq a b1 b2 b3, .digest seq es, .snapshot seq m, .decision seq a b c d e b1 f, .stepMsg seq a b c d, .joinReq seq
    a, .handoverReq seq a, .handover seq a b, .commitReq seq rs, .commitVerdict seq a b b1 d, .ready seq a b rs, .caps seq a b c
    d e f g, .mailbox seq ws] → exec i s = .next s.ropeNak ∧ s.ropeNak =
    { s with rope := { s.rope with nakAt := s.ropeNak.rope.nakAt } }) ∧
  (∀ (s : State) (seq : Nat), s.canonical = true → (s.ropeTook seq).fld pROPE F.ROPE.SEQ_STATUS_RX_NEXT = (seq + 1) % 65536) ∧
  (∀ (s : State) (ws : List Nat), (s.link = 4 ∨ s.link = 5) → (s.ropeTook (s.fld pROPE F.ROPE.SEQ_STATUS_RX_NEXT)).bit pROPE
    F.ROPE.MBOX_STATUS_RX_FULL = false → exec (.mailbox (s.fld pROPE F.ROPE.SEQ_STATUS_RX_NEXT) ws) s = .next ((((List.range
    16).foldl (fun t i => t.setFld pROPE (F.ROPE.MBOX_RX i) (ws.getD i 0)) (s.ropeTook (s.fld pROPE
    F.ROPE.SEQ_STATUS_RX_NEXT))).setFld pROPE F.ROPE.MBOX_STATUS_RX_FULL 1).raise pROPE F.ROPE.intMBOX_RX)) ∧
  (∀ (s : State) (ws : List Nat), (s.link = 4 ∨ s.link = 5) → (s.ropeTook (s.fld pROPE F.ROPE.SEQ_STATUS_RX_NEXT)).bit pROPE
    F.ROPE.MBOX_STATUS_RX_FULL = true → exec (.mailbox (s.fld pROPE F.ROPE.SEQ_STATUS_RX_NEXT) ws) s = .next ((s.ropeTook (s.fld
    pROPE F.ROPE.SEQ_STATUS_RX_NEXT)).err pROPE 6))

/-- The states of the Rope link and the training of its lanes. -/
def Obligations.RopeLinkStates : Prop :=
  (∀ (s : State), s.ropeSilent = true → exec .ropeLinkCut s = .next (((s.linkDown.raise pROPE F.ROPE.intCUT).logEv pROPE
    F.ROPE.intCUT 4 0 []).linkDetect)) ∧
  (∀ (s : State), (s.linkUp = false ∨ (s.fabric < s.rope.beatAt + 12000 ∧ lanes4 (s.rp F.ROPE.ROPE_STATUS_TX_MASK) ≥ s.rp
    F.ROPE.ROPE_CFG_MIN_LANES)) → exec .ropeLinkCut s = .next s) ∧
  (∀ (s : State) (mask : Nat), s.link = 1 → (List.range 4).countP (fun i => hasLane mask i && hasLane (s.rp
    F.ROPE.ROPE_CFG_LANES) i) ≥ s.rp F.ROPE.ROPE_CFG_MIN_LANES → exec (.signalDetect mask) s = .next (((List.range 4).filter fun
    i => hasLane s.ropeUsable i).foldl (fun t i => (t.laneStart (ropeLane i)).laneTrain (ropeLane i)) (((List.range 4).foldl
    (fun t i => (t.setFld pROPE (rlSIGNAL i) (hasLane mask i).toNat).setFld (ropeLane i) F.LANE.LANE_STATUS_SIGNAL (hasLane mask
    i).toNat) s).linkTo 2))) ∧
  (∀ (s : State) (mask : Nat), s.link = 1 → (List.range 4).countP (fun i => hasLane mask i && hasLane (s.rp
    F.ROPE.ROPE_CFG_LANES) i) < s.rp F.ROPE.ROPE_CFG_MIN_LANES → exec (.signalDetect mask) s = .next ((List.range 4).foldl (fun
    t i => (t.setFld pROPE (rlSIGNAL i) (hasLane mask i).toNat).setFld (ropeLane i) F.LANE.LANE_STATUS_SIGNAL (hasLane mask
    i).toNat) s)) ∧
  (∀ (s u : State), s.link = 2 → ((s.ropeTrained = s.ropeUsable ∧ s.ropeUsable ≠ 0) ∨ s.fabric ≥ s.rope.linkAt + s.rp
    F.ROPE.ROPE_CFG_TRAIN_MS * 1500000 ∧ lanes4 s.ropeTrained ≥ s.rp F.ROPE.ROPE_CFG_MIN_LANES) → u = (((s.linkTo 3).setFld
    pROPE F.ROPE.ROPE_STATUS_RX_MASK s.ropeTrained).setFld pROPE F.ROPE.ROPE_STATUS_PEER_RX_MASK s.ropeTrained).masks → exec
    .trainMsExpiry s = .next
    { u with rope := { u.rope with beatAt := s.fabric, laneBeat := (List.range 4).map fun i => (i, s.fabric), amDue := true } }) ∧
  (∀ (s u : State), s.link = 2 → s.fabric ≥ s.rope.linkAt + s.rp F.ROPE.ROPE_CFG_TRAIN_MS * 1500000 → (s.ropeTrained ≠
    s.ropeUsable ∨ s.ropeUsable = 0) → lanes4 s.ropeTrained < s.rp F.ROPE.ROPE_CFG_MIN_LANES → u = s.linkDown.reason pROPE
    Cls.timing 0x13 → exec .trainMsExpiry s = .next { u with rope := { u.rope with timedOut := true } }) ∧
  (∀ (s : State), s.link = 0 → s.rope.timedOut = true → s.works pROPE = true → s.fabric ≥ s.rope.linkAt + 15000000 → exec
    .detectRetry s = .next (({ s with rope := { s.rope with timedOut := false } } : State).linkDetect)) ∧
  (∀ (s : State), s.rope.timedOut = false → exec .detectRetry s = .next s) ∧
  (∀ (s u : State), s.link = 3 → s.rope.peerTx = s.rp F.ROPE.ROPE_STATUS_TX_MASK → s.rp F.ROPE.ROPE_STATUS_TX_MASK ≠ 0 → u =
    (s.linkTo 4).setFld pROPE F.ROPE.SEQ_STATUS 0 → exec .alignDone s = .next
    (({ u with rope := { u.rope with held := [], queued := [], yield' := none, pTx := 0, pRx := 0, capsGot := false, capsAcked := false, window := 256, nakAt := none } }
    : State).ropeSend 0x01 s.capsBody)) ∧
  (∀ (s : State), (s.link = 3 ∨ s.link = 4) → s.fabric ≥ s.rope.linkAt + 1500000 → exec .linkStateTimeout s = .next
    s.linkDown.linkDetect) ∧
  (∀ (s : State), s.fabric < s.rope.linkAt + 1500000 → exec .linkStateTimeout s = .next s) ∧
  (∀ (s u : State) (seq version member stepping lanes minl window next : Nat), (s.link = 4 ∨ s.link = 5) → seq = s.fld pROPE
    F.ROPE.SEQ_STATUS_RX_NEXT → u = ((((((s.ropeTook seq).setFld pROPE F.ROPE.PEER_CAPS0_VERSION version).setFld pROPE
    F.ROPE.PEER_CAPS0_MEMBER member).setFld pROPE F.ROPE.PEER_CAPS1_STEPPING stepping).setFld pROPE F.ROPE.PEER_CAPS1_LANES
    lanes).setFld pROPE F.ROPE.PEER_CAPS1_MIN_LANES minl).setFld pROPE F.ROPE.PEER_CAPS1_WINDOW window → version = 1 → exec
    (.caps seq version member stepping lanes minl window next) s = .next
    ((({ u with rope := { u.rope with capsGot := true, window := min 256 window } } : State).ropeRelease next).exchanged)) ∧
  (∀ (s u : State) (seq version member stepping lanes minl window next : Nat), (s.link = 4 ∨ s.link = 5) → seq = s.fld pROPE
    F.ROPE.SEQ_STATUS_RX_NEXT → u = ((((((((s.ropeTook seq).setFld pROPE F.ROPE.PEER_CAPS0_VERSION version).setFld pROPE
    F.ROPE.PEER_CAPS0_MEMBER member).setFld pROPE F.ROPE.PEER_CAPS1_STEPPING stepping).setFld pROPE F.ROPE.PEER_CAPS1_LANES
    lanes).setFld pROPE F.ROPE.PEER_CAPS1_MIN_LANES minl).setFld pROPE F.ROPE.PEER_CAPS1_WINDOW window).linkDown.raise pROPE
    F.ROPE.intPEER_VERSION).reason pROPE Cls.dependency 0x11 → version ≠ 1 → exec (.caps seq version member stepping lanes minl
    window next) s = .next { u with rope := { u.rope with versionHeld := true } }) ∧
  (∀ (s u : State), s.bar pROPE = true → s.works pROPE = true → u = s.linkDown.ropeClear → exec .ropeRestart s = .next
    (({ u with rope := { u.rope with versionHeld := false } } : State).linkDetect)) ∧
  (∀ (s : State), s.bar pROPE = true → exec .clearFailed s = .next ((List.range 4).foldl (fun t i => if ((t.setFld pROPE
    (rlFAILED i) 0).setFld pROPE (rlTRIES i) 0).laneState (ropeLane i) = laFailed then ((t.setFld pROPE (rlFAILED i) 0).setFld
    pROPE (rlTRIES i) 0).laneTo (ropeLane i) laDown else (t.setFld pROPE (rlFAILED i) 0).setFld pROPE (rlTRIES i) 0)
    ({ s with rope := { s.rope with tries := [] } } : State))) ∧
  (∀ (s : State) (i : Nat), i < 4 → hasLane s.ropeUsable i = true → s.link ≥ 2 → hasLane s.rope.shaken i = true → exec
    (.blockLock i) s = .next (((s.setFld pROPE (rlLOCK i) 1).setFld pROPE (rlTRAINED i) 1).laneTrained (ropeLane i))) ∧
  (∀ (s : State) (i : Nat), i < 4 → hasLane s.ropeUsable i = true → s.link ≥ 2 → hasLane s.rope.shaken i = false → exec
    (.blockLock i) s = .next (s.setFld pROPE (rlLOCK i) 1)) ∧
  (∀ (s : State) (i : Nat), i < 4 → hasLane s.ropeUsable i = true → s.link = 2 → s.rp (rlLOCK i) = 0 → exec (.ropeTrainDone i) s
    = .next { s with rope := { s.rope with shaken := addLane s.rope.shaken i } }) ∧
  (∀ (s : State) (i : Nat), i < 4 → hasLane s.ropeUsable i = true → s.link = 2 → s.rp (rlLOCK i) = 1 → exec (.ropeTrainDone i) s
    = .next ((({ s with rope := { s.rope with shaken := addLane s.rope.shaken i } } : State).setFld pROPE (rlTRAINED i)
    1).laneTrained (ropeLane i))) ∧
  (∀ (s : State) (i : Nat) (pre main post : Int), i < 4 → hasLane s.ropeUsable i = true → s.link = 2 → s.laneState (ropeLane i) =
    laTrain → exec (.trainingFrame i pre main post true) s = .next (((s.setFld (ropeLane i) F.LANE.FFE_PRE 0).setFld (ropeLane
    i) F.LANE.FFE_MAIN 64).setFld (ropeLane i) F.LANE.FFE_POST 0)) ∧
  (∀ (s : State) (i : Nat) (pre main post : Int), s.link ≠ 2 → s.linkActive = false → exec (.trainingFrame i pre main post false)
    s = .next s)

/-- Progress, masks, lanes and the mailbox of the Rope link. -/
def Obligations.RopeLanesAndProgress : Prop :=
  (∀ (s : State), s.linkUp = true → s.time.root / 12000 > s.rope.hbAt → exec .heartbeatSend s = .next
    { s with rope := { s.rope with hbCount := (s.rope.hbCount + 1) % 256, hbAt := s.time.root / 12000 } }) ∧
  (∀ (s : State) (lane rx next pAck : Nat), s.linkUp = true → lane < 4 → exec (.heartbeat lane rx next pAck) s = .next
    (((((({ s with rope := { s.rope with beatAt := s.fabric, laneBeat := Tab.set 0 s.rope.laneBeat lane s.fabric } } :
    State).setFld pROPE F.ROPE.ROPE_STATUS_PEER_RX_MASK rx).masks).ropeRelease next).exchanged).ropePAck pAck)) ∧
  (∀ (s u : State) (lane tx rx skew ins del invalid : Nat), u = ((s.addFld pROPE F.ROPE.FILL_COUNT_INSERTED ins).addFld pROPE
    F.ROPE.FILL_COUNT_DELETED del).errBy pROPE 7 invalid → s.linkUp = true → lane < 4 → skew ≤ 32 → exec (.am lane tx rx skew
    ins del invalid) s = .next (((({ u with rope := { u.rope with peerTx := tx % 16 } } : State).setFld pROPE
    F.ROPE.ROPE_STATUS_PEER_RX_MASK rx).setFld pROPE ⟨0x10C, 8 * lane, 6⟩ (min skew 63)).masks)) ∧
  (∀ (s u : State) (lane tx rx skew ins del invalid : Nat), u = ((s.addFld pROPE F.ROPE.FILL_COUNT_INSERTED ins).addFld pROPE
    F.ROPE.FILL_COUNT_DELETED del).errBy pROPE 7 invalid → s.linkUp = true → lane < 4 → skew > 32 → exec (.am lane tx rx skew
    ins del invalid) s = .next ((((({ u with rope := { u.rope with peerTx := tx % 16 } } : State).setFld pROPE
    F.ROPE.ROPE_STATUS_PEER_RX_MASK rx).setFld pROPE ⟨0x10C, 8 * lane, 6⟩ (min skew 63)).masks).ropeLose lane)) ∧
  (∀ (s : State), s.linkUp = true → s.rope.amDue = true → exec .amSend s = .next
    { s with rope := { s.rope with amDue := false, amAt := s.time.root, amCount := (s.rope.amCount + 1) % 2 ^ 24 } }) ∧
  (∀ (s : State) (next pAck : Nat), (s.link = 4 ∨ s.link = 5) → exec (.ack next false pAck) s = .next (((s.ropeRelease
    next).exchanged).ropePAck pAck) ∧ exec (.ack next true pAck) s = .next ((((s.ropeRelease next).exchanged).ropePAck
    pAck).ropeReplay)) ∧
  (∀ (s : State) (cause : Nat), (s.link = 4 ∨ s.link = 5) → cause < 3 → exec (.ropeFrameBad false cause) s = .next (s.err pROPE
    0) ∧ exec (.ropeFrameBad true cause) s = .next ((s.err pROPE 0).ropeNak) ∧ exec (.ropeFrameBad true 3) s = .next s.ropeNak) ∧
  (∀ (s : State) (f : RopeFrame) (l : List RopeFrame), (s.link = 4 ∨ s.link = 5) → s.rope.held = f :: l → s.fabric ≥ f.sentAt +
    6000 → exec .ropeReplayTimeout s = .next
    (((({ s with rope := { s.rope with held := (f :: l).map fun (h : RopeFrame) => { h with sentAt := s.fabric } } } :
    State).err pROPE 1).errBy pROPE 2 (l.length + 1)))) ∧
  (∀ (s : State), s.rope.held = [] → exec .ropeReplayTimeout s = .next s) ∧
  (∀ (s : State) (q t : Nat) (b : List Byte), s.rope.yield' = some (q, b, t) → s.linkActive = true → s.fabric ≥ t + 1500 → exec
    .yieldRepeat s = .next { s with rope := { s.rope with yield' := some (q, b, s.fabric) } }) ∧
  (∀ (s : State) (i invalid : Nat), s.linkUp = true → i < 4 → hasLane (s.rp F.ROPE.ROPE_STATUS_RX_MASK) i = true → exec
    (.ropeLaneLost i true invalid) s = .next (((s.errBy pROPE 7 invalid).setFld pROPE (rlLOCK i) 0).ropeLose i)) ∧
  (∀ (s : State) (i : Nat), hasLane (s.rp F.ROPE.ROPE_STATUS_RX_MASK) i = true → s.ropeLose i = (((s.rxMask (s.rp
    F.ROPE.ROPE_STATUS_RX_MASK - 2 ^ i)).raise pROPE F.ROPE.intLANE_LOST).err pROPE 3).ropeAuto i) ∧
  (∀ (s : State) (i : Nat), s.bar pROPE = true → i < 4 → hasLane s.ropeUsable i = true → (s.rp F.ROPE.ROPE_STATUS_TRAINING ≠ 0 ∨
    s.linkActive = false ∨ lanes4 (dropLane (s.rp F.ROPE.ROPE_STATUS_TX_MASK) i) < s.rp F.ROPE.ROPE_CFG_MIN_LANES) → exec
    (.ropeRetrain i) s = .next (s.refuse pROPE Cls.conflict 0x12)) ∧
  (∀ (s : State) (i : Nat), s.bar pROPE = true → i < 4 → hasLane s.ropeUsable i = true → s.rp F.ROPE.ROPE_STATUS_TRAINING = 0 →
    s.linkActive = true → lanes4 (dropLane (s.rp F.ROPE.ROPE_STATUS_TX_MASK) i) ≥ s.rp F.ROPE.ROPE_CFG_MIN_LANES → exec
    (.ropeRetrain i) s = .next (s.ropeTrainLane i)) ∧
  (∀ (s : State) (i : Nat), hasLane s.ropeUsable i = false → exec (.ropeRetrain i) s = .next s) ∧
  (∀ (s t u v : State) (i : Nat), i < 4 → s.linkUp = true → hasLane (s.rp F.ROPE.ROPE_STATUS_TRAINING) i = true → s.rp (rlTRAINED
    i) = 1 → t = s.setFld pROPE F.ROPE.ROPE_STATUS_TRAINING 0 → u =
    (({ t with rope := { t.rope with tries := Tab.set 0 t.rope.tries i 0 } } : State).setFld pROPE (rlTRIES i) 0).raise pROPE
    F.ROPE.intLANE_RESTORED → v = u.rxMask (addLane (u.rp F.ROPE.ROPE_STATUS_RX_MASK) i) → exec (.ropeRetrainResult i) s = .next
    ((({ v with rope := { v.rope with laneBeat := Tab.set 0 v.rope.laneBeat i s.fabric } } : State).masks).ropeNext)) ∧
  (∀ (s t w u : State) (i k : Nat), i < 4 → s.linkUp = true → hasLane (s.rp F.ROPE.ROPE_STATUS_TRAINING) i = true → s.rp
    (rlTRAINED i) = 0 → s.fabric ≥ s.rope.trainAt + s.rp F.ROPE.ROPE_CFG_TRAIN_MS * 1500000 → t = s.setFld pROPE
    F.ROPE.ROPE_STATUS_TRAINING 0 → k = Tab.get 0 s.rope.tries i + 1 → w = t.err pROPE 5 → u =
    ({ w with rope := { w.rope with tries := Tab.set 0 w.rope.tries i k } } : State).setFld pROPE (rlTRIES i) (min k 7) → k ≥
    s.rp F.ROPE.ROPE_CFG_RETRAIN_TRIES → exec (.ropeRetrainResult i) s = .next (((((u.setFld pROPE (rlFAILED i) 1).raise pROPE
    F.ROPE.intLANE_FAILED).reason pROPE Cls.resource 0x14).laneTrainFailed (ropeLane i) true).ropeNext)) ∧
  (∀ (s t w u : State) (i k : Nat), i < 4 → s.linkUp = true → hasLane (s.rp F.ROPE.ROPE_STATUS_TRAINING) i = true → s.rp
    (rlTRAINED i) = 0 → s.fabric ≥ s.rope.trainAt + s.rp F.ROPE.ROPE_CFG_TRAIN_MS * 1500000 → t = s.setFld pROPE
    F.ROPE.ROPE_STATUS_TRAINING 0 → k = Tab.get 0 s.rope.tries i + 1 → w = t.err pROPE 5 → u =
    ({ w with rope := { w.rope with tries := Tab.set 0 w.rope.tries i k } } : State).setFld pROPE (rlTRIES i) (min k 7) → k <
    s.rp F.ROPE.ROPE_CFG_RETRAIN_TRIES → exec (.ropeRetrainResult i) s = .next (((u.laneTrainFailed (ropeLane i)
    false).ropeNext).ropeAuto i)) ∧
  (∀ (s : State), s.bar pROPE = true → s.bit pROPE F.ROPE.MBOX_STATUS_TX_BUSY = false → s.linkActive = true → exec .mboxSend s =
    .next ((s.setFld pROPE F.ROPE.MBOX_STATUS_TX_BUSY 1).ropeSend 0x02 ((List.range 16).flatMap fun i => beBytes (s.rp
    (F.ROPE.MBOX_TX i)) 4))) ∧
  (∀ (s : State), (s.bit pROPE F.ROPE.MBOX_STATUS_TX_BUSY = true ∨ s.linkActive = false) → exec .mboxSend s = .next s)

/-- The pair: claims, output roles, planned switch-over and the witness. -/
def Obligations.PairRolesAndSwitchOver : Prop :=
  (∀ (s u v : State) (seq claim : Nat) (primary active : Bool), (s.link = 4 ∨ s.link = 5) → seq = s.fld pROPE
    F.ROPE.SEQ_STATUS_RX_NEXT → u = s.ropeTook seq → u.pairOn = true → v = u.learnClaim claim primary → v.pair.exchange = false
    → exec (.claimMsg seq claim primary active false) s = .next { v with pair := { v.pair with peerYielded := false } }) ∧
  (∀ (s u v : State) (seq claim : Nat) (primary active : Bool), (s.link = 4 ∨ s.link = 5) → seq = s.fld pROPE
    F.ROPE.SEQ_STATUS_RX_NEXT → u = s.ropeTook seq → u.pairOn = true → v = u.learnClaim claim primary → v.pair.exchange = true →
    exec (.claimMsg seq claim primary active false) s = .next (({ v with pair := { v.pair with peerYielded := false } } :
    State).claimExchange claim primary false)) ∧
  (∀ (c1 c2 : Nat) (p1 p2 : Bool), (outranks c1 p1 false c2 p2 false = true ↔ c1 > c2 ∨ (c1 = c2 ∧ p1 = true ∧ p2 = false)) ∧
    outranks c1 p1 false c2 p2 true = true ∧ outranks c1 p1 true c2 p2 false = false) ∧
  (∀ (s u v : State) (p claim : Nat) (l : List (Nat × Nat)) (drain : Bool), s.linkActive = true → p % 256 ≠ s.rope.pRx → u =
    { s with rope := { s.rope with pRx := p % 256 } } → u.pairOn = true → v = (u.learnClaim claim u.pair.peerPrimary).dropSwitch
    → v.isActive = false → v.yielded = false → exec (.yieldMsg p claim drain l) s = .next
    ((({ v with pair := { v.pair with peerYielded := true } } : State).becomeActive claim 1 (u.yieldSeq drain l)).chansOn.foldl
    (fun t c => if t.chStep c = ncInStep then t else t.requestRefresh c 0)
    (({ v with pair := { v.pair with peerYielded := true } } : State).becomeActive claim 1 (u.yieldSeq drain l)))) ∧
  (∀ (s : State) (p claim : Nat) (l : List (Nat × Nat)) (drain : Bool), (s.linkActive = false ∨ p % 256 = s.rope.pRx) → exec
    (.yieldMsg p claim drain l) s = .next s) ∧
  (∀ (s u v : State) (seq claim : Nat), (s.link = 4 ∨ s.link = 5) → seq = s.fld pROPE F.ROPE.SEQ_STATUS_RX_NEXT → u = s.ropeTook
    seq → u.pairOn = true → u.isActive = true → v = u.learnClaim claim u.pair.peerPrimary → (v.stepState ≠ 2 ∨
    v.pair.peerYielded = true ∨ v.countsOff (pGRP v.refGroup) = true) → exec (.handoverReq seq claim) s = .next (v.sendHandover
    0)) ∧
  (∀ (s u v : State) (seq claim : Nat), (s.link = 4 ∨ s.link = 5) → seq = s.fld pROPE F.ROPE.SEQ_STATUS_RX_NEXT → u = s.ropeTook
    seq → u.pairOn = true → u.isActive = true → v = u.learnClaim claim u.pair.peerPrimary → v.stepState = 2 → v.pair.peerYielded
    = false → v.countsOff (pGRP v.refGroup) = false → exec (.handoverReq seq claim) s = .next v.startSwitch) ∧
  (∀ (s u v : State) (seq claim : Nat), (s.link = 4 ∨ s.link = 5) → seq = s.fld pROPE F.ROPE.SEQ_STATUS_RX_NEXT → u = s.ropeTook
    seq → u.pairOn = true → u.isActive = false → v = u.learnClaim claim u.pair.peerPrimary → exec (.handover seq 0 claim) s =
    .next (({ v with pair := { v.pair with inStepAt := u.now, revert := false } } : State).refuse pPAIR Cls.conflict 0x12)) ∧
  (∀ (s u v : State) (seq claim fs : Nat), (s.link = 4 ∨ s.link = 5) → seq = s.fld pROPE F.ROPE.SEQ_STATUS_RX_NEXT → u =
    s.ropeTook seq → u.pairOn = true → u.isActive = false → v = u.learnClaim claim u.pair.peerPrimary → v.yielded = false → fs ≠
    0 → exec (.handover seq fs claim) s = .next (({ v with pair := { v.pair with inStepAt := u.now } } : State).setSwitch fs
    false claim)) ∧
  (∀ (s : State), s.pairOn = true → s.ownPrimary = true → s.isActive = false → s.yielded = false → s.bit pPAIR
    F.PAIR.PAIR_CFG_REVERT = true → s.pair.revert = false → s.pair.fs = none → s.stepState = 2 → s.fld pPAIR F.PAIR.HOLD_OFF_MS
    ≤ s.inStepMs → exec .revert s = .next (({ s with pair := { s.pair with revert := true } } : State).sendHandoverReq)) ∧
  (∀ (s : State), (s.isActive = true ∨ s.bit pPAIR F.PAIR.PAIR_CFG_REVERT = false ∨ s.inStepMs < s.fld pPAIR F.PAIR.HOLD_OFF_MS)
    → exec .revert s = .next s) ∧
  (∀ (s : State), s.bar pPAIR = true → s.pairOn = true → s.stepState ≠ 2 → exec .pairCtrlHandover s = .next (s.refuse pPAIR
    Cls.conflict 0x12)) ∧
  (∀ (s : State), s.bar pPAIR = true → s.pairOn = true → s.stepState = 2 → s.countsOff (pGRP s.refGroup) = true → exec
    .pairCtrlHandover s = .next (s.refuse pPAIR Cls.timing 0x0D)) ∧
  (∀ (s : State), s.bar pPAIR = true → s.pairOn = true → s.stepState = 2 → s.countsOff (pGRP s.refGroup) = false →
    (s.frameStartFrom s.refGroup s.now).isNone = false → s.isActive = true → exec .pairCtrlHandover s = .next s.startSwitch) ∧
  (∀ (s : State), s.bar pPAIR = true → s.pairOn = true → s.stepState = 2 → s.countsOff (pGRP s.refGroup) = false →
    (s.frameStartFrom s.refGroup s.now).isNone = false → s.isActive = false → exec .pairCtrlHandover s = .next
    (({ s with pair := { s.pair with revert := false } } : State).sendHandoverReq)) ∧
  (∀ (s : State), s.bar pPAIR = true → s.pairOn = true → s.isActive = false → exec .yieldNow s = .next (s.refuse pPAIR
    Cls.conflict 0x13)) ∧
  (∀ (s : State), s.bar pPAIR = true → s.pairOn = true → s.isActive = true → exec .yieldNow s = .next (s.fatal 7)) ∧
  (∀ (s u : State) (b : Nat), s.pairOn = true → s.fld pPAIR F.PAIR.PAIR_CFG_FATAL_MASK / 2 ^ b % 2 = 1 → s.isActive = true → u =
    ((((s.setFld pPAIR F.PAIR.PAIR_STATUS_YIELDED 1).raise pPAIR F.PAIR.intYIELDED).ropeYield s.yieldBody).becomeStandby 7) →
    s.fatal b = u.logEv pPAIR F.PAIR.intYIELDED 5 0 u.roleData) ∧
  (∀ (s : State), s.bar pPAIR = true → s.pairOn = true → exec .clearYield s = .next ((s.setFld pPAIR F.PAIR.PAIR_STATUS_YIELDED
    0).sendClaim)) ∧
  (∀ (s : State), s.pairOn = false → exec .clearYield s = .next s ∧ exec .yieldNow s = .next s ∧ exec .joinNow s = .next s ∧ exec
    .pairCtrlHandover s = .next s ∧ exec .revert s = .next s ∧ exec .witnessTimeout s = .next s) ∧
  (∀ (s : State) (r : Nat) (v : Word), s.bar pPAIR = true → s.st pPAIR ≠ stOff → exec (.pairCfgWrite r v) s = .next (s.reason
    pPAIR Cls.locked 0x07)) ∧
  (∀ (s : State) (v : Word), s.bar pPAIR = true → s.st pPAIR = stOff → exec (.pairCfgWrite 0 v) s = .next (s.setReg
    (F.PAIR.PAIR_CFG.addr pPAIR) (v &&& 0x0007FFFF#32)) ∧ exec (.pairCfgWrite 1 v) s = .next (s.setFld pPAIR F.PAIR.CLAIM_INIT
    v.toNat)) ∧
  (∀ (s : State), s.witnessDue = true → s.linkActive = true → exec .witnessTimeout s = .next
    (({ s with pair := { s.pair with silent := some s.pair.echoAt } } : State).raise pPAIR F.PAIR.intECHO_SILENT)) ∧
  (∀ (s : State), s.witnessDue = true → s.linkActive = false → s.yielded = true → exec .witnessTimeout s = .next s) ∧
  (∀ (s u : State), s.witnessDue = true → s.linkActive = false → s.yielded = false → u = (s.becomeActive s.peerClaim 4 fun _ =>
    none).err pPAIR 4 → exec .witnessTimeout s = .next (({ u with pair := { u.pair with witness := true } } :
    State).chansOn.foldl (fun t c => if (t.chanOf c).pair.stepAtCut then t else t.requestRefresh c 0)
    ({ u with pair := { u.pair with witness := true } } : State)))

/-- The pair: lockstep of channels. -/
def Obligations.PairStepsAndJoins : Prop :=
  (∀ (s u : State) (seq : Nat) (l : List (Nat × Nat × Nat × Nat × Nat)), (s.link = 4 ∨ s.link = 5) → seq = s.fld pROPE
    F.ROPE.SEQ_STATUS_RX_NEXT → u = s.ropeTook seq → u.pairOn = true → exec (.digest seq l) s = .next (l.foldl (fun t e =>
    (t.takeBits e.1 e.2.2.1 e.2.1 e.2.2.2.2).peerDigest e.1 ⟨e.2.2.1, e.2.1, e.2.2.2.1, e.2.2.2.2, 0⟩) u)) ∧
  (∀ (s : State) (c : Nat) (d e : RowDigest), d.digest = e.digest → s.chStep c = ncJoining → s.compareDigests c d e = ((s.updChan
    c fun x => { x with pair := { x.pair with join := none, sender := false, take := [], decisions := [] } }).setStep c
    ncInStep).raise pPAIR F.PAIR.intJOIN_DONE) ∧
  (∀ (s : State) (c : Nat) (d e : RowDigest), d.digest = e.digest → s.chStep c = ncNotCompared → s.compareDigests c d e =
    s.setStep c ncInStep) ∧
  (∀ (s : State) (c : Nat) (d e : RowDigest), d.digest ≠ e.digest → s.compareDigests c d e = s.outOfStep c d.k d.n 0) ∧
  (∀ (s : State) (c k n : Nat), (s.chStep c = ncNotCompared ∨ s.chStep c = ncInStep) → s.outOfStep c k n 0 = ((((((((s.updChan c
    fun x => { x with pair := { x.pair with own := [], peer := [] } }).setStep c ncOutOfStep).raise pPAIR
    F.PAIR.intMISMATCH).mismatchInfo c k n 0).err pPAIR 0).sendStep c 0 n k)).wantJoin c)) ∧
  (∀ (s : State) (c : Nat) (d : RowDigest) (l : List RowDigest), (s.chanOf c).pair.own = d :: l → s.pairOn = true → s.linkActive
    = true → d.due ≤ s.now * 1000 → exec (.digestLate c) s = .next ((s.updChan c fun x =>
    { x with pair := { x.pair with own := l } }).outOfStep c d.k d.n 1)) ∧
  (∀ (s : State) (c : Nat), (s.chanOf c).pair.own = [] → exec (.digestLate c) s = .next s) ∧
  (∀ (s u : State) (seq c cause n k : Nat), (s.link = 4 ∨ s.link = 5) → seq = s.fld pROPE F.ROPE.SEQ_STATUS_RX_NEXT → u =
    s.ropeTook seq → u.pairOn = true → c < 64 → cause < 4 → u.chanOn c = true → exec (.stepMsg seq c cause n k) s = .next
    (u.outOfStep c k n 2)) ∧
  (∀ (s u : State) (seq c : Nat), (s.link = 4 ∨ s.link = 5) → seq = s.fld pROPE F.ROPE.SEQ_STATUS_RX_NEXT → u = s.ropeTook seq →
    u.pairOn = true → c < 64 → u.isActive = true → u.chanOn c = true → exec (.joinReq seq c) s = .next (u.requestRefresh c 0)) ∧
  (∀ (s u : State) (seq c : Nat), (s.link = 4 ∨ s.link = 5) → seq = s.fld pROPE F.ROPE.SEQ_STATUS_RX_NEXT → u = s.ropeTook seq →
    u.pairOn = true → u.isActive = false → exec (.joinReq seq c) s = .next u) ∧
  (∀ (s : State), s.bar pPAIR = true → s.pairOn = true → exec .joinNow s = .next ((s.chansOn.filter fun c => s.chStep c ==
    ncOutOfStep).foldl (fun t c => t.ropeSend 0x13 [BitVec.ofNat 8 c, 0, 0, 0]) s)) ∧
  (∀ (s u : State) (seq : Nat) (m : SnapshotMsg), (s.link = 4 ∨ s.link = 5) → seq = s.fld pROPE F.ROPE.SEQ_STATUS_RX_NEXT → u =
    s.ropeTook seq → u.pairOn = true → m.chan < 64 → u.isActive = false → u.chanOn m.chan = true → u.chStep m.chan = ncOutOfStep
    → u.snapshotInTime m.chan m.n0 = false → exec (.snapshot seq m) s = .next (u.joinFailed m.chan 0 m.n0 3 true)) ∧
  (∀ (s u v : State) (seq : Nat) (m : SnapshotMsg) (x : PicRec), (s.link = 4 ∨ s.link = 5) → seq = s.fld pROPE
    F.ROPE.SEQ_STATUS_RX_NEXT → u = s.ropeTook seq → u.pairOn = true → m.chan < 64 → u.isActive = false → u.chanOn m.chan = true
    → u.chStep m.chan = ncOutOfStep → u.snapshotInTime m.chan m.n0 = true → v = (u.takeSnapshot m).forceRefresh m.chan m.n0 (if
    m.kind = 0 then 0 else 1) → v.picRec m.chan m.n0 = some x → exec (.snapshot seq m) s = .next ((v.updChan m.chan fun y =>
    { y with pair := { y.pair with join := some (m.n0, lastRefresh x), sender := false, own := [], peer := [], take := [], decisions := [], failed := none } }).setStep
    m.chan ncJoining)) ∧
  (∀ (s u : State) (seq c n k cap qp e : Nat) (floor : Bool), (s.link = 4 ∨ s.link = 5) → seq = s.fld pROPE
    F.ROPE.SEQ_STATUS_RX_NEXT → u = s.ropeTook seq → u.pairOn = true → c < 64 → u.receiving c n = true → u.picRec c n = none →
    exec (.decision seq c n k cap qp floor e) s = .next (u.updChan c fun y =>
    { y with pair := { y.pair with decisions := y.pair.decisions ++ [⟨n, k, cap, qp, floor, e⟩] } })) ∧
  (∀ (s u : State) (seq c n k cap qp e : Nat) (floor : Bool) (x : PicRec), (s.link = 4 ∨ s.link = 5) → seq = s.fld pROPE
    F.ROPE.SEQ_STATUS_RX_NEXT → u = s.ropeTook seq → u.pairOn = true → c < 64 → u.receiving c n = true → u.picRec c n = some x →
    u.outPs c x k < u.nowPs → exec (.decision seq c n k cap qp floor e) s = .next (u.joinFailed c k n 3 true)) ∧
  (∀ (s u : State) (seq c n k cap qp e : Nat) (floor : Bool), (s.link = 4 ∨ s.link = 5) → seq = s.fld pROPE
    F.ROPE.SEQ_STATUS_RX_NEXT → u = s.ropeTook seq → u.pairOn = true → u.receiving c n = false → exec (.decision seq c n k cap
    qp floor e) s = .next u) ∧
  (∀ (s : State) (c : Nat), c < 64 → exec (.retainExpiry c) s = .next (s.updChan c fun x =>
    { x with out := { x.out with retained := (s.chanOf c).out.retained.filter fun p => decide (s.now < p.at' + 16384) } }))

/-- The queue commands of TSCH (R342, R343). -/
def Obligations.QueueCommandsOfTheScheduler : Prop :=
  (∀ (s : State) (q x : Nat), s.bar pTSCH = true → s.tsch.disabling = some x → exec (.enableQueue q) s = .next (s.reason pTSCH
    Cls.conflict 0x13) ∧ exec (.disableQueue q) s = .next (s.reason pTSCH Cls.conflict 0x13) ∧ exec (.setShaper q) s = .next
    (s.reason pTSCH Cls.conflict 0x13) ∧ exec (.returnQueue q) s = .next (s.reason pTSCH Cls.conflict 0x13)) ∧
  (∀ (s : State) (q : Nat), s.bar pTSCH = true → s.tsch.disabling = none → q ≥ 8192 → exec (.enableQueue q) s = .next ((s.qBegin
    q 1).qCapacity 0x11 q) ∧ exec (.returnQueue q) s = .next ((s.qBegin q 4).qCapacity 0x11 q)) ∧
  (∀ (s u : State) (q : Nat), s.bar pTSCH = true → s.tsch.disabling = none → q < 8192 → u = s.qBegin q 1 → u.qOutOfRange q
    (u.qfld F.QTAB.Q_RATE_KBPS q) (u.qfld F.QTAB.Q_BURST_BYTES q) = true → exec (.enableQueue q) s = .next (u.qFail Cls.range
    0x10)) ∧
  (∀ (s u : State) (q : Nat), s.bar pTSCH = true → s.tsch.disabling = none → q < 8192 → u = s.qBegin q 1 → u.qOutOfRange q
    (u.qfld F.QTAB.Q_RATE_KBPS q) (u.qfld F.QTAB.Q_BURST_BYTES q) = false → u.qNamesAbsent q = true → exec (.enableQueue q) s =
    .next (u.qFail Cls.absent 0x05)) ∧
  (∀ (s u : State) (q : Nat), s.bar pTSCH = true → s.tsch.disabling = none → q < 8192 → u = s.qBegin q 1 → u.qOutOfRange q
    (u.qfld F.QTAB.Q_RATE_KBPS q) (u.qfld F.QTAB.Q_BURST_BYTES q) = false → u.qNamesAbsent q = false → u.qEn q = true → exec
    (.enableQueue q) s = .next (u.qFail Cls.conflict 0x14)) ∧
  (∀ (s u : State) (q : Nat), s.bar pTSCH = true → s.tsch.disabling = none → q < 8192 → u = s.qBegin q 1 → u.qOutOfRange q
    (u.qfld F.QTAB.Q_RATE_KBPS q) (u.qfld F.QTAB.Q_BURST_BYTES q) = false → u.qNamesAbsent q = false → u.qEn q = false →
    u.poolUsed + u.qfld F.QTAB.Q_BUF_KIB q > 12288 → exec (.enableQueue q) s = .next (u.qCapacity 0x0C (u.poolUsed + u.qfld
    F.QTAB.Q_BUF_KIB q))) ∧
  (∀ (s u : State) (q : Nat), s.bar pTSCH = true → s.tsch.disabling = none → q < 8192 → u = s.qBegin q 1 → u.qOutOfRange q
    (u.qfld F.QTAB.Q_RATE_KBPS q) (u.qfld F.QTAB.Q_BURST_BYTES q) = false → u.qNamesAbsent q = false → u.qEn q = false →
    u.poolUsed + u.qfld F.QTAB.Q_BUF_KIB q ≤ 12288 → exec (.enableQueue q) s = .next ((((u.setQfld F.QTAB.Q_CTRL_EN q 1).setQfld
    F.QTAB.Q_CTRL_ON_ALT q 0).resetTokens q).qDone)) ∧
  (∀ (s u : State) (q : Nat), s.bar pTSCH = true → s.tsch.disabling = none → q < 8192 → u = s.qBegin q 3 → u.qOutOfRange q (u.fld
    pTSCH F.TSCH.SHAPE_RATE_KBPS) (u.fld pTSCH F.TSCH.SHAPE_BURST_BYTES) = false → u.qNamesAbsent q = false → u.qEn q = true →
    exec (.setShaper q) s = .next ((((u.setQfld F.QTAB.Q_RATE_KBPS q (u.fld pTSCH F.TSCH.SHAPE_RATE_KBPS)).setQfld
    F.QTAB.Q_BURST_BYTES q (u.fld pTSCH F.TSCH.SHAPE_BURST_BYTES)).resetTokens q).qDone)) ∧
  (∀ (s u : State) (q : Nat), s.bar pTSCH = true → s.tsch.disabling = none → q < 8192 → u = s.qBegin q 3 → u.qOutOfRange q (u.fld
    pTSCH F.TSCH.SHAPE_RATE_KBPS) (u.fld pTSCH F.TSCH.SHAPE_BURST_BYTES) = false → u.qNamesAbsent q = false → u.qEn q = false →
    exec (.setShaper q) s = .next (u.qFail Cls.conflict 0x14)) ∧
  (∀ (s u : State) (q : Nat), s.bar pTSCH = true → s.tsch.disabling = none → q < 8192 → u = s.qBegin q 2 → u.qfld
    F.QTAB.Q_OWNER_KIND q ≠ 0 → exec (.disableQueue q) s = .next (u.qFail Cls.conflict 0x12)) ∧
  (∀ (s u v : State) (q : Nat), s.bar pTSCH = true → s.tsch.disabling = none → q < 8192 → u = s.qBegin q 2 → u.qfld
    F.QTAB.Q_OWNER_KIND q = 0 → v = ((u.setQfld F.QTAB.Q_CTRL_EN q 0).qDiscard q).setQueue q
    { ((u.setQfld F.QTAB.Q_CTRL_EN q 0).qDiscard q).queueOf q with tokens := u.tokensNow q, tokAt := u.fabric, returning := false }
    → exec (.disableQueue q) s = .next (if v.sendingQueue q then { v with tsch := { v.tsch with disabling := some q } } else
    v.qDone)) ∧
  (∀ (s : State) (q : Nat), s.tsch.disabling = some q → s.sendingQueue q = false → exec .disableComplete s = .next
    (({ s with tsch := { s.tsch with disabling := none } } : State).opEndOf pTSCH 5 opCompleted)) ∧
  (∀ (s : State) (q : Nat), s.tsch.disabling = some q → s.sendingQueue q = true → exec .disableComplete s = .next s) ∧
  (∀ (s u : State) (q : Nat), s.bar pTSCH = true → s.tsch.disabling = none → q < 8192 → u = s.qBegin q 4 → u.portUp (u.qfld
    F.QTAB.Q_CTRL_PORT q) = false → exec (.returnQueue q) s = .next (u.qFail Cls.dependency 0x18)) ∧
  (∀ (s u : State) (q : Nat), s.bar pTSCH = true → s.tsch.disabling = none → q < 8192 → u = s.qBegin q 4 → u.portUp (u.qfld
    F.QTAB.Q_CTRL_PORT q) = true → u.qEn q = true → u.sendingQueue q = false → exec (.returnQueue q) s = .next ((u.toPort
    q).qDone))

/-- Frames and time gates of TSCH. -/
def Obligations.FramesAndGatesOfTheScheduler : Prop :=
  (∀ (s : State) (f : Frame) (r : List Frame), s.tsch.handoff = f :: r → exec .frameHandoff s = .next
    (({ s with tsch := { s.tsch with handoff := r } } : State).handFrame f)) ∧
  (∀ (s : State), s.tsch.handoff = [] → exec .frameHandoff s = .next s) ∧
  (∀ (s : State) (f : Frame), (s.works pTSCH = false ∨ f.queue ≥ 8192 ∨ s.qEn f.queue = false) → s.handFrame f = s.qRefuse f 6) ∧
  (∀ (s : State) (f : Frame), s.works pTSCH = true → f.queue < 8192 → s.qEn f.queue = true → f.len > s.qfld
    F.QTAB.Q_CTRL_MAX_FRAME f.queue → s.handFrame f = s.qRefuse f 1) ∧
  (∀ (s : State) (f : Frame), s.works pTSCH = true → f.queue < 8192 → s.qEn f.queue = true → f.len ≤ s.qfld
    F.QTAB.Q_CTRL_MAX_FRAME f.queue → s.qfld F.QTAB.Q_OCC_BYTES f.queue + (f.len + 64) > s.qfld F.QTAB.Q_BUF_KIB f.queue * 1024
    → s.handFrame f = s.qRefuse f 0) ∧
  (∀ (s : State) (f : Frame), s.works pTSCH = true → f.queue < 8192 → s.qEn f.queue = true → f.len ≤ s.qfld
    F.QTAB.Q_CTRL_MAX_FRAME f.queue → s.qfld F.QTAB.Q_OCC_BYTES f.queue + (f.len + 64) ≤ s.qfld F.QTAB.Q_BUF_KIB f.queue * 1024
    → s.portUp (s.qPort f.queue) = false → s.handFrame f = s.qRefuse f 2) ∧
  (∀ (s u : State) (f : Frame), s.works pTSCH = true → f.queue < 8192 → s.qEn f.queue = true → f.len ≤ s.qfld
    F.QTAB.Q_CTRL_MAX_FRAME f.queue → s.qfld F.QTAB.Q_OCC_BYTES f.queue + (f.len + 64) ≤ s.qfld F.QTAB.Q_BUF_KIB f.queue * 1024
    → s.portUp (s.qPort f.queue) = true → u = (s.setQueue f.queue
    { s.queueOf f.queue with frames := (s.queueOf f.queue).frames ++ [f] }).setQfld F.QTAB.Q_OCC_BYTES f.queue (s.qfld
    F.QTAB.Q_OCC_BYTES f.queue + (f.len + 64)) → u.headTooLong (u.qPort f.queue) f.queue = false → s.handFrame f = u) ∧
  (∀ (s u v : State) (p q : Nat) (f : Frame) (r : List Frame), p < 8 → s.works pTSCH = true → (s.portOf p).sending = none → u =
    s.purgePort p → u.nextQueue p = some q → (u.queueOf q).frames = f :: r → v = u.setQueue q
    { u.queueOf q with frames := r, tokens := u.tokensNow q - (f.len * 12000000 : Nat), tokAt := u.fabric } → exec
    (.frameTransmitStart p) s = .next (v.setPort p
    { v.portOf p with sending := some (q, f.withSource (u.portMac p)), last := Tab.set 0 (v.portOf p).last (u.qfld F.QTAB.Q_CTRL_CLASS q) (q + 1) })) ∧
  (∀ (s : State) (p : Nat), (s.portOf p).sending.isSome = true → exec (.frameTransmitStart p) s = .next s) ∧
  (∀ (s u : State) (p : Nat) (c d : Nat), s.bar pTSCH = true → p < 8 → s.works pTSCH = true → u = s.opBegin pTSCH 6 → u.readGate
    p = .error (c, d) → exec (.gateSwap p) s = .next (((if c = Cls.resource then u.noteRead (u.addr36 pTSCH (F.TSCH.GL_BASE_LO
    p)) 8256 else u).refuse pTSCH c d).opEndOf pTSCH 6 opRefused)) ∧
  (∀ (s u : State) (p : Nat) (g : Option GateList), s.bar pTSCH = true → p < 8 → s.works pTSCH = true → u = s.opBegin pTSCH 6 →
    u.readGate p = .ok g → s.running = false → exec (.gateSwap p) s = .next ((u.refuse pTSCH Cls.dependency 0x06).opEndOf pTSCH
    6 opRefused)) ∧
  (∀ (s u : State) (p t : Nat) (g : Option GateList), s.bar pTSCH = true → p < 8 → s.works pTSCH = true → u = s.opBegin pTSCH 6 →
    u.readGate p = .ok g → s.running = true → (s.portOf p).swap = none → t = swapAt (s.portOf p).gate g s.now → exec (.gateSwap
    p) s = .next (((u.setPort p { s.portOf p with swap := some (g, t) }).setFld pTSCH (F.TSCH.GATE_STATUS_PENDING p) 1).put64L
    pTSCH (F.TSCH.SWAP_AT_LO p) t)) ∧
  (∀ (s u : State) (p : Nat) (g : Option GateList), s.bar pTSCH = true → p < 8 → s.works pTSCH = true → u = s.opBegin pTSCH 6 →
    u.readGate p = .ok g → s.running = true → (s.portOf p).swap.isSome = true → exec (.gateSwap p) s = .next ((u.refuse pTSCH
    Cls.conflict 0x17).opEndOf pTSCH 6 opRefused)) ∧
  (∀ (s : State) (p t : Nat) (g : Option GateList), s.bar pTSCH = true → p < 8 → (s.portOf p).swap = some (g, t) → s.now < t →
    exec (.gateCancel p) s = .next ((s.swapGone p).opEndOf pTSCH 6 opAborted)) ∧
  (∀ (s : State) (p t : Nat) (g : Option GateList), s.bar pTSCH = true → p < 8 → (s.portOf p).swap = some (g, t) → s.now ≥ t →
    exec (.gateCancel p) s = .next (s.reason pTSCH Cls.none 0x01)) ∧
  (∀ (s : State) (p t : Nat) (g : Option GateList), (s.portOf p).swap = some (g, t) → s.running = true → t ≤ s.now → exec
    (.gateSwapped p) s = .next (s.gateSwapped p g)) ∧
  (∀ (s : State) (p : Nat), (s.portOf p).swap = none → exec (.gateSwapped p) s = .next s) ∧
  (∀ (s : State) (p : Nat), s.running = true → (s.portOf p).gate.isSome = true → exec (.gateEntryChange p) s = .next (s.setFld
    pTSCH (F.TSCH.GATE_STATUS_ENTRY p) (s.entryNow p)))

/-- ADAPT_WINDOW_END of TRACK and FROZEN lanes, FREEZE and UNFREEZE (R358). -/
def Obligations.LanesFreezeAndResume : Prop :=
  (∀ (s u v w : State) (n d b : Nat) (dp : Int) (dt : List Int), n < 38 → laneRx n = true → s.works (pLANE n) = true →
    s.laneState (pLANE n) = laTrack → (d < s.fld (pLANE n) F.LANE.ADAPT_THRESH_DENSITY_MIN ∨ b < s.fld (pLANE n)
    F.LANE.ADAPT_THRESH_BAL_MIN) → u = (s.setFld (pLANE n) F.LANE.ADAPT_STATS_DENSITY d).setFld (pLANE n)
    F.LANE.ADAPT_STATS_BALANCE b → v = (if u.bit (pLANE n) F.LANE.LANE_CFG_BOUND_EN && u.outOfBounds n then u.boundRevert n else
    u) → w = (if (v.laneOf n).snap = true then v.laneBaseline (pLANE n) else v) → d ≤ 4096 → b ≤ 4096 → exec (.adaptWindowEnd n
    d b dp dt) s = .next (((w.setLane n { w.laneOf n with snap := false }).setFld (pLANE n) F.LANE.LANE_STATUS_GOOD_WINDOWS
    0).laneFreeze n)) ∧
  (∀ (s u : State) (n d b : Nat) (dp : Int) (dt : List Int), n < 38 → laneRx n = true → s.works (pLANE n) = true → s.laneState
    (pLANE n) = laFrozen → d ≤ 4096 → b ≤ 4096 → (d < s.fld (pLANE n) F.LANE.ADAPT_THRESH_DENSITY_MIN ∨ b < s.fld (pLANE n)
    F.LANE.ADAPT_THRESH_BAL_MIN) → u = (s.setFld (pLANE n) F.LANE.ADAPT_STATS_DENSITY d).setFld (pLANE n)
    F.LANE.ADAPT_STATS_BALANCE b → exec (.adaptWindowEnd n d b dp dt) s = .next ((u.setLane n
    { u.laneOf n with snap := false }).setFld (pLANE n) F.LANE.LANE_STATUS_GOOD_WINDOWS 0)) ∧
  (∀ (s u : State) (n d b : Nat) (dp : Int) (dt : List Int), n < 38 → laneRx n = true → s.works (pLANE n) = true → s.laneState
    (pLANE n) = laFrozen → d ≤ 4096 → b ≤ 4096 → d ≥ s.fld (pLANE n) F.LANE.ADAPT_THRESH_DENSITY_MIN → b ≥ s.fld (pLANE n)
    F.LANE.ADAPT_THRESH_BAL_MIN → u = (s.setFld (pLANE n) F.LANE.ADAPT_STATS_DENSITY d).setFld (pLANE n)
    F.LANE.ADAPT_STATS_BALANCE b → (s.fld (pLANE n) F.LANE.LANE_STATUS_GOOD_WINDOWS + 1 < 16 ∨ s.bit (pLANE n)
    F.LANE.LANE_STATUS_HOST_HOLD = true) → exec (.adaptWindowEnd n d b dp dt) s = .next ((u.setLane n
    { u.laneOf n with snap := false }).setFld (pLANE n) F.LANE.LANE_STATUS_GOOD_WINDOWS (min 16 (s.fld (pLANE n)
    F.LANE.LANE_STATUS_GOOD_WINDOWS + 1)))) ∧
  (∀ (s u : State) (n d b : Nat) (dp : Int) (dt : List Int), n < 38 → laneRx n = true → s.works (pLANE n) = true → s.laneState
    (pLANE n) = laFrozen → d ≤ 4096 → b ≤ 4096 → d ≥ s.fld (pLANE n) F.LANE.ADAPT_THRESH_DENSITY_MIN → b ≥ s.fld (pLANE n)
    F.LANE.ADAPT_THRESH_BAL_MIN → u = (s.setFld (pLANE n) F.LANE.ADAPT_STATS_DENSITY d).setFld (pLANE n)
    F.LANE.ADAPT_STATS_BALANCE b → s.fld (pLANE n) F.LANE.LANE_STATUS_GOOD_WINDOWS + 1 ≥ 16 → s.bit (pLANE n)
    F.LANE.LANE_STATUS_HOST_HOLD = false → exec (.adaptWindowEnd n d b dp dt) s = .next ((((u.setLane n
    { u.laneOf n with snap := false }).setFld (pLANE n) F.LANE.LANE_STATUS_GOOD_WINDOWS 16).laneTo (pLANE n) laTrack).raise
    (pLANE n) F.LANE.intRESUMED)) ∧
  (∀ (s : State) (n : Nat), s.bar (pLANE n) = true → n < 38 → s.works (pLANE n) = true → s.laneState (pLANE n) = laTrack → exec
    (.freeze n) s = .next ((s.laneFreeze n).setFld (pLANE n) F.LANE.LANE_STATUS_HOST_HOLD 1)) ∧
  (∀ (s : State) (n : Nat), s.bar (pLANE n) = true → n < 38 → s.works (pLANE n) = true → s.laneState (pLANE n) ≠ laTrack → exec
    (.freeze n) s = .next s) ∧
  (∀ (s : State) (n : Nat), s.bar (pLANE n) = true → n < 38 → s.works (pLANE n) = true → exec (.unfreeze n) s = .next ((s.setFld
    (pLANE n) F.LANE.LANE_STATUS_HOST_HOLD 0).setFld (pLANE n) F.LANE.LANE_STATUS_GOOD_WINDOWS 0)) ∧
  (∀ (s : State) (n : Nat), s.bit (pLANE n) F.LANE.ES_STATUS_BUSY = false → s.laneFreeze n = (((s.laneTo (pLANE n)
    laFrozen).raise (pLANE n) F.LANE.intFROZE).err (pLANE n) 0)) ∧
  (∀ (s : State) (n d b : Nat) (dp : Int) (dt : List Int), (4096 < d ∨ 4096 < b) → exec (.adaptWindowEnd n d b dp dt) s = .next s)

/-- The test controls of a lane. -/
def Obligations.LaneTestsAndEyeScan : Prop :=
  (∀ (s : State) (n : Nat), s.bar (pLANE n) = true → n < 38 → s.works (pLANE n) = true → s.laneState (pLANE n) = laTrack → exec
    (.snapshotBaseline n) s = .next (s.setLane n { s.laneOf n with snap := true })) ∧
  (∀ (s : State) (n : Nat), s.bar (pLANE n) = true → n < 38 → s.works (pLANE n) = true → s.laneState (pLANE n) ≠ laTrack → exec
    (.snapshotBaseline n) s = .next s) ∧
  (∀ (s : State) (n : Nat), s.bar (pLANE n) = true → n < 38 → s.works (pLANE n) = true → laneTx n = true → s.fld (pLANE n)
    F.LANE.LANE_CFG_LOOPBACK ≠ 1 → exec (.injectSingle n) s = .next (s.errBy (pLANE n) 4 1) ∧ exec (.injectBurst n) s = .next
    (s.errBy (pLANE n) 4 (s.fld (pLANE n) F.LANE.TEST_CFG_BURST_LEN))) ∧
  (∀ (s : State) (n : Nat), s.bar (pLANE n) = true → n < 38 → s.works (pLANE n) = true → laneTx n = true → s.fld (pLANE n)
    F.LANE.LANE_CFG_LOOPBACK = 1 → s.bit (pLANE n) F.LANE.PRBS_STATUS_CHK_LOCK = true → exec (.injectSingle n) s = .next
    ((s.errBy (pLANE n) 4 1).addSat (pLANE n) F.LANE.PRBS_ERRORS 1)) ∧
  (∀ (s : State) (n : Nat), n < 38 → s.works (pLANE n) = true → s.fld (pLANE n) F.LANE.TEST_CFG_RATE_EXP ≠ 0 → laneTx n = true →
    s.fld (pLANE n) F.LANE.LANE_CFG_LOOPBACK ≠ 1 → exec (.rateInjection n) s = .next (s.errBy (pLANE n) 4 1)) ∧
  (∀ (s : State) (n c d : Nat), s.bar (pLANE n) = true → n < 38 → s.works (pLANE n) = true → s.esRefusal n = some (c, d) → exec
    (.esStart n) s = .next (s.refuse (pLANE n) c d)) ∧
  (∀ (s : State) (n : Nat), s.bar (pLANE n) = true → n < 38 → s.works (pLANE n) = true → s.esRefusal n = none → exec (.esStart n)
    s = .next ((((s.setFld (pLANE n) F.LANE.ES_STATUS_DONE 0).setFld (pLANE n) F.LANE.ES_STATUS_BUSY 1).setFld (pLANE n)
    F.LANE.ES_STATUS_DISTURBED 0).setLane n { s.laneOf n with esFrozen := s.laneState (pLANE n) == laFrozen })) ∧
  (∀ (s : State) (n : Nat), s.bar (pLANE n) = true → n < 38 → s.works (pLANE n) = true → exec (.esStop n) s = .next (s.setFld
    (pLANE n) F.LANE.ES_STATUS_BUSY 0)) ∧
  (∀ (s : State) (n errs : Nat), n < 38 → s.works (pLANE n) = true → s.bit (pLANE n) F.LANE.ES_STATUS_BUSY = true → errs ≤ 2 ^
    s.fld (pLANE n) F.LANE.ES_CTRL_DWELL → exec (.esDone n errs) s = .next ((((s.setFld (pLANE n) F.LANE.ES_STATUS_BUSY
    0).setFld (pLANE n) F.LANE.ES_STATUS_DONE 1).put64L (pLANE n) F.LANE.ES_ERR_LO errs).raise (pLANE n) F.LANE.intES_DONE)) ∧
  (∀ (s : State) (n : Nat) (v : Word), s.bar (pLANE n) = true → n < 38 → laneTx n = true → ffeLegal (F.LANE.FFE_PRE.of v)
    (F.LANE.FFE_MAIN.of v) (F.LANE.FFE_POST.of v) = false → exec (.ffeWrite n v) s = .next (s.reason (pLANE n) Cls.range 0x10)) ∧
  (∀ (s : State) (n : Nat) (v : Word), s.bar (pLANE n) = true → n < 38 → laneTx n = true → ffeLegal (F.LANE.FFE_PRE.of v)
    (F.LANE.FFE_MAIN.of v) (F.LANE.FFE_POST.of v) = true → laneKind n ≠ 2 → s.countsOff (s.laneOwner n) = false → exec
    (.ffeWrite n v) s = .next (s.reason (pLANE n) Cls.locked 0x07)) ∧
  (∀ (s : State) (n : Nat) (v : Word), s.bar (pLANE n) = true → n < 38 → laneTx n = true → ffeLegal (F.LANE.FFE_PRE.of v)
    (F.LANE.FFE_MAIN.of v) (F.LANE.FFE_POST.of v) = true → (laneKind n = 2 ∨ s.countsOff (s.laneOwner n) = true) → exec
    (.ffeWrite n v) s = .next (((s.setFld (pLANE n) F.LANE.FFE_PRE (F.LANE.FFE_PRE.of v)).setFld (pLANE n) F.LANE.FFE_MAIN
    (F.LANE.FFE_MAIN.of v)).setFld (pLANE n) F.LANE.FFE_POST (F.LANE.FFE_POST.of v))) ∧
  (∀ (s : State) (n : Nat) (v : Word), s.bar (pLANE n) = true → n < 38 → (F.LANE.TEST_CFG_BURST_LEN.of v = 0 ∨
    (F.LANE.TEST_CFG_RATE_EXP.of v ≠ 0 ∧ (F.LANE.TEST_CFG_RATE_EXP.of v < 4 ∨ 40 < F.LANE.TEST_CFG_RATE_EXP.of v))) → exec
    (.testCfgWrite n v) s = .next (s.reason (pLANE n) Cls.range 0x03)) ∧
  (∀ (s : State) (n : Nat) (v : Word), s.bar (pLANE n) = true → n < 38 → ¬ (F.LANE.TEST_CFG_BURST_LEN.of v = 0 ∨
    (F.LANE.TEST_CFG_RATE_EXP.of v ≠ 0 ∧ (F.LANE.TEST_CFG_RATE_EXP.of v < 4 ∨ 40 < F.LANE.TEST_CFG_RATE_EXP.of v))) →
    (F.LANE.TEST_CFG_GEN_PAT.of v > 4 ∨ F.LANE.TEST_CFG_CHK_PAT.of v > 4) → exec (.testCfgWrite n v) s = .next (s.reason (pLANE
    n) Cls.range 0x04)) ∧
  (∀ (s : State) (n : Nat) (v : Word), s.bar (pLANE n) = true → n < 38 → ¬ (F.LANE.TEST_CFG_BURST_LEN.of v = 0 ∨
    (F.LANE.TEST_CFG_RATE_EXP.of v ≠ 0 ∧ (F.LANE.TEST_CFG_RATE_EXP.of v < 4 ∨ 40 < F.LANE.TEST_CFG_RATE_EXP.of v))) →
    F.LANE.TEST_CFG_GEN_PAT.of v ≤ 4 → F.LANE.TEST_CFG_CHK_PAT.of v ≤ 4 → (F.LANE.TEST_CFG_GEN_EN.of v = 0 ∨ s.countsOff
    (s.laneOwner n) = true) → F.LANE.TEST_CFG_CHK_EN.of v = F.LANE.TEST_CFG_CHK_EN.of (s.reg (F.LANE.TEST_CFG.addr (pLANE n))) →
    exec (.testCfgWrite n v) s = .next (s.setReg (F.LANE.TEST_CFG.addr (pLANE n)) (v &&& 0x003FFFFF#32))) ∧
  (∀ (s u : State) (n : Nat) (v : Word), s.bar (pLANE n) = true → n < 38 → u = (s.setFld (pLANE n) F.LANE.LANE_CFG_ADAPT_EN
    (F.LANE.LANE_CFG_ADAPT_EN.of v)).setFld (pLANE n) F.LANE.LANE_CFG_BOUND_EN (F.LANE.LANE_CFG_BOUND_EN.of v) → v.toNat % 16 ≠
    (s.reg (F.LANE.LANE_CFG.addr (pLANE n))).toNat % 16 → F.LANE.LANE_CFG_LOOPBACK.of v = 3 → exec (.loopbackWrite n v) s =
    .next (u.reason (pLANE n) Cls.range 0x04)) ∧
  (∀ (s u : State) (n : Nat) (v : Word), s.bar (pLANE n) = true → n < 38 → u = (s.setFld (pLANE n) F.LANE.LANE_CFG_ADAPT_EN
    (F.LANE.LANE_CFG_ADAPT_EN.of v)).setFld (pLANE n) F.LANE.LANE_CFG_BOUND_EN (F.LANE.LANE_CFG_BOUND_EN.of v) → v.toNat % 16 ≠
    (s.reg (F.LANE.LANE_CFG.addr (pLANE n))).toNat % 16 → F.LANE.LANE_CFG_LOOPBACK.of v ≠ 3 → F.LANE.LANE_CFG_LOOPBACK.of v ≠ 0
    → (laneRx n = false ∨ laneTx n = false) → exec (.loopbackWrite n v) s = .next (u.reason (pLANE n) Cls.range 0x11)) ∧
  (∀ (s u : State) (n : Nat) (v : Word), s.bar (pLANE n) = true → n < 38 → u = (s.setFld (pLANE n) F.LANE.LANE_CFG_ADAPT_EN
    (F.LANE.LANE_CFG_ADAPT_EN.of v)).setFld (pLANE n) F.LANE.LANE_CFG_BOUND_EN (F.LANE.LANE_CFG_BOUND_EN.of v) → v.toNat % 16 ≠
    (s.reg (F.LANE.LANE_CFG.addr (pLANE n))).toNat % 16 → F.LANE.LANE_CFG_LOOPBACK.of v ≠ 3 → laneRx n = true → laneTx n = true
    → s.countsOff (s.laneOwner n) = false → exec (.loopbackWrite n v) s = .next (u.reason (pLANE n) Cls.conflict 0x13)) ∧
  (∀ (s u : State) (n : Nat) (v : Word), s.bar (pLANE n) = true → n < 38 → u = (s.setFld (pLANE n) F.LANE.LANE_CFG_ADAPT_EN
    (F.LANE.LANE_CFG_ADAPT_EN.of v)).setFld (pLANE n) F.LANE.LANE_CFG_BOUND_EN (F.LANE.LANE_CFG_BOUND_EN.of v) → v.toNat % 16 ≠
    (s.reg (F.LANE.LANE_CFG.addr (pLANE n))).toNat % 16 → F.LANE.LANE_CFG_LOOPBACK.of v ≠ 3 → laneRx n = true → laneTx n = true
    → s.countsOff (s.laneOwner n) = true → exec (.loopbackWrite n v) s = .next (((u.setFld (pLANE n) F.LANE.LANE_CFG_POL_TX
    (F.LANE.LANE_CFG_POL_TX.of v)).setFld (pLANE n) F.LANE.LANE_CFG_POL_RX (F.LANE.LANE_CFG_POL_RX.of v)).setFld (pLANE n)
    F.LANE.LANE_CFG_LOOPBACK (F.LANE.LANE_CFG_LOOPBACK.of v))) ∧
  (∀ (s : State) (n : Nat), n < 38 → laneRx n = true → s.works (pLANE n) = true → s.bit (pLANE n) F.LANE.TEST_CFG_CHK_EN = true →
    s.bit (pLANE n) F.LANE.PRBS_STATUS_CHK_LOCK = false → s.laneCarries n = false → exec (.checkerLock n) s = .next ((s.setFld
    (pLANE n) F.LANE.PRBS_STATUS_CHK_LOCK 1).raise (pLANE n) F.LANE.intCHK_LOCK)) ∧
  (∀ (s : State) (n : Nat), s.laneCarries n = true → exec (.checkerLock n) s = .next s) ∧
  (∀ (s : State) (n bits errs : Nat), n < 38 → s.works (pLANE n) = true → s.bit (pLANE n) F.LANE.PRBS_STATUS_CHK_LOCK = true →
    exec (.checkerLost n bits errs) s = .next (((((s.addSat (pLANE n) F.LANE.PRBS_ERRORS errs).put64L (pLANE n)
    F.LANE.PRBS_BITS_LO (min (s.live64 (pLANE n) F.LANE.PRBS_BITS_LO + bits) (2 ^ 48 - 1))).setFld (pLANE n)
    F.LANE.PRBS_STATUS_CHK_LOCK 0).incFld (pLANE n) F.LANE.PRBS_STATUS_LOCK_LOSSES).raise (pLANE n) F.LANE.intCHK_LOST))

/-- Lanes, Ethernet ports and SDI links coming up and going down. -/
def Obligations.LanesAndLinksComeUp : Prop :=
  (∀ (s : State) (n : Nat), s.bar (pLANE n) = true → n < 38 → s.works (pLANE n) = true → (s.laneOf n).lostAt ≠ some s.fabric →
    laneKind n = 2 → exec (.laneRetrain n) s = .next (s.refuse (pLANE n) Cls.range 0x11)) ∧
  (∀ (s : State) (n : Nat), s.bar (pLANE n) = true → n < 38 → s.works (pLANE n) = true → (s.laneOf n).lostAt ≠ some s.fabric →
    laneKind n ≠ 2 → s.laneBusy n = true → exec (.laneRetrain n) s = .next (s.refuse (pLANE n) Cls.conflict 0x14)) ∧
  (∀ (s : State) (n : Nat), s.bar (pLANE n) = true → n < 38 → s.works (pLANE n) = true → (s.laneOf n).lostAt ≠ some s.fabric →
    laneKind n = 3 → s.laneBusy n = false → exec (.laneRetrain n) s = .next (s.refuse (pLANE n) Cls.conflict 0x15)) ∧
  (∀ (s : State) (n : Nat), s.bar (pLANE n) = true → n < 38 → s.works (pLANE n) = true → (s.laneOf n).lostAt ≠ some s.fabric →
    laneKind n = 0 → s.laneBusy n = false → s.ethLink (s.lanePort n) = ekUp → exec (.laneRetrain n) s = .next
    ((((((s.esRetrained (pLANE n)).ethLost (s.lanePort n)).laneTo (pLANE n) laAcquire).eqReset (pLANE n)).setFld (pLANE n)
    F.LANE.LANE_STATUS_GOOD_WINDOWS 0))) ∧
  (∀ (s : State) (n : Nat), s.bar (pLANE n) = true → n < 38 → s.works (pLANE n) = true → (s.laneOf n).lostAt = some s.fabric →
    exec (.laneRetrain n) s = .next s) ∧
  (∀ (s : State) (n : Nat), n < 38 → laneRx n = true → s.works (pLANE n) = true → s.laneState (pLANE n) = laTrain → laneKind n ≠
    0 → laneKind n ≠ 3 → exec (.laneTrainDone n) s = .next ((((s.laneTo (pLANE n) laTrack).laneBaseline (pLANE n)).raise (pLANE
    n) F.LANE.intTRAINED))) ∧
  (∀ (s : State) (n : Nat), n < 38 → laneRx n = true → s.works (pLANE n) = true → s.laneState (pLANE n) = laTrain → (laneKind n =
    0 ∨ laneKind n = 3) → exec (.laneTrainDone n) s = .next ((s.ffeTrained (pLANE n) (laneKind n == 3)).laneTrained (pLANE n))) ∧
  (∀ (s : State) (p : Nat), (s.laneState p = laTrain ∨ s.laneState p = laAcquire) → s.laneTrained p = (((s.laneTo p
    laTrack).laneBaseline p).raise p F.LANE.intTRAINED)) ∧
  (∀ (s : State) (n : Nat), n < 38 → s.works (pLANE n) = true → s.laneState (pLANE n) = laTrain → laneKind n = 3 → exec
    (.laneTrainFail n) s = .next (s.laneTrainFailed (pLANE n) true)) ∧
  (∀ (s : State) (n : Nat), n < 38 → s.works (pLANE n) = true → s.laneState (pLANE n) = laTrain → laneKind n = 0 →
    (s.laneTrainFailed (pLANE n) false).ethLink (s.lanePort n) ≠ ekUp → exec (.laneTrainFail n) s = .next ((s.laneTrainFailed
    (pLANE n) false).ethDown (s.lanePort n))) ∧
  (∀ (s u : State) (n : Nat), n < 38 → laneRx n = true → s.works (pLANE n) = true → s.laneTracks (pLANE n) = true → laneKind n ≠
    1 → u = (((s.raise (pLANE n) F.LANE.intCDR_LOST).err (pLANE n) 2).laneTo (pLANE n) laDown) → exec (.cdrLost n) s = .next
    (((u.setFld (pLANE n) F.LANE.LANE_STATUS_CDR_LOCK 0).rawTo (pLANE n) F.LANE.rawCDR_LOCK false).setLane n
    { u.laneOf n with lostAt := some s.fabric })) ∧
  (∀ (s : State) (n : Nat), n < 38 → laneRx n = true → s.works (pLANE n) = true → s.laneTracks (pLANE n) = false → s.bit (pLANE
    n) F.LANE.LANE_STATUS_CDR_LOCK = true → laneKind n ≠ 1 → exec (.cdrLost n) s = .next (((s.setFld (pLANE n)
    F.LANE.LANE_STATUS_CDR_LOCK 0).rawTo (pLANE n) F.LANE.rawCDR_LOCK false).setLane n
    { s.laneOf n with lostAt := some s.fabric })) ∧
  (∀ (s : State) (n : Nat), n < 38 → laneRx n = true → s.works (pLANE n) = true → s.bit (pLANE n) F.LANE.LANE_STATUS_CDR_LOCK =
    false → (s.laneState (pLANE n) = laAcquire ∨ s.laneState (pLANE n) = laTrain) → laneKind n ≠ 1 → exec (.cdrLock n) s = .next
    ((((s.setFld (pLANE n) F.LANE.LANE_STATUS_CDR_LOCK 1).setFld (pLANE n) F.LANE.LANE_STATUS_SIGNAL 1).rawTo (pLANE n)
    F.LANE.rawCDR_LOCK true).setFld (pLANE n) F.LANE.LANE_STATUS_GOOD_WINDOWS 0)) ∧
  (∀ (s : State) (p : Nat), p < 8 → s.works (pETH p) = true → s.ethLink p = ekAn → exec (.anComplete p) s = .next ((s.ethLanes
    p).foldl State.laneTrain (s.ethTo p ekTrain))) ∧
  (∀ (s : State) (p : Nat), p < 8 → s.works (pETH p) = true → s.ethLink p = ekAn → exec (.ethAttemptTimeout p true) s = .next
    ((s.raise (pETH p) F.ETH.intAN_FAIL).ethDown p)) ∧
  (∀ (s : State) (p : Nat) (b : Bool), p < 8 → s.works (pETH p) = true → s.ethLink p = ekTrain → exec (.ethAttemptTimeout p b) s
    = .next ((s.ethLanesFail p).ethDown p)) ∧
  (∀ (s : State) (p : Nat) (b : Bool), p < 8 → s.works (pETH p) = true → s.ethLink p = ekAlign → s.time.root ≥ Tab.get 0 s.ethAt
    p + 6000000000 → exec (.ethAttemptTimeout p b) s = .next (s.ethDown p)) ∧
  (∀ (s : State) (p : Nat) (b : Bool), s.ethLink p = ekUp → exec (.ethAttemptTimeout p b) s = .next s) ∧
  (∀ (s : State) (p : Nat), p < 8 → s.works (pETH p) = true → s.ethLink p = ekTrain → (∀ l ∈ s.ethLanes p, s.laneState l =
    laTrack) → exec (.ethTrainDone p) s = .next (s.ethTo p ekAlign)) ∧
  (∀ (s : State) (p : Nat), p < 8 → s.works (pETH p) = true → s.ethLink p = ekAlign → exec (.linkUp p) s = .next ((s.ethTo p
    ekUp).raise (pETH p) F.ETH.intLINK_UP)) ∧
  (∀ (s : State) (p : Nat), p < 8 → s.works (pETH p) = true → s.ethLink p = ekUp → s.gatedPort p = false → exec (.linkDown p) s =
    .next ((((s.raise (pETH p) F.ETH.intLINK_DOWN).err (pETH p) 7).logEv (pETH p) F.ETH.intLINK_DOWN 4 0 []).ethDown p)) ∧
  (∀ (s : State) (p : Nat), p < 8 → s.works (pETH p) = true → s.ethLink p = ekDown → s.time.root ≥ Tab.get 0 s.ethAt p + s.fld
    (pETH p) F.ETH.LINK_CFG_RETRY_MS * 12000000 → exec (.retryMsExpiry p) s = .next (s.ethBegin p)) ∧
  (∀ (s : State) (p : Nat), s.ethLink p ≠ ekDown → exec (.retryMsExpiry p) s = .next s) ∧
  (∀ (s : State) (v : Word), s.bar (pETH 0) = true → v.toNat % 4 = 3 → exec (.laneModeNextWrite 0 v) s = .next (s.reason (pETH 0)
    Cls.range 0x04)) ∧
  (∀ (s : State) (v : Word), s.bar (pETH 0) = true → v.toNat % 4 ≠ 3 → exec (.laneModeNextWrite 0 v) s = .next ((List.range
    8).foldl (fun t q => t.setFld (pETH q) F.ETH.PORT_STATUS_MODE_PENDING (decide (v.toNat % 4 ≠ t.fld (pETH 0)
    F.ETH.PORT_STATUS_LANE_MODE)).toNat) (s.setFld (pETH 0) F.ETH.LANE_MODE_NEXT_MODE v.toNat))) ∧
  (∀ (s : State) (p : Nat) (v : Word), p ≠ 0 → exec (.laneModeNextWrite p v) s = .next s) ∧
  (∀ (s : State) (n i : Nat), n < 16 → s.works (pSDIRX n) = true → i < s.sdiLinks n → s.sdiLocked n i = false → s.bit (sdiLane n
    i) F.LANE.LANE_STATUS_CDR_LOCK = false → s.time.root ≥ (s.sdiPlace n i).since + 24000000 → exec (.sdiRateDwell n i) s =
    .next ((s.eqReset (sdiLane n i)).sdiTry n i (((s.sdiPlace n i).rate + 1) % 6))) ∧
  (∀ (s : State) (n i : Nat), s.time.root < (s.sdiPlace n i).since + 24000000 → exec (.sdiRateDwell n i) s = .next s) ∧
  (∀ (s u : State) (n : Nat), n < 16 → s.works (pSDIRX n) = true → s.sdiLinks n = 1 → s.sdiLocked n 0 = false → s.bit (sdiLane n
    0) F.LANE.LANE_STATUS_CDR_LOCK = true → s.canonical = true → u = (s.setFld (pSDIRX n) (sdiLockBit 0) 1).setFld (pSDIRX n)
    F.SDIRX.LOCK_STATUS_RATE (sdiRateCode (s.sdiPlace n 0).rate) → u.sdiLocked n 0 = true → exec (.sdiLinkLock n 0) s = .next
    (((u.setFld (pSDIRX n) F.SDIRX.LOCK_STATUS_LOCKED 1).rawTo (pSDIRX n) F.SDIRX.rawLOCKED true).raise (pSDIRX n)
    F.SDIRX.intLOCKED)) ∧
  (∀ (s : State) (n i : Nat), n < 16 → s.works (pSDIRX n) = true → i < s.sdiLinks n → s.sdiLocked n i = true → exec (.sdiLockLoss
    n i) s = .next (s.sdiLose n i)) ∧
  (∀ (s : State) (n i : Nat), s.sdiLocked n i = true → s.sdiLose n i = ((if i = 0 then (((((s.setFld (pSDIRX n) (sdiLockBit i)
    0).setFld (pSDIRX n) F.SDIRX.LOCK_STATUS_LOCKED 0).rawTo (pSDIRX n) F.SDIRX.rawLOCKED false).raise (pSDIRX n)
    F.SDIRX.intLOCK_LOST).err (pSDIRX n) 1).setFld (pSDIRX n) F.SDIRX.LOCK_STATUS_RATE 0 else ((((s.setFld (pSDIRX n)
    (sdiLockBit i) 0).setFld (pSDIRX n) F.SDIRX.LOCK_STATUS_LOCKED 0).rawTo (pSDIRX n) F.SDIRX.rawLOCKED false).raise (pSDIRX n)
    F.SDIRX.intLOCK_LOST).err (pSDIRX n) 1)).sdiSearch n i)

/-- ETH_FRAME_RECEIVE, SUB_WRITE, HOST_TX_RECORD, FRAME_TRANSMIT_END (R319 to R326). What happens to a record of another LENGTH is
  the model's choice (log entry 67). -/
def Obligations.EthernetFramesGoToTheirTaker : Prop :=
  (∀ (s : State) (p cw uw sy : Nat), uw ≠ 0 → s.fecCount p cw uw sy = (((s.errBy (pETH p) 0 cw).errBy (pETH p) 1 uw).addFld (pETH
    p) F.ETH.FEC_SYMBOLS sy).raise (pETH p) F.ETH.intFEC_UNCORR ∧ s.fecCount p cw 0 sy = (((s.errBy (pETH p) 0 cw).errBy (pETH
    p) 1 0).addFld (pETH p) F.ETH.FEC_SYMBOLS sy)) ∧
  (∀ (s : State) (p back cw uw sy : Nat) (g : Bool) (fr : List Byte), s.portUp p = false → exec (.ethFrameReceive p g fr back cw
    uw sy) s = .next s) ∧
  (∀ (s u : State) (p back cw uw sy : Nat) (fr : List Byte), u = s.fecCount p cw uw sy → p < 8 → s.works (pETH p) = true →
    s.portUp p = true → exec (.ethFrameReceive p false fr back cw uw sy) s = .next (u.err (pETH p) 2)) ∧
  (∀ (s u : State) (p back cw uw sy : Nat) (fr : List Byte), u = s.fecCount p cw uw sy → p < 8 → s.works (pETH p) = true →
    s.portUp p = true → (fr.length + 4 < 64 ∨ 9216 < fr.length + 4) → exec (.ethFrameReceive p true fr back cw uw sy) s = .next
    (u.err (pETH p) 3)) ∧
  (∀ (s u : State) (p back cw uw sy : Nat) (fr : List Byte), u = s.fecCount p cw uw sy → p < 8 → s.works (pETH p) = true →
    s.portUp p = true → 60 ≤ fr.length → fr.length ≤ 9212 → ethType fr = 0x8808 → exec (.ethFrameReceive p true fr back cw uw
    sy) s = .next (u.err (pETH p) 5)) ∧
  (∀ (s u : State) (p back cw uw sy : Nat) (fr : List Byte), u = s.fecCount p cw uw sy → p < 8 → s.works (pETH p) = true →
    s.portUp p = true → 60 ≤ fr.length → fr.length ≤ 9212 → ethType fr ≠ 0x8808 → (u.tagAccepted p fr = false ∨ u.daAccepted p
    fr = false) → exec (.ethFrameReceive p true fr back cw uw sy) s = .next u) ∧
  (∀ (s u : State) (p back cw uw sy : Nat) (fr : List Byte), u = s.fecCount p cw uw sy → p < 8 → s.works (pETH p) = true →
    s.portUp p = true → 60 ≤ fr.length → fr.length ≤ 9212 → ethType fr ≠ 0x8808 → u.tagAccepted p fr = true → u.daAccepted p fr
    = true → exec (.ethFrameReceive p true fr back cw uw sy) s = .next ((u.incFld (pETH p) F.ETH.RX_FRAMES).ethDeliver p fr
    back)) ∧
  (∀ (s : State) (p back : Nat) (fr : List Byte) (e : Nat), s.echoEntry p fr = some e → s.ethDeliver p fr back = s.echoPacket e
    (udpPayload (udpOf (ipv4Of fr)))) ∧
  (∀ (s : State) (p back : Nat) (fr : List Byte) (x : Nat × Nat) (xs : List (Nat × Nat)), s.echoEntry p fr = none → s.pathsOf p
    (ipv4Of fr) = x :: xs → s.ethDeliver p fr back = (x :: xs).foldl (fun t y => t.ipinPacket y.1 y.2 (ipv4Of fr)) s) ∧
  (∀ (s : State) (p back : Nat) (fr : List Byte), s.echoEntry p fr = none → s.pathsOf p (ipv4Of fr) = [] → (s.bit (pETH p)
    F.ETH.HOST_CFG_HOST_EN && s.fld (pETH p) F.ETH.HOST_CFG_RX_CLASSES / 2 ^ rxClass fr % 2 == 1) = true → s.ethDeliver p fr
    back = (s.hostRx p (hostRxHeader p 0 false (s.stampOf back) fr.length ++ padTo 8 fr)).1) ∧
  (∀ (s : State) (p back : Nat) (fr : List Byte), s.echoEntry p fr = none → s.pathsOf p (ipv4Of fr) = [] → (s.bit (pETH p)
    F.ETH.HOST_CFG_HOST_EN && s.fld (pETH p) F.ETH.HOST_CFG_RX_CLASSES / 2 ^ rxClass fr % 2 == 1) = false → s.ethDeliver p fr
    back = s.err (pETH p) 4) ∧
  (∀ (s : State) (p n : Nat) (v : Word), p < 8 → n < 128 → s.bar (pETH p) = true → exec (.subWrite p n true v) s = .next
    (s.setFld (pETH p) (F.ETH.SUB_SOURCE n) v.toNat)) ∧
  (∀ (s : State) (p n : Nat) (v : Word), p < 8 → n < 128 → s.bar (pETH p) = true → v.toNat ≠ 0 → v.toNat / 2 ^ 28 ≠ 14 → exec
    (.subWrite p n false v) s = .next (s.reason (pETH p) Cls.range 0x13)) ∧
  (∀ (s : State) (p n : Nat) (v : Word), p < 8 → n < 128 → s.bar (pETH p) = true → (v.toNat = 0 ∨ v.toNat / 2 ^ 28 = 14) → exec
    (.subWrite p n false v) s = .next (s.setFld (pETH p) (F.ETH.SUB_GROUP n) v.toNat)) ∧
  (∀ (s t : State) (p : Nat) (rec : List Byte), p < 8 → s.works (pETH p) = true → s.bit (pETH p) F.ETH.HOST_CFG_HOST_EN = true →
    s.ringRole (s.fld (pETH p) F.ETH.HOST_CFG_TX_RING) 7 = true → s.takeRecord (s.fld (pETH p) F.ETH.HOST_CFG_TX_RING) = some
    (rec, t) → exec (.hostTxRecord p) s = .next (t.hostTx p rec)) ∧
  (∀ (s : State) (p : Nat), p < 8 → s.works (pETH p) = true → s.bit (pETH p) F.ETH.HOST_CFG_HOST_EN = true → s.takeRecord (s.fld
    (pETH p) F.ETH.HOST_CFG_TX_RING) = none → exec (.hostTxRecord p) s = .next s) ∧
  (∀ (s : State) (p : Nat) (rec : List Byte), 14 ≤ leNat (rec.take 8) % 2 ^ 14 → leNat (rec.take 8) % 2 ^ 14 ≤ 9212 → leNat
    (rec.take 8) / 2 ^ 16 % 2 = 0 → s.hostTx p rec =
    { s with tsch := { s.tsch with handoff := s.tsch.handoff ++ [{ queue := s.fld (pETH p) F.ETH.HOST_QUEUE_QUEUE, octets := (rec.drop 16).take (leNat (rec.take 8) % 2 ^ 14) ++ List.replicate (60 - ((rec.drop 16).take (leNat (rec.take 8) % 2 ^ 14)).length) 0, chan := none, stamp := none }] } }) ∧
  (∀ (s : State) (p : Nat) (rec : List Byte), (leNat (rec.take 8) % 2 ^ 14 < 14 ∨ 9212 < leNat (rec.take 8) % 2 ^ 14) → leNat
    (rec.take 8) / 2 ^ 16 % 2 = 0 → s.hostTx p rec = s) ∧
  (∀ (s : State) (p back q : Nat) (f : Frame), p < 8 → s.works pTSCH = true → (s.portOf p).sending = some (q, f) → exec
    (.frameTransmitEnd p back) s = .next (((s.txEnd p).incFld (pETH p) F.ETH.TX_FRAMES).txStamp f false (s.stampOf back))) ∧
  (∀ (s : State) (p back : Nat), (s.portOf p).sending = none → exec (.frameTransmitEnd p back) s = .next s)

/-- SDI_PICTURE_ARRIVAL, ANC_PACKET, IPIN_PATH_INACTIVE, IPIN_SEQ_LOST, ROW_READ_INSTANT. -/
def Obligations.InputPicturesAndPackets : Prop :=
  (∀ (s u : State) (n : Nat) (x : SdiPicture), n < 16 → s.works (pSDIRX n) = true → s.bit (pSDIRX n) F.SDIRX.LOCK_STATUS_LOCKED =
    true → s.running = true → u = s.sdiReport n x → u.sdiMismatch n x = true → x.skew ≤ 4096 → exec (.sdiPictureArrival n x) s =
    .next ((u.raise (pSDIRX n) F.SDIRX.intFORMAT_MISMATCH).ancFlush n)) ∧
  (∀ (s u : State) (n : Nat) (x : SdiPicture), n < 16 → s.works (pSDIRX n) = true → s.bit (pSDIRX n) F.SDIRX.LOCK_STATUS_LOCKED =
    true → s.running = true → u = s.sdiReport n x → u.sdiMismatch n x = true → 4096 < x.skew → exec (.sdiPictureArrival n x) s =
    .next ((((u.raise (pSDIRX n) F.SDIRX.intFORMAT_MISMATCH).raise (pSDIRX n) F.SDIRX.intSKEW).err (pSDIRX n) 7).ancFlush n)) ∧
  (∀ (s u : State) (n : Nat) (x : SdiPicture), n < 16 → s.works (pSDIRX n) = true → s.bit (pSDIRX n) F.SDIRX.LOCK_STATUS_LOCKED =
    true → s.running = true → u = s.sdiReport n x → u.sdiMismatch n x = false → 4096 < x.skew → exec (.sdiPictureArrival n x) s
    = .next (((u.raise (pSDIRX n) F.SDIRX.intSKEW).err (pSDIRX n) 7).ancFlush n)) ∧
  (∀ (s u : State) (n : Nat) (x : SdiPicture), n < 16 → s.works (pSDIRX n) = true → s.bit (pSDIRX n) F.SDIRX.LOCK_STATUS_LOCKED =
    true → s.running = true → u = s.sdiReport n x → u.sdiMismatch n x = false → x.skew ≤ 4096 → exec (.sdiPictureArrival n x) s
    = .next ((u.sdiIndex n x).ancFlush n)) ∧
  (∀ (s u : State) (n m : Nat) (ph : Int) (x : SdiPicture), arrivalIndex ((s.now : Int) - sext32 (s.act (pSDIRX n)
    F.SDIRX.ALIGN_OFFSET)) (s.rateOf (s.indexGroup (pSDIRX n))).1 (s.rateOf (s.indexGroup (pSDIRX n))).2 = (m, ph) → u = (if
    phaseWide ph (s.rateOf (s.indexGroup (pSDIRX n))).1 (s.rateOf (s.indexGroup (pSDIRX n))).2 then (s.setReg
    (F.SDIRX.PHASE.addr (pSDIRX n)) (satWord ph)).raise (pSDIRX n) F.SDIRX.intPHASE_WARN else s.setReg (F.SDIRX.PHASE.addr
    (pSDIRX n)) (satWord ph)) → u.indexDup (pSDIRX n) m = true → s.sdiIndex n x = (u.raise (pSDIRX n) F.SDIRX.intINDEX_DUP).err
    (pSDIRX n) 4) ∧
  (∀ (s u : State) (n m : Nat) (ph : Int) (x : SdiPicture), arrivalIndex ((s.now : Int) - sext32 (s.act (pSDIRX n)
    F.SDIRX.ALIGN_OFFSET)) (s.rateOf (s.indexGroup (pSDIRX n))).1 (s.rateOf (s.indexGroup (pSDIRX n))).2 = (m, ph) → u = (if
    phaseWide ph (s.rateOf (s.indexGroup (pSDIRX n))).1 (s.rateOf (s.indexGroup (pSDIRX n))).2 then (s.setReg
    (F.SDIRX.PHASE.addr (pSDIRX n)) (satWord ph)).raise (pSDIRX n) F.SDIRX.intPHASE_WARN else s.setReg (F.SDIRX.PHASE.addr
    (pSDIRX n)) (satWord ph)) → u.indexDup (pSDIRX n) m = false → s.sdiIndex n x = ((u.acceptPic (pSDIRX n) m).updPic (pSDIRX n)
    m fun y =>
    { y with groups := (x.data.filter fun d => s.sdiInTime (pSDIRX n) m d.1).foldl (fun t d => putGroups t d.1 d.2.1 d.2.2) y.groups }).put64L
    (pSDIRX n) F.SDIRX.LAST_INDEX_LO m) ∧
  (∀ (s : State) (n m : Nat) (x : AncPacket), n < 16 → s.works (pSDIRX n) = true → x.link < s.sdiLinks n → s.sdiLocked n x.link =
    true → isPayloadId x = false → s.act (pSDIRX n) F.SDIRX.SDI_CFG_ANC_EN = 1 → ((List.range 16).any (s.ancMatch (pSDIRX n) x))
    = true → x.ahead = false → (s.inputOf (pSDIRX n)).arrived = some m → exec (.ancPacket n x) s = .next (s.ancWrite (pSDIRX n)
    m x)) ∧
  (∀ (s : State) (n : Nat) (x : AncPacket), n < 16 → s.works (pSDIRX n) = true → x.link < s.sdiLinks n → s.sdiLocked n x.link =
    true → isPayloadId x = false → s.act (pSDIRX n) F.SDIRX.SDI_CFG_ANC_EN = 1 → ((List.range 16).any (s.ancMatch (pSDIRX n) x))
    = true → x.ahead = true → exec (.ancPacket n x) s = .next (s.setInput (pSDIRX n)
    { s.inputOf (pSDIRX n) with anc := (s.inputOf (pSDIRX n)).anc ++ [x] })) ∧
  (∀ (s u : State) (n : Nat) (x : AncPacket), n < 16 → s.works (pSDIRX n) = true → x.link < s.sdiLinks n → s.sdiLocked n x.link =
    true → isPayloadId x = true → s.act (pSDIRX n) F.SDIRX.SDI_CFG_ANC_EN = 0 → u = s.vpidSeen (pSDIRX n) x → u.act (pSDIRX n)
    F.SDIRX.SDI_CFG_ANC_EN = 0 → exec (.ancPacket n x) s = .next u) ∧
  (∀ (s : State) (n : Nat) (x : AncPacket), (s.sdiLinks n ≤ x.link ∨ s.sdiLocked n x.link = false) → exec (.ancPacket n x) s =
    .next s) ∧
  (∀ (s u : State) (p m : Nat) (x : AncPacket), u = (if x.checksumOk then s else s.err p 6) → (u.offer (u.act p
    F.SDIRX.SDI_CFG_ANC_RING) p (ancRecord m x)).2 = false → s.ancWrite p m x = ((u.offer (u.act p F.SDIRX.SDI_CFG_ANC_RING) p
    (ancRecord m x)).1.raise p F.SDIRX.intANC_DROP).err p 5) ∧
  (∀ (s u : State) (p m : Nat) (x : AncPacket), u = (if x.checksumOk then s else s.err p 6) → (u.offer (u.act p
    F.SDIRX.SDI_CFG_ANC_RING) p (ancRecord m x)).2 = true → s.ancWrite p m x = (u.offer (u.act p F.SDIRX.SDI_CFG_ANC_RING) p
    (ancRecord m x)).1) ∧
  (∀ (s : State) (n b : Nat), n < 32 → b < 2 → s.works (pIPIN n) = true → s.isPathActive (pIPIN n) b = true → (s.now - (s.path
    (pIPIN n) b).last) * (s.rateOf (s.indexGroup (pIPIN n))).1 ≥ (s.rateOf (s.indexGroup (pIPIN n))).2 * 1000000000 → exec
    (.ipinPathInactive n b) s = .next ((s.pathActive (pIPIN n) b false).raise (pIPIN n) (9 + 2 * b))) ∧
  (∀ (s : State) (n b : Nat), n < 32 → b < 2 → s.works (pIPIN n) = true → s.isPathActive (pIPIN n) b = true → (s.now - (s.path
    (pIPIN n) b).last) * (s.rateOf (s.indexGroup (pIPIN n))).1 < (s.rateOf (s.indexGroup (pIPIN n))).2 * 1000000000 → exec
    (.ipinPathInactive n b) s = .next s) ∧
  (∀ (s : State) (n : Nat), n < 32 → s.works (pIPIN n) = true → s.act (pIPIN n) F.IPIN.IP_CFG_MODE = 1 → ((s.inputOf (pIPIN
    n)).held.any fun h => decide (h.at' + s.act (pIPIN n) F.IPIN.JITTER_NS_JITTER ≤ s.now)) = true → exec (.ipinSeqLost n) s =
    .next ((State.mergeDrain n (s.inputOf (pIPIN n)).held.length ((s.setInput (pIPIN n)
    { s.inputOf (pIPIN n) with next := (s.inputOf (pIPIN n)).next.map (· + 1) }).err (pIPIN n) 0)).mergeJudge (pIPIN n))) ∧
  (∀ (s : State) (n : Nat), ((s.inputOf (pIPIN n)).held.any fun h => decide (h.at' + s.act (pIPIN n) F.IPIN.JITTER_NS_JITTER ≤
    s.now)) = false → exec (.ipinSeqLost n) s = .next s) ∧
  (∀ (s : State) (n k : Nat), n < 32 → s.works (pSRC n) = true → s.running = true → k < s.srcRows n → (s.srcOf n).started = true
    → k = (s.srcOf n).done / 64 → (s.srcOf n).done < s.readTo n k → exec (.rowReadInstant n k) s = .next (s.rowReadStage n k)) ∧
  (∀ (s : State) (n k : Nat), s.readTo n k ≤ (s.srcOf n).done → exec (.rowReadInstant n k) s = .next s) ∧
  (∀ (s : State) (n k d i : Nat), s.readTo n k = (s.srcOf n).done + d → (s.srcOf n).done + d ≤ min (64 * k + 64) (s.srcH n) → i <
    d → s.lineDue n ((s.srcOf n).done + i) = true) ∧
  (∀ (s : State) (n k : Nat), s.rowReadStage n k = ((s.rowRead n (s.readTo n k)).chansOf n).foldl (fun t c => t.scaleOn c
    ((s.rowRead n (s.readTo n k)).srcOf n).n) (s.rowRead n (s.readTo n k)))

/-- FENCE_SIGNAL, PROT_WRITE and PROT_LOCK (R121, R127). -/
def Obligations.FencesAndProtectedRegisters : Prop :=
  (∀ (s : State) (n : Nat) (v : Word), n < 32 → s.bar (pSRC n) = true → exec (.fenceSignal n v) s = .next (State.fenceSignal n v
    s)) ∧
  (∀ (s : State) (n i : Nat), i < 8 → 1 ≤ i → State.fenceSignal n (BitVec.ofNat 32 (2 ^ i)) s = s.setFld (pSRC n)
    ⟨(F.SRC.FENCE_DONE i).off, 0, 16⟩ (s.fld (pSRC n) ⟨(F.SRC.FENCE_DONE i).off, 0, 16⟩ + 1)) ∧
  (∀ (s : State) (n : Nat) (v : Word), v.toNat / 2 % 128 = 0 → State.fenceSignal n v s = s) ∧
  (∀ (s : State) (n r : Nat) (v : Word), n < 32 → r < 7 → s.bar (pSRC n) = true → exec (.protWrite false n r v) s = .next
    (s.reason (pSRC n) Cls.locked 0x07) ∧ exec (.protLock false n) s = .next (s.reason (pSRC n) Cls.locked 0x07)) ∧
  (∀ (s : State) (n r : Nat) (v : Word), n < 32 → r < 7 → s.bit (pSRC n) F.SRC.PROT_LOCK_LOCK = true → exec (.protWrite true n r
    v) s = .next s ∧ exec (.protLock true n) s = .next s) ∧
  (∀ (s : State) (n r : Nat) (v : Word) (row : RegRow), n < 32 → r < 7 → s.bit (pSRC n) F.SRC.PROT_LOCK_LOCK = false →
    RegRow.find regRowsSRC (0x600 + 4 * r) = some row → exec (.protWrite true n r v) s = .next (s.setReg (pSRC n * 0x1000 +
    0x600 + 4 * r) (row.written (s.reg (pSRC n * 0x1000 + 0x600 + 4 * r)) v))) ∧
  (∀ (s : State) (n : Nat) (row : RegRow), n < 32 → s.bit (pSRC n) F.SRC.PROT_LOCK_LOCK = false → RegRow.find regRowsSRC 0x61C =
    some row → exec (.protLock true n) s = .next (s.setReg (pSRC n * 0x1000 + 0x61C) (row.written (s.reg (pSRC n * 0x1000 +
    0x61C)) 1#32)))

/-- ROW_RELEASE, ROW_DISPATCH, CTU_COMPLETE, OUTPUT_INSTANT (R15, R138, R141, R144, R205). -/
def Obligations.RowsAreReleasedDispatchedCodedAndSent : Prop :=
  (∀ (s : State) (c n k : Nat) (lost : Bool) (x : PicRec), c < 64 → s.chanOn c = true → s.picRec c n = some x → s.released c x k
    = true → s.rowReady c n k = true → s.decidesNext c (x.fire * 1000 + (s.geo c).releaseAt k) = true → k = x.rows.length → exec
    (.rowRelease c n k lost) s = .next ((s.takeRow c n k lost).placeRow c n k)) ∧
  (∀ (s : State) (c n k : Nat) (lost : Bool) (x : PicRec), c < 64 → s.chanOn c = true → s.picRec c n = some x → s.released c x k
    = true → s.rowReady c n k = true → s.decidesNext c (x.fire * 1000 + (s.geo c).releaseAt k) = true → (s.receiving c n = true
    ∧ k = x.fed) → exec (.rowRelease c n k lost) s = .next ((s.takeRow c n k lost).placeRow c n k)) ∧
  (∀ (s : State) (c n k : Nat) (lost : Bool) (x : PicRec), s.picRec c n = some x → (s.nowPs < x.fire * 1000 + (s.geo c).releaseAt
    k ∨ s.rowReady c n k = false) → exec (.rowRelease c n k lost) s = .next s) ∧
  (∀ (s : State) (h : Nat) (w : Waiting), h < 18 → s.chamberFree h = true → s.nextRow = some w → exec (.rowDispatch h) s = .next
    (s.assign h w.chan w.n w.k)) ∧
  (∀ (s : State) (h : Nat), (s.chamberFree h = false ∨ s.nextRow = none) → exec (.rowDispatch h) s = .next s) ∧
  (∀ (s : State) (h c n j k x : Nat), h < 18 → s.works (pCHMB h) = true → (s.chamber h).begun = true → (s.chamber h).row = some
    (c, n, j) → s.codesCtu h k x = true → (s.chamber h).since + (if (s.chamber h).floorCtu then 1280 else 10240) ≤ s.core → exec
    (.ctuComplete h k x) s = .next (s.ctuEnd h c n j)) ∧
  (∀ (s : State) (h k x : Nat), s.core < (s.chamber h).since + (if (s.chamber h).floorCtu then 1280 else 10240) → exec
    (.ctuComplete h k x) s = .next s) ∧
  (∀ (s u v : State) (h c n k : Nat) (x : PicRec) (r : RowRec), s.rowRec c n k = some (x, r) → u = s.takeCode h c n k r
    (s.codeCtu h c x r k) → v = ((u.put64L (pCHMB h) F.CHMB.CTU_DONE_LO (u.live64 (pCHMB h) F.CHMB.CTU_DONE_LO + 1)).updChamber
    h fun y => { y with begun := false }) → r.next + 1 ≠ (s.geo c).nRow → s.ctuEnd h c n k = (v.showChamber h).goOn h c n k) ∧
  (∀ (s u v : State) (h c n k : Nat) (x : PicRec) (r : RowRec), s.rowRec c n k = some (x, r) → u = s.takeCode h c n k r
    (s.codeCtu h c x r k) → v = ((u.put64L (pCHMB h) F.CHMB.CTU_DONE_LO (u.live64 (pCHMB h) F.CHMB.CTU_DONE_LO + 1)).updChamber
    h fun y => { y with begun := false }) → r.next + 1 = (s.geo c).nRow → k + 1 ≠ (s.geo c).rRows → s.ctuEnd h c n k =
    ((v.endSubstream c n k).rowEnd h c n k).goOn h c n k) ∧
  (∀ (s u v : State) (h c n k : Nat) (x : PicRec) (r : RowRec), s.rowRec c n k = some (x, r) → u = s.takeCode h c n k r
    (s.codeCtu h c x r k) → v = ((u.put64L (pCHMB h) F.CHMB.CTU_DONE_LO (u.live64 (pCHMB h) F.CHMB.CTU_DONE_LO + 1)).updChamber
    h fun y => { y with begun := false }) → r.next + 1 = (s.geo c).nRow → k + 1 = (s.geo c).rRows → s.ctuEnd h c n k =
    (((v.endSubstream c n k).noteHash c n).rowEnd h c n k).goOn h c n k) ∧
  (∀ (s : State) (h c : Nat) (x : PicRec) (r : RowRec) (k : Nat) (e : CodeEnv) (full floor : CtuCode), e = s.codeEnv c x r.next
    (s.chamber h).affected → floor = e.codeFloor (s.nextCtx c x r k) (s.geo c).rRows → full = e.codeFull (s.nextCtx c x r k)
    (s.geo c).rRows → (s.chamber h).floorCtu = true → s.codeCtu h c x r k = (floor, false)) ∧
  (∀ (s : State) (h c : Nat) (x : PicRec) (r : RowRec) (k : Nat) (e : CodeEnv) (full floor : CtuCode), e = s.codeEnv c x r.next
    (s.chamber h).affected → floor = e.codeFloor (s.nextCtx c x r k) (s.geo c).rRows → full = e.codeFull (s.nextCtx c x r k)
    (s.geo c).rRows → (s.chamber h).floorCtu = false → s.codeCtu h c x r k = if r.plan.cap < r.plan.hdr + 8 * (r.bytes.length +
    full.bytes.length) + 2 * full.held + (s.formOf c x).floorRest (s.codec c) (s.geo c).nRow (r.next + 1) then (floor, true)
    else (full, false)) ∧
  (∀ (s : State) (h c n k : Nat) (r : RowRec) (code : CtuCode) (g : Bool), s.takeCode h c n k r (code, g) = (finalAfter (s.geo
    c).nRow (s.geo c).rRows r.next k).foldl (fun t q => t.writeFinal c n q) (((if g then (s.raise (pCHAN c) F.CHAN.intGUARD).err
    (pCHAN c) 4 else s).notePoison (s.chamber h).affected ((s.chamber h).floorCtu || g) code.drift).noteCtu c n k (k * (s.geo
    c).nRow + r.next) code g)) ∧
  (∀ (s : State) (c n k : Nat) (x : PicRec) (xs : List PicRec), c < 64 → s.chanOn c = true → s.running = true → (s.chanOf c).pics
    = x :: xs → x.n = n → k = x.sentRows → k < x.rows.length → ((Tab.get .reset x.rows k).endedAt).isSome = true → s.outPs c x k
    ≤ s.nowPs → exec (.outputInstant c n k) s = .next (s.withOld c n fun t => t.outputRow c x k)) ∧
  (∀ (s : State) (c n k : Nat) (x : PicRec) (xs : List PicRec), (s.chanOf c).pics = x :: xs → s.nowPs < s.outPs c x k → exec
    (.outputInstant c n k) s = .next s)

/-- CHAMBER_FAULT, CHMB_DRAIN_EFFECT, CHMB_DRAIN_END, CHMB_POOL_JOIN (R146, R160, R161). -/
def Obligations.ChambersFaultDrainAndJoin : Prop :=
  (∀ (s : State) (h : Nat), h < 18 → (s.st (pCHMB h) = stOn ∨ s.st (pCHMB h) = stDraining) → (s.chamber h).row = none → exec
    (.chamberFault h) s = .next (((((s.err (pCHMB h) 0).enterFault (pCHMB h) 0x0E).chamberGone h).unassign h).updChamber h fun y
    => { y with preempt := false, joinAt := none })) ∧
  (∀ (s : State) (h : Nat) (c n k : Nat), h < 18 → (s.st (pCHMB h) = stOn ∨ s.st (pCHMB h) = stDraining) → (s.chamber h).row =
    some (c, n, k) → exec (.chamberFault h) s = .next (((((((s.err (pCHMB h) 0).enterFault (pCHMB h) 0x0E).chamberGone
    h).unassign h).updChamber h fun y => { y with preempt := false, joinAt := none }).resumeRow c n k).placeResumed)) ∧
  (∀ (s : State) (h : Nat), (s.chamber h).pooled = true → s.chamberGone h =
    ((({ s.updChamber h fun y => { y with pooled := false } with remapped := s.remapped + min (s.fld pSYS F.SYS.ADM_RESOURCES_RESERVE_HELD) 1 }
    : State).chamberCount (s.fld pSYS F.SYS.ADM_RESOURCES_CHMB_IN_SERVICE - 1) (s.fld pSYS F.SYS.ADM_RESOURCES_RESERVE_HELD -
    1)).govChamberLeaves h).resourceLeft) ∧
  (∀ (s : State) (h : Nat), h < 18 → s.st (pCHMB h) = stDraining → (s.chamber h).drained = false → (s.allGrpOff = true ∨
    s.frameAfter (s.page (pCHMB h)).since 0 = true) → exec (.chmbDrainEffect h) s = .next ((s.chamberGone h).updChamber h fun y
    => { y with drained := true, joinAt := none })) ∧
  (∀ (s : State) (h : Nat), s.allGrpOff = false → s.frameAfter (s.page (pCHMB h)).since 0 = false → exec (.chmbDrainEffect h) s =
    .next s) ∧
  (∀ (s : State) (h : Nat), h < 18 → s.st (pCHMB h) = stDraining → (s.chamber h).drained = true → (s.chamber h).row = none → exec
    (.chmbDrainEnd h) s = .next (s.leave (pCHMB h))) ∧
  (∀ (s : State) (h : Nat), ((s.chamber h).drained = false ∨ (s.chamber h).row.isSome = true) → exec (.chmbDrainEnd h) s = .next
    s) ∧
  (∀ (s : State) (h : Nat) (t : Nat), h < 18 → s.isOn (pCHMB h) = true → s.works (pCHMB h) = true → (s.chamber h).pooled = false
    → (s.chamber h).joinAt = some t → (s.allGrpOff = true ∨ s.frameAfter (s.page (pCHMB h)).since (t + 1000) = true) → exec
    (.chmbPoolJoin h) s = .next
    (({ s.updChamber h fun y => { y with pooled := true, joinAt := none } with remapped := s.remapped - 1 } :
    State).chamberCount (s.fld pSYS F.SYS.ADM_RESOURCES_CHMB_IN_SERVICE + 1) (min (s.fld pSYS F.SYS.ADM_RESOURCES_RESERVE_HELD +
    1) (s.fld pSYS F.SYS.CHMB_RESERVE_RESERVE)))) ∧
  (∀ (s : State) (h : Nat), (s.chamber h).joinAt = none → exec (.chmbPoolJoin h) s = .next s)

/-- BLOCK_READ, DEC_INPUT_RECORD, DEC_PICTURE_DECODED, SDI_OUT_PICTURE, TS_HOST_RECORD. -/
def Obligations.BlocksAreReadBackAndStreamsDecoded : Prop :=
  (∀ (s : State) (c i t b e : Nat) (x : PicRec), c < 64 → s.chanOn c = true → i < (s.chanOf c).bufs.length → t < (s.geo c).nCtu →
    s.rowWritten c i (t / (s.geo c).nRow) = true → s.reader c i t b = some x → b < (s.geo c).blocks → exec (.blockRead c i t b
    e) s = .next (s.readBlock c x.n i t b e)) ∧
  (∀ (s : State) (c i t b e : Nat) (x : PicRec), c < 64 → s.chanOn c = true → i < (s.chanOf c).bufs.length → t < (s.geo c).nCtu →
    s.rowWritten c i (t / (s.geo c).nRow) = true → s.reader c i t b = some x → (s.geo c).blocks ≤ b → b < (s.geo c).blocks + 64
    → (0 < e ∨ s.blockBad ((s.proxyAddr c i t + 64 * (b - (s.geo c).blocks)) / 64) = true) → exec (.blockRead c i t b e) s =
    .next (((s.updPicRec c x.n fun y => { y with lostProxy := y.lostProxy ++ [(i, t, b - (s.geo c).blocks)] }).err pREFP
    5).raise pREFP F.REFP.intPROXY_LOST)) ∧
  (∀ (s : State) (c i t b e : Nat) (x : PicRec), c < 64 → s.chanOn c = true → i < (s.chanOf c).bufs.length → t < (s.geo c).nCtu →
    s.rowWritten c i (t / (s.geo c).nRow) = true → s.reader c i t b = some x → (s.geo c).blocks ≤ b → b < (s.geo c).blocks + 64
    → e = 0 → s.blockBad ((s.proxyAddr c i t + 64 * (b - (s.geo c).blocks)) / 64) = false → exec (.blockRead c i t b e) s =
    .next s) ∧
  (∀ (s : State) (c i t b e : Nat), (s.rowWritten c i (t / (s.geo c).nRow) = false ∨ s.reader c i t b = none) → exec (.blockRead
    c i t b e) s = .next s) ∧
  (∀ (s u : State) (c n i t b e f : Nat), u = ((((s.countReads c i t b f).errBy pREFP 0 f).tookFree).updWin c n i t fun w =>
    { w with mapped := w.mapped || b == 0, lost := w.lost || ((b == 0 && !(decide (f = s.tries c i t)) && s.mapEntry c i t 0 == 0)) || (b == 0 && decide (f = s.tries c i t)), blocks := Tab.set [] w.blocks b (s.lastSamples c i t b f) })
    → f = s.failures c i t b e → s.isPoisoned c i t = true → s.readBlock c n i t b e = u) ∧
  (∀ (s u : State) (c n i t b e f : Nat), u = ((((s.countReads c i t b f).errBy pREFP 0 f).tookFree).updWin c n i t fun w =>
    { w with mapped := w.mapped || b == 0, lost := w.lost || ((b == 0 && !(decide (f = s.tries c i t)) && s.mapEntry c i t 0 == 0)) || (b == 0 && decide (f = s.tries c i t)), blocks := Tab.set [] w.blocks b (s.lastSamples c i t b f) })
    → f = s.failures c i t b e → s.isPoisoned c i t = false → f = 0 → (b ≠ 0 ∨ s.mapEntry c i t 0 ≠ 0) → s.readBlock c n i t b e
    = u) ∧
  (∀ (s u : State) (c n i t b e f : Nat), u = ((((s.countReads c i t b f).errBy pREFP 0 f).tookFree).updWin c n i t fun w =>
    { w with mapped := w.mapped || b == 0, lost := w.lost || ((b == 0 && !(decide (f = s.tries c i t)) && s.mapEntry c i t 0 == 0)) || (b == 0 && decide (f = s.tries c i t)), blocks := Tab.set [] w.blocks b (s.lastSamples c i t b f) })
    → f = s.failures c i t b e → s.isPoisoned c i t = false → 0 < f → f < 3 → (b ≠ 0 ∨ s.mapEntry c i t 0 ≠ 0) → s.readBlock c n
    i t b e = (u.err pREFP 1).raise pREFP F.REFP.intCRC_RETRY) ∧
  (∀ (s u : State) (c n i t b e f : Nat), u = ((((s.countReads c i t b f).errBy pREFP 0 f).tookFree).updWin c n i t fun w =>
    { w with mapped := w.mapped || b == 0, lost := w.lost || ((b == 0 && !(decide (f = s.tries c i t)) && s.mapEntry c i t 0 == 0)) || (b == 0 && decide (f = s.tries c i t)), blocks := Tab.set [] w.blocks b (s.lastSamples c i t b f) })
    → f = s.failures c i t b e → s.isPoisoned c i t = false → f = 3 → s.readBlock c n i t b e = u.poisonCtu c n i t b false) ∧
  (∀ (s u : State) (c n i t b e f : Nat), u = ((((s.countReads c i t b f).errBy pREFP 0 f).tookFree).updWin c n i t fun w =>
    { w with mapped := w.mapped || b == 0, lost := w.lost || ((b == 0 && !(decide (f = s.tries c i t)) && s.mapEntry c i t 0 == 0)) || (b == 0 && decide (f = s.tries c i t)), blocks := Tab.set [] w.blocks b (s.lastSamples c i t b f) })
    → f = s.failures c i t b e → s.isPoisoned c i t = false → f < 3 → b = 0 → s.mapEntry c i t 0 = 0 → s.readBlock c n i t b e =
    u.poisonCtu c n i t 0 true) ∧
  (∀ (s u : State) (d : Nat) (rec : List Byte), d < 2 → s.works (pDEC d) = true → s.act (pDEC d) F.DEC.DEC_CFG_INPUT_KIND = 1 →
    s.ringRole (s.act (pDEC d) F.DEC.DEC_CFG_INPUT) 6 = true → s.takeRecord (s.act (pDEC d) F.DEC.DEC_CFG_INPUT) = some (rec, u)
    → exec (.decInputRecord d) s = .next (((u.setRing (s.act (pDEC d) F.DEC.DEC_CFG_INPUT)
    { u.ringOf (s.act (pDEC d) F.DEC.DEC_CFG_INPUT) with discont := false }).decRecord d rec (u.ringOf (s.act (pDEC d)
    F.DEC.DEC_CFG_INPUT)).discont).cpbLevel d)) ∧
  (∀ (s u : State) (d a : Nat) (pkt : List Byte) (rest : List (Nat × List Byte)), d < 2 → s.works (pDEC d) = true → s.act (pDEC
    d) F.DEC.DEC_CFG_INPUT_KIND ≠ 1 → (s.decOf d).input = (a, pkt) :: rest → u = (s.updDec d fun x => { x with input := rest })
    → u.act (pDEC d) F.DEC.DEC_CFG_TRANSPORT = 0 → exec (.decInputRecord d) s = .next ((u.rtpInput d a pkt).cpbLevel d)) ∧
  (∀ (s u : State) (d a : Nat) (pkt : List Byte) (rest : List (Nat × List Byte)), d < 2 → s.works (pDEC d) = true → s.act (pDEC
    d) F.DEC.DEC_CFG_INPUT_KIND ≠ 1 → (s.decOf d).input = (a, pkt) :: rest → u = (s.updDec d fun x => { x with input := rest })
    → u.act (pDEC d) F.DEC.DEC_CFG_TRANSPORT ≠ 0 → exec (.decInputRecord d) s = .next (((tsSplit ((rtpPayload pkt).length / 188)
    (rtpPayload pkt)).foldl (State.tsInput d a) u).cpbLevel d)) ∧
  (∀ (s t u : State) (d rows n : Nat) (a : AccessUnit) (as : List AccessUnit) (k : DecHead × AuRead) (r : Option Nat × Option
    (Nat × Int)) (w : Bool), d < 2 → s.works (pDEC d) = true → (s.decOf d).aus = a :: as → (a.refused || a.decoded) = false → k
    = s.auRead d (s.decOf d).head a → r = s.auIndex d (s.decOf d).anchor a k → u = (s.updDec d fun x =>
    { x with anchor := r.2 }) → w = (k.1.sps.all (fun p => decide (ceilDiv p.codedH 64 ≤ rows)) && s.mayComplete d a k &&
    s.slotFree d k.2) → r.1 = some n → u.auIndexed d a n = (t, true) → w = true → exec (.decPictureDecoded d rows) s = .next
    (t.decoded d { a with index := some n } k (some n))) ∧
  (∀ (s t u : State) (d rows n : Nat) (a : AccessUnit) (as : List AccessUnit) (k : DecHead × AuRead) (r : Option Nat × Option
    (Nat × Int)), d < 2 → s.works (pDEC d) = true → (s.decOf d).aus = a :: as → (a.refused || a.decoded) = false → k = s.auRead
    d (s.decOf d).head a → r = s.auIndex d (s.decOf d).anchor a k → u = (s.updDec d fun x => { x with anchor := r.2 }) → r.1 =
    some n → u.auIndexed d a n = (t, false) → exec (.decPictureDecoded d rows) s = .next (t.auLeave d a)) ∧
  (∀ (s t u : State) (d rows n : Nat) (a : AccessUnit) (as : List AccessUnit) (k : DecHead × AuRead) (r : Option Nat × Option
    (Nat × Int)) (w : Bool), d < 2 → s.works (pDEC d) = true → (s.decOf d).aus = a :: as → (a.refused || a.decoded) = false → k
    = s.auRead d (s.decOf d).head a → r = s.auIndex d (s.decOf d).anchor a k → u = (s.updDec d fun x =>
    { x with anchor := r.2 }) → w = (k.1.sps.all (fun p => decide (ceilDiv p.codedH 64 ≤ rows)) && s.mayComplete d a k &&
    s.slotFree d k.2) → r.1 = some n → u.auIndexed d a n = (t, true) → w = false → exec (.decPictureDecoded d rows) s = .next
    (k.1.sps.elim t fun p => if (s.decSupported d p a.donl && k.2.head.isSome) = true then t.decProgress d n a k p rows else t)) ∧
  (∀ (s u : State) (d rows : Nat) (a : AccessUnit) (as : List AccessUnit) (k : DecHead × AuRead) (r : Option Nat × Option (Nat ×
    Int)) (w : Bool), d < 2 → s.works (pDEC d) = true → (s.decOf d).aus = a :: as → (a.refused || a.decoded) = false → k =
    s.auRead d (s.decOf d).head a → r = s.auIndex d (s.decOf d).anchor a k → u = (s.updDec d fun x => { x with anchor := r.2 })
    → w = (k.1.sps.all (fun p => decide (ceilDiv p.codedH 64 ≤ rows)) && s.mayComplete d a k && s.slotFree d k.2) → r.1 = none →
    w = true → exec (.decPictureDecoded d rows) s = .next (u.decoded d a k none)) ∧
  (∀ (s u : State) (d rows : Nat) (a : AccessUnit) (as : List AccessUnit) (k : DecHead × AuRead) (r : Option Nat × Option (Nat ×
    Int)) (w : Bool), d < 2 → s.works (pDEC d) = true → (s.decOf d).aus = a :: as → (a.refused || a.decoded) = false → k =
    s.auRead d (s.decOf d).head a → r = s.auIndex d (s.decOf d).anchor a k → u = (s.updDec d fun x => { x with anchor := r.2 })
    → w = (k.1.sps.all (fun p => decide (ceilDiv p.codedH 64 ≤ rows)) && s.mayComplete d a k && s.slotFree d k.2) → r.1 = none →
    w = false → exec (.decPictureDecoded d rows) s = .next (u)) ∧
  (∀ (s : State) (d rows : Nat) (a : AccessUnit) (as : List AccessUnit), (s.decOf d).aus = a :: as → (a.refused || a.decoded) =
    true → exec (.decPictureDecoded d rows) s = .next s) ∧
  (∀ (s : State) (d rows : Nat), (s.decOf d).aus = [] → exec (.decPictureDecoded d rows) s = .next s) ∧
  (∀ (s : State) (n m : Nat), n < 2 → s.works (pSDITX n) = true → s.laneState (sdoLane n) = laTrack → s.running = true →
    ((s.sdoOf n).m < m ∨ (s.sdoOf n).sent = false) → exec (.sdiOutPicture n m) s = .next ((s.sdoAlign n m).sdoSend n m)) ∧
  (∀ (s : State) (n m : Nat), ((s.sdoOf n).sent = true ∧ m ≤ (s.sdoOf n).m ∨ s.laneState (sdoLane n) ≠ laTrack) → exec
    (.sdiOutPicture n m) s = .next s) ∧
  (∀ (s : State) (n m : Nat) (t : Tab Nat), s.sdoPicture n m = some t → s.sdoSend n m = s.setSdo n
    { s.sdoOf n with sent := true, groups := t, m := m, start := s.now }) ∧
  (∀ (s : State) (n m : Nat), s.sdoPicture n m = none → (s.sdoOf n).sent = true → s.sdoSend n m = ((s.setSdo n
    { s.sdoOf n with groups := if s.act (pSDITX n) F.SDITX.SDO_CFG_POLICY = 1 then [] else (s.sdoOf n).groups, m := m, start := s.now }).err
    (pSDITX n) 0)) ∧
  (∀ (s u : State) (c : Nat) (rec : List Byte), c < 64 → s.chanOn c = true → s.act (pCHAN c) F.CHAN.OUT_CFG_MODE = 1 → s.act
    (pCHAN c) F.CHAN.TS_CFG_HOST_EN = 1 → s.ringRole (s.act (pCHAN c) F.CHAN.TS_CFG_HOST_RING) 9 = true → s.takeRecord (s.act
    (pCHAN c) F.CHAN.TS_CFG_HOST_RING) = some (rec, u) → exec (.tsHostRecord c) s = .next (u.takeHostTs c rec)) ∧
  (∀ (s : State) (c : Nat), c < 64 → s.chanOn c = true → s.act (pCHAN c) F.CHAN.OUT_CFG_MODE = 1 → s.act (pCHAN c)
    F.CHAN.TS_CFG_HOST_EN = 1 → s.ringRole (s.act (pCHAN c) F.CHAN.TS_CFG_HOST_RING) 9 = true → s.takeRecord (s.act (pCHAN c)
    F.CHAN.TS_CFG_HOST_RING) = none → exec (.tsHostRecord c) s = .next s) ∧
  (∀ (s : State) (c m j : Nat) (rec : List Byte), (s.chanOf c).out.lastHost = some (m, j) → rowAfter (leNat (rec.take 8)) (leNat
    ((rec.drop 8).take 2)) m j = false → s.takeHostTs c rec = (((s.updOut c fun o =>
    { o with lastHost := some ((leNat (rec.take 8)), (leNat ((rec.drop 8).take 2))) }).raise (pCHAN c)
    F.CHAN.intHOST_TS_LATE).errBy (pCHAN c) 5 (hostRecordPackets ((rec.drop 10).getD 0 0).toNat (rec.drop 16)).length)) ∧
  (∀ (s : State) (c : Nat) (rec : List Byte), (s.chanOf c).out.lastHost = none → (decide ((leNat ((rec.drop 8).take 2)) < (s.geo
    c).rRows) && decide (s.nowPs > s.firePs (s.chanGroup c) ((s.geo c).codedIn (leNat (rec.take 8))) + (s.geo c).releaseAt
    (leNat ((rec.drop 8).take 2)))) = false → (leNat ((rec.drop 8).take 2)) < (s.geo c).rRows → (hostRecordPackets ((rec.drop
    10).getD 0 0).toNat (rec.drop 16)).length - ((((hostRecordPackets ((rec.drop 10).getD 0 0).toNat (rec.drop 16)).filter
    (s.hostPacketOk c)).take (s.act (pCHAN c) F.CHAN.TS_CFG_HOST_MAX))).length = 0 → s.takeHostTs c rec = (s.updOut c fun o =>
    { o with lastHost := some ((leNat (rec.take 8)), (leNat ((rec.drop 8).take 2))) }).updOut c fun o =>
    { o with host := o.host ++ [((leNat (rec.take 8)), (leNat ((rec.drop 8).take 2)), ((((hostRecordPackets ((rec.drop 10).getD 0 0).toNat (rec.drop 16)).filter (s.hostPacketOk c)).take (s.act (pCHAN c) F.CHAN.TS_CFG_HOST_MAX))))] })

/-- THREAD_READY, THREAD_CREATE, FLOW_POST, SUMP_FETCH, WAIT_DEADLINE_COUNT, KERNEL_ENTRY. -/
def Obligations.ThreadsWaitPostAndCreate : Prop :=
  (∀ (s : State) (id : Nat), s.works pTASK = true → (s.thread id).state = thWaiting → (s.thread id).wait = 1 → exec (.threadReady
    id) s = .next ((s.endWait id 1).timers.taskRun)) ∧
  (∀ (s : State) (id : Nat), s.works pTASK = true → (s.thread id).state ≠ thWaiting → (s.thread id).outcome = 2 → (s.thread
    id).endedAt / 8 = s.fabric → exec (.threadReady id) s = .next (s.setThread id { s.thread id with outcome := 1 })) ∧
  (∀ (s : State) (id : Nat), (s.thread id).state = 0 → (s.thread id).outcome = 0 → exec (.threadReady id) s = .next s) ∧
  (∀ (s : State) (id prio : Nat), s.works pTASK = true → id < 65536 → prio < 64 → (s.thread id).state = 0 → 1024 + min 64512
    (s.fld pTASK F.TASK.SUMP_SIZE_MIB * 4096) < s.onChip.length + s.inSump.length + 1 → exec (.threadCreate id prio) s = .next
    (((s.refuse pTASK Cls.capacity 0x12).err pTASK 2).raise pTASK F.TASK.intSUMP_FULL)) ∧
  (∀ (s : State) (id prio : Nat), s.works pTASK = true → id < 65536 → prio < 64 → (s.thread id).state = 0 → s.onChip.length +
    s.inSump.length + 1 ≤ 1024 + min 64512 (s.fld pTASK F.TASK.SUMP_SIZE_MIB * 4096) → exec (.threadCreate id prio) s = .next
    ((s.enterLists id { Thread.reset with prio := prio, state := thReady, order := s.task.seq }).taskRun)) ∧
  (∀ (s : State) (f : Nat), s.works pTASK = true → f < 4096 → 16384 ≤ s.flowItems → exec (.flowPost f) s = .next (s.refuse pTASK
    Cls.capacity 0x1D)) ∧
  (∀ (s : State) (f : Nat), s.works pTASK = true → f < 4096 → s.flowItems < 16384 → exec (.flowPost f) s = .next (((s.setFlow f
    { s.flow f with items := (s.flow f).items ++ [0] }).serveFlow f).timers.taskRun)) ∧
  (∀ (s : State) (id ns : Nat), s.works pTASK = true → s.entitled = some id → ns ≤ 2000 → exec (.sumpFetch id ns true) s = .next
    ((((s.setThread id .reset).logEv pTASK 0x20 6 0 (logHalf 24 id)).enterFault pTASK 0x0E).taskShow)) ∧
  (∀ (s u : State) (id ns : Nat), s.works pTASK = true → s.entitled = some id → ns ≤ 2000 → s.onChip.length < 1024 → u =
    ((s.setThread id { s.thread id with sump := false, entered := s.task.seq }).nextSeq.err pTASK 1) → exec (.sumpFetch id ns
    false) s = .next ((u.setFld pTASK F.TASK.FETCH_MAX_NS (max (u.fld pTASK F.TASK.FETCH_MAX_NS) ns)).taskRun)) ∧
  (∀ (s : State) (id ns : Nat) (b : Bool), s.entitled ≠ some id → exec (.sumpFetch id ns b) s = .next s) ∧
  (∀ (s : State) (id : Nat), s.works pTASK = true → s.running = false → (s.timedWaits.any fun w => w.1 == id && s.deadlineDue id
    w.2) = true → exec (.waitDeadlineCount id) s = .next ((s.endWait id 2).taskRun)) ∧
  (∀ (s : State) (id : Nat), (s.running = true ∨ (s.timedWaits.any fun w => w.1 == id && s.deadlineDue id w.2) = false) → exec
    (.waitDeadlineCount id) s = .next s) ∧
  (∀ (s : State) (c id : Nat) (t : Thread) (op : KernelOp), s.works pTASK = true → c < 8 → s.task.stopped / 2 ^ c % 2 = 0 →
    s.runningOn c = some (id, t) → s.task.swapTag = none → (s.kernelOp id op).task.swapTag = none → exec (.kernelEntry c op) s =
    .next ((s.kernelOp id op).timers.taskRun)) ∧
  (∀ (s : State) (c : Nat) (op : KernelOp), s.runningOn c = none → exec (.kernelEntry c op) s = .next s) ∧
  (∀ (s : State) (id d : Nat) (w : Option Nat), s.kernelOp id (.waitEvent w) = s.beginWait id 1 0 w ∧ s.kernelOp id (.sleep d) =
    s.beginWait id 3 0 (some d) ∧ s.kernelOp id .yieldCore = s.enterLists id
    { s.thread id with state := thReady, order := s.task.seq } ∧ s.kernelOp id .finish = s.setThread id .reset) ∧
  (∀ (s : State) (id f : Nat) (w : Option Nat) (r : List Nat), f < 4096 → (s.flow f).holder = none → (s.flow f).items = 0 :: r →
    s.kernelOp id (.takeItem f w) = s.setFlow f { items := r, holder := some id }) ∧
  (∀ (s : State) (id f : Nat) (w : Option Nat), f < 4096 → ((s.flow f).holder ≠ none ∨ (s.flow f).items = []) → s.kernelOp id
    (.takeItem f w) = s.beginWait id 2 f w) ∧
  (∀ (s : State) (id f : Nat), (s.flow f).holder = some id → s.kernelOp id (.itemDone f) = (s.setFlow f
    { s.flow f with holder := none }).serveFlow f)

/-- COMMAND_RECORD, CMD_ABORT, CMD_TIMEOUT, CMD_CFG_WRITE and NOP. -/
def Obligations.CommandsAreTakenAbortedAndTimedOut : Prop :=
  (∀ (s : State), s.works pTASK = true → s.bit pTASK F.TASK.CMD_CFG_EN = true → s.takeRecord (s.fld pTASK
    F.TASK.CMD_CFG_CMD_RING) = none → exec .commandRecord s = .next s) ∧
  (∀ (s u : State) (b : List Byte) (cls d : Nat), s.works pTASK = true → s.bit pTASK F.TASK.CMD_CFG_EN = true → s.takeRecord
    (s.fld pTASK F.TASK.CMD_CFG_CMD_RING) = some (b, u) → u.cmdCheck ((leNat (b.take 8)) % 256) ((leNat (b.take 8)) / 0x10000 %
    0x1000) ((leNat (b.take 8)) / 2 ^ 32) ((b.drop 16).take 48) = some (cls, d) → exec .commandRecord s = .next (((u.refuse
    pTASK cls d).writeResult ((leNat (b.take 8)) % 256) opRefused ((leNat (b.take 8)) / 0x10000 % 0x1000) ((leNat (b.take 8)) /
    2 ^ 32) (reasonCode cls .task d) 0 []).err pTASK 3)) ∧
  (∀ (s u v : State) (b : List Byte), s.works pTASK = true → s.bit pTASK F.TASK.CMD_CFG_EN = true → s.takeRecord (s.fld pTASK
    F.TASK.CMD_CFG_CMD_RING) = some (b, u) → u.cmdCheck ((leNat (b.take 8)) % 256) ((leNat (b.take 8)) / 0x10000 % 0x1000)
    ((leNat (b.take 8)) / 2 ^ 32) ((b.drop 16).take 48) = none → v = u.setFlow ((leNat (b.take 8)) / 0x10000 % 0x1000)
    { u.flow ((leNat (b.take 8)) / 0x10000 % 0x1000) with items := (u.flow ((leNat (b.take 8)) / 0x10000 % 0x1000)).items ++ [((leNat (b.take 8)) / 2 ^ 32) + 1] }
    → exec .commandRecord s = .next
    ({ v with task := { v.task with cmds := v.task.cmds ++ [{ op := (leNat (b.take 8)) % 256, page := ((leNat (b.take 8)) / 0x10000 % 0x1000), tag := ((leNat (b.take 8)) / 2 ^ 32), timeoutMs := leNat ((b.drop 8).take 4), args := (b.drop 16).take 48, started := none, stop := 0, stopAt := 0, phase := 0, data := [], entries := [] }] } }
    : State).taskShow) ∧
  (∀ (s : State) (tag : Nat) (x : TaskCmd), s.bar pTASK = true → s.cmdOf tag = some x → x.started = none → exec (.cmdAbort tag) s
    = .next (s.cmdStop { x with stop := 1 } [])) ∧
  (∀ (s : State) (tag : Nat) (x : TaskCmd), s.bar pTASK = true → s.cmdOf tag = some x → x.started ≠ none → x.stop = 0 → exec
    (.cmdAbort tag) s = .next (s.cmdHalt { x with stop := 1, stopAt := s.fabric })) ∧
  (∀ (s : State) (tag : Nat), s.bar pTASK = true → s.cmdOf tag = none → s.task.last = none → exec (.cmdAbort tag) s = .next s) ∧
  (∀ (s : State) (tag : Nat) (a : List Nat), s.bar pTASK = true → s.cmdOf tag = none → s.task.last = some (tag, s.fabric, a) →
    exec (.cmdAbort tag) s = .next ((((a.zip [0x41, 0x02]).foldl (fun u e => u.hostStore e.1 [BitVec.ofNat 8 e.2]) s).reason
    pTASK 0 0x01).err pTASK 6)) ∧
  (∀ (s : State) (tag : Nat) (x : TaskCmd), s.works pTASK = true → s.cmdOf tag = some x → x.stop = 0 → s.cmdLate x = true → exec
    (.cmdTimeout tag) s = .next (s.cmdHalt { x with stop := 2, stopAt := s.fabric })) ∧
  (∀ (s : State) (tag : Nat) (x : TaskCmd), s.cmdOf tag = some x → (x.stop ≠ 0 ∨ s.cmdLate x = false) → exec (.cmdTimeout tag) s
    = .next s) ∧
  (∀ (s : State) (tag : Nat) (x : TaskCmd), s.cmdOf tag = some x → x.op = 4 → s.cmdHalt x = s.cmdStop x s.joinOut) ∧
  (∀ (s : State) (tag : Nat) (x : TaskCmd), s.cmdOf tag = some x → x.op = 6 → s.cmdHalt x = s.swapAbandon.cmdStop x []) ∧
  (∀ (s : State) (tag : Nat) (x : TaskCmd), s.cmdOf tag = some x → (x.op = 1 ∨ x.op = 3 ∨ x.op = 5) → s.cmdHalt x = s.setCmd x) ∧
  (∀ (s u : State) (v : Word), s.bar pTASK = true → s.bit pTASK F.TASK.CMD_CFG_EN = true → u = s.setFld pTASK F.TASK.CMD_CFG_PRIO
    (F.TASK.CMD_CFG_PRIO.of v) → (F.TASK.CMD_CFG_CMD_RING.of v ≠ s.fld pTASK F.TASK.CMD_CFG_CMD_RING ∨
    F.TASK.CMD_CFG_RESULT_RING.of v ≠ s.fld pTASK F.TASK.CMD_CFG_RESULT_RING) → exec (.cmdCfgWrite v) s = .next ((u.setFld pTASK
    F.TASK.CMD_CFG_EN (F.TASK.CMD_CFG_EN.of v)).reason pTASK Cls.locked 0x07)) ∧
  (∀ (s u : State) (v : Word), s.bar pTASK = true → s.bit pTASK F.TASK.CMD_CFG_EN = true → u = s.setFld pTASK F.TASK.CMD_CFG_PRIO
    (F.TASK.CMD_CFG_PRIO.of v) → ¬ (F.TASK.CMD_CFG_CMD_RING.of v ≠ s.fld pTASK F.TASK.CMD_CFG_CMD_RING ∨
    F.TASK.CMD_CFG_RESULT_RING.of v ≠ s.fld pTASK F.TASK.CMD_CFG_RESULT_RING) → exec (.cmdCfgWrite v) s = .next (u.setFld pTASK
    F.TASK.CMD_CFG_EN (F.TASK.CMD_CFG_EN.of v))) ∧
  (∀ (s u w : State) (v : Word), s.bar pTASK = true → s.bit pTASK F.TASK.CMD_CFG_EN = false → u = s.setFld pTASK
    F.TASK.CMD_CFG_PRIO (F.TASK.CMD_CFG_PRIO.of v) → w = (u.setFld pTASK F.TASK.CMD_CFG_CMD_RING (F.TASK.CMD_CFG_CMD_RING.of
    v)).setFld pTASK F.TASK.CMD_CFG_RESULT_RING (F.TASK.CMD_CFG_RESULT_RING.of v) → F.TASK.CMD_CFG_EN.of v = 0 → exec
    (.cmdCfgWrite v) s = .next w) ∧
  (∀ (s u w : State) (v : Word), s.bar pTASK = true → s.bit pTASK F.TASK.CMD_CFG_EN = false → u = s.setFld pTASK
    F.TASK.CMD_CFG_PRIO (F.TASK.CMD_CFG_PRIO.of v) → w = (u.setFld pTASK F.TASK.CMD_CFG_CMD_RING (F.TASK.CMD_CFG_CMD_RING.of
    v)).setFld pTASK F.TASK.CMD_CFG_RESULT_RING (F.TASK.CMD_CFG_RESULT_RING.of v) → F.TASK.CMD_CFG_EN.of v ≠ 0 → (w.ringRole
    (F.TASK.CMD_CFG_CMD_RING.of v) 1 && w.ringRole (F.TASK.CMD_CFG_RESULT_RING.of v) 2) = true → exec (.cmdCfgWrite v) s = .next
    ((w.setFld pTASK F.TASK.CMD_CFG_EN 1).sendResults)) ∧
  (∀ (s u w : State) (v : Word), s.bar pTASK = true → s.bit pTASK F.TASK.CMD_CFG_EN = false → u = s.setFld pTASK
    F.TASK.CMD_CFG_PRIO (F.TASK.CMD_CFG_PRIO.of v) → w = (u.setFld pTASK F.TASK.CMD_CFG_CMD_RING (F.TASK.CMD_CFG_CMD_RING.of
    v)).setFld pTASK F.TASK.CMD_CFG_RESULT_RING (F.TASK.CMD_CFG_RESULT_RING.of v) → F.TASK.CMD_CFG_EN.of v ≠ 0 → (w.ringRole
    (F.TASK.CMD_CFG_CMD_RING.of v) 1 && w.ringRole (F.TASK.CMD_CFG_RESULT_RING.of v) 2) = false → exec (.cmdCfgWrite v) s =
    .next (w.refuse pTASK Cls.dependency 0x13)) ∧
  (∀ (s u : State) (tag : Nat) (x : TaskCmd), s.cmdOf tag = some x → x.op = 0 → x.started = none → s.cmdReady x = true → u =
    ((s.setFlow x.page { items := (s.flow x.page).items.tail, holder := some (65536 + tag) }).setCmd
    { x with started := some (s.now, s.fabric) }) → exec (.nop tag) s = .next ((u.cmdEnd
    { x with started := some (s.now, s.fabric) } opCompleted 0 []).taskShow)) ∧
  (∀ (s : State) (tag : Nat) (x : TaskCmd), s.cmdOf tag = some x → x.started = none → s.cmdReady x = false → exec (.nop tag) s =
    .next s ∧ exec (.cmdRetrain tag) s = .next s ∧ exec (.memSweep tag) s = .next s ∧ exec (.eyeScan tag) s = .next s ∧ exec
    (.join tag) s = .next s ∧ exec (.fwLoad tag) s = .next s ∧ exec (.fwSwap tag) s = .next s ∧ exec (.selftest tag) s = .next s)

/-- The command operations and the firmware bank swap (R431, R432). -/
def Obligations.CommandOperationsRunToTheirResults : Prop :=
  (∀ (s u : State) (tag : Nat) (x : TaskCmd), s.cmdOf tag = some x → x.op = 1 → x.started = none → s.cmdReady x = true → u =
    ((s.setFlow x.page { items := (s.flow x.page).items.tail, holder := some (65536 + tag) }).setCmd
    { x with started := some (s.now, s.fabric) }) → u.retrainRefusal (instanceOf x.page) = none → exec (.cmdRetrain tag) s =
    .next ((u.laneCtrlRetrain (instanceOf x.page)).taskShow)) ∧
  (∀ (s u : State) (tag : Nat) (x : TaskCmd) (code : Nat), s.cmdOf tag = some x → x.op = 1 → x.started = none → s.cmdReady x =
    true → u = ((s.setFlow x.page { items := (s.flow x.page).items.tail, holder := some (65536 + tag) }).setCmd
    { x with started := some (s.now, s.fabric) }) → u.retrainRefusal (instanceOf x.page) = some code → exec (.cmdRetrain tag) s
    = .next (((u.laneCtrlRetrain (instanceOf x.page)).cmdEnd { x with started := some (s.now, s.fabric) } opRefused code
    ((u.laneCtrlRetrain (instanceOf x.page)).retrainOut (instanceOf x.page))).taskShow)) ∧
  (∀ (s : State) (tag : Nat) (x : TaskCmd) (a : Nat × Nat), s.cmdOf tag = some x → x.op = 1 → x.started = some a → s.works pTASK
    = true → s.laneState x.page = laTrack → x.stop = 0 → exec (.cmdRetrain tag) s = .next (s.cmdEnd x opCompleted 0
    (s.retrainOut (instanceOf x.page)))) ∧
  (∀ (s : State) (tag : Nat) (x : TaskCmd) (a : Nat × Nat), s.cmdOf tag = some x → x.op = 1 → x.started = some a → s.works pTASK
    = true → (s.laneState x.page = laDown ∨ s.laneState x.page = laFailed) → x.stop = 0 → exec (.cmdRetrain tag) s = .next
    (s.cmdEnd x opRefused (s.fld x.page F.PAGE_REASON_CODE) (s.retrainOut (instanceOf x.page)))) ∧
  (∀ (s : State) (tag : Nat) (x : TaskCmd) (a : Nat × Nat), s.cmdOf tag = some x → x.op = 1 → x.started = some a → s.works pTASK
    = true → (s.laneState x.page = laTrain ∨ s.laneState x.page = laAcquire) → exec (.cmdRetrain tag) s = .next (s)) ∧
  (∀ (s u : State) (tag : Nat) (x : TaskCmd), s.cmdOf tag = some x → x.op = 2 → x.started = none → s.cmdReady x = true → u =
    ((s.setFlow x.page { items := (s.flow x.page).items.tail, holder := some (65536 + tag) }).setCmd
    { x with started := some (s.now, s.fabric) }) → exec (.memSweep tag) s = .next ((u.sweepProbe
    { x with started := some (s.now, s.fabric) } 0).taskShow)) ∧
  (∀ (s : State) (tag : Nat) (x : TaskCmd) (a : Nat × Nat), s.cmdOf tag = some x → x.op = 2 → x.started = some a → s.works pTASK
    = true → x.phase ≠ 1000 → 0 < (s.memcOf (instanceOf x.page)).probeLeft → exec (.memSweep tag) s = .next (s)) ∧
  (∀ (s : State) (tag : Nat) (x : TaskCmd) (a : Nat × Nat), s.cmdOf tag = some x → x.op = 2 → x.started = some a → s.works pTASK
    = true → x.phase ≠ 1000 → (s.memcOf (instanceOf x.page)).probeLeft = 0 → x.stop = 0 → 1 ≤ x.phase → x.phase - 1 < 511 →
    s.fld x.page F.MEMC.PROBE_RESULT_FAIL = 0 → exec (.memSweep tag) s = .next ((s.setCmd
    { x with data := (x.phase - 1) :: x.data }).sweepProbe { x with data := (x.phase - 1) :: x.data } x.phase)) ∧
  (∀ (s : State) (tag : Nat) (x : TaskCmd) (a : Nat × Nat), s.cmdOf tag = some x → x.op = 2 → x.started = some a → s.works pTASK
    = true → x.phase ≠ 1000 → (s.memcOf (instanceOf x.page)).probeLeft = 0 → x.stop = 0 → 1 ≤ x.phase → x.phase - 1 < 511 →
    s.fld x.page F.MEMC.PROBE_RESULT_FAIL ≠ 0 → exec (.memSweep tag) s = .next ((s.setCmd x).sweepProbe x x.phase)) ∧
  (∀ (s : State) (tag : Nat) (x : TaskCmd) (a : Nat × Nat), s.cmdOf tag = some x → x.op = 2 → x.started = some a → s.works pTASK
    = true → x.phase = 512 → (s.memcOf (instanceOf x.page)).probeLeft = 0 → x.stop = 0 → s.fld x.page F.MEMC.PROBE_RESULT_FAIL =
    0 → exec (.memSweep tag) s = .next ((s.setCmd { x with data := 511 :: x.data }).sweepWindow
    { x with data := 511 :: x.data })) ∧
  (∀ (s : State) (tag : Nat) (x : TaskCmd) (a : Nat × Nat), s.cmdOf tag = some x → x.op = 2 → x.started = some a → s.works pTASK
    = true → x.phase = 1000 → s.bit x.page F.MEMC.MEMC_STATUS_APPLY_PENDING = true → exec (.memSweep tag) s = .next (s)) ∧
  (∀ (s : State) (tag : Nat) (x : TaskCmd) (a : Nat × Nat), s.cmdOf tag = some x → x.op = 2 → x.started = some a → s.works pTASK
    = true → x.phase = 1000 → s.bit x.page F.MEMC.MEMC_STATUS_APPLY_PENDING = false → s.fld x.page (sweepNext x.args) = s.fld
    x.page ⟨(sweepNext x.args).off + 0x40, (sweepNext x.args).lo, 9⟩ → exec (.memSweep tag) s = .next (s.cmdEnd x opCompleted 0
    (sweepOut (x.data.getLast?.getD 0) (x.data.head?.getD 0) (((x.data.getLast?.getD 0) + (x.data.head?.getD 0)) / 2)))) ∧
  (∀ (s : State) (x : TaskCmd), x.data = [] → s.sweepWindow x = s.cmdRefuse x Cls.resource 0x18) ∧
  (∀ (s u : State) (tag : Nat) (x : TaskCmd), s.cmdOf tag = some x → x.op = 3 → x.started = none → s.cmdReady x = true → u =
    ((s.setFlow x.page { items := (s.flow x.page).items.tail, holder := some (65536 + tag) }).setCmd
    { x with started := some (s.now, s.fabric) }) → exec (.eyeScan tag) s = .next ((u.scanStart
    { x with started := some (s.now, s.fabric) } 0).taskShow)) ∧
  (∀ (s : State) (tag : Nat) (x : TaskCmd) (a : Nat × Nat), s.cmdOf tag = some x → x.op = 3 → x.started = some a → s.works pTASK
    = true → s.bit x.page F.LANE.ES_STATUS_BUSY = true → exec (.eyeScan tag) s = .next (s)) ∧
  (∀ (s : State) (tag : Nat) (x : TaskCmd) (a : Nat × Nat), s.cmdOf tag = some x → x.op = 3 → x.started = some a → s.works pTASK
    = true → s.bit x.page F.LANE.ES_STATUS_BUSY = false → s.bit x.page F.LANE.ES_STATUS_DONE = true → x.stop = 0 → x.phase - 1 +
    1 < scanPoints x.args → exec (.eyeScan tag) s = .next ((s.setCmd
    { x with entries := x.entries ++ leBytes (s.live64 x.page F.LANE.ES_ERR_LO % 2 ^ 48 + s.fld x.page F.LANE.ES_STATUS_DISTURBED * 2 ^ 48 + (s.laneOf (instanceOf x.page)).esFrozen.toNat * 2 ^ 49) 8 }).scanStart
    { x with entries := x.entries ++ leBytes (s.live64 x.page F.LANE.ES_ERR_LO % 2 ^ 48 + s.fld x.page F.LANE.ES_STATUS_DISTURBED * 2 ^ 48 + (s.laneOf (instanceOf x.page)).esFrozen.toNat * 2 ^ 49) 8 }
    (x.phase - 1 + 1))) ∧
  (∀ (s : State) (tag : Nat) (x : TaskCmd) (a : Nat × Nat), s.cmdOf tag = some x → x.op = 3 → x.started = some a → s.works pTASK
    = true → s.bit x.page F.LANE.ES_STATUS_BUSY = false → s.bit x.page F.LANE.ES_STATUS_DONE = true → x.stop = 0 → scanPoints
    x.args ≤ x.phase - 1 + 1 → exec (.eyeScan tag) s = .next (((s.setCmd
    { x with entries := x.entries ++ leBytes (s.live64 x.page F.LANE.ES_ERR_LO % 2 ^ 48 + s.fld x.page F.LANE.ES_STATUS_DISTURBED * 2 ^ 48 + (s.laneOf (instanceOf x.page)).esFrozen.toNat * 2 ^ 49) 8 }).scanWrite
    { x with entries := x.entries ++ leBytes (s.live64 x.page F.LANE.ES_ERR_LO % 2 ^ 48 + s.fld x.page F.LANE.ES_STATUS_DISTURBED * 2 ^ 48 + (s.laneOf (instanceOf x.page)).esFrozen.toNat * 2 ^ 49) 8 }
    (x.phase - 1 + 1)).cmdEnd
    { x with entries := x.entries ++ leBytes (s.live64 x.page F.LANE.ES_ERR_LO % 2 ^ 48 + s.fld x.page F.LANE.ES_STATUS_DISTURBED * 2 ^ 48 + (s.laneOf (instanceOf x.page)).esFrozen.toNat * 2 ^ 49) 8 }
    opCompleted 0 (leBytes ((x.phase - 1 + 1) % 65536) 8))) ∧
  (∀ (s u : State) (tag : Nat) (x : TaskCmd), s.cmdOf tag = some x → x.op = 4 → x.started = none → s.cmdReady x = true → u =
    ((s.setFlow x.page { items := (s.flow x.page).items.tail, holder := some (65536 + tag) }).setCmd
    { x with started := some (s.now, s.fabric) }) → u.pairOn = true → exec (.join tag) s = .next (((u.chansOn.filter fun c =>
    u.chStep c == ncOutOfStep && joinMask x / 2 ^ c % 2 == 1).foldl (fun t c => t.ropeSend 0x13 [BitVec.ofNat 8 c, 0, 0, 0])
    u).taskShow)) ∧
  (∀ (s u : State) (tag : Nat) (x : TaskCmd), s.cmdOf tag = some x → x.op = 4 → x.started = none → s.cmdReady x = true → u =
    ((s.setFlow x.page { items := (s.flow x.page).items.tail, holder := some (65536 + tag) }).setCmd
    { x with started := some (s.now, s.fabric) }) → u.pairOn = false → exec (.join tag) s = .next ((u.cmdRefuse
    { x with started := some (s.now, s.fabric) } Cls.dependency 0x06).taskShow)) ∧
  (∀ (s : State) (tag : Nat) (x : TaskCmd) (a : Nat × Nat), s.cmdOf tag = some x → x.op = 4 → x.started = some a → s.works pTASK
    = true → ((List.range 64).all fun c => joinMask x / 2 ^ c % 2 == 0 || (s.chanOn c && s.chStep c == ncInStep)) = true → exec
    (.join tag) s = .next (s.cmdEnd x opCompleted 0 s.joinOut)) ∧
  (∀ (s u : State) (tag : Nat) (x : TaskCmd), s.cmdOf tag = some x → x.op = 5 → x.started = none → s.cmdReady x = true → u =
    ((s.setFlow x.page { items := (s.flow x.page).items.tail, holder := some (65536 + tag) }).setCmd
    { x with started := some (s.now, s.fabric) }) → u.bit pTASK F.TASK.FW_STATUS_BANK = true → exec (.fwLoad tag) s = .next
    (({ (u.setFld pTASK F.TASK.FW_STATUS_LOADED 0).setFld pTASK F.TASK.FW_LOADED_VER 0 with task := { u.task with bank0 := .reset } }
    : State).taskShow)) ∧
  (∀ (s u : State) (tag : Nat) (x : TaskCmd), s.cmdOf tag = some x → x.op = 5 → x.started = none → s.cmdReady x = true → u =
    ((s.setFlow x.page { items := (s.flow x.page).items.tail, holder := some (65536 + tag) }).setCmd
    { x with started := some (s.now, s.fabric) }) → u.bit pTASK F.TASK.FW_STATUS_BANK = false → exec (.fwLoad tag) s = .next
    (({ (u.setFld pTASK F.TASK.FW_STATUS_LOADED 0).setFld pTASK F.TASK.FW_LOADED_VER 0 with task := { u.task with bank1 := .reset } }
    : State).taskShow)) ∧
  (∀ (s : State) (tag : Nat) (x : TaskCmd) (a : Nat × Nat) (ver abi : Nat), s.cmdOf tag = some x → x.op = 5 → x.started = some a
    → s.works pTASK = true → x.stop = 0 → exec (.fwLoadDone tag false ver abi) s = .next (s.cmdRefuse x Cls.range 0x19)) ∧
  (∀ (s : State) (tag : Nat) (x : TaskCmd) (a : Nat × Nat) (ver abi : Nat), s.cmdOf tag = some x → x.op = 5 → x.started = some a
    → s.works pTASK = true → x.stop = 0 → s.bit pTASK F.TASK.FW_STATUS_BANK = false → exec (.fwLoadDone tag true ver abi) s =
    .next
    (({ (s.setFld pTASK F.TASK.FW_STATUS_LOADED 1).setFld pTASK F.TASK.FW_LOADED_VER ver with task := { s.task with bank1 := ⟨true, ver % 2 ^ 32, abi % 256⟩ } }
    : State).cmdEnd x opCompleted 0 (leBytes ver 4 ++ leBytes (abi % 256) 4))) ∧
  (∀ (s : State) (tag : Nat) (x : TaskCmd) (a : Nat × Nat) (ver abi : Nat), s.cmdOf tag = some x → x.op = 5 → x.started = some a
    → s.works pTASK = true → x.stop = 0 → s.bit pTASK F.TASK.FW_STATUS_BANK = true → exec (.fwLoadDone tag true ver abi) s =
    .next
    (({ (s.setFld pTASK F.TASK.FW_STATUS_LOADED 1).setFld pTASK F.TASK.FW_LOADED_VER ver with task := { s.task with bank0 := ⟨true, ver % 2 ^ 32, abi % 256⟩ } }
    : State).cmdEnd x opCompleted 0 (leBytes ver 4 ++ leBytes (abi % 256) 4))) ∧
  (∀ (s : State) (tag : Nat) (x : TaskCmd) (a : Nat × Nat) (ok : Bool) (ver abi : Nat), s.cmdOf tag = some x → x.op = 5 →
    x.started = some a → s.works pTASK = true → x.stop ≠ 0 → exec (.fwLoadDone tag ok ver abi) s = .next (s.cmdStop x [])) ∧
  (∀ (s u : State) (tag : Nat) (x : TaskCmd), s.cmdOf tag = some x → x.op = 6 → x.started = none → s.cmdReady x = true → u =
    ((s.setFlow x.page { items := (s.flow x.page).items.tail, holder := some (65536 + tag) }).setCmd
    { x with started := some (s.now, s.fabric) }) → u.otherBank.valid = false → exec (.fwSwap tag) s = .next ((u.cmdRefuse
    { x with started := some (s.now, s.fabric) } Cls.dependency 0x1B).taskShow)) ∧
  (∀ (s u : State) (tag : Nat) (x : TaskCmd), s.cmdOf tag = some x → x.op = 6 → x.started = none → s.cmdReady x = true → u =
    ((s.setFlow x.page { items := (s.flow x.page).items.tail, holder := some (65536 + tag) }).setCmd
    { x with started := some (s.now, s.fabric) }) → u.otherBank.valid = true → u.otherBank.abi ≠ u.activeBank.abi → exec
    (.fwSwap tag) s = .next ((u.cmdRefuse { x with started := some (s.now, s.fabric) } Cls.conflict 0x1A).taskShow)) ∧
  (∀ (s u : State) (tag : Nat) (x : TaskCmd), s.cmdOf tag = some x → x.op = 6 → x.started = none → s.cmdReady x = true → u =
    ((s.setFlow x.page { items := (s.flow x.page).items.tail, holder := some (65536 + tag) }).setCmd
    { x with started := some (s.now, s.fabric) }) → u.otherBank.valid = true → u.otherBank.abi = u.activeBank.abi → exec
    (.fwSwap tag) s = .next
    ((({ u.setFld pTASK F.TASK.TASK_STATUS_SWAP_ACTIVE 1 with task := { u.task with swapTag := some tag } } :
    State).idleCores.foldl (fun (t : State) c => if t.task.swapTag.isSome then t.coreStop c else t)
    { u.setFld pTASK F.TASK.TASK_STATUS_SWAP_ACTIVE 1 with task := { u.task with swapTag := some tag } }).taskShow)) ∧
  (∀ (s : State) (c : Nat), s.works pTASK = true → c < 8 → s.task.swapTag.isSome = true → s.task.stopped / 2 ^ c % 2 = 0 → exec
    (.coreStopped c) s = .next ((s.coreStop c).taskShow)) ∧
  (∀ (s : State) (c : Nat), s.task.swapTag = none → exec (.coreStopped c) s = .next s) ∧
  (∀ (s : State) (tag t : Nat) (x : TaskCmd), s.works pTASK = true → s.task.firstStop = some t → t + 60000 ≤ s.fabric →
    s.task.swapTag = some tag → s.cmdOf tag = some x → exec .swapTimeout s = .next (s.swapAbandon.cmdRefuse x Cls.timing 0x1C)) ∧
  (∀ (s : State), s.task.firstStop = none → exec .swapTimeout s = .next s) ∧
  (∀ (s u : State) (tag : Nat) (x : TaskCmd), s.cmdOf tag = some x → x.op = 7 → x.started = none → s.cmdReady x = true → u =
    ((s.setFlow x.page { items := (s.flow x.page).items.tail, holder := some (65536 + tag) }).setCmd
    { x with started := some (s.now, s.fabric) }) → u.st x.page = stOos → exec (.selftest tag) s = .next ((u).taskShow)) ∧
  (∀ (s u : State) (tag : Nat) (x : TaskCmd), s.cmdOf tag = some x → x.op = 7 → x.started = none → s.cmdReady x = true → u =
    ((s.setFlow x.page { items := (s.flow x.page).items.tail, holder := some (65536 + tag) }).setCmd
    { x with started := some (s.now, s.fabric) }) → u.st x.page ≠ stOos → exec (.selftest tag) s = .next ((u.cmdRefuse
    { x with started := some (s.now, s.fabric) } Cls.conflict 0x1E).taskShow)) ∧
  (∀ (s : State) (tag : Nat) (x : TaskCmd) (a : Nat × Nat) (pass : Bool), s.cmdOf tag = some x → x.op = 7 → x.started = some a →
    s.works pTASK = true → exec (.chamberTestDone tag pass) s = .next (s.cmdEnd x opCompleted 0 (leBytes pass.toNat 8)))

/-- POWER_ON_RESET, PWRGOOD_FALL, PERST_N_ASSERT, PERST_N_RELEASE, ROOT_PLL_LOSS, ROOT_PLL_RELOCK, BOOT_WATCHDOG, LANTERN_WATCHDOG,
  THERMTRIP. That DRAM keeps its contents is the model's choice (log entry 11). -/
def Obligations.ResetsHoldAndReleaseTheDevice : Prop :=
  (∀ (s u : State), s.boot.porHeld = true → u =
    (({ s with boot := { s.boot with porHeld := false }, watch := { s.watch with thermtrip := false, shutdownN := false } } :
    State).setFld pMGMT F.MGMT.TRUST_STATUS_SEC_COUNTER s.nor.secCounter) → exec .powerOnReset s = .next (u.enterBoot (if
    s.log.shutdownLast then 5 else 0))) ∧
  (∀ (s : State), s.boot.porHeld = false → exec .powerOnReset s = .next s) ∧
  (∀ (s : State), exec .pwrgoodFall s = .next
    { State.reset with pending := s.pending, freeCtr := s.freeCtr, readData := s.readData, mem := s.mem, hostMem := s.hostMem, norMem := s.norMem, nor := { s.nor with slotA := .reset, slotB := .reset, gen := 0, copy := 0, written := none, opSlot := 0 }, log := { LogState.reset with shutdownLast := s.log.shutdownLast }, watch := { WatchState.reset with thermtrip := s.watch.thermtrip, shutdownN := s.watch.shutdownN } }) ∧
  (∀ (s : State), s.boot.porHeld = true → exec .perstNAssert s = .next { s with boot := { s.boot with perst := true } }) ∧
  (∀ (s u : State), s.boot.porHeld = false → u = s.deviceReset false → exec .perstNAssert s = .next
    ((({ u with boot := { u.boot with perst := true, mult := 120, pcieTraining := false } } : State).afterReset).phaseTo
    phReset)) ∧
  (∀ (s u : State), s.boot.perst = true → u = ({ s with boot := { s.boot with perst := false, pcieTraining := true } } :
    State).hostTrains → s.phase = phReset → s.boot.porHeld = false → s.boot.rootHeld = false → exec .perstNRelease s = .next
    (u.enterBoot 1)) ∧
  (∀ (s u : State), s.boot.perst = true → u = ({ s with boot := { s.boot with perst := false, pcieTraining := true } } :
    State).hostTrains → (s.phase ≠ phReset ∨ s.boot.porHeld = true ∨ s.boot.rootHeld = true) → exec .perstNRelease s = .next u) ∧
  (∀ (s : State), s.boot.perst = false → exec .perstNRelease s = .next s) ∧
  (∀ (s u : State), s.boot.porHeld = false → u = s.deviceReset false → exec .rootPllLoss s = .next
    (((({ u with boot := { u.boot with rootHeld := true, mult := 120 } } : State).afterReset).phaseTo phReset).setFld pMGMT
    F.MGMT.PHASE_STATUS_BOOT_CAUSE 6)) ∧
  (∀ (s u : State), s.boot.rootHeld = true → u = (({ s with boot := { s.boot with rootHeld := false } } : State).enterBoot 6) →
    exec .rootPllRelock s = .next ((if s.boot.pcieTraining then u.hostTrains else u).logEv pMGMT 0x24 6 0 [])) ∧
  (∀ (s : State), s.boot.rootHeld = false → exec .rootPllRelock s = .next s) ∧
  (∀ (s : State), (s.phase = phBoot ∨ s.phase = phSelftest ∨ s.phase = phBringup) → s.boot.ps ≥ s.boot.bootAt + 5000000000000 →
    exec .bootWatchdog s = .next (s.lanternReboot 4)) ∧
  (∀ (s : State), s.boot.ps < s.boot.bootAt + 5000000000000 → exec .bootWatchdog s = .next s) ∧
  (∀ (s : State), s.phase = phService → s.boot.porHeld = false → exec .lanternWatchdog s = .next (((s.mgmtOpFails.raise pMGMT
    F.MGMT.intLANTERN_RESTARTED).logEv pMGMT F.MGMT.intLANTERN_RESTARTED 4 0 []).fatal 6)) ∧
  (∀ (s : State), s.phase ≠ phService → s.phase ≠ phReset → s.boot.porHeld = false → exec .lanternWatchdog s = .next
    (s.lanternReboot 3)) ∧
  (∀ (s : State), exec .thermtrip s = .next { s with watch := { s.watch with thermtrip := true } })

/-- BOOT, SELFTEST_COMPLETE and BRINGUP_COMPLETE. Whether an image's digest and signature are good is an operand (log entry 30). -/
def Obligations.TheBootRunsToServiceOrRecovery : Prop :=
  (∀ (s u : State) (a b : Bool) (bad : List (Nat × Nat)), s.phase = phBoot → State.chooseSlot (fun k => if k = 0 then a else b) 3
    s.readDir.findLogHead [] = (u, bad, none) → exec (.boot a b) s = .next (((u.bootRecords bad).enterRecovery).setFld pMGMT
    F.MGMT.PHASE_STATUS_SELFTEST_OK 0)) ∧
  (∀ (s u : State) (a b : Bool) (bad : List (Nat × Nat)) (k : Nat) (es : List (Nat × Nat × Nat)), s.phase = phBoot →
    State.chooseSlot (fun k => if k = 0 then a else b) 3 s.readDir.findLogHead [] = (u, bad, some (k, es)) → exec (.boot a b) s
    = .next (u.bootFrom bad k es)) ∧
  (∀ (s : State) (a b : Bool), s.phase ≠ phBoot → exec (.boot a b) s = .next s) ∧
  (∀ (s : State) (cr ch de cl si ra : Nat), s.phase ≠ phSelftest → exec (.selftestComplete cr ch de cl si ra) s = .next s) ∧
  (∀ (s u u1 v : State) (cr ch de cl si ra k : Nat) (l : List (Nat × Nat)), s.phase = phSelftest → k = s.testable ch → l =
    failedItems 0 1 (cr &&& 0xB) ++ failedItems 1 1 ((cr &&& 0xB) / 2) ++ failedItems 2 18 k ++ failedItems 3 1 ((cr &&& 0xB) /
    8) ++ failedItems 4 2 de ++ failedItems 5 5 cl ++ failedItems 6 12 si ++ failedItems 6 10 ra → u = (l.foldl (fun t i =>
    t.logEv pMGMT 0x21 4 0 [(24, i.1), (25, i.2)]) s).setFld pMGMT F.MGMT.SELFTEST_RESULT (l.foldl (fun m i => m ||| 2 ^ i.1) 0)
    → u1 = u.setFld pMGMT F.MGMT.CHMB_FAILED_CHAMBERS k → v =
    ({ u1 with boot := { u1.boot with decFailed := de % 4, refclkBad := cl % 32 }, watch := { u1.watch with badSites := si % 4096, badRails := ra % 1024 } }
    : State) → cr &&& 0xB ≠ 0 → exec (.selftestComplete cr ch de cl si ra) s = .next ((v.setFld pMGMT
    F.MGMT.PHASE_STATUS_SELFTEST_OK 0).enterRecovery)) ∧
  (∀ (s u u1 v : State) (cr ch de cl si ra k : Nat) (l : List (Nat × Nat)) (w : State), s.phase = phSelftest → k = s.testable ch
    → l = failedItems 0 1 (cr &&& 0xB) ++ failedItems 1 1 ((cr &&& 0xB) / 2) ++ failedItems 2 18 k ++ failedItems 3 1 ((cr &&&
    0xB) / 8) ++ failedItems 4 2 de ++ failedItems 5 5 cl ++ failedItems 6 12 si ++ failedItems 6 10 ra → u = (l.foldl (fun t i
    => t.logEv pMGMT 0x21 4 0 [(24, i.1), (25, i.2)]) s).setFld pMGMT F.MGMT.SELFTEST_RESULT (l.foldl (fun m i => m ||| 2 ^ i.1)
    0) → u1 = u.setFld pMGMT F.MGMT.CHMB_FAILED_CHAMBERS k → v =
    ({ u1 with boot := { u1.boot with decFailed := de % 4, refclkBad := cl % 32 }, watch := { u1.watch with badSites := si % 4096, badRails := ra % 1024 } }
    : State) → cr &&& 0xB = 0 → w = (v.setFld pMGMT F.MGMT.PHASE_STATUS_SELFTEST_OK 1).deviceReset true → exec
    (.selftestComplete cr ch de cl si ra) s = .next (((({ w with boot := { w.boot with mult := w.setting 1 0 240 } } :
    State).afterReset).lanternOn pPWR).phaseTo phBringup)) ∧
  (∀ (s u : State) (t : Nat), s.phase = phBringup → (s.bringMemory t).protectedData (s.boot.heldSlot.getD 0) = none → u =
    (s.bringMemory t).deviceReset true → exec (.bringupComplete t) s = .next
    (((((({ u with boot := { u.boot with mult := 120 } } : State).afterReset).lanternOn pPWR).setFld pMGMT
    F.MGMT.PHASE_STATUS_SELFTEST_OK 0)).enterRecovery)) ∧
  (∀ (s u : State) (t : Nat), s.phase = phBringup → (s.bringMemory t).protectedData (s.boot.heldSlot.getD 0) = some u → exec
    (.bringupComplete t) s = .next (((((u.bringLanes.bringTask (s.boot.heldSlot.getD 0)).bringUnits.slotServes
    (s.boot.heldSlot.getD 0)).phaseTo phService).raise pMGMT F.MGMT.intHANDED_OVER).dirChanged)) ∧
  (∀ (s : State) (t : Nat), s.phase ≠ phBringup → exec (.bringupComplete t) s = .next s)

/-- WRITE_SLOT, ACTIVATE, NOR_READ, MGMT_RESTART, MGMT_OP_DONE, XMODEM_IMAGE and CONSOLE_LOAD (R475 to R477). -/
def Obligations.SlotsAreWrittenActivatedAndRead : Prop :=
  (∀ (s : State) (n : Nat), s.bar pMGMT = true → s.phase = phService → 5 ≤ s.fld pMGMT F.PAGE_OP_KIND → s.opRunning pMGMT (s.fld
    pMGMT F.PAGE_OP_KIND) = true → exec (.activate n) s = .next (s.reason pMGMT Cls.conflict 0x11) ∧ exec .norRead s = .next
    (s.reason pMGMT Cls.conflict 0x11) ∧ exec .mgmtRestart s = .next (s.reason pMGMT Cls.conflict 0x11)) ∧
  (∀ (s t : State) (k : Nat), s.bar pMGMT = true → s.boot.runSlot = some k → s.phase = phService → (s.fld pMGMT F.PAGE_OP_KIND <
    5 ∨ s.opRunning pMGMT (s.fld pMGMT F.PAGE_OP_KIND) = false) → t = ({ s with nor := { s.nor with opAbort := false } } :
    State) → 64 ≤ t.fld pMGMT F.MGMT.UPD_LEN_BYTES → t.fld pMGMT F.MGMT.UPD_LEN_BYTES ≤ 12582912 → t.inDram (t.addr36 pMGMT
    F.MGMT.UPD_ADDR_LO) (t.fld pMGMT F.MGMT.UPD_LEN_BYTES) = true → exec .writeSlot s = .next
    { (t.opBegin pMGMT 5).setSlot (1 - k) ⟨sdEmpty, 0, 0⟩ with nor := { ((t.opBegin pMGMT 5).setSlot (1 - k) ⟨sdEmpty, 0, 0⟩).nor with opSlot := 1 - k, written := none } }) ∧
  (∀ (s t : State) (k : Nat), s.bar pMGMT = true → s.boot.runSlot = some k → s.phase = phService → (s.fld pMGMT F.PAGE_OP_KIND <
    5 ∨ s.opRunning pMGMT (s.fld pMGMT F.PAGE_OP_KIND) = false) → t = ({ s with nor := { s.nor with opAbort := false } } :
    State) → (t.fld pMGMT F.MGMT.UPD_LEN_BYTES < 64 ∨ 12582912 < t.fld pMGMT F.MGMT.UPD_LEN_BYTES) → exec .writeSlot s = .next
    (t.mgmtRefuse 5 Cls.range 0x03)) ∧
  (∀ (s t : State) (k : Nat), s.bar pMGMT = true → s.boot.runSlot = some k → s.phase = phService → (s.fld pMGMT F.PAGE_OP_KIND <
    5 ∨ s.opRunning pMGMT (s.fld pMGMT F.PAGE_OP_KIND) = false) → t = ({ s with nor := { s.nor with opAbort := false } } :
    State) → 64 ≤ t.fld pMGMT F.MGMT.UPD_LEN_BYTES → t.fld pMGMT F.MGMT.UPD_LEN_BYTES ≤ 12582912 → t.inDram (t.addr36 pMGMT
    F.MGMT.UPD_ADDR_LO) (t.fld pMGMT F.MGMT.UPD_LEN_BYTES) = false → exec .writeSlot s = .next (t.mgmtRefuse 5 Cls.range 0x15)) ∧
  (∀ (s t : State) (n k : Nat), s.bar pMGMT = true → s.phase = phService → (s.fld pMGMT F.PAGE_OP_KIND < 5 ∨ s.opRunning pMGMT
    (s.fld pMGMT F.PAGE_OP_KIND) = false) → t = ({ s with nor := { s.nor with opAbort := false } } : State) → t.nor.written =
    some k → 1 ≤ n → n ≤ 7 → exec (.activate n) s = .next
    { (t.opBegin pMGMT 6).setFld pMGMT F.MGMT.MGMT_CMD_TRIALS n with nor := { ((t.opBegin pMGMT 6).setFld pMGMT F.MGMT.MGMT_CMD_TRIALS n).nor with opSlot := k } }) ∧
  (∀ (s t : State) (n : Nat), s.bar pMGMT = true → s.phase = phService → (s.fld pMGMT F.PAGE_OP_KIND < 5 ∨ s.opRunning pMGMT
    (s.fld pMGMT F.PAGE_OP_KIND) = false) → t = ({ s with nor := { s.nor with opAbort := false } } : State) → t.nor.written =
    none → 1 ≤ n → n ≤ 7 → exec (.activate n) s = .next (t.mgmtRefuse 6 Cls.dependency 0x14)) ∧
  (∀ (s t : State) (n : Nat), s.bar pMGMT = true → s.phase = phService → (s.fld pMGMT F.PAGE_OP_KIND < 5 ∨ s.opRunning pMGMT
    (s.fld pMGMT F.PAGE_OP_KIND) = false) → t = ({ s with nor := { s.nor with opAbort := false } } : State) → (n = 0 ∨ 7 < n) →
    exec (.activate n) s = .next (t.mgmtRefuse 6 Cls.range 0x03)) ∧
  (∀ (s t : State), s.bar pMGMT = true → s.phase = phService → (s.fld pMGMT F.PAGE_OP_KIND < 5 ∨ s.opRunning pMGMT (s.fld pMGMT
    F.PAGE_OP_KIND) = false) → t = ({ s with nor := { s.nor with opAbort := false } } : State) → 1 ≤ t.fld pMGMT
    F.MGMT.NOR_LEN_BYTES → t.fld pMGMT F.MGMT.NOR_ADDR_ADDR + t.fld pMGMT F.MGMT.NOR_LEN_BYTES ≤ 33554432 → t.inDram (t.addr36
    pMGMT F.MGMT.UPD_ADDR_LO) (t.fld pMGMT F.MGMT.NOR_LEN_BYTES) = true → exec .norRead s = .next (t.opBegin pMGMT 7)) ∧
  (∀ (s t : State), s.bar pMGMT = true → s.phase = phService → (s.fld pMGMT F.PAGE_OP_KIND < 5 ∨ s.opRunning pMGMT (s.fld pMGMT
    F.PAGE_OP_KIND) = false) → t = ({ s with nor := { s.nor with opAbort := false } } : State) → 1 ≤ t.fld pMGMT
    F.MGMT.NOR_LEN_BYTES → t.fld pMGMT F.MGMT.NOR_LEN_BYTES ≤ 33554432 → 33554432 < t.fld pMGMT F.MGMT.NOR_ADDR_ADDR + t.fld
    pMGMT F.MGMT.NOR_LEN_BYTES → exec .norRead s = .next (t.mgmtRefuse 7 Cls.range 0x15)) ∧
  (∀ (s t : State), s.bar pMGMT = true → s.phase = phService → (s.fld pMGMT F.PAGE_OP_KIND < 5 ∨ s.opRunning pMGMT (s.fld pMGMT
    F.PAGE_OP_KIND) = false) → t = ({ s with nor := { s.nor with opAbort := false } } : State) → exec .mgmtRestart s = .next
    (((t.opBegin pMGMT 8).opEnd pMGMT opCompleted).lanternReboot 2)) ∧
  (∀ (s u : State) (sound : Bool), s.boot.rootHeld = false → s.nor.opAbort = false → s.fld pMGMT F.PAGE_OP_KIND = 5 → s.opRunning
    pMGMT 5 = true → u = ((s.norErase (slotBase s.nor.opSlot) (ceilDiv (s.fld pMGMT F.MGMT.UPD_LEN_BYTES) 65536 *
    65536)).norProgram (slotBase s.nor.opSlot) (s.loadBytes (s.addr36 pMGMT F.MGMT.UPD_ADDR_LO) (s.fld pMGMT
    F.MGMT.UPD_LEN_BYTES))) → exec (.mgmtOpDone sound false) s = .next ((u.refuse pMGMT Cls.resource 0x16).opEnd pMGMT
    opRefused)) ∧
  (∀ (s u : State) (sound : Bool), s.boot.rootHeld = false → s.nor.opAbort = false → s.fld pMGMT F.PAGE_OP_KIND = 5 → s.opRunning
    pMGMT 5 = true → u = ((s.norErase (slotBase s.nor.opSlot) (ceilDiv (s.fld pMGMT F.MGMT.UPD_LEN_BYTES) 65536 *
    65536)).norProgram (slotBase s.nor.opSlot) (s.loadBytes (s.addr36 pMGMT F.MGMT.UPD_ADDR_LO) (s.fld pMGMT
    F.MGMT.UPD_LEN_BYTES))) → ({ u with nor := { u.nor with secCounter := 0 } } : State).verifyImage s.nor.opSlot sound = none →
    exec (.mgmtOpDone sound true) s = .next ((u.refuse pMGMT Cls.range 0x12).opEnd pMGMT opRefused)) ∧
  (∀ (s u : State) (sound : Bool) (r : List Section × List (Nat × Nat × Nat)), s.boot.rootHeld = false → s.nor.opAbort = false →
    s.fld pMGMT F.PAGE_OP_KIND = 5 → s.opRunning pMGMT 5 = true → u = ((s.norErase (slotBase s.nor.opSlot) (ceilDiv (s.fld pMGMT
    F.MGMT.UPD_LEN_BYTES) 65536 * 65536)).norProgram (slotBase s.nor.opSlot) (s.loadBytes (s.addr36 pMGMT F.MGMT.UPD_ADDR_LO)
    (s.fld pMGMT F.MGMT.UPD_LEN_BYTES))) → ({ u with nor := { u.nor with secCounter := 0 } } : State).verifyImage s.nor.opSlot
    sound = some r → (u.norByte (slotBase s.nor.opSlot + 7)).toNat < s.nor.secCounter → exec (.mgmtOpDone sound true) s = .next
    ((u.refuse pMGMT Cls.range 0x13).opEnd pMGMT opRefused)) ∧
  (∀ (s u : State) (sound : Bool) (r : List Section × List (Nat × Nat × Nat)), s.boot.rootHeld = false → s.nor.opAbort = false →
    s.fld pMGMT F.PAGE_OP_KIND = 5 → s.opRunning pMGMT 5 = true → u = ((s.norErase (slotBase s.nor.opSlot) (ceilDiv (s.fld pMGMT
    F.MGMT.UPD_LEN_BYTES) 65536 * 65536)).norProgram (slotBase s.nor.opSlot) (s.loadBytes (s.addr36 pMGMT F.MGMT.UPD_ADDR_LO)
    (s.fld pMGMT F.MGMT.UPD_LEN_BYTES))) → ({ u with nor := { u.nor with secCounter := 0 } } : State).verifyImage s.nor.opSlot
    sound = some r → (u.norByte (slotBase s.nor.opSlot + 7)).toNat ≥ s.nor.secCounter → exec (.mgmtOpDone sound true) s = .next
    (({ u with nor := { u.nor with written := some s.nor.opSlot } } : State).opEnd pMGMT opCompleted)) ∧
  (∀ (s : State) (sound : Bool), s.boot.rootHeld = false → s.nor.opAbort = false → s.fld pMGMT F.PAGE_OP_KIND = 6 → s.opRunning
    pMGMT 6 = true → exec (.mgmtOpDone sound false) s = .next ((s.refuse pMGMT Cls.resource 0x16).opEnd pMGMT opRefused)) ∧
  (∀ (s : State) (sound : Bool), s.boot.rootHeld = false → s.nor.opAbort = false → s.fld pMGMT F.PAGE_OP_KIND = 6 → s.opRunning
    pMGMT 6 = true → exec (.mgmtOpDone sound true) s = .next ((s.setSlot s.nor.opSlot ⟨sdPending, s.fld pMGMT
    F.MGMT.MGMT_CMD_TRIALS, max s.nor.slotA.seq s.nor.slotB.seq + 1⟩).opEnd pMGMT opCompleted)) ∧
  (∀ (s : State) (sound ok : Bool), s.boot.rootHeld = false → s.nor.opAbort = false → s.fld pMGMT F.PAGE_OP_KIND = 7 →
    s.opRunning pMGMT 7 = true → exec (.mgmtOpDone sound ok) s = .next ((s.memStore (s.addr36 pMGMT F.MGMT.UPD_ADDR_LO)
    (s.norLoad (s.fld pMGMT F.MGMT.NOR_ADDR_ADDR) (s.fld pMGMT F.MGMT.NOR_LEN_BYTES))).opEnd pMGMT opCompleted)) ∧
  (∀ (s : State) (sound ok : Bool) (k : Nat), s.boot.rootHeld = false → s.nor.opAbort = true → s.fld pMGMT F.PAGE_OP_KIND = k → 5
    ≤ k → k ≤ 7 → s.opRunning pMGMT k = true → exec (.mgmtOpDone sound ok) s = .next (s.mgmtAborted k)) ∧
  (∀ (s : State) (sound ok : Bool), s.fld pMGMT F.PAGE_OP_KIND < 5 → exec (.mgmtOpDone sound ok) s = .next s) ∧
  (∀ (s : State) (bs : List Byte), s.phase = phRecovery → s.inDram 0 bs.length = true → exec (.xmodemImage bs) s = .next
    (((s.memStore 0 bs).put64 pMGMT F.MGMT.UPD_ADDR_LO 0).setFld pMGMT F.MGMT.UPD_LEN_BYTES bs.length)) ∧
  (∀ (s : State) (bs : List Byte) (k : Nat), s.phase ≠ phRecovery → exec (.xmodemImage bs) s = .next s ∧ exec (.consoleLoad k) s
    = .next s) ∧
  (∀ (s : State) (k : Nat), s.phase = phRecovery → k < 2 → exec (.consoleLoad k) s = .next (State.writeSlotTo k s))

/-- SENSOR_SAMPLE, SENS_CLEAR, OT_HOLD_END, HOST_WDT_KICK, HOST_WDT_EXPIRED, LOG_EVENT, NOR_RATE_REFILL and TASK_RESET. -/
def Obligations.SensorsWatchdogsAndLogs : Prop :=
  (∀ (s u v w : State) (ts : List Int) (vs : List Nat) (k : Nat), s.isOn pSENS = true → s.boot.rootHeld = false → ts.length = 12
    → vs.length = 10 → (v = ((List.range 10).foldl (fun t n => t.sampleVolt n (vs.getD n 0)) ((List.range 12).foldl (fun t n =>
    t.sampleTemp n (ts.getD n 0)) (s.errBy pSENS 0 k)))) → w = ({ v with watch := { v.watch with fresh := false } } :
    State).junction → (u = ((List.range 16).filter fun n => w.works (pMEMC n)).foldl (fun t n => t.memcSensor n (ts.getD
    (memcSite n) 0)) w) → (s16 (u.fld pSENS F.SENS.JUNCTION_VALUE) < 880 ∨ u.phase ≠ phService) → exec (.sensorSample ts vs k) s
    = .next u) ∧
  (∀ (s u v w : State) (ts : List Int) (vs : List Nat) (k : Nat), s.isOn pSENS = true → s.boot.rootHeld = false → ts.length = 12
    → vs.length = 10 → (v = ((List.range 10).foldl (fun t n => t.sampleVolt n (vs.getD n 0)) ((List.range 12).foldl (fun t n =>
    t.sampleTemp n (ts.getD n 0)) (s.errBy pSENS 0 k)))) → w = ({ v with watch := { v.watch with fresh := false } } :
    State).junction → (u = ((List.range 16).filter fun n => w.works (pMEMC n)).foldl (fun t n => t.memcSensor n (ts.getD
    (memcSite n) 0)) w) → s16 (u.fld pSENS F.SENS.JUNCTION_VALUE) ≥ 880 ∧ u.phase = phService ∧ (!u.validSites.isEmpty) = true →
    exec (.sensorSample ts vs k) s = .next (u.overtemp ((u.validSites.find? fun n => s16 (u.fld pSENS (F.SENS.TEMP_VALUE n)) ==
    s16 (u.fld pSENS F.SENS.JUNCTION_VALUE)).getD 0))) ∧
  (∀ (s : State) (ts : List Int) (vs : List Nat) (k : Nat), s.isOn pSENS = false → exec (.sensorSample ts vs k) s = .next s) ∧
  (∀ (s : State) (v : Word), s.bar pSENS = true → v.toNat % 2 = 1 → exec (.sensClear v) s = .next
    { s with watch := { s.watch with fresh := true } }) ∧
  (∀ (s : State) (v : Word), s.bar pSENS = true → v.toNat % 2 = 0 → exec (.sensClear v) s = .next s) ∧
  (∀ (s u : State), s.phase = phShutdown → s.watch.clocksStopped = false → s.watch.coolAt = none → s.boot.ps ≥ s.watch.otAt +
    s.fld pPWR F.PWR.OT_CFG_HOLD_MS * 1000000000 → u = { s with watch := { s.watch with coolAt := some s.boot.ps } } → exec
    .otHoldEnd s = .next (govDomains.foldl (fun t d => t.govWant d false) u).govShow) ∧
  (∀ (s u v : State) (t : Nat), s.phase = phShutdown → s.watch.clocksStopped = false → s.watch.coolAt = some t → s.boot.ps ≥ t +
    10000000 → u = ((({ s with pwr := { s.pwr with level := [], want := [], waking := false, cooling := false } } :
    State).setFld pPWR F.PWR.DOMAIN_WARM 0).govShow) → v = ({ u with log := { u.log with tokens := max 1 u.log.tokens } } :
    State).makeRecord
    ({ time := if s.running then s.now else 0, noTime := !s.running, event := 0x0622, severity := 7, page := pMGMT, reason := 0, data := logHalf 26 (s.fld pSENS F.SENS.JUNCTION_VALUE), cycle := s.fabric }
    : LogEntry) → exec .otHoldEnd s = .next { v with watch := { v.watch with clocksStopped := true, shutdownN := true } }) ∧
  (∀ (s : State) (t : Nat), s.watch.coolAt = some t → s.boot.ps < t + 10000000 → exec .otHoldEnd s = .next s) ∧
  (∀ (s : State), s.watch.clocksStopped = true → exec .otHoldEnd s = .next s) ∧
  (∀ (s : State), s.bar pMGMT = true → exec .hostWdtKick s = .next { s with watch := { s.watch with wdtAt := s.boot.ps } }) ∧
  (∀ (s u : State), s.bit pMGMT F.MGMT.HOST_WDT_CFG_EN = true → s.boot.ps ≥ s.watch.wdtAt + s.fld pMGMT
    F.MGMT.HOST_WDT_CFG_PERIOD_MS * 1000000000 → u = ((s.raise pMGMT F.MGMT.intHOST_WDT_EXPIRED).logEv pMGMT
    F.MGMT.intHOST_WDT_EXPIRED 4 0 []).hostKick → s.bit pMGMT F.MGMT.HOST_WDT_CFG_ACTION = false → exec .hostWdtExpired s =
    .next u) ∧
  (∀ (s u : State), s.bit pMGMT F.MGMT.HOST_WDT_CFG_EN = true → s.boot.ps ≥ s.watch.wdtAt + s.fld pMGMT
    F.MGMT.HOST_WDT_CFG_PERIOD_MS * 1000000000 → u = ((s.raise pMGMT F.MGMT.intHOST_WDT_EXPIRED).logEv pMGMT
    F.MGMT.intHOST_WDT_EXPIRED 4 0 []).hostKick → s.bit pMGMT F.MGMT.HOST_WDT_CFG_ACTION = true → exec .hostWdtExpired s = .next
    u.yieldNow) ∧
  (∀ (s : State), s.bit pMGMT F.MGMT.HOST_WDT_CFG_EN = false → exec .hostWdtExpired s = .next s) ∧
  (∀ (s u : State) (e : LogEntry) (r : List LogEntry), s.log.queue = e :: r → s.phase ≠ phReset → s.boot.porHeld = false → u =
    ({ s with log := { s.log with queue := r } } : State).makeRecord e → u.log.lost = 0 → exec .logEvent s = .next u) ∧
  (∀ (s u : State) (e : LogEntry) (r : List LogEntry), s.log.queue = e :: r → s.phase ≠ phReset → s.boot.porHeld = false → u =
    ({ s with log := { s.log with queue := r } } : State).makeRecord e → u.log.lost ≠ 0 → exec .logEvent s = .next
    (({ u with log := { u.log with lost := 0 } } : State).logEv pMGMT 0x23 3 0 (logWord 24 u.log.lost))) ∧
  (∀ (s : State), s.log.queue = [] → exec .logEvent s = .next s) ∧
  (∀ (s : State), s.boot.ps ≥ s.log.refillAt + 1000000000000 / (max 1 (s.fld pMGMT F.MGMT.LOG_CFG_NOR_RATE)) → exec
    .norRateRefill s = .next
    { s with log := { s.log with tokens := min (max 1 (s.fld pMGMT F.MGMT.LOG_CFG_NOR_RATE)) (s.log.tokens + 1), refillAt := s.log.refillAt + 1000000000000 / (max 1 (s.fld pMGMT F.MGMT.LOG_CFG_NOR_RATE)) } }) ∧
  (∀ (s : State), s.boot.ps < s.log.refillAt + 1000000000000 / (max 1 (s.fld pMGMT F.MGMT.LOG_CFG_NOR_RATE)) → exec
    .norRateRefill s = .next s) ∧
  (∀ (s r u : State), s.st pTASK = stFault → s.phase = phService → (∀ a b, s.watch.taskFaultPrev = some a → s.watch.taskFaultAt =
    some b → a + 10000000000000 ≤ b) → r = s.logEv pTASK 0x21 5 0 [] → u = r.task.cmds.foldl (fun t x => (t.writeResult x.op
    opRefused x.page x.tag (reasonCode Cls.resource .task 0x0E) ((x.started.map Prod.fst).getD 0) []).err pTASK 3) r → exec
    .taskReset s = .next
    ((({ u with task := { TaskState.reset with bank0 := u.task.bank0, bank1 := u.task.bank1, unsent := u.task.unsent } } :
    State).setFld pTASK F.TASK.TASK_STATUS_SWAP_ACTIVE 0).toState pTASK stOn).taskShow) ∧
  (∀ (s : State) (a b : Nat), s.watch.taskFaultPrev = some a → s.watch.taskFaultAt = some b → b < a + 10000000000000 → exec
    .taskReset s = .next s)

/-- The line coding of the Rope link, at its two ends (R294, R297). What a peer sees of the blocks is outside the model (log entry
  105). -/
def Obligations.RopeLineCodingInverts : Prop :=
  (∀ (h ds : List Bool), descramble h (scramble h ds) = ds) ∧
  (∀ (h k ds : List Bool), (descramble k (scramble h ds)).drop 58 = ds.drop 58) ∧
  (∀ (priority : Bool) (type seq : Nat) (body : List Byte), body.length ≤ 1024 → frameGood (frameBytes priority type seq body) =
    true) ∧
  (∀ (bs : List Byte), 7 ≤ bs.length → (frameBlocks bs).length = (bs.length - 7) / 8 + 2) ∧
  (∀ (priority : Bool) (type seq : Nat) (body more : List Byte), 0 < more.length → body.length ≤ 1024 → frameGood (frameBytes
    priority type seq body ++ more) = false)

/-- Squeeze loses nothing (R224 to R226): prediction, folding, group widths, bit packing, sectors and their inverses agree. -/
def Obligations.SqueezeBlocksInvert : Prop :=
  (∀ (raw : Bool) (b : Nat) (map : List Byte) (xs : List Nat), map.length = 16 → xs.length = 128 → (∀ x ∈ xs, x < 1024) →
    blockSamples (blockEntry raw b xs) b (blockStored raw b map xs) = xs ∧ (blockStored raw b map xs).length = 64 * blockEntry
    raw b xs) ∧
  (∀ (raw : Bool) (b : Nat) (xs : List Nat), blockEntry raw b xs = (if raw then 3 else if (if b = 0 then 16 else 0) + (4 + 2 *
    ((List.range 8).map (sqzWidth (sqzResiduals (decide (b ≥ 32)) xs))).sum) + 2 ≤ 64 then 1 else if (if b = 0 then 16 else 0) +
    (4 + 2 * ((List.range 8).map (sqzWidth (sqzResiduals (decide (b ≥ 32)) xs))).sum) + 2 ≤ 128 then 2 else 3))
end

