-- ==== Sys2Proof/Laws/Packing.lean ====
section
/-! SUPPORT. What packing fields into octets and reading them back gives, and the steps of Squeeze with their inverses
(R224, R225): the lemmas that a proof about a stored block cites instead of unfolding the coder. -/

namespace Sys2Proof.Machine

/-- A sample is its prediction and its folded residual (R224). -/
theorem sqzUnfold_sqzFold {x p : Nat} (hx : x < 1024) (hp : p < 1024) : sqzUnfold (sqzFold x p) p = x := by
  unfold sqzUnfold sqzFold; dsimp only
  split <;> split <;> omega

/-- A folded residual has 10 bits (R224). -/
theorem sqzFold_lt {x p : Nat} : sqzFold x p < 1024 := by
  unfold sqzFold; dsimp only; split <;> omega

/-- A prediction from samples has 10 bits (R224). -/
theorem sqzPred_lt {x : Nat → Nat} {w k : Nat} (h : ∀ q, x q < 1024) : sqzPred x w k < 1024 := by
  unfold sqzPred; dsimp only
  have h1 := h (k-1); have h2 := h (k-w); have h3 := h (k-w-1)
  repeat' split
  all_goals omega

/-- A prediction depends only on the samples before the one predicted (R224). -/
theorem sqzPred_congr {x y : Nat → Nat} {w k : Nat} (hw : 0 < w) (h : ∀ q, q < k → x q = y q) :
    sqzPred x w k = sqzPred y w k := by
  unfold sqzPred; dsimp only
  by_cases hk : k = 0
  · subst hk; simp
  have h1 := h (k-1) (by omega); have h2 := h (k-w) (by omega); have h3 := h (k-w-1) (by omega)
  rw [h1, h2, h3]

/-- A sample lies in its plane (R224). -/
theorem planeOf_le (c : Bool) (k : Nat) : (planeOf c k).2 ≤ k ∧ 0 < (planeOf c k).1 := by
  unfold planeOf; split <;> simp; omega

/-- Decoding the residuals of a block gives its samples (R224). -/
theorem sqzSamples_residuals {c : Bool} {xs : List Nat} (hl : xs.length = 128) (h : ∀ x ∈ xs, x < 1024) :
    sqzSamples c (sqzResiduals c xs) = xs := by
  have hx : ∀ q, xs.getD q 0 < 1024 := by
    intro q
    by_cases hq : q < xs.length
    · rw [List.getD_eq_getElem _ _ hq]; exact h _ (List.getElem_mem hq)
    · rw [List.getD_eq_default _ _ (by omega)]; omega
  have key : ∀ n, n ≤ 128 → sqzSamples c ((sqzResiduals c xs).take n) = xs.take n := by
    intro n
    induction n with
    | zero => intro _; rfl
    | succ n ih =>
      intro hn
      have hr : n < (sqzResiduals c xs).length := by simp [sqzResiduals]; omega
      rw [List.take_succ_eq_append_getElem hr, List.take_succ_eq_append_getElem (by omega)]
      have ih := ih (by omega)
      unfold sqzSamples at ih ⊢
      rw [List.foldl_append, ih]
      have e : ∀ p : Nat × Nat, p.2 ≤ n → 0 < p.1 →
          sqzPred (fun q => (xs.take n).getD (p.2 + q) 0) p.1 (n - p.2) =
            sqzPred (fun q => xs.getD (p.2 + q) 0) p.1 (n - p.2) := by
        intro p hp hw
        refine sqzPred_congr hw fun q hq => ?_
        simp only [List.getD_eq_getElem?_getD]
        rw [List.getElem?_take_of_lt (by omega)]
      have hp := planeOf_le c n
      simp only [List.foldl_cons, List.foldl_nil, List.length_take, Nat.min_eq_left (show n ≤ xs.length by omega)]
      rw [e _ hp.1 hp.2]
      simp only [sqzResiduals, List.getElem_map, List.getElem_range]
      rw [sqzUnfold_sqzFold (hx n) (sqzPred_lt fun q => hx _), List.getD_eq_getElem _ _ (by omega)]
  have := key 128 (le_refl _)
  rwa [List.take_of_length_le (by simp [sqzResiduals]), List.take_of_length_le (by omega)] at this

/-- Packed fields stay below their width. -/
theorem packBits_lt (fs : List (Nat × Nat)) : (packBits fs).1 < 2 ^ (packBits fs).2 := by
  induction fs with
  | nil => simp [packBits]
  | cons f fs ih =>
    obtain ⟨v, w⟩ := f
    simp only [packBits]
    have := Nat.mod_lt v (Nat.two_pow_pos w)
    rw [Nat.pow_add]
    nlinarith [Nat.two_pow_pos w]

/-- Octets spell the number that they were made from. -/
theorem leNat_leBytes (n : Nat) : ∀ v, leNat (leBytes v n) = v % 256 ^ n := by
  induction n with
  | zero => intro v; simp [leBytes, leNat, Nat.mod_one]
  | succ n ih =>
    intro v
    simp only [leBytes, leNat, ih, BitVec.toNat_ofNat]
    rw [show (256:Nat)^(n+1) = 256 * 256^n from Nat.pow_succ', Nat.mod_mul (a := 256)]
  
/-- As many octets as asked for. -/
theorem leBytes_length (n : Nat) : ∀ v, (leBytes v n).length = n := by
  induction n with
  | zero => intro v; rfl
  | succ n ih => intro v; simp [leBytes, ih]

/-- Packed octets spell the packed number. -/
theorem leNat_packBytes (fs : List (Nat × Nat)) : leNat (packBytes fs) = (packBits fs).1 := by
  unfold packBytes; dsimp only
  rw [leNat_leBytes, Nat.mod_eq_of_lt]
  refine lt_of_lt_of_le (packBits_lt fs) ?_
  rw [show (256:Nat) = 2^8 by rfl, ← Nat.pow_mul]
  apply Nat.pow_le_pow_right (by omega)
  unfold ceilDiv; omega

/-- Octets of packed fields. -/
theorem packBytes_length (fs : List (Nat × Nat)) : (packBytes fs).length = ceilDiv (packBits fs).2 8 := leBytes_length _ _

/-- A later octet string stands above an earlier one. -/
theorem leNat_append (a b : List Byte) : leNat (a ++ b) = leNat a + 256 ^ a.length * leNat b := by
  induction a with
  | nil => simp [leNat]
  | cons x a ih => simp only [List.cons_append, leNat, ih, List.length_cons, Nat.pow_succ]; ring

/-- Bits of the first `k` fields. -/
def fieldOffset (fs : List (Nat × Nat)) (k : Nat) : Nat := ((fs.take k).map (·.2)).sum

/-- The width of packed fields is the sum of their widths. -/
theorem packBits_width (fs : List (Nat × Nat)) : (packBits fs).2 = (fs.map (·.2)).sum := by
  induction fs with
  | nil => rfl
  | cons f fs ih => obtain ⟨v, w⟩ := f; simp [packBits, ih]

/-- Field `k` is read back at its offset, whatever follows. -/
theorem packBits_field (fs : List (Nat × Nat)) (m : Nat) : ∀ k (hk : k < fs.length),
    ((packBits fs).1 + 2 ^ (packBits fs).2 * m) / 2 ^ fieldOffset fs k % 2 ^ fs[k].2 = fs[k].1 % 2 ^ fs[k].2 := by
  induction fs generalizing m with
  | nil => intro k hk; simp at hk
  | cons f fs ih =>
    obtain ⟨v, w⟩ := f
    intro k hk
    have e : (packBits ((v, w) :: fs)).1 + 2 ^ (packBits ((v,w) :: fs)).2 * m =
        v % 2 ^ w + 2 ^ w * ((packBits fs).1 + 2 ^ (packBits fs).2 * m) := by
      simp only [packBits, Nat.pow_add]; ring
    rw [e]
    cases k with
    | zero => simp [fieldOffset, Nat.add_mul_mod_self_left]
    | succ k =>
      have : fieldOffset ((v, w) :: fs) (k+1) = w + fieldOffset fs k := by simp [fieldOffset]
      rw [this, Nat.pow_add, ← Nat.div_div_eq_div_mul, Nat.add_mul_div_left _ _ (Nat.two_pow_pos w),
        Nat.div_eq_of_lt (Nat.mod_lt v (Nat.two_pow_pos w)), Nat.zero_add]
      simpa using ih m k (by simpa using hk)

/-- A number of 10 bits. -/
theorem bitlen_le {u : Nat} (h : u < 1024) : bitlen u ≤ 10 := by
  unfold bitlen; split
  · omega
  · have := (Nat.log2_lt (by omega : u ≠ 0) (k := 10)).2 (by omega); omega

/-- A number fits the bits of any that is no less. -/
theorem lt_bitlen {u v : Nat} (h : v ≤ u) : v < 2 ^ bitlen u := by
  unfold bitlen; split
  · omega
  · have := Nat.lt_log2_self (n := u); omega

/-- A maximum bounds what it is taken over. -/
theorem le_foldl_max (l : List Nat) : ∀ a, a ≤ l.foldl max a ∧ ∀ x ∈ l, x ≤ l.foldl max a := by
  induction l with
  | nil => intro a; simp
  | cons y l ih =>
    intro a
    have := ih (max a y)
    simp only [List.foldl_cons, List.mem_cons]
    refine ⟨by omega, ?_⟩
    rintro x (rfl | hx)
    · omega
    · exact this.2 x hx

/-- A bound on all bounds the maximum. -/
theorem foldl_max_lt (l : List Nat) (N : Nat) : ∀ a, a < N → (∀ x ∈ l, x < N) → l.foldl max a < N := by
  induction l with
  | nil => intro a h _; simpa
  | cons y l ih =>
    intro a h hl
    simp only [List.foldl_cons]
    exact ih _ (by have := hl y (by simp); omega) (fun x hx => hl x (by simp [hx]))

/-- A group width is at most 10 (R224). -/
theorem sqzWidth_le {us : List Nat} (h : ∀ u ∈ us, u < 1024) (g : Nat) : sqzWidth us g ≤ 10 := by
  refine bitlen_le (foldl_max_lt _ _ _ (by omega) fun x hx => h x ?_)
  exact List.mem_of_mem_drop (List.mem_of_mem_take hx)

/-- A residual fits the width of its group (R224). -/
theorem lt_sqzWidth {us : List Nat} {k : Nat} (hk : k < us.length) : us[k] < 2 ^ sqzWidth us (k / 16) := by
  refine lt_bitlen ((le_foldl_max _ 0).2 _ ?_)
  have : us[k] = ((us.drop (16 * (k/16))).take 16)[k % 16]'(by simp; omega) := by
    simp only [List.getElem_take, List.getElem_drop]
    congr 1; omega
  rw [this]; exact List.getElem_mem _

/-- Offsets of fields of one width. -/
theorem fieldOffset_const {n w : Nat} (f : Nat → Nat) : ∀ k, k ≤ n →
    fieldOffset ((List.range n).map fun i => (f i, w)) k = w * k := by
  intro k hk
  unfold fieldOffset
  rw [← List.map_take, List.map_map, List.take_range, Nat.min_eq_left hk]
  simp [Function.comp_def, Nat.mul_comm]

/-- Fields of one width that fill octets are read back. -/
theorem unpackBits_packBytes {n w : Nat} (f : Nat → Nat) (hf : ∀ i, i < n → f i < 2 ^ w) (rest : List Byte)
    (h8 : w * n % 8 = 0) :
    unpackBits w (packBytes ((List.range n).map fun i => (f i, w)) ++ rest) 0 n = (List.range n).map f := by
  unfold unpackBits
  refine List.map_congr_left fun k hk => ?_
  rw [List.mem_range] at hk
  rw [leNat_append, leNat_packBytes, packBytes_length]
  have h2 : (packBits ((List.range n).map fun i => (f i, w))).2 = w * n := by
    rw [packBits_width]; simp [Function.comp_def, Nat.mul_comm]
  have := packBits_field ((List.range n).map fun i => (f i, w)) (leNat rest) k (by simpa)
  rw [fieldOffset_const f k hk.le] at this
  simp only [List.getElem_map, List.getElem_range] at this
  rw [h2] at this ⊢
  rw [show ceilDiv (w * n) 8 = w * n / 8 by unfold ceilDiv; omega, show (256 : Nat) = 2 ^ 8 by rfl, ← Nat.pow_mul,
    show 8 * (w * n / 8) = w * n by omega, Nat.zero_add, this, Nat.mod_eq_of_lt (hf k hk)]

/-- The raw payload is read back (R225). -/
theorem unpackBits_sqzRaw {xs : List Nat} (hl : xs.length = 128) (h : ∀ x ∈ xs, x < 1024) (rest : List Byte) :
    unpackBits 10 (sqzRaw xs ++ rest) 0 128 = xs := by
  unfold sqzRaw
  rw [unpackBits_packBytes (fun k => xs.getD k 0) (fun i hi => ?_) rest (by omega)]
  · apply List.ext_getElem (by simp [hl])
    intro i h1 h2; simp [h2]
  · rw [List.getD_eq_getElem _ _ (by omega)]; exact h _ (List.getElem_mem _)

/-- The compressed payload is read back to its residuals, whatever follows (R225). -/
theorem sqzStream_payload {us : List Nat} (hl : us.length = 128) (h : ∀ u ∈ us, u < 1024) (rest : List Byte) :
    sqzStream (sqzPayload us ++ rest) = us := by
  have hw : (unpackBits 4 (sqzPayload us ++ rest) 0 8).map (min 10) = (List.range 8).map (sqzWidth us) := by
    unfold sqzPayload; dsimp only
    rw [List.append_assoc, List.map_map]
    have := unpackBits_packBytes (n := 8) (w := 4) (sqzWidth us) (fun i _ => lt_of_le_of_lt (sqzWidth_le h i) (by norm_num))
    simp only [Function.comp_def] at this ⊢
    rw [this _ (by norm_num), List.map_map]
    refine List.map_congr_left fun g _ => ?_
    exact Nat.min_eq_right (sqzWidth_le h g)
  unfold sqzStream
  rw [hw]
  dsimp only
  have hws : ∀ k, k < 128 → ((List.range 8).map (sqzWidth us)).getD (k / 16) 0 = sqzWidth us (k/16) := by
    intro k hk; rw [List.getD_eq_getElem _ _ (by simp; omega)]; simp
  set fs := (List.range 128).map fun k => (us.getD k 0, sqzWidth us (k/16)) with hfs
  have hP : sqzPayload us = packBytes ((List.range 8).map fun g => (sqzWidth us g, 4)) ++ packBytes fs := by
    unfold sqzPayload; dsimp only
    rw [List.map_map]
    congr 2
  have hN : ∃ m, leNat (sqzPayload us ++ rest) / 2 ^ 32 = (packBits fs).1 + 2 ^ (packBits fs).2 * m := by
    have h4 : (packBytes ((List.range 8).map fun g => (sqzWidth us g, 4))).length = 4 := by
      rw [packBytes_length, packBits_width]; simp [Function.comp_def, ceilDiv]
    refine ⟨2 ^ (8 * ceilDiv (packBits fs).2 8 - (packBits fs).2) * leNat rest, ?_⟩
    rw [hP, List.append_assoc, leNat_append, h4, leNat_append, leNat_packBytes fs, packBytes_length]
    rw [show (2 : Nat) ^ 32 = 256 ^ 4 by norm_num, Nat.add_mul_div_left _ _ (by norm_num),
      Nat.div_eq_of_lt, Nat.zero_add, show (256 : Nat) = 2 ^ 8 by rfl, ← Nat.pow_mul,
      ← Nat.mul_assoc, ← Nat.pow_add]
    · have e : (packBits fs).2 + (8 * ceilDiv (packBits fs).2 8 - (packBits fs).2) =
          8 * ceilDiv (packBits fs).2 8 := by unfold ceilDiv; omega
      rw [e]
    · rw [leNat_packBytes]
      refine lt_of_lt_of_le (packBits_lt _) ?_
      rw [packBits_width]; simp [Function.comp_def]
  obtain ⟨m, hm⟩ := hN
  have step : ∀ n, n ≤ 128 → (List.range n).foldl (fun (r : List Nat × Nat) k =>
      let w := ((List.range 8).map (sqzWidth us)).getD (k / 16) 0
      (r.1 ++ [leNat (sqzPayload us ++ rest) / 2 ^ r.2 % 2 ^ w], r.2 + w)) ([], 32) = (us.take n, 32 + fieldOffset fs n) := by
    intro n
    induction n with
    | zero => intro _; simp [fieldOffset]
    | succ n ih =>
      intro hn
      rw [List.range_succ (n := n), List.foldl_append, ih (by omega)]
      dsimp only [List.foldl_cons, List.foldl_nil]
      rw [hws n (by omega)]
      have hfl : n < fs.length := by simp [hfs]; omega
      have hfn : fs[n] = (us[n], sqzWidth us (n/16)) := by
        simp [hfs, show n < us.length by omega]
      have := packBits_field fs m n hfl
      rw [hfn] at this
      dsimp only at this
      rw [Nat.pow_add, ← Nat.div_div_eq_div_mul, hm, this, Nat.mod_eq_of_lt (lt_sqzWidth (by omega))]
      rw [List.take_succ_eq_append_getElem (by omega)]
      congr 1
      unfold fieldOffset
      rw [List.take_succ_eq_append_getElem hfl, List.map_append, List.sum_append, hfn]
      simp; omega
  rw [step 128 (le_refl _), List.take_of_length_le (by omega)]

/-- A block has 128 residuals of 10 bits (R224). -/
theorem sqzResiduals_range (c : Bool) (xs : List Nat) : (sqzResiduals c xs).length = 128 ∧
    ∀ u ∈ sqzResiduals c xs, u < 1024 := by
  refine ⟨by simp [sqzResiduals], fun u hu => ?_⟩
  simp only [sqzResiduals, List.mem_map] at hu
  obtain ⟨k, _, rfl⟩ := hu
  exact sqzFold_lt

end Sys2Proof.Machine
end

