-- ==== Sys2Proof/Laws/Tab.lean ====
section
/-! SUPPORT. Laws of sparse tables: what a read after a write gives, and that every operation keeps the canonical form. -/

namespace Sys2Proof.Machine

variable {α : Type}

/-- A table whose keys rise, less its first entry, still rises, and its keys lie above the first. -/
theorem Tab.rising_tail {j : Nat} {v : α} {t : Tab α} (h : Tab.rising ((j, v) :: t) = true) : t.rising = true := by
  cases t with
  | nil => rfl
  | cons c t => obtain ⟨k, w⟩ := c; simp [Tab.rising] at h; exact h.2

theorem Tab.rising_above {j : Nat} {v : α} {t : Tab α} (h : Tab.rising ((j, v) :: t) = true) :
    ∀ c ∈ t, j < c.1 := by
  induction t generalizing j v with
  | nil => simp
  | cons c t ih =>
    obtain ⟨k, w⟩ := c
    simp [Tab.rising] at h
    intro x hx
    rcases List.mem_cons.1 hx with rfl | hx
    · exact h.1
    · exact Nat.lt_trans h.1 (ih h.2 x hx)

/-- Keys that lie above `j` and rise, with `j` in front, rise. -/
theorem Tab.rising_cons {j : Nat} {v : α} {t : Tab α} (ha : ∀ c ∈ t, j < c.1) (h : t.rising = true) :
    Tab.rising ((j, v) :: t) = true := by
  cases t with
  | nil => rfl
  | cons c t => obtain ⟨k, w⟩ := c; simp [Tab.rising, h]; exact ha (k, w) (by simp)

theorem Tab.mem_put {t : Tab α} {k : Nat} {v : α} {c : Nat × α} (h : c ∈ t.put k v) : c = (k, v) ∨ c ∈ t := by
  induction t with
  | nil => simp [Tab.put] at h; exact .inl h
  | cons e t ih =>
    obtain ⟨j, w⟩ := e
    simp only [Tab.put] at h
    split at h
    · rcases List.mem_cons.1 h with h | h
      · exact .inl h
      · exact .inr (List.mem_cons_of_mem _ h)
    · split at h
      · rcases List.mem_cons.1 h with h | h
        · exact .inl h
        · exact .inr h
      · rcases List.mem_cons.1 h with h | h
        · exact .inr (h ▸ List.mem_cons_self)
        · exact (ih h).imp_right (List.mem_cons_of_mem _)

theorem Tab.mem_del {t : Tab α} {k : Nat} {c : Nat × α} (h : c ∈ t.del k) : c ∈ t := by
  induction t with
  | nil => exact h
  | cons e t ih =>
    obtain ⟨j, w⟩ := e
    simp only [Tab.del] at h
    split at h
    · exact List.mem_cons_of_mem _ h
    · split at h
      · exact h
      · rcases List.mem_cons.1 h with h | h
        · exact h ▸ List.mem_cons_self
        · exact List.mem_cons_of_mem _ (ih h)

theorem Tab.put_rising {t : Tab α} (k : Nat) (v : α) (h : t.rising = true) : (t.put k v).rising = true := by
  induction t with
  | nil => rfl
  | cons e t ih =>
    obtain ⟨j, w⟩ := e
    simp only [Tab.put]
    split
    · subst_vars; exact Tab.rising_cons (Tab.rising_above h) (Tab.rising_tail h)
    · split
      · rename_i h2
        exact Tab.rising_cons (fun c hc => by
          rcases List.mem_cons.1 hc with rfl | hc
          · exact h2
          · exact Nat.lt_trans h2 (Tab.rising_above h c hc)) h
      · refine Tab.rising_cons (fun c hc => ?_) (ih (Tab.rising_tail h))
        rcases Tab.mem_put hc with rfl | hc
        · simp only; omega
        · exact Tab.rising_above h c hc

theorem Tab.del_rising {t : Tab α} (k : Nat) (h : t.rising = true) : (t.del k).rising = true := by
  induction t with
  | nil => rfl
  | cons e t ih =>
    obtain ⟨j, w⟩ := e
    simp only [Tab.del]
    split
    · exact Tab.rising_tail h
    · split
      · exact h
      · exact Tab.rising_cons (fun c hc => Tab.rising_above h c (Tab.mem_del hc)) (ih (Tab.rising_tail h))

theorem Tab.filter_rising {t : Tab α} (p : Nat × α → Bool) (h : t.rising = true) : (Tab.rising (t.filter p)) = true := by
  induction t with
  | nil => rfl
  | cons e t ih =>
    obtain ⟨j, w⟩ := e
    simp only [List.filter]
    split
    · exact Tab.rising_cons (fun c hc => Tab.rising_above h c (List.mem_of_mem_filter hc)) (ih (Tab.rising_tail h))
    · exact ih (Tab.rising_tail h)

variable [DecidableEq α]

/-- Storing a value keeps the canonical form. -/
theorem Tab.set_wf (d : Nat → α) {t : Tab α} (k : Nat) (v : α) (h : Tab.wf d t = true) : Tab.wf d (Tab.set (d k) t k v) = true := by
  simp only [Tab.wf, Bool.and_eq_true, List.all_eq_true, Bool.not_eq_true', decide_eq_false_iff_not] at h ⊢
  unfold Tab.set
  split
  · exact ⟨Tab.del_rising k h.1, fun c hc => h.2 c (Tab.mem_del hc)⟩
  · rename_i hv
    refine ⟨Tab.put_rising k v h.1, fun c hc => ?_⟩
    rcases Tab.mem_put hc with rfl | hc
    · exact hv
    · exact h.2 c hc

/-- Leaving entries out keeps the canonical form. -/
theorem Tab.filter_wf (d : Nat → α) {t : Tab α} (p : Nat × α → Bool) (h : Tab.wf d t = true) : Tab.wf d (t.filter p) = true := by
  simp only [Tab.wf, Bool.and_eq_true, List.all_eq_true] at h ⊢
  exact ⟨Tab.filter_rising p h.1, fun c hc => h.2 c (List.mem_of_mem_filter hc)⟩

/-! ## Reading after writing -/

omit [DecidableEq α] in
theorem Tab.get_put_same (d : α) (t : Tab α) (k : Nat) (v : α) : Tab.get d (t.put k v) k = v := by
  induction t with
  | nil => simp [Tab.put, Tab.get]
  | cons e t ih =>
    obtain ⟨j, w⟩ := e
    simp only [Tab.put]
    split
    · simp [Tab.get]
    · split
      · simp [Tab.get]
      · rename_i h1 h2; simp [Tab.get, h1, h2, ih]

omit [DecidableEq α] in
/-- In a table whose keys all lie above `k`, `k` is not listed. -/
theorem Tab.get_of_above (d : α) {t : Tab α} {k : Nat} (h : ∀ c ∈ t, k < c.1) : Tab.get d t k = d := by
  cases t with
  | nil => rfl
  | cons e t =>
    obtain ⟨j, w⟩ := e
    have := h (j, w) (by simp)
    simp only at this
    simp [Tab.get, Nat.ne_of_lt this, this]

omit [DecidableEq α] in
theorem Tab.get_del_same (d : α) {t : Tab α} (k : Nat) (h : t.rising = true) : Tab.get d (t.del k) k = d := by
  induction t with
  | nil => rfl
  | cons e t ih =>
    obtain ⟨j, w⟩ := e
    simp only [Tab.del]
    split
    · subst_vars; exact Tab.get_of_above d (Tab.rising_above h)
    · split
      · rename_i h1 h2; simp [Tab.get, h1, h2]
      · rename_i h1 h2; simp [Tab.get, h1, h2, ih (Tab.rising_tail h)]

omit [DecidableEq α] in
theorem Tab.get_put_other (d : α) (t : Tab α) {k a : Nat} (v : α) (hr : t.rising = true) (h : a ≠ k) :
    Tab.get d (t.put k v) a = Tab.get d t a := by
  induction t with
  | nil => simp [Tab.put, Tab.get, h]
  | cons e t ih =>
    obtain ⟨j, w⟩ := e
    simp only [Tab.put]
    split
    · subst_vars; simp [Tab.get, h]
    · split
      · rename_i h1 h2
        by_cases ha : a < k
        · have : a ≠ j := by omega
          have h3 : a < j := by omega
          simp [Tab.get, h, ha, this, h3]
        · simp [Tab.get, h, ha]
      · simp [Tab.get, ih (Tab.rising_tail hr)]

omit [DecidableEq α] in
theorem Tab.get_del_other (d : α) {t : Tab α} {k a : Nat} (hr : t.rising = true) (h : a ≠ k) :
    Tab.get d (t.del k) a = Tab.get d t a := by
  induction t with
  | nil => rfl
  | cons e t ih =>
    obtain ⟨j, w⟩ := e
    simp only [Tab.del]
    split
    · subst_vars
      by_cases ha : a < j
      · rw [Tab.get_of_above d (fun c hc => Nat.lt_trans ha (Tab.rising_above hr c hc))]
        simp [Tab.get, h, ha]
      · simp [Tab.get, h, ha]
    · split
      · rfl
      · simp [Tab.get, ih (Tab.rising_tail hr)]

/-- A read after a write to the same key gives the value written. -/
theorem Tab.get_set_same (d : α) {t : Tab α} (k : Nat) (v : α) (hr : t.rising = true) : Tab.get d (Tab.set d t k v) k = v := by
  unfold Tab.set
  split
  · rename_i hv; rw [hv]; exact Tab.get_del_same d k hr
  · exact Tab.get_put_same d t k v

/-- A write leaves every other key alone. -/
theorem Tab.get_set_other (d e : α) {t : Tab α} {k a : Nat} (v : α) (hr : t.rising = true) (h : a ≠ k) :
    Tab.get e (Tab.set d t k v) a = Tab.get e t a := by
  unfold Tab.set
  split
  · exact Tab.get_del_other e hr h
  · exact Tab.get_put_other e t v hr h

end Sys2Proof.Machine
end

