-- ==== Sys2Proof/Laws/Sound.lean ====
section
/-! SUPPORT. What every operation of the block keeps: the queue of waiting commands, and the canonical form of memory and of the
registers. Here stand the notion and the writers; one lemma for each operation follows in the other files of Laws/Sound. -/

namespace Sys2Proof.Machine

/-- The queue is `q`, and memory and registers are in their canonical form. -/
def State.Sound (q : List Instr) (s : State) : Prop := s.pending = q ∧ s.canonical = true

/-- A command's outcome is a next state that is sound. -/
def Out.Sound (q : List Instr) (o : Out) : Prop := ∃ t, o = .next t ∧ t.Sound q

variable {q : List Instr} {s t : State}

/-- A state with the same queue, memory and registers is as sound. -/
theorem State.Sound.of (h : s.Sound q) (hp : t.pending = s.pending) (hr : t.regs = s.regs) (hl : t.hiLive = s.hiLive)
    (hm : t.mem = s.mem) (hh : t.hostMem = s.hostMem) (hn : t.norMem = s.norMem) : t.Sound q := by
  unfold State.Sound State.canonical at *
  rw [hp, hr, hl, hm, hh, hn]
  exact h

/-- A state whose queue is the same and whose memory and registers are canonical where those before were. -/
theorem State.Sound.step (h : s.Sound q) (hp : t.pending = s.pending)
    (hr : Registers.wf s.regs = true → Registers.wf t.regs = true)
    (hl : Registers.wf s.hiLive = true → Registers.wf t.hiLive = true)
    (hm : Memory.wf s.mem = true → Memory.wf t.mem = true)
    (hh : Memory.wf s.hostMem = true → Memory.wf t.hostMem = true)
    (hn : Nor.wf s.norMem = true → Nor.wf t.norMem = true := by exact id) : t.Sound q := by
  simp only [State.Sound, State.canonical, Bool.and_eq_true] at *
  exact ⟨hp.trans h.1, ⟨⟨⟨hm h.2.1.1.1.1, hh h.2.1.1.1.2⟩, hr h.2.1.1.2⟩, hl h.2.1.2⟩, hn h.2.2⟩

/-- A record update that leaves the queue, memory and the registers alone, whatever the other fields become. -/
theorem State.Sound.upd {freeCtr : Nat} {pages : Tab PageInfo} {commits : Tab CommitRec} {time : TimeState} {boot :
    BootState} {nor : NorState} {log : LogState} {watch : WatchState} {pwr : PwrState} {readData : Nat} {mtx : MtxState}
    {memc : Tab MemcState} {ring : Tab RingState} {tsch : TschState} {chan : Tab ChanState} {grp : Tab GrpState} {chmb : Tab
    ChamberState} {remapped : Nat} {pair : PairState} {rope : RopeState} {sqz : List (Nat × Nat × Nat)} {input : Tab InputState} {src : Tab
    SrcState} {scal : Tab ScalState} {dec : Tab DecState} {sdo : Tab SdoState} {ethAt : Tab Nat} {lane : Tab LaneState} {intc
    : IntcState} {task : TaskState}
    (h : s.Sound q) :
    State.Sound q (⟨s.pending, freeCtr, s.regs, s.hiLive, s.mem, s.hostMem, s.norMem, pages, commits, time, boot, nor, log, watch, pwr,
    readData, mtx, memc, ring, tsch, chan, grp, chmb, remapped, pair, rope, sqz, input, src, scal, dec, sdo, ethAt, lane, intc, task⟩ :
    State) := h.of rfl rfl rfl rfl rfl rfl

theorem State.Sound.foldl {α : Type} {f : State → α → State} (l : List α) (hf : ∀ t x, State.Sound q t → State.Sound q (f t x))
    (h : s.Sound q) : (l.foldl f s).Sound q := by
  induction l generalizing s with
  | nil => exact h
  | cons x l ih => exact ih (hf s x h)

theorem Out.Sound.next (h : s.Sound q) : Out.Sound q (.next s) := ⟨s, rfl, h⟩

/-! ## Named intermediate values -/

theorem State.Sound.cut (x : State) {P : Prop} (h : x.Sound q) (k : x.Sound q → P) : P := k h

/-- A state answered beside another value is sound. -/
def PairSound {α : Type} (q : List Instr) (x : State × α) : Prop := x.1.Sound q

theorem State.Sound.cutPair {α : Type} (x : State × α) {P : Prop} (h : PairSound q x) (k : x.1.Sound q → P) : P := k h

theorem PairSound.mk {α : Type} {b : α} (h : s.Sound q) : PairSound q (s, b) := h

theorem PairSound.of {α : Type} {x : State × α} (h : x.1.Sound q) : PairSound q x := h

theorem PairSound.foldl {α β : Type} {f : State × α → β → State × α} (l : List β) {x : State × α}
    (hf : ∀ y b, State.Sound q y.1 → PairSound q (f y b)) (h : x.1.Sound q) : (l.foldl f x).1.Sound q := by
  induction l generalizing x with
  | nil => exact h
  | cons b l ih => exact ih (hf x b h)

/-! ## The writers -/

theorem State.setReg_sound (a : Nat) (v : Word) (h : s.Sound q) : (s.setReg a v).Sound q :=
  h.step rfl (Tab.set_wf resetVal a v) id id id

theorem State.setLive_sound (a : Nat) (v : Word) (h : s.Sound q) : (s.setLive a v).Sound q :=
  h.step rfl id (Tab.set_wf resetVal a v) id id

theorem State.clearRegs_sound (p : Nat) (f : Nat → Bool) (h : s.Sound q) : (s.clearRegs p f).Sound q :=
  h.step rfl (Tab.filter_wf resetVal _) id id id

theorem State.setByte_sound (a : Nat) (v : Byte) (h : s.Sound q) : (s.setByte a v).Sound q :=
  h.step rfl id id (Tab.set_wf (fun _ => memDefault) a v) id

theorem State.hostStore_sound (a : Nat) (bs : List Byte) (h : s.Sound q) : (s.hostStore a bs).Sound q := by
  induction bs generalizing s a with
  | nil => exact h
  | cons b bs ih => exact ih (a + 1) (h.step rfl id id id (Tab.set_wf (fun _ => memDefault) a b))

theorem State.liveFilter_sound (f : Nat × Word → Bool) (h : s.Sound q) : ({ s with hiLive := s.hiLive.filter f } : State).Sound q :=
  h.step rfl id (Tab.filter_wf resetVal f) id id

end Sys2Proof.Machine
end

