-- ==== Sys2Proof/Laws/SoundOperands.lean ====
section
/-! SUPPORT. Each operation of Machine/Operands.lean keeps the queue and the canonical form. -/

set_option linter.all false
namespace Sys2Proof.Machine

variable {Q : List Instr} {s : State}

theorem State.setFld_sound (p : Nat) (f : Fld) (v : Nat) (hs : State.Sound Q s) : State.Sound Q (State.setFld s p f v) := by
  unfold State.setFld
  repeat' (first | (intro x; first | (refine State.Sound.cut (q := Q) x ?_ (fun hx => ?_); (on_goal 1 => subst x)) | (refine State.Sound.cutPair (q := Q) x ?_ (fun hx => ?_); (on_goal 1 => subst x)) | skip) | (with_reducible first | assumption | apply State.setReg_sound) | intro x hx | intro _ | lift_lets -underBinder | split | (fail_if_no_progress with_reducible apply State.Sound.upd) | (with_reducible apply PairSound.mk))

theorem State.incFld_sound (p : Nat) (f : Fld) (hs : State.Sound Q s) : State.Sound Q (State.incFld s p f) := by
  unfold State.incFld
  repeat' (first | (intro x; first | (refine State.Sound.cut (q := Q) x ?_ (fun hx => ?_); (on_goal 1 => subst x)) | (refine State.Sound.cutPair (q := Q) x ?_ (fun hx => ?_); (on_goal 1 => subst x)) | skip) | (with_reducible first | assumption | apply State.setFld_sound) | intro x hx | intro _ | lift_lets -underBinder | split | (fail_if_no_progress with_reducible apply State.Sound.upd) | (with_reducible apply PairSound.mk))

theorem State.addFld_sound (p : Nat) (f : Fld) (n : Nat) (hs : State.Sound Q s) : State.Sound Q (State.addFld s p f n) := by
  unfold State.addFld
  repeat' (first | (intro x; first | (refine State.Sound.cut (q := Q) x ?_ (fun hx => ?_); (on_goal 1 => subst x)) | (refine State.Sound.cutPair (q := Q) x ?_ (fun hx => ?_); (on_goal 1 => subst x)) | skip) | (with_reducible first | assumption | apply State.setFld_sound) | intro x hx | intro _ | lift_lets -underBinder | split | (fail_if_no_progress with_reducible apply State.Sound.upd) | (with_reducible apply PairSound.mk))

theorem State.addSat_sound (p : Nat) (f : Fld) (n : Nat) (hs : State.Sound Q s) : State.Sound Q (State.addSat s p f n) := by
  unfold State.addSat
  repeat' (first | (intro x; first | (refine State.Sound.cut (q := Q) x ?_ (fun hx => ?_); (on_goal 1 => subst x)) | (refine State.Sound.cutPair (q := Q) x ?_ (fun hx => ?_); (on_goal 1 => subst x)) | skip) | (with_reducible first | assumption | apply State.setFld_sound) | intro x hx | intro _ | lift_lets -underBinder | split | (fail_if_no_progress with_reducible apply State.Sound.upd) | (with_reducible apply PairSound.mk))

theorem State.put64_sound (p : Nat) (f : Fld) (v : Nat) (hs : State.Sound Q s) : State.Sound Q (State.put64 s p f v) := by
  unfold State.put64
  repeat' (first | (intro x; first | (refine State.Sound.cut (q := Q) x ?_ (fun hx => ?_); (on_goal 1 => subst x)) | (refine State.Sound.cutPair (q := Q) x ?_ (fun hx => ?_); (on_goal 1 => subst x)) | skip) | (with_reducible first | assumption | apply State.setReg_sound) | intro x hx | intro _ | lift_lets -underBinder | split | (fail_if_no_progress with_reducible apply State.Sound.upd) | (with_reducible apply PairSound.mk))

theorem State.put64L_sound (p : Nat) (f : Fld) (v : Nat) (hs : State.Sound Q s) : State.Sound Q (State.put64L s p f v) := by
  unfold State.put64L
  repeat' (first | (intro x; first | (refine State.Sound.cut (q := Q) x ?_ (fun hx => ?_); (on_goal 1 => subst x)) | (refine State.Sound.cutPair (q := Q) x ?_ (fun hx => ?_); (on_goal 1 => subst x)) | skip) | (with_reducible first | assumption | apply State.setLive_sound | apply State.setReg_sound) | intro x hx | intro _ | lift_lets -underBinder | split | (fail_if_no_progress with_reducible apply State.Sound.upd) | (with_reducible apply PairSound.mk))

theorem State.setActive_sound (p : Nat) (cells : Tab Word) (hs : State.Sound Q s) : State.Sound Q (State.setActive s p cells) := by
  unfold State.setActive
  repeat' (first | (intro x; first | (refine State.Sound.cut (q := Q) x ?_ (fun hx => ?_); (on_goal 1 => subst x)) | (refine State.Sound.cutPair (q := Q) x ?_ (fun hx => ?_); (on_goal 1 => subst x)) | skip) | (with_reducible first | assumption | apply State.clearRegs_sound | apply State.setReg_sound | refine State.Sound.foldl _ (fun _ _ _ => ?_) ?_ | refine PairSound.foldl _ (fun _ _ _ => ?_) ?_) | intro x hx | intro _ | lift_lets -underBinder | split | (fail_if_no_progress with_reducible apply State.Sound.upd) | (with_reducible apply PairSound.mk) | (with_reducible refine PairSound.of (by assumption)))

theorem State.setShadow_sound (p : Nat) (cells : Tab Word) (hs : State.Sound Q s) : State.Sound Q (State.setShadow s p cells) := by
  unfold State.setShadow
  repeat' (first | (intro x; first | (refine State.Sound.cut (q := Q) x ?_ (fun hx => ?_); (on_goal 1 => subst x)) | (refine State.Sound.cutPair (q := Q) x ?_ (fun hx => ?_); (on_goal 1 => subst x)) | skip) | (with_reducible first | assumption | apply State.clearRegs_sound | apply State.setReg_sound | refine State.Sound.foldl _ (fun _ _ _ => ?_) ?_ | refine PairSound.foldl _ (fun _ _ _ => ?_) ?_) | intro x hx | intro _ | lift_lets -underBinder | split | (fail_if_no_progress with_reducible apply State.Sound.upd) | (with_reducible apply PairSound.mk) | (with_reducible refine PairSound.of (by assumption)))

theorem State.toOffValues_sound (p : Nat) (h : State.Sound Q s) : State.Sound Q (State.toOffValues s p) := by
  unfold State.toOffValues
  split
  · exact State.Sound.foldl _ (fun _ _ h => State.setReg_sound _ _ h)
      (h.step rfl (Tab.filter_wf resetVal _) (Tab.filter_wf resetVal _) id id)
  · exact h

theorem State.store_sound (a v n : Nat) (h : State.Sound Q s) : State.Sound Q (State.store s a v n) := by
  induction n generalizing s a v with
  | zero => exact h
  | succ n ih => exact ih _ _ (State.setByte_sound _ _ h)

theorem State.storeBytes_sound (a : Nat) (bs : List Byte) (h : State.Sound Q s) : State.Sound Q (State.storeBytes s a bs) := by
  induction bs generalizing s a with
  | nil => exact h
  | cons b bs ih => exact ih _ (State.setByte_sound _ _ h)

theorem State.tookFree_sound (hs : State.Sound Q s) : State.Sound Q (State.tookFree s) := by
  unfold State.tookFree
  repeat' (first | (intro x; first | (refine State.Sound.cut (q := Q) x ?_ (fun hx => ?_); (on_goal 1 => subst x)) | (refine State.Sound.cutPair (q := Q) x ?_ (fun hx => ?_); (on_goal 1 => subst x)) | skip) | (with_reducible first | assumption) | intro x hx | intro _ | lift_lets -underBinder | split | (fail_if_no_progress with_reducible apply State.Sound.upd) | (with_reducible apply PairSound.mk))

end Sys2Proof.Machine
end

