-- ==== Sys2Proof/Laws/SoundFlags.lean ====
section
/-! SUPPORT. Each operation of Machine/Flags.lean keeps the queue and the canonical form. -/

set_option linter.all false
namespace Sys2Proof.Machine

variable {Q : List Instr} {s : State}

theorem State.raise_sound (p : Nat) (b : Nat) (hs : State.Sound Q s) : State.Sound Q (State.raise s p b) := by
  unfold State.raise
  repeat' (first | (intro x; first | (refine State.Sound.cut (q := Q) x ?_ (fun hx => ?_); (on_goal 1 => subst x)) | (refine State.Sound.cutPair (q := Q) x ?_ (fun hx => ?_); (on_goal 1 => subst x)) | skip) | (with_reducible first | assumption | apply State.setFld_sound) | intro x hx | intro _ | lift_lets -underBinder | split | (fail_if_no_progress with_reducible apply State.Sound.upd) | (with_reducible apply PairSound.mk))

theorem State.rawTo_sound (p : Nat) (b : Nat) (on : Bool) (hs : State.Sound Q s) : State.Sound Q (State.rawTo s p b on) := by
  unfold State.rawTo
  repeat' (first | (intro x; first | (refine State.Sound.cut (q := Q) x ?_ (fun hx => ?_); (on_goal 1 => subst x)) | (refine State.Sound.cutPair (q := Q) x ?_ (fun hx => ?_); (on_goal 1 => subst x)) | skip) | (with_reducible first | assumption | apply State.setFld_sound) | intro x hx | intro _ | lift_lets -underBinder | split | (fail_if_no_progress with_reducible apply State.Sound.upd) | (with_reducible apply PairSound.mk))

theorem State.errBy_sound (p : Nat) (k : Nat) (n : Nat) (hs : State.Sound Q s) : State.Sound Q (State.errBy s p k n) := by
  unfold State.errBy
  repeat' (first | (intro x; first | (refine State.Sound.cut (q := Q) x ?_ (fun hx => ?_); (on_goal 1 => subst x)) | (refine State.Sound.cutPair (q := Q) x ?_ (fun hx => ?_); (on_goal 1 => subst x)) | skip) | (with_reducible first | assumption | apply State.raise_sound | apply State.addSat_sound) | intro x hx | intro _ | lift_lets -underBinder | split | (fail_if_no_progress with_reducible apply State.Sound.upd) | (with_reducible apply PairSound.mk))

theorem State.err_sound (p : Nat) (k : Nat) (hs : State.Sound Q s) : State.Sound Q (State.err s p k) := by
  unfold State.err
  repeat' (first | (intro x; first | (refine State.Sound.cut (q := Q) x ?_ (fun hx => ?_); (on_goal 1 => subst x)) | (refine State.Sound.cutPair (q := Q) x ?_ (fun hx => ?_); (on_goal 1 => subst x)) | skip) | (with_reducible first | assumption | apply State.errBy_sound) | intro x hx | intro _ | lift_lets -underBinder | split | (fail_if_no_progress with_reducible apply State.Sound.upd) | (with_reducible apply PairSound.mk))

theorem State.recordCode_sound (p : Nat) (code : Nat) (hs : State.Sound Q s) : State.Sound Q (State.recordCode s p code) := by
  unfold State.recordCode
  repeat' (first | (intro x; first | (refine State.Sound.cut (q := Q) x ?_ (fun hx => ?_); (on_goal 1 => subst x)) | (refine State.Sound.cutPair (q := Q) x ?_ (fun hx => ?_); (on_goal 1 => subst x)) | skip) | (with_reducible first | assumption | apply State.addSat_sound | apply State.setFld_sound) | intro x hx | intro _ | lift_lets -underBinder | split | (fail_if_no_progress with_reducible apply State.Sound.upd) | (with_reducible apply PairSound.mk))

theorem State.reason_sound (p : Nat) (cls : Nat) (detail : Nat) (hs : State.Sound Q s) : State.Sound Q (State.reason s p cls detail) := by
  unfold State.reason
  repeat' (first | (intro x; first | (refine State.Sound.cut (q := Q) x ?_ (fun hx => ?_); (on_goal 1 => subst x)) | (refine State.Sound.cutPair (q := Q) x ?_ (fun hx => ?_); (on_goal 1 => subst x)) | skip) | (with_reducible first | assumption | apply State.recordCode_sound) | intro x hx | intro _ | lift_lets -underBinder | split | (fail_if_no_progress with_reducible apply State.Sound.upd) | (with_reducible apply PairSound.mk))

theorem State.setPage_sound (p : Nat) (i : PageInfo) (hs : State.Sound Q s) : State.Sound Q (State.setPage s p i) := by
  unfold State.setPage
  repeat' (first | (intro x; first | (refine State.Sound.cut (q := Q) x ?_ (fun hx => ?_); (on_goal 1 => subst x)) | (refine State.Sound.cutPair (q := Q) x ?_ (fun hx => ?_); (on_goal 1 => subst x)) | skip) | (with_reducible first | assumption) | intro x hx | intro _ | lift_lets -underBinder | split | (fail_if_no_progress with_reducible apply State.Sound.upd) | (with_reducible apply PairSound.mk))

theorem State.opBegin_sound (p : Nat) (kind : Nat) (hs : State.Sound Q s) : State.Sound Q (State.opBegin s p kind) := by
  unfold State.opBegin
  repeat' (first | (intro x; first | (refine State.Sound.cut (q := Q) x ?_ (fun hx => ?_); (on_goal 1 => subst x)) | (refine State.Sound.cutPair (q := Q) x ?_ (fun hx => ?_); (on_goal 1 => subst x)) | skip) | (with_reducible first | assumption | apply State.setFld_sound | apply State.setPage_sound) | intro x hx | intro _ | lift_lets -underBinder | split | (fail_if_no_progress with_reducible apply State.Sound.upd) | (with_reducible apply PairSound.mk))

theorem State.opEndOf_sound (p : Nat) (k : Nat) (result : Nat) (hs : State.Sound Q s) : State.Sound Q (State.opEndOf s p k result) := by
  unfold State.opEndOf
  repeat' (first | (intro x; first | (refine State.Sound.cut (q := Q) x ?_ (fun hx => ?_); (on_goal 1 => subst x)) | (refine State.Sound.cutPair (q := Q) x ?_ (fun hx => ?_); (on_goal 1 => subst x)) | skip) | (with_reducible first | assumption | apply State.setPage_sound | apply State.raise_sound | apply State.incFld_sound | apply State.setFld_sound) | intro x hx | intro _ | lift_lets -underBinder | split | (fail_if_no_progress with_reducible apply State.Sound.upd) | (with_reducible apply PairSound.mk))

theorem State.opEnd_sound (p : Nat) (result : Nat) (hs : State.Sound Q s) : State.Sound Q (State.opEnd s p result) := by
  unfold State.opEnd
  repeat' (first | (intro x; first | (refine State.Sound.cut (q := Q) x ?_ (fun hx => ?_); (on_goal 1 => subst x)) | (refine State.Sound.cutPair (q := Q) x ?_ (fun hx => ?_); (on_goal 1 => subst x)) | skip) | (with_reducible first | assumption | apply State.opEndOf_sound) | intro x hx | intro _ | lift_lets -underBinder | split | (fail_if_no_progress with_reducible apply State.Sound.upd) | (with_reducible apply PairSound.mk))

theorem State.dirChanged_sound (hs : State.Sound Q s) : State.Sound Q (State.dirChanged s) := by
  unfold State.dirChanged
  repeat' (first | (intro x; first | (refine State.Sound.cut (q := Q) x ?_ (fun hx => ?_); (on_goal 1 => subst x)) | (refine State.Sound.cutPair (q := Q) x ?_ (fun hx => ?_); (on_goal 1 => subst x)) | skip) | (with_reducible first | assumption | apply State.raise_sound | apply State.incFld_sound) | intro x hx | intro _ | lift_lets -underBinder | split | (fail_if_no_progress with_reducible apply State.Sound.upd) | (with_reducible apply PairSound.mk))

theorem State.toState_sound (p : Nat) (st : Nat) (hs : State.Sound Q s) : State.Sound Q (State.toState s p st) := by
  unfold State.toState
  repeat' (first | (intro x; first | (refine State.Sound.cut (q := Q) x ?_ (fun hx => ?_); (on_goal 1 => subst x)) | (refine State.Sound.cutPair (q := Q) x ?_ (fun hx => ?_); (on_goal 1 => subst x)) | skip) | (with_reducible first | assumption | apply State.dirChanged_sound | apply State.setPage_sound | apply State.rawTo_sound | apply State.setFld_sound) | intro x hx | intro _ | lift_lets -underBinder | split | (fail_if_no_progress with_reducible apply State.Sound.upd) | (with_reducible apply PairSound.mk))

end Sys2Proof.Machine
end

