-- ==== Sys2Proof/Laws/SoundOps.lean ====
section
/-! SUPPORT. Each operation of Machine/Ops.lean keeps the queue and the canonical form. -/

set_option linter.all false
namespace Sys2Proof.Machine

variable {Q : List Instr} {s : State}

theorem State.onPage_sound (p : Nat) (f : State → State) (hf : ∀ t, State.Sound Q t → State.Sound Q (f t)) (hs : State.Sound Q s) : Out.Sound Q (State.onPage s p f) := by
  unfold State.onPage
  repeat' (first | (intro x; first | (refine State.Sound.cut (q := Q) x ?_ (fun hx => ?_); (on_goal 1 => subst x)) | (refine State.Sound.cutPair (q := Q) x ?_ (fun hx => ?_); (on_goal 1 => subst x)) | skip) | (with_reducible first | assumption | apply hf | apply Out.Sound.next) | intro x hx | intro _ | lift_lets -underBinder | split | (fail_if_no_progress with_reducible apply State.Sound.upd) | (with_reducible apply PairSound.mk))

theorem State.event_sound (g : Bool) (f : State → State) (hf : ∀ t, State.Sound Q t → State.Sound Q (f t)) (hs : State.Sound Q s) : Out.Sound Q (State.event s g f) := by
  unfold State.event
  repeat' (first | (intro x; first | (refine State.Sound.cut (q := Q) x ?_ (fun hx => ?_); (on_goal 1 => subst x)) | (refine State.Sound.cutPair (q := Q) x ?_ (fun hx => ?_); (on_goal 1 => subst x)) | skip) | (with_reducible first | assumption | apply hf | apply Out.Sound.next) | intro x hx | intro _ | lift_lets -underBinder | split | (fail_if_no_progress with_reducible apply State.Sound.upd) | (with_reducible apply PairSound.mk))

theorem State.logEv_sound (page : Nat) (idx : Nat) (severity : Nat) (reason : Nat) (data : List (Nat × Nat)) (hs : State.Sound Q s) : State.Sound Q (State.logEv s page idx severity reason data) := by
  unfold State.logEv
  repeat' (first | (intro x; first | (refine State.Sound.cut (q := Q) x ?_ (fun hx => ?_); (on_goal 1 => subst x)) | (refine State.Sound.cutPair (q := Q) x ?_ (fun hx => ?_); (on_goal 1 => subst x)) | skip) | (with_reducible first | assumption | apply State.raise_sound | apply State.incFld_sound | apply State.reason_sound | apply State.event_sound) | intro x hx | intro _ | lift_lets -underBinder | split | (fail_if_no_progress with_reducible apply State.Sound.upd) | (with_reducible apply PairSound.mk))

theorem State.refuseCode_sound (p : Nat) (code : Nat) (hs : State.Sound Q s) : State.Sound Q (State.refuseCode s p code) := by
  unfold State.refuseCode
  repeat' (first | (intro x; first | (refine State.Sound.cut (q := Q) x ?_ (fun hx => ?_); (on_goal 1 => subst x)) | (refine State.Sound.cutPair (q := Q) x ?_ (fun hx => ?_); (on_goal 1 => subst x)) | skip) | (with_reducible first | assumption | apply State.logEv_sound | apply State.raise_sound | apply State.recordCode_sound) | intro x hx | intro _ | lift_lets -underBinder | split | (fail_if_no_progress with_reducible apply State.Sound.upd) | (with_reducible apply PairSound.mk))

theorem State.refuse_sound (p : Nat) (cls : Nat) (d : Nat) (hs : State.Sound Q s) : State.Sound Q (State.refuse s p cls d) := by
  unfold State.refuse
  repeat' (first | (intro x; first | (refine State.Sound.cut (q := Q) x ?_ (fun hx => ?_); (on_goal 1 => subst x)) | (refine State.Sound.cutPair (q := Q) x ?_ (fun hx => ?_); (on_goal 1 => subst x)) | skip) | (with_reducible first | assumption | apply State.refuseCode_sound) | intro x hx | intro _ | lift_lets -underBinder | split | (fail_if_no_progress with_reducible apply State.Sound.upd) | (with_reducible apply PairSound.mk))

theorem State.totals_sound (hs : State.Sound Q s) : State.Sound Q (State.totals s) := by
  unfold State.totals
  repeat' (first | (intro x; first | (refine State.Sound.cut (q := Q) x ?_ (fun hx => ?_); (on_goal 1 => subst x)) | (refine State.Sound.cutPair (q := Q) x ?_ (fun hx => ?_); (on_goal 1 => subst x)) | skip) | (with_reducible first | assumption | apply State.setFld_sound | apply State.put64L_sound) | intro x hx | intro _ | lift_lets -underBinder | split | (fail_if_no_progress with_reducible apply State.Sound.upd) | (with_reducible apply PairSound.mk))

theorem State.limits_sound (chambers : Nat) (held : Nat) (memc : Nat) (hs : State.Sound Q s) : State.Sound Q (State.limits s chambers held memc) := by
  unfold State.limits
  repeat' (first | (intro x; first | (refine State.Sound.cut (q := Q) x ?_ (fun hx => ?_); (on_goal 1 => subst x)) | (refine State.Sound.cutPair (q := Q) x ?_ (fun hx => ?_); (on_goal 1 => subst x)) | skip) | (with_reducible first | assumption | apply State.put64L_sound | apply State.setFld_sound) | intro x hx | intro _ | lift_lets -underBinder | split | (fail_if_no_progress with_reducible apply State.Sound.upd) | (with_reducible apply PairSound.mk))

theorem State.setTerms_sound (p : Nat) (chmb : Nat) (mem : Nat) (hs : State.Sound Q s) : State.Sound Q (State.setTerms s p chmb mem) := by
  unfold State.setTerms
  repeat' (first | (intro x; first | (refine State.Sound.cut (q := Q) x ?_ (fun hx => ?_); (on_goal 1 => subst x)) | (refine State.Sound.cutPair (q := Q) x ?_ (fun hx => ?_); (on_goal 1 => subst x)) | skip) | (with_reducible first | assumption | apply State.totals_sound | apply State.setPage_sound) | intro x hx | intro _ | lift_lets -underBinder | split | (fail_if_no_progress with_reducible apply State.Sound.upd) | (with_reducible apply PairSound.mk))

theorem State.recheckPage_sound (p : Nat) (hs : State.Sound Q s) : State.Sound Q (State.recheckPage s p) := by
  unfold State.recheckPage
  repeat' (first | (intro x; first | (refine State.Sound.cut (q := Q) x ?_ (fun hx => ?_); (on_goal 1 => subst x)) | (refine State.Sound.cutPair (q := Q) x ?_ (fun hx => ?_); (on_goal 1 => subst x)) | skip) | (with_reducible first | assumption | apply State.setPage_sound | refine State.Sound.foldl _ (fun _ _ _ => ?_) ?_ | refine PairSound.foldl _ (fun _ _ _ => ?_) ?_) | intro x hx | intro _ | lift_lets -underBinder | split | (fail_if_no_progress with_reducible apply State.Sound.upd) | (with_reducible apply PairSound.mk) | clear_value * | (with_reducible refine PairSound.of (by assumption)))

theorem State.recheckCommit_sound (g : Nat) (hs : State.Sound Q s) : State.Sound Q (State.recheckCommit s g) := by
  unfold State.recheckCommit
  repeat' (first | (intro x; first | (refine State.Sound.cut (q := Q) x ?_ (fun hx => ?_); (on_goal 1 => subst x)) | (refine State.Sound.cutPair (q := Q) x ?_ (fun hx => ?_); (on_goal 1 => subst x)) | skip) | (with_reducible first | assumption) | intro x hx | intro _ | lift_lets -underBinder | split | (fail_if_no_progress with_reducible apply State.Sound.upd) | (with_reducible apply PairSound.mk) | clear_value *)

theorem State.resourceLeft_sound (hs : State.Sound Q s) : State.Sound Q (State.resourceLeft s) := by
  unfold State.resourceLeft
  repeat' (first | (intro x; first | (refine State.Sound.cut (q := Q) x ?_ (fun hx => ?_); (on_goal 1 => subst x)) | (refine State.Sound.cutPair (q := Q) x ?_ (fun hx => ?_); (on_goal 1 => subst x)) | skip) | (with_reducible first | assumption | apply State.recheckPage_sound | apply State.recheckCommit_sound | refine State.Sound.foldl _ (fun _ _ _ => ?_) ?_ | refine PairSound.foldl _ (fun _ _ _ => ?_) ?_) | intro x hx | intro _ | lift_lets -underBinder | split | (fail_if_no_progress with_reducible apply State.Sound.upd) | (with_reducible apply PairSound.mk) | (with_reducible refine PairSound.of (by assumption)))

theorem State.incrApply_sound (hs : State.Sound Q s) : State.Sound Q (State.incrApply s) := by
  unfold State.incrApply
  repeat' (first | (intro x; first | (refine State.Sound.cut (q := Q) x ?_ (fun hx => ?_); (on_goal 1 => subst x)) | (refine State.Sound.cutPair (q := Q) x ?_ (fun hx => ?_); (on_goal 1 => subst x)) | skip) | (with_reducible first | assumption | apply State.setFld_sound) | intro x hx | intro _ | lift_lets -underBinder | split | (fail_if_no_progress with_reducible apply State.Sound.upd) | (with_reducible apply PairSound.mk) | clear_value *)

theorem State.slewLoad_sound (n : Nat) (hs : State.Sound Q s) : State.Sound Q (State.slewLoad s n) := by
  unfold State.slewLoad
  repeat' (first | (intro x; first | (refine State.Sound.cut (q := Q) x ?_ (fun hx => ?_); (on_goal 1 => subst x)) | (refine State.Sound.cutPair (q := Q) x ?_ (fun hx => ?_); (on_goal 1 => subst x)) | skip) | (with_reducible first | assumption | apply State.setFld_sound) | intro x hx | intro _ | lift_lets -underBinder | split | (fail_if_no_progress with_reducible apply State.Sound.upd) | (with_reducible apply PairSound.mk))

theorem State.slewTick_sound (hs : State.Sound Q s) : State.Sound Q (State.slewTick s) := by
  unfold State.slewTick
  repeat' (first | (intro x; first | (refine State.Sound.cut (q := Q) x ?_ (fun hx => ?_); (on_goal 1 => subst x)) | (refine State.Sound.cutPair (q := Q) x ?_ (fun hx => ?_); (on_goal 1 => subst x)) | skip) | (with_reducible first | assumption | apply State.slewLoad_sound | apply State.incrApply_sound) | intro x hx | intro _ | lift_lets -underBinder | split | (fail_if_no_progress with_reducible apply State.Sound.upd) | (with_reducible apply PairSound.mk))

theorem State.lateMark_sound (n : Nat) (hs : State.Sound Q s) : State.Sound Q (State.lateMark s n) := by
  unfold State.lateMark
  repeat' (first | (intro x; first | (refine State.Sound.cut (q := Q) x ?_ (fun hx => ?_); (on_goal 1 => subst x)) | (refine State.Sound.cutPair (q := Q) x ?_ (fun hx => ?_); (on_goal 1 => subst x)) | skip) | (with_reducible first | assumption) | intro x hx | intro _ | lift_lets -underBinder | split | (fail_if_no_progress with_reducible apply State.Sound.upd) | (with_reducible apply PairSound.mk))

theorem State.clockTick_sound (hs : State.Sound Q s) : State.Sound Q (State.clockTick s) := by
  unfold State.clockTick
  repeat' (first | (intro x; first | (refine State.Sound.cut (q := Q) x ?_ (fun hx => ?_); (on_goal 1 => subst x)) | (refine State.Sound.cutPair (q := Q) x ?_ (fun hx => ?_); (on_goal 1 => subst x)) | skip) | (with_reducible first | assumption | apply State.lateMark_sound | apply State.slewTick_sound | apply State.tookFree_sound | apply State.raise_sound | apply State.setFld_sound | refine State.Sound.foldl _ (fun _ _ _ => ?_) ?_ | refine PairSound.foldl _ (fun _ _ _ => ?_) ?_) | intro x hx | intro _ | lift_lets -underBinder | split | (fail_if_no_progress with_reducible apply State.Sound.upd) | (with_reducible apply PairSound.mk) | (with_reducible refine PairSound.of (by assumption)))

theorem State.deviceReset_sound (byLantern : Bool) (h : State.Sound Q s) : State.Sound Q (State.deviceReset s byLantern) :=
  h.step rfl (Tab.filter_wf resetVal _) (Tab.filter_wf resetVal _) id id

end Sys2Proof.Machine
end

