-- ==== Sys2Proof/Laws/SoundCommon.lean ====
section
/-! SUPPORT. Each operation of Machine/Common.lean keeps the queue and the canonical form. -/

set_option linter.all false
namespace Sys2Proof.Machine

variable {Q : List Instr} {s : State}

theorem State.poolTotals_sound (hs : State.Sound Q s) : State.Sound Q (State.poolTotals s) := by
  unfold State.poolTotals
  repeat' (first | (intro x; first | (refine State.Sound.cut (q := Q) x ?_ (fun hx => ?_); (on_goal 1 => subst x)) | (refine State.Sound.cutPair (q := Q) x ?_ (fun hx => ?_); (on_goal 1 => subst x)) | skip) | (with_reducible first | assumption | apply State.setFld_sound | refine State.Sound.foldl _ (fun _ _ _ => ?_) ?_ | refine PairSound.foldl _ (fun _ _ _ => ?_) ?_) | intro x hx | intro _ | lift_lets -underBinder | split | (fail_if_no_progress with_reducible apply State.Sound.upd) | (with_reducible apply PairSound.mk) | (with_reducible refine PairSound.of (by assumption)))

theorem State.setQfld_sound (f : Nat → Fld) (q : Nat) (v : Nat) (hs : State.Sound Q s) : State.Sound Q (State.setQfld s f q v) := by
  unfold State.setQfld
  repeat' (first | (intro x; first | (refine State.Sound.cut (q := Q) x ?_ (fun hx => ?_); (on_goal 1 => subst x)) | (refine State.Sound.cutPair (q := Q) x ?_ (fun hx => ?_); (on_goal 1 => subst x)) | skip) | (with_reducible first | assumption | apply State.setFld_sound) | intro x hx | intro _ | lift_lets -underBinder | split | (fail_if_no_progress with_reducible apply State.Sound.upd) | (with_reducible apply PairSound.mk))

theorem State.disown_sound (q : Nat) (hs : State.Sound Q s) : State.Sound Q (State.disown s q) := by
  unfold State.disown
  repeat' (first | (intro x; first | (refine State.Sound.cut (q := Q) x ?_ (fun hx => ?_); (on_goal 1 => subst x)) | (refine State.Sound.cutPair (q := Q) x ?_ (fun hx => ?_); (on_goal 1 => subst x)) | skip) | (with_reducible first | assumption | apply State.setQfld_sound) | intro x hx | intro _ | lift_lets -underBinder | split | (fail_if_no_progress with_reducible apply State.Sound.upd) | (with_reducible apply PairSound.mk))

theorem State.releaseRun_sound (c : Nat) (hs : State.Sound Q s) : State.Sound Q (State.releaseRun s c) := by
  unfold State.releaseRun
  repeat' (first | (intro x; first | (refine State.Sound.cut (q := Q) x ?_ (fun hx => ?_); (on_goal 1 => subst x)) | (refine State.Sound.cutPair (q := Q) x ?_ (fun hx => ?_); (on_goal 1 => subst x)) | skip) | (with_reducible first | assumption | apply State.poolTotals_sound | apply State.setReg_sound) | intro x hx | intro _ | lift_lets -underBinder | split | (fail_if_no_progress with_reducible apply State.Sound.upd) | (with_reducible apply PairSound.mk))

theorem State.release_sound (p : Nat) (hs : State.Sound Q s) : State.Sound Q (State.release s p) := by
  unfold State.release
  repeat' (first | (intro x; first | (refine State.Sound.cut (q := Q) x ?_ (fun hx => ?_); (on_goal 1 => subst x)) | (refine State.Sound.cutPair (q := Q) x ?_ (fun hx => ?_); (on_goal 1 => subst x)) | skip) | (with_reducible first | assumption | apply State.disown_sound | apply State.releaseRun_sound | apply State.setTerms_sound | refine State.Sound.foldl _ (fun _ _ _ => ?_) ?_ | refine PairSound.foldl _ (fun _ _ _ => ?_) ?_) | intro x hx | intro _ | lift_lets -underBinder | split | (fail_if_no_progress with_reducible apply State.Sound.upd) | (with_reducible apply PairSound.mk) | clear_value * | (with_reducible refine PairSound.of (by assumption)))

theorem State.leave_sound (p : Nat) (hs : State.Sound Q s) : State.Sound Q (State.leave s p) := by
  unfold State.leave
  repeat' (first | (intro x; first | (refine State.Sound.cut (q := Q) x ?_ (fun hx => ?_); (on_goal 1 => subst x)) | (refine State.Sound.cutPair (q := Q) x ?_ (fun hx => ?_); (on_goal 1 => subst x)) | skip) | (with_reducible first | assumption | apply State.release_sound | apply State.setFld_sound | apply State.toOffValues_sound | apply State.raise_sound | apply State.toState_sound | apply State.opEndOf_sound) | intro x hx | intro _ | lift_lets -underBinder | split | (fail_if_no_progress with_reducible apply State.Sound.upd) | (with_reducible apply PairSound.mk))

theorem State.logFault_sound (p : Nat) (code : Nat) (hs : State.Sound Q s) : State.Sound Q (State.logFault s p code) := by
  unfold State.logFault
  repeat' (first | (intro x; first | (refine State.Sound.cut (q := Q) x ?_ (fun hx => ?_); (on_goal 1 => subst x)) | (refine State.Sound.cutPair (q := Q) x ?_ (fun hx => ?_); (on_goal 1 => subst x)) | skip) | (with_reducible first | assumption | apply State.logEv_sound) | intro x hx | intro _ | lift_lets -underBinder | split | (fail_if_no_progress with_reducible apply State.Sound.upd) | (with_reducible apply PairSound.mk))

theorem State.noteTaskFault_sound (p : Nat) (hs : State.Sound Q s) : State.Sound Q (State.noteTaskFault s p) := by
  unfold State.noteTaskFault
  repeat' (first | (intro x; first | (refine State.Sound.cut (q := Q) x ?_ (fun hx => ?_); (on_goal 1 => subst x)) | (refine State.Sound.cutPair (q := Q) x ?_ (fun hx => ?_); (on_goal 1 => subst x)) | skip) | (with_reducible first | assumption) | intro x hx | intro _ | lift_lets -underBinder | split | (fail_if_no_progress with_reducible apply State.Sound.upd) | (with_reducible apply PairSound.mk))

theorem State.enterFault_sound (p : Nat) (detail : Nat) (hs : State.Sound Q s) : State.Sound Q (State.enterFault s p detail) := by
  unfold State.enterFault
  repeat' (first | (intro x; first | (refine State.Sound.cut (q := Q) x ?_ (fun hx => ?_); (on_goal 1 => subst x)) | (refine State.Sound.cutPair (q := Q) x ?_ (fun hx => ?_); (on_goal 1 => subst x)) | skip) | (with_reducible first | assumption | apply State.noteTaskFault_sound | apply State.release_sound | apply State.logFault_sound | apply State.raise_sound | apply State.toState_sound | apply State.opEndOf_sound | apply State.recordCode_sound | apply State.opEnd_sound | apply State.refuseCode_sound | refine State.Sound.foldl _ (fun _ _ _ => ?_) ?_ | refine PairSound.foldl _ (fun _ _ _ => ?_) ?_) | intro x hx | intro _ | lift_lets -underBinder | split | (fail_if_no_progress with_reducible apply State.Sound.upd) | (with_reducible apply PairSound.mk) | (with_reducible refine PairSound.of (by assumption)))

theorem State.protWrite_sound (byLantern : Bool) (n : Nat) (r : Nat) (v : Word) (hs : State.Sound Q s) : State.Sound Q (State.protWrite byLantern n r v s) := by
  unfold State.protWrite
  repeat' (first | (intro x; first | (refine State.Sound.cut (q := Q) x ?_ (fun hx => ?_); (on_goal 1 => subst x)) | (refine State.Sound.cutPair (q := Q) x ?_ (fun hx => ?_); (on_goal 1 => subst x)) | skip) | (with_reducible first | assumption | apply State.setReg_sound | apply State.reason_sound) | intro x hx | intro _ | lift_lets -underBinder | split | (fail_if_no_progress with_reducible apply State.Sound.upd) | (with_reducible apply PairSound.mk) | clear_value *)

end Sys2Proof.Machine
end

