-- ==== Sys2Proof/Laws/SoundPwr.lean ====
section
/-! SUPPORT. Each operation of Machine/Pwr.lean keeps the queue and the canonical form. -/

set_option linter.all false
namespace Sys2Proof.Machine

variable {Q : List Instr} {s : State}

theorem State.govShow_sound (hs : State.Sound Q s) : State.Sound Q (State.govShow s) := by
  unfold State.govShow
  repeat' (first | (intro x; first | (refine State.Sound.cut (q := Q) x ?_ (fun hx => ?_); (on_goal 1 => subst x)) | (refine State.Sound.cutPair (q := Q) x ?_ (fun hx => ?_); (on_goal 1 => subst x)) | skip) | (with_reducible first | assumption | apply State.setFld_sound) | intro x hx | intro _ | lift_lets -underBinder | split | (fail_if_no_progress with_reducible apply State.Sound.upd) | (with_reducible apply PairSound.mk))

theorem State.govWant_sound (d : Nat) (on : Bool) (hs : State.Sound Q s) : State.Sound Q (State.govWant s d on) := by
  unfold State.govWant
  repeat' (first | (intro x; first | (refine State.Sound.cut (q := Q) x ?_ (fun hx => ?_); (on_goal 1 => subst x)) | (refine State.Sound.cutPair (q := Q) x ?_ (fun hx => ?_); (on_goal 1 => subst x)) | skip) | (with_reducible first | assumption) | intro x hx | intro _ | lift_lets -underBinder | split | (fail_if_no_progress with_reducible apply State.Sound.upd) | (with_reducible apply PairSound.mk))

theorem State.govWake_sound (hs : State.Sound Q s) : State.Sound Q (State.govWake s) := by
  unfold State.govWake
  repeat' (first | (intro x; first | (refine State.Sound.cut (q := Q) x ?_ (fun hx => ?_); (on_goal 1 => subst x)) | (refine State.Sound.cutPair (q := Q) x ?_ (fun hx => ?_); (on_goal 1 => subst x)) | skip) | (with_reducible first | assumption | apply State.govShow_sound | apply State.govWant_sound | refine State.Sound.foldl _ (fun _ _ _ => ?_) ?_ | refine PairSound.foldl _ (fun _ _ _ => ?_) ?_) | intro x hx | intro _ | lift_lets -underBinder | split | (fail_if_no_progress with_reducible apply State.Sound.upd) | (with_reducible apply PairSound.mk) | (with_reducible refine PairSound.of (by assumption)))

theorem State.govDec_sound (d : Nat) (on : Bool) (hs : State.Sound Q s) : State.Sound Q (State.govDec s d on) := by
  unfold State.govDec
  repeat' (first | (intro x; first | (refine State.Sound.cut (q := Q) x ?_ (fun hx => ?_); (on_goal 1 => subst x)) | (refine State.Sound.cutPair (q := Q) x ?_ (fun hx => ?_); (on_goal 1 => subst x)) | skip) | (with_reducible first | assumption | apply State.govShow_sound | apply State.govWant_sound) | intro x hx | intro _ | lift_lets -underBinder | split | (fail_if_no_progress with_reducible apply State.Sound.upd) | (with_reducible apply PairSound.mk))

theorem State.govChamberLeaves_sound (c : Nat) (hs : State.Sound Q s) : State.Sound Q (State.govChamberLeaves s c) := by
  unfold State.govChamberLeaves
  repeat' (first | (intro x; first | (refine State.Sound.cut (q := Q) x ?_ (fun hx => ?_); (on_goal 1 => subst x)) | (refine State.Sound.cutPair (q := Q) x ?_ (fun hx => ?_); (on_goal 1 => subst x)) | skip) | (with_reducible first | assumption | apply State.govShow_sound | apply State.err_sound | apply State.govWant_sound) | intro x hx | intro _ | lift_lets -underBinder | split | (fail_if_no_progress with_reducible apply State.Sound.upd) | (with_reducible apply PairSound.mk))

theorem State.govChamberReturns_sound (c : Nat) (hs : State.Sound Q s) : State.Sound Q (State.govChamberReturns s c) := by
  unfold State.govChamberReturns
  repeat' (first | (intro x; first | (refine State.Sound.cut (q := Q) x ?_ (fun hx => ?_); (on_goal 1 => subst x)) | (refine State.Sound.cutPair (q := Q) x ?_ (fun hx => ?_); (on_goal 1 => subst x)) | skip) | (with_reducible first | assumption | apply State.govShow_sound | apply State.govWant_sound) | intro x hx | intro _ | lift_lets -underBinder | split | (fail_if_no_progress with_reducible apply State.Sound.upd) | (with_reducible apply PairSound.mk))

theorem State.govStep_sound (d : Nat) (up : Bool) (hs : State.Sound Q s) : State.Sound Q (State.govStep s d up) := by
  unfold State.govStep
  repeat' (first | (intro x; first | (refine State.Sound.cut (q := Q) x ?_ (fun hx => ?_); (on_goal 1 => subst x)) | (refine State.Sound.cutPair (q := Q) x ?_ (fun hx => ?_); (on_goal 1 => subst x)) | skip) | (with_reducible first | assumption | apply State.setFld_sound) | intro x hx | intro _ | lift_lets -underBinder | split | (fail_if_no_progress with_reducible apply State.Sound.upd) | (with_reducible apply PairSound.mk))

theorem execGovernorStage_sound (hs : State.Sound Q s) : Out.Sound Q (execGovernorStage s) := by
  unfold execGovernorStage
  repeat' (first | (intro x; first | (refine State.Sound.cut (q := Q) x ?_ (fun hx => ?_); (on_goal 1 => subst x)) | (refine State.Sound.cutPair (q := Q) x ?_ (fun hx => ?_); (on_goal 1 => subst x)) | skip) | (with_reducible first | assumption | apply State.govShow_sound | apply State.setFld_sound | apply State.raise_sound | apply State.govStep_sound | apply State.err_sound | apply State.event_sound | apply Out.Sound.next) | intro x hx | intro _ | lift_lets -underBinder | split | (fail_if_no_progress with_reducible apply State.Sound.upd) | (with_reducible apply PairSound.mk) | clear_value *)

theorem State.govIdle_sound (hs : State.Sound Q s) : State.Sound Q (State.govIdle s) := by
  unfold State.govIdle
  repeat' (first | (intro x; first | (refine State.Sound.cut (q := Q) x ?_ (fun hx => ?_); (on_goal 1 => subst x)) | (refine State.Sound.cutPair (q := Q) x ?_ (fun hx => ?_); (on_goal 1 => subst x)) | skip) | (with_reducible first | assumption) | intro x hx | intro _ | lift_lets -underBinder | split | (fail_if_no_progress with_reducible apply State.Sound.upd) | (with_reducible apply PairSound.mk) | clear_value *)

theorem execCoolDelayExpiry_sound (hs : State.Sound Q s) : Out.Sound Q (execCoolDelayExpiry s) := by
  unfold execCoolDelayExpiry
  repeat' (first | (intro x; first | (refine State.Sound.cut (q := Q) x ?_ (fun hx => ?_); (on_goal 1 => subst x)) | (refine State.Sound.cutPair (q := Q) x ?_ (fun hx => ?_); (on_goal 1 => subst x)) | skip) | (with_reducible first | assumption | apply State.govShow_sound | apply State.govWant_sound | apply State.event_sound | apply Out.Sound.next | refine State.Sound.foldl _ (fun _ _ _ => ?_) ?_ | refine PairSound.foldl _ (fun _ _ _ => ?_) ?_) | intro x hx | intro _ | lift_lets -underBinder | split | (fail_if_no_progress with_reducible apply State.Sound.upd) | (with_reducible apply PairSound.mk) | clear_value * | (with_reducible refine PairSound.of (by assumption)))

theorem State.pwrCfgWrite_sound (ot : Bool) (v : Word) (hs : State.Sound Q s) : State.Sound Q (State.pwrCfgWrite ot v s) := by
  unfold State.pwrCfgWrite
  repeat' (first | (intro x; first | (refine State.Sound.cut (q := Q) x ?_ (fun hx => ?_); (on_goal 1 => subst x)) | (refine State.Sound.cutPair (q := Q) x ?_ (fun hx => ?_); (on_goal 1 => subst x)) | skip) | (with_reducible first | assumption | apply State.setFld_sound | apply State.reason_sound) | intro x hx | intro _ | lift_lets -underBinder | split | (fail_if_no_progress with_reducible apply State.Sound.upd) | (with_reducible apply PairSound.mk))

end Sys2Proof.Machine
end

