-- ==== Sys2Proof/Laws/SoundPairCore.lean ====
section
/-! SUPPORT. Each operation of Machine/PairCore.lean keeps the queue and the canonical form. -/

set_option linter.all false
namespace Sys2Proof.Machine

variable {Q : List Instr} {s : State}

theorem State.setChan_sound (c : Nat) (x : ChanState) (hs : State.Sound Q s) : State.Sound Q (State.setChan s c x) := by
  unfold State.setChan
  repeat' (first | (intro x; first | (refine State.Sound.cut (q := Q) x ?_ (fun hx => ?_); (on_goal 1 => subst x)) | (refine State.Sound.cutPair (q := Q) x ?_ (fun hx => ?_); (on_goal 1 => subst x)) | skip) | (with_reducible first | assumption) | intro x hx | intro _ | lift_lets -underBinder | split | (fail_if_no_progress with_reducible apply State.Sound.upd) | (with_reducible apply PairSound.mk))

theorem State.updChan_sound (c : Nat) (f : ChanState → ChanState) (hs : State.Sound Q s) : State.Sound Q (State.updChan s c f) := by
  unfold State.updChan
  repeat' (first | (intro x; first | (refine State.Sound.cut (q := Q) x ?_ (fun hx => ?_); (on_goal 1 => subst x)) | (refine State.Sound.cutPair (q := Q) x ?_ (fun hx => ?_); (on_goal 1 => subst x)) | skip) | (with_reducible first | assumption | apply State.setChan_sound) | intro x hx | intro _ | lift_lets -underBinder | split | (fail_if_no_progress with_reducible apply State.Sound.upd) | (with_reducible apply PairSound.mk))

theorem State.requestRefresh_sound (c : Nat) (from' : Nat) (hs : State.Sound Q s) : State.Sound Q (State.requestRefresh s c from') := by
  unfold State.requestRefresh
  repeat' (first | (intro x; first | (refine State.Sound.cut (q := Q) x ?_ (fun hx => ?_); (on_goal 1 => subst x)) | (refine State.Sound.cutPair (q := Q) x ?_ (fun hx => ?_); (on_goal 1 => subst x)) | skip) | (with_reducible first | assumption | apply State.setFld_sound | apply State.updChan_sound) | intro x hx | intro _ | lift_lets -underBinder | split | (fail_if_no_progress with_reducible apply State.Sound.upd) | (with_reducible apply PairSound.mk))

theorem State.raiseClaim_sound (p : Nat) (hs : State.Sound Q s) : State.Sound Q (State.raiseClaim s p) := by
  unfold State.raiseClaim
  repeat' (first | (intro x; first | (refine State.Sound.cut (q := Q) x ?_ (fun hx => ?_); (on_goal 1 => subst x)) | (refine State.Sound.cutPair (q := Q) x ?_ (fun hx => ?_); (on_goal 1 => subst x)) | skip) | (with_reducible first | assumption | apply State.raise_sound | apply State.setFld_sound) | intro x hx | intro _ | lift_lets -underBinder | split | (fail_if_no_progress with_reducible apply State.Sound.upd) | (with_reducible apply PairSound.mk))

theorem State.sendClaim_sound (hs : State.Sound Q s) : State.Sound Q (State.sendClaim s) := by
  unfold State.sendClaim
  repeat' (first | (intro x; first | (refine State.Sound.cut (q := Q) x ?_ (fun hx => ?_); (on_goal 1 => subst x)) | (refine State.Sound.cutPair (q := Q) x ?_ (fun hx => ?_); (on_goal 1 => subst x)) | skip) | (with_reducible first | assumption | apply State.ropeSend_sound) | intro x hx | intro _ | lift_lets -underBinder | split | (fail_if_no_progress with_reducible apply State.Sound.upd) | (with_reducible apply PairSound.mk))

theorem State.deriveStep_sound (hs : State.Sound Q s) : State.Sound Q (State.deriveStep s) := by
  unfold State.deriveStep
  repeat' (first | (intro x; first | (refine State.Sound.cut (q := Q) x ?_ (fun hx => ?_); (on_goal 1 => subst x)) | (refine State.Sound.cutPair (q := Q) x ?_ (fun hx => ?_); (on_goal 1 => subst x)) | skip) | (with_reducible first | assumption | apply State.rawTo_sound | apply State.raise_sound | apply State.setFld_sound) | intro x hx | intro _ | lift_lets -underBinder | split | (fail_if_no_progress with_reducible apply State.Sound.upd) | (with_reducible apply PairSound.mk))

theorem State.setStep_sound (c : Nat) (code : Nat) (hs : State.Sound Q s) : State.Sound Q (State.setStep s c code) := by
  unfold State.setStep
  repeat' (first | (intro x; first | (refine State.Sound.cut (q := Q) x ?_ (fun hx => ?_); (on_goal 1 => subst x)) | (refine State.Sound.cutPair (q := Q) x ?_ (fun hx => ?_); (on_goal 1 => subst x)) | skip) | (with_reducible first | assumption | apply State.deriveStep_sound | apply State.setFld_sound) | intro x hx | intro _ | lift_lets -underBinder | split | (fail_if_no_progress with_reducible apply State.Sound.upd) | (with_reducible apply PairSound.mk))

theorem State.sendStep_sound (c : Nat) (cause : Nat) (n : Nat) (k : Nat) (hs : State.Sound Q s) : State.Sound Q (State.sendStep s c cause n k) := by
  unfold State.sendStep
  repeat' (first | (intro x; first | (refine State.Sound.cut (q := Q) x ?_ (fun hx => ?_); (on_goal 1 => subst x)) | (refine State.Sound.cutPair (q := Q) x ?_ (fun hx => ?_); (on_goal 1 => subst x)) | skip) | (with_reducible first | assumption | apply State.ropeSend_sound) | intro x hx | intro _ | lift_lets -underBinder | split | (fail_if_no_progress with_reducible apply State.Sound.upd) | (with_reducible apply PairSound.mk))

theorem State.mismatchInfo_sound (c : Nat) (k : Nat) (n : Nat) (cause : Nat) (hs : State.Sound Q s) : State.Sound Q (State.mismatchInfo s c k n cause) := by
  unfold State.mismatchInfo
  repeat' (first | (intro x; first | (refine State.Sound.cut (q := Q) x ?_ (fun hx => ?_); (on_goal 1 => subst x)) | (refine State.Sound.cutPair (q := Q) x ?_ (fun hx => ?_); (on_goal 1 => subst x)) | skip) | (with_reducible first | assumption | apply State.put64L_sound | apply State.setFld_sound) | intro x hx | intro _ | lift_lets -underBinder | split | (fail_if_no_progress with_reducible apply State.Sound.upd) | (with_reducible apply PairSound.mk))

theorem State.wantJoin_sound (c : Nat) (hs : State.Sound Q s) : State.Sound Q (State.wantJoin s c) := by
  unfold State.wantJoin
  repeat' (first | (intro x; first | (refine State.Sound.cut (q := Q) x ?_ (fun hx => ?_); (on_goal 1 => subst x)) | (refine State.Sound.cutPair (q := Q) x ?_ (fun hx => ?_); (on_goal 1 => subst x)) | skip) | (with_reducible first | assumption | apply State.ropeSend_sound) | intro x hx | intro _ | lift_lets -underBinder | split | (fail_if_no_progress with_reducible apply State.Sound.upd) | (with_reducible apply PairSound.mk))

theorem State.joinFailed_sound (c : Nat) (k : Nat) (n : Nat) (cause : Nat) (tell : Bool) (hs : State.Sound Q s) : State.Sound Q (State.joinFailed s c k n cause tell) := by
  unfold State.joinFailed
  repeat' (first | (intro x; first | (refine State.Sound.cut (q := Q) x ?_ (fun hx => ?_); (on_goal 1 => subst x)) | (refine State.Sound.cutPair (q := Q) x ?_ (fun hx => ?_); (on_goal 1 => subst x)) | skip) | (with_reducible first | assumption | apply State.wantJoin_sound | apply State.sendStep_sound | apply State.mismatchInfo_sound | apply State.err_sound | apply State.raise_sound | apply State.setStep_sound | apply State.updChan_sound) | intro x hx | intro _ | lift_lets -underBinder | split | (fail_if_no_progress with_reducible apply State.Sound.upd) | (with_reducible apply PairSound.mk))

theorem State.outOfStep_sound (c : Nat) (k : Nat) (n : Nat) (cause : Nat) (hs : State.Sound Q s) : State.Sound Q (State.outOfStep s c k n cause) := by
  unfold State.outOfStep
  repeat' (first | (intro x; first | (refine State.Sound.cut (q := Q) x ?_ (fun hx => ?_); (on_goal 1 => subst x)) | (refine State.Sound.cutPair (q := Q) x ?_ (fun hx => ?_); (on_goal 1 => subst x)) | skip) | (with_reducible first | assumption | apply State.wantJoin_sound | apply State.sendStep_sound | apply State.err_sound | apply State.mismatchInfo_sound | apply State.raise_sound | apply State.setStep_sound | apply State.updChan_sound | apply State.joinFailed_sound) | intro x hx | intro _ | lift_lets -underBinder | split | (fail_if_no_progress with_reducible apply State.Sound.upd) | (with_reducible apply PairSound.mk))

theorem State.openChan_sound (c : Nat) (n : Nat) (hs : State.Sound Q s) : State.Sound Q (State.openChan s c n) := by
  unfold State.openChan
  repeat' (first | (intro x; first | (refine State.Sound.cut (q := Q) x ?_ (fun hx => ?_); (on_goal 1 => subst x)) | (refine State.Sound.cutPair (q := Q) x ?_ (fun hx => ?_); (on_goal 1 => subst x)) | skip) | (with_reducible first | assumption | apply State.errBy_sound | apply State.setFld_sound | apply State.updChan_sound) | intro x hx | intro _ | lift_lets -underBinder | split | (fail_if_no_progress with_reducible apply State.Sound.upd) | (with_reducible apply PairSound.mk) | clear_value *)

theorem State.setRole_sound (active : Bool) (cause : Nat) (hs : State.Sound Q s) : State.Sound Q (State.setRole s active cause) := by
  unfold State.setRole
  repeat' (first | (intro x; first | (refine State.Sound.cut (q := Q) x ?_ (fun hx => ?_); (on_goal 1 => subst x)) | (refine State.Sound.cutPair (q := Q) x ?_ (fun hx => ?_); (on_goal 1 => subst x)) | skip) | (with_reducible first | assumption | apply State.sendClaim_sound | apply State.logEv_sound | apply State.err_sound | apply State.rawTo_sound | apply State.raise_sound | apply State.put64L_sound | apply State.setFld_sound) | intro x hx | intro _ | lift_lets -underBinder | split | (fail_if_no_progress with_reducible apply State.Sound.upd) | (with_reducible apply PairSound.mk))

theorem State.dropSwitch_sound (hs : State.Sound Q s) : State.Sound Q (State.dropSwitch s) := by
  unfold State.dropSwitch
  repeat' (first | (intro x; first | (refine State.Sound.cut (q := Q) x ?_ (fun hx => ?_); (on_goal 1 => subst x)) | (refine State.Sound.cutPair (q := Q) x ?_ (fun hx => ?_); (on_goal 1 => subst x)) | skip) | (with_reducible first | assumption | apply State.put64L_sound | apply State.setFld_sound) | intro x hx | intro _ | lift_lets -underBinder | split | (fail_if_no_progress with_reducible apply State.Sound.upd) | (with_reducible apply PairSound.mk))

theorem State.becomeActive_sound (p : Nat) (cause : Nat) (seqOf : Nat → Option Nat) (hs : State.Sound Q s) : State.Sound Q (State.becomeActive s p cause seqOf) := by
  unfold State.becomeActive
  repeat' (first | (intro x; first | (refine State.Sound.cut (q := Q) x ?_ (fun hx => ?_); (on_goal 1 => subst x)) | (refine State.Sound.cutPair (q := Q) x ?_ (fun hx => ?_); (on_goal 1 => subst x)) | skip) | (with_reducible first | assumption | apply State.setRole_sound | apply State.updChan_sound | apply State.openChan_sound | apply State.setFld_sound | apply State.dropSwitch_sound | apply State.raiseClaim_sound | refine State.Sound.foldl _ (fun _ _ _ => ?_) ?_ | refine PairSound.foldl _ (fun _ _ _ => ?_) ?_) | intro x hx | intro _ | lift_lets -underBinder | split | (fail_if_no_progress with_reducible apply State.Sound.upd) | (with_reducible apply PairSound.mk) | clear_value * | (with_reducible refine PairSound.of (by assumption)))

theorem State.becomeStandby_sound (cause : Nat) (hs : State.Sound Q s) : State.Sound Q (State.becomeStandby s cause) := by
  unfold State.becomeStandby
  repeat' (first | (intro x; first | (refine State.Sound.cut (q := Q) x ?_ (fun hx => ?_); (on_goal 1 => subst x)) | (refine State.Sound.cutPair (q := Q) x ?_ (fun hx => ?_); (on_goal 1 => subst x)) | skip) | (with_reducible first | assumption | apply State.setRole_sound | apply State.dropSwitch_sound) | intro x hx | intro _ | lift_lets -underBinder | split | (fail_if_no_progress with_reducible apply State.Sound.upd) | (with_reducible apply PairSound.mk))

theorem State.fatal_sound (b : Nat) (hs : State.Sound Q s) : State.Sound Q (State.fatal s b) := by
  unfold State.fatal
  repeat' (first | (intro x; first | (refine State.Sound.cut (q := Q) x ?_ (fun hx => ?_); (on_goal 1 => subst x)) | (refine State.Sound.cutPair (q := Q) x ?_ (fun hx => ?_); (on_goal 1 => subst x)) | skip) | (with_reducible first | assumption | apply State.logEv_sound | apply State.sendClaim_sound | apply State.dropSwitch_sound | apply State.becomeStandby_sound | apply State.ropeYield_sound | apply State.raise_sound | apply State.setFld_sound) | intro x hx | intro _ | lift_lets -underBinder | split | (fail_if_no_progress with_reducible apply State.Sound.upd) | (with_reducible apply PairSound.mk))

theorem State.ropeUp_sound (hs : State.Sound Q s) : State.Sound Q (State.ropeUp s) := by
  unfold State.ropeUp
  repeat' (first | (intro x; first | (refine State.Sound.cut (q := Q) x ?_ (fun hx => ?_); (on_goal 1 => subst x)) | (refine State.Sound.cutPair (q := Q) x ?_ (fun hx => ?_); (on_goal 1 => subst x)) | skip) | (with_reducible first | assumption | apply State.deriveStep_sound | apply State.sendClaim_sound | apply State.raise_sound | apply State.setFld_sound) | intro x hx | intro _ | lift_lets -underBinder | split | (fail_if_no_progress with_reducible apply State.Sound.upd) | (with_reducible apply PairSound.mk))

theorem State.ropeDown_sound (hs : State.Sound Q s) : State.Sound Q (State.ropeDown s) := by
  unfold State.ropeDown
  repeat' (first | (intro x; first | (refine State.Sound.cut (q := Q) x ?_ (fun hx => ?_); (on_goal 1 => subst x)) | (refine State.Sound.cutPair (q := Q) x ?_ (fun hx => ?_); (on_goal 1 => subst x)) | skip) | (with_reducible first | assumption | apply State.deriveStep_sound | apply State.joinFailed_sound | apply State.setStep_sound | apply State.updChan_sound | apply State.raise_sound | apply State.setFld_sound | refine State.Sound.foldl _ (fun _ _ _ => ?_) ?_ | refine PairSound.foldl _ (fun _ _ _ => ?_) ?_) | intro x hx | intro _ | lift_lets -underBinder | split | (fail_if_no_progress with_reducible apply State.Sound.upd) | (with_reducible apply PairSound.mk) | (with_reducible refine PairSound.of (by assumption)))

end Sys2Proof.Machine
end

