-- ==== Sys2Proof/Laws/SoundMemory.lean ====
section
/-! SUPPORT. Each operation of Machine/Memory.lean keeps the queue and the canonical form. -/

set_option linter.all false
namespace Sys2Proof.Machine

variable {Q : List Instr} {s : State}

theorem State.setMemc_sound (n : Nat) (m : MemcState) (hs : State.Sound Q s) : State.Sound Q (State.setMemc s n m) := by
  unfold State.setMemc
  repeat' (first | (intro x; first | (refine State.Sound.cut (q := Q) x ?_ (fun hx => ?_); (on_goal 1 => subst x)) | (refine State.Sound.cutPair (q := Q) x ?_ (fun hx => ?_); (on_goal 1 => subst x)) | skip) | (with_reducible first | assumption) | intro x hx | intro _ | lift_lets -underBinder | split | (fail_if_no_progress with_reducible apply State.Sound.upd) | (with_reducible apply PairSound.mk))

theorem State.mtxError_sound (kind : Nat) (master : Nat) (target : Nat) (window : Nat) (addr : Nat) (hs : State.Sound Q s) : State.Sound Q (State.mtxError s kind master target window addr) := by
  unfold State.mtxError
  repeat' (first | (intro x; first | (refine State.Sound.cut (q := Q) x ?_ (fun hx => ?_); (on_goal 1 => subst x)) | (refine State.Sound.cutPair (q := Q) x ?_ (fun hx => ?_); (on_goal 1 => subst x)) | skip) | (with_reducible first | assumption | apply State.put64L_sound | apply State.setFld_sound) | intro x hx | intro _ | lift_lets -underBinder | split | (fail_if_no_progress with_reducible apply State.Sound.upd) | (with_reducible apply PairSound.mk))

theorem State.decodeError_sound (master : Nat) (addr : Nat) (hs : State.Sound Q s) : State.Sound Q (State.decodeError s master addr) := by
  unfold State.decodeError
  repeat' (first | (intro x; first | (refine State.Sound.cut (q := Q) x ?_ (fun hx => ?_); (on_goal 1 => subst x)) | (refine State.Sound.cutPair (q := Q) x ?_ (fun hx => ?_); (on_goal 1 => subst x)) | skip) | (with_reducible first | assumption | apply State.err_sound | apply State.raise_sound | apply State.mtxError_sound | apply State.tookFree_sound) | intro x hx | intro _ | lift_lets -underBinder | split | (fail_if_no_progress with_reducible apply State.Sound.upd) | (with_reducible apply PairSound.mk))

theorem State.wpViolation_sound (master : Nat) (window : Nat) (addr : Nat) (hs : State.Sound Q s) : State.Sound Q (State.wpViolation s master window addr) := by
  unfold State.wpViolation
  repeat' (first | (intro x; first | (refine State.Sound.cut (q := Q) x ?_ (fun hx => ?_); (on_goal 1 => subst x)) | (refine State.Sound.cutPair (q := Q) x ?_ (fun hx => ?_); (on_goal 1 => subst x)) | skip) | (with_reducible first | assumption | apply State.logEv_sound | apply State.err_sound | apply State.raise_sound | apply State.mtxError_sound | apply State.tookFree_sound) | intro x hx | intro _ | lift_lets -underBinder | split | (fail_if_no_progress with_reducible apply State.Sound.upd) | (with_reducible apply PairSound.mk))

theorem State.blockWritten_sound (b : Nat) (hs : State.Sound Q s) : State.Sound Q (State.blockWritten s b) := by
  unfold State.blockWritten
  repeat' (first | (intro x; first | (refine State.Sound.cut (q := Q) x ?_ (fun hx => ?_); (on_goal 1 => subst x)) | (refine State.Sound.cutPair (q := Q) x ?_ (fun hx => ?_); (on_goal 1 => subst x)) | skip) | (with_reducible first | assumption | apply State.setMemc_sound) | intro x hx | intro _ | lift_lets -underBinder | split | (fail_if_no_progress with_reducible apply State.Sound.upd) | (with_reducible apply PairSound.mk))

theorem State.poisonBlock_sound (b : Nat) (hs : State.Sound Q s) : State.Sound Q (State.poisonBlock s b) := by
  unfold State.poisonBlock
  repeat' (first | (intro x; first | (refine State.Sound.cut (q := Q) x ?_ (fun hx => ?_); (on_goal 1 => subst x)) | (refine State.Sound.cutPair (q := Q) x ?_ (fun hx => ?_); (on_goal 1 => subst x)) | skip) | (with_reducible first | assumption | apply State.setMemc_sound) | intro x hx | intro _ | lift_lets -underBinder | split | (fail_if_no_progress with_reducible apply State.Sound.upd) | (with_reducible apply PairSound.mk))

theorem State.memStore_sound (a : Nat) (bs : List Byte) (hs : State.Sound Q s) : State.Sound Q (State.memStore s a bs) := by
  unfold State.memStore
  repeat' (first | (intro x; first | (refine State.Sound.cut (q := Q) x ?_ (fun hx => ?_); (on_goal 1 => subst x)) | (refine State.Sound.cutPair (q := Q) x ?_ (fun hx => ?_); (on_goal 1 => subst x)) | skip) | (with_reducible first | assumption | apply State.blockWritten_sound | apply State.storeBytes_sound | refine State.Sound.foldl _ (fun _ _ _ => ?_) ?_ | refine PairSound.foldl _ (fun _ _ _ => ?_) ?_) | intro x hx | intro _ | lift_lets -underBinder | split | (fail_if_no_progress with_reducible apply State.Sound.upd) | (with_reducible apply PairSound.mk) | (with_reducible refine PairSound.of (by assumption)))

theorem State.noteBad_sound (b : Nat) (hs : State.Sound Q s) : State.Sound Q (State.noteBad s b) := by
  unfold State.noteBad
  repeat' (first | (intro x; first | (refine State.Sound.cut (q := Q) x ?_ (fun hx => ?_); (on_goal 1 => subst x)) | (refine State.Sound.cutPair (q := Q) x ?_ (fun hx => ?_); (on_goal 1 => subst x)) | skip) | (with_reducible first | assumption | apply State.err_sound | apply State.raise_sound) | intro x hx | intro _ | lift_lets -underBinder | split | (fail_if_no_progress with_reducible apply State.Sound.upd) | (with_reducible apply PairSound.mk))

theorem State.noteRead_sound (a : Nat) (n : Nat) (hs : State.Sound Q s) : State.Sound Q (State.noteRead s a n) := by
  unfold State.noteRead
  repeat' (first | (intro x; first | (refine State.Sound.cut (q := Q) x ?_ (fun hx => ?_); (on_goal 1 => subst x)) | (refine State.Sound.cutPair (q := Q) x ?_ (fun hx => ?_); (on_goal 1 => subst x)) | skip) | (with_reducible first | assumption | apply State.noteBad_sound | refine State.Sound.foldl _ (fun _ _ _ => ?_) ?_ | refine PairSound.foldl _ (fun _ _ _ => ?_) ?_) | intro x hx | intro _ | lift_lets -underBinder | split | (fail_if_no_progress with_reducible apply State.Sound.upd) | (with_reducible apply PairSound.mk) | (with_reducible refine PairSound.of (by assumption)))

theorem State.devRead_pair (master : Nat) (a : Nat) (n : Nat) (hs : State.Sound Q s) : PairSound Q (State.devRead s master a n) := by
  unfold State.devRead
  repeat' (first | (intro x; first | (refine State.Sound.cut (q := Q) x ?_ (fun hx => ?_); (on_goal 1 => subst x)) | (refine State.Sound.cutPair (q := Q) x ?_ (fun hx => ?_); (on_goal 1 => subst x)) | skip) | (with_reducible first | assumption | apply State.noteRead_sound | apply State.decodeError_sound) | intro x hx | intro _ | lift_lets -underBinder | split | (fail_if_no_progress with_reducible apply State.Sound.upd) | (with_reducible apply PairSound.mk) | clear_value *)

theorem State.devRead_sound (master : Nat) (a : Nat) (n : Nat) (hs : State.Sound Q s) : State.Sound Q (State.devRead s master a n).1 :=
  State.devRead_pair master a n hs

theorem State.devWrite_pair (master : Nat) (a : Nat) (bs : List Byte) (hs : State.Sound Q s) : PairSound Q (State.devWrite s master a bs) := by
  unfold State.devWrite
  repeat' (first | (intro x; first | (refine State.Sound.cut (q := Q) x ?_ (fun hx => ?_); (on_goal 1 => subst x)) | (refine State.Sound.cutPair (q := Q) x ?_ (fun hx => ?_); (on_goal 1 => subst x)) | skip) | (with_reducible first | assumption | apply State.decodeError_sound | apply State.wpViolation_sound | apply State.memStore_sound) | intro x hx | intro _ | lift_lets -underBinder | split | (fail_if_no_progress with_reducible apply State.Sound.upd) | (with_reducible apply PairSound.mk) | clear_value *)

theorem State.devWrite_sound (master : Nat) (a : Nat) (bs : List Byte) (hs : State.Sound Q s) : State.Sound Q (State.devWrite s master a bs).1 :=
  State.devWrite_pair master a bs hs

theorem State.devWriteUnits_pair (master fuel a : Nat) (bs : List Byte) (h : State.Sound Q s) :
    PairSound Q (State.devWriteUnits s master fuel a bs) := by
  induction fuel generalizing s a bs with
  | zero => exact h
  | succ n ih =>
    unfold State.devWriteUnits
    split
    · exact h
    · exact PairSound.mk (ih _ _ (State.devWrite_sound _ _ _ h))

theorem State.devWriteUnits_sound (master fuel a : Nat) (bs : List Byte) (h : State.Sound Q s) : State.Sound Q (State.devWriteUnits s master fuel a bs).1 :=
  State.devWriteUnits_pair master fuel a bs h

end Sys2Proof.Machine
end

