-- ==== Sys2Proof/Laws/SoundMemc.lean ====
section
/-! SUPPORT. Each operation of Machine/Memc.lean keeps the queue and the canonical form. -/

set_option linter.all false
namespace Sys2Proof.Machine

variable {Q : List Instr} {s : State}

theorem State.refreshBoundary_sound (n : Nat) (hs : State.Sound Q s) : State.Sound Q (State.refreshBoundary s n) := by
  unfold State.refreshBoundary
  repeat' (first | (intro x; first | (refine State.Sound.cut (q := Q) x ?_ (fun hx => ?_); (on_goal 1 => subst x)) | (refine State.Sound.cutPair (q := Q) x ?_ (fun hx => ?_); (on_goal 1 => subst x)) | skip) | (with_reducible first | assumption | apply State.opEndOf_sound | apply State.err_sound | apply State.raise_sound | apply State.setFld_sound | apply State.setReg_sound | refine State.Sound.foldl _ (fun _ _ _ => ?_) ?_ | refine PairSound.foldl _ (fun _ _ _ => ?_) ?_) | intro x hx | intro _ | lift_lets -underBinder | split | (fail_if_no_progress with_reducible apply State.Sound.upd) | (with_reducible apply PairSound.mk) | (with_reducible refine PairSound.of (by assumption)))

theorem State.catchUp_sound (n : Nat) (hs : State.Sound Q s) : State.Sound Q (State.catchUp s n) := by
  unfold State.catchUp
  repeat' (first | (intro x; first | (refine State.Sound.cut (q := Q) x ?_ (fun hx => ?_); (on_goal 1 => subst x)) | (refine State.Sound.cutPair (q := Q) x ?_ (fun hx => ?_); (on_goal 1 => subst x)) | skip) | (with_reducible first | assumption | apply State.errBy_sound | apply State.raise_sound | apply State.setFld_sound | apply State.refreshBoundary_sound) | intro x hx | intro _ | lift_lets -underBinder | split | (fail_if_no_progress with_reducible apply State.Sound.upd) | (with_reducible apply PairSound.mk))

theorem State.memcTemp_sound (n : Nat) (hs : State.Sound Q s) : State.Sound Q (State.memcTemp s n) := by
  unfold State.memcTemp
  repeat' (first | (intro x; first | (refine State.Sound.cut (q := Q) x ?_ (fun hx => ?_); (on_goal 1 => subst x)) | (refine State.Sound.cutPair (q := Q) x ?_ (fun hx => ?_); (on_goal 1 => subst x)) | skip) | (with_reducible first | assumption | apply State.catchUp_sound | apply State.raise_sound | apply State.rawTo_sound | apply State.setFld_sound) | intro x hx | intro _ | lift_lets -underBinder | split | (fail_if_no_progress with_reducible apply State.Sound.upd) | (with_reducible apply PairSound.mk))

theorem State.memcSensor_sound (n : Nat) (reading : Int) (hs : State.Sound Q s) : State.Sound Q (State.memcSensor s n reading) := by
  unfold State.memcSensor
  repeat' (first | (intro x; first | (refine State.Sound.cut (q := Q) x ?_ (fun hx => ?_); (on_goal 1 => subst x)) | (refine State.Sound.cutPair (q := Q) x ?_ (fun hx => ?_); (on_goal 1 => subst x)) | skip) | (with_reducible first | assumption | apply State.memcTemp_sound | apply State.setMemc_sound) | intro x hx | intro _ | lift_lets -underBinder | split | (fail_if_no_progress with_reducible apply State.Sound.upd) | (with_reducible apply PairSound.mk))

theorem State.memcBegin_sound (n : Nat) (hs : State.Sound Q s) : State.Sound Q (State.memcBegin s n) := by
  unfold State.memcBegin
  repeat' (first | (intro x; first | (refine State.Sound.cut (q := Q) x ?_ (fun hx => ?_); (on_goal 1 => subst x)) | (refine State.Sound.cutPair (q := Q) x ?_ (fun hx => ?_); (on_goal 1 => subst x)) | skip) | (with_reducible first | assumption | apply State.setMemc_sound) | intro x hx | intro _ | lift_lets -underBinder | split | (fail_if_no_progress with_reducible apply State.Sound.upd) | (with_reducible apply PairSound.mk))

theorem execRefiExpiry_sound (n : Nat) (hs : State.Sound Q s) : Out.Sound Q (execRefiExpiry n s) := by
  unfold execRefiExpiry
  repeat' (first | (intro x; first | (refine State.Sound.cut (q := Q) x ?_ (fun hx => ?_); (on_goal 1 => subst x)) | (refine State.Sound.cutPair (q := Q) x ?_ (fun hx => ?_); (on_goal 1 => subst x)) | skip) | (with_reducible first | assumption | apply State.addSat_sound | apply State.setMemc_sound | apply State.event_sound | apply Out.Sound.next) | intro x hx | intro _ | lift_lets -underBinder | split | (fail_if_no_progress with_reducible apply State.Sound.upd) | (with_reducible apply PairSound.mk))

theorem execRefreshIssue_sound (n : Nat) (hs : State.Sound Q s) : Out.Sound Q (execRefreshIssue n s) := by
  unfold execRefreshIssue
  repeat' (first | (intro x; first | (refine State.Sound.cut (q := Q) x ?_ (fun hx => ?_); (on_goal 1 => subst x)) | (refine State.Sound.cutPair (q := Q) x ?_ (fun hx => ?_); (on_goal 1 => subst x)) | skip) | (with_reducible first | assumption | apply State.refreshBoundary_sound | apply State.setFld_sound | apply State.event_sound | apply Out.Sound.next) | intro x hx | intro _ | lift_lets -underBinder | split | (fail_if_no_progress with_reducible apply State.Sound.upd) | (with_reducible apply PairSound.mk))

theorem State.sliceGone_sound (n : Nat) (hs : State.Sound Q s) : State.Sound Q (State.sliceGone s n) := by
  unfold State.sliceGone
  repeat' (first | (intro x; first | (refine State.Sound.cut (q := Q) x ?_ (fun hx => ?_); (on_goal 1 => subst x)) | (refine State.Sound.cutPair (q := Q) x ?_ (fun hx => ?_); (on_goal 1 => subst x)) | skip) | (with_reducible first | assumption | apply State.setFld_sound | apply State.setMemc_sound | refine State.Sound.foldl _ (fun _ _ _ => ?_) ?_ | refine PairSound.foldl _ (fun _ _ _ => ?_) ?_) | intro x hx | intro _ | lift_lets -underBinder | split | (fail_if_no_progress with_reducible apply State.Sound.upd) | (with_reducible apply PairSound.mk) | (with_reducible refine PairSound.of (by assumption)))

theorem State.memcLimits_sound (memc : Nat) (hs : State.Sound Q s) : State.Sound Q (State.memcLimits s memc) := by
  unfold State.memcLimits
  repeat' (first | (intro x; first | (refine State.Sound.cut (q := Q) x ?_ (fun hx => ?_); (on_goal 1 => subst x)) | (refine State.Sound.cutPair (q := Q) x ?_ (fun hx => ?_); (on_goal 1 => subst x)) | skip) | (with_reducible first | assumption | apply State.resourceLeft_sound | apply State.limits_sound) | intro x hx | intro _ | lift_lets -underBinder | split | (fail_if_no_progress with_reducible apply State.Sound.upd) | (with_reducible apply PairSound.mk))

theorem State.channelFailed_sound (n : Nat) (cause : Nat) (hs : State.Sound Q s) : State.Sound Q (State.channelFailed s n cause) := by
  unfold State.channelFailed
  repeat' (first | (intro x; first | (refine State.Sound.cut (q := Q) x ?_ (fun hx => ?_); (on_goal 1 => subst x)) | (refine State.Sound.cutPair (q := Q) x ?_ (fun hx => ?_); (on_goal 1 => subst x)) | skip) | (with_reducible first | assumption | apply State.fatal_sound | apply State.logEv_sound | apply State.raise_sound | apply State.memcLimits_sound | apply State.sliceGone_sound | apply State.enterFault_sound | apply State.setMemc_sound | apply State.setFld_sound) | intro x hx | intro _ | lift_lets -underBinder | split | (fail_if_no_progress with_reducible apply State.Sound.upd) | (with_reducible apply PairSound.mk))

theorem execMr4Poll_sound (n : Nat) (code : Nat) (hs : State.Sound Q s) : Out.Sound Q (execMr4Poll n code s) := by
  unfold execMr4Poll
  repeat' (first | (intro x; first | (refine State.Sound.cut (q := Q) x ?_ (fun hx => ?_); (on_goal 1 => subst x)) | (refine State.Sound.cutPair (q := Q) x ?_ (fun hx => ?_); (on_goal 1 => subst x)) | skip) | (with_reducible first | assumption | apply State.memcTemp_sound | apply State.channelFailed_sound | apply State.setMemc_sound | apply State.event_sound | apply Out.Sound.next) | intro x hx | intro _ | lift_lets -underBinder | split | (fail_if_no_progress with_reducible apply State.Sound.upd) | (with_reducible apply PairSound.mk))

theorem State.applyDelays_sound (n : Nat) (hs : State.Sound Q s) : State.Sound Q (State.applyDelays n s) := by
  unfold State.applyDelays
  repeat' (first | (intro x; first | (refine State.Sound.cut (q := Q) x ?_ (fun hx => ?_); (on_goal 1 => subst x)) | (refine State.Sound.cutPair (q := Q) x ?_ (fun hx => ?_); (on_goal 1 => subst x)) | skip) | (with_reducible first | assumption | apply State.opBegin_sound | apply State.setFld_sound | apply State.refuse_sound) | intro x hx | intro _ | lift_lets -underBinder | split | (fail_if_no_progress with_reducible apply State.Sound.upd) | (with_reducible apply PairSound.mk))

theorem execApplyDelays_sound (n : Nat) (hs : State.Sound Q s) : Out.Sound Q (execApplyDelays n s) := by
  unfold execApplyDelays
  repeat' (first | (intro x; first | (refine State.Sound.cut (q := Q) x ?_ (fun hx => ?_); (on_goal 1 => subst x)) | (refine State.Sound.cutPair (q := Q) x ?_ (fun hx => ?_); (on_goal 1 => subst x)) | skip) | (with_reducible first | assumption | apply State.applyDelays_sound | apply State.onPage_sound | apply Out.Sound.next) | intro x hx | intro _ | lift_lets -underBinder | split | (fail_if_no_progress with_reducible apply State.Sound.upd) | (with_reducible apply PairSound.mk))

theorem State.applyWithdraw_sound (n : Nat) (hs : State.Sound Q s) : State.Sound Q (State.applyWithdraw n s) := by
  unfold State.applyWithdraw
  repeat' (first | (intro x; first | (refine State.Sound.cut (q := Q) x ?_ (fun hx => ?_); (on_goal 1 => subst x)) | (refine State.Sound.cutPair (q := Q) x ?_ (fun hx => ?_); (on_goal 1 => subst x)) | skip) | (with_reducible first | assumption | apply State.opEndOf_sound | apply State.setFld_sound) | intro x hx | intro _ | lift_lets -underBinder | split | (fail_if_no_progress with_reducible apply State.Sound.upd) | (with_reducible apply PairSound.mk))

theorem State.probeStart_sound (n : Nat) (hs : State.Sound Q s) : State.Sound Q (State.probeStart n s) := by
  unfold State.probeStart
  repeat' (first | (intro x; first | (refine State.Sound.cut (q := Q) x ?_ (fun hx => ?_); (on_goal 1 => subst x)) | (refine State.Sound.cutPair (q := Q) x ?_ (fun hx => ?_); (on_goal 1 => subst x)) | skip) | (with_reducible first | assumption | apply State.opBegin_sound | apply State.setMemc_sound | apply State.setFld_sound | apply State.refuse_sound) | intro x hx | intro _ | lift_lets -underBinder | split | (fail_if_no_progress with_reducible apply State.Sound.upd) | (with_reducible apply PairSound.mk))

theorem execProbeStart_sound (n : Nat) (hs : State.Sound Q s) : Out.Sound Q (execProbeStart n s) := by
  unfold execProbeStart
  repeat' (first | (intro x; first | (refine State.Sound.cut (q := Q) x ?_ (fun hx => ?_); (on_goal 1 => subst x)) | (refine State.Sound.cutPair (q := Q) x ?_ (fun hx => ?_); (on_goal 1 => subst x)) | skip) | (with_reducible first | assumption | apply State.probeStart_sound | apply State.onPage_sound | apply Out.Sound.next) | intro x hx | intro _ | lift_lets -underBinder | split | (fail_if_no_progress with_reducible apply State.Sound.upd) | (with_reducible apply PairSound.mk))

theorem execStolenSlot_sound (n : Nat) (pass : Bool) (hs : State.Sound Q s) : Out.Sound Q (execStolenSlot n pass s) := by
  unfold execStolenSlot
  repeat' (first | (intro x; first | (refine State.Sound.cut (q := Q) x ?_ (fun hx => ?_); (on_goal 1 => subst x)) | (refine State.Sound.cutPair (q := Q) x ?_ (fun hx => ?_); (on_goal 1 => subst x)) | skip) | (with_reducible first | assumption | apply State.raise_sound | apply State.opEndOf_sound | apply State.setMemc_sound | apply State.addSat_sound | apply State.event_sound | apply Out.Sound.next) | intro x hx | intro _ | lift_lets -underBinder | split | (fail_if_no_progress with_reducible apply State.Sound.upd) | (with_reducible apply PairSound.mk))

theorem execRrWindowEnd_sound (n : Nat) (hs : State.Sound Q s) : Out.Sound Q (execRrWindowEnd n s) := by
  unfold execRrWindowEnd
  repeat' (first | (intro x; first | (refine State.Sound.cut (q := Q) x ?_ (fun hx => ?_); (on_goal 1 => subst x)) | (refine State.Sound.cutPair (q := Q) x ?_ (fun hx => ?_); (on_goal 1 => subst x)) | skip) | (with_reducible first | assumption | apply State.channelFailed_sound | apply State.addSat_sound | apply State.err_sound | apply State.raise_sound | apply State.setMemc_sound | apply State.setFld_sound | apply State.event_sound | apply Out.Sound.next) | intro x hx | intro _ | lift_lets -underBinder | split | (fail_if_no_progress with_reducible apply State.Sound.upd) | (with_reducible apply PairSound.mk))

theorem State.countReread_sound (n : Nat) (k : Nat) (hs : State.Sound Q s) : State.Sound Q (State.countReread s n k) := by
  unfold State.countReread
  repeat' (first | (intro x; first | (refine State.Sound.cut (q := Q) x ?_ (fun hx => ?_); (on_goal 1 => subst x)) | (refine State.Sound.cutPair (q := Q) x ?_ (fun hx => ?_); (on_goal 1 => subst x)) | skip) | (with_reducible first | assumption | apply State.setMemc_sound) | intro x hx | intro _ | lift_lets -underBinder | split | (fail_if_no_progress with_reducible apply State.Sound.upd) | (with_reducible apply PairSound.mk))

theorem execShedWrite_sound (n : Nat) (k : Nat) (v : Word) (hs : State.Sound Q s) : Out.Sound Q (execShedWrite n k v s) := by
  unfold execShedWrite
  repeat' (first | (intro x; first | (refine State.Sound.cut (q := Q) x ?_ (fun hx => ?_); (on_goal 1 => subst x)) | (refine State.Sound.cutPair (q := Q) x ?_ (fun hx => ?_); (on_goal 1 => subst x)) | skip) | (with_reducible first | assumption | apply State.reason_sound | apply State.setReg_sound | apply State.onPage_sound | apply Out.Sound.next) | intro x hx | intro _ | lift_lets -underBinder | split | (fail_if_no_progress with_reducible apply State.Sound.upd) | (with_reducible apply PairSound.mk))

theorem State.blockRead_pair (n : Nat) (b : Nat) (fails : Nat) (hs : State.Sound Q s) : PairSound Q (State.blockRead s n b fails) := by
  unfold State.blockRead
  repeat' (first | (intro x; first | (refine State.Sound.cut (q := Q) x ?_ (fun hx => ?_); (on_goal 1 => subst x)) | (refine State.Sound.cutPair (q := Q) x ?_ (fun hx => ?_); (on_goal 1 => subst x)) | skip) | (with_reducible first | assumption | apply State.countReread_sound | apply State.err_sound | apply State.noteBad_sound | apply State.raise_sound) | intro x hx | intro _ | lift_lets -underBinder | split | (fail_if_no_progress with_reducible apply State.Sound.upd) | (with_reducible apply PairSound.mk))

theorem State.blockRead_sound (n : Nat) (b : Nat) (fails : Nat) (hs : State.Sound Q s) : State.Sound Q (State.blockRead s n b fails).1 :=
  State.blockRead_pair n b fails hs

theorem State.blocksServe_pair (n : Nat) (b : Burst) (ks fails : List Nat) (h : State.Sound Q s) :
    PairSound Q (State.blocksServe s n b ks fails) := by
  induction ks generalizing s fails with
  | nil => exact h
  | cons k ks ih =>
    unfold State.blocksServe
    apply ih
    have h1 : State.Sound Q (if (b.data.isSome && (decide (b.addr ≤ k * 64) && decide (k * 64 + 64 ≤ b.addr + b.len))) = true
        then (s, true) else s.blockRead n k (fails.headD 0)).1 := by
      split
      · exact h
      · exact State.blockRead_sound _ _ _ h
    repeat' (first | exact h1 | first | (intro x; first | (refine State.Sound.cut (q := Q) x ?_ (fun hx => ?_); (on_goal 1 => subst x)) | (refine State.Sound.cutPair (q := Q) x ?_ (fun hx => ?_); (on_goal 1 => subst x)) | skip) | (with_reducible first | assumption | apply State.poisonBlock_sound | apply State.blockRead_sound | apply State.blockRead_pair) | intro x hx | intro _ | lift_lets -underBinder | split | (fail_if_no_progress with_reducible apply State.Sound.upd) | (with_reducible apply PairSound.mk))

theorem State.blocksServe_sound (n : Nat) (b : Burst) (ks fails : List Nat) (h : State.Sound Q s) : State.Sound Q (State.blocksServe s n b ks fails).1 :=
  State.blocksServe_pair n b ks fails h

theorem State.neighbours_sound (n : Nat) (hs : State.Sound Q s) : State.Sound Q (State.neighbours s n) := by
  unfold State.neighbours
  repeat' (first | (intro x; first | (refine State.Sound.cut (q := Q) x ?_ (fun hx => ?_); (on_goal 1 => subst x)) | (refine State.Sound.cutPair (q := Q) x ?_ (fun hx => ?_); (on_goal 1 => subst x)) | skip) | (with_reducible first | assumption | apply State.tookFree_sound | apply State.setMemc_sound | apply State.errBy_sound) | intro x hx | intro _ | lift_lets -underBinder | split | (fail_if_no_progress with_reducible apply State.Sound.upd) | (with_reducible apply PairSound.mk))

theorem State.grant_sound (b : Burst) (hs : State.Sound Q s) : State.Sound Q (State.grant s b) := by
  unfold State.grant
  repeat' (first | (intro x; first | (refine State.Sound.cut (q := Q) x ?_ (fun hx => ?_); (on_goal 1 => subst x)) | (refine State.Sound.cutPair (q := Q) x ?_ (fun hx => ?_); (on_goal 1 => subst x)) | skip) | (with_reducible first | assumption | apply State.devWrite_sound | apply State.devWrite_pair | apply State.storeBytes_sound | apply State.err_sound) | intro x hx | intro _ | lift_lets -underBinder | split | (fail_if_no_progress with_reducible apply State.Sound.upd) | (with_reducible apply PairSound.mk) | clear_value * | (show State.Sound _ _; assumption))

theorem State.grantAll_sound (target fuel : Nat) (h : State.Sound Q s) : State.Sound Q (State.grantAll s target fuel) := by
  induction fuel generalizing s with
  | zero => exact h
  | succ n ih =>
    unfold State.grantAll
    repeat' (first | (with_reducible apply ih) | first | (intro x; first | (refine State.Sound.cut (q := Q) x ?_ (fun hx => ?_); (on_goal 1 => subst x)) | (refine State.Sound.cutPair (q := Q) x ?_ (fun hx => ?_); (on_goal 1 => subst x)) | skip) | (with_reducible first | assumption | apply State.grant_sound) | intro x hx | intro _ | lift_lets -underBinder | split | (fail_if_no_progress with_reducible apply State.Sound.upd) | (with_reducible apply PairSound.mk) | clear_value *)

theorem State.matrixAge_sound (hs : State.Sound Q s) : State.Sound Q (State.matrixAge s) := by
  unfold State.matrixAge
  repeat' (first | (intro x; first | (refine State.Sound.cut (q := Q) x ?_ (fun hx => ?_); (on_goal 1 => subst x)) | (refine State.Sound.cutPair (q := Q) x ?_ (fun hx => ?_); (on_goal 1 => subst x)) | skip) | (with_reducible first | assumption) | intro x hx | intro _ | lift_lets -underBinder | split | (fail_if_no_progress with_reducible apply State.Sound.upd) | (with_reducible apply PairSound.mk))

theorem State.burstDone_sound (id : Nat) (hs : State.Sound Q s) : State.Sound Q (State.burstDone s id) := by
  unfold State.burstDone
  repeat' (first | (intro x; first | (refine State.Sound.cut (q := Q) x ?_ (fun hx => ?_); (on_goal 1 => subst x)) | (refine State.Sound.cutPair (q := Q) x ?_ (fun hx => ?_); (on_goal 1 => subst x)) | skip) | (with_reducible first | assumption | apply State.grantAll_sound | apply State.matrixAge_sound | refine State.Sound.foldl _ (fun _ _ _ => ?_) ?_ | refine PairSound.foldl _ (fun _ _ _ => ?_) ?_) | intro x hx | intro _ | lift_lets -underBinder | split | (fail_if_no_progress with_reducible apply State.Sound.upd) | (with_reducible apply PairSound.mk) | (with_reducible refine PairSound.of (by assumption)) | (show State.Sound _ _; assumption))

theorem execMemcRequest_sound (n : Nat) (fails : List Nat) (hs : State.Sound Q s) : Out.Sound Q (execMemcRequest n fails s) := by
  unfold execMemcRequest
  repeat' (first | (intro x; first | (refine State.Sound.cut (q := Q) x ?_ (fun hx => ?_); (on_goal 1 => subst x)) | (refine State.Sound.cutPair (q := Q) x ?_ (fun hx => ?_); (on_goal 1 => subst x)) | skip) | (with_reducible first | assumption | apply State.burstDone_sound | apply State.memStore_sound | apply State.setMemc_sound | apply State.blocksServe_sound | apply State.blocksServe_pair | apply State.neighbours_sound | apply State.event_sound | apply Out.Sound.next) | intro x hx | intro _ | lift_lets -underBinder | split | (fail_if_no_progress with_reducible apply State.Sound.upd) | (with_reducible apply PairSound.mk) | clear_value * | (show State.Sound _ _; assumption))

theorem execMtxBurstRequest_sound (master : Nat) (addr : Nat) (len : Nat) (data : Option (List Byte)) (fence : Bool) (busy : Bool) (hs : State.Sound Q s) : Out.Sound Q (execMtxBurstRequest master addr len data fence busy s) := by
  unfold execMtxBurstRequest
  repeat' (first | (intro x; first | (refine State.Sound.cut (q := Q) x ?_ (fun hx => ?_); (on_goal 1 => subst x)) | (refine State.Sound.cutPair (q := Q) x ?_ (fun hx => ?_); (on_goal 1 => subst x)) | skip) | (with_reducible first | assumption | apply State.grantAll_sound | apply State.tookFree_sound | apply State.matrixAge_sound | apply State.decodeError_sound | apply Out.Sound.next) | intro x hx | intro _ | lift_lets -underBinder | split | (fail_if_no_progress with_reducible apply State.Sound.upd) | (with_reducible apply PairSound.mk) | (show State.Sound _ _; assumption))

theorem execAgeLimitExpiry_sound (id : Nat) (hs : State.Sound Q s) : Out.Sound Q (execAgeLimitExpiry id s) := by
  unfold execAgeLimitExpiry
  repeat' (first | (intro x; first | (refine State.Sound.cut (q := Q) x ?_ (fun hx => ?_); (on_goal 1 => subst x)) | (refine State.Sound.cutPair (q := Q) x ?_ (fun hx => ?_); (on_goal 1 => subst x)) | skip) | (with_reducible first | assumption | apply State.event_sound | apply Out.Sound.next) | intro x hx | intro _ | lift_lets -underBinder | split | (fail_if_no_progress with_reducible apply State.Sound.upd) | (with_reducible apply PairSound.mk) | (show State.Sound _ _; assumption))

theorem execFlitCrcFail_sound (master : Nat) (addr : Nat) (attempt : Nat) (hs : State.Sound Q s) : Out.Sound Q (execFlitCrcFail master addr attempt s) := by
  unfold execFlitCrcFail
  repeat' (first | (intro x; first | (refine State.Sound.cut (q := Q) x ?_ (fun hx => ?_); (on_goal 1 => subst x)) | (refine State.Sound.cutPair (q := Q) x ?_ (fun hx => ?_); (on_goal 1 => subst x)) | skip) | (with_reducible first | assumption | apply State.fatal_sound | apply State.matrixAge_sound | apply State.logEv_sound | apply State.mtxError_sound | apply State.tookFree_sound | apply State.raise_sound | apply State.err_sound | apply Out.Sound.next) | intro x hx | intro _ | lift_lets -underBinder | split | (fail_if_no_progress with_reducible apply State.Sound.upd) | (with_reducible apply PairSound.mk))

theorem State.wpWrite_sound (byLantern : Bool) (w : Nat) (r : Nat) (v : Word) (hs : State.Sound Q s) : State.Sound Q (State.wpWrite byLantern w r v s) := by
  unfold State.wpWrite
  repeat' (first | (intro x; first | (refine State.Sound.cut (q := Q) x ?_ (fun hx => ?_); (on_goal 1 => subst x)) | (refine State.Sound.cutPair (q := Q) x ?_ (fun hx => ?_); (on_goal 1 => subst x)) | skip) | (with_reducible first | assumption | apply State.setReg_sound | apply State.reason_sound) | intro x hx | intro _ | lift_lets -underBinder | split | (fail_if_no_progress with_reducible apply State.Sound.upd) | (with_reducible apply PairSound.mk) | clear_value *)

theorem execWpWrite_sound (byLantern : Bool) (w : Nat) (r : Nat) (v : Word) (hs : State.Sound Q s) : Out.Sound Q (execWpWrite byLantern w r v s) := by
  unfold execWpWrite
  repeat' (first | (intro x; first | (refine State.Sound.cut (q := Q) x ?_ (fun hx => ?_); (on_goal 1 => subst x)) | (refine State.Sound.cutPair (q := Q) x ?_ (fun hx => ?_); (on_goal 1 => subst x)) | skip) | (with_reducible first | assumption | apply State.onPage_sound | apply State.wpWrite_sound | apply Out.Sound.next) | intro x hx | intro _ | lift_lets -underBinder | split | (fail_if_no_progress with_reducible apply State.Sound.upd) | (with_reducible apply PairSound.mk))

end Sys2Proof.Machine
end

