-- ==== Sys2Proof/Laws/SoundDma.lean ====
section
/-! SUPPORT. Each operation of Machine/Dma.lean keeps the queue and the canonical form. -/

set_option linter.all false
namespace Sys2Proof.Machine

variable {Q : List Instr} {s : State}

theorem State.chkStrip_pair (p : Nat) (r : Nat) (role : Nat) (rec : List Byte) (hs : State.Sound Q s) : PairSound Q (State.chkStrip s p r role rec) := by
  unfold State.chkStrip
  repeat' (first | (intro x; first | (refine State.Sound.cut (q := Q) x ?_ (fun hx => ?_); (on_goal 1 => subst x)) | (refine State.Sound.cutPair (q := Q) x ?_ (fun hx => ?_); (on_goal 1 => subst x)) | skip) | (with_reducible first | assumption | apply State.put64_sound | apply State.err_sound | apply State.raise_sound | apply State.incFld_sound) | intro x hx | intro _ | lift_lets -underBinder | split | (fail_if_no_progress with_reducible apply State.Sound.upd) | (with_reducible apply PairSound.mk))

theorem State.chkStrip_sound (p : Nat) (r : Nat) (role : Nat) (rec : List Byte) (hs : State.Sound Q s) : State.Sound Q (State.chkStrip s p r role rec).1 :=
  State.chkStrip_pair p r role rec hs

theorem State.chkAppend_pair (p : Nat) (rec : List Byte) (hs : State.Sound Q s) : PairSound Q (State.chkAppend s p rec) := by
  unfold State.chkAppend
  repeat' (first | (intro x; first | (refine State.Sound.cut (q := Q) x ?_ (fun hx => ?_); (on_goal 1 => subst x)) | (refine State.Sound.cutPair (q := Q) x ?_ (fun hx => ?_); (on_goal 1 => subst x)) | skip) | (with_reducible first | assumption | apply State.incFld_sound) | intro x hx | intro _ | lift_lets -underBinder | split | (fail_if_no_progress with_reducible apply State.Sound.upd) | (with_reducible apply PairSound.mk))

theorem State.chkAppend_sound (p : Nat) (rec : List Byte) (hs : State.Sound Q s) : State.Sound Q (State.chkAppend s p rec).1 :=
  State.chkAppend_pair p rec hs

theorem State.setRing_sound (r : Nat) (q : RingState) (hs : State.Sound Q s) : State.Sound Q (State.setRing s r q) := by
  unfold State.setRing
  repeat' (first | (intro x; first | (refine State.Sound.cut (q := Q) x ?_ (fun hx => ?_); (on_goal 1 => subst x)) | (refine State.Sound.cutPair (q := Q) x ?_ (fun hx => ?_); (on_goal 1 => subst x)) | skip) | (with_reducible first | assumption) | intro x hx | intro _ | lift_lets -underBinder | split | (fail_if_no_progress with_reducible apply State.Sound.upd) | (with_reducible apply PairSound.mk))

theorem State.ringSignal_sound (r : Nat) (irq : Bool) (hs : State.Sound Q s) : State.Sound Q (State.ringSignal s r irq) := by
  unfold State.ringSignal
  repeat' (first | (intro x; first | (refine State.Sound.cut (q := Q) x ?_ (fun hx => ?_); (on_goal 1 => subst x)) | (refine State.Sound.cutPair (q := Q) x ?_ (fun hx => ?_); (on_goal 1 => subst x)) | skip) | (with_reducible first | assumption | apply State.raise_sound | apply State.setRing_sound) | intro x hx | intro _ | lift_lets -underBinder | split | (fail_if_no_progress with_reducible apply State.Sound.upd) | (with_reducible apply PairSound.mk))

theorem State.complete_sound (r : Nat) (i : Nat) (sop : Bool) (eop : Bool) (status : Nat) (len : Nat) (tag : Nat) (source : Nat) (irq : Bool) (hs : State.Sound Q s) : State.Sound Q (State.complete s r i sop eop status len tag source irq) := by
  unfold State.complete
  repeat' (first | (intro x; first | (refine State.Sound.cut (q := Q) x ?_ (fun hx => ?_); (on_goal 1 => subst x)) | (refine State.Sound.cutPair (q := Q) x ?_ (fun hx => ?_); (on_goal 1 => subst x)) | skip) | (with_reducible first | assumption | apply State.ringSignal_sound | apply State.put64L_sound | apply State.incFld_sound | apply State.hostStore_sound) | intro x hx | intro _ | lift_lets -underBinder | split | (fail_if_no_progress with_reducible apply State.Sound.upd) | (with_reducible apply PairSound.mk))

theorem execTailWrite_sound (r : Nat) (v : Word) (stores : List (Nat × List Byte)) (hs : State.Sound Q s) : Out.Sound Q (execTailWrite r v stores s) := by
  unfold execTailWrite
  repeat' (first | (intro x; first | (refine State.Sound.cut (q := Q) x ?_ (fun hx => ?_); (on_goal 1 => subst x)) | (refine State.Sound.cutPair (q := Q) x ?_ (fun hx => ?_); (on_goal 1 => subst x)) | skip) | (with_reducible first | assumption | apply State.setReg_sound | apply State.reason_sound | apply State.hostStore_sound | apply State.onPage_sound | apply Out.Sound.next | refine State.Sound.foldl _ (fun _ _ _ => ?_) ?_ | refine PairSound.foldl _ (fun _ _ _ => ?_) ?_) | intro x hx | intro _ | lift_lets -underBinder | split | (fail_if_no_progress with_reducible apply State.Sound.upd) | (with_reducible apply PairSound.mk) | (with_reducible refine PairSound.of (by assumption)))

theorem execDescriptorFetch_sound (r : Nat) (hostErr : Bool) (hs : State.Sound Q s) : Out.Sound Q (execDescriptorFetch r hostErr s) := by
  unfold execDescriptorFetch
  repeat' (first | (intro x; first | (refine State.Sound.cut (q := Q) x ?_ (fun hx => ?_); (on_goal 1 => subst x)) | (refine State.Sound.cutPair (q := Q) x ?_ (fun hx => ?_); (on_goal 1 => subst x)) | skip) | (with_reducible first | assumption | apply State.incFld_sound | apply State.setRing_sound | apply State.event_sound | apply Out.Sound.next) | intro x hx | intro _ | lift_lets -underBinder | split | (fail_if_no_progress with_reducible apply State.Sound.upd) | (with_reducible apply PairSound.mk))

theorem State.ringFence_sound (r : Nat) (n : Nat) (l : Nat) (hs : State.Sound Q s) : State.Sound Q (State.ringFence s r n l) := by
  unfold State.ringFence
  repeat' (first | (intro x; first | (refine State.Sound.cut (q := Q) x ?_ (fun hx => ?_); (on_goal 1 => subst x)) | (refine State.Sound.cutPair (q := Q) x ?_ (fun hx => ?_); (on_goal 1 => subst x)) | skip) | (with_reducible first | assumption | apply State.incFld_sound | apply State.err_sound) | intro x hx | intro _ | lift_lets -underBinder | split | (fail_if_no_progress with_reducible apply State.Sound.upd) | (with_reducible apply PairSound.mk))

theorem State.deliver_pair (r : Nat) (rec : List Byte) (guarded : Bool) (hs : State.Sound Q s) : PairSound Q (State.deliver s r rec guarded) := by
  unfold State.deliver
  repeat' (first | (intro x; first | (refine State.Sound.cut (q := Q) x ?_ (fun hx => ?_); (on_goal 1 => subst x)) | (refine State.Sound.cutPair (q := Q) x ?_ (fun hx => ?_); (on_goal 1 => subst x)) | skip) | (with_reducible first | assumption | apply State.setRing_sound | apply State.chkStrip_sound | apply State.chkStrip_pair) | intro x hx | intro _ | lift_lets -underBinder | split | (fail_if_no_progress with_reducible apply State.Sound.upd) | (with_reducible apply PairSound.mk) | clear_value *)

theorem State.deliver_sound (r : Nat) (rec : List Byte) (guarded : Bool) (hs : State.Sound Q s) : State.Sound Q (State.deliver s r rec guarded).1 :=
  State.deliver_pair r rec guarded hs

theorem execDmaDescComplete_sound (r : Nat) (hs : State.Sound Q s) : Out.Sound Q (execDmaDescComplete r s) := by
  unfold execDmaDescComplete
  dsimp only
  repeat' (first | (intro x; first | (refine State.Sound.cut (q := Q) x ?_ (fun hx => ?_); (on_goal 1 => subst x)) | (refine State.Sound.cutPair (q := Q) x ?_ (fun hx => ?_); (on_goal 1 => subst x)) | skip) | (with_reducible first | assumption | apply State.deliver_sound | apply State.deliver_pair | apply State.ringFence_sound | apply State.devWriteUnits_sound | apply State.devWriteUnits_pair | apply State.complete_sound | apply State.err_sound | apply State.raise_sound | apply State.setRing_sound | apply State.event_sound | apply Out.Sound.next) | intro x hx | intro _ | lift_lets -underBinder | split | (fail_if_no_progress with_reducible apply State.Sound.upd) | (with_reducible apply PairSound.mk) | clear_value *)

theorem State.fillBuffers_sound (r source : Nat) (first : Bool) (ds : List DmaDesc) (bs : List Byte) (h : State.Sound Q s) :
    State.Sound Q (State.fillBuffers s r source first ds bs) := by
  induction ds generalizing s first bs with
  | nil => exact h
  | cons d ds ih =>
    unfold State.fillBuffers
    repeat' (first | (with_reducible apply ih) | first | (intro x; first | (refine State.Sound.cut (q := Q) x ?_ (fun hx => ?_); (on_goal 1 => subst x)) | (refine State.Sound.cutPair (q := Q) x ?_ (fun hx => ?_); (on_goal 1 => subst x)) | skip) | (with_reducible first | assumption | apply State.hostStore_sound | apply State.complete_sound | apply State.err_sound | apply State.raise_sound | apply State.incFld_sound) | intro x hx | intro _ | lift_lets -underBinder | split | (fail_if_no_progress with_reducible apply State.Sound.upd) | (with_reducible apply PairSound.mk))

theorem State.offer_pair (r : Nat) (source : Nat) (rec : List Byte) (hs : State.Sound Q s) : PairSound Q (State.offer s r source rec) := by
  unfold State.offer
  repeat' (first | (intro x; first | (refine State.Sound.cut (q := Q) x ?_ (fun hx => ?_); (on_goal 1 => subst x)) | (refine State.Sound.cutPair (q := Q) x ?_ (fun hx => ?_); (on_goal 1 => subst x)) | skip) | (with_reducible first | assumption | apply State.err_sound | apply State.raise_sound | apply State.fillBuffers_sound | apply State.chkAppend_sound | apply State.chkAppend_pair) | intro x hx | intro _ | lift_lets -underBinder | split | (fail_if_no_progress with_reducible apply State.Sound.upd) | (with_reducible apply PairSound.mk) | clear_value *)

theorem State.offer_sound (r : Nat) (source : Nat) (rec : List Byte) (hs : State.Sound Q s) : State.Sound Q (State.offer s r source rec).1 :=
  State.offer_pair r source rec hs

theorem execRecordOffer_sound (r : Nat) (source : Nat) (rec : List Byte) (hs : State.Sound Q s) : Out.Sound Q (execRecordOffer r source rec s) := by
  unfold execRecordOffer
  repeat' (first | (intro x; first | (refine State.Sound.cut (q := Q) x ?_ (fun hx => ?_); (on_goal 1 => subst x)) | (refine State.Sound.cutPair (q := Q) x ?_ (fun hx => ?_); (on_goal 1 => subst x)) | skip) | (with_reducible first | assumption | apply State.offer_sound | apply State.offer_pair | apply State.event_sound | apply Out.Sound.next) | intro x hx | intro _ | lift_lets -underBinder | split | (fail_if_no_progress with_reducible apply State.Sound.upd) | (with_reducible apply PairSound.mk))

theorem execCoalTimeout_sound (r : Nat) (hs : State.Sound Q s) : Out.Sound Q (execCoalTimeout r s) := by
  unfold execCoalTimeout
  repeat' (first | (intro x; first | (refine State.Sound.cut (q := Q) x ?_ (fun hx => ?_); (on_goal 1 => subst x)) | (refine State.Sound.cutPair (q := Q) x ?_ (fun hx => ?_); (on_goal 1 => subst x)) | skip) | (with_reducible first | assumption | apply State.raise_sound | apply State.setRing_sound | apply State.event_sound | apply Out.Sound.next) | intro x hx | intro _ | lift_lets -underBinder | split | (fail_if_no_progress with_reducible apply State.Sound.upd) | (with_reducible apply PairSound.mk) | clear_value *)

theorem State.takeRecord_sound (r : Nat) (h : State.Sound Q s) (x : List Byte × State) (hx : s.takeRecord r = some x) :
    State.Sound Q x.2 := by
  unfold State.takeRecord at hx
  split at hx
  · cases hx
  · cases hx
    exact State.setRing_sound _ _ h

theorem State.takeRecord_some {r : Nat} {b : List Byte} {t : State} (h : State.Sound Q s) (hx : s.takeRecord r = some (b, t)) :
    State.Sound Q t := State.takeRecord_sound r h (b, t) hx

theorem State.ringOff_sound (r : Nat) (hs : State.Sound Q s) : State.Sound Q (State.ringOff s r) := by
  unfold State.ringOff
  repeat' (first | (intro x; first | (refine State.Sound.cut (q := Q) x ?_ (fun hx => ?_); (on_goal 1 => subst x)) | (refine State.Sound.cutPair (q := Q) x ?_ (fun hx => ?_); (on_goal 1 => subst x)) | skip) | (with_reducible first | assumption | apply State.setRing_sound | apply State.toOffValues_sound | apply State.setFld_sound | apply State.toState_sound | apply State.opEnd_sound) | intro x hx | intro _ | lift_lets -underBinder | split | (fail_if_no_progress with_reducible apply State.Sound.upd) | (with_reducible apply PairSound.mk))

theorem execBar2Access_sound (off : Nat) (len : Nat) (data : Option (List Byte)) (hs : State.Sound Q s) : Out.Sound Q (execBar2Access off len data s) := by
  unfold execBar2Access
  repeat' (first | (intro x; first | (refine State.Sound.cut (q := Q) x ?_ (fun hx => ?_); (on_goal 1 => subst x)) | (refine State.Sound.cutPair (q := Q) x ?_ (fun hx => ?_); (on_goal 1 => subst x)) | skip) | (with_reducible first | assumption | apply State.devRead_sound | apply State.devRead_pair | apply State.devWriteUnits_sound | apply State.devWriteUnits_pair | apply Out.Sound.next) | intro x hx | intro _ | lift_lets -underBinder | split | (fail_if_no_progress with_reducible apply State.Sound.upd) | (with_reducible apply PairSound.mk) | clear_value *)

theorem execApertureWrite_sound (hi : Bool) (v : Word) (hs : State.Sound Q s) : Out.Sound Q (execApertureWrite hi v s) := by
  unfold execApertureWrite
  repeat' (first | (intro x; first | (refine State.Sound.cut (q := Q) x ?_ (fun hx => ?_); (on_goal 1 => subst x)) | (refine State.Sound.cutPair (q := Q) x ?_ (fun hx => ?_); (on_goal 1 => subst x)) | skip) | (with_reducible first | assumption | apply State.reason_sound | apply State.setReg_sound | apply State.setFld_sound | apply State.onPage_sound | apply Out.Sound.next) | intro x hx | intro _ | lift_lets -underBinder | split | (fail_if_no_progress with_reducible apply State.Sound.upd) | (with_reducible apply PairSound.mk))

theorem execAerError_sound (correctable : Bool) (hs : State.Sound Q s) : Out.Sound Q (execAerError correctable s) := by
  unfold execAerError
  repeat' (first | (intro x; first | (refine State.Sound.cut (q := Q) x ?_ (fun hx => ?_); (on_goal 1 => subst x)) | (refine State.Sound.cutPair (q := Q) x ?_ (fun hx => ?_); (on_goal 1 => subst x)) | skip) | (with_reducible first | assumption | apply State.err_sound | apply State.raise_sound | apply Out.Sound.next) | intro x hx | intro _ | lift_lets -underBinder | split | (fail_if_no_progress with_reducible apply State.Sound.upd) | (with_reducible apply PairSound.mk))

end Sys2Proof.Machine
end

