-- ==== Sys2Proof/Laws/SoundIntc.lean ====
section
/-! SUPPORT. Each operation of Machine/Intc.lean keeps the queue and the canonical form. -/

set_option linter.all false
namespace Sys2Proof.Machine

variable {Q : List Instr} {s : State}

theorem State.srcTo_sound (n : Nat) (st : Nat) (hs : State.Sound Q s) : State.Sound Q (State.srcTo s n st) := by
  unfold State.srcTo
  repeat' (first | (intro x; first | (refine State.Sound.cut (q := Q) x ?_ (fun hx => ?_); (on_goal 1 => subst x)) | (refine State.Sound.cutPair (q := Q) x ?_ (fun hx => ?_); (on_goal 1 => subst x)) | skip) | (with_reducible first | assumption | apply State.setFld_sound) | intro x hx | intro _ | lift_lets -underBinder | split | (fail_if_no_progress with_reducible apply State.Sound.upd) | (with_reducible apply PairSound.mk))

theorem State.setStack_sound (t : Nat) (l : List (Nat × Nat)) (hs : State.Sound Q s) : State.Sound Q (State.setStack s t l) := by
  unfold State.setStack
  repeat' (first | (intro x; first | (refine State.Sound.cut (q := Q) x ?_ (fun hx => ?_); (on_goal 1 => subst x)) | (refine State.Sound.cutPair (q := Q) x ?_ (fun hx => ?_); (on_goal 1 => subst x)) | skip) | (with_reducible first | assumption | apply State.setFld_sound) | intro x hx | intro _ | lift_lets -underBinder | split | (fail_if_no_progress with_reducible apply State.Sound.upd) | (with_reducible apply PairSound.mk))

theorem State.msixWrite_sound (v : Nat) (err : Bool) (hs : State.Sound Q s) : State.Sound Q (State.msixWrite s v err) := by
  unfold State.msixWrite
  repeat' (first | (intro x; first | (refine State.Sound.cut (q := Q) x ?_ (fun hx => ?_); (on_goal 1 => subst x)) | (refine State.Sound.cutPair (q := Q) x ?_ (fun hx => ?_); (on_goal 1 => subst x)) | skip) | (with_reducible first | assumption | apply State.hostStore_sound | apply State.err_sound) | intro x hx | intro _ | lift_lets -underBinder | split | (fail_if_no_progress with_reducible apply State.Sound.upd) | (with_reducible apply PairSound.mk))

theorem State.raiseTarget_sound (t : Nat) (bad : List Nat) (hs : State.Sound Q s) : State.Sound Q (State.raiseTarget s t bad) := by
  unfold State.raiseTarget
  repeat' (first | (intro x; first | (refine State.Sound.cut (q := Q) x ?_ (fun hx => ?_); (on_goal 1 => subst x)) | (refine State.Sound.cutPair (q := Q) x ?_ (fun hx => ?_); (on_goal 1 => subst x)) | skip) | (with_reducible first | assumption | apply State.msixWrite_sound | apply State.setFld_sound) | intro x hx | intro _ | lift_lets -underBinder | split | (fail_if_no_progress with_reducible apply State.Sound.upd) | (with_reducible apply PairSound.mk))

theorem State.recheck_sound (n : Nat) (hs : State.Sound Q s) : State.Sound Q (State.recheck s n) := by
  unfold State.recheck
  repeat' (first | (intro x; first | (refine State.Sound.cut (q := Q) x ?_ (fun hx => ?_); (on_goal 1 => subst x)) | (refine State.Sound.cutPair (q := Q) x ?_ (fun hx => ?_); (on_goal 1 => subst x)) | skip) | (with_reducible first | assumption | apply State.srcTo_sound) | intro x hx | intro _ | lift_lets -underBinder | split | (fail_if_no_progress with_reducible apply State.Sound.upd) | (with_reducible apply PairSound.mk))

theorem State.routeOne_sound (bad : List Nat) (n : Nat) (hs : State.Sound Q s) : State.Sound Q (State.routeOne bad s n) := by
  unfold State.routeOne
  repeat' (first | (intro x; first | (refine State.Sound.cut (q := Q) x ?_ (fun hx => ?_); (on_goal 1 => subst x)) | (refine State.Sound.cutPair (q := Q) x ?_ (fun hx => ?_); (on_goal 1 => subst x)) | skip) | (with_reducible first | assumption | apply State.raiseTarget_sound | apply State.setFld_sound | apply State.srcTo_sound) | intro x hx | intro _ | lift_lets -underBinder | split | (fail_if_no_progress with_reducible apply State.Sound.upd) | (with_reducible apply PairSound.mk) | clear_value *)

theorem State.routeSome_sound (bad : List Nat) (n : Nat) (h : State.Sound Q s) : State.Sound Q (State.routeSome bad n s) := by
  induction n generalizing s with
  | zero => exact h
  | succ n ih =>
    unfold State.routeSome
    generalize State.urgent s _ = u
    cases u with
    | none => exact h
    | some m => exact ih (State.routeOne_sound bad m h)

theorem execIntcRoute_sound (bad : List Nat) (hs : State.Sound Q s) : Out.Sound Q (execIntcRoute bad s) := by
  unfold execIntcRoute
  repeat' (first | (intro x; first | (refine State.Sound.cut (q := Q) x ?_ (fun hx => ?_); (on_goal 1 => subst x)) | (refine State.Sound.cutPair (q := Q) x ?_ (fun hx => ?_); (on_goal 1 => subst x)) | skip) | (with_reducible first | assumption | apply State.routeSome_sound | apply State.raiseTarget_sound | apply State.event_sound | apply Out.Sound.next | refine State.Sound.foldl _ (fun _ _ _ => ?_) ?_ | refine PairSound.foldl _ (fun _ _ _ => ?_) ?_) | intro x hx | intro _ | lift_lets -underBinder | split | (fail_if_no_progress with_reducible apply State.Sound.upd) | (with_reducible apply PairSound.mk) | (with_reducible refine PairSound.of (by assumption)))

theorem execPageLineChange_sound (p : Nat) (hs : State.Sound Q s) : Out.Sound Q (execPageLineChange p s) := by
  unfold execPageLineChange
  repeat' (first | (intro x; first | (refine State.Sound.cut (q := Q) x ?_ (fun hx => ?_); (on_goal 1 => subst x)) | (refine State.Sound.cutPair (q := Q) x ?_ (fun hx => ?_); (on_goal 1 => subst x)) | skip) | (with_reducible first | assumption | apply State.srcTo_sound | apply State.setFld_sound | apply State.event_sound | apply Out.Sound.next) | intro x hx | intro _ | lift_lets -underBinder | split | (fail_if_no_progress with_reducible apply State.Sound.upd) | (with_reducible apply PairSound.mk))

theorem State.swReject_sound (hs : State.Sound Q s) : State.Sound Q (State.swReject s) := by
  unfold State.swReject
  repeat' (first | (intro x; first | (refine State.Sound.cut (q := Q) x ?_ (fun hx => ?_); (on_goal 1 => subst x)) | (refine State.Sound.cutPair (q := Q) x ?_ (fun hx => ?_); (on_goal 1 => subst x)) | skip) | (with_reducible first | assumption | apply State.raise_sound | apply State.reason_sound) | intro x hx | intro _ | lift_lets -underBinder | split | (fail_if_no_progress with_reducible apply State.Sound.upd) | (with_reducible apply PairSound.mk))

theorem State.swSet_sound (n : Nat) (hs : State.Sound Q s) : State.Sound Q (State.swSet n s) := by
  unfold State.swSet
  repeat' (first | (intro x; first | (refine State.Sound.cut (q := Q) x ?_ (fun hx => ?_); (on_goal 1 => subst x)) | (refine State.Sound.cutPair (q := Q) x ?_ (fun hx => ?_); (on_goal 1 => subst x)) | skip) | (with_reducible first | assumption | apply State.swReject_sound | apply State.srcTo_sound | apply State.setFld_sound) | intro x hx | intro _ | lift_lets -underBinder | split | (fail_if_no_progress with_reducible apply State.Sound.upd) | (with_reducible apply PairSound.mk))

theorem execSwSet_sound (n : Nat) (hs : State.Sound Q s) : Out.Sound Q (execSwSet n s) := by
  unfold execSwSet
  repeat' (first | (intro x; first | (refine State.Sound.cut (q := Q) x ?_ (fun hx => ?_); (on_goal 1 => subst x)) | (refine State.Sound.cutPair (q := Q) x ?_ (fun hx => ?_); (on_goal 1 => subst x)) | skip) | (with_reducible first | assumption | apply State.swSet_sound | apply State.onPage_sound | apply Out.Sound.next) | intro x hx | intro _ | lift_lets -underBinder | split | (fail_if_no_progress with_reducible apply State.Sound.upd) | (with_reducible apply PairSound.mk))

theorem State.swClr_sound (n : Nat) (hs : State.Sound Q s) : State.Sound Q (State.swClr n s) := by
  unfold State.swClr
  repeat' (first | (intro x; first | (refine State.Sound.cut (q := Q) x ?_ (fun hx => ?_); (on_goal 1 => subst x)) | (refine State.Sound.cutPair (q := Q) x ?_ (fun hx => ?_); (on_goal 1 => subst x)) | skip) | (with_reducible first | assumption | apply State.swReject_sound | apply State.srcTo_sound | apply State.setFld_sound) | intro x hx | intro _ | lift_lets -underBinder | split | (fail_if_no_progress with_reducible apply State.Sound.upd) | (with_reducible apply PairSound.mk))

theorem execSwClr_sound (n : Nat) (hs : State.Sound Q s) : Out.Sound Q (execSwClr n s) := by
  unfold execSwClr
  repeat' (first | (intro x; first | (refine State.Sound.cut (q := Q) x ?_ (fun hx => ?_); (on_goal 1 => subst x)) | (refine State.Sound.cutPair (q := Q) x ?_ (fun hx => ?_); (on_goal 1 => subst x)) | skip) | (with_reducible first | assumption | apply State.swClr_sound | apply State.onPage_sound | apply Out.Sound.next) | intro x hx | intro _ | lift_lets -underBinder | split | (fail_if_no_progress with_reducible apply State.Sound.upd) | (with_reducible apply PairSound.mk))

theorem State.srcCtrlWrite_sound (n : Nat) (v : Word) (hs : State.Sound Q s) : State.Sound Q (State.srcCtrlWrite n v s) := by
  unfold State.srcCtrlWrite
  repeat' (first | (intro x; first | (refine State.Sound.cut (q := Q) x ?_ (fun hx => ?_); (on_goal 1 => subst x)) | (refine State.Sound.cutPair (q := Q) x ?_ (fun hx => ?_); (on_goal 1 => subst x)) | skip) | (with_reducible first | assumption | apply State.srcTo_sound | apply State.setFld_sound) | intro x hx | intro _ | lift_lets -underBinder | split | (fail_if_no_progress with_reducible apply State.Sound.upd) | (with_reducible apply PairSound.mk))

theorem State.tmaskWrite_sound (n : Nat) (k : Nat) (v : Word) (hs : State.Sound Q s) : State.Sound Q (State.tmaskWrite n k v s) := by
  unfold State.tmaskWrite
  repeat' (first | (intro x; first | (refine State.Sound.cut (q := Q) x ?_ (fun hx => ?_); (on_goal 1 => subst x)) | (refine State.Sound.cutPair (q := Q) x ?_ (fun hx => ?_); (on_goal 1 => subst x)) | skip) | (with_reducible first | assumption | apply State.recheck_sound | apply State.setFld_sound) | intro x hx | intro _ | lift_lets -underBinder | split | (fail_if_no_progress with_reducible apply State.Sound.upd) | (with_reducible apply PairSound.mk))

theorem State.tgtCtrlWrite_sound (t : Nat) (v : Word) (hs : State.Sound Q s) : State.Sound Q (State.tgtCtrlWrite t v s) := by
  unfold State.tgtCtrlWrite
  repeat' (first | (intro x; first | (refine State.Sound.cut (q := Q) x ?_ (fun hx => ?_); (on_goal 1 => subst x)) | (refine State.Sound.cutPair (q := Q) x ?_ (fun hx => ?_); (on_goal 1 => subst x)) | skip) | (with_reducible first | assumption | apply State.recheck_sound | apply State.setFld_sound | refine State.Sound.foldl _ (fun _ _ _ => ?_) ?_ | refine PairSound.foldl _ (fun _ _ _ => ?_) ?_) | intro x hx | intro _ | lift_lets -underBinder | split | (fail_if_no_progress with_reducible apply State.Sound.upd) | (with_reducible apply PairSound.mk) | (with_reducible refine PairSound.of (by assumption)))

theorem State.intcCtrlWrite_sound (n : Nat) (r : Nat) (v : Word) (hs : State.Sound Q s) : State.Sound Q (State.intcCtrlWrite n r v s) := by
  unfold State.intcCtrlWrite
  repeat' (first | (intro x; first | (refine State.Sound.cut (q := Q) x ?_ (fun hx => ?_); (on_goal 1 => subst x)) | (refine State.Sound.cutPair (q := Q) x ?_ (fun hx => ?_); (on_goal 1 => subst x)) | skip) | (with_reducible first | assumption | apply State.tmaskWrite_sound | apply State.srcCtrlWrite_sound | apply State.tgtCtrlWrite_sound) | intro x hx | intro _ | lift_lets -underBinder | split | (fail_if_no_progress with_reducible apply State.Sound.upd) | (with_reducible apply PairSound.mk))

theorem execSrcCtrlWrite_sound (n : Nat) (r : Nat) (v : Word) (hs : State.Sound Q s) : Out.Sound Q (execSrcCtrlWrite n r v s) := by
  unfold execSrcCtrlWrite
  repeat' (first | (intro x; first | (refine State.Sound.cut (q := Q) x ?_ (fun hx => ?_); (on_goal 1 => subst x)) | (refine State.Sound.cutPair (q := Q) x ?_ (fun hx => ?_); (on_goal 1 => subst x)) | skip) | (with_reducible first | assumption | apply State.intcCtrlWrite_sound | apply State.onPage_sound | apply Out.Sound.next) | intro x hx | intro _ | lift_lets -underBinder | split | (fail_if_no_progress with_reducible apply State.Sound.upd) | (with_reducible apply PairSound.mk))

theorem State.claimRead_pair (t : Nat) (hs : State.Sound Q s) : PairSound Q (State.claimRead s t) := by
  unfold State.claimRead
  repeat' (first | (intro x; first | (refine State.Sound.cut (q := Q) x ?_ (fun hx => ?_); (on_goal 1 => subst x)) | (refine State.Sound.cutPair (q := Q) x ?_ (fun hx => ?_); (on_goal 1 => subst x)) | skip) | (with_reducible first | assumption | apply State.recheck_sound | apply State.setStack_sound | apply State.srcTo_sound | apply State.setFld_sound | refine State.Sound.foldl _ (fun _ _ _ => ?_) ?_ | refine PairSound.foldl _ (fun _ _ _ => ?_) ?_) | intro x hx | intro _ | lift_lets -underBinder | split | (fail_if_no_progress with_reducible apply State.Sound.upd) | (with_reducible apply PairSound.mk) | clear_value * | (with_reducible refine PairSound.of (by assumption)))

theorem State.claimRead_sound (t : Nat) (hs : State.Sound Q s) : State.Sound Q (State.claimRead s t).1 :=
  State.claimRead_pair t hs

theorem execClaimRead_sound (t : Nat) (hs : State.Sound Q s) : Out.Sound Q (execClaimRead t s) := by
  unfold execClaimRead
  repeat' (first | (intro x; first | (refine State.Sound.cut (q := Q) x ?_ (fun hx => ?_); (on_goal 1 => subst x)) | (refine State.Sound.cutPair (q := Q) x ?_ (fun hx => ?_); (on_goal 1 => subst x)) | skip) | (with_reducible first | assumption | apply State.claimRead_sound | apply State.claimRead_pair | apply Out.Sound.next) | intro x hx | intro _ | lift_lets -underBinder | split | (fail_if_no_progress with_reducible apply State.Sound.upd) | (with_reducible apply PairSound.mk))

theorem State.resample_sound (n : Nat) (hs : State.Sound Q s) : State.Sound Q (State.resample s n) := by
  unfold State.resample
  repeat' (first | (intro x; first | (refine State.Sound.cut (q := Q) x ?_ (fun hx => ?_); (on_goal 1 => subst x)) | (refine State.Sound.cutPair (q := Q) x ?_ (fun hx => ?_); (on_goal 1 => subst x)) | skip) | (with_reducible first | assumption | apply State.srcTo_sound) | intro x hx | intro _ | lift_lets -underBinder | split | (fail_if_no_progress with_reducible apply State.Sound.upd) | (with_reducible apply PairSound.mk))

theorem State.eoi_sound (t : Nat) (n : Nat) (hs : State.Sound Q s) : State.Sound Q (State.eoi t n s) := by
  unfold State.eoi
  repeat' (first | (intro x; first | (refine State.Sound.cut (q := Q) x ?_ (fun hx => ?_); (on_goal 1 => subst x)) | (refine State.Sound.cutPair (q := Q) x ?_ (fun hx => ?_); (on_goal 1 => subst x)) | skip) | (with_reducible first | assumption | apply State.resample_sound | apply State.setStack_sound | apply State.err_sound | apply State.raise_sound) | intro x hx | intro _ | lift_lets -underBinder | split | (fail_if_no_progress with_reducible apply State.Sound.upd) | (with_reducible apply PairSound.mk) | clear_value *)

theorem execEoi_sound (t : Nat) (n : Nat) (hs : State.Sound Q s) : Out.Sound Q (execEoi t n s) := by
  unfold execEoi
  repeat' (first | (intro x; first | (refine State.Sound.cut (q := Q) x ?_ (fun hx => ?_); (on_goal 1 => subst x)) | (refine State.Sound.cutPair (q := Q) x ?_ (fun hx => ?_); (on_goal 1 => subst x)) | skip) | (with_reducible first | assumption | apply State.eoi_sound | apply Out.Sound.next) | intro x hx | intro _ | lift_lets -underBinder | split | (fail_if_no_progress with_reducible apply State.Sound.upd) | (with_reducible apply PairSound.mk))

theorem State.msixLaunch_sound (v : Nat) (err : Bool) (hs : State.Sound Q s) : State.Sound Q (State.msixLaunch v err s) := by
  unfold State.msixLaunch
  repeat' (first | (intro x; first | (refine State.Sound.cut (q := Q) x ?_ (fun hx => ?_); (on_goal 1 => subst x)) | (refine State.Sound.cutPair (q := Q) x ?_ (fun hx => ?_); (on_goal 1 => subst x)) | skip) | (with_reducible first | assumption | apply State.err_sound | apply State.raiseTarget_sound | apply State.setFld_sound) | intro x hx | intro _ | lift_lets -underBinder | split | (fail_if_no_progress with_reducible apply State.Sound.upd) | (with_reducible apply PairSound.mk))

theorem State.msixUnmask_sound (v : Nat) (err : Bool) (hs : State.Sound Q s) : State.Sound Q (State.msixUnmask v err s) := by
  unfold State.msixUnmask
  repeat' (first | (intro x; first | (refine State.Sound.cut (q := Q) x ?_ (fun hx => ?_); (on_goal 1 => subst x)) | (refine State.Sound.cutPair (q := Q) x ?_ (fun hx => ?_); (on_goal 1 => subst x)) | skip) | (with_reducible first | assumption | apply State.err_sound | apply State.msixLaunch_sound | apply State.setFld_sound) | intro x hx | intro _ | lift_lets -underBinder | split | (fail_if_no_progress with_reducible apply State.Sound.upd) | (with_reducible apply PairSound.mk))

theorem execMsixUnmask_sound (v : Nat) (err : Bool) (hs : State.Sound Q s) : Out.Sound Q (execMsixUnmask v err s) := by
  unfold execMsixUnmask
  repeat' (first | (intro x; first | (refine State.Sound.cut (q := Q) x ?_ (fun hx => ?_); (on_goal 1 => subst x)) | (refine State.Sound.cutPair (q := Q) x ?_ (fun hx => ?_); (on_goal 1 => subst x)) | skip) | (with_reducible first | assumption | apply State.err_sound | apply State.msixUnmask_sound | apply State.onPage_sound | apply Out.Sound.next) | intro x hx | intro _ | lift_lets -underBinder | split | (fail_if_no_progress with_reducible apply State.Sound.upd) | (with_reducible apply PairSound.mk))

end Sys2Proof.Machine
end

