-- ==== Sys2Proof/Laws/SoundHostLink.lean ====
section
/-! SUPPORT. Each operation of Machine/HostLink.lean keeps the queue and the canonical form. -/

set_option linter.all false
namespace Sys2Proof.Machine

variable {Q : List Instr} {s : State}

theorem State.hostLaneTrain_sound (i : Nat) (hs : State.Sound Q s) : State.Sound Q (State.hostLaneTrain s i) := by
  unfold State.hostLaneTrain
  repeat' (first | (intro x; first | (refine State.Sound.cut (q := Q) x ?_ (fun hx => ?_); (on_goal 1 => subst x)) | (refine State.Sound.cutPair (q := Q) x ?_ (fun hx => ?_); (on_goal 1 => subst x)) | skip) | (with_reducible first | assumption | apply State.laneTrain_sound | apply State.laneRetrain_sound | apply State.laneAcquire_sound) | intro x hx | intro _ | lift_lets -underBinder | split | (fail_if_no_progress with_reducible apply State.Sound.upd) | (with_reducible apply PairSound.mk))

theorem State.hostTrains_sound (hs : State.Sound Q s) : State.Sound Q (State.hostTrains s) := by
  unfold State.hostTrains
  repeat' (first | (intro x; first | (refine State.Sound.cut (q := Q) x ?_ (fun hx => ?_); (on_goal 1 => subst x)) | (refine State.Sound.cutPair (q := Q) x ?_ (fun hx => ?_); (on_goal 1 => subst x)) | skip) | (with_reducible first | assumption | apply State.hostLaneTrain_sound | refine State.Sound.foldl _ (fun _ _ _ => ?_) ?_ | refine PairSound.foldl _ (fun _ _ _ => ?_) ?_) | intro x hx | intro _ | lift_lets -underBinder | split | (fail_if_no_progress with_reducible apply State.Sound.upd) | (with_reducible apply PairSound.mk) | (with_reducible refine PairSound.of (by assumption)))

theorem execPcieLinkDown_sound (hs : State.Sound Q s) : Out.Sound Q (execPcieLinkDown s) := by
  unfold execPcieLinkDown
  repeat' (first | (intro x; first | (refine State.Sound.cut (q := Q) x ?_ (fun hx => ?_); (on_goal 1 => subst x)) | (refine State.Sound.cutPair (q := Q) x ?_ (fun hx => ?_); (on_goal 1 => subst x)) | skip) | (with_reducible first | assumption | apply State.logEv_sound | apply State.err_sound | apply State.raise_sound | apply State.hostTrains_sound | apply State.setFld_sound | apply State.clearRegs_sound | apply State.ringOff_sound | apply Out.Sound.next | refine State.Sound.foldl _ (fun _ _ _ => ?_) ?_ | refine PairSound.foldl _ (fun _ _ _ => ?_) ?_) | intro x hx | intro _ | lift_lets -underBinder | split | (fail_if_no_progress with_reducible apply State.Sound.upd) | (with_reducible apply PairSound.mk) | (with_reducible refine PairSound.of (by assumption)))

theorem execHostRetrain_sound (hs : State.Sound Q s) : Out.Sound Q (execHostRetrain s) := by
  unfold execHostRetrain
  repeat' (first | (intro x; first | (refine State.Sound.cut (q := Q) x ?_ (fun hx => ?_); (on_goal 1 => subst x)) | (refine State.Sound.cutPair (q := Q) x ?_ (fun hx => ?_); (on_goal 1 => subst x)) | skip) | (with_reducible first | assumption | apply State.hostTrains_sound | apply State.setFld_sound | apply State.refuse_sound | apply State.onPage_sound | apply Out.Sound.next) | intro x hx | intro _ | lift_lets -underBinder | split | (fail_if_no_progress with_reducible apply State.Sound.upd) | (with_reducible apply PairSound.mk))

theorem State.hostLaneLost_sound (hs : State.Sound Q s) : State.Sound Q (State.hostLaneLost s) := by
  unfold State.hostLaneLost
  repeat' (first | (intro x; first | (refine State.Sound.cut (q := Q) x ?_ (fun hx => ?_); (on_goal 1 => subst x)) | (refine State.Sound.cutPair (q := Q) x ?_ (fun hx => ?_); (on_goal 1 => subst x)) | skip) | (with_reducible first | assumption | apply State.hostTrains_sound | apply State.setFld_sound) | intro x hx | intro _ | lift_lets -underBinder | split | (fail_if_no_progress with_reducible apply State.Sound.upd) | (with_reducible apply PairSound.mk))

theorem State.hostLaneTrained_sound (w : Nat) (lanes : Nat) (i : Nat) (hs : State.Sound Q s) : State.Sound Q (State.hostLaneTrained s w lanes i) := by
  unfold State.hostLaneTrained
  repeat' (first | (intro x; first | (refine State.Sound.cut (q := Q) x ?_ (fun hx => ?_); (on_goal 1 => subst x)) | (refine State.Sound.cutPair (q := Q) x ?_ (fun hx => ?_); (on_goal 1 => subst x)) | skip) | (with_reducible first | assumption | apply State.laneTo_sound | apply State.laneTrainFailed_sound | apply State.laneTrained_sound | apply State.ffeTrained_sound) | intro x hx | intro _ | lift_lets -underBinder | split | (fail_if_no_progress with_reducible apply State.Sound.upd) | (with_reducible apply PairSound.mk))

theorem State.hostLinkAt_sound (w : Nat) (speed : Nat) (hs : State.Sound Q s) : State.Sound Q (State.hostLinkAt s w speed) := by
  unfold State.hostLinkAt
  repeat' (first | (intro x; first | (refine State.Sound.cut (q := Q) x ?_ (fun hx => ?_); (on_goal 1 => subst x)) | (refine State.Sound.cutPair (q := Q) x ?_ (fun hx => ?_); (on_goal 1 => subst x)) | skip) | (with_reducible first | assumption | apply State.err_sound | apply State.raise_sound | apply State.msixLaunch_sound | apply State.setFld_sound | refine State.Sound.foldl _ (fun _ _ _ => ?_) ?_ | refine PairSound.foldl _ (fun _ _ _ => ?_) ?_) | intro x hx | intro _ | lift_lets -underBinder | split | (fail_if_no_progress with_reducible apply State.Sound.upd) | (with_reducible apply PairSound.mk) | (with_reducible refine PairSound.of (by assumption)))

theorem execPcieLinkTrained_sound (lanes : Nat) (speed : Nat) (hs : State.Sound Q s) : Out.Sound Q (execPcieLinkTrained lanes speed s) := by
  unfold execPcieLinkTrained
  repeat' (first | (intro x; first | (refine State.Sound.cut (q := Q) x ?_ (fun hx => ?_); (on_goal 1 => subst x)) | (refine State.Sound.cutPair (q := Q) x ?_ (fun hx => ?_); (on_goal 1 => subst x)) | skip) | (with_reducible first | assumption | apply State.hostLinkAt_sound | apply State.setFld_sound | apply State.hostLaneTrained_sound | apply State.event_sound | apply Out.Sound.next | refine State.Sound.foldl _ (fun _ _ _ => ?_) ?_ | refine PairSound.foldl _ (fun _ _ _ => ?_) ?_) | intro x hx | intro _ | lift_lets -underBinder | split | (fail_if_no_progress with_reducible apply State.Sound.upd) | (with_reducible apply PairSound.mk) | (with_reducible refine PairSound.of (by assumption)))

end Sys2Proof.Machine
end

