-- ==== Sys2Proof/Laws/SoundTask.lean ====
section
/-! SUPPORT. Each operation of Machine/Task.lean keeps the queue and the canonical form. -/

set_option linter.all false
namespace Sys2Proof.Machine

variable {Q : List Instr} {s : State}

theorem State.setThread_sound (id : Nat) (t : Thread) (hs : State.Sound Q s) : State.Sound Q (State.setThread s id t) := by
  unfold State.setThread
  repeat' (first | (intro x; first | (refine State.Sound.cut (q := Q) x ?_ (fun hx => ?_); (on_goal 1 => subst x)) | (refine State.Sound.cutPair (q := Q) x ?_ (fun hx => ?_); (on_goal 1 => subst x)) | skip) | (with_reducible first | assumption) | intro x hx | intro _ | lift_lets -underBinder | split | (fail_if_no_progress with_reducible apply State.Sound.upd) | (with_reducible apply PairSound.mk) | (show State.Sound _ _; assumption))

theorem State.nextSeq_sound (hs : State.Sound Q s) : State.Sound Q (State.nextSeq s) := by
  unfold State.nextSeq
  repeat' (first | (intro x; first | (refine State.Sound.cut (q := Q) x ?_ (fun hx => ?_); (on_goal 1 => subst x)) | (refine State.Sound.cutPair (q := Q) x ?_ (fun hx => ?_); (on_goal 1 => subst x)) | skip) | (with_reducible first | assumption) | intro x hx | intro _ | lift_lets -underBinder | split | (fail_if_no_progress with_reducible apply State.Sound.upd) | (with_reducible apply PairSound.mk))

theorem State.taskShow_sound (hs : State.Sound Q s) : State.Sound Q (State.taskShow s) := by
  unfold State.taskShow
  repeat' (first | (intro x; first | (refine State.Sound.cut (q := Q) x ?_ (fun hx => ?_); (on_goal 1 => subst x)) | (refine State.Sound.cutPair (q := Q) x ?_ (fun hx => ?_); (on_goal 1 => subst x)) | skip) | (with_reducible first | assumption | apply State.rawTo_sound | apply State.setFld_sound | refine State.Sound.foldl _ (fun _ _ _ => ?_) ?_ | refine PairSound.foldl _ (fun _ _ _ => ?_) ?_) | intro x hx | intro _ | lift_lets -underBinder | split | (fail_if_no_progress with_reducible apply State.Sound.upd) | (with_reducible apply PairSound.mk) | clear_value * | (with_reducible refine PairSound.of (by assumption)))

theorem State.evict_sound (id : Nat) (hs : State.Sound Q s) : State.Sound Q (State.evict s id) := by
  unfold State.evict
  repeat' (first | (intro x; first | (refine State.Sound.cut (q := Q) x ?_ (fun hx => ?_); (on_goal 1 => subst x)) | (refine State.Sound.cutPair (q := Q) x ?_ (fun hx => ?_); (on_goal 1 => subst x)) | skip) | (with_reducible first | assumption | apply State.err_sound | apply State.setThread_sound | apply State.raise_sound) | intro x hx | intro _ | lift_lets -underBinder | split | (fail_if_no_progress with_reducible apply State.Sound.upd) | (with_reducible apply PairSound.mk) | (show State.Sound _ _; assumption))

theorem State.enterLists_sound (id : Nat) (t : Thread) (hs : State.Sound Q s) : State.Sound Q (State.enterLists s id t) := by
  unfold State.enterLists
  repeat' (first | (intro x; first | (refine State.Sound.cut (q := Q) x ?_ (fun hx => ?_); (on_goal 1 => subst x)) | (refine State.Sound.cutPair (q := Q) x ?_ (fun hx => ?_); (on_goal 1 => subst x)) | skip) | (with_reducible first | assumption | apply State.evict_sound | apply State.nextSeq_sound | apply State.setThread_sound) | intro x hx | intro _ | lift_lets -underBinder | split | (fail_if_no_progress with_reducible apply State.Sound.upd) | (with_reducible apply PairSound.mk) | clear_value * | (show State.Sound _ _; assumption))

theorem State.dispatch_sound (n : Nat) (h : State.Sound Q s) : State.Sound Q (State.dispatch n s) := by
  induction n generalizing s with
  | zero => exact h
  | succ n ih =>
    unfold State.dispatch
    repeat' (first | (with_reducible apply ih) | first | (intro x; first | (refine State.Sound.cut (q := Q) x ?_ (fun hx => ?_); (on_goal 1 => subst x)) | (refine State.Sound.cutPair (q := Q) x ?_ (fun hx => ?_); (on_goal 1 => subst x)) | skip) | (with_reducible first | assumption | apply State.enterLists_sound | apply State.setThread_sound | apply State.tookFree_sound) | intro x hx | intro _ | lift_lets -underBinder | split | (fail_if_no_progress with_reducible apply State.Sound.upd) | (with_reducible apply PairSound.mk) | clear_value *)

theorem State.taskRun_sound (hs : State.Sound Q s) : State.Sound Q (State.taskRun s) := by
  unfold State.taskRun
  repeat' (first | (intro x; first | (refine State.Sound.cut (q := Q) x ?_ (fun hx => ?_); (on_goal 1 => subst x)) | (refine State.Sound.cutPair (q := Q) x ?_ (fun hx => ?_); (on_goal 1 => subst x)) | skip) | (with_reducible first | assumption | apply State.taskShow_sound | apply State.dispatch_sound) | intro x hx | intro _ | lift_lets -underBinder | split | (fail_if_no_progress with_reducible apply State.Sound.upd) | (with_reducible apply PairSound.mk))

theorem State.endWait_sound (id : Nat) (outcome : Nat) (hs : State.Sound Q s) : State.Sound Q (State.endWait s id outcome) := by
  unfold State.endWait
  repeat' (first | (intro x; first | (refine State.Sound.cut (q := Q) x ?_ (fun hx => ?_); (on_goal 1 => subst x)) | (refine State.Sound.cutPair (q := Q) x ?_ (fun hx => ?_); (on_goal 1 => subst x)) | skip) | (with_reducible first | assumption | apply State.nextSeq_sound | apply State.setThread_sound) | intro x hx | intro _ | lift_lets -underBinder | split | (fail_if_no_progress with_reducible apply State.Sound.upd) | (with_reducible apply PairSound.mk) | (show State.Sound _ _; assumption))

theorem State.expireWaits_sound (hs : State.Sound Q s) : State.Sound Q (State.expireWaits s) := by
  unfold State.expireWaits
  repeat' (first | (intro x; first | (refine State.Sound.cut (q := Q) x ?_ (fun hx => ?_); (on_goal 1 => subst x)) | (refine State.Sound.cutPair (q := Q) x ?_ (fun hx => ?_); (on_goal 1 => subst x)) | skip) | (with_reducible first | assumption | apply State.endWait_sound | refine State.Sound.foldl _ (fun _ _ _ => ?_) ?_ | refine PairSound.foldl _ (fun _ _ _ => ?_) ?_) | intro x hx | intro _ | lift_lets -underBinder | split | (fail_if_no_progress with_reducible apply State.Sound.upd) | (with_reducible apply PairSound.mk) | (with_reducible refine PairSound.of (by assumption)))

theorem State.timers_sound (hs : State.Sound Q s) : State.Sound Q (State.timers s) := by
  unfold State.timers
  repeat' (first | (intro x; first | (refine State.Sound.cut (q := Q) x ?_ (fun hx => ?_); (on_goal 1 => subst x)) | (refine State.Sound.cutPair (q := Q) x ?_ (fun hx => ?_); (on_goal 1 => subst x)) | skip) | (with_reducible first | assumption | apply State.newTarget_sound | apply State.put64_sound | apply State.setCmp_sound | apply State.setFld_sound | apply State.expireWaits_sound) | intro x hx | intro _ | lift_lets -underBinder | split | (fail_if_no_progress with_reducible apply State.Sound.upd) | (with_reducible apply PairSound.mk) | clear_value *)

theorem State.beginWait_sound (id : Nat) (kind : Nat) (flow : Nat) (deadline : Option Nat) (hs : State.Sound Q s) : State.Sound Q (State.beginWait s id kind flow deadline) := by
  unfold State.beginWait
  repeat' (first | (intro x; first | (refine State.Sound.cut (q := Q) x ?_ (fun hx => ?_); (on_goal 1 => subst x)) | (refine State.Sound.cutPair (q := Q) x ?_ (fun hx => ?_); (on_goal 1 => subst x)) | skip) | (with_reducible first | assumption | apply State.enterLists_sound) | intro x hx | intro _ | lift_lets -underBinder | split | (fail_if_no_progress with_reducible apply State.Sound.upd) | (with_reducible apply PairSound.mk) | (show State.Sound _ _; assumption))

theorem State.taskTimeStop_sound (hs : State.Sound Q s) : State.Sound Q (State.taskTimeStop s) := by
  unfold State.taskTimeStop
  repeat' (first | (intro x; first | (refine State.Sound.cut (q := Q) x ?_ (fun hx => ?_); (on_goal 1 => subst x)) | (refine State.Sound.cutPair (q := Q) x ?_ (fun hx => ?_); (on_goal 1 => subst x)) | skip) | (with_reducible first | assumption | apply State.setThread_sound | refine State.Sound.foldl _ (fun _ _ _ => ?_) ?_ | refine PairSound.foldl _ (fun _ _ _ => ?_) ?_) | intro x hx | intro _ | lift_lets -underBinder | split | (fail_if_no_progress with_reducible apply State.Sound.upd) | (with_reducible apply PairSound.mk) | (with_reducible refine PairSound.of (by assumption)))

theorem State.setFlow_sound (f : Nat) (x : FlowState) (hs : State.Sound Q s) : State.Sound Q (State.setFlow s f x) := by
  unfold State.setFlow
  repeat' (first | (intro x; first | (refine State.Sound.cut (q := Q) x ?_ (fun hx => ?_); (on_goal 1 => subst x)) | (refine State.Sound.cutPair (q := Q) x ?_ (fun hx => ?_); (on_goal 1 => subst x)) | skip) | (with_reducible first | assumption) | intro x hx | intro _ | lift_lets -underBinder | split | (fail_if_no_progress with_reducible apply State.Sound.upd) | (with_reducible apply PairSound.mk))

theorem State.serveFlow_sound (f : Nat) (hs : State.Sound Q s) : State.Sound Q (State.serveFlow s f) := by
  unfold State.serveFlow
  repeat' (first | (intro x; first | (refine State.Sound.cut (q := Q) x ?_ (fun hx => ?_); (on_goal 1 => subst x)) | (refine State.Sound.cutPair (q := Q) x ?_ (fun hx => ?_); (on_goal 1 => subst x)) | skip) | (with_reducible first | assumption | apply State.endWait_sound | apply State.setFlow_sound) | intro x hx | intro _ | lift_lets -underBinder | split | (fail_if_no_progress with_reducible apply State.Sound.upd) | (with_reducible apply PairSound.mk) | clear_value *)

theorem execThreadReady_sound (id : Nat) (hs : State.Sound Q s) : Out.Sound Q (execThreadReady id s) := by
  unfold execThreadReady
  repeat' (first | (intro x; first | (refine State.Sound.cut (q := Q) x ?_ (fun hx => ?_); (on_goal 1 => subst x)) | (refine State.Sound.cutPair (q := Q) x ?_ (fun hx => ?_); (on_goal 1 => subst x)) | skip) | (with_reducible first | assumption | apply State.setThread_sound | apply State.taskRun_sound | apply State.timers_sound | apply State.endWait_sound | apply State.event_sound | apply Out.Sound.next) | intro x hx | intro _ | lift_lets -underBinder | split | (fail_if_no_progress with_reducible apply State.Sound.upd) | (with_reducible apply PairSound.mk) | (show State.Sound _ _; assumption))

theorem execThreadCreate_sound (id : Nat) (prio : Nat) (hs : State.Sound Q s) : Out.Sound Q (execThreadCreate id prio s) := by
  unfold execThreadCreate
  repeat' (first | (intro x; first | (refine State.Sound.cut (q := Q) x ?_ (fun hx => ?_); (on_goal 1 => subst x)) | (refine State.Sound.cutPair (q := Q) x ?_ (fun hx => ?_); (on_goal 1 => subst x)) | skip) | (with_reducible first | assumption | apply State.taskRun_sound | apply State.enterLists_sound | apply State.raise_sound | apply State.err_sound | apply State.refuse_sound | apply State.event_sound | apply Out.Sound.next) | intro x hx | intro _ | lift_lets -underBinder | split | (fail_if_no_progress with_reducible apply State.Sound.upd) | (with_reducible apply PairSound.mk) | (show State.Sound _ _; assumption))

theorem execFlowPost_sound (f : Nat) (hs : State.Sound Q s) : Out.Sound Q (execFlowPost f s) := by
  unfold execFlowPost
  repeat' (first | (intro x; first | (refine State.Sound.cut (q := Q) x ?_ (fun hx => ?_); (on_goal 1 => subst x)) | (refine State.Sound.cutPair (q := Q) x ?_ (fun hx => ?_); (on_goal 1 => subst x)) | skip) | (with_reducible first | assumption | apply State.taskRun_sound | apply State.timers_sound | apply State.serveFlow_sound | apply State.setFlow_sound | apply State.refuse_sound | apply State.event_sound | apply Out.Sound.next) | intro x hx | intro _ | lift_lets -underBinder | split | (fail_if_no_progress with_reducible apply State.Sound.upd) | (with_reducible apply PairSound.mk))

theorem execSumpFetch_sound (id : Nat) (ns : Nat) (uncorrectable : Bool) (hs : State.Sound Q s) : Out.Sound Q (execSumpFetch id ns uncorrectable s) := by
  unfold execSumpFetch
  repeat' (first | (intro x; first | (refine State.Sound.cut (q := Q) x ?_ (fun hx => ?_); (on_goal 1 => subst x)) | (refine State.Sound.cutPair (q := Q) x ?_ (fun hx => ?_); (on_goal 1 => subst x)) | skip) | (with_reducible first | assumption | apply State.taskRun_sound | apply State.setFld_sound | apply State.err_sound | apply State.nextSeq_sound | apply State.evict_sound | apply State.taskShow_sound | apply State.enterFault_sound | apply State.logEv_sound | apply State.setThread_sound | apply State.event_sound | apply Out.Sound.next) | intro x hx | intro _ | lift_lets -underBinder | split | (fail_if_no_progress with_reducible apply State.Sound.upd) | (with_reducible apply PairSound.mk) | clear_value * | (show State.Sound _ _; assumption))

theorem execWaitDeadlineCount_sound (id : Nat) (hs : State.Sound Q s) : Out.Sound Q (execWaitDeadlineCount id s) := by
  unfold execWaitDeadlineCount
  repeat' (first | (intro x; first | (refine State.Sound.cut (q := Q) x ?_ (fun hx => ?_); (on_goal 1 => subst x)) | (refine State.Sound.cutPair (q := Q) x ?_ (fun hx => ?_); (on_goal 1 => subst x)) | skip) | (with_reducible first | assumption | apply State.taskRun_sound | apply State.endWait_sound | apply State.event_sound | apply Out.Sound.next) | intro x hx | intro _ | lift_lets -underBinder | split | (fail_if_no_progress with_reducible apply State.Sound.upd) | (with_reducible apply PairSound.mk) | (show State.Sound _ _; assumption))

theorem State.taskTimerFire_sound (hs : State.Sound Q s) : State.Sound Q (State.taskTimerFire s) := by
  unfold State.taskTimerFire
  repeat' (first | (intro x; first | (refine State.Sound.cut (q := Q) x ?_ (fun hx => ?_); (on_goal 1 => subst x)) | (refine State.Sound.cutPair (q := Q) x ?_ (fun hx => ?_); (on_goal 1 => subst x)) | skip) | (with_reducible first | assumption | apply State.taskRun_sound | apply State.timers_sound | apply State.expireWaits_sound) | intro x hx | intro _ | lift_lets -underBinder | split | (fail_if_no_progress with_reducible apply State.Sound.upd) | (with_reducible apply PairSound.mk))

theorem State.tick_sound (hs : State.Sound Q s) : State.Sound Q (State.tick s) := by
  unfold State.tick
  repeat' (first | (intro x; first | (refine State.Sound.cut (q := Q) x ?_ (fun hx => ?_); (on_goal 1 => subst x)) | (refine State.Sound.cutPair (q := Q) x ?_ (fun hx => ?_); (on_goal 1 => subst x)) | skip) | (with_reducible first | assumption | apply State.timers_sound | apply State.clockTick_sound) | intro x hx | intro _ | lift_lets -underBinder | split | (fail_if_no_progress with_reducible apply State.Sound.upd) | (with_reducible apply PairSound.mk))

theorem execTimeLoadAtPps_sound (hs : State.Sound Q s) : Out.Sound Q (execTimeLoadAtPps s) := by
  unfold execTimeLoadAtPps
  repeat' (first | (intro x; first | (refine State.Sound.cut (q := Q) x ?_ (fun hx => ?_); (on_goal 1 => subst x)) | (refine State.Sound.cutPair (q := Q) x ?_ (fun hx => ?_); (on_goal 1 => subst x)) | skip) | (with_reducible first | assumption | apply State.timers_sound | apply State.sawPps_sound | apply State.startAtPps_sound | apply State.event_sound | apply Out.Sound.next) | intro x hx | intro _ | lift_lets -underBinder | split | (fail_if_no_progress with_reducible apply State.Sound.upd) | (with_reducible apply PairSound.mk))

theorem State.setCmd_sound (x : TaskCmd) (hs : State.Sound Q s) : State.Sound Q (State.setCmd s x) := by
  unfold State.setCmd
  repeat' (first | (intro x; first | (refine State.Sound.cut (q := Q) x ?_ (fun hx => ?_); (on_goal 1 => subst x)) | (refine State.Sound.cutPair (q := Q) x ?_ (fun hx => ?_); (on_goal 1 => subst x)) | skip) | (with_reducible first | assumption) | intro x hx | intro _ | lift_lets -underBinder | split | (fail_if_no_progress with_reducible apply State.Sound.upd) | (with_reducible apply PairSound.mk))

theorem State.sendResults_sound (hs : State.Sound Q s) : State.Sound Q (State.sendResults s) := by
  unfold State.sendResults
  repeat' (first | (intro x; first | (refine State.Sound.cut (q := Q) x ?_ (fun hx => ?_); (on_goal 1 => subst x)) | (refine State.Sound.cutPair (q := Q) x ?_ (fun hx => ?_); (on_goal 1 => subst x)) | skip) | (with_reducible first | assumption | apply State.raise_sound | apply State.offer_sound | apply State.offer_pair | refine State.Sound.foldl _ (fun _ _ _ => ?_) ?_ | refine PairSound.foldl _ (fun _ _ _ => ?_) ?_) | intro x hx | intro _ | lift_lets -underBinder | split | (fail_if_no_progress with_reducible apply State.Sound.upd) | (with_reducible apply PairSound.mk) | (with_reducible refine PairSound.of (by assumption)))

theorem State.writeResult_sound (op : Nat) (result : Nat) (page : Nat) (tag : Nat) (reason : Nat) (start : Nat) (out : List Byte) (hs : State.Sound Q s) : State.Sound Q (State.writeResult s op result page tag reason start out) := by
  unfold State.writeResult
  repeat' (first | (intro x; first | (refine State.Sound.cut (q := Q) x ?_ (fun hx => ?_); (on_goal 1 => subst x)) | (refine State.Sound.cutPair (q := Q) x ?_ (fun hx => ?_); (on_goal 1 => subst x)) | skip) | (with_reducible first | assumption | apply State.sendResults_sound | apply State.reason_sound) | intro x hx | intro _ | lift_lets -underBinder | split | (fail_if_no_progress with_reducible apply State.Sound.upd) | (with_reducible apply PairSound.mk))

theorem State.cmdEnd_sound (x : TaskCmd) (result : Nat) (reason : Nat) (out : List Byte) (hs : State.Sound Q s) : State.Sound Q (State.cmdEnd s x result reason out) := by
  unfold State.cmdEnd
  repeat' (first | (intro x; first | (refine State.Sound.cut (q := Q) x ?_ (fun hx => ?_); (on_goal 1 => subst x)) | (refine State.Sound.cutPair (q := Q) x ?_ (fun hx => ?_); (on_goal 1 => subst x)) | skip) | (with_reducible first | assumption | apply State.taskRun_sound | apply State.timers_sound | apply State.serveFlow_sound | apply State.err_sound | apply State.reason_sound | apply State.writeResult_sound | apply State.setFlow_sound) | intro x hx | intro _ | lift_lets -underBinder | split | (fail_if_no_progress with_reducible apply State.Sound.upd) | (with_reducible apply PairSound.mk))

theorem State.cmdRefuse_sound (x : TaskCmd) (cls : Nat) (detail : Nat) (hs : State.Sound Q s) : State.Sound Q (State.cmdRefuse s x cls detail) := by
  unfold State.cmdRefuse
  repeat' (first | (intro x; first | (refine State.Sound.cut (q := Q) x ?_ (fun hx => ?_); (on_goal 1 => subst x)) | (refine State.Sound.cutPair (q := Q) x ?_ (fun hx => ?_); (on_goal 1 => subst x)) | skip) | (with_reducible first | assumption | apply State.cmdEnd_sound | apply State.refuse_sound) | intro x hx | intro _ | lift_lets -underBinder | split | (fail_if_no_progress with_reducible apply State.Sound.upd) | (with_reducible apply PairSound.mk))

theorem State.cmdStop_sound (x : TaskCmd) (out : List Byte) (hs : State.Sound Q s) : State.Sound Q (State.cmdStop s x out) := by
  unfold State.cmdStop
  repeat' (first | (intro x; first | (refine State.Sound.cut (q := Q) x ?_ (fun hx => ?_); (on_goal 1 => subst x)) | (refine State.Sound.cutPair (q := Q) x ?_ (fun hx => ?_); (on_goal 1 => subst x)) | skip) | (with_reducible first | assumption | apply State.reason_sound | apply State.cmdEnd_sound | apply State.err_sound | apply State.refuse_sound) | intro x hx | intro _ | lift_lets -underBinder | split | (fail_if_no_progress with_reducible apply State.Sound.upd) | (with_reducible apply PairSound.mk))

theorem State.cmdStep_sound (op : Nat) (tag : Nat) (first : TaskCmd → State → State) (next : TaskCmd → State → State) (hfirst : ∀ x0 t, State.Sound Q t → State.Sound Q (first x0 t)) (hnext : ∀ x0 t, State.Sound Q t → State.Sound Q (next x0 t)) (hs : State.Sound Q s) : State.Sound Q (State.cmdStep s op tag first next) := by
  unfold State.cmdStep
  repeat' (first | (intro x; first | (refine State.Sound.cut (q := Q) x ?_ (fun hx => ?_); (on_goal 1 => subst x)) | (refine State.Sound.cutPair (q := Q) x ?_ (fun hx => ?_); (on_goal 1 => subst x)) | skip) | (with_reducible first | assumption | apply hfirst | apply hnext | apply State.taskShow_sound | apply State.setCmd_sound | apply State.setFlow_sound) | intro x hx | intro _ | lift_lets -underBinder | split | (fail_if_no_progress with_reducible apply State.Sound.upd) | (with_reducible apply PairSound.mk) | clear_value *)

theorem execCommandRecord_sound (hs : State.Sound Q s) : Out.Sound Q (execCommandRecord s) := by
  unfold execCommandRecord
  repeat' (first | (intro x; first | (refine State.Sound.cut (q := Q) x ?_ (fun hx => ?_); (on_goal 1 => subst x)) | (refine State.Sound.cutPair (q := Q) x ?_ (fun hx => ?_); (on_goal 1 => subst x)) | skip) | (with_reducible first | assumption | apply State.taskShow_sound | apply State.setFlow_sound | apply State.err_sound | apply State.writeResult_sound | apply State.refuse_sound | apply State.event_sound | apply Out.Sound.next) | intro x hx | intro _ | lift_lets -underBinder | split | (fail_if_no_progress with_reducible apply State.Sound.upd) | (with_reducible apply PairSound.mk) | clear_value * | (with_reducible refine State.takeRecord_some ?_ (by assumption)))

theorem State.cmdRings_sound (cr : Nat) (rr : Nat) (hs : State.Sound Q s) : State.Sound Q (State.cmdRings s cr rr) := by
  unfold State.cmdRings
  repeat' (first | (intro x; first | (refine State.Sound.cut (q := Q) x ?_ (fun hx => ?_); (on_goal 1 => subst x)) | (refine State.Sound.cutPair (q := Q) x ?_ (fun hx => ?_); (on_goal 1 => subst x)) | skip) | (with_reducible first | assumption | apply State.setFld_sound) | intro x hx | intro _ | lift_lets -underBinder | split | (fail_if_no_progress with_reducible apply State.Sound.upd) | (with_reducible apply PairSound.mk))

theorem State.cmdEnable_sound (cr : Nat) (rr : Nat) (hs : State.Sound Q s) : State.Sound Q (State.cmdEnable s cr rr) := by
  unfold State.cmdEnable
  repeat' (first | (intro x; first | (refine State.Sound.cut (q := Q) x ?_ (fun hx => ?_); (on_goal 1 => subst x)) | (refine State.Sound.cutPair (q := Q) x ?_ (fun hx => ?_); (on_goal 1 => subst x)) | skip) | (with_reducible first | assumption | apply State.refuse_sound | apply State.sendResults_sound | apply State.setFld_sound) | intro x hx | intro _ | lift_lets -underBinder | split | (fail_if_no_progress with_reducible apply State.Sound.upd) | (with_reducible apply PairSound.mk))

theorem State.cmdCfgWrite_sound (v : Word) (hs : State.Sound Q s) : State.Sound Q (State.cmdCfgWrite v s) := by
  unfold State.cmdCfgWrite
  repeat' (first | (intro x; first | (refine State.Sound.cut (q := Q) x ?_ (fun hx => ?_); (on_goal 1 => subst x)) | (refine State.Sound.cutPair (q := Q) x ?_ (fun hx => ?_); (on_goal 1 => subst x)) | skip) | (with_reducible first | assumption | apply State.cmdEnable_sound | apply State.cmdRings_sound | apply State.reason_sound | apply State.setFld_sound) | intro x hx | intro _ | lift_lets -underBinder | split | (fail_if_no_progress with_reducible apply State.Sound.upd) | (with_reducible apply PairSound.mk))

theorem execCmdCfgWrite_sound (v : Word) (hs : State.Sound Q s) : Out.Sound Q (execCmdCfgWrite v s) := by
  unfold execCmdCfgWrite
  repeat' (first | (intro x; first | (refine State.Sound.cut (q := Q) x ?_ (fun hx => ?_); (on_goal 1 => subst x)) | (refine State.Sound.cutPair (q := Q) x ?_ (fun hx => ?_); (on_goal 1 => subst x)) | skip) | (with_reducible first | assumption | apply State.cmdCfgWrite_sound | apply State.onPage_sound | apply Out.Sound.next) | intro x hx | intro _ | lift_lets -underBinder | split | (fail_if_no_progress with_reducible apply State.Sound.upd) | (with_reducible apply PairSound.mk))

theorem execNop_sound (tag : Nat) (hs : State.Sound Q s) : Out.Sound Q (execNop tag s) := by
  unfold execNop
  repeat' (first | (intro x; first | (refine State.Sound.cut (q := Q) x ?_ (fun hx => ?_); (on_goal 1 => subst x)) | (refine State.Sound.cutPair (q := Q) x ?_ (fun hx => ?_); (on_goal 1 => subst x)) | skip) | (with_reducible first | assumption | apply State.cmdEnd_sound | apply State.cmdStep_sound | apply Out.Sound.next) | intro x hx | intro _ | lift_lets -underBinder | split | (fail_if_no_progress with_reducible apply State.Sound.upd) | (with_reducible apply PairSound.mk))

theorem execCmdRetrain_sound (tag : Nat) (hs : State.Sound Q s) : Out.Sound Q (execCmdRetrain tag s) := by
  unfold execCmdRetrain
  repeat' (first | (intro x; first | (refine State.Sound.cut (q := Q) x ?_ (fun hx => ?_); (on_goal 1 => subst x)) | (refine State.Sound.cutPair (q := Q) x ?_ (fun hx => ?_); (on_goal 1 => subst x)) | skip) | (with_reducible first | assumption | apply State.cmdStop_sound | apply State.cmdEnd_sound | apply State.laneCtrlRetrain_sound | apply State.cmdStep_sound | apply Out.Sound.next) | intro x hx | intro _ | lift_lets -underBinder | split | (fail_if_no_progress with_reducible apply State.Sound.upd) | (with_reducible apply PairSound.mk) | clear_value *)

theorem State.sweepProbe_sound (x : TaskCmd) (v : Nat) (hs : State.Sound Q s) : State.Sound Q (State.sweepProbe s x v) := by
  unfold State.sweepProbe
  repeat' (first | (intro x; first | (refine State.Sound.cut (q := Q) x ?_ (fun hx => ?_); (on_goal 1 => subst x)) | (refine State.Sound.cutPair (q := Q) x ?_ (fun hx => ?_); (on_goal 1 => subst x)) | skip) | (with_reducible first | assumption | apply State.setCmd_sound | apply State.probeStart_sound | apply State.setFld_sound) | intro x hx | intro _ | lift_lets -underBinder | split | (fail_if_no_progress with_reducible apply State.Sound.upd) | (with_reducible apply PairSound.mk))

theorem State.sweepWindow_sound (x : TaskCmd) (hs : State.Sound Q s) : State.Sound Q (State.sweepWindow s x) := by
  unfold State.sweepWindow
  repeat' (first | (intro x; first | (refine State.Sound.cut (q := Q) x ?_ (fun hx => ?_); (on_goal 1 => subst x)) | (refine State.Sound.cutPair (q := Q) x ?_ (fun hx => ?_); (on_goal 1 => subst x)) | skip) | (with_reducible first | assumption | apply State.setCmd_sound | apply State.applyDelays_sound | apply State.setFld_sound | apply State.cmdRefuse_sound) | intro x hx | intro _ | lift_lets -underBinder | split | (fail_if_no_progress with_reducible apply State.Sound.upd) | (with_reducible apply PairSound.mk) | clear_value *)

theorem execMemSweep_sound (tag : Nat) (hs : State.Sound Q s) : Out.Sound Q (execMemSweep tag s) := by
  unfold execMemSweep
  repeat' (first | (intro x; first | (refine State.Sound.cut (q := Q) x ?_ (fun hx => ?_); (on_goal 1 => subst x)) | (refine State.Sound.cutPair (q := Q) x ?_ (fun hx => ?_); (on_goal 1 => subst x)) | skip) | (with_reducible first | assumption | apply State.sweepWindow_sound | apply State.setCmd_sound | apply State.cmdStop_sound | apply State.cmdEnd_sound | apply State.sweepProbe_sound | apply State.cmdStep_sound | apply Out.Sound.next) | intro x hx | intro _ | lift_lets -underBinder | split | (fail_if_no_progress with_reducible apply State.Sound.upd) | (with_reducible apply PairSound.mk))

theorem State.scanWrite_sound (x : TaskCmd) (points : Nat) (hs : State.Sound Q s) : State.Sound Q (State.scanWrite s x points) := by
  unfold State.scanWrite
  repeat' (first | (intro x; first | (refine State.Sound.cut (q := Q) x ?_ (fun hx => ?_); (on_goal 1 => subst x)) | (refine State.Sound.cutPair (q := Q) x ?_ (fun hx => ?_); (on_goal 1 => subst x)) | skip) | (with_reducible first | assumption | apply State.hostStore_sound) | intro x hx | intro _ | lift_lets -underBinder | split | (fail_if_no_progress with_reducible apply State.Sound.upd) | (with_reducible apply PairSound.mk))

theorem State.scanAim_sound (x : TaskCmd) (i : Nat) (hs : State.Sound Q s) : State.Sound Q (State.scanAim s x i) := by
  unfold State.scanAim
  repeat' (first | (intro x; first | (refine State.Sound.cut (q := Q) x ?_ (fun hx => ?_); (on_goal 1 => subst x)) | (refine State.Sound.cutPair (q := Q) x ?_ (fun hx => ?_); (on_goal 1 => subst x)) | skip) | (with_reducible first | assumption | apply State.setFld_sound) | intro x hx | intro _ | lift_lets -underBinder | split | (fail_if_no_progress with_reducible apply State.Sound.upd) | (with_reducible apply PairSound.mk))

theorem State.scanGo_sound (x : TaskCmd) (i : Nat) (hs : State.Sound Q s) : State.Sound Q (State.scanGo s x i) := by
  unfold State.scanGo
  repeat' (first | (intro x; first | (refine State.Sound.cut (q := Q) x ?_ (fun hx => ?_); (on_goal 1 => subst x)) | (refine State.Sound.cutPair (q := Q) x ?_ (fun hx => ?_); (on_goal 1 => subst x)) | skip) | (with_reducible first | assumption | apply State.setCmd_sound | apply State.cmdEnd_sound | apply State.laneCtrlEsStart_sound) | intro x hx | intro _ | lift_lets -underBinder | split | (fail_if_no_progress with_reducible apply State.Sound.upd) | (with_reducible apply PairSound.mk) | clear_value *)

theorem State.scanStart_sound (x : TaskCmd) (i : Nat) (hs : State.Sound Q s) : State.Sound Q (State.scanStart s x i) := by
  unfold State.scanStart
  repeat' (first | (intro x; first | (refine State.Sound.cut (q := Q) x ?_ (fun hx => ?_); (on_goal 1 => subst x)) | (refine State.Sound.cutPair (q := Q) x ?_ (fun hx => ?_); (on_goal 1 => subst x)) | skip) | (with_reducible first | assumption | apply State.scanGo_sound | apply State.scanAim_sound) | intro x hx | intro _ | lift_lets -underBinder | split | (fail_if_no_progress with_reducible apply State.Sound.upd) | (with_reducible apply PairSound.mk))

theorem execEyeScan_sound (tag : Nat) (hs : State.Sound Q s) : Out.Sound Q (execEyeScan tag s) := by
  unfold execEyeScan
  repeat' (first | (intro x; first | (refine State.Sound.cut (q := Q) x ?_ (fun hx => ?_); (on_goal 1 => subst x)) | (refine State.Sound.cutPair (q := Q) x ?_ (fun hx => ?_); (on_goal 1 => subst x)) | skip) | (with_reducible first | assumption | apply State.cmdEnd_sound | apply State.cmdStop_sound | apply State.scanWrite_sound | apply State.setCmd_sound | apply State.scanStart_sound | apply State.cmdStep_sound | apply Out.Sound.next) | intro x hx | intro _ | lift_lets -underBinder | split | (fail_if_no_progress with_reducible apply State.Sound.upd) | (with_reducible apply PairSound.mk))

theorem execJoin_sound (tag : Nat) (hs : State.Sound Q s) : Out.Sound Q (execJoin tag s) := by
  unfold execJoin
  repeat' (first | (intro x; first | (refine State.Sound.cut (q := Q) x ?_ (fun hx => ?_); (on_goal 1 => subst x)) | (refine State.Sound.cutPair (q := Q) x ?_ (fun hx => ?_); (on_goal 1 => subst x)) | skip) | (with_reducible first | assumption | apply State.cmdEnd_sound | apply State.ropeSend_sound | apply State.cmdRefuse_sound | apply State.cmdStep_sound | apply Out.Sound.next | refine State.Sound.foldl _ (fun _ _ _ => ?_) ?_ | refine PairSound.foldl _ (fun _ _ _ => ?_) ?_) | intro x hx | intro _ | lift_lets -underBinder | split | (fail_if_no_progress with_reducible apply State.Sound.upd) | (with_reducible apply PairSound.mk) | (with_reducible refine PairSound.of (by assumption)))

theorem execFwLoad_sound (tag : Nat) (hs : State.Sound Q s) : Out.Sound Q (execFwLoad tag s) := by
  unfold execFwLoad
  repeat' (first | (intro x; first | (refine State.Sound.cut (q := Q) x ?_ (fun hx => ?_); (on_goal 1 => subst x)) | (refine State.Sound.cutPair (q := Q) x ?_ (fun hx => ?_); (on_goal 1 => subst x)) | skip) | (with_reducible first | assumption | apply State.cmdStop_sound | apply State.setFld_sound | apply State.cmdStep_sound | apply Out.Sound.next) | intro x hx | intro _ | lift_lets -underBinder | split | (fail_if_no_progress with_reducible apply State.Sound.upd) | (with_reducible apply PairSound.mk))

theorem execFwLoadDone_sound (tag : Nat) (ok : Bool) (version : Nat) (abi : Nat) (hs : State.Sound Q s) : Out.Sound Q (execFwLoadDone tag ok version abi s) := by
  unfold execFwLoadDone
  repeat' (first | (intro x; first | (refine State.Sound.cut (q := Q) x ?_ (fun hx => ?_); (on_goal 1 => subst x)) | (refine State.Sound.cutPair (q := Q) x ?_ (fun hx => ?_); (on_goal 1 => subst x)) | skip) | (with_reducible first | assumption | apply State.cmdEnd_sound | apply State.setFld_sound | apply State.cmdRefuse_sound | apply State.cmdStop_sound | apply State.cmdStep_sound | apply Out.Sound.next) | intro x hx | intro _ | lift_lets -underBinder | split | (fail_if_no_progress with_reducible apply State.Sound.upd) | (with_reducible apply PairSound.mk))

theorem State.swapOver_sound (hs : State.Sound Q s) : State.Sound Q (State.swapOver s) := by
  unfold State.swapOver
  repeat' (first | (intro x; first | (refine State.Sound.cut (q := Q) x ?_ (fun hx => ?_); (on_goal 1 => subst x)) | (refine State.Sound.cutPair (q := Q) x ?_ (fun hx => ?_); (on_goal 1 => subst x)) | skip) | (with_reducible first | assumption | apply State.setFld_sound) | intro x hx | intro _ | lift_lets -underBinder | split | (fail_if_no_progress with_reducible apply State.Sound.upd) | (with_reducible apply PairSound.mk))

theorem State.swapSwitch_sound (x : TaskCmd) (hs : State.Sound Q s) : State.Sound Q (State.swapSwitch s x) := by
  unfold State.swapSwitch
  repeat' (first | (intro x; first | (refine State.Sound.cut (q := Q) x ?_ (fun hx => ?_); (on_goal 1 => subst x)) | (refine State.Sound.cutPair (q := Q) x ?_ (fun hx => ?_); (on_goal 1 => subst x)) | skip) | (with_reducible first | assumption | apply State.cmdEnd_sound | apply State.raise_sound | apply State.swapOver_sound | apply State.setFld_sound | apply State.tookFree_sound) | intro x hx | intro _ | lift_lets -underBinder | split | (fail_if_no_progress with_reducible apply State.Sound.upd) | (with_reducible apply PairSound.mk))

theorem State.coreStop_sound (c : Nat) (hs : State.Sound Q s) : State.Sound Q (State.coreStop s c) := by
  unfold State.coreStop
  repeat' (first | (intro x; first | (refine State.Sound.cut (q := Q) x ?_ (fun hx => ?_); (on_goal 1 => subst x)) | (refine State.Sound.cutPair (q := Q) x ?_ (fun hx => ?_); (on_goal 1 => subst x)) | skip) | (with_reducible first | assumption | apply State.swapSwitch_sound) | intro x hx | intro _ | lift_lets -underBinder | split | (fail_if_no_progress with_reducible apply State.Sound.upd) | (with_reducible apply PairSound.mk) | clear_value *)

theorem State.swapAbandon_sound (hs : State.Sound Q s) : State.Sound Q (State.swapAbandon s) := by
  unfold State.swapAbandon
  repeat' (first | (intro x; first | (refine State.Sound.cut (q := Q) x ?_ (fun hx => ?_); (on_goal 1 => subst x)) | (refine State.Sound.cutPair (q := Q) x ?_ (fun hx => ?_); (on_goal 1 => subst x)) | skip) | (with_reducible first | assumption | apply State.raise_sound | apply State.swapOver_sound) | intro x hx | intro _ | lift_lets -underBinder | split | (fail_if_no_progress with_reducible apply State.Sound.upd) | (with_reducible apply PairSound.mk))

theorem execFwSwap_sound (tag : Nat) (hs : State.Sound Q s) : Out.Sound Q (execFwSwap tag s) := by
  unfold execFwSwap
  repeat' (first | (intro x; first | (refine State.Sound.cut (q := Q) x ?_ (fun hx => ?_); (on_goal 1 => subst x)) | (refine State.Sound.cutPair (q := Q) x ?_ (fun hx => ?_); (on_goal 1 => subst x)) | skip) | (with_reducible first | assumption | apply State.coreStop_sound | apply State.setFld_sound | apply State.cmdRefuse_sound | apply State.cmdStep_sound | apply Out.Sound.next | refine State.Sound.foldl _ (fun _ _ _ => ?_) ?_ | refine PairSound.foldl _ (fun _ _ _ => ?_) ?_) | intro x hx | intro _ | lift_lets -underBinder | split | (fail_if_no_progress with_reducible apply State.Sound.upd) | (with_reducible apply PairSound.mk) | (with_reducible refine PairSound.of (by assumption)))

theorem execCoreStopped_sound (c : Nat) (hs : State.Sound Q s) : Out.Sound Q (execCoreStopped c s) := by
  unfold execCoreStopped
  repeat' (first | (intro x; first | (refine State.Sound.cut (q := Q) x ?_ (fun hx => ?_); (on_goal 1 => subst x)) | (refine State.Sound.cutPair (q := Q) x ?_ (fun hx => ?_); (on_goal 1 => subst x)) | skip) | (with_reducible first | assumption | apply State.taskShow_sound | apply State.coreStop_sound | apply State.event_sound | apply Out.Sound.next) | intro x hx | intro _ | lift_lets -underBinder | split | (fail_if_no_progress with_reducible apply State.Sound.upd) | (with_reducible apply PairSound.mk))

theorem execSwapTimeout_sound (hs : State.Sound Q s) : Out.Sound Q (execSwapTimeout s) := by
  unfold execSwapTimeout
  repeat' (first | (intro x; first | (refine State.Sound.cut (q := Q) x ?_ (fun hx => ?_); (on_goal 1 => subst x)) | (refine State.Sound.cutPair (q := Q) x ?_ (fun hx => ?_); (on_goal 1 => subst x)) | skip) | (with_reducible first | assumption | apply State.cmdRefuse_sound | apply State.swapAbandon_sound | apply State.event_sound | apply Out.Sound.next) | intro x hx | intro _ | lift_lets -underBinder | split | (fail_if_no_progress with_reducible apply State.Sound.upd) | (with_reducible apply PairSound.mk) | clear_value *)

theorem execSelftest_sound (tag : Nat) (hs : State.Sound Q s) : Out.Sound Q (execSelftest tag s) := by
  unfold execSelftest
  repeat' (first | (intro x; first | (refine State.Sound.cut (q := Q) x ?_ (fun hx => ?_); (on_goal 1 => subst x)) | (refine State.Sound.cutPair (q := Q) x ?_ (fun hx => ?_); (on_goal 1 => subst x)) | skip) | (with_reducible first | assumption | apply State.cmdRefuse_sound | apply State.cmdStep_sound | apply Out.Sound.next) | intro x hx | intro _ | lift_lets -underBinder | split | (fail_if_no_progress with_reducible apply State.Sound.upd) | (with_reducible apply PairSound.mk))

theorem execChamberTestDone_sound (tag : Nat) (pass : Bool) (hs : State.Sound Q s) : Out.Sound Q (execChamberTestDone tag pass s) := by
  unfold execChamberTestDone
  repeat' (first | (intro x; first | (refine State.Sound.cut (q := Q) x ?_ (fun hx => ?_); (on_goal 1 => subst x)) | (refine State.Sound.cutPair (q := Q) x ?_ (fun hx => ?_); (on_goal 1 => subst x)) | skip) | (with_reducible first | assumption | apply State.cmdEnd_sound | apply State.cmdStep_sound | apply Out.Sound.next) | intro x hx | intro _ | lift_lets -underBinder | split | (fail_if_no_progress with_reducible apply State.Sound.upd) | (with_reducible apply PairSound.mk))

theorem State.cmdHalt_sound (x : TaskCmd) (hs : State.Sound Q s) : State.Sound Q (State.cmdHalt s x) := by
  unfold State.cmdHalt
  repeat' (first | (intro x; first | (refine State.Sound.cut (q := Q) x ?_ (fun hx => ?_); (on_goal 1 => subst x)) | (refine State.Sound.cutPair (q := Q) x ?_ (fun hx => ?_); (on_goal 1 => subst x)) | skip) | (with_reducible first | assumption | apply State.setCmd_sound | apply State.applyWithdraw_sound | apply State.swapAbandon_sound | apply State.cmdStop_sound) | intro x hx | intro _ | lift_lets -underBinder | split | (fail_if_no_progress with_reducible apply State.Sound.upd) | (with_reducible apply PairSound.mk) | clear_value *)

theorem State.cmdAbort_sound (tag : Nat) (hs : State.Sound Q s) : State.Sound Q (State.cmdAbort tag s) := by
  unfold State.cmdAbort
  repeat' (first | (intro x; first | (refine State.Sound.cut (q := Q) x ?_ (fun hx => ?_); (on_goal 1 => subst x)) | (refine State.Sound.cutPair (q := Q) x ?_ (fun hx => ?_); (on_goal 1 => subst x)) | skip) | (with_reducible first | assumption | apply State.err_sound | apply State.reason_sound | apply State.hostStore_sound | apply State.cmdHalt_sound | apply State.cmdStop_sound | refine State.Sound.foldl _ (fun _ _ _ => ?_) ?_ | refine PairSound.foldl _ (fun _ _ _ => ?_) ?_) | intro x hx | intro _ | lift_lets -underBinder | split | (fail_if_no_progress with_reducible apply State.Sound.upd) | (with_reducible apply PairSound.mk) | clear_value * | (with_reducible refine PairSound.of (by assumption)))

theorem execCmdAbort_sound (tag : Nat) (hs : State.Sound Q s) : Out.Sound Q (execCmdAbort tag s) := by
  unfold execCmdAbort
  repeat' (first | (intro x; first | (refine State.Sound.cut (q := Q) x ?_ (fun hx => ?_); (on_goal 1 => subst x)) | (refine State.Sound.cutPair (q := Q) x ?_ (fun hx => ?_); (on_goal 1 => subst x)) | skip) | (with_reducible first | assumption | apply State.cmdAbort_sound | apply State.onPage_sound | apply Out.Sound.next) | intro x hx | intro _ | lift_lets -underBinder | split | (fail_if_no_progress with_reducible apply State.Sound.upd) | (with_reducible apply PairSound.mk))

theorem execCmdTimeout_sound (tag : Nat) (hs : State.Sound Q s) : Out.Sound Q (execCmdTimeout tag s) := by
  unfold execCmdTimeout
  repeat' (first | (intro x; first | (refine State.Sound.cut (q := Q) x ?_ (fun hx => ?_); (on_goal 1 => subst x)) | (refine State.Sound.cutPair (q := Q) x ?_ (fun hx => ?_); (on_goal 1 => subst x)) | skip) | (with_reducible first | assumption | apply State.cmdHalt_sound | apply State.event_sound | apply Out.Sound.next) | intro x hx | intro _ | lift_lets -underBinder | split | (fail_if_no_progress with_reducible apply State.Sound.upd) | (with_reducible apply PairSound.mk) | clear_value *)

theorem State.kernelOp_sound (id : Nat) (op : KernelOp) (h : State.Sound Q s) : State.Sound Q (State.kernelOp s id op) := by
  cases op
  all_goals
    dsimp only [State.kernelOp]
    repeat' (first | (intro x; first | (refine State.Sound.cut (q := Q) x ?_ (fun hx => ?_); (on_goal 1 => subst x)) | (refine State.Sound.cutPair (q := Q) x ?_ (fun hx => ?_); (on_goal 1 => subst x)) | skip) | (with_reducible first | assumption | apply State.setThread_sound | apply State.serveFlow_sound | apply State.setFlow_sound | apply State.enterLists_sound | apply State.beginWait_sound) | intro x hx | intro _ | lift_lets -underBinder | split | (fail_if_no_progress with_reducible apply State.Sound.upd) | (with_reducible apply PairSound.mk) | (show State.Sound _ _; assumption))

theorem execKernelEntry_sound (c : Nat) (op : KernelOp) (hs : State.Sound Q s) : Out.Sound Q (execKernelEntry c op s) := by
  unfold execKernelEntry
  repeat' (first | (intro x; first | (refine State.Sound.cut (q := Q) x ?_ (fun hx => ?_); (on_goal 1 => subst x)) | (refine State.Sound.cutPair (q := Q) x ?_ (fun hx => ?_); (on_goal 1 => subst x)) | skip) | (with_reducible first | assumption | apply State.taskRun_sound | apply State.timers_sound | apply State.coreStop_sound | apply State.kernelOp_sound | apply State.event_sound | apply Out.Sound.next) | intro x hx | intro _ | lift_lets -underBinder | split | (fail_if_no_progress with_reducible apply State.Sound.upd) | (with_reducible apply PairSound.mk) | clear_value * | (show State.Sound _ _; assumption))

end Sys2Proof.Machine
end

