-- ==== Sys2Proof/Laws/SoundCompose.lean ====
section
/-! SUPPORT. Each operation of Machine/Compose.lean keeps the queue and the canonical form. -/

set_option linter.all false
namespace Sys2Proof.Machine

variable {Q : List Instr} {s : State}

theorem State.drawLayer_pair (n : Nat) (l : Layer) (y : Nat) (line : List Nat) (hs : State.Sound Q s) : PairSound Q (State.drawLayer s n l y line) := by
  unfold State.drawLayer
  repeat' (first | (intro x; first | (refine State.Sound.cut (q := Q) x ?_ (fun hx => ?_); (on_goal 1 => subst x)) | (refine State.Sound.cutPair (q := Q) x ?_ (fun hx => ?_); (on_goal 1 => subst x)) | skip) | (with_reducible first | assumption | apply State.err_sound | apply State.devRead_sound | apply State.devRead_pair) | intro x hx | intro _ | lift_lets -underBinder | split | (fail_if_no_progress with_reducible apply State.Sound.upd) | (with_reducible apply PairSound.mk) | clear_value *)

theorem State.drawLayer_sound (n : Nat) (l : Layer) (y : Nat) (line : List Nat) (hs : State.Sound Q s) : State.Sound Q (State.drawLayer s n l y line).1 :=
  State.drawLayer_pair n l y line hs

theorem State.drawProt_pair (n : Nat) (y : Nat) (line : List Nat) (hs : State.Sound Q s) : PairSound Q (State.drawProt s n y line) := by
  unfold State.drawProt
  repeat' (first | (intro x; first | (refine State.Sound.cut (q := Q) x ?_ (fun hx => ?_); (on_goal 1 => subst x)) | (refine State.Sound.cutPair (q := Q) x ?_ (fun hx => ?_); (on_goal 1 => subst x)) | skip) | (with_reducible first | assumption | apply State.err_sound | apply State.devRead_sound | apply State.devRead_pair) | intro x hx | intro _ | lift_lets -underBinder | split | (fail_if_no_progress with_reducible apply State.Sound.upd) | (with_reducible apply PairSound.mk) | clear_value *)

theorem State.drawProt_sound (n : Nat) (y : Nat) (line : List Nat) (hs : State.Sound Q s) : State.Sound Q (State.drawProt s n y line).1 :=
  State.drawProt_pair n y line hs

theorem State.composeLine_sound (n : Nat) (y : Nat) (hs : State.Sound Q s) : State.Sound Q (State.composeLine s n y) := by
  unfold State.composeLine
  repeat' (first | (intro x; first | (refine State.Sound.cut (q := Q) x ?_ (fun hx => ?_); (on_goal 1 => subst x)) | (refine State.Sound.cutPair (q := Q) x ?_ (fun hx => ?_); (on_goal 1 => subst x)) | skip) | (with_reducible first | assumption | apply State.setSrc_sound | apply State.drawProt_sound | apply State.drawProt_pair | apply State.drawLayer_sound | apply State.drawLayer_pair | refine State.Sound.foldl _ (fun _ _ _ => ?_) ?_ | refine PairSound.foldl _ (fun _ _ _ => ?_) ?_) | intro x hx | intro _ | lift_lets -underBinder | split | (fail_if_no_progress with_reducible apply State.Sound.upd) | (with_reducible apply PairSound.mk) | (with_reducible refine PairSound.of (by assumption)))

theorem State.evalRegion_sound (n : Nat) (i : Nat) (hs : State.Sound Q s) : State.Sound Q (State.evalRegion s n i) := by
  unfold State.evalRegion
  repeat' (first | (intro x; first | (refine State.Sound.cut (q := Q) x ?_ (fun hx => ?_); (on_goal 1 => subst x)) | (refine State.Sound.cutPair (q := Q) x ?_ (fun hx => ?_); (on_goal 1 => subst x)) | skip) | (with_reducible first | assumption | apply State.setSrc_sound | apply State.err_sound | apply State.raise_sound | apply State.setFld_sound | apply State.setReg_sound) | intro x hx | intro _ | lift_lets -underBinder | split | (fail_if_no_progress with_reducible apply State.Sound.upd) | (with_reducible apply PairSound.mk))

theorem State.protSet_sound (n : Nat) (on : Bool) (hs : State.Sound Q s) : State.Sound Q (State.protSet s n on) := by
  unfold State.protSet
  repeat' (first | (intro x; first | (refine State.Sound.cut (q := Q) x ?_ (fun hx => ?_); (on_goal 1 => subst x)) | (refine State.Sound.cutPair (q := Q) x ?_ (fun hx => ?_); (on_goal 1 => subst x)) | skip) | (with_reducible first | assumption | apply State.rawTo_sound | apply State.setFld_sound) | intro x hx | intro _ | lift_lets -underBinder | split | (fail_if_no_progress with_reducible apply State.Sound.upd) | (with_reducible apply PairSound.mk))

theorem State.protStep_sound (n : Nat) (hs : State.Sound Q s) : State.Sound Q (State.protStep s n) := by
  unfold State.protStep
  repeat' (first | (intro x; first | (refine State.Sound.cut (q := Q) x ?_ (fun hx => ?_); (on_goal 1 => subst x)) | (refine State.Sound.cutPair (q := Q) x ?_ (fun hx => ?_); (on_goal 1 => subst x)) | skip) | (with_reducible first | assumption | apply State.raise_sound | apply State.protSet_sound | apply State.setFld_sound) | intro x hx | intro _ | lift_lets -underBinder | split | (fail_if_no_progress with_reducible apply State.Sound.upd) | (with_reducible apply PairSound.mk))

theorem State.readLines_sound (n : Nat) (a : Nat) (b : Nat) (hs : State.Sound Q s) : State.Sound Q (State.readLines s n a b) := by
  unfold State.readLines
  repeat' (first | (intro x; first | (refine State.Sound.cut (q := Q) x ?_ (fun hx => ?_); (on_goal 1 => subst x)) | (refine State.Sound.cutPair (q := Q) x ?_ (fun hx => ?_); (on_goal 1 => subst x)) | skip) | (with_reducible first | assumption | apply State.evalRegion_sound | apply State.linesRead_sound | apply State.setSrc_sound | apply State.composeLine_sound | refine State.Sound.foldl _ (fun _ _ _ => ?_) ?_ | refine PairSound.foldl _ (fun _ _ _ => ?_) ?_) | intro x hx | intro _ | lift_lets -underBinder | split | (fail_if_no_progress with_reducible apply State.Sound.upd) | (with_reducible apply PairSound.mk) | clear_value * | (with_reducible refine PairSound.of (by assumption)))

theorem State.rowRead_sound (n : Nat) (b : Nat) (hs : State.Sound Q s) : State.Sound Q (State.rowRead s n b) := by
  unfold State.rowRead
  repeat' (first | (intro x; first | (refine State.Sound.cut (q := Q) x ?_ (fun hx => ?_); (on_goal 1 => subst x)) | (refine State.Sound.cutPair (q := Q) x ?_ (fun hx => ?_); (on_goal 1 => subst x)) | skip) | (with_reducible first | assumption | apply State.protStep_sound | apply State.setSrc_sound | apply State.readLines_sound | apply State.err_sound) | intro x hx | intro _ | lift_lets -underBinder | split | (fail_if_no_progress with_reducible apply State.Sound.upd) | (with_reducible apply PairSound.mk))

theorem State.srcFrame_sound (n : Nat) (m : Nat) (hs : State.Sound Q s) : State.Sound Q (State.srcFrame s n m) := by
  unfold State.srcFrame
  repeat' (first | (intro x; first | (refine State.Sound.cut (q := Q) x ?_ (fun hx => ?_); (on_goal 1 => subst x)) | (refine State.Sound.cutPair (q := Q) x ?_ (fun hx => ?_); (on_goal 1 => subst x)) | skip) | (with_reducible first | assumption | apply State.protSet_sound | apply State.setSrc_sound) | intro x hx | intro _ | lift_lets -underBinder | split | (fail_if_no_progress with_reducible apply State.Sound.upd) | (with_reducible apply PairSound.mk))

theorem State.fenceDone_sound (n : Nat) (i : Nat) (k : Nat) (hs : State.Sound Q s) : State.Sound Q (State.fenceDone s n i k) := by
  unfold State.fenceDone
  repeat' (first | (intro x; first | (refine State.Sound.cut (q := Q) x ?_ (fun hx => ?_); (on_goal 1 => subst x)) | (refine State.Sound.cutPair (q := Q) x ?_ (fun hx => ?_); (on_goal 1 => subst x)) | skip) | (with_reducible first | assumption | apply State.setFld_sound) | intro x hx | intro _ | lift_lets -underBinder | split | (fail_if_no_progress with_reducible apply State.Sound.upd) | (with_reducible apply PairSound.mk))

theorem State.fenceSignal_sound (n : Nat) (v : Word) (hs : State.Sound Q s) : State.Sound Q (State.fenceSignal n v s) := by
  unfold State.fenceSignal
  repeat' (first | (intro x; first | (refine State.Sound.cut (q := Q) x ?_ (fun hx => ?_); (on_goal 1 => subst x)) | (refine State.Sound.cutPair (q := Q) x ?_ (fun hx => ?_); (on_goal 1 => subst x)) | skip) | (with_reducible first | assumption | apply State.fenceDone_sound | refine State.Sound.foldl _ (fun _ _ _ => ?_) ?_ | refine PairSound.foldl _ (fun _ _ _ => ?_) ?_) | intro x hx | intro _ | lift_lets -underBinder | split | (fail_if_no_progress with_reducible apply State.Sound.upd) | (with_reducible apply PairSound.mk) | (with_reducible refine PairSound.of (by assumption)))

theorem execFenceSignal_sound (n : Nat) (v : Word) (hs : State.Sound Q s) : Out.Sound Q (execFenceSignal n v s) := by
  unfold execFenceSignal
  repeat' (first | (intro x; first | (refine State.Sound.cut (q := Q) x ?_ (fun hx => ?_); (on_goal 1 => subst x)) | (refine State.Sound.cutPair (q := Q) x ?_ (fun hx => ?_); (on_goal 1 => subst x)) | skip) | (with_reducible first | assumption | apply State.fenceSignal_sound | apply State.onPage_sound | apply Out.Sound.next) | intro x hx | intro _ | lift_lets -underBinder | split | (fail_if_no_progress with_reducible apply State.Sound.upd) | (with_reducible apply PairSound.mk))

theorem execProtWrite_sound (byLantern : Bool) (n : Nat) (r : Nat) (v : Word) (hs : State.Sound Q s) : Out.Sound Q (execProtWrite byLantern n r v s) := by
  unfold execProtWrite
  repeat' (first | (intro x; first | (refine State.Sound.cut (q := Q) x ?_ (fun hx => ?_); (on_goal 1 => subst x)) | (refine State.Sound.cutPair (q := Q) x ?_ (fun hx => ?_); (on_goal 1 => subst x)) | skip) | (with_reducible first | assumption | apply State.onPage_sound | apply State.protWrite_sound | apply Out.Sound.next) | intro x hx | intro _ | lift_lets -underBinder | split | (fail_if_no_progress with_reducible apply State.Sound.upd) | (with_reducible apply PairSound.mk))

theorem execProtLock_sound (byLantern : Bool) (n : Nat) (hs : State.Sound Q s) : Out.Sound Q (execProtLock byLantern n s) := by
  unfold execProtLock
  repeat' (first | (intro x; first | (refine State.Sound.cut (q := Q) x ?_ (fun hx => ?_); (on_goal 1 => subst x)) | (refine State.Sound.cutPair (q := Q) x ?_ (fun hx => ?_); (on_goal 1 => subst x)) | skip) | (with_reducible first | assumption | apply State.onPage_sound | apply State.protWrite_sound | apply Out.Sound.next) | intro x hx | intro _ | lift_lets -underBinder | split | (fail_if_no_progress with_reducible apply State.Sound.upd) | (with_reducible apply PairSound.mk))

end Sys2Proof.Machine
end

