-- ==== Sys2Proof/Laws/SoundLook.lean ====
section
/-! SUPPORT. Each operation of Machine/Look.lean keeps the queue and the canonical form. -/

set_option linter.all false
namespace Sys2Proof.Machine

variable {Q : List Instr} {s : State}

theorem State.updLook_sound (c : Nat) (n : Nat) (f : LookPic → LookPic) (hs : State.Sound Q s) : State.Sound Q (State.updLook s c n f) := by
  unfold State.updLook
  repeat' (first | (intro x; first | (refine State.Sound.cut (q := Q) x ?_ (fun hx => ?_); (on_goal 1 => subst x)) | (refine State.Sound.cutPair (q := Q) x ?_ (fun hx => ?_); (on_goal 1 => subst x)) | skip) | (with_reducible first | assumption | apply State.updChan_sound) | intro x hx | intro _ | lift_lets -underBinder | split | (fail_if_no_progress with_reducible apply State.Sound.upd) | (with_reducible apply PairSound.mk))

theorem State.stageWrite_sound (c : Nat) (n : Nat) (comp : Nat) (y : Nat) (xs : List Nat) (hs : State.Sound Q s) : State.Sound Q (State.stageWrite s c n comp y xs) := by
  unfold State.stageWrite
  repeat' (first | (intro x; first | (refine State.Sound.cut (q := Q) x ?_ (fun hx => ?_); (on_goal 1 => subst x)) | (refine State.Sound.cutPair (q := Q) x ?_ (fun hx => ?_); (on_goal 1 => subst x)) | skip) | (with_reducible first | assumption | apply State.devWriteUnits_sound | apply State.devWriteUnits_pair) | intro x hx | intro _ | lift_lets -underBinder | split | (fail_if_no_progress with_reducible apply State.Sound.upd) | (with_reducible apply PairSound.mk))

theorem State.stageRead_pair (c n comp y : Nat) (hs : State.Sound Q s) : PairSound Q (State.stageRead s c n comp y) := by
  unfold State.stageRead stagedSamples
  split
  · exact PairSound.mk (State.devRead_sound _ _ _ hs)
  · exact PairSound.mk (State.tookFree_sound (State.devRead_sound _ _ _ hs))

theorem State.stageRead_sound (c n comp y : Nat) (hs : State.Sound Q s) : State.Sound Q (State.stageRead s c n comp y).1 :=
  State.stageRead_pair c n comp y hs

theorem State.writeLine_sound (c : Nat) (n : Nat) (comp : Nat) (y : Nat) (hs : State.Sound Q s) : State.Sound Q (State.writeLine s c n comp y) := by
  unfold State.writeLine
  repeat' (first | (intro x; first | (refine State.Sound.cut (q := Q) x ?_ (fun hx => ?_); (on_goal 1 => subst x)) | (refine State.Sound.cutPair (q := Q) x ?_ (fun hx => ?_); (on_goal 1 => subst x)) | skip) | (with_reducible first | assumption | apply State.stageWrite_sound | apply State.updLook_sound | refine State.Sound.foldl _ (fun _ _ _ => ?_) ?_ | refine PairSound.foldl _ (fun _ _ _ => ?_) ?_) | intro x hx | intro _ | lift_lets -underBinder | split | (fail_if_no_progress with_reducible apply State.Sound.upd) | (with_reducible apply PairSound.mk) | (with_reducible refine PairSound.of (by assumption)))

theorem State.scaleLine_sound (c : Nat) (n : Nat) (y : Nat) (hs : State.Sound Q s) : State.Sound Q (State.scaleLine s c n y) := by
  unfold State.scaleLine
  repeat' (first | (intro x; first | (refine State.Sound.cut (q := Q) x ?_ (fun hx => ?_); (on_goal 1 => subst x)) | (refine State.Sound.cutPair (q := Q) x ?_ (fun hx => ?_); (on_goal 1 => subst x)) | skip) | (with_reducible first | assumption | apply State.updLook_sound | apply State.writeLine_sound) | intro x hx | intro _ | lift_lets -underBinder | split | (fail_if_no_progress with_reducible apply State.Sound.upd) | (with_reducible apply PairSound.mk))

theorem State.scaleTo_sound (c : Nat) (n : Nat) (b : Nat) (hs : State.Sound Q s) : State.Sound Q (State.scaleTo s c n b) := by
  unfold State.scaleTo
  repeat' (first | (intro x; first | (refine State.Sound.cut (q := Q) x ?_ (fun hx => ?_); (on_goal 1 => subst x)) | (refine State.Sound.cutPair (q := Q) x ?_ (fun hx => ?_); (on_goal 1 => subst x)) | skip) | (with_reducible first | assumption | apply State.scaleLine_sound | refine State.Sound.foldl _ (fun _ _ _ => ?_) ?_ | refine PairSound.foldl _ (fun _ _ _ => ?_) ?_) | intro x hx | intro _ | lift_lets -underBinder | split | (fail_if_no_progress with_reducible apply State.Sound.upd) | (with_reducible apply PairSound.mk) | (with_reducible refine PairSound.of (by assumption)))

theorem State.lookRow_sound (c : Nat) (n : Nat) (k : Nat) (hs : State.Sound Q s) : State.Sound Q (State.lookRow s c n k) := by
  unfold State.lookRow
  repeat' (first | (intro x; first | (refine State.Sound.cut (q := Q) x ?_ (fun hx => ?_); (on_goal 1 => subst x)) | (refine State.Sound.cutPair (q := Q) x ?_ (fun hx => ?_); (on_goal 1 => subst x)) | skip) | (with_reducible first | assumption | apply State.updLook_sound | refine State.Sound.foldl _ (fun _ _ _ => ?_) ?_ | refine PairSound.foldl _ (fun _ _ _ => ?_) ?_) | intro x hx | intro _ | lift_lets -underBinder | split | (fail_if_no_progress with_reducible apply State.Sound.upd) | (with_reducible apply PairSound.mk) | clear_value * | (with_reducible refine PairSound.of (by assumption)))

theorem State.lookDone_sound (c : Nat) (n : Nat) (hs : State.Sound Q s) : State.Sound Q (State.lookDone s c n) := by
  unfold State.lookDone
  repeat' (first | (intro x; first | (refine State.Sound.cut (q := Q) x ?_ (fun hx => ?_); (on_goal 1 => subst x)) | (refine State.Sound.cutPair (q := Q) x ?_ (fun hx => ?_); (on_goal 1 => subst x)) | skip) | (with_reducible first | assumption | apply State.raise_sound | apply State.updChan_sound) | intro x hx | intro _ | lift_lets -underBinder | split | (fail_if_no_progress with_reducible apply State.Sound.upd) | (with_reducible apply PairSound.mk))

end Sys2Proof.Machine
end

