-- ==== Sys2Proof/Laws/SoundRefp.lean ====
section
/-! SUPPORT. Each operation of Machine/Refp.lean keeps the queue and the canonical form. -/

set_option linter.all false
namespace Sys2Proof.Machine

variable {Q : List Instr} {s : State}

theorem State.noteSqz_sound (raw : Nat) (stored : Nat) (hs : State.Sound Q s) : State.Sound Q (State.noteSqz s raw stored) := by
  unfold State.noteSqz
  repeat' (first | (intro x; first | (refine State.Sound.cut (q := Q) x ?_ (fun hx => ?_); (on_goal 1 => subst x)) | (refine State.Sound.cutPair (q := Q) x ?_ (fun hx => ?_); (on_goal 1 => subst x)) | skip) | (with_reducible first | assumption) | intro x hx | intro _ | lift_lets -underBinder | split | (fail_if_no_progress with_reducible apply State.Sound.upd) | (with_reducible apply PairSound.mk))

theorem State.writeCtu_sound (c : Nat) (i : Nat) (t : Nat) (raw : Bool) (bs : List (List Nat)) (hs : State.Sound Q s) : State.Sound Q (State.writeCtu s c i t raw bs) := by
  unfold State.writeCtu
  repeat' (first | (intro x; first | (refine State.Sound.cut (q := Q) x ?_ (fun hx => ?_); (on_goal 1 => subst x)) | (refine State.Sound.cutPair (q := Q) x ?_ (fun hx => ?_); (on_goal 1 => subst x)) | skip) | (with_reducible first | assumption | apply State.noteSqz_sound | apply State.devWriteUnits_sound | apply State.devWriteUnits_pair | refine State.Sound.foldl _ (fun _ _ _ => ?_) ?_ | refine PairSound.foldl _ (fun _ _ _ => ?_) ?_) | intro x hx | intro _ | lift_lets -underBinder | split | (fail_if_no_progress with_reducible apply State.Sound.upd) | (with_reducible apply PairSound.mk) | (with_reducible refine PairSound.of (by assumption)))

theorem State.setBufs_sound (c : Nat) (bs : List BufState) (hs : State.Sound Q s) : State.Sound Q (State.setBufs s c bs) := by
  unfold State.setBufs
  repeat' (first | (intro x; first | (refine State.Sound.cut (q := Q) x ?_ (fun hx => ?_); (on_goal 1 => subst x)) | (refine State.Sound.cutPair (q := Q) x ?_ (fun hx => ?_); (on_goal 1 => subst x)) | skip) | (with_reducible first | assumption | apply State.updChan_sound) | intro x hx | intro _ | lift_lets -underBinder | split | (fail_if_no_progress with_reducible apply State.Sound.upd) | (with_reducible apply PairSound.mk))

theorem State.marksAtStart_sound (c : Nat) (refs : List Nat) (hs : State.Sound Q s) : State.Sound Q (State.marksAtStart s c refs) := by
  unfold State.marksAtStart
  repeat' (first | (intro x; first | (refine State.Sound.cut (q := Q) x ?_ (fun hx => ?_); (on_goal 1 => subst x)) | (refine State.Sound.cutPair (q := Q) x ?_ (fun hx => ?_); (on_goal 1 => subst x)) | skip) | (with_reducible first | assumption | apply State.setBufs_sound) | intro x hx | intro _ | lift_lets -underBinder | split | (fail_if_no_progress with_reducible apply State.Sound.upd) | (with_reducible apply PairSound.mk))

theorem State.marksAtEnd_sound (c : Nat) (i : Nat) (hs : State.Sound Q s) : State.Sound Q (State.marksAtEnd s c i) := by
  unfold State.marksAtEnd
  repeat' (first | (intro x; first | (refine State.Sound.cut (q := Q) x ?_ (fun hx => ?_); (on_goal 1 => subst x)) | (refine State.Sound.cutPair (q := Q) x ?_ (fun hx => ?_); (on_goal 1 => subst x)) | skip) | (with_reducible first | assumption | apply State.setBufs_sound) | intro x hx | intro _ | lift_lets -underBinder | split | (fail_if_no_progress with_reducible apply State.Sound.upd) | (with_reducible apply PairSound.mk))

theorem State.poisonCtu_sound (c : Nat) (n : Nat) (i : Nat) (t : Nat) (b : Nat) (void : Bool) (hs : State.Sound Q s) : State.Sound Q (State.poisonCtu s c n i t b void) := by
  unfold State.poisonCtu
  repeat' (first | (intro x; first | (refine State.Sound.cut (q := Q) x ?_ (fun hx => ?_); (on_goal 1 => subst x)) | (refine State.Sound.cutPair (q := Q) x ?_ (fun hx => ?_); (on_goal 1 => subst x)) | skip) | (with_reducible first | assumption | apply State.requestRefresh_sound | apply State.logEv_sound | apply State.raise_sound | apply State.setFld_sound | apply State.setReg_sound | apply State.err_sound | apply State.setBufs_sound) | intro x hx | intro _ | lift_lets -underBinder | split | (fail_if_no_progress with_reducible apply State.Sound.upd) | (with_reducible apply PairSound.mk))

theorem State.countReads_sound (c : Nat) (i : Nat) (t : Nat) (b : Nat) (fails : Nat) (hs : State.Sound Q s) : State.Sound Q (State.countReads s c i t b fails) := by
  unfold State.countReads
  repeat' (first | (intro x; first | (refine State.Sound.cut (q := Q) x ?_ (fun hx => ?_); (on_goal 1 => subst x)) | (refine State.Sound.cutPair (q := Q) x ?_ (fun hx => ?_); (on_goal 1 => subst x)) | skip) | (with_reducible first | assumption | apply State.setMemc_sound | apply State.noteBad_sound | refine State.Sound.foldl _ (fun _ _ _ => ?_) ?_ | refine PairSound.foldl _ (fun _ _ _ => ?_) ?_) | intro x hx | intro _ | lift_lets -underBinder | split | (fail_if_no_progress with_reducible apply State.Sound.upd) | (with_reducible apply PairSound.mk) | (with_reducible refine PairSound.of (by assumption)))

theorem State.updWin_sound (c : Nat) (n : Nat) (i : Nat) (t : Nat) (f : WinCtu → WinCtu) (hs : State.Sound Q s) : State.Sound Q (State.updWin s c n i t f) := by
  unfold State.updWin
  repeat' (first | (intro x; first | (refine State.Sound.cut (q := Q) x ?_ (fun hx => ?_); (on_goal 1 => subst x)) | (refine State.Sound.cutPair (q := Q) x ?_ (fun hx => ?_); (on_goal 1 => subst x)) | skip) | (with_reducible first | assumption | apply State.updPicRec_sound) | intro x hx | intro _ | lift_lets -underBinder | split | (fail_if_no_progress with_reducible apply State.Sound.upd) | (with_reducible apply PairSound.mk))

theorem State.readBlock_sound (c : Nat) (n : Nat) (i : Nat) (t : Nat) (b : Nat) (transient : Nat) (hs : State.Sound Q s) : State.Sound Q (State.readBlock s c n i t b transient) := by
  unfold State.readBlock
  repeat' (first | (intro x; first | (refine State.Sound.cut (q := Q) x ?_ (fun hx => ?_); (on_goal 1 => subst x)) | (refine State.Sound.cutPair (q := Q) x ?_ (fun hx => ?_); (on_goal 1 => subst x)) | skip) | (with_reducible first | assumption | apply State.raise_sound | apply State.err_sound | apply State.poisonCtu_sound | apply State.updWin_sound | apply State.tookFree_sound | apply State.errBy_sound | apply State.countReads_sound) | intro x hx | intro _ | lift_lets -underBinder | split | (fail_if_no_progress with_reducible apply State.Sound.upd) | (with_reducible apply PairSound.mk))

theorem State.readProxy_sound (c : Nat) (n : Nat) (i : Nat) (t : Nat) (j : Nat) (lost : Bool) (hs : State.Sound Q s) : State.Sound Q (State.readProxy s c n i t j lost) := by
  unfold State.readProxy
  repeat' (first | (intro x; first | (refine State.Sound.cut (q := Q) x ?_ (fun hx => ?_); (on_goal 1 => subst x)) | (refine State.Sound.cutPair (q := Q) x ?_ (fun hx => ?_); (on_goal 1 => subst x)) | skip) | (with_reducible first | assumption | apply State.raise_sound | apply State.err_sound | apply State.updPicRec_sound) | intro x hx | intro _ | lift_lets -underBinder | split | (fail_if_no_progress with_reducible apply State.Sound.upd) | (with_reducible apply PairSound.mk))

theorem execBlockRead_sound (c : Nat) (i : Nat) (t : Nat) (b : Nat) (transient : Nat) (hs : State.Sound Q s) : Out.Sound Q (execBlockRead c i t b transient s) := by
  unfold execBlockRead
  repeat' (first | (intro x; first | (refine State.Sound.cut (q := Q) x ?_ (fun hx => ?_); (on_goal 1 => subst x)) | (refine State.Sound.cutPair (q := Q) x ?_ (fun hx => ?_); (on_goal 1 => subst x)) | skip) | (with_reducible first | assumption | apply State.readProxy_sound | apply State.readBlock_sound | apply State.event_sound | apply Out.Sound.next) | intro x hx | intro _ | lift_lets -underBinder | split | (fail_if_no_progress with_reducible apply State.Sound.upd) | (with_reducible apply PairSound.mk) | clear_value *)

end Sys2Proof.Machine
end

