-- ==== Sys2Proof/Laws/SoundChan.lean ====
section
/-! SUPPORT. Each operation of Machine/Chan.lean keeps the queue and the canonical form. -/

set_option linter.all false
namespace Sys2Proof.Machine

variable {Q : List Instr} {s : State}

theorem State.showRefresh_sound (c : Nat) (m : Nat) (kind : Nat) (wave : Nat) (hs : State.Sound Q s) : State.Sound Q (State.showRefresh s c m kind wave) := by
  unfold State.showRefresh
  repeat' (first | (intro x; first | (refine State.Sound.cut (q := Q) x ?_ (fun hx => ?_); (on_goal 1 => subst x)) | (refine State.Sound.cutPair (q := Q) x ?_ (fun hx => ?_); (on_goal 1 => subst x)) | skip) | (with_reducible first | assumption | apply State.put64L_sound | apply State.setFld_sound) | intro x hx | intro _ | lift_lets -underBinder | split | (fail_if_no_progress with_reducible apply State.Sound.upd) | (with_reducible apply PairSound.mk))

theorem State.enterPic_sound (c : Nat) (x : PicRec) (hs : State.Sound Q s) : State.Sound Q (State.enterPic s c x) := by
  unfold State.enterPic
  repeat' (first | (intro x; first | (refine State.Sound.cut (q := Q) x ?_ (fun hx => ?_); (on_goal 1 => subst x)) | (refine State.Sound.cutPair (q := Q) x ?_ (fun hx => ?_); (on_goal 1 => subst x)) | skip) | (with_reducible first | assumption | apply State.setBufs_sound | apply State.marksAtStart_sound | apply State.updChan_sound) | intro x hx | intro _ | lift_lets -underBinder | split | (fail_if_no_progress with_reducible apply State.Sound.upd) | (with_reducible apply PairSound.mk) | clear_value *)

theorem State.startPic_sound (c : Nat) (m : Nat) (fire : Nat) (hs : State.Sound Q s) : State.Sound Q (State.startPic s c m fire) := by
  unfold State.startPic
  repeat' (first | (intro x; first | (refine State.Sound.cut (q := Q) x ?_ (fun hx => ?_); (on_goal 1 => subst x)) | (refine State.Sound.cutPair (q := Q) x ?_ (fun hx => ?_); (on_goal 1 => subst x)) | skip) | (with_reducible first | assumption | apply State.enterPic_sound | apply State.showRefresh_sound | apply State.updChan_sound | apply State.err_sound | apply State.raise_sound) | intro x hx | intro _ | lift_lets -underBinder | split | (fail_if_no_progress with_reducible apply State.Sound.upd) | (with_reducible apply PairSound.mk))

theorem State.chanFrame_pair (c : Nat) (n : Nat) (fire : Nat) (held : Bool) (hs : State.Sound Q s) : PairSound Q (State.chanFrame s c n fire held) := by
  unfold State.chanFrame
  repeat' (first | (intro x; first | (refine State.Sound.cut (q := Q) x ?_ (fun hx => ?_); (on_goal 1 => subst x)) | (refine State.Sound.cutPair (q := Q) x ?_ (fun hx => ?_); (on_goal 1 => subst x)) | skip) | (with_reducible first | assumption | apply State.startPic_sound | apply State.updLook_sound) | intro x hx | intro _ | lift_lets -underBinder | split | (fail_if_no_progress with_reducible apply State.Sound.upd) | (with_reducible apply PairSound.mk))

theorem State.chanFrame_sound (c : Nat) (n : Nat) (fire : Nat) (held : Bool) (hs : State.Sound Q s) : State.Sound Q (State.chanFrame s c n fire held).1 :=
  State.chanFrame_pair c n fire held hs

theorem State.sendSnapshot_sound (c : Nat) (n : Nat) (hs : State.Sound Q s) : State.Sound Q (State.sendSnapshot s c n) := by
  unfold State.sendSnapshot
  repeat' (first | (intro x; first | (refine State.Sound.cut (q := Q) x ?_ (fun hx => ?_); (on_goal 1 => subst x)) | (refine State.Sound.cutPair (q := Q) x ?_ (fun hx => ?_); (on_goal 1 => subst x)) | skip) | (with_reducible first | assumption | apply State.setStep_sound | apply State.updChan_sound | apply State.ropeSend_sound) | intro x hx | intro _ | lift_lets -underBinder | split | (fail_if_no_progress with_reducible apply State.Sound.upd) | (with_reducible apply PairSound.mk) | clear_value *)

theorem State.sendDecision_sound (c : Nat) (n : Nat) (k : Nat) (hs : State.Sound Q s) : State.Sound Q (State.sendDecision s c n k) := by
  unfold State.sendDecision
  repeat' (first | (intro x; first | (refine State.Sound.cut (q := Q) x ?_ (fun hx => ?_); (on_goal 1 => subst x)) | (refine State.Sound.cutPair (q := Q) x ?_ (fun hx => ?_); (on_goal 1 => subst x)) | skip) | (with_reducible first | assumption | apply State.ropeSend_sound) | intro x hx | intro _ | lift_lets -underBinder | split | (fail_if_no_progress with_reducible apply State.Sound.upd) | (with_reducible apply PairSound.mk) | clear_value *)

theorem State.snapRow_sound (c : Nat) (n : Nat) (k : Nat) (hs : State.Sound Q s) : State.Sound Q (State.snapRow s c n k) := by
  unfold State.snapRow
  repeat' (first | (intro x; first | (refine State.Sound.cut (q := Q) x ?_ (fun hx => ?_); (on_goal 1 => subst x)) | (refine State.Sound.cutPair (q := Q) x ?_ (fun hx => ?_); (on_goal 1 => subst x)) | skip) | (with_reducible first | assumption | apply State.updPicRec_sound) | intro x hx | intro _ | lift_lets -underBinder | split | (fail_if_no_progress with_reducible apply State.Sound.upd) | (with_reducible apply PairSound.mk))

theorem State.placePlan_sound (c : Nat) (n : Nat) (k : Nat) (plan : PicRec → RowPlan) (hs : State.Sound Q s) : State.Sound Q (State.placePlan s c n k plan) := by
  unfold State.placePlan
  repeat' (first | (intro x; first | (refine State.Sound.cut (q := Q) x ?_ (fun hx => ?_); (on_goal 1 => subst x)) | (refine State.Sound.cutPair (q := Q) x ?_ (fun hx => ?_); (on_goal 1 => subst x)) | skip) | (with_reducible first | assumption | apply State.floorRow_sound | apply State.setReg_sound | apply State.showPlan_sound | apply State.takePlan_sound | apply State.applyKnown_sound) | intro x hx | intro _ | lift_lets -underBinder | split | (fail_if_no_progress with_reducible apply State.Sound.upd) | (with_reducible apply PairSound.mk) | clear_value *)

theorem State.takeDecision_sound (c : Nat) (d : Decision) (hs : State.Sound Q s) : State.Sound Q (State.takeDecision s c d) := by
  unfold State.takeDecision
  repeat' (first | (intro x; first | (refine State.Sound.cut (q := Q) x ?_ (fun hx => ?_); (on_goal 1 => subst x)) | (refine State.Sound.cutPair (q := Q) x ?_ (fun hx => ?_); (on_goal 1 => subst x)) | skip) | (with_reducible first | assumption | apply State.snapRow_sound | apply State.updChan_sound | apply State.placePlan_sound) | intro x hx | intro _ | lift_lets -underBinder | split | (fail_if_no_progress with_reducible apply State.Sound.upd) | (with_reducible apply PairSound.mk))

theorem State.placeFloor_sound (c : Nat) (n : Nat) (k : Nat) (hs : State.Sound Q s) : State.Sound Q (State.placeFloor s c n k) := by
  unfold State.placeFloor
  repeat' (first | (intro x; first | (refine State.Sound.cut (q := Q) x ?_ (fun hx => ?_); (on_goal 1 => subst x)) | (refine State.Sound.cutPair (q := Q) x ?_ (fun hx => ?_); (on_goal 1 => subst x)) | skip) | (with_reducible first | assumption | apply State.snapRow_sound | apply State.placePlan_sound) | intro x hx | intro _ | lift_lets -underBinder | split | (fail_if_no_progress with_reducible apply State.Sound.upd) | (with_reducible apply PairSound.mk))

theorem State.keepSums_sound (c : Nat) (n : Nat) (k : Nat) (hs : State.Sound Q s) : State.Sound Q (State.keepSums s c n k) := by
  unfold State.keepSums
  repeat' (first | (intro x; first | (refine State.Sound.cut (q := Q) x ?_ (fun hx => ?_); (on_goal 1 => subst x)) | (refine State.Sound.cutPair (q := Q) x ?_ (fun hx => ?_); (on_goal 1 => subst x)) | skip) | (with_reducible first | assumption | apply State.updRc_sound) | intro x hx | intro _ | lift_lets -underBinder | split | (fail_if_no_progress with_reducible apply State.Sound.upd) | (with_reducible apply PairSound.mk))

theorem State.placeRow_sound (c : Nat) (n : Nat) (k : Nat) (hs : State.Sound Q s) : State.Sound Q (State.placeRow s c n k) := by
  unfold State.placeRow
  repeat' (first | (intro x; first | (refine State.Sound.cut (q := Q) x ?_ (fun hx => ?_); (on_goal 1 => subst x)) | (refine State.Sound.cutPair (q := Q) x ?_ (fun hx => ?_); (on_goal 1 => subst x)) | skip) | (with_reducible first | assumption | apply State.sendDecision_sound | apply State.snapRow_sound | apply State.decideRow_sound | apply State.placeFloor_sound | apply State.keepSums_sound | apply State.takeDecision_sound) | intro x hx | intro _ | lift_lets -underBinder | split | (fail_if_no_progress with_reducible apply State.Sound.upd) | (with_reducible apply PairSound.mk) | clear_value *)

theorem State.lookLost_sound (c : Nat) (n : Nat) (k : Nat) (hs : State.Sound Q s) : State.Sound Q (State.lookLost s c n k) := by
  unfold State.lookLost
  repeat' (first | (intro x; first | (refine State.Sound.cut (q := Q) x ?_ (fun hx => ?_); (on_goal 1 => subst x)) | (refine State.Sound.cutPair (q := Q) x ?_ (fun hx => ?_); (on_goal 1 => subst x)) | skip) | (with_reducible first | assumption | apply State.err_sound | apply State.updLook_sound) | intro x hx | intro _ | lift_lets -underBinder | split | (fail_if_no_progress with_reducible apply State.Sound.upd) | (with_reducible apply PairSound.mk))

theorem State.lookAtRelease_sound (c : Nat) (n : Nat) (k : Nat) (lost : Bool) (hs : State.Sound Q s) : State.Sound Q (State.lookAtRelease s c n k lost) := by
  unfold State.lookAtRelease
  repeat' (first | (intro x; first | (refine State.Sound.cut (q := Q) x ?_ (fun hx => ?_); (on_goal 1 => subst x)) | (refine State.Sound.cutPair (q := Q) x ?_ (fun hx => ?_); (on_goal 1 => subst x)) | skip) | (with_reducible first | assumption | apply State.lookDone_sound | apply State.lookLost_sound | apply State.lookRow_sound) | intro x hx | intro _ | lift_lets -underBinder | split | (fail_if_no_progress with_reducible apply State.Sound.upd) | (with_reducible apply PairSound.mk))

theorem State.feedRow_sound (c : Nat) (n : Nat) (k : Nat) (hs : State.Sound Q s) : State.Sound Q (State.feedRow s c n k) := by
  unfold State.feedRow
  repeat' (first | (intro x; first | (refine State.Sound.cut (q := Q) x ?_ (fun hx => ?_); (on_goal 1 => subst x)) | (refine State.Sound.cutPair (q := Q) x ?_ (fun hx => ?_); (on_goal 1 => subst x)) | skip) | (with_reducible first | assumption | apply State.updLook_sound | apply State.updPicRec_sound | apply State.stageRead_sound | apply State.stageRead_pair | refine State.Sound.foldl _ (fun _ _ _ => ?_) ?_ | refine PairSound.foldl _ (fun _ _ _ => ?_) ?_) | intro x hx | intro _ | lift_lets -underBinder | split | (fail_if_no_progress with_reducible apply State.Sound.upd) | (with_reducible apply PairSound.mk) | (with_reducible refine PairSound.of (by assumption)))

theorem State.scaleRest_sound (c : Nat) (n : Nat) (k : Nat) (hs : State.Sound Q s) : State.Sound Q (State.scaleRest s c n k) := by
  unfold State.scaleRest
  repeat' (first | (intro x; first | (refine State.Sound.cut (q := Q) x ?_ (fun hx => ?_); (on_goal 1 => subst x)) | (refine State.Sound.cutPair (q := Q) x ?_ (fun hx => ?_); (on_goal 1 => subst x)) | skip) | (with_reducible first | assumption | apply State.scaleTo_sound) | intro x hx | intro _ | lift_lets -underBinder | split | (fail_if_no_progress with_reducible apply State.Sound.upd) | (with_reducible apply PairSound.mk))

theorem State.takeRow_sound (c : Nat) (n : Nat) (k : Nat) (lost : Bool) (hs : State.Sound Q s) : State.Sound Q (State.takeRow s c n k lost) := by
  unfold State.takeRow
  repeat' (first | (intro x; first | (refine State.Sound.cut (q := Q) x ?_ (fun hx => ?_); (on_goal 1 => subst x)) | (refine State.Sound.cutPair (q := Q) x ?_ (fun hx => ?_); (on_goal 1 => subst x)) | skip) | (with_reducible first | assumption | apply State.feedRow_sound | apply State.lookAtRelease_sound | apply State.scaleRest_sound) | intro x hx | intro _ | lift_lets -underBinder | split | (fail_if_no_progress with_reducible apply State.Sound.upd) | (with_reducible apply PairSound.mk) | clear_value *)

theorem execRowRelease_sound (c : Nat) (n : Nat) (k : Nat) (lost : Bool) (hs : State.Sound Q s) : Out.Sound Q (execRowRelease c n k lost s) := by
  unfold execRowRelease
  repeat' (first | (intro x; first | (refine State.Sound.cut (q := Q) x ?_ (fun hx => ?_); (on_goal 1 => subst x)) | (refine State.Sound.cutPair (q := Q) x ?_ (fun hx => ?_); (on_goal 1 => subst x)) | skip) | (with_reducible first | assumption | apply State.placeRow_sound | apply State.takeRow_sound | apply State.event_sound | apply Out.Sound.next) | intro x hx | intro _ | lift_lets -underBinder | split | (fail_if_no_progress with_reducible apply State.Sound.upd) | (with_reducible apply PairSound.mk) | clear_value *)

theorem State.rowStaged_sound (c : Nat) (n : Nat) (k : Nat) (hs : State.Sound Q s) : State.Sound Q (State.rowStaged s c n k) := by
  unfold State.rowStaged
  repeat' (first | (intro x; first | (refine State.Sound.cut (q := Q) x ?_ (fun hx => ?_); (on_goal 1 => subst x)) | (refine State.Sound.cutPair (q := Q) x ?_ (fun hx => ?_); (on_goal 1 => subst x)) | skip) | (with_reducible first | assumption | apply State.lookDone_sound | apply State.updLook_sound | apply State.lookRow_sound) | intro x hx | intro _ | lift_lets -underBinder | split | (fail_if_no_progress with_reducible apply State.Sound.upd) | (with_reducible apply PairSound.mk))

theorem State.scaleOn_sound (c : Nat) (n : Nat) (hs : State.Sound Q s) : State.Sound Q (State.scaleOn s c n) := by
  unfold State.scaleOn
  repeat' (first | (intro x; first | (refine State.Sound.cut (q := Q) x ?_ (fun hx => ?_); (on_goal 1 => subst x)) | (refine State.Sound.cutPair (q := Q) x ?_ (fun hx => ?_); (on_goal 1 => subst x)) | skip) | (with_reducible first | assumption | apply State.rowStaged_sound | apply State.scaleTo_sound | refine State.Sound.foldl _ (fun _ _ _ => ?_) ?_ | refine PairSound.foldl _ (fun _ _ _ => ?_) ?_) | intro x hx | intro _ | lift_lets -underBinder | split | (fail_if_no_progress with_reducible apply State.Sound.upd) | (with_reducible apply PairSound.mk) | (with_reducible refine PairSound.of (by assumption)))

theorem State.rowReadStage_sound (n : Nat) (k : Nat) (hs : State.Sound Q s) : State.Sound Q (State.rowReadStage s n k) := by
  unfold State.rowReadStage
  repeat' (first | (intro x; first | (refine State.Sound.cut (q := Q) x ?_ (fun hx => ?_); (on_goal 1 => subst x)) | (refine State.Sound.cutPair (q := Q) x ?_ (fun hx => ?_); (on_goal 1 => subst x)) | skip) | (with_reducible first | assumption | apply State.scaleOn_sound | apply State.rowRead_sound | refine State.Sound.foldl _ (fun _ _ _ => ?_) ?_ | refine PairSound.foldl _ (fun _ _ _ => ?_) ?_) | intro x hx | intro _ | lift_lets -underBinder | split | (fail_if_no_progress with_reducible apply State.Sound.upd) | (with_reducible apply PairSound.mk) | (with_reducible refine PairSound.of (by assumption)))

theorem execRowReadInstant_sound (n : Nat) (k : Nat) (hs : State.Sound Q s) : Out.Sound Q (execRowReadInstant n k s) := by
  unfold execRowReadInstant
  repeat' (first | (intro x; first | (refine State.Sound.cut (q := Q) x ?_ (fun hx => ?_); (on_goal 1 => subst x)) | (refine State.Sound.cutPair (q := Q) x ?_ (fun hx => ?_); (on_goal 1 => subst x)) | skip) | (with_reducible first | assumption | apply State.rowReadStage_sound | apply State.event_sound | apply Out.Sound.next) | intro x hx | intro _ | lift_lets -underBinder | split | (fail_if_no_progress with_reducible apply State.Sound.upd) | (with_reducible apply PairSound.mk))

end Sys2Proof.Machine
end

