-- ==== Sys2Proof/Laws/SoundOutput.lean ====
section
/-! SUPPORT. Each operation of Machine/Output.lean keeps the queue and the canonical form. -/

set_option linter.all false
namespace Sys2Proof.Machine

variable {Q : List Instr} {s : State}

theorem State.updOut_sound (c : Nat) (f : OutState → OutState) (hs : State.Sound Q s) : State.Sound Q (State.updOut s c f) := by
  unfold State.updOut
  repeat' (first | (intro x; first | (refine State.Sound.cut (q := Q) x ?_ (fun hx => ?_); (on_goal 1 => subst x)) | (refine State.Sound.cutPair (q := Q) x ?_ (fun hx => ?_); (on_goal 1 => subst x)) | skip) | (with_reducible first | assumption | apply State.updChan_sound) | intro x hx | intro _ | lift_lets -underBinder | split | (fail_if_no_progress with_reducible apply State.Sound.upd) | (with_reducible apply PairSound.mk))

theorem State.contAdd_sound (c : Nat) (pid : Nat) (n : Nat) (hs : State.Sound Q s) : State.Sound Q (State.contAdd s c pid n) := by
  unfold State.contAdd
  repeat' (first | (intro x; first | (refine State.Sound.cut (q := Q) x ?_ (fun hx => ?_); (on_goal 1 => subst x)) | (refine State.Sound.cutPair (q := Q) x ?_ (fun hx => ?_); (on_goal 1 => subst x)) | skip) | (with_reducible first | assumption | apply State.updOut_sound) | intro x hx | intro _ | lift_lets -underBinder | split | (fail_if_no_progress with_reducible apply State.Sound.upd) | (with_reducible apply PairSound.mk))

theorem State.psiVersion_sound (c : Nat) (x : PicRec) (hs : State.Sound Q s) : State.Sound Q (State.psiVersion s c x) := by
  unfold State.psiVersion
  repeat' (first | (intro x; first | (refine State.Sound.cut (q := Q) x ?_ (fun hx => ?_); (on_goal 1 => subst x)) | (refine State.Sound.cutPair (q := Q) x ?_ (fun hx => ?_); (on_goal 1 => subst x)) | skip) | (with_reducible first | assumption | apply State.updOut_sound | apply State.setFld_sound) | intro x hx | intro _ | lift_lets -underBinder | split | (fail_if_no_progress with_reducible apply State.Sound.upd) | (with_reducible apply PairSound.mk) | clear_value *)

theorem State.hostPackets_pair (c : Nat) (bs : List (List Byte)) (h : State.Sound Q s) :
    PairSound Q (State.hostPackets s c bs) := by
  induction bs generalizing s with
  | nil => exact h
  | cons b bs ih =>
    unfold State.hostPackets
    repeat' (first | (with_reducible apply ih) | first | (intro x; first | (refine State.Sound.cut (q := Q) x ?_ (fun hx => ?_); (on_goal 1 => subst x)) | (refine State.Sound.cutPair (q := Q) x ?_ (fun hx => ?_); (on_goal 1 => subst x)) | skip) | (with_reducible first | assumption | apply State.contAdd_sound) | intro x hx | intro _ | lift_lets -underBinder | split | (fail_if_no_progress with_reducible apply State.Sound.upd) | (with_reducible apply PairSound.mk))

theorem State.hostPackets_sound (c : Nat) (bs : List (List Byte)) (h : State.Sound Q s) : State.Sound Q (State.hostPackets s c bs).1 :=
  State.hostPackets_pair c bs h

theorem State.tsRow_pair (c : Nat) (x : PicRec) (k : Nat) (ps : List Piece) (hs : State.Sound Q s) : PairSound Q (State.tsRow s c x k ps) := by
  unfold State.tsRow
  repeat' (first | (intro x; first | (refine State.Sound.cut (q := Q) x ?_ (fun hx => ?_); (on_goal 1 => subst x)) | (refine State.Sound.cutPair (q := Q) x ?_ (fun hx => ?_); (on_goal 1 => subst x)) | skip) | (with_reducible first | assumption | apply State.hostPackets_sound | apply State.hostPackets_pair | apply State.updOut_sound | apply State.contAdd_sound | apply State.psiVersion_sound) | intro x hx | intro _ | lift_lets -underBinder | split | (fail_if_no_progress with_reducible apply State.Sound.upd) | (with_reducible apply PairSound.mk))

theorem State.tsRow_sound (c : Nat) (x : PicRec) (k : Nat) (ps : List Piece) (hs : State.Sound Q s) : State.Sound Q (State.tsRow s c x k ps).1 :=
  State.tsRow_pair c x k ps hs

theorem State.sendPacket_sound (c : Nat) (x : PicRec) (k : Nat) (lastInRow : Bool) (marker : Bool) (payload : List Byte) (hs : State.Sound Q s) : State.Sound Q (State.sendPacket s c x k lastInRow marker payload) := by
  unfold State.sendPacket
  repeat' (first | (intro x; first | (refine State.Sound.cut (q := Q) x ?_ (fun hx => ?_); (on_goal 1 => subst x)) | (refine State.Sound.cutPair (q := Q) x ?_ (fun hx => ?_); (on_goal 1 => subst x)) | skip) | (with_reducible first | assumption | apply State.updOut_sound | apply State.incFld_sound) | intro x hx | intro _ | lift_lets -underBinder | split | (fail_if_no_progress with_reducible apply State.Sound.upd) | (with_reducible apply PairSound.mk) | clear_value *)

theorem State.sendRow_sound (c : Nat) (x : PicRec) (k : Nat) (last : Bool) (bs : List (List Byte)) (h : State.Sound Q s) :
    State.Sound Q (State.sendRow s c x k last bs) := by
  induction bs generalizing s with
  | nil => exact h
  | cons b bs ih =>
    unfold State.sendRow
    repeat' (first | (with_reducible apply ih) | first | (intro x; first | (refine State.Sound.cut (q := Q) x ?_ (fun hx => ?_); (on_goal 1 => subst x)) | (refine State.Sound.cutPair (q := Q) x ?_ (fun hx => ?_); (on_goal 1 => subst x)) | skip) | (with_reducible first | assumption | apply State.sendPacket_sound) | intro x hx | intro _ | lift_lets -underBinder | split | (fail_if_no_progress with_reducible apply State.Sound.upd) | (with_reducible apply PairSound.mk))

theorem State.sendDigest_sound (e : List Byte) (hs : State.Sound Q s) : State.Sound Q (State.sendDigest s e) := by
  unfold State.sendDigest
  repeat' (first | (intro x; first | (refine State.Sound.cut (q := Q) x ?_ (fun hx => ?_); (on_goal 1 => subst x)) | (refine State.Sound.cutPair (q := Q) x ?_ (fun hx => ?_); (on_goal 1 => subst x)) | skip) | (with_reducible first | assumption | apply State.ropeSend_sound) | intro x hx | intro _ | lift_lets -underBinder | split | (fail_if_no_progress with_reducible apply State.Sound.upd) | (with_reducible apply PairSound.mk) | clear_value *)

theorem State.chanStatus_sound (c : Nat) (x : PicRec) (hs : State.Sound Q s) : State.Sound Q (State.chanStatus s c x) := by
  unfold State.chanStatus
  repeat' (first | (intro x; first | (refine State.Sound.cut (q := Q) x ?_ (fun hx => ?_); (on_goal 1 => subst x)) | (refine State.Sound.cutPair (q := Q) x ?_ (fun hx => ?_); (on_goal 1 => subst x)) | skip) | (with_reducible first | assumption | apply State.err_sound | apply State.raise_sound | apply State.offer_sound | apply State.offer_pair) | intro x hx | intro _ | lift_lets -underBinder | split | (fail_if_no_progress with_reducible apply State.Sound.upd) | (with_reducible apply PairSound.mk))

theorem State.picOut_sound (c : Nat) (x : PicRec) (hs : State.Sound Q s) : State.Sound Q (State.picOut s c x) := by
  unfold State.picOut
  repeat' (first | (intro x; first | (refine State.Sound.cut (q := Q) x ?_ (fun hx => ?_); (on_goal 1 => subst x)) | (refine State.Sound.cutPair (q := Q) x ?_ (fun hx => ?_); (on_goal 1 => subst x)) | skip) | (with_reducible first | assumption | apply State.updChan_sound | apply State.chanStatus_sound | apply State.setReg_sound | apply State.put64L_sound | apply State.raise_sound) | intro x hx | intro _ | lift_lets -underBinder | split | (fail_if_no_progress with_reducible apply State.Sound.upd) | (with_reducible apply PairSound.mk))

theorem State.packetise_sound (c : Nat) (x : PicRec) (k : Nat) (ps : List Piece) (hs : State.Sound Q s) : State.Sound Q (State.packetise s c x k ps) := by
  unfold State.packetise
  repeat' (first | (intro x; first | (refine State.Sound.cut (q := Q) x ?_ (fun hx => ?_); (on_goal 1 => subst x)) | (refine State.Sound.cutPair (q := Q) x ?_ (fun hx => ?_); (on_goal 1 => subst x)) | skip) | (with_reducible first | assumption | apply State.updOut_sound | apply State.sendRow_sound | apply State.tsRow_sound | apply State.tsRow_pair) | intro x hx | intro _ | lift_lets -underBinder | split | (fail_if_no_progress with_reducible apply State.Sound.upd) | (with_reducible apply PairSound.mk))

theorem State.outputRow_sound (c : Nat) (x : PicRec) (k : Nat) (hs : State.Sound Q s) : State.Sound Q (State.outputRow s c x k) := by
  unfold State.outputRow
  repeat' (first | (intro x; first | (refine State.Sound.cut (q := Q) x ?_ (fun hx => ?_); (on_goal 1 => subst x)) | (refine State.Sound.cutPair (q := Q) x ?_ (fun hx => ?_); (on_goal 1 => subst x)) | skip) | (with_reducible first | assumption | apply State.picOut_sound | apply State.updRow_sound | apply State.ownDigest_sound | apply State.sendDigest_sound | apply State.packetise_sound | apply State.offer_sound | apply State.offer_pair) | intro x hx | intro _ | lift_lets -underBinder | split | (fail_if_no_progress with_reducible apply State.Sound.upd) | (with_reducible apply PairSound.mk) | clear_value *)

theorem State.withOld_sound (c : Nat) (n : Nat) (f : State → State) (hf : ∀ t, State.Sound Q t → State.Sound Q (f t)) (hs : State.Sound Q s) : State.Sound Q (State.withOld s c n f) := by
  unfold State.withOld
  repeat' (first | (intro x; first | (refine State.Sound.cut (q := Q) x ?_ (fun hx => ?_); (on_goal 1 => subst x)) | (refine State.Sound.cutPair (q := Q) x ?_ (fun hx => ?_); (on_goal 1 => subst x)) | skip) | (with_reducible first | assumption | apply hf | apply State.setActive_sound) | intro x hx | intro _ | lift_lets -underBinder | split | (fail_if_no_progress with_reducible apply State.Sound.upd) | (with_reducible apply PairSound.mk) | clear_value *)

theorem execOutputInstant_sound (c : Nat) (n : Nat) (k : Nat) (hs : State.Sound Q s) : Out.Sound Q (execOutputInstant c n k s) := by
  unfold execOutputInstant
  repeat' (first | (intro x; first | (refine State.Sound.cut (q := Q) x ?_ (fun hx => ?_); (on_goal 1 => subst x)) | (refine State.Sound.cutPair (q := Q) x ?_ (fun hx => ?_); (on_goal 1 => subst x)) | skip) | (with_reducible first | assumption | apply State.outputRow_sound | apply State.withOld_sound | apply State.event_sound | apply Out.Sound.next) | intro x hx | intro _ | lift_lets -underBinder | split | (fail_if_no_progress with_reducible apply State.Sound.upd) | (with_reducible apply PairSound.mk) | clear_value *)

theorem State.takeHostTs_sound (c : Nat) (rec : List Byte) (hs : State.Sound Q s) : State.Sound Q (State.takeHostTs s c rec) := by
  unfold State.takeHostTs
  repeat' (first | (intro x; first | (refine State.Sound.cut (q := Q) x ?_ (fun hx => ?_); (on_goal 1 => subst x)) | (refine State.Sound.cutPair (q := Q) x ?_ (fun hx => ?_); (on_goal 1 => subst x)) | skip) | (with_reducible first | assumption | apply State.errBy_sound | apply State.raise_sound | apply State.updOut_sound) | intro x hx | intro _ | lift_lets -underBinder | split | (fail_if_no_progress with_reducible apply State.Sound.upd) | (with_reducible apply PairSound.mk) | clear_value *)

theorem execTsHostRecord_sound (c : Nat) (hs : State.Sound Q s) : Out.Sound Q (execTsHostRecord c s) := by
  unfold execTsHostRecord
  repeat' (first | (intro x; first | (refine State.Sound.cut (q := Q) x ?_ (fun hx => ?_); (on_goal 1 => subst x)) | (refine State.Sound.cutPair (q := Q) x ?_ (fun hx => ?_); (on_goal 1 => subst x)) | skip) | (with_reducible first | assumption | apply State.takeHostTs_sound | apply State.event_sound | apply Out.Sound.next) | intro x hx | intro _ | lift_lets -underBinder | split | (fail_if_no_progress with_reducible apply State.Sound.upd) | (with_reducible apply PairSound.mk) | clear_value * | (with_reducible refine State.takeRecord_some ?_ (by assumption)))

theorem State.outEnter_sound (c : Nat) (hs : State.Sound Q s) : State.Sound Q (State.outEnter s c) := by
  unfold State.outEnter
  repeat' (first | (intro x; first | (refine State.Sound.cut (q := Q) x ?_ (fun hx => ?_); (on_goal 1 => subst x)) | (refine State.Sound.cutPair (q := Q) x ?_ (fun hx => ?_); (on_goal 1 => subst x)) | skip) | (with_reducible first | assumption | apply State.setReg_sound | apply State.updOut_sound) | intro x hx | intro _ | lift_lets -underBinder | split | (fail_if_no_progress with_reducible apply State.Sound.upd) | (with_reducible apply PairSound.mk))

end Sys2Proof.Machine
end

