-- ==== Sys2Proof/Laws/SoundPairJoin.lean ====
section
/-! SUPPORT. Each operation of Machine/PairJoin.lean keeps the queue and the canonical form. -/

set_option linter.all false
namespace Sys2Proof.Machine

variable {Q : List Instr} {s : State}

theorem State.takeSnapshot_sound (m : SnapshotMsg) (hs : State.Sound Q s) : State.Sound Q (State.takeSnapshot s m) := by
  unfold State.takeSnapshot
  repeat' (first | (intro x; first | (refine State.Sound.cut (q := Q) x ?_ (fun hx => ?_); (on_goal 1 => subst x)) | (refine State.Sound.cutPair (q := Q) x ?_ (fun hx => ?_); (on_goal 1 => subst x)) | skip) | (with_reducible first | assumption | apply State.setGrp_sound | apply State.setFld_sound | apply State.updRc_sound | refine State.Sound.foldl _ (fun _ _ _ => ?_) ?_ | refine PairSound.foldl _ (fun _ _ _ => ?_) ?_) | intro x hx | intro _ | lift_lets -underBinder | split | (fail_if_no_progress with_reducible apply State.Sound.upd) | (with_reducible apply PairSound.mk) | (with_reducible refine PairSound.of (by assumption)))

theorem State.forceRefresh_sound (c : Nat) (n0 : Nat) (kind : Nat) (hs : State.Sound Q s) : State.Sound Q (State.forceRefresh s c n0 kind) := by
  unfold State.forceRefresh
  repeat' (first | (intro x; first | (refine State.Sound.cut (q := Q) x ?_ (fun hx => ?_); (on_goal 1 => subst x)) | (refine State.Sound.cutPair (q := Q) x ?_ (fun hx => ?_); (on_goal 1 => subst x)) | skip) | (with_reducible first | assumption | apply State.putBudget_sound | apply State.enterPic_sound | apply State.showRefresh_sound | apply State.updChan_sound | apply State.setBufs_sound) | intro x hx | intro _ | lift_lets -underBinder | split | (fail_if_no_progress with_reducible apply State.Sound.upd) | (with_reducible apply PairSound.mk) | clear_value *)

theorem State.onSnapshot_sound (m : SnapshotMsg) (hs : State.Sound Q s) : State.Sound Q (State.onSnapshot m s) := by
  unfold State.onSnapshot
  repeat' (first | (intro x; first | (refine State.Sound.cut (q := Q) x ?_ (fun hx => ?_); (on_goal 1 => subst x)) | (refine State.Sound.cutPair (q := Q) x ?_ (fun hx => ?_); (on_goal 1 => subst x)) | skip) | (with_reducible first | assumption | apply State.joinFailed_sound | apply State.setStep_sound | apply State.updChan_sound | apply State.forceRefresh_sound | apply State.takeSnapshot_sound) | intro x hx | intro _ | lift_lets -underBinder | split | (fail_if_no_progress with_reducible apply State.Sound.upd) | (with_reducible apply PairSound.mk) | clear_value *)

theorem execSnapshot_sound (seq : Nat) (m : SnapshotMsg) (hs : State.Sound Q s) : Out.Sound Q (execSnapshot seq m s) := by
  unfold execSnapshot
  repeat' (first | (intro x; first | (refine State.Sound.cut (q := Q) x ?_ (fun hx => ?_); (on_goal 1 => subst x)) | (refine State.Sound.cutPair (q := Q) x ?_ (fun hx => ?_); (on_goal 1 => subst x)) | skip) | (with_reducible first | assumption | apply State.onSnapshot_sound | apply State.pairMsg_sound | apply Out.Sound.next) | intro x hx | intro _ | lift_lets -underBinder | split | (fail_if_no_progress with_reducible apply State.Sound.upd) | (with_reducible apply PairSound.mk))

theorem State.onDecision_sound (c : Nat) (d : Decision) (hs : State.Sound Q s) : State.Sound Q (State.onDecision c d s) := by
  unfold State.onDecision
  repeat' (first | (intro x; first | (refine State.Sound.cut (q := Q) x ?_ (fun hx => ?_); (on_goal 1 => subst x)) | (refine State.Sound.cutPair (q := Q) x ?_ (fun hx => ?_); (on_goal 1 => subst x)) | skip) | (with_reducible first | assumption | apply State.placeRow_sound | apply State.joinFailed_sound | apply State.updChan_sound) | intro x hx | intro _ | lift_lets -underBinder | split | (fail_if_no_progress with_reducible apply State.Sound.upd) | (with_reducible apply PairSound.mk) | clear_value *)

theorem execDecision_sound (seq : Nat) (c : Nat) (n : Nat) (k : Nat) (cap : Nat) (qp : Nat) (floor : Bool) (e : Nat) (hs : State.Sound Q s) : Out.Sound Q (execDecision seq c n k cap qp floor e s) := by
  unfold execDecision
  repeat' (first | (intro x; first | (refine State.Sound.cut (q := Q) x ?_ (fun hx => ?_); (on_goal 1 => subst x)) | (refine State.Sound.cutPair (q := Q) x ?_ (fun hx => ?_); (on_goal 1 => subst x)) | skip) | (with_reducible first | assumption | apply State.onDecision_sound | apply State.pairMsg_sound | apply Out.Sound.next) | intro x hx | intro _ | lift_lets -underBinder | split | (fail_if_no_progress with_reducible apply State.Sound.upd) | (with_reducible apply PairSound.mk))

end Sys2Proof.Machine
end

