-- ==== Sys2Proof/Laws/SoundCheck.lean ====
section
/-! SUPPORT. Each operation of Machine/Check.lean keeps the queue and the canonical form. -/

set_option linter.all false
namespace Sys2Proof.Machine

variable {Q : List Instr} {s : State}

theorem State.showInfo_sound (p : Nat) (code : Nat) (info : Nat) (hs : State.Sound Q s) : State.Sound Q (State.showInfo s p code info) := by
  unfold State.showInfo
  repeat' (first | (intro x; first | (refine State.Sound.cut (q := Q) x ?_ (fun hx => ?_); (on_goal 1 => subst x)) | (refine State.Sound.cutPair (q := Q) x ?_ (fun hx => ?_); (on_goal 1 => subst x)) | skip) | (with_reducible first | assumption | apply State.setReg_sound | apply State.noteRead_sound) | intro x hx | intro _ | lift_lets -underBinder | split | (fail_if_no_progress with_reducible apply State.Sound.upd) | (with_reducible apply PairSound.mk) | clear_value *)

end Sys2Proof.Machine
end

