-- ==== Sys2Proof/Laws/SoundEth.lean ====
section
/-! SUPPORT. Each operation of Machine/Eth.lean keeps the queue and the canonical form. -/

set_option linter.all false
namespace Sys2Proof.Machine

variable {Q : List Instr} {s : State}

theorem State.echoPacket_sound (e : Nat) (rtp : List Byte) (hs : State.Sound Q s) : State.Sound Q (State.echoPacket s e rtp) := by
  unfold State.echoPacket
  repeat' (first | (intro x; first | (refine State.Sound.cut (q := Q) x ?_ (fun hx => ?_); (on_goal 1 => subst x)) | (refine State.Sound.cutPair (q := Q) x ?_ (fun hx => ?_); (on_goal 1 => subst x)) | skip) | (with_reducible first | assumption | apply State.err_sound | apply State.echoTag_sound) | intro x hx | intro _ | lift_lets -underBinder | split | (fail_if_no_progress with_reducible apply State.Sound.upd) | (with_reducible apply PairSound.mk) | clear_value *)

theorem State.forward_sound (n : Nat) (at' : Nat) (rtp : List Byte) (hs : State.Sound Q s) : State.Sound Q (State.forward s n at' rtp) := by
  unfold State.forward
  repeat' (first | (intro x; first | (refine State.Sound.cut (q := Q) x ?_ (fun hx => ?_); (on_goal 1 => subst x)) | (refine State.Sound.cutPair (q := Q) x ?_ (fun hx => ?_); (on_goal 1 => subst x)) | skip) | (with_reducible first | assumption | apply State.setDec_sound | refine State.Sound.foldl _ (fun _ _ _ => ?_) ?_ | refine PairSound.foldl _ (fun _ _ _ => ?_) ?_) | intro x hx | intro _ | lift_lets -underBinder | split | (fail_if_no_progress with_reducible apply State.Sound.upd) | (with_reducible apply PairSound.mk) | (with_reducible refine PairSound.of (by assumption)))

theorem State.mergeDrain_sound (k n : Nat) (h : State.Sound Q s) : State.Sound Q (State.mergeDrain k n s) := by
  induction n generalizing s with
  | zero => exact h
  | succ n ih =>
    unfold State.mergeDrain
    repeat' (first | (with_reducible apply ih) | first | (intro x; first | (refine State.Sound.cut (q := Q) x ?_ (fun hx => ?_); (on_goal 1 => subst x)) | (refine State.Sound.cutPair (q := Q) x ?_ (fun hx => ?_); (on_goal 1 => subst x)) | skip) | (with_reducible first | assumption | apply State.forward_sound | apply State.setInput_sound) | intro x hx | intro _ | lift_lets -underBinder | split | (fail_if_no_progress with_reducible apply State.Sound.upd) | (with_reducible apply PairSound.mk) | clear_value *)

theorem State.mergeJudge_sound (p : Nat) (hs : State.Sound Q s) : State.Sound Q (State.mergeJudge s p) := by
  unfold State.mergeJudge
  repeat' (first | (intro x; first | (refine State.Sound.cut (q := Q) x ?_ (fun hx => ?_); (on_goal 1 => subst x)) | (refine State.Sound.cutPair (q := Q) x ?_ (fun hx => ?_); (on_goal 1 => subst x)) | skip) | (with_reducible first | assumption | apply State.setInput_sound | apply State.err_sound | refine State.Sound.foldl _ (fun _ _ _ => ?_) ?_ | refine PairSound.foldl _ (fun _ _ _ => ?_) ?_) | intro x hx | intro _ | lift_lets -underBinder | split | (fail_if_no_progress with_reducible apply State.Sound.upd) | (with_reducible apply PairSound.mk) | (with_reducible refine PairSound.of (by assumption)))

theorem State.ipinCompressed_sound (n : Nat) (b : Nat) (rtp : List Byte) (hs : State.Sound Q s) : State.Sound Q (State.ipinCompressed s n b rtp) := by
  unfold State.ipinCompressed
  repeat' (first | (intro x; first | (refine State.Sound.cut (q := Q) x ?_ (fun hx => ?_); (on_goal 1 => subst x)) | (refine State.Sound.cutPair (q := Q) x ?_ (fun hx => ?_); (on_goal 1 => subst x)) | skip) | (with_reducible first | assumption | apply State.mergeJudge_sound | apply State.mergeDrain_sound | apply State.setInput_sound) | intro x hx | intro _ | lift_lets -underBinder | split | (fail_if_no_progress with_reducible apply State.Sound.upd) | (with_reducible apply PairSound.mk) | clear_value *)

theorem State.ipinPacket_sound (n : Nat) (b : Nat) (ip : List Byte) (hs : State.Sound Q s) : State.Sound Q (State.ipinPacket s n b ip) := by
  unfold State.ipinPacket
  repeat' (first | (intro x; first | (refine State.Sound.cut (q := Q) x ?_ (fun hx => ?_); (on_goal 1 => subst x)) | (refine State.Sound.cutPair (q := Q) x ?_ (fun hx => ?_); (on_goal 1 => subst x)) | skip) | (with_reducible first | assumption | apply State.ipinVideo_sound | apply State.ipinCompressed_sound | apply State.pathSeen_sound | apply State.police_sound | apply State.police_pair) | intro x hx | intro _ | lift_lets -underBinder | split | (fail_if_no_progress with_reducible apply State.Sound.upd) | (with_reducible apply PairSound.mk))

theorem execIpinSeqLost_sound (n : Nat) (hs : State.Sound Q s) : Out.Sound Q (execIpinSeqLost n s) := by
  unfold execIpinSeqLost
  repeat' (first | (intro x; first | (refine State.Sound.cut (q := Q) x ?_ (fun hx => ?_); (on_goal 1 => subst x)) | (refine State.Sound.cutPair (q := Q) x ?_ (fun hx => ?_); (on_goal 1 => subst x)) | skip) | (with_reducible first | assumption | apply State.mergeJudge_sound | apply State.mergeDrain_sound | apply State.err_sound | apply State.setInput_sound | apply State.event_sound | apply Out.Sound.next) | intro x hx | intro _ | lift_lets -underBinder | split | (fail_if_no_progress with_reducible apply State.Sound.upd) | (with_reducible apply PairSound.mk))

theorem State.ethDeliver_sound (p : Nat) (fr : List Byte) (back : Nat) (hs : State.Sound Q s) : State.Sound Q (State.ethDeliver s p fr back) := by
  unfold State.ethDeliver
  repeat' (first | (intro x; first | (refine State.Sound.cut (q := Q) x ?_ (fun hx => ?_); (on_goal 1 => subst x)) | (refine State.Sound.cutPair (q := Q) x ?_ (fun hx => ?_); (on_goal 1 => subst x)) | skip) | (with_reducible first | assumption | apply State.err_sound | apply State.hostRx_sound | apply State.hostRx_pair | apply State.ipinPacket_sound | apply State.echoPacket_sound | refine State.Sound.foldl _ (fun _ _ _ => ?_) ?_ | refine PairSound.foldl _ (fun _ _ _ => ?_) ?_) | intro x hx | intro _ | lift_lets -underBinder | split | (fail_if_no_progress with_reducible apply State.Sound.upd) | (with_reducible apply PairSound.mk) | clear_value * | (with_reducible refine PairSound.of (by assumption)))

theorem State.ethFrame_sound (p : Nat) (good : Bool) (fr : List Byte) (back : Nat) (hs : State.Sound Q s) : State.Sound Q (State.ethFrame s p good fr back) := by
  unfold State.ethFrame
  repeat' (first | (intro x; first | (refine State.Sound.cut (q := Q) x ?_ (fun hx => ?_); (on_goal 1 => subst x)) | (refine State.Sound.cutPair (q := Q) x ?_ (fun hx => ?_); (on_goal 1 => subst x)) | skip) | (with_reducible first | assumption | apply State.ethDeliver_sound | apply State.incFld_sound | apply State.err_sound) | intro x hx | intro _ | lift_lets -underBinder | split | (fail_if_no_progress with_reducible apply State.Sound.upd) | (with_reducible apply PairSound.mk))

theorem State.fecCount_sound (p : Nat) (corrected : Nat) (uncorr : Nat) (symbols : Nat) (hs : State.Sound Q s) : State.Sound Q (State.fecCount s p corrected uncorr symbols) := by
  unfold State.fecCount
  repeat' (first | (intro x; first | (refine State.Sound.cut (q := Q) x ?_ (fun hx => ?_); (on_goal 1 => subst x)) | (refine State.Sound.cutPair (q := Q) x ?_ (fun hx => ?_); (on_goal 1 => subst x)) | skip) | (with_reducible first | assumption | apply State.raise_sound | apply State.addFld_sound | apply State.errBy_sound) | intro x hx | intro _ | lift_lets -underBinder | split | (fail_if_no_progress with_reducible apply State.Sound.upd) | (with_reducible apply PairSound.mk))

theorem execEthFrameReceive_sound (p : Nat) (good : Bool) (fr : List Byte) (back : Nat) (corrected : Nat) (uncorr : Nat) (symbols : Nat) (hs : State.Sound Q s) : Out.Sound Q (execEthFrameReceive p good fr back corrected uncorr symbols s) := by
  unfold execEthFrameReceive
  repeat' (first | (intro x; first | (refine State.Sound.cut (q := Q) x ?_ (fun hx => ?_); (on_goal 1 => subst x)) | (refine State.Sound.cutPair (q := Q) x ?_ (fun hx => ?_); (on_goal 1 => subst x)) | skip) | (with_reducible first | assumption | apply State.ethFrame_sound | apply State.fecCount_sound | apply State.event_sound | apply Out.Sound.next) | intro x hx | intro _ | lift_lets -underBinder | split | (fail_if_no_progress with_reducible apply State.Sound.upd) | (with_reducible apply PairSound.mk))

theorem State.subWrite_sound (p : Nat) (n : Nat) (source : Bool) (v : Word) (hs : State.Sound Q s) : State.Sound Q (State.subWrite p n source v s) := by
  unfold State.subWrite
  repeat' (first | (intro x; first | (refine State.Sound.cut (q := Q) x ?_ (fun hx => ?_); (on_goal 1 => subst x)) | (refine State.Sound.cutPair (q := Q) x ?_ (fun hx => ?_); (on_goal 1 => subst x)) | skip) | (with_reducible first | assumption | apply State.reason_sound | apply State.setFld_sound) | intro x hx | intro _ | lift_lets -underBinder | split | (fail_if_no_progress with_reducible apply State.Sound.upd) | (with_reducible apply PairSound.mk))

theorem execSubWrite_sound (p : Nat) (n : Nat) (source : Bool) (v : Word) (hs : State.Sound Q s) : Out.Sound Q (execSubWrite p n source v s) := by
  unfold execSubWrite
  repeat' (first | (intro x; first | (refine State.Sound.cut (q := Q) x ?_ (fun hx => ?_); (on_goal 1 => subst x)) | (refine State.Sound.cutPair (q := Q) x ?_ (fun hx => ?_); (on_goal 1 => subst x)) | skip) | (with_reducible first | assumption | apply State.subWrite_sound | apply State.onPage_sound | apply Out.Sound.next) | intro x hx | intro _ | lift_lets -underBinder | split | (fail_if_no_progress with_reducible apply State.Sound.upd) | (with_reducible apply PairSound.mk))

theorem State.hostTx_sound (p : Nat) (rec : List Byte) (hs : State.Sound Q s) : State.Sound Q (State.hostTx s p rec) := by
  unfold State.hostTx
  repeat' (first | (intro x; first | (refine State.Sound.cut (q := Q) x ?_ (fun hx => ?_); (on_goal 1 => subst x)) | (refine State.Sound.cutPair (q := Q) x ?_ (fun hx => ?_); (on_goal 1 => subst x)) | skip) | (with_reducible first | assumption | apply State.txStamp_sound) | intro x hx | intro _ | lift_lets -underBinder | split | (fail_if_no_progress with_reducible apply State.Sound.upd) | (with_reducible apply PairSound.mk))

theorem execHostTxRecord_sound (p : Nat) (hs : State.Sound Q s) : Out.Sound Q (execHostTxRecord p s) := by
  unfold execHostTxRecord
  repeat' (first | (intro x; first | (refine State.Sound.cut (q := Q) x ?_ (fun hx => ?_); (on_goal 1 => subst x)) | (refine State.Sound.cutPair (q := Q) x ?_ (fun hx => ?_); (on_goal 1 => subst x)) | skip) | (with_reducible first | assumption | apply State.hostTx_sound | apply State.event_sound | apply Out.Sound.next) | intro x hx | intro _ | lift_lets -underBinder | split | (fail_if_no_progress with_reducible apply State.Sound.upd) | (with_reducible apply PairSound.mk) | clear_value * | (with_reducible refine State.takeRecord_some ?_ (by assumption)))

theorem execFrameTransmitEnd_sound (p : Nat) (back : Nat) (hs : State.Sound Q s) : Out.Sound Q (execFrameTransmitEnd p back s) := by
  unfold execFrameTransmitEnd
  repeat' (first | (intro x; first | (refine State.Sound.cut (q := Q) x ?_ (fun hx => ?_); (on_goal 1 => subst x)) | (refine State.Sound.cutPair (q := Q) x ?_ (fun hx => ?_); (on_goal 1 => subst x)) | skip) | (with_reducible first | assumption | apply State.txStamp_sound | apply State.incFld_sound | apply State.txEnd_sound | apply State.event_sound | apply Out.Sound.next) | intro x hx | intro _ | lift_lets -underBinder | split | (fail_if_no_progress with_reducible apply State.Sound.upd) | (with_reducible apply PairSound.mk) | clear_value *)

end Sys2Proof.Machine
end

