-- ==== Sys2Proof/Laws/SoundDecIn.lean ====
section
/-! SUPPORT. Each operation of Machine/DecIn.lean keeps the queue and the canonical form. -/

set_option linter.all false
namespace Sys2Proof.Machine

variable {Q : List Instr} {s : State}

theorem State.updDec_sound (d : Nat) (f : DecState → DecState) (hs : State.Sound Q s) : State.Sound Q (State.updDec s d f) := by
  unfold State.updDec
  repeat' (first | (intro x; first | (refine State.Sound.cut (q := Q) x ?_ (fun hx => ?_); (on_goal 1 => subst x)) | (refine State.Sound.cutPair (q := Q) x ?_ (fun hx => ?_); (on_goal 1 => subst x)) | skip) | (with_reducible first | assumption | apply State.setDec_sound) | intro x hx | intro _ | lift_lets -underBinder | split | (fail_if_no_progress with_reducible apply State.Sound.upd) | (with_reducible apply PairSound.mk))

theorem State.decErrors_sound (d : Nat) (n : Nat) (hs : State.Sound Q s) : State.Sound Q (State.decErrors s d n) := by
  unfold State.decErrors
  repeat' (first | (intro x; first | (refine State.Sound.cut (q := Q) x ?_ (fun hx => ?_); (on_goal 1 => subst x)) | (refine State.Sound.cutPair (q := Q) x ?_ (fun hx => ?_); (on_goal 1 => subst x)) | skip) | (with_reducible first | assumption | apply State.raise_sound | apply State.errBy_sound) | intro x hx | intro _ | lift_lets -underBinder | split | (fail_if_no_progress with_reducible apply State.Sound.upd) | (with_reducible apply PairSound.mk))

theorem State.cpbLevel_sound (d : Nat) (hs : State.Sound Q s) : State.Sound Q (State.cpbLevel s d) := by
  unfold State.cpbLevel
  repeat' (first | (intro x; first | (refine State.Sound.cut (q := Q) x ?_ (fun hx => ?_); (on_goal 1 => subst x)) | (refine State.Sound.cutPair (q := Q) x ?_ (fun hx => ?_); (on_goal 1 => subst x)) | skip) | (with_reducible first | assumption | apply State.setFld_sound) | intro x hx | intro _ | lift_lets -underBinder | split | (fail_if_no_progress with_reducible apply State.Sound.upd) | (with_reducible apply PairSound.mk))

theorem State.decPhase_sound (d : Nat) (n : Nat) (at' : Nat) (hs : State.Sound Q s) : State.Sound Q (State.decPhase s d n at') := by
  unfold State.decPhase
  repeat' (first | (intro x; first | (refine State.Sound.cut (q := Q) x ?_ (fun hx => ?_); (on_goal 1 => subst x)) | (refine State.Sound.cutPair (q := Q) x ?_ (fun hx => ?_); (on_goal 1 => subst x)) | skip) | (with_reducible first | assumption | apply State.raise_sound | apply State.setReg_sound) | intro x hx | intro _ | lift_lets -underBinder | split | (fail_if_no_progress with_reducible apply State.Sound.upd) | (with_reducible apply PairSound.mk))

theorem State.decDup_sound (d : Nat) (hs : State.Sound Q s) : State.Sound Q (State.decDup s d) := by
  unfold State.decDup
  repeat' (first | (intro x; first | (refine State.Sound.cut (q := Q) x ?_ (fun hx => ?_); (on_goal 1 => subst x)) | (refine State.Sound.cutPair (q := Q) x ?_ (fun hx => ?_); (on_goal 1 => subst x)) | skip) | (with_reducible first | assumption | apply State.err_sound | apply State.raise_sound) | intro x hx | intro _ | lift_lets -underBinder | split | (fail_if_no_progress with_reducible apply State.Sound.upd) | (with_reducible apply PairSound.mk))

theorem State.auEnd_sound (d : Nat) (hs : State.Sound Q s) : State.Sound Q (State.auEnd s d) := by
  unfold State.auEnd
  repeat' (first | (intro x; first | (refine State.Sound.cut (q := Q) x ?_ (fun hx => ?_); (on_goal 1 => subst x)) | (refine State.Sound.cutPair (q := Q) x ?_ (fun hx => ?_); (on_goal 1 => subst x)) | skip) | (with_reducible first | assumption | apply State.updDec_sound) | intro x hx | intro _ | lift_lets -underBinder | split | (fail_if_no_progress with_reducible apply State.Sound.upd) | (with_reducible apply PairSound.mk))

theorem State.auBegin_sound (d : Nat) (index : Option Nat) (at' : Nat) (ts : Nat) (hs : State.Sound Q s) : State.Sound Q (State.auBegin s d index at' ts) := by
  unfold State.auBegin
  dsimp only
  repeat' (first | (intro x; first | (refine State.Sound.cut (q := Q) x ?_ (fun hx => ?_); (on_goal 1 => subst x)) | (refine State.Sound.cutPair (q := Q) x ?_ (fun hx => ?_); (on_goal 1 => subst x)) | skip) | (with_reducible first | assumption | apply State.decDup_sound | apply State.decPhase_sound | apply State.updDec_sound) | intro x hx | intro _ | lift_lets -underBinder | split | (fail_if_no_progress with_reducible apply State.Sound.upd) | (with_reducible apply PairSound.mk) | clear_value *)

theorem State.cpbPut_sound (d o : Nat) (bs more : List Byte) (hs : State.Sound Q s) : State.Sound Q (State.cpbPut s d o bs more) := by
  unfold State.cpbPut
  exact State.devWriteUnits_sound _ _ _ _ (State.devWriteUnits_sound _ _ _ _ hs)

theorem State.cpbWrite_sound (d : Nat) (pos : Nat) (bs : List Byte) (hs : State.Sound Q s) : State.Sound Q (State.cpbWrite s d pos bs) := by
  unfold State.cpbWrite
  repeat' (first | (intro x; first | (refine State.Sound.cut (q := Q) x ?_ (fun hx => ?_); (on_goal 1 => subst x)) | (refine State.Sound.cutPair (q := Q) x ?_ (fun hx => ?_); (on_goal 1 => subst x)) | skip) | (with_reducible first | assumption | apply State.cpbPut_sound) | intro x hx | intro _ | lift_lets -underBinder | split | (fail_if_no_progress with_reducible apply State.Sound.upd) | (with_reducible apply PairSound.mk))

theorem State.auBytes_sound (d : Nat) (new : Bool) (bs : List Byte) (hs : State.Sound Q s) : State.Sound Q (State.auBytes s d new bs) := by
  unfold State.auBytes
  repeat' (first | (intro x; first | (refine State.Sound.cut (q := Q) x ?_ (fun hx => ?_); (on_goal 1 => subst x)) | (refine State.Sound.cutPair (q := Q) x ?_ (fun hx => ?_); (on_goal 1 => subst x)) | skip) | (with_reducible first | assumption | apply State.err_sound | apply State.raise_sound | apply State.updDec_sound | apply State.cpbWrite_sound) | intro x hx | intro _ | lift_lets -underBinder | split | (fail_if_no_progress with_reducible apply State.Sound.upd) | (with_reducible apply PairSound.mk) | clear_value *)

theorem State.decRecord_sound (d : Nat) (rec : List Byte) (disc : Bool) (hs : State.Sound Q s) : State.Sound Q (State.decRecord s d rec disc) := by
  unfold State.decRecord
  repeat' (first | (intro x; first | (refine State.Sound.cut (q := Q) x ?_ (fun hx => ?_); (on_goal 1 => subst x)) | (refine State.Sound.cutPair (q := Q) x ?_ (fun hx => ?_); (on_goal 1 => subst x)) | skip) | (with_reducible first | assumption | apply State.auBytes_sound | apply State.auBegin_sound | apply State.auEnd_sound | apply State.cutOff_sound | apply State.updDec_sound | apply State.decErrors_sound) | intro x hx | intro _ | lift_lets -underBinder | split | (fail_if_no_progress with_reducible apply State.Sound.upd) | (with_reducible apply PairSound.mk) | clear_value *)

theorem State.rtpNal_sound (d : Nat) (at' : Nat) (ts : Nat) (nal : List Byte) (hs : State.Sound Q s) : State.Sound Q (State.rtpNal d at' ts s nal) := by
  unfold State.rtpNal
  repeat' (first | (intro x; first | (refine State.Sound.cut (q := Q) x ?_ (fun hx => ?_); (on_goal 1 => subst x)) | (refine State.Sound.cutPair (q := Q) x ?_ (fun hx => ?_); (on_goal 1 => subst x)) | skip) | (with_reducible first | assumption | apply State.updDec_sound | apply State.auBytes_sound | apply State.auBegin_sound | apply State.auEnd_sound) | intro x hx | intro _ | lift_lets -underBinder | split | (fail_if_no_progress with_reducible apply State.Sound.upd) | (with_reducible apply PairSound.mk) | clear_value *)

theorem State.rtpFragment_sound (d : Nat) (at' : Nat) (ts : Nat) (pl : List Byte) (hs : State.Sound Q s) : State.Sound Q (State.rtpFragment s d at' ts pl) := by
  unfold State.rtpFragment
  repeat' (first | (intro x; first | (refine State.Sound.cut (q := Q) x ?_ (fun hx => ?_); (on_goal 1 => subst x)) | (refine State.Sound.cutPair (q := Q) x ?_ (fun hx => ?_); (on_goal 1 => subst x)) | skip) | (with_reducible first | assumption | apply State.auBytes_sound | apply State.updDec_sound | apply State.rtpNal_sound) | intro x hx | intro _ | lift_lets -underBinder | split | (fail_if_no_progress with_reducible apply State.Sound.upd) | (with_reducible apply PairSound.mk))

theorem State.rtpInput_sound (d : Nat) (at' : Nat) (pkt : List Byte) (hs : State.Sound Q s) : State.Sound Q (State.rtpInput s d at' pkt) := by
  unfold State.rtpInput
  repeat' (first | (intro x; first | (refine State.Sound.cut (q := Q) x ?_ (fun hx => ?_); (on_goal 1 => subst x)) | (refine State.Sound.cutPair (q := Q) x ?_ (fun hx => ?_); (on_goal 1 => subst x)) | skip) | (with_reducible first | assumption | apply State.auEnd_sound | apply State.rtpFragment_sound | apply State.rtpNal_sound | apply State.updDec_sound | refine State.Sound.foldl _ (fun _ _ _ => ?_) ?_ | refine PairSound.foldl _ (fun _ _ _ => ?_) ?_) | intro x hx | intro _ | lift_lets -underBinder | split | (fail_if_no_progress with_reducible apply State.Sound.upd) | (with_reducible apply PairSound.mk) | (with_reducible refine PairSound.of (by assumption)))

theorem State.pesBytes_sound (d : Nat) (bs : List Byte) (hs : State.Sound Q s) : State.Sound Q (State.pesBytes s d bs) := by
  unfold State.pesBytes
  repeat' (first | (intro x; first | (refine State.Sound.cut (q := Q) x ?_ (fun hx => ?_); (on_goal 1 => subst x)) | (refine State.Sound.cutPair (q := Q) x ?_ (fun hx => ?_); (on_goal 1 => subst x)) | skip) | (with_reducible first | assumption | apply State.auEnd_sound | apply State.updDec_sound | apply State.auBytes_sound) | intro x hx | intro _ | lift_lets -underBinder | split | (fail_if_no_progress with_reducible apply State.Sound.upd) | (with_reducible apply PairSound.mk) | clear_value *)

theorem State.tsInput_sound (d : Nat) (at' : Nat) (b : List Byte) (hs : State.Sound Q s) : State.Sound Q (State.tsInput d at' s b) := by
  unfold State.tsInput
  repeat' (first | (intro x; first | (refine State.Sound.cut (q := Q) x ?_ (fun hx => ?_); (on_goal 1 => subst x)) | (refine State.Sound.cutPair (q := Q) x ?_ (fun hx => ?_); (on_goal 1 => subst x)) | skip) | (with_reducible first | assumption | apply State.pesBytes_sound | apply State.updDec_sound | apply State.auBegin_sound | apply State.auEnd_sound) | intro x hx | intro _ | lift_lets -underBinder | split | (fail_if_no_progress with_reducible apply State.Sound.upd) | (with_reducible apply PairSound.mk))

theorem execDecInputRecord_sound (d : Nat) (hs : State.Sound Q s) : Out.Sound Q (execDecInputRecord d s) := by
  unfold execDecInputRecord
  repeat' (first | (intro x; first | (refine State.Sound.cut (q := Q) x ?_ (fun hx => ?_); (on_goal 1 => subst x)) | (refine State.Sound.cutPair (q := Q) x ?_ (fun hx => ?_); (on_goal 1 => subst x)) | skip) | (with_reducible first | assumption | apply State.tsInput_sound | apply State.rtpInput_sound | apply State.updDec_sound | apply State.cpbLevel_sound | apply State.decRecord_sound | apply State.setRing_sound | apply State.event_sound | apply Out.Sound.next | refine State.Sound.foldl _ (fun _ _ _ => ?_) ?_ | refine PairSound.foldl _ (fun _ _ _ => ?_) ?_) | intro x hx | intro _ | lift_lets -underBinder | split | (fail_if_no_progress with_reducible apply State.Sound.upd) | (with_reducible apply PairSound.mk) | clear_value * | (with_reducible refine PairSound.of (by assumption)) | (with_reducible refine State.takeRecord_some ?_ (by assumption)))

end Sys2Proof.Machine
end

