-- ==== Sys2Proof/Laws/SoundDec.lean ====
section
/-! SUPPORT. Each operation of Machine/Dec.lean keeps the queue and the canonical form. -/

set_option linter.all false
namespace Sys2Proof.Machine

variable {Q : List Instr} {s : State}

theorem State.streamInfo_sound (d : Nat) (o : SpsRead) (donl : Bool) (hs : State.Sound Q s) : State.Sound Q (State.streamInfo s d o donl) := by
  unfold State.streamInfo
  repeat' (first | (intro x; first | (refine State.Sound.cut (q := Q) x ?_ (fun hx => ?_); (on_goal 1 => subst x)) | (refine State.Sound.cutPair (q := Q) x ?_ (fun hx => ?_); (on_goal 1 => subst x)) | skip) | (with_reducible first | assumption | apply State.setFld_sound) | intro x hx | intro _ | lift_lets -underBinder | split | (fail_if_no_progress with_reducible apply State.Sound.upd) | (with_reducible apply PairSound.mk))

theorem State.markBegin_sound (d : Nat) (hs : State.Sound Q s) : State.Sound Q (State.markBegin s d) := by
  unfold State.markBegin
  repeat' (first | (intro x; first | (refine State.Sound.cut (q := Q) x ?_ (fun hx => ?_); (on_goal 1 => subst x)) | (refine State.Sound.cutPair (q := Q) x ?_ (fun hx => ?_); (on_goal 1 => subst x)) | skip) | (with_reducible first | assumption | apply State.raise_sound | apply State.rawTo_sound | apply State.setFld_sound) | intro x hx | intro _ | lift_lets -underBinder | split | (fail_if_no_progress with_reducible apply State.Sound.upd) | (with_reducible apply PairSound.mk))

theorem State.markEnd_sound (d : Nat) (hs : State.Sound Q s) : State.Sound Q (State.markEnd s d) := by
  unfold State.markEnd
  repeat' (first | (intro x; first | (refine State.Sound.cut (q := Q) x ?_ (fun hx => ?_); (on_goal 1 => subst x)) | (refine State.Sound.cutPair (q := Q) x ?_ (fun hx => ?_); (on_goal 1 => subst x)) | skip) | (with_reducible first | assumption | apply State.raise_sound | apply State.rawTo_sound | apply State.setFld_sound) | intro x hx | intro _ | lift_lets -underBinder | split | (fail_if_no_progress with_reducible apply State.Sound.upd) | (with_reducible apply PairSound.mk))

theorem State.markShow_pair (d : Nat) (x : DecPic) (hs : State.Sound Q s) : PairSound Q (State.markShow s d x) := by
  unfold State.markShow
  repeat' (first | (intro x; first | (refine State.Sound.cut (q := Q) x ?_ (fun hx => ?_); (on_goal 1 => subst x)) | (refine State.Sound.cutPair (q := Q) x ?_ (fun hx => ?_); (on_goal 1 => subst x)) | skip) | (with_reducible first | assumption | apply State.markBegin_sound | apply State.err_sound | apply State.markEnd_sound) | intro x hx | intro _ | lift_lets -underBinder | split | (fail_if_no_progress with_reducible apply State.Sound.upd) | (with_reducible apply PairSound.mk))

theorem State.markShow_sound (d : Nat) (x : DecPic) (hs : State.Sound Q s) : State.Sound Q (State.markShow s d x).1 :=
  State.markShow_pair d x hs

theorem State.decStatus_sound (d : Nat) (rec : List Byte) (hs : State.Sound Q s) : State.Sound Q (State.decStatus s d rec) := by
  unfold State.decStatus
  repeat' (first | (intro x; first | (refine State.Sound.cut (q := Q) x ?_ (fun hx => ?_); (on_goal 1 => subst x)) | (refine State.Sound.cutPair (q := Q) x ?_ (fun hx => ?_); (on_goal 1 => subst x)) | skip) | (with_reducible first | assumption | apply State.err_sound | apply State.raise_sound | apply State.offer_sound | apply State.offer_pair) | intro x hx | intro _ | lift_lets -underBinder | split | (fail_if_no_progress with_reducible apply State.Sound.upd) | (with_reducible apply PairSound.mk))

theorem State.setSdo_sound (n : Nat) (x : SdoState) (hs : State.Sound Q s) : State.Sound Q (State.setSdo s n x) := by
  unfold State.setSdo
  repeat' (first | (intro x; first | (refine State.Sound.cut (q := Q) x ?_ (fun hx => ?_); (on_goal 1 => subst x)) | (refine State.Sound.cutPair (q := Q) x ?_ (fun hx => ?_); (on_goal 1 => subst x)) | skip) | (with_reducible first | assumption) | intro x hx | intro _ | lift_lets -underBinder | split | (fail_if_no_progress with_reducible apply State.Sound.upd) | (with_reducible apply PairSound.mk))

theorem State.lateFill_sound (d : Nat) (m : Nat) (rows : Nat) (groups : Tab Nat) (hs : State.Sound Q s) : State.Sound Q (State.lateFill s d m rows groups) := by
  unfold State.lateFill
  repeat' (first | (intro x; first | (refine State.Sound.cut (q := Q) x ?_ (fun hx => ?_); (on_goal 1 => subst x)) | (refine State.Sound.cutPair (q := Q) x ?_ (fun hx => ?_); (on_goal 1 => subst x)) | skip) | (with_reducible first | assumption | apply State.setSdo_sound | apply State.updPic_sound | refine State.Sound.foldl _ (fun _ _ _ => ?_) ?_ | refine PairSound.foldl _ (fun _ _ _ => ?_) ?_) | intro x hx | intro _ | lift_lets -underBinder | split | (fail_if_no_progress with_reducible apply State.Sound.upd) | (with_reducible apply PairSound.mk) | (with_reducible refine PairSound.of (by assumption)))

theorem State.lateDone_sound (d : Nat) (m : Nat) (x : DecPic) (groups : Tab Nat) (hs : State.Sound Q s) : State.Sound Q (State.lateDone s d m x groups) := by
  unfold State.lateDone
  repeat' (first | (intro x; first | (refine State.Sound.cut (q := Q) x ?_ (fun hx => ?_); (on_goal 1 => subst x)) | (refine State.Sound.cutPair (q := Q) x ?_ (fun hx => ?_); (on_goal 1 => subst x)) | skip) | (with_reducible first | assumption | apply State.decStatus_sound | apply State.updDec_sound | apply State.markBegin_sound | apply State.markEnd_sound | apply State.lateFill_sound) | intro x hx | intro _ | lift_lets -underBinder | split | (fail_if_no_progress with_reducible apply State.Sound.upd) | (with_reducible apply PairSound.mk))

theorem State.generate_sound (d : Nat) (p : SpsRead) (r : AuRead) (dpb : List DecFrame) (hs : State.Sound Q s) : State.Sound Q (State.generate s d p r dpb) := by
  unfold State.generate
  repeat' (first | (intro x; first | (refine State.Sound.cut (q := Q) x ?_ (fun hx => ?_); (on_goal 1 => subst x)) | (refine State.Sound.cutPair (q := Q) x ?_ (fun hx => ?_); (on_goal 1 => subst x)) | skip) | (with_reducible first | assumption | apply State.updDec_sound | apply State.slotWrite_sound | apply State.slotTouch_sound | refine State.Sound.foldl _ (fun _ _ _ => ?_) ?_ | refine PairSound.foldl _ (fun _ _ _ => ?_) ?_) | intro x hx | intro _ | lift_lets -underBinder | split | (fail_if_no_progress with_reducible apply State.Sound.upd) | (with_reducible apply PairSound.mk) | clear_value * | (with_reducible refine PairSound.of (by assumption)))

theorem State.finishPic_sound (d : Nat) (a : AccessUnit) (k : DecHead × AuRead) (p : SpsRead) (n : Option Nat) (hs : State.Sound Q s) : State.Sound Q (State.finishPic s d a k p n) := by
  unfold State.finishPic
  repeat' (first | (intro x; first | (refine State.Sound.cut (q := Q) x ?_ (fun hx => ?_); (on_goal 1 => subst x)) | (refine State.Sound.cutPair (q := Q) x ?_ (fun hx => ?_); (on_goal 1 => subst x)) | skip) | (with_reducible first | assumption | apply State.lateDone_sound | apply State.tookFree_sound | apply State.err_sound | apply State.raise_sound | apply State.errBy_sound | apply State.slotWrite_sound | apply State.slotTouch_sound | apply State.generate_sound | apply State.updDec_sound | refine State.Sound.foldl _ (fun _ _ _ => ?_) ?_ | refine PairSound.foldl _ (fun _ _ _ => ?_) ?_) | intro x hx | intro _ | lift_lets -underBinder | split | (fail_if_no_progress with_reducible apply State.Sound.upd) | (with_reducible apply PairSound.mk) | clear_value * | (with_reducible refine PairSound.of (by assumption)))

theorem State.auLeave_sound (d : Nat) (a : AccessUnit) (hs : State.Sound Q s) : State.Sound Q (State.auLeave s d a) := by
  unfold State.auLeave
  repeat' (first | (intro x; first | (refine State.Sound.cut (q := Q) x ?_ (fun hx => ?_); (on_goal 1 => subst x)) | (refine State.Sound.cutPair (q := Q) x ?_ (fun hx => ?_); (on_goal 1 => subst x)) | skip) | (with_reducible first | assumption | apply State.cpbLevel_sound | apply State.updDec_sound | apply State.cpbTouch_sound) | intro x hx | intro _ | lift_lets -underBinder | split | (fail_if_no_progress with_reducible apply State.Sound.upd) | (with_reducible apply PairSound.mk))

theorem State.auIndexed_pair (d : Nat) (a : AccessUnit) (n : Nat) (hs : State.Sound Q s) : PairSound Q (State.auIndexed s d a n) := by
  unfold State.auIndexed
  repeat' (first | (intro x; first | (refine State.Sound.cut (q := Q) x ?_ (fun hx => ?_); (on_goal 1 => subst x)) | (refine State.Sound.cutPair (q := Q) x ?_ (fun hx => ?_); (on_goal 1 => subst x)) | skip) | (with_reducible first | assumption | apply State.updDec_sound | apply State.decDup_sound | apply State.decPhase_sound) | intro x hx | intro _ | lift_lets -underBinder | split | (fail_if_no_progress with_reducible apply State.Sound.upd) | (with_reducible apply PairSound.mk))

theorem State.auIndexed_sound (d : Nat) (a : AccessUnit) (n : Nat) (hs : State.Sound Q s) : State.Sound Q (State.auIndexed s d a n).1 :=
  State.auIndexed_pair d a n hs

theorem State.decoded_sound (d : Nat) (a : AccessUnit) (k : DecHead × AuRead) (n : Option Nat) (hs : State.Sound Q s) : State.Sound Q (State.decoded s d a k n) := by
  unfold State.decoded
  repeat' (first | (intro x; first | (refine State.Sound.cut (q := Q) x ?_ (fun hx => ?_); (on_goal 1 => subst x)) | (refine State.Sound.cutPair (q := Q) x ?_ (fun hx => ?_); (on_goal 1 => subst x)) | skip) | (with_reducible first | assumption | apply State.raise_sound | apply State.finishPic_sound | apply State.streamInfo_sound | apply State.auLeave_sound | apply State.decErrors_sound | apply State.updDec_sound) | intro x hx | intro _ | lift_lets -underBinder | split | (fail_if_no_progress with_reducible apply State.Sound.upd) | (with_reducible apply PairSound.mk) | clear_value *)

theorem State.decProgress_sound (d : Nat) (i : Nat) (a : AccessUnit) (k : DecHead × AuRead) (p : SpsRead) (rows : Nat) (hs : State.Sound Q s) : State.Sound Q (State.decProgress s d i a k p rows) := by
  unfold State.decProgress
  repeat' (first | (intro x; first | (refine State.Sound.cut (q := Q) x ?_ (fun hx => ?_); (on_goal 1 => subst x)) | (refine State.Sound.cutPair (q := Q) x ?_ (fun hx => ?_); (on_goal 1 => subst x)) | skip) | (with_reducible first | assumption | apply State.lateFill_sound | apply State.tookFree_sound | apply State.updDec_sound) | intro x hx | intro _ | lift_lets -underBinder | split | (fail_if_no_progress with_reducible apply State.Sound.upd) | (with_reducible apply PairSound.mk) | clear_value *)

theorem execDecPictureDecoded_sound (d : Nat) (rows : Nat) (hs : State.Sound Q s) : Out.Sound Q (execDecPictureDecoded d rows s) := by
  unfold execDecPictureDecoded
  repeat' (first | (intro x; first | (refine State.Sound.cut (q := Q) x ?_ (fun hx => ?_); (on_goal 1 => subst x)) | (refine State.Sound.cutPair (q := Q) x ?_ (fun hx => ?_); (on_goal 1 => subst x)) | skip) | (with_reducible first | assumption | apply State.decProgress_sound | apply State.auLeave_sound | apply State.auIndexed_sound | apply State.auIndexed_pair | apply State.updDec_sound | apply State.decoded_sound | apply State.event_sound | apply Out.Sound.next) | intro x hx | intro _ | lift_lets -underBinder | split | (fail_if_no_progress with_reducible apply State.Sound.upd) | (with_reducible apply PairSound.mk) | clear_value *)

theorem State.toSource_sound (d : Nat) (m : Nat) (groups : Tab Nat) (hs : State.Sound Q s) : State.Sound Q (State.toSource s d m groups) := by
  unfold State.toSource
  repeat' (first | (intro x; first | (refine State.Sound.cut (q := Q) x ?_ (fun hx => ?_); (on_goal 1 => subst x)) | (refine State.Sound.cutPair (q := Q) x ?_ (fun hx => ?_); (on_goal 1 => subst x)) | skip) | (with_reducible first | assumption | apply State.setInput_sound) | intro x hx | intro _ | lift_lets -underBinder | split | (fail_if_no_progress with_reducible apply State.Sound.upd) | (with_reducible apply PairSound.mk))

theorem State.lateOver_sound (d : Nat) (hs : State.Sound Q s) : State.Sound Q (State.lateOver s d) := by
  unfold State.lateOver
  repeat' (first | (intro x; first | (refine State.Sound.cut (q := Q) x ?_ (fun hx => ?_); (on_goal 1 => subst x)) | (refine State.Sound.cutPair (q := Q) x ?_ (fun hx => ?_); (on_goal 1 => subst x)) | skip) | (with_reducible first | assumption | apply State.decStatus_sound | apply State.updDec_sound) | intro x hx | intro _ | lift_lets -underBinder | split | (fail_if_no_progress with_reducible apply State.Sound.upd) | (with_reducible apply PairSound.mk) | clear_value *)

theorem State.decPresent_sound (d : Nat) (m : Nat) (hs : State.Sound Q s0) : State.Sound Q (State.decPresent s0 d m) := by
  unfold State.decPresent
  repeat' (first | (intro x; first | (refine State.Sound.cut (q := Q) x ?_ (fun hx => ?_); (on_goal 1 => subst x)) | (refine State.Sound.cutPair (q := Q) x ?_ (fun hx => ?_); (on_goal 1 => subst x)) | skip) | (with_reducible first | assumption | apply State.err_sound | apply State.raise_sound | apply State.decStatus_sound | apply State.put64L_sound | apply State.tookFree_sound | apply State.toSource_sound | apply State.markShow_sound | apply State.markShow_pair | apply State.slotTouch_sound | apply State.updDec_sound | apply State.lateOver_sound) | intro x hx | intro _ | lift_lets -underBinder | split | (fail_if_no_progress with_reducible apply State.Sound.upd) | (with_reducible apply PairSound.mk) | clear_value *)

theorem State.presentAll_sound (g : Nat) (m : Nat) (hs : State.Sound Q s) : State.Sound Q (State.presentAll s g m) := by
  unfold State.presentAll
  repeat' (first | (intro x; first | (refine State.Sound.cut (q := Q) x ?_ (fun hx => ?_); (on_goal 1 => subst x)) | (refine State.Sound.cutPair (q := Q) x ?_ (fun hx => ?_); (on_goal 1 => subst x)) | skip) | (with_reducible first | assumption | apply State.decPresent_sound | refine State.Sound.foldl _ (fun _ _ _ => ?_) ?_ | refine PairSound.foldl _ (fun _ _ _ => ?_) ?_) | intro x hx | intro _ | lift_lets -underBinder | split | (fail_if_no_progress with_reducible apply State.Sound.upd) | (with_reducible apply PairSound.mk) | (with_reducible refine PairSound.of (by assumption)))

theorem State.decEnter_sound (d : Nat) (hs : State.Sound Q s) : State.Sound Q (State.decEnter s d) := by
  unfold State.decEnter
  repeat' (first | (intro x; first | (refine State.Sound.cut (q := Q) x ?_ (fun hx => ?_); (on_goal 1 => subst x)) | (refine State.Sound.cutPair (q := Q) x ?_ (fun hx => ?_); (on_goal 1 => subst x)) | skip) | (with_reducible first | assumption | apply State.inputOn_sound | apply State.setDec_sound) | intro x hx | intro _ | lift_lets -underBinder | split | (fail_if_no_progress with_reducible apply State.Sound.upd) | (with_reducible apply PairSound.mk))

theorem State.sdoDriven_sound (hs : State.Sound Q s) : State.Sound Q (State.sdoDriven s) := by
  unfold State.sdoDriven
  repeat' (first | (intro x; first | (refine State.Sound.cut (q := Q) x ?_ (fun hx => ?_); (on_goal 1 => subst x)) | (refine State.Sound.cutPair (q := Q) x ?_ (fun hx => ?_); (on_goal 1 => subst x)) | skip) | (with_reducible first | assumption | apply State.setFld_sound | refine State.Sound.foldl _ (fun _ _ _ => ?_) ?_ | refine PairSound.foldl _ (fun _ _ _ => ?_) ?_) | intro x hx | intro _ | lift_lets -underBinder | split | (fail_if_no_progress with_reducible apply State.Sound.upd) | (with_reducible apply PairSound.mk) | (with_reducible refine PairSound.of (by assumption)))

theorem State.sdoEnter_sound (n : Nat) (hs : State.Sound Q s) : State.Sound Q (State.sdoEnter s n) := by
  unfold State.sdoEnter
  repeat' (first | (intro x; first | (refine State.Sound.cut (q := Q) x ?_ (fun hx => ?_); (on_goal 1 => subst x)) | (refine State.Sound.cutPair (q := Q) x ?_ (fun hx => ?_); (on_goal 1 => subst x)) | skip) | (with_reducible first | assumption | apply State.setSdo_sound | apply State.sdoDriven_sound | apply State.setFld_sound) | intro x hx | intro _ | lift_lets -underBinder | split | (fail_if_no_progress with_reducible apply State.Sound.upd) | (with_reducible apply PairSound.mk))

theorem State.sdoAlign_sound (n : Nat) (m : Nat) (hs : State.Sound Q s) : State.Sound Q (State.sdoAlign s n m) := by
  unfold State.sdoAlign
  repeat' (first | (intro x; first | (refine State.Sound.cut (q := Q) x ?_ (fun hx => ?_); (on_goal 1 => subst x)) | (refine State.Sound.cutPair (q := Q) x ?_ (fun hx => ?_); (on_goal 1 => subst x)) | skip) | (with_reducible first | assumption | apply State.err_sound | apply State.raise_sound | apply State.setSdo_sound | apply State.setReg_sound) | intro x hx | intro _ | lift_lets -underBinder | split | (fail_if_no_progress with_reducible apply State.Sound.upd) | (with_reducible apply PairSound.mk))

theorem State.sdoSend_sound (n : Nat) (m : Nat) (hs : State.Sound Q s) : State.Sound Q (State.sdoSend s n m) := by
  unfold State.sdoSend
  repeat' (first | (intro x; first | (refine State.Sound.cut (q := Q) x ?_ (fun hx => ?_); (on_goal 1 => subst x)) | (refine State.Sound.cutPair (q := Q) x ?_ (fun hx => ?_); (on_goal 1 => subst x)) | skip) | (with_reducible first | assumption | apply State.err_sound | apply State.setSdo_sound) | intro x hx | intro _ | lift_lets -underBinder | split | (fail_if_no_progress with_reducible apply State.Sound.upd) | (with_reducible apply PairSound.mk) | clear_value *)

theorem State.sdoStart_sound (n : Nat) (m : Nat) (hs : State.Sound Q s) : State.Sound Q (State.sdoStart s n m) := by
  unfold State.sdoStart
  repeat' (first | (intro x; first | (refine State.Sound.cut (q := Q) x ?_ (fun hx => ?_); (on_goal 1 => subst x)) | (refine State.Sound.cutPair (q := Q) x ?_ (fun hx => ?_); (on_goal 1 => subst x)) | skip) | (with_reducible first | assumption | apply State.sdoSend_sound | apply State.sdoAlign_sound) | intro x hx | intro _ | lift_lets -underBinder | split | (fail_if_no_progress with_reducible apply State.Sound.upd) | (with_reducible apply PairSound.mk))

theorem execSdiOutPicture_sound (n : Nat) (m : Nat) (hs : State.Sound Q s) : Out.Sound Q (execSdiOutPicture n m s) := by
  unfold execSdiOutPicture
  repeat' (first | (intro x; first | (refine State.Sound.cut (q := Q) x ?_ (fun hx => ?_); (on_goal 1 => subst x)) | (refine State.Sound.cutPair (q := Q) x ?_ (fun hx => ?_); (on_goal 1 => subst x)) | skip) | (with_reducible first | assumption | apply State.sdoStart_sound | apply State.event_sound | apply Out.Sound.next) | intro x hx | intro _ | lift_lets -underBinder | split | (fail_if_no_progress with_reducible apply State.Sound.upd) | (with_reducible apply PairSound.mk))

end Sys2Proof.Machine
end

