-- ==== Sys2Proof/Laws/SoundPages.lean ====
section
/-! SUPPORT. Each operation of Machine/Pages.lean keeps the queue and the canonical form. -/

set_option linter.all false
namespace Sys2Proof.Machine

variable {Q : List Instr} {s : State}

theorem State.onCtrl_sound (p : Nat) (f : State → State) (hf : ∀ t, State.Sound Q t → State.Sound Q (f t)) (hs : State.Sound Q s) : Out.Sound Q (State.onCtrl s p f) := by
  unfold State.onCtrl
  repeat' (first | (intro x; first | (refine State.Sound.cut (q := Q) x ?_ (fun hx => ?_); (on_goal 1 => subst x)) | (refine State.Sound.cutPair (q := Q) x ?_ (fun hx => ?_); (on_goal 1 => subst x)) | skip) | (with_reducible first | assumption | apply hf | apply State.onPage_sound | apply Out.Sound.next) | intro x hx | intro _ | lift_lets -underBinder | split | (fail_if_no_progress with_reducible apply State.Sound.upd) | (with_reducible apply PairSound.mk))

theorem State.checkHolds_sound (p : Nat) (hs : State.Sound Q s) : State.Sound Q (State.checkHolds s p) := by
  unfold State.checkHolds
  repeat' (first | (intro x; first | (refine State.Sound.cut (q := Q) x ?_ (fun hx => ?_); (on_goal 1 => subst x)) | (refine State.Sound.cutPair (q := Q) x ?_ (fun hx => ?_); (on_goal 1 => subst x)) | skip) | (with_reducible first | assumption | apply State.setGrp_sound | apply State.govDec_sound | apply State.poolTotals_sound | apply State.setFld_sound | apply State.setSrc_sound) | intro x hx | intro _ | lift_lets -underBinder | split | (fail_if_no_progress with_reducible apply State.Sound.upd) | (with_reducible apply PairSound.mk) | clear_value *)

theorem State.enablePage_sound (p : Nat) (hs : State.Sound Q s) : State.Sound Q (State.enablePage p s) := by
  unfold State.enablePage
  repeat' (first | (intro x; first | (refine State.Sound.cut (q := Q) x ?_ (fun hx => ?_); (on_goal 1 => subst x)) | (refine State.Sound.cutPair (q := Q) x ?_ (fun hx => ?_); (on_goal 1 => subst x)) | skip) | (with_reducible first | assumption | apply State.setTerms_sound | apply State.checkHolds_sound | apply State.setPage_sound | apply State.capture_sound | apply State.toState_sound | apply State.opBegin_sound | apply State.setFld_sound) | intro x hx | intro _ | lift_lets -underBinder | split | (fail_if_no_progress with_reducible apply State.Sound.upd) | (with_reducible apply PairSound.mk))

theorem execPageEnable_sound (p : Nat) (hs : State.Sound Q s) : Out.Sound Q (execPageEnable p s) := by
  unfold execPageEnable
  repeat' (first | (intro x; first | (refine State.Sound.cut (q := Q) x ?_ (fun hx => ?_); (on_goal 1 => subst x)) | (refine State.Sound.cutPair (q := Q) x ?_ (fun hx => ?_); (on_goal 1 => subst x)) | skip) | (with_reducible first | assumption | apply State.enablePage_sound | apply State.onCtrl_sound | apply Out.Sound.next) | intro x hx | intro _ | lift_lets -underBinder | split | (fail_if_no_progress with_reducible apply State.Sound.upd) | (with_reducible apply PairSound.mk))

theorem State.chanEnter_sound (c : Nat) (table : List Byte) (hs : State.Sound Q s) : State.Sound Q (State.chanEnter s c table) := by
  unfold State.chanEnter
  repeat' (first | (intro x; first | (refine State.Sound.cut (q := Q) x ?_ (fun hx => ?_); (on_goal 1 => subst x)) | (refine State.Sound.cutPair (q := Q) x ?_ (fun hx => ?_); (on_goal 1 => subst x)) | skip) | (with_reducible first | assumption | apply State.pairChanOn_sound | apply State.chanQueues_sound | apply State.setSrc_sound | apply State.setScal_sound | apply State.chanShow_sound | apply State.outEnter_sound | apply State.rcEnter_sound | apply State.setChan_sound) | intro x hx | intro _ | lift_lets -underBinder | split | (fail_if_no_progress with_reducible apply State.Sound.upd) | (with_reducible apply PairSound.mk))

theorem State.pageEnters_sound (p : Nat) (table : List Byte) (hs : State.Sound Q s) : State.Sound Q (State.pageEnters s p table) := by
  unfold State.pageEnters
  repeat' (first | (intro x; first | (refine State.Sound.cut (q := Q) x ?_ (fun hx => ?_); (on_goal 1 => subst x)) | (refine State.Sound.cutPair (q := Q) x ?_ (fun hx => ?_); (on_goal 1 => subst x)) | skip) | (with_reducible first | assumption | apply State.put64L_sound | apply State.sendResults_sound | apply State.setRing_sound | apply State.setFld_sound | apply State.memcLimits_sound | apply State.memcBegin_sound | apply State.poolTotals_sound | apply State.ropeEnters_sound | apply State.pairEnters_sound | apply State.sdoDriven_sound | apply State.decEnter_sound | apply State.chamberOn_sound | apply State.govIdle_sound | apply State.govWake_sound | apply State.chanEnter_sound | apply State.scalShow_sound | apply State.setScal_sound | apply State.protSet_sound | apply State.setSrc_sound | apply State.ethBegin_sound | apply State.ownQueue_sound | apply State.sdoLaneShow_sound | apply State.sdoEnter_sound | apply State.sdiEnters_sound | apply State.inputOn_sound | apply State.timeOn_sound) | intro x hx | intro _ | lift_lets -underBinder | split | (fail_if_no_progress with_reducible apply State.Sound.upd) | (with_reducible apply PairSound.mk) | clear_value *)

theorem State.checkPasses_sound (p : Nat) (hs : State.Sound Q s) : State.Sound Q (State.checkPasses s p) := by
  unfold State.checkPasses
  repeat' (first | (intro x; first | (refine State.Sound.cut (q := Q) x ?_ (fun hx => ?_); (on_goal 1 => subst x)) | (refine State.Sound.cutPair (q := Q) x ?_ (fun hx => ?_); (on_goal 1 => subst x)) | skip) | (with_reducible first | assumption | apply State.pageEnters_sound | apply State.opEnd_sound | apply State.raise_sound | apply State.toState_sound | apply State.setActive_sound) | intro x hx | intro _ | lift_lets -underBinder | split | (fail_if_no_progress with_reducible apply State.Sound.upd) | (with_reducible apply PairSound.mk))

theorem State.checkLeft_sound (p : Nat) (hs : State.Sound Q s) : State.Sound Q (State.checkLeft s p) := by
  unfold State.checkLeft
  repeat' (first | (intro x; first | (refine State.Sound.cut (q := Q) x ?_ (fun hx => ?_); (on_goal 1 => subst x)) | (refine State.Sound.cutPair (q := Q) x ?_ (fun hx => ?_); (on_goal 1 => subst x)) | skip) | (with_reducible first | assumption | apply State.govDec_sound) | intro x hx | intro _ | lift_lets -underBinder | split | (fail_if_no_progress with_reducible apply State.Sound.upd) | (with_reducible apply PairSound.mk))

theorem State.checkRefuses_sound (p : Nat) (code : Nat) (hs : State.Sound Q s) : State.Sound Q (State.checkRefuses s p code) := by
  unfold State.checkRefuses
  repeat' (first | (intro x; first | (refine State.Sound.cut (q := Q) x ?_ (fun hx => ?_); (on_goal 1 => subst x)) | (refine State.Sound.cutPair (q := Q) x ?_ (fun hx => ?_); (on_goal 1 => subst x)) | skip) | (with_reducible first | assumption | apply State.checkLeft_sound | apply State.release_sound | apply State.setFld_sound | apply State.toState_sound | apply State.opEnd_sound | apply State.refuseCode_sound | apply State.showInfo_sound) | intro x hx | intro _ | lift_lets -underBinder | split | (fail_if_no_progress with_reducible apply State.Sound.upd) | (with_reducible apply PairSound.mk))

theorem execEnableCheckComplete_sound (p : Nat) (parityOk : Bool) (hs : State.Sound Q s) : Out.Sound Q (execEnableCheckComplete p parityOk s) := by
  unfold execEnableCheckComplete
  repeat' (first | (intro x; first | (refine State.Sound.cut (q := Q) x ?_ (fun hx => ?_); (on_goal 1 => subst x)) | (refine State.Sound.cutPair (q := Q) x ?_ (fun hx => ?_); (on_goal 1 => subst x)) | skip) | (with_reducible first | assumption | apply State.checkRefuses_sound | apply State.checkPasses_sound | apply State.event_sound | apply Out.Sound.next) | intro x hx | intro _ | lift_lets -underBinder | split | (fail_if_no_progress with_reducible apply State.Sound.upd) | (with_reducible apply PairSound.mk))

theorem State.chanGone_sound (c : Nat) (hs : State.Sound Q s) : State.Sound Q (State.chanGone s c) := by
  unfold State.chanGone
  repeat' (first | (intro x; first | (refine State.Sound.cut (q := Q) x ?_ (fun hx => ?_); (on_goal 1 => subst x)) | (refine State.Sound.cutPair (q := Q) x ?_ (fun hx => ?_); (on_goal 1 => subst x)) | skip) | (with_reducible first | assumption | apply State.pairChanOff_sound | apply State.setChan_sound | apply State.unassign_sound | refine State.Sound.foldl _ (fun _ _ _ => ?_) ?_ | refine PairSound.foldl _ (fun _ _ _ => ?_) ?_) | intro x hx | intro _ | lift_lets -underBinder | split | (fail_if_no_progress with_reducible apply State.Sound.upd) | (with_reducible apply PairSound.mk) | clear_value * | (with_reducible refine PairSound.of (by assumption)))

theorem State.unitStops_sound (p : Nat) (hs : State.Sound Q s) : State.Sound Q (State.unitStops s p) := by
  unfold State.unitStops
  repeat' (first | (intro x; first | (refine State.Sound.cut (q := Q) x ?_ (fun hx => ?_); (on_goal 1 => subst x)) | (refine State.Sound.cutPair (q := Q) x ?_ (fun hx => ?_); (on_goal 1 => subst x)) | skip) | (with_reducible first | assumption | apply State.laneLeft_sound | apply State.tschOff_sound | apply State.linkDown_sound | apply State.ethDown_sound | apply State.setSrc_sound | apply State.setScal_sound | apply State.setGrp_sound | apply State.sdiLeaves_sound) | intro x hx | intro _ | lift_lets -underBinder | split | (fail_if_no_progress with_reducible apply State.Sound.upd) | (with_reducible apply PairSound.mk) | clear_value *)

theorem State.pageStopped_sound (p : Nat) (hs : State.Sound Q s) : State.Sound Q (State.pageStopped s p) := by
  unfold State.pageStopped
  repeat' (first | (intro x; first | (refine State.Sound.cut (q := Q) x ?_ (fun hx => ?_); (on_goal 1 => subst x)) | (refine State.Sound.cutPair (q := Q) x ?_ (fun hx => ?_); (on_goal 1 => subst x)) | skip) | (with_reducible first | assumption | apply State.setRing_sound | apply State.sdoLaneShow_sound | apply State.pairLeaves_sound | apply State.sdoDriven_sound | apply State.govDec_sound | apply State.govIdle_sound | apply State.chanGone_sound | apply State.cadenceStops_sound | apply State.taskTimeStop_sound | apply State.timeOff_sound) | intro x hx | intro _ | lift_lets -underBinder | split | (fail_if_no_progress with_reducible apply State.Sound.upd) | (with_reducible apply PairSound.mk) | clear_value *)

theorem State.leavePage_sound (p : Nat) (hs : State.Sound Q s) : State.Sound Q (State.leavePage s p) := by
  unfold State.leavePage
  repeat' (first | (intro x; first | (refine State.Sound.cut (q := Q) x ?_ (fun hx => ?_); (on_goal 1 => subst x)) | (refine State.Sound.cutPair (q := Q) x ?_ (fun hx => ?_); (on_goal 1 => subst x)) | skip) | (with_reducible first | assumption | apply State.pageStopped_sound | apply State.leave_sound | apply State.unitStops_sound) | intro x hx | intro _ | lift_lets -underBinder | split | (fail_if_no_progress with_reducible apply State.Sound.upd) | (with_reducible apply PairSound.mk))

theorem State.beginDrain_sound (p : Nat) (kind : Nat) (hs : State.Sound Q s) : State.Sound Q (State.beginDrain s p kind) := by
  unfold State.beginDrain
  repeat' (first | (intro x; first | (refine State.Sound.cut (q := Q) x ?_ (fun hx => ?_); (on_goal 1 => subst x)) | (refine State.Sound.cutPair (q := Q) x ?_ (fun hx => ?_); (on_goal 1 => subst x)) | skip) | (with_reducible first | assumption | apply State.toState_sound | apply State.opBegin_sound) | intro x hx | intro _ | lift_lets -underBinder | split | (fail_if_no_progress with_reducible apply State.Sound.upd) | (with_reducible apply PairSound.mk))

theorem State.stopPage_sound (p : Nat) (hs : State.Sound Q s) : State.Sound Q (State.stopPage p s) := by
  unfold State.stopPage
  repeat' (first | (intro x; first | (refine State.Sound.cut (q := Q) x ?_ (fun hx => ?_); (on_goal 1 => subst x)) | (refine State.Sound.cutPair (q := Q) x ?_ (fun hx => ?_); (on_goal 1 => subst x)) | skip) | (with_reducible first | assumption | apply State.beginDrain_sound | apply State.setFld_sound | apply State.reason_sound) | intro x hx | intro _ | lift_lets -underBinder | split | (fail_if_no_progress with_reducible apply State.Sound.upd) | (with_reducible apply PairSound.mk) | clear_value *)

theorem execPageStop_sound (p : Nat) (hs : State.Sound Q s) : Out.Sound Q (execPageStop p s) := by
  unfold execPageStop
  repeat' (first | (intro x; first | (refine State.Sound.cut (q := Q) x ?_ (fun hx => ?_); (on_goal 1 => subst x)) | (refine State.Sound.cutPair (q := Q) x ?_ (fun hx => ?_); (on_goal 1 => subst x)) | skip) | (with_reducible first | assumption | apply State.stopPage_sound | apply State.onCtrl_sound | apply Out.Sound.next) | intro x hx | intro _ | lift_lets -underBinder | split | (fail_if_no_progress with_reducible apply State.Sound.upd) | (with_reducible apply PairSound.mk))

theorem State.retire_sound (p : Nat) (hs : State.Sound Q s) : State.Sound Q (State.retire s p) := by
  unfold State.retire
  repeat' (first | (intro x; first | (refine State.Sound.cut (q := Q) x ?_ (fun hx => ?_); (on_goal 1 => subst x)) | (refine State.Sound.cutPair (q := Q) x ?_ (fun hx => ?_); (on_goal 1 => subst x)) | skip) | (with_reducible first | assumption | apply State.logEv_sound | apply State.recordCode_sound | apply State.memcLimits_sound | apply State.sliceGone_sound | apply State.beginDrain_sound | apply State.setFld_sound | apply State.setMemc_sound | apply State.opEndOf_sound | apply State.applyWithdraw_sound) | intro x hx | intro _ | lift_lets -underBinder | split | (fail_if_no_progress with_reducible apply State.Sound.upd) | (with_reducible apply PairSound.mk))

theorem State.drainPage_sound (p : Nat) (hs : State.Sound Q s) : State.Sound Q (State.drainPage p s) := by
  unfold State.drainPage
  repeat' (first | (intro x; first | (refine State.Sound.cut (q := Q) x ?_ (fun hx => ?_); (on_goal 1 => subst x)) | (refine State.Sound.cutPair (q := Q) x ?_ (fun hx => ?_); (on_goal 1 => subst x)) | skip) | (with_reducible first | assumption | apply State.release_sound | apply State.toOffValues_sound | apply State.toState_sound | apply State.beginDrain_sound | apply State.setFld_sound | apply State.retire_sound | apply State.reason_sound) | intro x hx | intro _ | lift_lets -underBinder | split | (fail_if_no_progress with_reducible apply State.Sound.upd) | (with_reducible apply PairSound.mk) | clear_value *)

theorem execPageDrain_sound (p : Nat) (hs : State.Sound Q s) : Out.Sound Q (execPageDrain p s) := by
  unfold execPageDrain
  repeat' (first | (intro x; first | (refine State.Sound.cut (q := Q) x ?_ (fun hx => ?_); (on_goal 1 => subst x)) | (refine State.Sound.cutPair (q := Q) x ?_ (fun hx => ?_); (on_goal 1 => subst x)) | skip) | (with_reducible first | assumption | apply State.drainPage_sound | apply State.onCtrl_sound | apply Out.Sound.next) | intro x hx | intro _ | lift_lets -underBinder | split | (fail_if_no_progress with_reducible apply State.Sound.upd) | (with_reducible apply PairSound.mk))

theorem State.undoDrain_sound (p : Nat) (hs : State.Sound Q s) : State.Sound Q (State.undoDrain p s) := by
  unfold State.undoDrain
  repeat' (first | (intro x; first | (refine State.Sound.cut (q := Q) x ?_ (fun hx => ?_); (on_goal 1 => subst x)) | (refine State.Sound.cutPair (q := Q) x ?_ (fun hx => ?_); (on_goal 1 => subst x)) | skip) | (with_reducible first | assumption | apply State.toState_sound | apply State.setFld_sound) | intro x hx | intro _ | lift_lets -underBinder | split | (fail_if_no_progress with_reducible apply State.Sound.upd) | (with_reducible apply PairSound.mk))

theorem execDrainUndo_sound (p : Nat) (hs : State.Sound Q s) : Out.Sound Q (execDrainUndo p s) := by
  unfold execDrainUndo
  repeat' (first | (intro x; first | (refine State.Sound.cut (q := Q) x ?_ (fun hx => ?_); (on_goal 1 => subst x)) | (refine State.Sound.cutPair (q := Q) x ?_ (fun hx => ?_); (on_goal 1 => subst x)) | skip) | (with_reducible first | assumption | apply State.undoDrain_sound | apply Out.Sound.next) | intro x hx | intro _ | lift_lets -underBinder | split | (fail_if_no_progress with_reducible apply State.Sound.upd) | (with_reducible apply PairSound.mk))

theorem State.clearFault_sound (p : Nat) (hs : State.Sound Q s) : State.Sound Q (State.clearFault p s) := by
  unfold State.clearFault
  repeat' (first | (intro x; first | (refine State.Sound.cut (q := Q) x ?_ (fun hx => ?_); (on_goal 1 => subst x)) | (refine State.Sound.cutPair (q := Q) x ?_ (fun hx => ?_); (on_goal 1 => subst x)) | skip) | (with_reducible first | assumption | apply State.toOffValues_sound | apply State.setFld_sound | apply State.toState_sound) | intro x hx | intro _ | lift_lets -underBinder | split | (fail_if_no_progress with_reducible apply State.Sound.upd) | (with_reducible apply PairSound.mk))

theorem execClearFault_sound (p : Nat) (hs : State.Sound Q s) : Out.Sound Q (execClearFault p s) := by
  unfold execClearFault
  repeat' (first | (intro x; first | (refine State.Sound.cut (q := Q) x ?_ (fun hx => ?_); (on_goal 1 => subst x)) | (refine State.Sound.cutPair (q := Q) x ?_ (fun hx => ?_); (on_goal 1 => subst x)) | skip) | (with_reducible first | assumption | apply State.clearFault_sound | apply State.onCtrl_sound | apply Out.Sound.next) | intro x hx | intro _ | lift_lets -underBinder | split | (fail_if_no_progress with_reducible apply State.Sound.upd) | (with_reducible apply PairSound.mk))

theorem execNextBoundaryReached_sound (p : Nat) (hs : State.Sound Q s) : Out.Sound Q (execNextBoundaryReached p s) := by
  unfold execNextBoundaryReached
  repeat' (first | (intro x; first | (refine State.Sound.cut (q := Q) x ?_ (fun hx => ?_); (on_goal 1 => subst x)) | (refine State.Sound.cutPair (q := Q) x ?_ (fun hx => ?_); (on_goal 1 => subst x)) | skip) | (with_reducible first | assumption | apply State.leavePage_sound | apply State.event_sound | apply Out.Sound.next) | intro x hx | intro _ | lift_lets -underBinder | split | (fail_if_no_progress with_reducible apply State.Sound.upd) | (with_reducible apply PairSound.mk))

theorem execInputPageLeave_sound (p : Nat) (hs : State.Sound Q s) : Out.Sound Q (execInputPageLeave p s) := by
  unfold execInputPageLeave
  repeat' (first | (intro x; first | (refine State.Sound.cut (q := Q) x ?_ (fun hx => ?_); (on_goal 1 => subst x)) | (refine State.Sound.cutPair (q := Q) x ?_ (fun hx => ?_); (on_goal 1 => subst x)) | skip) | (with_reducible first | assumption | apply State.leavePage_sound | apply State.event_sound | apply Out.Sound.next) | intro x hx | intro _ | lift_lets -underBinder | split | (fail_if_no_progress with_reducible apply State.Sound.upd) | (with_reducible apply PairSound.mk))

theorem execFeederDrainEnd_sound (p : Nat) (hs : State.Sound Q s) : Out.Sound Q (execFeederDrainEnd p s) := by
  unfold execFeederDrainEnd
  repeat' (first | (intro x; first | (refine State.Sound.cut (q := Q) x ?_ (fun hx => ?_); (on_goal 1 => subst x)) | (refine State.Sound.cutPair (q := Q) x ?_ (fun hx => ?_); (on_goal 1 => subst x)) | skip) | (with_reducible first | assumption | apply State.leavePage_sound | apply State.event_sound | apply Out.Sound.next) | intro x hx | intro _ | lift_lets -underBinder | split | (fail_if_no_progress with_reducible apply State.Sound.upd) | (with_reducible apply PairSound.mk))

theorem execTimeStop_sound (hs : State.Sound Q s) : Out.Sound Q (execTimeStop s) := by
  unfold execTimeStop
  repeat' (first | (intro x; first | (refine State.Sound.cut (q := Q) x ?_ (fun hx => ?_); (on_goal 1 => subst x)) | (refine State.Sound.cutPair (q := Q) x ?_ (fun hx => ?_); (on_goal 1 => subst x)) | skip) | (with_reducible first | assumption | apply State.leavePage_sound | apply State.event_sound | apply Out.Sound.next) | intro x hx | intro _ | lift_lets -underBinder | split | (fail_if_no_progress with_reducible apply State.Sound.upd) | (with_reducible apply PairSound.mk))

theorem State.abortDrain_sound (p : Nat) (hs : State.Sound Q s) : State.Sound Q (State.abortDrain s p) := by
  unfold State.abortDrain
  repeat' (first | (intro x; first | (refine State.Sound.cut (q := Q) x ?_ (fun hx => ?_); (on_goal 1 => subst x)) | (refine State.Sound.cutPair (q := Q) x ?_ (fun hx => ?_); (on_goal 1 => subst x)) | skip) | (with_reducible first | assumption | apply State.opEnd_sound | apply State.setFld_sound | apply State.toState_sound) | intro x hx | intro _ | lift_lets -underBinder | split | (fail_if_no_progress with_reducible apply State.Sound.upd) | (with_reducible apply PairSound.mk))

theorem State.abortCheck_sound (p : Nat) (hs : State.Sound Q s) : State.Sound Q (State.abortCheck s p) := by
  unfold State.abortCheck
  repeat' (first | (intro x; first | (refine State.Sound.cut (q := Q) x ?_ (fun hx => ?_); (on_goal 1 => subst x)) | (refine State.Sound.cutPair (q := Q) x ?_ (fun hx => ?_); (on_goal 1 => subst x)) | skip) | (with_reducible first | assumption | apply State.checkLeft_sound | apply State.release_sound | apply State.setFld_sound | apply State.toState_sound | apply State.opEnd_sound) | intro x hx | intro _ | lift_lets -underBinder | split | (fail_if_no_progress with_reducible apply State.Sound.upd) | (with_reducible apply PairSound.mk))

theorem State.lateAbort_sound (p : Nat) (hs : State.Sound Q s) : State.Sound Q (State.lateAbort s p) := by
  unfold State.lateAbort
  repeat' (first | (intro x; first | (refine State.Sound.cut (q := Q) x ?_ (fun hx => ?_); (on_goal 1 => subst x)) | (refine State.Sound.cutPair (q := Q) x ?_ (fun hx => ?_); (on_goal 1 => subst x)) | skip) | (with_reducible first | assumption | apply State.reason_sound) | intro x hx | intro _ | lift_lets -underBinder | split | (fail_if_no_progress with_reducible apply State.Sound.upd) | (with_reducible apply PairSound.mk))

theorem State.abortUnit_sound (p : Nat) (kind : Nat) (hs : State.Sound Q s) : State.Sound Q (State.abortUnit s p kind) := by
  unfold State.abortUnit
  repeat' (first | (intro x; first | (refine State.Sound.cut (q := Q) x ?_ (fun hx => ?_); (on_goal 1 => subst x)) | (refine State.Sound.cutPair (q := Q) x ?_ (fun hx => ?_); (on_goal 1 => subst x)) | skip) | (with_reducible first | assumption | apply State.opEnd_sound | apply State.setMemc_sound | apply State.applyWithdraw_sound) | intro x hx | intro _ | lift_lets -underBinder | split | (fail_if_no_progress with_reducible apply State.Sound.upd) | (with_reducible apply PairSound.mk) | clear_value *)

theorem State.abortPage_sound (p : Nat) (hs : State.Sound Q s) : State.Sound Q (State.abortPage p s) := by
  unfold State.abortPage
  repeat' (first | (intro x; first | (refine State.Sound.cut (q := Q) x ?_ (fun hx => ?_); (on_goal 1 => subst x)) | (refine State.Sound.cutPair (q := Q) x ?_ (fun hx => ?_); (on_goal 1 => subst x)) | skip) | (with_reducible first | assumption | apply State.abortUnit_sound | apply State.abortDrain_sound | apply State.abortCheck_sound | apply State.lateAbort_sound) | intro x hx | intro _ | lift_lets -underBinder | split | (fail_if_no_progress with_reducible apply State.Sound.upd) | (with_reducible apply PairSound.mk))

theorem execAbortPage_sound (p : Nat) (hs : State.Sound Q s) : Out.Sound Q (execAbortPage p s) := by
  unfold execAbortPage
  repeat' (first | (intro x; first | (refine State.Sound.cut (q := Q) x ?_ (fun hx => ?_); (on_goal 1 => subst x)) | (refine State.Sound.cutPair (q := Q) x ?_ (fun hx => ?_); (on_goal 1 => subst x)) | skip) | (with_reducible first | assumption | apply State.abortPage_sound | apply State.onCtrl_sound | apply Out.Sound.next) | intro x hx | intro _ | lift_lets -underBinder | split | (fail_if_no_progress with_reducible apply State.Sound.upd) | (with_reducible apply PairSound.mk))

theorem State.pageCtrlWrite_sound (p : Nat) (v : Word) (hs : State.Sound Q s) : State.Sound Q (State.pageCtrlWrite p v s) := by
  unfold State.pageCtrlWrite
  repeat' (first | (intro x; first | (refine State.Sound.cut (q := Q) x ?_ (fun hx => ?_); (on_goal 1 => subst x)) | (refine State.Sound.cutPair (q := Q) x ?_ (fun hx => ?_); (on_goal 1 => subst x)) | skip) | (with_reducible first | assumption | apply State.enablePage_sound | apply State.clearFault_sound | apply State.undoDrain_sound | apply State.stopPage_sound | apply State.drainPage_sound | apply State.abortPage_sound) | intro x hx | intro _ | lift_lets -underBinder | split | (fail_if_no_progress with_reducible apply State.Sound.upd) | (with_reducible apply PairSound.mk))

theorem State.unitFault_sound (p : Nat) (hs : State.Sound Q s) : State.Sound Q (State.unitFault s p) := by
  unfold State.unitFault
  repeat' (first | (intro x; first | (refine State.Sound.cut (q := Q) x ?_ (fun hx => ?_); (on_goal 1 => subst x)) | (refine State.Sound.cutPair (q := Q) x ?_ (fun hx => ?_); (on_goal 1 => subst x)) | skip) | (with_reducible first | assumption | apply State.fatal_sound | apply State.pageStopped_sound | apply State.enterFault_sound | apply State.unitStops_sound | apply State.err_sound) | intro x hx | intro _ | lift_lets -underBinder | split | (fail_if_no_progress with_reducible apply State.Sound.upd) | (with_reducible apply PairSound.mk) | clear_value *)

theorem execUnitFaultDetected_sound (p : Nat) (hs : State.Sound Q s) : Out.Sound Q (execUnitFaultDetected p s) := by
  unfold execUnitFaultDetected
  repeat' (first | (intro x; first | (refine State.Sound.cut (q := Q) x ?_ (fun hx => ?_); (on_goal 1 => subst x)) | (refine State.Sound.cutPair (q := Q) x ?_ (fun hx => ?_); (on_goal 1 => subst x)) | skip) | (with_reducible first | assumption | apply State.unitFault_sound | apply State.event_sound | apply Out.Sound.next) | intro x hx | intro _ | lift_lets -underBinder | split | (fail_if_no_progress with_reducible apply State.Sound.upd) | (with_reducible apply PairSound.mk))

theorem State.shedPageNow_sound (p : Nat) (hs : State.Sound Q s) : State.Sound Q (State.shedPageNow s p) := by
  unfold State.shedPageNow
  repeat' (first | (intro x; first | (refine State.Sound.cut (q := Q) x ?_ (fun hx => ?_); (on_goal 1 => subst x)) | (refine State.Sound.cutPair (q := Q) x ?_ (fun hx => ?_); (on_goal 1 => subst x)) | skip) | (with_reducible first | assumption | apply State.fatal_sound | apply State.pageStopped_sound | apply State.release_sound | apply State.toOffValues_sound | apply State.setFld_sound | apply State.toState_sound | apply State.unitStops_sound | apply State.opEnd_sound | apply State.logEv_sound | apply State.recordCode_sound) | intro x hx | intro _ | lift_lets -underBinder | split | (fail_if_no_progress with_reducible apply State.Sound.upd) | (with_reducible apply PairSound.mk))

theorem execShed_sound (hs : State.Sound Q s) : Out.Sound Q (execShed s) := by
  unfold execShed
  repeat' (first | (intro x; first | (refine State.Sound.cut (q := Q) x ?_ (fun hx => ?_); (on_goal 1 => subst x)) | (refine State.Sound.cutPair (q := Q) x ?_ (fun hx => ?_); (on_goal 1 => subst x)) | skip) | (with_reducible first | assumption | apply State.shedPageNow_sound | apply State.event_sound | apply Out.Sound.next) | intro x hx | intro _ | lift_lets -underBinder | split | (fail_if_no_progress with_reducible apply State.Sound.upd) | (with_reducible apply PairSound.mk) | clear_value *)

end Sys2Proof.Machine
end

