-- ==== Sys2Proof/Laws/SoundFrameCycle.lean ====
section
/-! SUPPORT. Each operation of Machine/FrameCycle.lean keeps the queue and the canonical form. -/

set_option linter.all false
namespace Sys2Proof.Machine

variable {Q : List Instr} {s : State}

theorem State.inputsFrame_sound (g : Nat) (m : Nat) (fire : Nat) (hs : State.Sound Q s) : State.Sound Q (State.inputsFrame s g m fire) := by
  unfold State.inputsFrame
  repeat' (first | (intro x; first | (refine State.Sound.cut (q := Q) x ?_ (fun hx => ?_); (on_goal 1 => subst x)) | (refine State.Sound.cutPair (q := Q) x ?_ (fun hx => ?_); (on_goal 1 => subst x)) | skip) | (with_reducible first | assumption | apply State.inputFrame_sound | refine State.Sound.foldl _ (fun _ _ _ => ?_) ?_ | refine PairSound.foldl _ (fun _ _ _ => ?_) ?_) | intro x hx | intro _ | lift_lets -underBinder | split | (fail_if_no_progress with_reducible apply State.Sound.upd) | (with_reducible apply PairSound.mk) | (with_reducible refine PairSound.of (by assumption)))

theorem State.sourcesFrame_sound (g : Nat) (m : Nat) (hs : State.Sound Q s) : State.Sound Q (State.sourcesFrame s g m) := by
  unfold State.sourcesFrame
  repeat' (first | (intro x; first | (refine State.Sound.cut (q := Q) x ?_ (fun hx => ?_); (on_goal 1 => subst x)) | (refine State.Sound.cutPair (q := Q) x ?_ (fun hx => ?_); (on_goal 1 => subst x)) | skip) | (with_reducible first | assumption | apply State.srcFrame_sound | refine State.Sound.foldl _ (fun _ _ _ => ?_) ?_ | refine PairSound.foldl _ (fun _ _ _ => ?_) ?_) | intro x hx | intro _ | lift_lets -underBinder | split | (fail_if_no_progress with_reducible apply State.Sound.upd) | (with_reducible apply PairSound.mk) | (with_reducible refine PairSound.of (by assumption)))

theorem State.chansFrame_pair (old : State) (m fire : Nat) (cs : List Nat) (h : State.Sound Q s) :
    PairSound Q (State.chansFrame old m fire cs s) := by
  induction cs generalizing s with
  | nil => exact h
  | cons c cs ih =>
    unfold State.chansFrame
    exact PairSound.mk (ih (State.chanFrame_sound _ _ _ _ h))

theorem State.chansFrame_sound (old : State) (m fire : Nat) (cs : List Nat) (h : State.Sound Q s) : State.Sound Q (State.chansFrame old m fire cs s).1 :=
  State.chansFrame_pair old m fire cs h

theorem State.budgets_sound (g : Nat) (fire : Nat) (cs : List (Nat × Nat)) (hs : State.Sound Q s) : State.Sound Q (State.budgets s g fire cs) := by
  unfold State.budgets
  repeat' (first | (intro x; first | (refine State.Sound.cut (q := Q) x ?_ (fun hx => ?_); (on_goal 1 => subst x)) | (refine State.Sound.cutPair (q := Q) x ?_ (fun hx => ?_); (on_goal 1 => subst x)) | skip) | (with_reducible first | assumption | apply State.putBudget_sound | apply State.ownBudget_sound | apply State.poolBudgets_sound | refine State.Sound.foldl _ (fun _ _ _ => ?_) ?_ | refine PairSound.foldl _ (fun _ _ _ => ?_) ?_) | intro x hx | intro _ | lift_lets -underBinder | split | (fail_if_no_progress with_reducible apply State.Sound.upd) | (with_reducible apply PairSound.mk) | clear_value * | (with_reducible refine PairSound.of (by assumption)))

theorem State.frameCycle_sound (g : Nat) (m : Nat) (fire : Nat) (hs : State.Sound Q s) : State.Sound Q (State.frameCycle s g m fire) := by
  unfold State.frameCycle
  repeat' (first | (intro x; first | (refine State.Sound.cut (q := Q) x ?_ (fun hx => ?_); (on_goal 1 => subst x)) | (refine State.Sound.cutPair (q := Q) x ?_ (fun hx => ?_); (on_goal 1 => subst x)) | skip) | (with_reducible first | assumption | apply State.setGrp_sound | apply State.sendSnapshot_sound | apply State.budgets_sound | apply State.chansFrame_sound | apply State.chansFrame_pair | apply State.sourcesFrame_sound | apply State.inputsFrame_sound | apply State.presentAll_sound | apply State.switchInstant_sound | apply State.commitApply_sound | refine State.Sound.foldl _ (fun _ _ _ => ?_) ?_ | refine PairSound.foldl _ (fun _ _ _ => ?_) ?_) | intro x hx | intro _ | lift_lets -underBinder | split | (fail_if_no_progress with_reducible apply State.Sound.upd) | (with_reducible apply PairSound.mk) | (with_reducible refine PairSound.of (by assumption)))

theorem State.fireAction_sound (n : Nat) (m : Nat) (fire : Nat) (periodic : Bool) (hs : State.Sound Q s) : State.Sound Q (State.fireAction s n m fire periodic) := by
  unfold State.fireAction
  repeat' (first | (intro x; first | (refine State.Sound.cut (q := Q) x ?_ (fun hx => ?_); (on_goal 1 => subst x)) | (refine State.Sound.cutPair (q := Q) x ?_ (fun hx => ?_); (on_goal 1 => subst x)) | skip) | (with_reducible first | assumption | apply State.taskTimerFire_sound | apply State.frameCycle_sound | apply State.trigFire_sound) | intro x hx | intro _ | lift_lets -underBinder | split | (fail_if_no_progress with_reducible apply State.Sound.upd) | (with_reducible apply PairSound.mk) | clear_value *)

theorem execCompareFire_sound (n : Nat) (hs : State.Sound Q s) : Out.Sound Q (execCompareFire n s) := by
  unfold execCompareFire
  repeat' (first | (intro x; first | (refine State.Sound.cut (q := Q) x ?_ (fun hx => ?_); (on_goal 1 => subst x)) | (refine State.Sound.cutPair (q := Q) x ?_ (fun hx => ?_); (on_goal 1 => subst x)) | skip) | (with_reducible first | assumption | apply State.fireAction_sound | apply State.fireRecord_sound | apply State.lateRecord_sound | apply State.event_sound | apply Out.Sound.next) | intro x hx | intro _ | lift_lets -underBinder | split | (fail_if_no_progress with_reducible apply State.Sound.upd) | (with_reducible apply PairSound.mk))

end Sys2Proof.Machine
end

