-- ==== Sys2Proof/Laws/SoundBus.lean ====
section
/-! SUPPORT. Each operation of Machine/Bus.lean keeps the queue and the canonical form. -/

set_option linter.all false
namespace Sys2Proof.Machine

variable {Q : List Instr} {s : State}

theorem State.shadowWrite_sound (a : Nat) (r : RegRow) (v : Word) (hs : State.Sound Q s) : State.Sound Q (State.shadowWrite a r v s) := by
  unfold State.shadowWrite
  repeat' (first | (intro x; first | (refine State.Sound.cut (q := Q) x ?_ (fun hx => ?_); (on_goal 1 => subst x)) | (refine State.Sound.cutPair (q := Q) x ?_ (fun hx => ?_); (on_goal 1 => subst x)) | skip) | (with_reducible first | assumption | apply State.setPage_sound | apply State.setFld_sound | apply State.setReg_sound) | intro x hx | intro _ | lift_lets -underBinder | split | (fail_if_no_progress with_reducible apply State.Sound.upd) | (with_reducible apply PairSound.mk))

theorem State.plainWrite_sound (a : Nat) (v : Word) (hs : State.Sound Q s) : State.Sound Q (State.plainWrite a v s) := by
  unfold State.plainWrite
  repeat' (first | (intro x; first | (refine State.Sound.cut (q := Q) x ?_ (fun hx => ?_); (on_goal 1 => subst x)) | (refine State.Sound.cutPair (q := Q) x ?_ (fun hx => ?_); (on_goal 1 => subst x)) | skip) | (with_reducible first | assumption | apply State.setReg_sound | apply State.shadowWrite_sound) | intro x hx | intro _ | lift_lets -underBinder | split | (fail_if_no_progress with_reducible apply State.Sound.upd) | (with_reducible apply PairSound.mk) | clear_value *)

theorem State.offWrite_sound (a : Nat) (v : Word) (hs : State.Sound Q s) : State.Sound Q (State.offWrite a v s) := by
  unfold State.offWrite
  repeat' (first | (intro x; first | (refine State.Sound.cut (q := Q) x ?_ (fun hx => ?_); (on_goal 1 => subst x)) | (refine State.Sound.cutPair (q := Q) x ?_ (fun hx => ?_); (on_goal 1 => subst x)) | skip) | (with_reducible first | assumption | apply State.reason_sound | apply State.plainWrite_sound) | intro x hx | intro _ | lift_lets -underBinder | split | (fail_if_no_progress with_reducible apply State.Sound.upd) | (with_reducible apply PairSound.mk))

theorem State.rangeWrite_sound (ok : Bool) (a : Nat) (v : Word) (hs : State.Sound Q s) : State.Sound Q (State.rangeWrite ok a v s) := by
  unfold State.rangeWrite
  repeat' (first | (intro x; first | (refine State.Sound.cut (q := Q) x ?_ (fun hx => ?_); (on_goal 1 => subst x)) | (refine State.Sound.cutPair (q := Q) x ?_ (fun hx => ?_); (on_goal 1 => subst x)) | skip) | (with_reducible first | assumption | apply State.reason_sound | apply State.plainWrite_sound) | intro x hx | intro _ | lift_lets -underBinder | split | (fail_if_no_progress with_reducible apply State.Sound.upd) | (with_reducible apply PairSound.mk))

theorem State.does_sound (f : State → Out) (hf : ∀ t, State.Sound Q t → Out.Sound Q (f t)) (hs : State.Sound Q s) :
    State.Sound Q (State.does s f) := by
  obtain ⟨t, ht, h⟩ := hf s hs
  unfold State.does
  rw [ht]
  exact h

theorem onBit_sound (v : Word) (b : Nat) (f : State → State) (hf : ∀ t, State.Sound Q t → State.Sound Q (f t)) (hs : State.Sound Q s) : State.Sound Q (onBit v b f s) := by
  unfold onBit
  repeat' (first | (intro x; first | (refine State.Sound.cut (q := Q) x ?_ (fun hx => ?_); (on_goal 1 => subst x)) | (refine State.Sound.cutPair (q := Q) x ?_ (fun hx => ?_); (on_goal 1 => subst x)) | skip) | (with_reducible first | assumption | apply hf) | intro x hx | intro _ | lift_lets -underBinder | split | (fail_if_no_progress with_reducible apply State.Sound.upd) | (with_reducible apply PairSound.mk))

theorem State.commitCtrlWrite_sound (p : Nat) (v : Word) (hs : State.Sound Q s) : State.Sound Q (State.commitCtrlWrite p v s) := by
  unfold State.commitCtrlWrite
  repeat' (first | (intro x; first | (refine State.Sound.cut (q := Q) x ?_ (fun hx => ?_); (on_goal 1 => subst x)) | (refine State.Sound.cutPair (q := Q) x ?_ (fun hx => ?_); (on_goal 1 => subst x)) | skip) | (with_reducible first | assumption | apply State.setFld_sound | apply State.arm_sound | apply State.disarm_sound | apply State.discard_sound | apply onBit_sound) | intro x hx | intro _ | lift_lets -underBinder | split | (fail_if_no_progress with_reducible apply State.Sound.upd) | (with_reducible apply PairSound.mk))

theorem State.intSet_sound (p : Nat) (v : Word) (hs : State.Sound Q s) : State.Sound Q (State.intSet p v s) := by
  unfold State.intSet
  repeat' (first | (intro x; first | (refine State.Sound.cut (q := Q) x ?_ (fun hx => ?_); (on_goal 1 => subst x)) | (refine State.Sound.cutPair (q := Q) x ?_ (fun hx => ?_); (on_goal 1 => subst x)) | skip) | (with_reducible first | assumption | apply State.setReg_sound) | intro x hx | intro _ | lift_lets -underBinder | split | (fail_if_no_progress with_reducible apply State.Sound.upd) | (with_reducible apply PairSound.mk))

theorem State.headerWrite_sound (p : Nat) (o : Nat) (v : Word) (hs : State.Sound Q s) : State.Sound Q (State.headerWrite p o v s) := by
  unfold State.headerWrite
  repeat' (first | (intro x; first | (refine State.Sound.cut (q := Q) x ?_ (fun hx => ?_); (on_goal 1 => subst x)) | (refine State.Sound.cutPair (q := Q) x ?_ (fun hx => ?_); (on_goal 1 => subst x)) | skip) | (with_reducible first | assumption | apply State.commitCtrlWrite_sound | apply State.intSet_sound | apply State.setReg_sound | apply State.pageCtrlWrite_sound) | intro x hx | intro _ | lift_lets -underBinder | split | (fail_if_no_progress with_reducible apply State.Sound.upd) | (with_reducible apply PairSound.mk))

theorem State.sysWrite_sound (o : Nat) (v : Word) (hs : State.Sound Q s) : State.Sound Q (State.sysWrite o v s) := by
  unfold State.sysWrite
  repeat' (first | (intro x; first | (refine State.Sound.cut (q := Q) x ?_ (fun hx => ?_); (on_goal 1 => subst x)) | (refine State.Sound.cutPair (q := Q) x ?_ (fun hx => ?_); (on_goal 1 => subst x)) | skip) | (with_reducible first | assumption | apply State.reserveWrite_sound | apply State.abortGroups_sound | apply State.abortCommit_sound | apply State.groupCommitReq_sound | apply State.deviceCommitReq_sound | apply onBit_sound) | intro x hx | intro _ | lift_lets -underBinder | split | (fail_if_no_progress with_reducible apply State.Sound.upd) | (with_reducible apply PairSound.mk) | clear_value *)

theorem State.compareWrite_sound (a : Nat) (n : Nat) (r : Nat) (v : Word) (hs : State.Sound Q s) : State.Sound Q (State.compareWrite a n r v s) := by
  unfold State.compareWrite
  repeat' (first | (intro x; first | (refine State.Sound.cut (q := Q) x ?_ (fun hx => ?_); (on_goal 1 => subst x)) | (refine State.Sound.cutPair (q := Q) x ?_ (fun hx => ?_); (on_goal 1 => subst x)) | skip) | (with_reducible first | assumption | apply State.cmpRegWrite_sound | apply State.tgt32Write_sound | apply State.tgtWrite_sound | apply State.plainWrite_sound | apply State.cmpHost_sound | apply State.cadenceStops_sound | apply State.cmpArm_sound) | intro x hx | intro _ | lift_lets -underBinder | split | (fail_if_no_progress with_reducible apply State.Sound.upd) | (with_reducible apply PairSound.mk) | clear_value * | (show State.Sound _ _; assumption))

theorem State.trigWrite_sound (a : Nat) (k : Nat) (v : Word) (hs : State.Sound Q s) : State.Sound Q (State.trigWrite a k v s) := by
  unfold State.trigWrite
  repeat' (first | (intro x; first | (refine State.Sound.cut (q := Q) x ?_ (fun hx => ?_); (on_goal 1 => subst x)) | (refine State.Sound.cutPair (q := Q) x ?_ (fun hx => ?_); (on_goal 1 => subst x)) | skip) | (with_reducible first | assumption | apply State.setFld_sound | apply State.plainWrite_sound) | intro x hx | intro _ | lift_lets -underBinder | split | (fail_if_no_progress with_reducible apply State.Sound.upd) | (with_reducible apply PairSound.mk))

theorem State.timeWrite_sound (a : Nat) (o : Nat) (v : Word) (hs : State.Sound Q s) : State.Sound Q (State.timeWrite a o v s) := by
  unfold State.timeWrite
  repeat' (first | (intro x; first | (refine State.Sound.cut (q := Q) x ?_ (fun hx => ?_); (on_goal 1 => subst x)) | (refine State.Sound.cutPair (q := Q) x ?_ (fun hx => ?_); (on_goal 1 => subst x)) | skip) | (with_reducible first | assumption | apply State.plainWrite_sound | apply State.slewStart_sound | apply onBit_sound | apply State.writeSlewIncr_sound | apply State.writeIncr_sound | apply State.loadWrite_sound | apply State.trigWrite_sound | apply State.compareWrite_sound) | intro x hx | intro _ | lift_lets -underBinder | split | (fail_if_no_progress with_reducible apply State.Sound.upd) | (with_reducible apply PairSound.mk) | clear_value *)

theorem State.sensWrite_sound (o : Nat) (v : Word) (hs : State.Sound Q s) : State.Sound Q (State.sensWrite o v s) := by
  unfold State.sensWrite
  repeat' (first | (intro x; first | (refine State.Sound.cut (q := Q) x ?_ (fun hx => ?_); (on_goal 1 => subst x)) | (refine State.Sound.cutPair (q := Q) x ?_ (fun hx => ?_); (on_goal 1 => subst x)) | skip) | (with_reducible first | assumption | apply State.sensClear_sound | apply State.sensLimit_sound) | intro x hx | intro _ | lift_lets -underBinder | split | (fail_if_no_progress with_reducible apply State.Sound.upd) | (with_reducible apply PairSound.mk))

theorem State.mgmtWrite_sound (a : Nat) (o : Nat) (v : Word) (hs : State.Sound Q s) : State.Sound Q (State.mgmtWrite a o v s) := by
  unfold State.mgmtWrite
  repeat' (first | (intro x; first | (refine State.Sound.cut (q := Q) x ?_ (fun hx => ?_); (on_goal 1 => subst x)) | (refine State.Sound.cutPair (q := Q) x ?_ (fun hx => ?_); (on_goal 1 => subst x)) | skip) | (with_reducible first | assumption | apply State.plainWrite_sound | apply State.logCfg_sound | apply State.hostKick_sound | apply State.hostWdtCfg_sound | apply State.mgmtCmd_sound) | intro x hx | intro _ | lift_lets -underBinder | split | (fail_if_no_progress with_reducible apply State.Sound.upd) | (with_reducible apply PairSound.mk) | clear_value *)

theorem State.intcWrite_sound (o : Nat) (v : Word) (hs : State.Sound Q s) : State.Sound Q (State.intcWrite o v s) := by
  unfold State.intcWrite
  repeat' (first | (intro x; first | (refine State.Sound.cut (q := Q) x ?_ (fun hx => ?_); (on_goal 1 => subst x)) | (refine State.Sound.cutPair (q := Q) x ?_ (fun hx => ?_); (on_goal 1 => subst x)) | skip) | (with_reducible first | assumption | apply State.eoi_sound | apply State.intcCtrlWrite_sound | apply State.swClr_sound | apply State.swSet_sound) | intro x hx | intro _ | lift_lets -underBinder | split | (fail_if_no_progress with_reducible apply State.Sound.upd) | (with_reducible apply PairSound.mk))

theorem State.mtxWrite_sound (a : Nat) (o : Nat) (v : Word) (hs : State.Sound Q s) : State.Sound Q (State.mtxWrite a o v s) := by
  unfold State.mtxWrite
  repeat' (first | (intro x; first | (refine State.Sound.cut (q := Q) x ?_ (fun hx => ?_); (on_goal 1 => subst x)) | (refine State.Sound.cutPair (q := Q) x ?_ (fun hx => ?_); (on_goal 1 => subst x)) | skip) | (with_reducible first | assumption | apply State.plainWrite_sound | apply State.wpWrite_sound | apply State.rangeWrite_sound) | intro x hx | intro _ | lift_lets -underBinder | split | (fail_if_no_progress with_reducible apply State.Sound.upd) | (with_reducible apply PairSound.mk))

theorem State.taskWrite_sound (a : Nat) (o : Nat) (v : Word) (hs : State.Sound Q s) : State.Sound Q (State.taskWrite a o v s) := by
  unfold State.taskWrite
  repeat' (first | (intro x; first | (refine State.Sound.cut (q := Q) x ?_ (fun hx => ?_); (on_goal 1 => subst x)) | (refine State.Sound.cutPair (q := Q) x ?_ (fun hx => ?_); (on_goal 1 => subst x)) | skip) | (with_reducible first | assumption | apply State.plainWrite_sound | apply State.cmdAbort_sound | apply State.cmdCfgWrite_sound | apply State.setReg_sound | apply State.reason_sound) | intro x hx | intro _ | lift_lets -underBinder | split | (fail_if_no_progress with_reducible apply State.Sound.upd) | (with_reducible apply PairSound.mk) | clear_value *)

theorem State.hostWrite_sound (a : Nat) (o : Nat) (v : Word) (hs : State.Sound Q s) : State.Sound Q (State.hostWrite a o v s) := by
  unfold State.hostWrite
  repeat' (first | (intro x; first | (refine State.Sound.cut (q := Q) x ?_ (fun hx => ?_); (on_goal 1 => subst x)) | (refine State.Sound.cutPair (q := Q) x ?_ (fun hx => ?_); (on_goal 1 => subst x)) | skip) | (with_reducible first | assumption | apply State.plainWrite_sound | apply State.msixUnmask_sound | apply execHostRetrain_sound | apply onBit_sound | apply execApertureWrite_sound | apply State.does_sound) | intro x hx | intro _ | lift_lets -underBinder | split | (fail_if_no_progress with_reducible apply State.Sound.upd) | (with_reducible apply PairSound.mk))

theorem State.dmaWrite_sound (r : Nat) (a : Nat) (o : Nat) (v : Word) (hs : State.Sound Q s) : State.Sound Q (State.dmaWrite r a o v s) := by
  unfold State.dmaWrite
  repeat' (first | (intro x; first | (refine State.Sound.cut (q := Q) x ?_ (fun hx => ?_); (on_goal 1 => subst x)) | (refine State.Sound.cutPair (q := Q) x ?_ (fun hx => ?_); (on_goal 1 => subst x)) | skip) | (with_reducible first | assumption | apply State.plainWrite_sound | apply execTailWrite_sound | apply State.does_sound | apply State.offWrite_sound) | intro x hx | intro _ | lift_lets -underBinder | split | (fail_if_no_progress with_reducible apply State.Sound.upd) | (with_reducible apply PairSound.mk))

theorem State.pairWrite_sound (a : Nat) (o : Nat) (v : Word) (hs : State.Sound Q s) : State.Sound Q (State.pairWrite a o v s) := by
  unfold State.pairWrite
  repeat' (first | (intro x; first | (refine State.Sound.cut (q := Q) x ?_ (fun hx => ?_); (on_goal 1 => subst x)) | (refine State.Sound.cutPair (q := Q) x ?_ (fun hx => ?_); (on_goal 1 => subst x)) | skip) | (with_reducible first | assumption | apply State.plainWrite_sound | apply State.pairHandover_sound | apply State.yieldNow_sound | apply State.clearYield_sound | apply State.joinNow_sound | apply onBit_sound | apply State.rangeWrite_sound | apply State.pairCfgWrite_sound) | intro x hx | intro _ | lift_lets -underBinder | split | (fail_if_no_progress with_reducible apply State.Sound.upd) | (with_reducible apply PairSound.mk) | clear_value *)

theorem State.ropeWrite_sound (a : Nat) (o : Nat) (v : Word) (hs : State.Sound Q s) : State.Sound Q (State.ropeWrite a o v s) := by
  unfold State.ropeWrite
  repeat' (first | (intro x; first | (refine State.Sound.cut (q := Q) x ?_ (fun hx => ?_); (on_goal 1 => subst x)) | (refine State.Sound.cutPair (q := Q) x ?_ (fun hx => ?_); (on_goal 1 => subst x)) | skip) | (with_reducible first | assumption | apply State.plainWrite_sound | apply State.ropeRestart_sound | apply State.ropeClear_sound | apply State.mboxSend_sound | apply execRopeRetrain_sound | apply State.does_sound | apply onBit_sound | apply State.offWrite_sound | refine State.Sound.foldl _ (fun _ _ _ => ?_) ?_ | refine PairSound.foldl _ (fun _ _ _ => ?_) ?_) | intro x hx | intro _ | lift_lets -underBinder | split | (fail_if_no_progress with_reducible apply State.Sound.upd) | (with_reducible apply PairSound.mk) | clear_value * | (with_reducible refine PairSound.of (by assumption)))

theorem State.memcWrite_sound (n : Nat) (a : Nat) (o : Nat) (v : Word) (hs : State.Sound Q s) : State.Sound Q (State.memcWrite n a o v s) := by
  unfold State.memcWrite
  repeat' (first | (intro x; first | (refine State.Sound.cut (q := Q) x ?_ (fun hx => ?_); (on_goal 1 => subst x)) | (refine State.Sound.cutPair (q := Q) x ?_ (fun hx => ?_); (on_goal 1 => subst x)) | skip) | (with_reducible first | assumption | apply State.memcTemp_sound | apply State.rangeWrite_sound | apply execShedWrite_sound | apply State.does_sound | apply State.applyDelays_sound | apply State.probeStart_sound | apply onBit_sound) | intro x hx | intro _ | lift_lets -underBinder | split | (fail_if_no_progress with_reducible apply State.Sound.upd) | (with_reducible apply PairSound.mk))

theorem State.laneWrite_sound (n : Nat) (a : Nat) (o : Nat) (v : Word) (hs : State.Sound Q s) : State.Sound Q (State.laneWrite n a o v s) := by
  unfold State.laneWrite
  repeat' (first | (intro x; first | (refine State.Sound.cut (q := Q) x ?_ (fun hx => ?_); (on_goal 1 => subst x)) | (refine State.Sound.cutPair (q := Q) x ?_ (fun hx => ?_); (on_goal 1 => subst x)) | skip) | (with_reducible first | assumption | apply State.plainWrite_sound | apply State.testCfgWrite_sound | apply State.ffeWrite_sound | apply State.laneCtrlWrite_sound | apply State.boundsWrite_sound | apply State.threshWrite_sound | apply State.laneCfgWrite_sound) | intro x hx | intro _ | lift_lets -underBinder | split | (fail_if_no_progress with_reducible apply State.Sound.upd) | (with_reducible apply PairSound.mk) | clear_value *)

theorem State.ethWrite_sound (n : Nat) (a : Nat) (o : Nat) (v : Word) (hs : State.Sound Q s) : State.Sound Q (State.ethWrite n a o v s) := by
  unfold State.ethWrite
  repeat' (first | (intro x; first | (refine State.Sound.cut (q := Q) x ?_ (fun hx => ?_); (on_goal 1 => subst x)) | (refine State.Sound.cutPair (q := Q) x ?_ (fun hx => ?_); (on_goal 1 => subst x)) | skip) | (with_reducible first | assumption | apply State.plainWrite_sound | apply State.offWrite_sound | apply State.laneModeNext_sound | apply State.subWrite_sound) | intro x hx | intro _ | lift_lets -underBinder | split | (fail_if_no_progress with_reducible apply State.Sound.upd) | (with_reducible apply PairSound.mk))

theorem State.qCmd_sound (v : Word) (hs : State.Sound Q s) : State.Sound Q (State.qCmd v s) := by
  unfold State.qCmd
  repeat' (first | (intro x; first | (refine State.Sound.cut (q := Q) x ?_ (fun hx => ?_); (on_goal 1 => subst x)) | (refine State.Sound.cutPair (q := Q) x ?_ (fun hx => ?_); (on_goal 1 => subst x)) | skip) | (with_reducible first | assumption | apply State.qFail_sound | apply State.qCommand_sound | apply State.returnQueue_sound | apply State.setShaper_sound | apply State.disableQueue_sound | apply State.enableQueue_sound) | intro x hx | intro _ | lift_lets -underBinder | split | (fail_if_no_progress with_reducible apply State.Sound.upd) | (with_reducible apply PairSound.mk) | clear_value *)

theorem State.tschWrite_sound (a : Nat) (o : Nat) (v : Word) (hs : State.Sound Q s) : State.Sound Q (State.tschWrite a o v s) := by
  unfold State.tschWrite
  repeat' (first | (intro x; first | (refine State.Sound.cut (q := Q) x ?_ (fun hx => ?_); (on_goal 1 => subst x)) | (refine State.Sound.cutPair (q := Q) x ?_ (fun hx => ?_); (on_goal 1 => subst x)) | skip) | (with_reducible first | assumption | apply State.plainWrite_sound | apply State.gateSwap_sound | apply State.gateCancel_sound | apply onBit_sound | apply State.qCmd_sound) | intro x hx | intro _ | lift_lets -underBinder | split | (fail_if_no_progress with_reducible apply State.Sound.upd) | (with_reducible apply PairSound.mk))

theorem State.qtabWrite_sound (a : Nat) (v : Word) (hs : State.Sound Q s) : State.Sound Q (State.qtabWrite a v s) := by
  unfold State.qtabWrite
  repeat' (first | (intro x; first | (refine State.Sound.cut (q := Q) x ?_ (fun hx => ?_); (on_goal 1 => subst x)) | (refine State.Sound.cutPair (q := Q) x ?_ (fun hx => ?_); (on_goal 1 => subst x)) | skip) | (with_reducible first | assumption | apply State.plainWrite_sound | apply State.reason_sound) | intro x hx | intro _ | lift_lets -underBinder | split | (fail_if_no_progress with_reducible apply State.Sound.upd) | (with_reducible apply PairSound.mk))

theorem State.srcWrite_sound (n : Nat) (a : Nat) (o : Nat) (v : Word) (hs : State.Sound Q s) : State.Sound Q (State.srcWrite n a o v s) := by
  unfold State.srcWrite
  repeat' (first | (intro x; first | (refine State.Sound.cut (q := Q) x ?_ (fun hx => ?_); (on_goal 1 => subst x)) | (refine State.Sound.cutPair (q := Q) x ?_ (fun hx => ?_); (on_goal 1 => subst x)) | skip) | (with_reducible first | assumption | apply State.plainWrite_sound | apply State.protWrite_sound | apply State.fenceSignal_sound) | intro x hx | intro _ | lift_lets -underBinder | split | (fail_if_no_progress with_reducible apply State.Sound.upd) | (with_reducible apply PairSound.mk))

theorem State.chkWrite_sound (a : Nat) (o : Nat) (v : Word) (hs : State.Sound Q s) : State.Sound Q (State.chkWrite a o v s) := by
  unfold State.chkWrite
  repeat' (first | (intro x; first | (refine State.Sound.cut (q := Q) x ?_ (fun hx => ?_); (on_goal 1 => subst x)) | (refine State.Sound.cutPair (q := Q) x ?_ (fun hx => ?_); (on_goal 1 => subst x)) | skip) | (with_reducible first | assumption | apply State.plainWrite_sound | apply State.offWrite_sound) | intro x hx | intro _ | lift_lets -underBinder | split | (fail_if_no_progress with_reducible apply State.Sound.upd) | (with_reducible apply PairSound.mk))

theorem State.unitWrite_sound (p : Nat) (o : Nat) (v : Word) (hs : State.Sound Q s) : State.Sound Q (State.unitWrite p o v s) := by
  unfold State.unitWrite
  repeat' (first | (intro x; first | (refine State.Sound.cut (q := Q) x ?_ (fun hx => ?_); (on_goal 1 => subst x)) | (refine State.Sound.cutPair (q := Q) x ?_ (fun hx => ?_); (on_goal 1 => subst x)) | skip) | (with_reducible first | assumption | apply State.plainWrite_sound | apply State.chkWrite_sound | apply State.srcWrite_sound | apply State.tschWrite_sound | apply State.ethWrite_sound | apply State.laneWrite_sound | apply State.memcWrite_sound | apply State.ropeWrite_sound | apply State.pairWrite_sound | apply State.dmaWrite_sound | apply State.hostWrite_sound | apply State.taskWrite_sound | apply State.mtxWrite_sound | apply State.intcWrite_sound | apply State.mgmtWrite_sound | apply State.sensWrite_sound | apply State.pwrCfgWrite_sound | apply State.timeWrite_sound | apply State.sysWrite_sound) | intro x hx | intro _ | lift_lets -underBinder | split | (fail_if_no_progress with_reducible apply State.Sound.upd) | (with_reducible apply PairSound.mk) | clear_value *)

theorem State.extensionWrite_sound (a : Nat) (v : Word) (hs : State.Sound Q s) : State.Sound Q (State.extensionWrite a v s) := by
  unfold State.extensionWrite
  repeat' (first | (intro x; first | (refine State.Sound.cut (q := Q) x ?_ (fun hx => ?_); (on_goal 1 => subst x)) | (refine State.Sound.cutPair (q := Q) x ?_ (fun hx => ?_); (on_goal 1 => subst x)) | skip) | (with_reducible first | assumption | apply State.qtabWrite_sound | apply State.intcCtrlWrite_sound) | intro x hx | intro _ | lift_lets -underBinder | split | (fail_if_no_progress with_reducible apply State.Sound.upd) | (with_reducible apply PairSound.mk))

theorem State.busWrite_sound (a : Nat) (v : Word) (hs : State.Sound Q s) : State.Sound Q (State.busWrite a v s) := by
  unfold State.busWrite
  repeat' (first | (intro x; first | (refine State.Sound.cut (q := Q) x ?_ (fun hx => ?_); (on_goal 1 => subst x)) | (refine State.Sound.cutPair (q := Q) x ?_ (fun hx => ?_); (on_goal 1 => subst x)) | skip) | (with_reducible first | assumption | apply State.unitWrite_sound | apply State.headerWrite_sound | apply State.extensionWrite_sound | apply State.pageCtrlWrite_sound) | intro x hx | intro _ | lift_lets -underBinder | split | (fail_if_no_progress with_reducible apply State.Sound.upd) | (with_reducible apply PairSound.mk))

theorem State.shadowView_sound (p : Nat) (hs : State.Sound Q s) : State.Sound Q (State.shadowView s p) := by
  unfold State.shadowView
  repeat' (first | (intro x; first | (refine State.Sound.cut (q := Q) x ?_ (fun hx => ?_); (on_goal 1 => subst x)) | (refine State.Sound.cutPair (q := Q) x ?_ (fun hx => ?_); (on_goal 1 => subst x)) | skip) | (with_reducible first | assumption | apply State.capture_sound) | intro x hx | intro _ | lift_lets -underBinder | split | (fail_if_no_progress with_reducible apply State.Sound.upd) | (with_reducible apply PairSound.mk))

theorem State.latch_sound (a : Nat) (hs : State.Sound Q s) : State.Sound Q (State.latch s a) := by
  unfold State.latch
  repeat' (first | (intro x; first | (refine State.Sound.cut (q := Q) x ?_ (fun hx => ?_); (on_goal 1 => subst x)) | (refine State.Sound.cutPair (q := Q) x ?_ (fun hx => ?_); (on_goal 1 => subst x)) | skip) | (with_reducible first | assumption | apply State.setReg_sound) | intro x hx | intro _ | lift_lets -underBinder | split | (fail_if_no_progress with_reducible apply State.Sound.upd) | (with_reducible apply PairSound.mk))

theorem State.readEffect_sound (p : Nat) (o : Nat) (hs : State.Sound Q s) : State.Sound Q (State.readEffect s p o) := by
  unfold State.readEffect
  repeat' (first | (intro x; first | (refine State.Sound.cut (q := Q) x ?_ (fun hx => ?_); (on_goal 1 => subst x)) | (refine State.Sound.cutPair (q := Q) x ?_ (fun hx => ?_); (on_goal 1 => subst x)) | skip) | (with_reducible first | assumption | apply State.latch_sound | apply State.tookFree_sound | apply State.setReg_sound) | intro x hx | intro _ | lift_lets -underBinder | split | (fail_if_no_progress with_reducible apply State.Sound.upd) | (with_reducible apply PairSound.mk) | clear_value *)

theorem State.unitRead_pair (p : Nat) (o : Nat) (hs : State.Sound Q s) : PairSound Q (State.unitRead s p o) := by
  unfold State.unitRead
  repeat' (first | (intro x; first | (refine State.Sound.cut (q := Q) x ?_ (fun hx => ?_); (on_goal 1 => subst x)) | (refine State.Sound.cutPair (q := Q) x ?_ (fun hx => ?_); (on_goal 1 => subst x)) | skip) | (with_reducible first | assumption | apply State.readEffect_sound | apply State.claimRead_sound | apply State.claimRead_pair) | intro x hx | intro _ | lift_lets -underBinder | split | (fail_if_no_progress with_reducible apply State.Sound.upd) | (with_reducible apply PairSound.mk) | clear_value *)

theorem State.unitRead_sound (p : Nat) (o : Nat) (hs : State.Sound Q s) : State.Sound Q (State.unitRead s p o).1 :=
  State.unitRead_pair p o hs

theorem State.extensionRead_pair (a : Nat) (hs : State.Sound Q s) : PairSound Q (State.extensionRead s a) := by
  unfold State.extensionRead
  repeat' (first | (intro x; first | (refine State.Sound.cut (q := Q) x ?_ (fun hx => ?_); (on_goal 1 => subst x)) | (refine State.Sound.cutPair (q := Q) x ?_ (fun hx => ?_); (on_goal 1 => subst x)) | skip) | (with_reducible first | assumption | apply State.setReg_sound) | intro x hx | intro _ | lift_lets -underBinder | split | (fail_if_no_progress with_reducible apply State.Sound.upd) | (with_reducible apply PairSound.mk))

theorem State.extensionRead_sound (a : Nat) (hs : State.Sound Q s) : State.Sound Q (State.extensionRead s a).1 :=
  State.extensionRead_pair a hs

theorem State.busRead_pair (a : Nat) (hs : State.Sound Q s) : PairSound Q (State.busRead s a) := by
  unfold State.busRead
  repeat' (first | (intro x; first | (refine State.Sound.cut (q := Q) x ?_ (fun hx => ?_); (on_goal 1 => subst x)) | (refine State.Sound.cutPair (q := Q) x ?_ (fun hx => ?_); (on_goal 1 => subst x)) | skip) | (with_reducible first | assumption | apply State.unitRead_sound | apply State.unitRead_pair | apply State.extensionRead_sound | apply State.extensionRead_pair) | intro x hx | intro _ | lift_lets -underBinder | split | (fail_if_no_progress with_reducible apply State.Sound.upd) | (with_reducible apply PairSound.mk))

theorem State.busRead_sound (a : Nat) (hs : State.Sound Q s) : State.Sound Q (State.busRead s a).1 :=
  State.busRead_pair a hs

theorem State.hostRead_sound (a : Nat) (hs : State.Sound Q s) : State.Sound Q (State.hostRead s a) := by
  unfold State.hostRead
  repeat' (first | (intro x; first | (refine State.Sound.cut (q := Q) x ?_ (fun hx => ?_); (on_goal 1 => subst x)) | (refine State.Sound.cutPair (q := Q) x ?_ (fun hx => ?_); (on_goal 1 => subst x)) | skip) | (with_reducible first | assumption | apply State.busRead_sound | apply State.busRead_pair) | intro x hx | intro _ | lift_lets -underBinder | split | (fail_if_no_progress with_reducible apply State.Sound.upd) | (with_reducible apply PairSound.mk))

theorem execRegisterWrite_sound (a : Nat) (v : Word) (hs : State.Sound Q s) : Out.Sound Q (execRegisterWrite a v s) := by
  unfold execRegisterWrite
  repeat' (first | (intro x; first | (refine State.Sound.cut (q := Q) x ?_ (fun hx => ?_); (on_goal 1 => subst x)) | (refine State.Sound.cutPair (q := Q) x ?_ (fun hx => ?_); (on_goal 1 => subst x)) | skip) | (with_reducible first | assumption | apply State.busWrite_sound | apply Out.Sound.next) | intro x hx | intro _ | lift_lets -underBinder | split | (fail_if_no_progress with_reducible apply State.Sound.upd) | (with_reducible apply PairSound.mk))

theorem execShadowWrite_sound (p : Nat) (o : Nat) (v : Word) (hs : State.Sound Q s) : Out.Sound Q (execShadowWrite p o v s) := by
  unfold execShadowWrite
  repeat' (first | (intro x; first | (refine State.Sound.cut (q := Q) x ?_ (fun hx => ?_); (on_goal 1 => subst x)) | (refine State.Sound.cutPair (q := Q) x ?_ (fun hx => ?_); (on_goal 1 => subst x)) | skip) | (with_reducible first | assumption | apply State.shadowWrite_sound | apply State.onPage_sound | apply Out.Sound.next) | intro x hx | intro _ | lift_lets -underBinder | split | (fail_if_no_progress with_reducible apply State.Sound.upd) | (with_reducible apply PairSound.mk) | clear_value *)

theorem execIntSet_sound (p : Nat) (v : Word) (hs : State.Sound Q s) : Out.Sound Q (execIntSet p v s) := by
  unfold execIntSet
  repeat' (first | (intro x; first | (refine State.Sound.cut (q := Q) x ?_ (fun hx => ?_); (on_goal 1 => subst x)) | (refine State.Sound.cutPair (q := Q) x ?_ (fun hx => ?_); (on_goal 1 => subst x)) | skip) | (with_reducible first | assumption | apply State.intSet_sound | apply State.onHeader_sound | apply Out.Sound.next) | intro x hx | intro _ | lift_lets -underBinder | split | (fail_if_no_progress with_reducible apply State.Sound.upd) | (with_reducible apply PairSound.mk))

theorem execLatchingRead_sound (a : Nat) (hs : State.Sound Q s) : Out.Sound Q (execLatchingRead a s) := by
  unfold execLatchingRead
  repeat' (first | (intro x; first | (refine State.Sound.cut (q := Q) x ?_ (fun hx => ?_); (on_goal 1 => subst x)) | (refine State.Sound.cutPair (q := Q) x ?_ (fun hx => ?_); (on_goal 1 => subst x)) | skip) | (with_reducible first | assumption | apply State.hostRead_sound | apply Out.Sound.next) | intro x hx | intro _ | lift_lets -underBinder | split | (fail_if_no_progress with_reducible apply State.Sound.upd) | (with_reducible apply PairSound.mk))

theorem execBar0NarrowAccess_sound (a : Nat) (len : Nat) (data : Option Nat) (hs : State.Sound Q s) : Out.Sound Q (execBar0NarrowAccess a len data s) := by
  unfold execBar0NarrowAccess
  repeat' (first | (intro x; first | (refine State.Sound.cut (q := Q) x ?_ (fun hx => ?_); (on_goal 1 => subst x)) | (refine State.Sound.cutPair (q := Q) x ?_ (fun hx => ?_); (on_goal 1 => subst x)) | skip) | (with_reducible first | assumption | apply State.busRead_sound | apply State.busRead_pair | apply State.busWrite_sound | apply Out.Sound.next) | intro x hx | intro _ | lift_lets -underBinder | split | (fail_if_no_progress with_reducible apply State.Sound.upd) | (with_reducible apply PairSound.mk) | clear_value *)

end Sys2Proof.Machine
end

