-- ==== Sys2Proof/Laws/State.lean ====
section
/-! SUPPORT. What each record update of State leaves alone: one lemma for each field of each update, true by definition, so that no
proof unfolds an update. -/

namespace Sys2Proof.Machine

variable (s : State)

/-! A register write -/

@[simp] theorem State.pending_setReg (a : Nat) (v : Word) : (s.setReg a v).pending = s.pending := rfl
@[simp] theorem State.freeCtr_setReg (a : Nat) (v : Word) : (s.setReg a v).freeCtr = s.freeCtr := rfl
@[simp] theorem State.hiLive_setReg (a : Nat) (v : Word) : (s.setReg a v).hiLive = s.hiLive := rfl
@[simp] theorem State.mem_setReg (a : Nat) (v : Word) : (s.setReg a v).mem = s.mem := rfl
@[simp] theorem State.hostMem_setReg (a : Nat) (v : Word) : (s.setReg a v).hostMem = s.hostMem := rfl
@[simp] theorem State.norMem_setReg (a : Nat) (v : Word) : (s.setReg a v).norMem = s.norMem := rfl
@[simp] theorem State.pages_setReg (a : Nat) (v : Word) : (s.setReg a v).pages = s.pages := rfl
@[simp] theorem State.commits_setReg (a : Nat) (v : Word) : (s.setReg a v).commits = s.commits := rfl
@[simp] theorem State.time_setReg (a : Nat) (v : Word) : (s.setReg a v).time = s.time := rfl
@[simp] theorem State.boot_setReg (a : Nat) (v : Word) : (s.setReg a v).boot = s.boot := rfl
@[simp] theorem State.nor_setReg (a : Nat) (v : Word) : (s.setReg a v).nor = s.nor := rfl
@[simp] theorem State.log_setReg (a : Nat) (v : Word) : (s.setReg a v).log = s.log := rfl
@[simp] theorem State.watch_setReg (a : Nat) (v : Word) : (s.setReg a v).watch = s.watch := rfl
@[simp] theorem State.pwr_setReg (a : Nat) (v : Word) : (s.setReg a v).pwr = s.pwr := rfl
@[simp] theorem State.readData_setReg (a : Nat) (v : Word) : (s.setReg a v).readData = s.readData := rfl
@[simp] theorem State.mtx_setReg (a : Nat) (v : Word) : (s.setReg a v).mtx = s.mtx := rfl
@[simp] theorem State.memc_setReg (a : Nat) (v : Word) : (s.setReg a v).memc = s.memc := rfl
@[simp] theorem State.ring_setReg (a : Nat) (v : Word) : (s.setReg a v).ring = s.ring := rfl
@[simp] theorem State.tsch_setReg (a : Nat) (v : Word) : (s.setReg a v).tsch = s.tsch := rfl
@[simp] theorem State.chan_setReg (a : Nat) (v : Word) : (s.setReg a v).chan = s.chan := rfl
@[simp] theorem State.grp_setReg (a : Nat) (v : Word) : (s.setReg a v).grp = s.grp := rfl
@[simp] theorem State.chmb_setReg (a : Nat) (v : Word) : (s.setReg a v).chmb = s.chmb := rfl
@[simp] theorem State.pair_setReg (a : Nat) (v : Word) : (s.setReg a v).pair = s.pair := rfl
@[simp] theorem State.rope_setReg (a : Nat) (v : Word) : (s.setReg a v).rope = s.rope := rfl
@[simp] theorem State.sqz_setReg (a : Nat) (v : Word) : (s.setReg a v).sqz = s.sqz := rfl
@[simp] theorem State.input_setReg (a : Nat) (v : Word) : (s.setReg a v).input = s.input := rfl
@[simp] theorem State.src_setReg (a : Nat) (v : Word) : (s.setReg a v).src = s.src := rfl
@[simp] theorem State.scal_setReg (a : Nat) (v : Word) : (s.setReg a v).scal = s.scal := rfl
@[simp] theorem State.dec_setReg (a : Nat) (v : Word) : (s.setReg a v).dec = s.dec := rfl
@[simp] theorem State.sdo_setReg (a : Nat) (v : Word) : (s.setReg a v).sdo = s.sdo := rfl
@[simp] theorem State.ethAt_setReg (a : Nat) (v : Word) : (s.setReg a v).ethAt = s.ethAt := rfl
@[simp] theorem State.lane_setReg (a : Nat) (v : Word) : (s.setReg a v).lane = s.lane := rfl
@[simp] theorem State.intc_setReg (a : Nat) (v : Word) : (s.setReg a v).intc = s.intc := rfl
@[simp] theorem State.task_setReg (a : Nat) (v : Word) : (s.setReg a v).task = s.task := rfl

/-! A live value -/

@[simp] theorem State.pending_setLive (a : Nat) (v : Word) : (s.setLive a v).pending = s.pending := rfl
@[simp] theorem State.freeCtr_setLive (a : Nat) (v : Word) : (s.setLive a v).freeCtr = s.freeCtr := rfl
@[simp] theorem State.regs_setLive (a : Nat) (v : Word) : (s.setLive a v).regs = s.regs := rfl
@[simp] theorem State.mem_setLive (a : Nat) (v : Word) : (s.setLive a v).mem = s.mem := rfl
@[simp] theorem State.hostMem_setLive (a : Nat) (v : Word) : (s.setLive a v).hostMem = s.hostMem := rfl
@[simp] theorem State.norMem_setLive (a : Nat) (v : Word) : (s.setLive a v).norMem = s.norMem := rfl
@[simp] theorem State.pages_setLive (a : Nat) (v : Word) : (s.setLive a v).pages = s.pages := rfl
@[simp] theorem State.commits_setLive (a : Nat) (v : Word) : (s.setLive a v).commits = s.commits := rfl
@[simp] theorem State.time_setLive (a : Nat) (v : Word) : (s.setLive a v).time = s.time := rfl
@[simp] theorem State.boot_setLive (a : Nat) (v : Word) : (s.setLive a v).boot = s.boot := rfl
@[simp] theorem State.nor_setLive (a : Nat) (v : Word) : (s.setLive a v).nor = s.nor := rfl
@[simp] theorem State.log_setLive (a : Nat) (v : Word) : (s.setLive a v).log = s.log := rfl
@[simp] theorem State.watch_setLive (a : Nat) (v : Word) : (s.setLive a v).watch = s.watch := rfl
@[simp] theorem State.pwr_setLive (a : Nat) (v : Word) : (s.setLive a v).pwr = s.pwr := rfl
@[simp] theorem State.readData_setLive (a : Nat) (v : Word) : (s.setLive a v).readData = s.readData := rfl
@[simp] theorem State.mtx_setLive (a : Nat) (v : Word) : (s.setLive a v).mtx = s.mtx := rfl
@[simp] theorem State.memc_setLive (a : Nat) (v : Word) : (s.setLive a v).memc = s.memc := rfl
@[simp] theorem State.ring_setLive (a : Nat) (v : Word) : (s.setLive a v).ring = s.ring := rfl
@[simp] theorem State.tsch_setLive (a : Nat) (v : Word) : (s.setLive a v).tsch = s.tsch := rfl
@[simp] theorem State.chan_setLive (a : Nat) (v : Word) : (s.setLive a v).chan = s.chan := rfl
@[simp] theorem State.grp_setLive (a : Nat) (v : Word) : (s.setLive a v).grp = s.grp := rfl
@[simp] theorem State.chmb_setLive (a : Nat) (v : Word) : (s.setLive a v).chmb = s.chmb := rfl
@[simp] theorem State.pair_setLive (a : Nat) (v : Word) : (s.setLive a v).pair = s.pair := rfl
@[simp] theorem State.rope_setLive (a : Nat) (v : Word) : (s.setLive a v).rope = s.rope := rfl
@[simp] theorem State.sqz_setLive (a : Nat) (v : Word) : (s.setLive a v).sqz = s.sqz := rfl
@[simp] theorem State.input_setLive (a : Nat) (v : Word) : (s.setLive a v).input = s.input := rfl
@[simp] theorem State.src_setLive (a : Nat) (v : Word) : (s.setLive a v).src = s.src := rfl
@[simp] theorem State.scal_setLive (a : Nat) (v : Word) : (s.setLive a v).scal = s.scal := rfl
@[simp] theorem State.dec_setLive (a : Nat) (v : Word) : (s.setLive a v).dec = s.dec := rfl
@[simp] theorem State.sdo_setLive (a : Nat) (v : Word) : (s.setLive a v).sdo = s.sdo := rfl
@[simp] theorem State.ethAt_setLive (a : Nat) (v : Word) : (s.setLive a v).ethAt = s.ethAt := rfl
@[simp] theorem State.lane_setLive (a : Nat) (v : Word) : (s.setLive a v).lane = s.lane := rfl
@[simp] theorem State.intc_setLive (a : Nat) (v : Word) : (s.setLive a v).intc = s.intc := rfl
@[simp] theorem State.task_setLive (a : Nat) (v : Word) : (s.setLive a v).task = s.task := rfl

/-! A byte of memory -/

@[simp] theorem State.pending_setByte (a : Nat) (v : Byte) : (s.setByte a v).pending = s.pending := rfl
@[simp] theorem State.freeCtr_setByte (a : Nat) (v : Byte) : (s.setByte a v).freeCtr = s.freeCtr := rfl
@[simp] theorem State.regs_setByte (a : Nat) (v : Byte) : (s.setByte a v).regs = s.regs := rfl
@[simp] theorem State.hiLive_setByte (a : Nat) (v : Byte) : (s.setByte a v).hiLive = s.hiLive := rfl
@[simp] theorem State.hostMem_setByte (a : Nat) (v : Byte) : (s.setByte a v).hostMem = s.hostMem := rfl
@[simp] theorem State.norMem_setByte (a : Nat) (v : Byte) : (s.setByte a v).norMem = s.norMem := rfl
@[simp] theorem State.pages_setByte (a : Nat) (v : Byte) : (s.setByte a v).pages = s.pages := rfl
@[simp] theorem State.commits_setByte (a : Nat) (v : Byte) : (s.setByte a v).commits = s.commits := rfl
@[simp] theorem State.time_setByte (a : Nat) (v : Byte) : (s.setByte a v).time = s.time := rfl
@[simp] theorem State.boot_setByte (a : Nat) (v : Byte) : (s.setByte a v).boot = s.boot := rfl
@[simp] theorem State.nor_setByte (a : Nat) (v : Byte) : (s.setByte a v).nor = s.nor := rfl
@[simp] theorem State.log_setByte (a : Nat) (v : Byte) : (s.setByte a v).log = s.log := rfl
@[simp] theorem State.watch_setByte (a : Nat) (v : Byte) : (s.setByte a v).watch = s.watch := rfl
@[simp] theorem State.pwr_setByte (a : Nat) (v : Byte) : (s.setByte a v).pwr = s.pwr := rfl
@[simp] theorem State.readData_setByte (a : Nat) (v : Byte) : (s.setByte a v).readData = s.readData := rfl
@[simp] theorem State.mtx_setByte (a : Nat) (v : Byte) : (s.setByte a v).mtx = s.mtx := rfl
@[simp] theorem State.memc_setByte (a : Nat) (v : Byte) : (s.setByte a v).memc = s.memc := rfl
@[simp] theorem State.ring_setByte (a : Nat) (v : Byte) : (s.setByte a v).ring = s.ring := rfl
@[simp] theorem State.tsch_setByte (a : Nat) (v : Byte) : (s.setByte a v).tsch = s.tsch := rfl
@[simp] theorem State.chan_setByte (a : Nat) (v : Byte) : (s.setByte a v).chan = s.chan := rfl
@[simp] theorem State.grp_setByte (a : Nat) (v : Byte) : (s.setByte a v).grp = s.grp := rfl
@[simp] theorem State.chmb_setByte (a : Nat) (v : Byte) : (s.setByte a v).chmb = s.chmb := rfl
@[simp] theorem State.pair_setByte (a : Nat) (v : Byte) : (s.setByte a v).pair = s.pair := rfl
@[simp] theorem State.rope_setByte (a : Nat) (v : Byte) : (s.setByte a v).rope = s.rope := rfl
@[simp] theorem State.sqz_setByte (a : Nat) (v : Byte) : (s.setByte a v).sqz = s.sqz := rfl
@[simp] theorem State.input_setByte (a : Nat) (v : Byte) : (s.setByte a v).input = s.input := rfl
@[simp] theorem State.src_setByte (a : Nat) (v : Byte) : (s.setByte a v).src = s.src := rfl
@[simp] theorem State.scal_setByte (a : Nat) (v : Byte) : (s.setByte a v).scal = s.scal := rfl
@[simp] theorem State.dec_setByte (a : Nat) (v : Byte) : (s.setByte a v).dec = s.dec := rfl
@[simp] theorem State.sdo_setByte (a : Nat) (v : Byte) : (s.setByte a v).sdo = s.sdo := rfl
@[simp] theorem State.ethAt_setByte (a : Nat) (v : Byte) : (s.setByte a v).ethAt = s.ethAt := rfl
@[simp] theorem State.lane_setByte (a : Nat) (v : Byte) : (s.setByte a v).lane = s.lane := rfl
@[simp] theorem State.intc_setByte (a : Nat) (v : Byte) : (s.setByte a v).intc = s.intc := rfl
@[simp] theorem State.task_setByte (a : Nat) (v : Byte) : (s.setByte a v).task = s.task := rfl

/-! A page record -/

@[simp] theorem State.pending_setPage (p : Nat) (i : PageInfo) : (s.setPage p i).pending = s.pending := rfl
@[simp] theorem State.freeCtr_setPage (p : Nat) (i : PageInfo) : (s.setPage p i).freeCtr = s.freeCtr := rfl
@[simp] theorem State.regs_setPage (p : Nat) (i : PageInfo) : (s.setPage p i).regs = s.regs := rfl
@[simp] theorem State.hiLive_setPage (p : Nat) (i : PageInfo) : (s.setPage p i).hiLive = s.hiLive := rfl
@[simp] theorem State.mem_setPage (p : Nat) (i : PageInfo) : (s.setPage p i).mem = s.mem := rfl
@[simp] theorem State.hostMem_setPage (p : Nat) (i : PageInfo) : (s.setPage p i).hostMem = s.hostMem := rfl
@[simp] theorem State.norMem_setPage (p : Nat) (i : PageInfo) : (s.setPage p i).norMem = s.norMem := rfl
@[simp] theorem State.commits_setPage (p : Nat) (i : PageInfo) : (s.setPage p i).commits = s.commits := rfl
@[simp] theorem State.time_setPage (p : Nat) (i : PageInfo) : (s.setPage p i).time = s.time := rfl
@[simp] theorem State.boot_setPage (p : Nat) (i : PageInfo) : (s.setPage p i).boot = s.boot := rfl
@[simp] theorem State.nor_setPage (p : Nat) (i : PageInfo) : (s.setPage p i).nor = s.nor := rfl
@[simp] theorem State.log_setPage (p : Nat) (i : PageInfo) : (s.setPage p i).log = s.log := rfl
@[simp] theorem State.watch_setPage (p : Nat) (i : PageInfo) : (s.setPage p i).watch = s.watch := rfl
@[simp] theorem State.pwr_setPage (p : Nat) (i : PageInfo) : (s.setPage p i).pwr = s.pwr := rfl
@[simp] theorem State.readData_setPage (p : Nat) (i : PageInfo) : (s.setPage p i).readData = s.readData := rfl
@[simp] theorem State.mtx_setPage (p : Nat) (i : PageInfo) : (s.setPage p i).mtx = s.mtx := rfl
@[simp] theorem State.memc_setPage (p : Nat) (i : PageInfo) : (s.setPage p i).memc = s.memc := rfl
@[simp] theorem State.ring_setPage (p : Nat) (i : PageInfo) : (s.setPage p i).ring = s.ring := rfl
@[simp] theorem State.tsch_setPage (p : Nat) (i : PageInfo) : (s.setPage p i).tsch = s.tsch := rfl
@[simp] theorem State.chan_setPage (p : Nat) (i : PageInfo) : (s.setPage p i).chan = s.chan := rfl
@[simp] theorem State.grp_setPage (p : Nat) (i : PageInfo) : (s.setPage p i).grp = s.grp := rfl
@[simp] theorem State.chmb_setPage (p : Nat) (i : PageInfo) : (s.setPage p i).chmb = s.chmb := rfl
@[simp] theorem State.pair_setPage (p : Nat) (i : PageInfo) : (s.setPage p i).pair = s.pair := rfl
@[simp] theorem State.rope_setPage (p : Nat) (i : PageInfo) : (s.setPage p i).rope = s.rope := rfl
@[simp] theorem State.sqz_setPage (p : Nat) (i : PageInfo) : (s.setPage p i).sqz = s.sqz := rfl
@[simp] theorem State.input_setPage (p : Nat) (i : PageInfo) : (s.setPage p i).input = s.input := rfl
@[simp] theorem State.src_setPage (p : Nat) (i : PageInfo) : (s.setPage p i).src = s.src := rfl
@[simp] theorem State.scal_setPage (p : Nat) (i : PageInfo) : (s.setPage p i).scal = s.scal := rfl
@[simp] theorem State.dec_setPage (p : Nat) (i : PageInfo) : (s.setPage p i).dec = s.dec := rfl
@[simp] theorem State.sdo_setPage (p : Nat) (i : PageInfo) : (s.setPage p i).sdo = s.sdo := rfl
@[simp] theorem State.ethAt_setPage (p : Nat) (i : PageInfo) : (s.setPage p i).ethAt = s.ethAt := rfl
@[simp] theorem State.lane_setPage (p : Nat) (i : PageInfo) : (s.setPage p i).lane = s.lane := rfl
@[simp] theorem State.intc_setPage (p : Nat) (i : PageInfo) : (s.setPage p i).intc = s.intc := rfl
@[simp] theorem State.task_setPage (p : Nat) (i : PageInfo) : (s.setPage p i).task = s.task := rfl

/-! A field write -/

@[simp] theorem State.pending_setFld (p : Nat) (f : Fld) (v : Nat) : (s.setFld p f v).pending = s.pending := rfl
@[simp] theorem State.freeCtr_setFld (p : Nat) (f : Fld) (v : Nat) : (s.setFld p f v).freeCtr = s.freeCtr := rfl
@[simp] theorem State.hiLive_setFld (p : Nat) (f : Fld) (v : Nat) : (s.setFld p f v).hiLive = s.hiLive := rfl
@[simp] theorem State.mem_setFld (p : Nat) (f : Fld) (v : Nat) : (s.setFld p f v).mem = s.mem := rfl
@[simp] theorem State.hostMem_setFld (p : Nat) (f : Fld) (v : Nat) : (s.setFld p f v).hostMem = s.hostMem := rfl
@[simp] theorem State.norMem_setFld (p : Nat) (f : Fld) (v : Nat) : (s.setFld p f v).norMem = s.norMem := rfl
@[simp] theorem State.pages_setFld (p : Nat) (f : Fld) (v : Nat) : (s.setFld p f v).pages = s.pages := rfl
@[simp] theorem State.commits_setFld (p : Nat) (f : Fld) (v : Nat) : (s.setFld p f v).commits = s.commits := rfl
@[simp] theorem State.time_setFld (p : Nat) (f : Fld) (v : Nat) : (s.setFld p f v).time = s.time := rfl
@[simp] theorem State.boot_setFld (p : Nat) (f : Fld) (v : Nat) : (s.setFld p f v).boot = s.boot := rfl
@[simp] theorem State.nor_setFld (p : Nat) (f : Fld) (v : Nat) : (s.setFld p f v).nor = s.nor := rfl
@[simp] theorem State.log_setFld (p : Nat) (f : Fld) (v : Nat) : (s.setFld p f v).log = s.log := rfl
@[simp] theorem State.watch_setFld (p : Nat) (f : Fld) (v : Nat) : (s.setFld p f v).watch = s.watch := rfl
@[simp] theorem State.pwr_setFld (p : Nat) (f : Fld) (v : Nat) : (s.setFld p f v).pwr = s.pwr := rfl
@[simp] theorem State.readData_setFld (p : Nat) (f : Fld) (v : Nat) : (s.setFld p f v).readData = s.readData := rfl
@[simp] theorem State.mtx_setFld (p : Nat) (f : Fld) (v : Nat) : (s.setFld p f v).mtx = s.mtx := rfl
@[simp] theorem State.memc_setFld (p : Nat) (f : Fld) (v : Nat) : (s.setFld p f v).memc = s.memc := rfl
@[simp] theorem State.ring_setFld (p : Nat) (f : Fld) (v : Nat) : (s.setFld p f v).ring = s.ring := rfl
@[simp] theorem State.tsch_setFld (p : Nat) (f : Fld) (v : Nat) : (s.setFld p f v).tsch = s.tsch := rfl
@[simp] theorem State.chan_setFld (p : Nat) (f : Fld) (v : Nat) : (s.setFld p f v).chan = s.chan := rfl
@[simp] theorem State.grp_setFld (p : Nat) (f : Fld) (v : Nat) : (s.setFld p f v).grp = s.grp := rfl
@[simp] theorem State.chmb_setFld (p : Nat) (f : Fld) (v : Nat) : (s.setFld p f v).chmb = s.chmb := rfl
@[simp] theorem State.pair_setFld (p : Nat) (f : Fld) (v : Nat) : (s.setFld p f v).pair = s.pair := rfl
@[simp] theorem State.rope_setFld (p : Nat) (f : Fld) (v : Nat) : (s.setFld p f v).rope = s.rope := rfl
@[simp] theorem State.sqz_setFld (p : Nat) (f : Fld) (v : Nat) : (s.setFld p f v).sqz = s.sqz := rfl
@[simp] theorem State.input_setFld (p : Nat) (f : Fld) (v : Nat) : (s.setFld p f v).input = s.input := rfl
@[simp] theorem State.src_setFld (p : Nat) (f : Fld) (v : Nat) : (s.setFld p f v).src = s.src := rfl
@[simp] theorem State.scal_setFld (p : Nat) (f : Fld) (v : Nat) : (s.setFld p f v).scal = s.scal := rfl
@[simp] theorem State.dec_setFld (p : Nat) (f : Fld) (v : Nat) : (s.setFld p f v).dec = s.dec := rfl
@[simp] theorem State.sdo_setFld (p : Nat) (f : Fld) (v : Nat) : (s.setFld p f v).sdo = s.sdo := rfl
@[simp] theorem State.ethAt_setFld (p : Nat) (f : Fld) (v : Nat) : (s.setFld p f v).ethAt = s.ethAt := rfl
@[simp] theorem State.lane_setFld (p : Nat) (f : Fld) (v : Nat) : (s.setFld p f v).lane = s.lane := rfl
@[simp] theorem State.intc_setFld (p : Nat) (f : Fld) (v : Nat) : (s.setFld p f v).intc = s.intc := rfl
@[simp] theorem State.task_setFld (p : Nat) (f : Fld) (v : Nat) : (s.setFld p f v).task = s.task := rfl

/-! An INT_STATUS bit -/

@[simp] theorem State.pending_raise (p b : Nat) : (s.raise p b).pending = s.pending := rfl
@[simp] theorem State.freeCtr_raise (p b : Nat) : (s.raise p b).freeCtr = s.freeCtr := rfl
@[simp] theorem State.hiLive_raise (p b : Nat) : (s.raise p b).hiLive = s.hiLive := rfl
@[simp] theorem State.mem_raise (p b : Nat) : (s.raise p b).mem = s.mem := rfl
@[simp] theorem State.hostMem_raise (p b : Nat) : (s.raise p b).hostMem = s.hostMem := rfl
@[simp] theorem State.norMem_raise (p b : Nat) : (s.raise p b).norMem = s.norMem := rfl
@[simp] theorem State.pages_raise (p b : Nat) : (s.raise p b).pages = s.pages := rfl
@[simp] theorem State.commits_raise (p b : Nat) : (s.raise p b).commits = s.commits := rfl
@[simp] theorem State.time_raise (p b : Nat) : (s.raise p b).time = s.time := rfl
@[simp] theorem State.boot_raise (p b : Nat) : (s.raise p b).boot = s.boot := rfl
@[simp] theorem State.nor_raise (p b : Nat) : (s.raise p b).nor = s.nor := rfl
@[simp] theorem State.log_raise (p b : Nat) : (s.raise p b).log = s.log := rfl
@[simp] theorem State.watch_raise (p b : Nat) : (s.raise p b).watch = s.watch := rfl
@[simp] theorem State.pwr_raise (p b : Nat) : (s.raise p b).pwr = s.pwr := rfl
@[simp] theorem State.readData_raise (p b : Nat) : (s.raise p b).readData = s.readData := rfl
@[simp] theorem State.mtx_raise (p b : Nat) : (s.raise p b).mtx = s.mtx := rfl
@[simp] theorem State.memc_raise (p b : Nat) : (s.raise p b).memc = s.memc := rfl
@[simp] theorem State.ring_raise (p b : Nat) : (s.raise p b).ring = s.ring := rfl
@[simp] theorem State.tsch_raise (p b : Nat) : (s.raise p b).tsch = s.tsch := rfl
@[simp] theorem State.chan_raise (p b : Nat) : (s.raise p b).chan = s.chan := rfl
@[simp] theorem State.grp_raise (p b : Nat) : (s.raise p b).grp = s.grp := rfl
@[simp] theorem State.chmb_raise (p b : Nat) : (s.raise p b).chmb = s.chmb := rfl
@[simp] theorem State.pair_raise (p b : Nat) : (s.raise p b).pair = s.pair := rfl
@[simp] theorem State.rope_raise (p b : Nat) : (s.raise p b).rope = s.rope := rfl
@[simp] theorem State.sqz_raise (p b : Nat) : (s.raise p b).sqz = s.sqz := rfl
@[simp] theorem State.input_raise (p b : Nat) : (s.raise p b).input = s.input := rfl
@[simp] theorem State.src_raise (p b : Nat) : (s.raise p b).src = s.src := rfl
@[simp] theorem State.scal_raise (p b : Nat) : (s.raise p b).scal = s.scal := rfl
@[simp] theorem State.dec_raise (p b : Nat) : (s.raise p b).dec = s.dec := rfl
@[simp] theorem State.sdo_raise (p b : Nat) : (s.raise p b).sdo = s.sdo := rfl
@[simp] theorem State.ethAt_raise (p b : Nat) : (s.raise p b).ethAt = s.ethAt := rfl
@[simp] theorem State.lane_raise (p b : Nat) : (s.raise p b).lane = s.lane := rfl
@[simp] theorem State.intc_raise (p b : Nat) : (s.raise p b).intc = s.intc := rfl
@[simp] theorem State.task_raise (p b : Nat) : (s.raise p b).task = s.task := rfl

/-! An INT_RAW bit -/

@[simp] theorem State.pending_rawTo (p b : Nat) (on : Bool) : (s.rawTo p b on).pending = s.pending := rfl
@[simp] theorem State.freeCtr_rawTo (p b : Nat) (on : Bool) : (s.rawTo p b on).freeCtr = s.freeCtr := rfl
@[simp] theorem State.hiLive_rawTo (p b : Nat) (on : Bool) : (s.rawTo p b on).hiLive = s.hiLive := rfl
@[simp] theorem State.mem_rawTo (p b : Nat) (on : Bool) : (s.rawTo p b on).mem = s.mem := rfl
@[simp] theorem State.hostMem_rawTo (p b : Nat) (on : Bool) : (s.rawTo p b on).hostMem = s.hostMem := rfl
@[simp] theorem State.norMem_rawTo (p b : Nat) (on : Bool) : (s.rawTo p b on).norMem = s.norMem := rfl
@[simp] theorem State.pages_rawTo (p b : Nat) (on : Bool) : (s.rawTo p b on).pages = s.pages := rfl
@[simp] theorem State.commits_rawTo (p b : Nat) (on : Bool) : (s.rawTo p b on).commits = s.commits := rfl
@[simp] theorem State.time_rawTo (p b : Nat) (on : Bool) : (s.rawTo p b on).time = s.time := rfl
@[simp] theorem State.boot_rawTo (p b : Nat) (on : Bool) : (s.rawTo p b on).boot = s.boot := rfl
@[simp] theorem State.nor_rawTo (p b : Nat) (on : Bool) : (s.rawTo p b on).nor = s.nor := rfl
@[simp] theorem State.log_rawTo (p b : Nat) (on : Bool) : (s.rawTo p b on).log = s.log := rfl
@[simp] theorem State.watch_rawTo (p b : Nat) (on : Bool) : (s.rawTo p b on).watch = s.watch := rfl
@[simp] theorem State.pwr_rawTo (p b : Nat) (on : Bool) : (s.rawTo p b on).pwr = s.pwr := rfl
@[simp] theorem State.readData_rawTo (p b : Nat) (on : Bool) : (s.rawTo p b on).readData = s.readData := rfl
@[simp] theorem State.mtx_rawTo (p b : Nat) (on : Bool) : (s.rawTo p b on).mtx = s.mtx := rfl
@[simp] theorem State.memc_rawTo (p b : Nat) (on : Bool) : (s.rawTo p b on).memc = s.memc := rfl
@[simp] theorem State.ring_rawTo (p b : Nat) (on : Bool) : (s.rawTo p b on).ring = s.ring := rfl
@[simp] theorem State.tsch_rawTo (p b : Nat) (on : Bool) : (s.rawTo p b on).tsch = s.tsch := rfl
@[simp] theorem State.chan_rawTo (p b : Nat) (on : Bool) : (s.rawTo p b on).chan = s.chan := rfl
@[simp] theorem State.grp_rawTo (p b : Nat) (on : Bool) : (s.rawTo p b on).grp = s.grp := rfl
@[simp] theorem State.chmb_rawTo (p b : Nat) (on : Bool) : (s.rawTo p b on).chmb = s.chmb := rfl
@[simp] theorem State.pair_rawTo (p b : Nat) (on : Bool) : (s.rawTo p b on).pair = s.pair := rfl
@[simp] theorem State.rope_rawTo (p b : Nat) (on : Bool) : (s.rawTo p b on).rope = s.rope := rfl
@[simp] theorem State.sqz_rawTo (p b : Nat) (on : Bool) : (s.rawTo p b on).sqz = s.sqz := rfl
@[simp] theorem State.input_rawTo (p b : Nat) (on : Bool) : (s.rawTo p b on).input = s.input := rfl
@[simp] theorem State.src_rawTo (p b : Nat) (on : Bool) : (s.rawTo p b on).src = s.src := rfl
@[simp] theorem State.scal_rawTo (p b : Nat) (on : Bool) : (s.rawTo p b on).scal = s.scal := rfl
@[simp] theorem State.dec_rawTo (p b : Nat) (on : Bool) : (s.rawTo p b on).dec = s.dec := rfl
@[simp] theorem State.sdo_rawTo (p b : Nat) (on : Bool) : (s.rawTo p b on).sdo = s.sdo := rfl
@[simp] theorem State.ethAt_rawTo (p b : Nat) (on : Bool) : (s.rawTo p b on).ethAt = s.ethAt := rfl
@[simp] theorem State.lane_rawTo (p b : Nat) (on : Bool) : (s.rawTo p b on).lane = s.lane := rfl
@[simp] theorem State.intc_rawTo (p b : Nat) (on : Bool) : (s.rawTo p b on).intc = s.intc := rfl
@[simp] theorem State.task_rawTo (p b : Nat) (on : Bool) : (s.rawTo p b on).task = s.task := rfl

/-! A counter field -/

@[simp] theorem State.pending_incFld (p : Nat) (f : Fld) : (s.incFld p f).pending = s.pending := rfl
@[simp] theorem State.freeCtr_incFld (p : Nat) (f : Fld) : (s.incFld p f).freeCtr = s.freeCtr := rfl
@[simp] theorem State.hiLive_incFld (p : Nat) (f : Fld) : (s.incFld p f).hiLive = s.hiLive := rfl
@[simp] theorem State.mem_incFld (p : Nat) (f : Fld) : (s.incFld p f).mem = s.mem := rfl
@[simp] theorem State.hostMem_incFld (p : Nat) (f : Fld) : (s.incFld p f).hostMem = s.hostMem := rfl
@[simp] theorem State.norMem_incFld (p : Nat) (f : Fld) : (s.incFld p f).norMem = s.norMem := rfl
@[simp] theorem State.pages_incFld (p : Nat) (f : Fld) : (s.incFld p f).pages = s.pages := rfl
@[simp] theorem State.commits_incFld (p : Nat) (f : Fld) : (s.incFld p f).commits = s.commits := rfl
@[simp] theorem State.time_incFld (p : Nat) (f : Fld) : (s.incFld p f).time = s.time := rfl
@[simp] theorem State.boot_incFld (p : Nat) (f : Fld) : (s.incFld p f).boot = s.boot := rfl
@[simp] theorem State.nor_incFld (p : Nat) (f : Fld) : (s.incFld p f).nor = s.nor := rfl
@[simp] theorem State.log_incFld (p : Nat) (f : Fld) : (s.incFld p f).log = s.log := rfl
@[simp] theorem State.watch_incFld (p : Nat) (f : Fld) : (s.incFld p f).watch = s.watch := rfl
@[simp] theorem State.pwr_incFld (p : Nat) (f : Fld) : (s.incFld p f).pwr = s.pwr := rfl
@[simp] theorem State.readData_incFld (p : Nat) (f : Fld) : (s.incFld p f).readData = s.readData := rfl
@[simp] theorem State.mtx_incFld (p : Nat) (f : Fld) : (s.incFld p f).mtx = s.mtx := rfl
@[simp] theorem State.memc_incFld (p : Nat) (f : Fld) : (s.incFld p f).memc = s.memc := rfl
@[simp] theorem State.ring_incFld (p : Nat) (f : Fld) : (s.incFld p f).ring = s.ring := rfl
@[simp] theorem State.tsch_incFld (p : Nat) (f : Fld) : (s.incFld p f).tsch = s.tsch := rfl
@[simp] theorem State.chan_incFld (p : Nat) (f : Fld) : (s.incFld p f).chan = s.chan := rfl
@[simp] theorem State.grp_incFld (p : Nat) (f : Fld) : (s.incFld p f).grp = s.grp := rfl
@[simp] theorem State.chmb_incFld (p : Nat) (f : Fld) : (s.incFld p f).chmb = s.chmb := rfl
@[simp] theorem State.pair_incFld (p : Nat) (f : Fld) : (s.incFld p f).pair = s.pair := rfl
@[simp] theorem State.rope_incFld (p : Nat) (f : Fld) : (s.incFld p f).rope = s.rope := rfl
@[simp] theorem State.sqz_incFld (p : Nat) (f : Fld) : (s.incFld p f).sqz = s.sqz := rfl
@[simp] theorem State.input_incFld (p : Nat) (f : Fld) : (s.incFld p f).input = s.input := rfl
@[simp] theorem State.src_incFld (p : Nat) (f : Fld) : (s.incFld p f).src = s.src := rfl
@[simp] theorem State.scal_incFld (p : Nat) (f : Fld) : (s.incFld p f).scal = s.scal := rfl
@[simp] theorem State.dec_incFld (p : Nat) (f : Fld) : (s.incFld p f).dec = s.dec := rfl
@[simp] theorem State.sdo_incFld (p : Nat) (f : Fld) : (s.incFld p f).sdo = s.sdo := rfl
@[simp] theorem State.ethAt_incFld (p : Nat) (f : Fld) : (s.incFld p f).ethAt = s.ethAt := rfl
@[simp] theorem State.lane_incFld (p : Nat) (f : Fld) : (s.incFld p f).lane = s.lane := rfl
@[simp] theorem State.intc_incFld (p : Nat) (f : Fld) : (s.incFld p f).intc = s.intc := rfl
@[simp] theorem State.task_incFld (p : Nat) (f : Fld) : (s.incFld p f).task = s.task := rfl

/-! A saturating counter -/

@[simp] theorem State.pending_addSat (p : Nat) (f : Fld) (n : Nat) : (s.addSat p f n).pending = s.pending := rfl
@[simp] theorem State.freeCtr_addSat (p : Nat) (f : Fld) (n : Nat) : (s.addSat p f n).freeCtr = s.freeCtr := rfl
@[simp] theorem State.hiLive_addSat (p : Nat) (f : Fld) (n : Nat) : (s.addSat p f n).hiLive = s.hiLive := rfl
@[simp] theorem State.mem_addSat (p : Nat) (f : Fld) (n : Nat) : (s.addSat p f n).mem = s.mem := rfl
@[simp] theorem State.hostMem_addSat (p : Nat) (f : Fld) (n : Nat) : (s.addSat p f n).hostMem = s.hostMem := rfl
@[simp] theorem State.norMem_addSat (p : Nat) (f : Fld) (n : Nat) : (s.addSat p f n).norMem = s.norMem := rfl
@[simp] theorem State.pages_addSat (p : Nat) (f : Fld) (n : Nat) : (s.addSat p f n).pages = s.pages := rfl
@[simp] theorem State.commits_addSat (p : Nat) (f : Fld) (n : Nat) : (s.addSat p f n).commits = s.commits := rfl
@[simp] theorem State.time_addSat (p : Nat) (f : Fld) (n : Nat) : (s.addSat p f n).time = s.time := rfl
@[simp] theorem State.boot_addSat (p : Nat) (f : Fld) (n : Nat) : (s.addSat p f n).boot = s.boot := rfl
@[simp] theorem State.nor_addSat (p : Nat) (f : Fld) (n : Nat) : (s.addSat p f n).nor = s.nor := rfl
@[simp] theorem State.log_addSat (p : Nat) (f : Fld) (n : Nat) : (s.addSat p f n).log = s.log := rfl
@[simp] theorem State.watch_addSat (p : Nat) (f : Fld) (n : Nat) : (s.addSat p f n).watch = s.watch := rfl
@[simp] theorem State.pwr_addSat (p : Nat) (f : Fld) (n : Nat) : (s.addSat p f n).pwr = s.pwr := rfl
@[simp] theorem State.readData_addSat (p : Nat) (f : Fld) (n : Nat) : (s.addSat p f n).readData = s.readData := rfl
@[simp] theorem State.mtx_addSat (p : Nat) (f : Fld) (n : Nat) : (s.addSat p f n).mtx = s.mtx := rfl
@[simp] theorem State.memc_addSat (p : Nat) (f : Fld) (n : Nat) : (s.addSat p f n).memc = s.memc := rfl
@[simp] theorem State.ring_addSat (p : Nat) (f : Fld) (n : Nat) : (s.addSat p f n).ring = s.ring := rfl
@[simp] theorem State.tsch_addSat (p : Nat) (f : Fld) (n : Nat) : (s.addSat p f n).tsch = s.tsch := rfl
@[simp] theorem State.chan_addSat (p : Nat) (f : Fld) (n : Nat) : (s.addSat p f n).chan = s.chan := rfl
@[simp] theorem State.grp_addSat (p : Nat) (f : Fld) (n : Nat) : (s.addSat p f n).grp = s.grp := rfl
@[simp] theorem State.chmb_addSat (p : Nat) (f : Fld) (n : Nat) : (s.addSat p f n).chmb = s.chmb := rfl
@[simp] theorem State.pair_addSat (p : Nat) (f : Fld) (n : Nat) : (s.addSat p f n).pair = s.pair := rfl
@[simp] theorem State.rope_addSat (p : Nat) (f : Fld) (n : Nat) : (s.addSat p f n).rope = s.rope := rfl
@[simp] theorem State.sqz_addSat (p : Nat) (f : Fld) (n : Nat) : (s.addSat p f n).sqz = s.sqz := rfl
@[simp] theorem State.input_addSat (p : Nat) (f : Fld) (n : Nat) : (s.addSat p f n).input = s.input := rfl
@[simp] theorem State.src_addSat (p : Nat) (f : Fld) (n : Nat) : (s.addSat p f n).src = s.src := rfl
@[simp] theorem State.scal_addSat (p : Nat) (f : Fld) (n : Nat) : (s.addSat p f n).scal = s.scal := rfl
@[simp] theorem State.dec_addSat (p : Nat) (f : Fld) (n : Nat) : (s.addSat p f n).dec = s.dec := rfl
@[simp] theorem State.sdo_addSat (p : Nat) (f : Fld) (n : Nat) : (s.addSat p f n).sdo = s.sdo := rfl
@[simp] theorem State.ethAt_addSat (p : Nat) (f : Fld) (n : Nat) : (s.addSat p f n).ethAt = s.ethAt := rfl
@[simp] theorem State.lane_addSat (p : Nat) (f : Fld) (n : Nat) : (s.addSat p f n).lane = s.lane := rfl
@[simp] theorem State.intc_addSat (p : Nat) (f : Fld) (n : Nat) : (s.addSat p f n).intc = s.intc := rfl
@[simp] theorem State.task_addSat (p : Nat) (f : Fld) (n : Nat) : (s.addSat p f n).task = s.task := rfl

/-! The counter of free values -/

@[simp] theorem State.pending_tookFree : (s.tookFree).pending = s.pending := rfl
@[simp] theorem State.regs_tookFree : (s.tookFree).regs = s.regs := rfl
@[simp] theorem State.hiLive_tookFree : (s.tookFree).hiLive = s.hiLive := rfl
@[simp] theorem State.mem_tookFree : (s.tookFree).mem = s.mem := rfl
@[simp] theorem State.hostMem_tookFree : (s.tookFree).hostMem = s.hostMem := rfl
@[simp] theorem State.norMem_tookFree : (s.tookFree).norMem = s.norMem := rfl
@[simp] theorem State.pages_tookFree : (s.tookFree).pages = s.pages := rfl
@[simp] theorem State.commits_tookFree : (s.tookFree).commits = s.commits := rfl
@[simp] theorem State.time_tookFree : (s.tookFree).time = s.time := rfl
@[simp] theorem State.boot_tookFree : (s.tookFree).boot = s.boot := rfl
@[simp] theorem State.nor_tookFree : (s.tookFree).nor = s.nor := rfl
@[simp] theorem State.log_tookFree : (s.tookFree).log = s.log := rfl
@[simp] theorem State.watch_tookFree : (s.tookFree).watch = s.watch := rfl
@[simp] theorem State.pwr_tookFree : (s.tookFree).pwr = s.pwr := rfl
@[simp] theorem State.readData_tookFree : (s.tookFree).readData = s.readData := rfl
@[simp] theorem State.mtx_tookFree : (s.tookFree).mtx = s.mtx := rfl
@[simp] theorem State.memc_tookFree : (s.tookFree).memc = s.memc := rfl
@[simp] theorem State.ring_tookFree : (s.tookFree).ring = s.ring := rfl
@[simp] theorem State.tsch_tookFree : (s.tookFree).tsch = s.tsch := rfl
@[simp] theorem State.chan_tookFree : (s.tookFree).chan = s.chan := rfl
@[simp] theorem State.grp_tookFree : (s.tookFree).grp = s.grp := rfl
@[simp] theorem State.chmb_tookFree : (s.tookFree).chmb = s.chmb := rfl
@[simp] theorem State.pair_tookFree : (s.tookFree).pair = s.pair := rfl
@[simp] theorem State.rope_tookFree : (s.tookFree).rope = s.rope := rfl
@[simp] theorem State.sqz_tookFree : (s.tookFree).sqz = s.sqz := rfl
@[simp] theorem State.input_tookFree : (s.tookFree).input = s.input := rfl
@[simp] theorem State.src_tookFree : (s.tookFree).src = s.src := rfl
@[simp] theorem State.scal_tookFree : (s.tookFree).scal = s.scal := rfl
@[simp] theorem State.dec_tookFree : (s.tookFree).dec = s.dec := rfl
@[simp] theorem State.sdo_tookFree : (s.tookFree).sdo = s.sdo := rfl
@[simp] theorem State.ethAt_tookFree : (s.tookFree).ethAt = s.ethAt := rfl
@[simp] theorem State.lane_tookFree : (s.tookFree).lane = s.lane := rfl
@[simp] theorem State.intc_tookFree : (s.tookFree).intc = s.intc := rfl
@[simp] theorem State.task_tookFree : (s.tookFree).task = s.task := rfl

/-! Records of one instance -/

@[simp] theorem State.pending_setCommit (g : Nat) (x : CommitRec) : (s.setCommit g x).pending = s.pending := rfl
@[simp] theorem State.regs_setCommit (g : Nat) (x : CommitRec) : (s.setCommit g x).regs = s.regs := rfl
@[simp] theorem State.hiLive_setCommit (g : Nat) (x : CommitRec) : (s.setCommit g x).hiLive = s.hiLive := rfl
@[simp] theorem State.mem_setCommit (g : Nat) (x : CommitRec) : (s.setCommit g x).mem = s.mem := rfl
@[simp] theorem State.hostMem_setCommit (g : Nat) (x : CommitRec) : (s.setCommit g x).hostMem = s.hostMem := rfl
@[simp] theorem State.norMem_setCommit (g : Nat) (x : CommitRec) : (s.setCommit g x).norMem = s.norMem := rfl
@[simp] theorem State.pages_setCommit (g : Nat) (x : CommitRec) : (s.setCommit g x).pages = s.pages := rfl
@[simp] theorem State.time_setCommit (g : Nat) (x : CommitRec) : (s.setCommit g x).time = s.time := rfl
@[simp] theorem State.boot_setCommit (g : Nat) (x : CommitRec) : (s.setCommit g x).boot = s.boot := rfl
@[simp] theorem State.task_setCommit (g : Nat) (x : CommitRec) : (s.setCommit g x).task = s.task := rfl
@[simp] theorem State.rope_setCommit (g : Nat) (x : CommitRec) : (s.setCommit g x).rope = s.rope := rfl
@[simp] theorem State.pair_setCommit (g : Nat) (x : CommitRec) : (s.setCommit g x).pair = s.pair := rfl
@[simp] theorem State.tsch_setCommit (g : Nat) (x : CommitRec) : (s.setCommit g x).tsch = s.tsch := rfl

@[simp] theorem State.pending_setSdo (n : Nat) (x : SdoState) : (s.setSdo n x).pending = s.pending := rfl
@[simp] theorem State.regs_setSdo (n : Nat) (x : SdoState) : (s.setSdo n x).regs = s.regs := rfl
@[simp] theorem State.hiLive_setSdo (n : Nat) (x : SdoState) : (s.setSdo n x).hiLive = s.hiLive := rfl
@[simp] theorem State.mem_setSdo (n : Nat) (x : SdoState) : (s.setSdo n x).mem = s.mem := rfl
@[simp] theorem State.hostMem_setSdo (n : Nat) (x : SdoState) : (s.setSdo n x).hostMem = s.hostMem := rfl
@[simp] theorem State.norMem_setSdo (n : Nat) (x : SdoState) : (s.setSdo n x).norMem = s.norMem := rfl
@[simp] theorem State.pages_setSdo (n : Nat) (x : SdoState) : (s.setSdo n x).pages = s.pages := rfl
@[simp] theorem State.time_setSdo (n : Nat) (x : SdoState) : (s.setSdo n x).time = s.time := rfl
@[simp] theorem State.boot_setSdo (n : Nat) (x : SdoState) : (s.setSdo n x).boot = s.boot := rfl
@[simp] theorem State.task_setSdo (n : Nat) (x : SdoState) : (s.setSdo n x).task = s.task := rfl
@[simp] theorem State.rope_setSdo (n : Nat) (x : SdoState) : (s.setSdo n x).rope = s.rope := rfl
@[simp] theorem State.pair_setSdo (n : Nat) (x : SdoState) : (s.setSdo n x).pair = s.pair := rfl
@[simp] theorem State.tsch_setSdo (n : Nat) (x : SdoState) : (s.setSdo n x).tsch = s.tsch := rfl

@[simp] theorem State.pending_setRing (r : Nat) (x : RingState) : (s.setRing r x).pending = s.pending := rfl
@[simp] theorem State.regs_setRing (r : Nat) (x : RingState) : (s.setRing r x).regs = s.regs := rfl
@[simp] theorem State.hiLive_setRing (r : Nat) (x : RingState) : (s.setRing r x).hiLive = s.hiLive := rfl
@[simp] theorem State.mem_setRing (r : Nat) (x : RingState) : (s.setRing r x).mem = s.mem := rfl
@[simp] theorem State.hostMem_setRing (r : Nat) (x : RingState) : (s.setRing r x).hostMem = s.hostMem := rfl
@[simp] theorem State.norMem_setRing (r : Nat) (x : RingState) : (s.setRing r x).norMem = s.norMem := rfl
@[simp] theorem State.pages_setRing (r : Nat) (x : RingState) : (s.setRing r x).pages = s.pages := rfl
@[simp] theorem State.time_setRing (r : Nat) (x : RingState) : (s.setRing r x).time = s.time := rfl
@[simp] theorem State.boot_setRing (r : Nat) (x : RingState) : (s.setRing r x).boot = s.boot := rfl
@[simp] theorem State.task_setRing (r : Nat) (x : RingState) : (s.setRing r x).task = s.task := rfl
@[simp] theorem State.rope_setRing (r : Nat) (x : RingState) : (s.setRing r x).rope = s.rope := rfl
@[simp] theorem State.pair_setRing (r : Nat) (x : RingState) : (s.setRing r x).pair = s.pair := rfl
@[simp] theorem State.tsch_setRing (r : Nat) (x : RingState) : (s.setRing r x).tsch = s.tsch := rfl

@[simp] theorem State.pending_setSrc (n : Nat) (x : SrcState) : (s.setSrc n x).pending = s.pending := rfl
@[simp] theorem State.regs_setSrc (n : Nat) (x : SrcState) : (s.setSrc n x).regs = s.regs := rfl
@[simp] theorem State.hiLive_setSrc (n : Nat) (x : SrcState) : (s.setSrc n x).hiLive = s.hiLive := rfl
@[simp] theorem State.mem_setSrc (n : Nat) (x : SrcState) : (s.setSrc n x).mem = s.mem := rfl
@[simp] theorem State.hostMem_setSrc (n : Nat) (x : SrcState) : (s.setSrc n x).hostMem = s.hostMem := rfl
@[simp] theorem State.norMem_setSrc (n : Nat) (x : SrcState) : (s.setSrc n x).norMem = s.norMem := rfl
@[simp] theorem State.pages_setSrc (n : Nat) (x : SrcState) : (s.setSrc n x).pages = s.pages := rfl
@[simp] theorem State.time_setSrc (n : Nat) (x : SrcState) : (s.setSrc n x).time = s.time := rfl
@[simp] theorem State.boot_setSrc (n : Nat) (x : SrcState) : (s.setSrc n x).boot = s.boot := rfl
@[simp] theorem State.task_setSrc (n : Nat) (x : SrcState) : (s.setSrc n x).task = s.task := rfl
@[simp] theorem State.rope_setSrc (n : Nat) (x : SrcState) : (s.setSrc n x).rope = s.rope := rfl
@[simp] theorem State.pair_setSrc (n : Nat) (x : SrcState) : (s.setSrc n x).pair = s.pair := rfl
@[simp] theorem State.tsch_setSrc (n : Nat) (x : SrcState) : (s.setSrc n x).tsch = s.tsch := rfl

@[simp] theorem State.pending_setScal (n : Nat) (x : ScalState) : (s.setScal n x).pending = s.pending := rfl
@[simp] theorem State.regs_setScal (n : Nat) (x : ScalState) : (s.setScal n x).regs = s.regs := rfl
@[simp] theorem State.hiLive_setScal (n : Nat) (x : ScalState) : (s.setScal n x).hiLive = s.hiLive := rfl
@[simp] theorem State.mem_setScal (n : Nat) (x : ScalState) : (s.setScal n x).mem = s.mem := rfl
@[simp] theorem State.hostMem_setScal (n : Nat) (x : ScalState) : (s.setScal n x).hostMem = s.hostMem := rfl
@[simp] theorem State.norMem_setScal (n : Nat) (x : ScalState) : (s.setScal n x).norMem = s.norMem := rfl
@[simp] theorem State.pages_setScal (n : Nat) (x : ScalState) : (s.setScal n x).pages = s.pages := rfl
@[simp] theorem State.time_setScal (n : Nat) (x : ScalState) : (s.setScal n x).time = s.time := rfl
@[simp] theorem State.boot_setScal (n : Nat) (x : ScalState) : (s.setScal n x).boot = s.boot := rfl
@[simp] theorem State.task_setScal (n : Nat) (x : ScalState) : (s.setScal n x).task = s.task := rfl
@[simp] theorem State.rope_setScal (n : Nat) (x : ScalState) : (s.setScal n x).rope = s.rope := rfl
@[simp] theorem State.pair_setScal (n : Nat) (x : ScalState) : (s.setScal n x).pair = s.pair := rfl
@[simp] theorem State.tsch_setScal (n : Nat) (x : ScalState) : (s.setScal n x).tsch = s.tsch := rfl

@[simp] theorem State.pending_setInput (p : Nat) (x : InputState) : (s.setInput p x).pending = s.pending := rfl
@[simp] theorem State.regs_setInput (p : Nat) (x : InputState) : (s.setInput p x).regs = s.regs := rfl
@[simp] theorem State.hiLive_setInput (p : Nat) (x : InputState) : (s.setInput p x).hiLive = s.hiLive := rfl
@[simp] theorem State.mem_setInput (p : Nat) (x : InputState) : (s.setInput p x).mem = s.mem := rfl
@[simp] theorem State.hostMem_setInput (p : Nat) (x : InputState) : (s.setInput p x).hostMem = s.hostMem := rfl
@[simp] theorem State.norMem_setInput (p : Nat) (x : InputState) : (s.setInput p x).norMem = s.norMem := rfl
@[simp] theorem State.pages_setInput (p : Nat) (x : InputState) : (s.setInput p x).pages = s.pages := rfl
@[simp] theorem State.time_setInput (p : Nat) (x : InputState) : (s.setInput p x).time = s.time := rfl
@[simp] theorem State.boot_setInput (p : Nat) (x : InputState) : (s.setInput p x).boot = s.boot := rfl
@[simp] theorem State.task_setInput (p : Nat) (x : InputState) : (s.setInput p x).task = s.task := rfl
@[simp] theorem State.rope_setInput (p : Nat) (x : InputState) : (s.setInput p x).rope = s.rope := rfl
@[simp] theorem State.pair_setInput (p : Nat) (x : InputState) : (s.setInput p x).pair = s.pair := rfl
@[simp] theorem State.tsch_setInput (p : Nat) (x : InputState) : (s.setInput p x).tsch = s.tsch := rfl

@[simp] theorem State.pending_setDec (d : Nat) (x : DecState) : (s.setDec d x).pending = s.pending := rfl
@[simp] theorem State.regs_setDec (d : Nat) (x : DecState) : (s.setDec d x).regs = s.regs := rfl
@[simp] theorem State.hiLive_setDec (d : Nat) (x : DecState) : (s.setDec d x).hiLive = s.hiLive := rfl
@[simp] theorem State.mem_setDec (d : Nat) (x : DecState) : (s.setDec d x).mem = s.mem := rfl
@[simp] theorem State.hostMem_setDec (d : Nat) (x : DecState) : (s.setDec d x).hostMem = s.hostMem := rfl
@[simp] theorem State.norMem_setDec (d : Nat) (x : DecState) : (s.setDec d x).norMem = s.norMem := rfl
@[simp] theorem State.pages_setDec (d : Nat) (x : DecState) : (s.setDec d x).pages = s.pages := rfl
@[simp] theorem State.time_setDec (d : Nat) (x : DecState) : (s.setDec d x).time = s.time := rfl
@[simp] theorem State.boot_setDec (d : Nat) (x : DecState) : (s.setDec d x).boot = s.boot := rfl
@[simp] theorem State.task_setDec (d : Nat) (x : DecState) : (s.setDec d x).task = s.task := rfl
@[simp] theorem State.rope_setDec (d : Nat) (x : DecState) : (s.setDec d x).rope = s.rope := rfl
@[simp] theorem State.pair_setDec (d : Nat) (x : DecState) : (s.setDec d x).pair = s.pair := rfl
@[simp] theorem State.tsch_setDec (d : Nat) (x : DecState) : (s.setDec d x).tsch = s.tsch := rfl

@[simp] theorem State.pending_setLane (n : Nat) (x : LaneState) : (s.setLane n x).pending = s.pending := rfl
@[simp] theorem State.regs_setLane (n : Nat) (x : LaneState) : (s.setLane n x).regs = s.regs := rfl
@[simp] theorem State.hiLive_setLane (n : Nat) (x : LaneState) : (s.setLane n x).hiLive = s.hiLive := rfl
@[simp] theorem State.mem_setLane (n : Nat) (x : LaneState) : (s.setLane n x).mem = s.mem := rfl
@[simp] theorem State.hostMem_setLane (n : Nat) (x : LaneState) : (s.setLane n x).hostMem = s.hostMem := rfl
@[simp] theorem State.norMem_setLane (n : Nat) (x : LaneState) : (s.setLane n x).norMem = s.norMem := rfl
@[simp] theorem State.pages_setLane (n : Nat) (x : LaneState) : (s.setLane n x).pages = s.pages := rfl
@[simp] theorem State.time_setLane (n : Nat) (x : LaneState) : (s.setLane n x).time = s.time := rfl
@[simp] theorem State.boot_setLane (n : Nat) (x : LaneState) : (s.setLane n x).boot = s.boot := rfl
@[simp] theorem State.task_setLane (n : Nat) (x : LaneState) : (s.setLane n x).task = s.task := rfl
@[simp] theorem State.rope_setLane (n : Nat) (x : LaneState) : (s.setLane n x).rope = s.rope := rfl
@[simp] theorem State.pair_setLane (n : Nat) (x : LaneState) : (s.setLane n x).pair = s.pair := rfl
@[simp] theorem State.tsch_setLane (n : Nat) (x : LaneState) : (s.setLane n x).tsch = s.tsch := rfl

@[simp] theorem State.pending_setMemc (n : Nat) (x : MemcState) : (s.setMemc n x).pending = s.pending := rfl
@[simp] theorem State.regs_setMemc (n : Nat) (x : MemcState) : (s.setMemc n x).regs = s.regs := rfl
@[simp] theorem State.hiLive_setMemc (n : Nat) (x : MemcState) : (s.setMemc n x).hiLive = s.hiLive := rfl
@[simp] theorem State.mem_setMemc (n : Nat) (x : MemcState) : (s.setMemc n x).mem = s.mem := rfl
@[simp] theorem State.hostMem_setMemc (n : Nat) (x : MemcState) : (s.setMemc n x).hostMem = s.hostMem := rfl
@[simp] theorem State.norMem_setMemc (n : Nat) (x : MemcState) : (s.setMemc n x).norMem = s.norMem := rfl
@[simp] theorem State.pages_setMemc (n : Nat) (x : MemcState) : (s.setMemc n x).pages = s.pages := rfl
@[simp] theorem State.time_setMemc (n : Nat) (x : MemcState) : (s.setMemc n x).time = s.time := rfl
@[simp] theorem State.boot_setMemc (n : Nat) (x : MemcState) : (s.setMemc n x).boot = s.boot := rfl
@[simp] theorem State.task_setMemc (n : Nat) (x : MemcState) : (s.setMemc n x).task = s.task := rfl
@[simp] theorem State.rope_setMemc (n : Nat) (x : MemcState) : (s.setMemc n x).rope = s.rope := rfl
@[simp] theorem State.pair_setMemc (n : Nat) (x : MemcState) : (s.setMemc n x).pair = s.pair := rfl
@[simp] theorem State.tsch_setMemc (n : Nat) (x : MemcState) : (s.setMemc n x).tsch = s.tsch := rfl

@[simp] theorem State.pending_setChan (c : Nat) (x : ChanState) : (s.setChan c x).pending = s.pending := rfl
@[simp] theorem State.regs_setChan (c : Nat) (x : ChanState) : (s.setChan c x).regs = s.regs := rfl
@[simp] theorem State.hiLive_setChan (c : Nat) (x : ChanState) : (s.setChan c x).hiLive = s.hiLive := rfl
@[simp] theorem State.mem_setChan (c : Nat) (x : ChanState) : (s.setChan c x).mem = s.mem := rfl
@[simp] theorem State.hostMem_setChan (c : Nat) (x : ChanState) : (s.setChan c x).hostMem = s.hostMem := rfl
@[simp] theorem State.norMem_setChan (c : Nat) (x : ChanState) : (s.setChan c x).norMem = s.norMem := rfl
@[simp] theorem State.pages_setChan (c : Nat) (x : ChanState) : (s.setChan c x).pages = s.pages := rfl
@[simp] theorem State.time_setChan (c : Nat) (x : ChanState) : (s.setChan c x).time = s.time := rfl
@[simp] theorem State.boot_setChan (c : Nat) (x : ChanState) : (s.setChan c x).boot = s.boot := rfl
@[simp] theorem State.task_setChan (c : Nat) (x : ChanState) : (s.setChan c x).task = s.task := rfl
@[simp] theorem State.rope_setChan (c : Nat) (x : ChanState) : (s.setChan c x).rope = s.rope := rfl
@[simp] theorem State.pair_setChan (c : Nat) (x : ChanState) : (s.setChan c x).pair = s.pair := rfl
@[simp] theorem State.tsch_setChan (c : Nat) (x : ChanState) : (s.setChan c x).tsch = s.tsch := rfl

@[simp] theorem State.pending_setGrp (g : Nat) (x : GrpState) : (s.setGrp g x).pending = s.pending := rfl
@[simp] theorem State.regs_setGrp (g : Nat) (x : GrpState) : (s.setGrp g x).regs = s.regs := rfl
@[simp] theorem State.hiLive_setGrp (g : Nat) (x : GrpState) : (s.setGrp g x).hiLive = s.hiLive := rfl
@[simp] theorem State.mem_setGrp (g : Nat) (x : GrpState) : (s.setGrp g x).mem = s.mem := rfl
@[simp] theorem State.hostMem_setGrp (g : Nat) (x : GrpState) : (s.setGrp g x).hostMem = s.hostMem := rfl
@[simp] theorem State.norMem_setGrp (g : Nat) (x : GrpState) : (s.setGrp g x).norMem = s.norMem := rfl
@[simp] theorem State.pages_setGrp (g : Nat) (x : GrpState) : (s.setGrp g x).pages = s.pages := rfl
@[simp] theorem State.time_setGrp (g : Nat) (x : GrpState) : (s.setGrp g x).time = s.time := rfl
@[simp] theorem State.boot_setGrp (g : Nat) (x : GrpState) : (s.setGrp g x).boot = s.boot := rfl
@[simp] theorem State.task_setGrp (g : Nat) (x : GrpState) : (s.setGrp g x).task = s.task := rfl
@[simp] theorem State.rope_setGrp (g : Nat) (x : GrpState) : (s.setGrp g x).rope = s.rope := rfl
@[simp] theorem State.pair_setGrp (g : Nat) (x : GrpState) : (s.setGrp g x).pair = s.pair := rfl
@[simp] theorem State.tsch_setGrp (g : Nat) (x : GrpState) : (s.setGrp g x).tsch = s.tsch := rfl

@[simp] theorem State.pending_setThread (i : Nat) (x : Thread) : (s.setThread i x).pending = s.pending := rfl
@[simp] theorem State.regs_setThread (i : Nat) (x : Thread) : (s.setThread i x).regs = s.regs := rfl
@[simp] theorem State.hiLive_setThread (i : Nat) (x : Thread) : (s.setThread i x).hiLive = s.hiLive := rfl
@[simp] theorem State.mem_setThread (i : Nat) (x : Thread) : (s.setThread i x).mem = s.mem := rfl
@[simp] theorem State.hostMem_setThread (i : Nat) (x : Thread) : (s.setThread i x).hostMem = s.hostMem := rfl
@[simp] theorem State.norMem_setThread (i : Nat) (x : Thread) : (s.setThread i x).norMem = s.norMem := rfl
@[simp] theorem State.pages_setThread (i : Nat) (x : Thread) : (s.setThread i x).pages = s.pages := rfl
@[simp] theorem State.time_setThread (i : Nat) (x : Thread) : (s.setThread i x).time = s.time := rfl
@[simp] theorem State.boot_setThread (i : Nat) (x : Thread) : (s.setThread i x).boot = s.boot := rfl
@[simp] theorem State.rope_setThread (i : Nat) (x : Thread) : (s.setThread i x).rope = s.rope := rfl
@[simp] theorem State.pair_setThread (i : Nat) (x : Thread) : (s.setThread i x).pair = s.pair := rfl
@[simp] theorem State.tsch_setThread (i : Nat) (x : Thread) : (s.setThread i x).tsch = s.tsch := rfl

@[simp] theorem State.pending_setFlow (f : Nat) (x : FlowState) : (s.setFlow f x).pending = s.pending := rfl
@[simp] theorem State.regs_setFlow (f : Nat) (x : FlowState) : (s.setFlow f x).regs = s.regs := rfl
@[simp] theorem State.hiLive_setFlow (f : Nat) (x : FlowState) : (s.setFlow f x).hiLive = s.hiLive := rfl
@[simp] theorem State.mem_setFlow (f : Nat) (x : FlowState) : (s.setFlow f x).mem = s.mem := rfl
@[simp] theorem State.hostMem_setFlow (f : Nat) (x : FlowState) : (s.setFlow f x).hostMem = s.hostMem := rfl
@[simp] theorem State.norMem_setFlow (f : Nat) (x : FlowState) : (s.setFlow f x).norMem = s.norMem := rfl
@[simp] theorem State.pages_setFlow (f : Nat) (x : FlowState) : (s.setFlow f x).pages = s.pages := rfl
@[simp] theorem State.time_setFlow (f : Nat) (x : FlowState) : (s.setFlow f x).time = s.time := rfl
@[simp] theorem State.boot_setFlow (f : Nat) (x : FlowState) : (s.setFlow f x).boot = s.boot := rfl
@[simp] theorem State.rope_setFlow (f : Nat) (x : FlowState) : (s.setFlow f x).rope = s.rope := rfl
@[simp] theorem State.pair_setFlow (f : Nat) (x : FlowState) : (s.setFlow f x).pair = s.pair := rfl
@[simp] theorem State.tsch_setFlow (f : Nat) (x : FlowState) : (s.setFlow f x).tsch = s.tsch := rfl

@[simp] theorem State.pending_setCmd (x : TaskCmd) : (s.setCmd x).pending = s.pending := rfl
@[simp] theorem State.regs_setCmd (x : TaskCmd) : (s.setCmd x).regs = s.regs := rfl
@[simp] theorem State.hiLive_setCmd (x : TaskCmd) : (s.setCmd x).hiLive = s.hiLive := rfl
@[simp] theorem State.mem_setCmd (x : TaskCmd) : (s.setCmd x).mem = s.mem := rfl
@[simp] theorem State.hostMem_setCmd (x : TaskCmd) : (s.setCmd x).hostMem = s.hostMem := rfl
@[simp] theorem State.norMem_setCmd (x : TaskCmd) : (s.setCmd x).norMem = s.norMem := rfl
@[simp] theorem State.pages_setCmd (x : TaskCmd) : (s.setCmd x).pages = s.pages := rfl
@[simp] theorem State.time_setCmd (x : TaskCmd) : (s.setCmd x).time = s.time := rfl
@[simp] theorem State.boot_setCmd (x : TaskCmd) : (s.setCmd x).boot = s.boot := rfl
@[simp] theorem State.rope_setCmd (x : TaskCmd) : (s.setCmd x).rope = s.rope := rfl
@[simp] theorem State.pair_setCmd (x : TaskCmd) : (s.setCmd x).pair = s.pair := rfl
@[simp] theorem State.tsch_setCmd (x : TaskCmd) : (s.setCmd x).tsch = s.tsch := rfl

@[simp] theorem State.pending_setCmp (n : Nat) (x : CmpState) : (s.setCmp n x).pending = s.pending := rfl
@[simp] theorem State.regs_setCmp (n : Nat) (x : CmpState) : (s.setCmp n x).regs = s.regs := rfl
@[simp] theorem State.hiLive_setCmp (n : Nat) (x : CmpState) : (s.setCmp n x).hiLive = s.hiLive := rfl
@[simp] theorem State.mem_setCmp (n : Nat) (x : CmpState) : (s.setCmp n x).mem = s.mem := rfl
@[simp] theorem State.hostMem_setCmp (n : Nat) (x : CmpState) : (s.setCmp n x).hostMem = s.hostMem := rfl
@[simp] theorem State.norMem_setCmp (n : Nat) (x : CmpState) : (s.setCmp n x).norMem = s.norMem := rfl
@[simp] theorem State.pages_setCmp (n : Nat) (x : CmpState) : (s.setCmp n x).pages = s.pages := rfl
@[simp] theorem State.boot_setCmp (n : Nat) (x : CmpState) : (s.setCmp n x).boot = s.boot := rfl
@[simp] theorem State.task_setCmp (n : Nat) (x : CmpState) : (s.setCmp n x).task = s.task := rfl
@[simp] theorem State.rope_setCmp (n : Nat) (x : CmpState) : (s.setCmp n x).rope = s.rope := rfl
@[simp] theorem State.pair_setCmp (n : Nat) (x : CmpState) : (s.setCmp n x).pair = s.pair := rfl
@[simp] theorem State.tsch_setCmp (n : Nat) (x : CmpState) : (s.setCmp n x).tsch = s.tsch := rfl

@[simp] theorem State.pending_setQueue (i : Nat) (x : QueueState) : (s.setQueue i x).pending = s.pending := rfl
@[simp] theorem State.regs_setQueue (i : Nat) (x : QueueState) : (s.setQueue i x).regs = s.regs := rfl
@[simp] theorem State.hiLive_setQueue (i : Nat) (x : QueueState) : (s.setQueue i x).hiLive = s.hiLive := rfl
@[simp] theorem State.mem_setQueue (i : Nat) (x : QueueState) : (s.setQueue i x).mem = s.mem := rfl
@[simp] theorem State.hostMem_setQueue (i : Nat) (x : QueueState) : (s.setQueue i x).hostMem = s.hostMem := rfl
@[simp] theorem State.norMem_setQueue (i : Nat) (x : QueueState) : (s.setQueue i x).norMem = s.norMem := rfl
@[simp] theorem State.pages_setQueue (i : Nat) (x : QueueState) : (s.setQueue i x).pages = s.pages := rfl
@[simp] theorem State.time_setQueue (i : Nat) (x : QueueState) : (s.setQueue i x).time = s.time := rfl
@[simp] theorem State.boot_setQueue (i : Nat) (x : QueueState) : (s.setQueue i x).boot = s.boot := rfl
@[simp] theorem State.task_setQueue (i : Nat) (x : QueueState) : (s.setQueue i x).task = s.task := rfl
@[simp] theorem State.rope_setQueue (i : Nat) (x : QueueState) : (s.setQueue i x).rope = s.rope := rfl
@[simp] theorem State.pair_setQueue (i : Nat) (x : QueueState) : (s.setQueue i x).pair = s.pair := rfl

@[simp] theorem State.pending_setPort (n : Nat) (x : PortState) : (s.setPort n x).pending = s.pending := rfl
@[simp] theorem State.regs_setPort (n : Nat) (x : PortState) : (s.setPort n x).regs = s.regs := rfl
@[simp] theorem State.hiLive_setPort (n : Nat) (x : PortState) : (s.setPort n x).hiLive = s.hiLive := rfl
@[simp] theorem State.mem_setPort (n : Nat) (x : PortState) : (s.setPort n x).mem = s.mem := rfl
@[simp] theorem State.hostMem_setPort (n : Nat) (x : PortState) : (s.setPort n x).hostMem = s.hostMem := rfl
@[simp] theorem State.norMem_setPort (n : Nat) (x : PortState) : (s.setPort n x).norMem = s.norMem := rfl
@[simp] theorem State.pages_setPort (n : Nat) (x : PortState) : (s.setPort n x).pages = s.pages := rfl
@[simp] theorem State.time_setPort (n : Nat) (x : PortState) : (s.setPort n x).time = s.time := rfl
@[simp] theorem State.boot_setPort (n : Nat) (x : PortState) : (s.setPort n x).boot = s.boot := rfl
@[simp] theorem State.task_setPort (n : Nat) (x : PortState) : (s.setPort n x).task = s.task := rfl
@[simp] theorem State.rope_setPort (n : Nat) (x : PortState) : (s.setPort n x).rope = s.rope := rfl
@[simp] theorem State.pair_setPort (n : Nat) (x : PortState) : (s.setPort n x).pair = s.pair := rfl

end Sys2Proof.Machine
end

