-- ==== Sys2Proof/Laws/Regs.lean ====
section
/-! SUPPORT. What a register or a field reads after a write: the one written reads the value, every other reads as before. The
premise is the canonical form of the registers, which every step keeps. -/

namespace Sys2Proof.Machine

variable {s : State}

/-! ## The canonical form, from the one notion that every operation keeps -/

theorem State.Sound.canonical {q : List Instr} (h : s.Sound q) : s.canonical = true := h.2

theorem State.sound_of_canonical (h : s.canonical = true) : s.Sound s.pending := ⟨rfl, h⟩

theorem State.canonical_rising (h : s.canonical = true) : Tab.rising s.regs = true := by
  simp only [State.canonical, Registers.wf, Tab.wf, Bool.and_eq_true] at h
  exact h.1.1.2.1

theorem State.canonical_memRising (h : s.canonical = true) : Tab.rising s.mem = true := by
  simp only [State.canonical, Memory.wf, Tab.wf, Bool.and_eq_true] at h
  exact h.1.1.1.1.1

@[simp] theorem State.canonical_setReg (a : Nat) (v : Word) (h : s.canonical = true) : (s.setReg a v).canonical = true :=
  (State.setReg_sound a v (State.sound_of_canonical h)).2

@[simp] theorem State.canonical_setFld (p : Nat) (f : Fld) (v : Nat) (h : s.canonical = true) : (s.setFld p f v).canonical = true :=
  State.canonical_setReg _ _ h

@[simp] theorem State.canonical_raise (p b : Nat) (h : s.canonical = true) : (s.raise p b).canonical = true :=
  State.canonical_setReg _ _ h

@[simp] theorem State.canonical_rawTo (p b : Nat) (on : Bool) (h : s.canonical = true) : (s.rawTo p b on).canonical = true :=
  State.canonical_setReg _ _ h

@[simp] theorem State.canonical_addSat (p : Nat) (f : Fld) (n : Nat) (h : s.canonical = true) : (s.addSat p f n).canonical = true :=
  State.canonical_setReg _ _ h

@[simp] theorem State.canonical_incFld (p : Nat) (f : Fld) (h : s.canonical = true) : (s.incFld p f).canonical = true :=
  State.canonical_setReg _ _ h

/-! ## Registers -/

theorem State.reg_setReg_same (a : Nat) (v : Word) (h : s.canonical = true) : (s.setReg a v).reg a = v :=
  Tab.get_set_same (resetVal a) a v (State.canonical_rising h)

theorem State.reg_setReg_other {a b : Nat} (v : Word) (h : s.canonical = true) (hne : b ≠ a) : (s.setReg a v).reg b = s.reg b :=
  Tab.get_set_other (resetVal a) (resetVal b) v (State.canonical_rising h) hne

/-! ## Fields of a word -/

theorem Fld.of_lt (f : Fld) (w : Word) : f.of w < 2 ^ f.w := Nat.mod_lt _ (Nat.two_pow_pos _)

/-- A word splits at a field into what lies below it, the field, and what lies above. -/
theorem Fld.split (f : Fld) (w : Word) :
    w.toNat = w.toNat % 2 ^ f.lo + f.of w * 2 ^ f.lo + w.toNat / 2 ^ (f.lo + f.w) * 2 ^ (f.lo + f.w) := by
  unfold Fld.of
  have h1 := Nat.div_add_mod w.toNat (2 ^ f.lo)
  have h2 := Nat.div_add_mod (w.toNat / 2 ^ f.lo) (2 ^ f.w)
  rw [Nat.div_div_eq_div_mul, ← Nat.pow_add] at h2
  have h3 : w.toNat / 2 ^ f.lo * 2 ^ f.lo =
      w.toNat / 2 ^ f.lo % 2 ^ f.w * 2 ^ f.lo + w.toNat / 2 ^ (f.lo + f.w) * 2 ^ (f.lo + f.w) := by
    conv => lhs; rw [← h2]
    rw [Nat.add_mul, Nat.pow_add]
    ring
  rw [Nat.mul_comm] at h1
  omega

theorem Fld.into_toNat (f : Fld) (w : Word) (v : Nat) (hf : f.lo + f.w ≤ 32) :
    (f.into w v).toNat = w.toNat % 2 ^ f.lo + v % 2 ^ f.w * 2 ^ f.lo + w.toNat / 2 ^ (f.lo + f.w) * 2 ^ (f.lo + f.w) := by
  have hs := Fld.split f w
  have hw := w.isLt
  unfold Fld.into
  rw [BitVec.toNat_ofNat]
  have e : w.toNat - f.of w * 2 ^ f.lo + v % 2 ^ f.w * 2 ^ f.lo =
      w.toNat % 2 ^ f.lo + v % 2 ^ f.w * 2 ^ f.lo + w.toNat / 2 ^ (f.lo + f.w) * 2 ^ (f.lo + f.w) := by omega
  rw [e]
  apply Nat.mod_eq_of_lt
  have hv : v % 2 ^ f.w + 1 ≤ 2 ^ f.w := Nat.mod_lt _ (Nat.two_pow_pos _)
  have hl : w.toNat % 2 ^ f.lo < 2 ^ f.lo := Nat.mod_lt _ (Nat.two_pow_pos _)
  have h4 : (v % 2 ^ f.w + 1) * 2 ^ f.lo ≤ 2 ^ f.w * 2 ^ f.lo := Nat.mul_le_mul_right _ hv
  have h5 : 2 ^ f.w * 2 ^ f.lo = 2 ^ (f.lo + f.w) := by rw [← Nat.pow_add, Nat.add_comm]
  have h6 : w.toNat / 2 ^ (f.lo + f.w) + 1 ≤ 2 ^ (32 - (f.lo + f.w)) := by
    have : w.toNat / 2 ^ (f.lo + f.w) < 2 ^ (32 - (f.lo + f.w)) := by
      rw [Nat.div_lt_iff_lt_mul (Nat.two_pow_pos _), ← Nat.pow_add]
      have : 32 - (f.lo + f.w) + (f.lo + f.w) = 32 := by omega
      rw [this]; exact hw
    exact this
  have h7 : (w.toNat / 2 ^ (f.lo + f.w) + 1) * 2 ^ (f.lo + f.w) ≤ 2 ^ (32 - (f.lo + f.w)) * 2 ^ (f.lo + f.w) :=
    Nat.mul_le_mul_right _ h6
  have h8 : 2 ^ (32 - (f.lo + f.w)) * 2 ^ (f.lo + f.w) = 2 ^ 32 := by
    rw [← Nat.pow_add]; congr 1; omega
  rw [Nat.add_mul] at h4 h7
  omega

/-- The field written reads the value, cut to its width. -/
theorem Fld.of_into_same (f : Fld) (w : Word) (v : Nat) (hf : f.lo + f.w ≤ 32) : f.of (f.into w v) = v % 2 ^ f.w := by
  unfold Fld.of
  rw [Fld.into_toNat f w v hf]
  have hl : w.toNat % 2 ^ f.lo < 2 ^ f.lo := Nat.mod_lt _ (Nat.two_pow_pos _)
  have e : w.toNat % 2 ^ f.lo + v % 2 ^ f.w * 2 ^ f.lo + w.toNat / 2 ^ (f.lo + f.w) * 2 ^ (f.lo + f.w) =
      w.toNat % 2 ^ f.lo + 2 ^ f.lo * (v % 2 ^ f.w + 2 ^ f.w * (w.toNat / 2 ^ (f.lo + f.w))) := by
    rw [Nat.pow_add]; ring
  rw [e, Nat.add_mul_div_left _ _ (Nat.two_pow_pos _), Nat.div_eq_of_lt hl, Nat.zero_add, Nat.add_mul_mod_self_left,
    Nat.mod_mod]

/-- A field that lies below the one written reads as before. -/
theorem Fld.of_into_below (f g : Fld) (w : Word) (v : Nat) (hf : f.lo + f.w ≤ 32) (hg : g.lo + g.w ≤ f.lo) :
    g.of (f.into w v) = g.of w := by
  have key : ∀ x y : Nat, x % 2 ^ f.lo = y % 2 ^ f.lo → x / 2 ^ g.lo % 2 ^ g.w = y / 2 ^ g.lo % 2 ^ g.w := by
    intro x y hxy
    have hd : 2 ^ (g.lo + g.w) ∣ 2 ^ f.lo := Nat.pow_dvd_pow 2 hg
    have h1 : x % 2 ^ (g.lo + g.w) = y % 2 ^ (g.lo + g.w) := by
      rw [← Nat.mod_mod_of_dvd x hd, ← Nat.mod_mod_of_dvd y hd, hxy]
    have h2 : ∀ z : Nat, z / 2 ^ g.lo % 2 ^ g.w = z % 2 ^ (g.lo + g.w) / 2 ^ g.lo := by
      intro z
      rw [Nat.pow_add, Nat.mod_mul_right_div_self]
    rw [h2, h2, h1]
  apply key
  rw [Fld.into_toNat f w v hf, Nat.pow_add]
  have e : w.toNat % 2 ^ f.lo + v % 2 ^ f.w * 2 ^ f.lo + w.toNat / (2 ^ f.lo * 2 ^ f.w) * (2 ^ f.lo * 2 ^ f.w) =
      w.toNat % 2 ^ f.lo + 2 ^ f.lo * (v % 2 ^ f.w + w.toNat / (2 ^ f.lo * 2 ^ f.w) * 2 ^ f.w) := by ring
  rw [e, Nat.add_mul_mod_self_left, Nat.mod_mod]

/-- A field that lies above the one written reads as before. -/
theorem Fld.of_into_above (f g : Fld) (w : Word) (v : Nat) (hf : f.lo + f.w ≤ 32) (hg : f.lo + f.w ≤ g.lo) :
    g.of (f.into w v) = g.of w := by
  have key : ∀ x y : Nat, x / 2 ^ (f.lo + f.w) = y / 2 ^ (f.lo + f.w) → x / 2 ^ g.lo = y / 2 ^ g.lo := by
    intro x y hxy
    have h2 : ∀ z : Nat, z / 2 ^ g.lo = z / 2 ^ (f.lo + f.w) / 2 ^ (g.lo - (f.lo + f.w)) := by
      intro z
      rw [Nat.div_div_eq_div_mul, ← Nat.pow_add]
      congr 2; omega
    rw [h2, h2, hxy]
  unfold Fld.of
  rw [key (f.into w v).toNat w.toNat]
  rw [Fld.into_toNat f w v hf]
  have hl : w.toNat % 2 ^ f.lo < 2 ^ f.lo := Nat.mod_lt _ (Nat.two_pow_pos _)
  have hv : v % 2 ^ f.w + 1 ≤ 2 ^ f.w := Nat.mod_lt _ (Nat.two_pow_pos _)
  have h4 : (v % 2 ^ f.w + 1) * 2 ^ f.lo ≤ 2 ^ f.w * 2 ^ f.lo := Nat.mul_le_mul_right _ hv
  have h5 : 2 ^ f.w * 2 ^ f.lo = 2 ^ (f.lo + f.w) := by rw [← Nat.pow_add, Nat.add_comm]
  rw [Nat.add_mul] at h4
  rw [Nat.add_mul_div_right _ _ (Nat.two_pow_pos _), Nat.div_eq_of_lt (by omega), Nat.zero_add]

/-! ## Fields of the state -/

theorem State.fld_setFld_same (p : Nat) (f : Fld) (v : Nat) (h : s.canonical = true) (hf : f.lo + f.w ≤ 32) :
    (s.setFld p f v).fld p f = v % 2 ^ f.w := by
  unfold State.fld State.setFld
  rw [State.reg_setReg_same _ _ h, Fld.of_into_same f _ v hf]

/-- A field of another register reads as before. -/
theorem State.fld_setFld_reg {p p' : Nat} {f g : Fld} (v : Nat) (h : s.canonical = true) (hne : g.addr p' ≠ f.addr p) :
    (s.setFld p f v).fld p' g = s.fld p' g := by
  unfold State.fld State.setFld
  rw [State.reg_setReg_other _ h hne]

/-- A field of the same register that does not overlap the one written reads as before. -/
theorem State.fld_setFld_apart {p : Nat} {f g : Fld} (v : Nat) (h : s.canonical = true) (hf : f.lo + f.w ≤ 32)
    (ho : g.off = f.off) (hd : g.lo + g.w ≤ f.lo ∨ f.lo + f.w ≤ g.lo) : (s.setFld p f v).fld p g = s.fld p g := by
  have ha : g.addr p = f.addr p := by unfold Fld.addr; rw [ho]
  unfold State.fld State.setFld
  rw [ha, State.reg_setReg_same _ _ h]
  cases hd with
  | inl hb => exact Fld.of_into_below f g _ v hf hb
  | inr hb => exact Fld.of_into_above f g _ v hf hb

/-- Registers other than the one that holds the field read as before. -/
theorem State.reg_setFld_other {p a : Nat} {f : Fld} (v : Nat) (h : s.canonical = true) (hne : a ≠ f.addr p) :
    (s.setFld p f v).reg a = s.reg a := State.reg_setReg_other _ h hne

/-! ## Bytes of memory -/

theorem State.byte_setByte_same (a : Nat) (v : Byte) (h : s.canonical = true) : (s.setByte a v).byte a = v :=
  Tab.get_set_same memDefault a v (State.canonical_memRising h)

theorem State.byte_setByte_other {a b : Nat} (v : Byte) (h : s.canonical = true) (hne : b ≠ a) : (s.setByte a v).byte b = s.byte b :=
  Tab.get_set_other memDefault memDefault v (State.canonical_memRising h) hne

/-- A byte outside the list stored reads as before. -/
theorem State.byte_storeBytes_other (bs : List Byte) {a b : Nat} (h : s.canonical = true) (hb : b < a ∨ a + bs.length ≤ b) :
    (s.storeBytes a bs).byte b = s.byte b := by
  induction bs generalizing s a with
  | nil => rfl
  | cons x bs ih =>
    simp only [List.length_cons] at hb
    unfold State.storeBytes
    rw [ih (State.setByte_sound a x (State.sound_of_canonical h)).2 (by omega), State.byte_setByte_other x h (by omega)]

/-- A byte of the list stored reads the value stored. -/
theorem State.byte_storeBytes (bs : List Byte) {a : Nat} (i : Nat) (h : s.canonical = true) (hi : i < bs.length) :
    (s.storeBytes a bs).byte (a + i) = bs[i] := by
  induction bs generalizing s a i with
  | nil => simp at hi
  | cons x bs ih =>
    have hc := (State.setByte_sound a x (State.sound_of_canonical h)).2
    unfold State.storeBytes
    cases i with
    | zero => rw [State.byte_storeBytes_other bs hc (by omega)]; exact State.byte_setByte_same a x h
    | succ j =>
      have := ih (a := a + 1) j hc (by simpa using hi)
      rw [show a + (j + 1) = a + 1 + j by omega, this]
      rfl

end Sys2Proof.Machine
end

