-- ==== Sys2Proof/Laws/Task.lean ====
section
/-! SUPPORT. What one step of a command does: it begins, goes on, or stays as it is (R428, R431). -/

namespace Sys2Proof.Machine

/-- A command that is ready begins. -/
theorem cmdStep_begin {s : State} {op tag : Nat} {x : TaskCmd} (first next : TaskCmd → State → State) (hx : s.cmdOf tag = some x)
    (ho : x.op = op) (hs : x.started = none) (hr : s.cmdReady x = true) :
    s.cmdStep op tag first next =
      (first { x with started := some (s.now, s.fabric) }
        ((s.setFlow x.page { items := (s.flow x.page).items.tail, holder := some (65536 + tag) }).setCmd
          { x with started := some (s.now, s.fabric) })).taskShow := by
  subst ho; simp [State.cmdStep, hx, hs, hr]

/-- A command that has begun goes on. -/
theorem cmdStep_next {s : State} {op tag : Nat} {x : TaskCmd} {a : Nat × Nat} (first next : TaskCmd → State → State)
    (hx : s.cmdOf tag = some x) (ho : x.op = op) (hs : x.started = some a) (hw : s.works pTASK = true) :
    s.cmdStep op tag first next = next x s := by
  simp [State.cmdStep, hx, ho, hs, hw]

/-- A command that waits for its flow stays as it is. -/
theorem cmdStep_waits {s : State} {op tag : Nat} {x : TaskCmd} (first next : TaskCmd → State → State) (hx : s.cmdOf tag = some x)
    (hs : x.started = none) (hr : s.cmdReady x = false) : s.cmdStep op tag first next = s := by
  simp [State.cmdStep, hx, hs, hr]

end Sys2Proof.Machine
end

