-- ==== Sys2Proof/WellFormed.lean ====
section
/-! DEFINITION. Which commands are well formed: each operand names something that the block has, or fits its width. -/

namespace Sys2Proof

/-- BAR0 holds the address (R5, R30: 16 MiB). -/
def addrOk (a : Nat) : Bool := decide (a < 0x1000000)

/-- An offset of the 256 MiB aperture (R442). -/
def apertureOk (o : Nat) : Bool := decide (o < 0x10000000)

/-- A device address of 36 bits (R441). -/
def devAddrOk (a : Nat) : Bool := decide (a < 2 ^ 36)

/-- An offset within a page (R30). -/
def offsetOk (o : Nat) : Bool := decide (o < 0x1000)

/-- One of the 4,096 pages of BAR0 (R30). -/
def pageOk (p : Nat) : Bool := decide (p < 0x1000)

/-- A QP of 0 to 51. -/
def qpOk (q : Nat) : Bool := decide (q < 52)

/-- A CTU row of a picture: at most 68 (R141; 4,320 lines). -/
def rowOk (k : Nat) : Bool := decide (k < 128)

/-- The readings of the twelve sites (R469). -/
def tempsOk (t : List Int) : Bool := t.length == 12

/-- The readings of the ten rails (R469). -/
def voltsOk (t : List Nat) : Bool := t.length == 10

/-- An access is of 1, 2, 4 or 8 octets (R31). -/
def widthOk (n : Nat) : Bool := n == 1 || n == 2 || n == 4 || n == 8

/-- A mailbox of sixteen words (R315). -/
def wordsOk (w : List Nat) : Bool := w.length == 16

/-- A number below a limit: an instance, an index, a mask or a value of its width. -/
def below (limit n : Nat) : Bool := decide (n < limit)

/-- Every operand of a command is in range. -/
def wellFormed : Instr → Bool
  | .registerWrite a _ => addrOk a
  | .bar0NarrowAccess a len _ => addrOk a && widthOk len
  | .pageEnable p => pageOk p
  | .enableCheckComplete p _ => pageOk p
  | .pageStop p => pageOk p
  | .pageDrain p => pageOk p
  | .drainUndo p => pageOk p
  | .nextBoundaryReached p => pageOk p
  | .abortPage p => pageOk p
  | .clearFault p => pageOk p
  | .unitFaultDetected p => pageOk p
  | .arm p => pageOk p
  | .disarm p => pageOk p
  | .discard p => pageOk p
  | .shadowWrite p o _ => pageOk p && offsetOk o
  | .groupCommitReq mask => below 256 mask
  | .deviceCommitReq => true
  | .deviceCommitComplete => true
  | .commitAbortGroup mask => below 256 mask
  | .commitAbortDevice => true
  | .commitCutoff g => below 8 g
  | .commitCheckEnd g => below 8 g
  | .chmbReserveWrite _ => true
  | .shed => true
  | .intSet p _ => pageOk p
  | .incrWrite _ => true
  | .slewIncrWrite _ => true
  | .slewStart => true
  | .slewDone => true
  | .timeLoadAtPps => true
  | .timeStop => true
  | .loadWrite r _ => below 4 r
  | .cmpArm n _ => below 16 n
  | .cmpBoundWrite n r _ => below 16 n && below 4 r
  | .tgtWrite n _ => below 16 n
  | .tgt32Write n _ => below 16 n
  | .compareFire n => below 16 n
  | .triggerPulseEnd k => below 8 k
  | .captureEdge n _ => below 8 n
  | .ppsOutRise => true
  | .ppsOutFall => true
  | .rootPllLoss => true
  | .rootPllRelock => true
  | .sdiRateDwell n i => below 16 n && below 4 i
  | .sdiLinkLock n i => below 16 n && below 4 i
  | .sdiLockLoss n i => below 16 n && below 4 i
  | .sdiPictureArrival n x => below 16 n && (x.data.all fun g => g.2.2.all (below 1099511627776))
  | .ancPacket n x => below 16 n && x.udw.all (below 1024)
  | .ipinPathInactive n b => below 32 n && below 2 b
  | .ipinSeqLost n => below 32 n
  | .rowReadInstant n k => below 32 n && rowOk k
  | .inputPageLeave p => pageOk p
  | .fenceSignal n _ => below 32 n
  | .protWrite _ n r _ => below 32 n && below 7 r
  | .protLock _ n => below 32 n
  | .feederDrainEnd p => pageOk p
  | .rowRelease c _ k _ => below 64 c && rowOk k
  | .rowDispatch h => below 18 h
  | .ctuComplete h _ _ => below 18 h
  | .chamberFault h => below 18 h
  | .outputInstant c _ k => below 64 c && rowOk k
  | .chmbDrainEffect h => below 18 h
  | .chmbDrainEnd h => below 18 h
  | .chmbPoolJoin h => below 18 h
  | .blockRead c i _ _ _ => below 64 c && below 20 i
  | .decInputRecord d => below 2 d
  | .decPictureDecoded d _ => below 2 d
  | .sdiOutPicture n _ => below 2 n
  | .claimMsg seq claim _ _ _ => below 65536 seq && below 4294967296 claim
  | .digest seq _ => below 65536 seq
  | .digestLate c => below 64 c
  | .yieldMsg p claim _ _ => below 256 p && below 4294967296 claim
  | .snapshot seq _ => below 65536 seq
  | .decision seq c _ k _ qp _ _ => below 65536 seq && below 64 c && rowOk k && qpOk qp
  | .stepMsg seq c cause _ k => below 65536 seq && below 64 c && below 4 cause && rowOk k
  | .joinReq seq c => below 65536 seq && below 64 c
  | .handoverReq seq claim => below 65536 seq && below 4294967296 claim
  | .handover seq _ claim => below 65536 seq && below 4294967296 claim
  | .commitReq seq _ => below 65536 seq
  | .commitVerdict seq g _ _ digest => below 65536 seq && below 8 g && below 4294967296 digest
  | .verdictDeadline g => below 8 g
  | .ready seq g _ _ => below 65536 seq && below 8 g
  | .witnessTimeout => true
  | .retainExpiry c => below 64 c
  | .revert => true
  | .pairCtrlHandover => true
  | .yieldNow => true
  | .clearYield => true
  | .joinNow => true
  | .pairCfgWrite r _ => below 2 r
  | .ropeLinkCut => true
  | .heartbeatSend => true
  | .heartbeat lane rx next pAck => below 4 lane && below 16 rx && below 65536 next && below 256 pAck
  | .am lane tx rx _ _ _ _ => below 4 lane && below 16 tx && below 16 rx
  | .amSend => true
  | .ack next _ pAck => below 65536 next && below 256 pAck
  | .ropeFrameBad _ cause => below 4 cause
  | .ropeReplayTimeout => true
  | .yieldRepeat => true
  | .ropeLaneLost i _ _ => below 4 i
  | .blockLock i => below 4 i
  | .signalDetect mask => below 16 mask
  | .ropeTrainDone i => below 4 i
  | .trainMsExpiry => true
  | .alignDone => true
  | .linkStateTimeout => true
  | .caps seq _ _ _ lanes _ _ next => below 65536 seq && below 16 lanes && below 65536 next
  | .mailbox seq words => below 65536 seq && wordsOk words
  | .ropeRetrain i => below 4 i
  | .ropeRetrainResult i => below 4 i
  | .ropeRestart => true
  | .clearFailed => true
  | .mboxSend => true
  | .ethFrameReceive p _ _ _ _ _ _ => below 8 p
  | .anComplete p => below 8 p
  | .ethAttemptTimeout p _ => below 8 p
  | .ethTrainDone p => below 8 p
  | .linkUp p => below 8 p
  | .linkDown p => below 8 p
  | .retryMsExpiry p => below 8 p
  | .laneModeNextWrite p _ => below 8 p
  | .subWrite p n _ _ => below 8 p && below 128 n
  | .hostTxRecord p => below 8 p
  | .tsHostRecord c => below 64 c
  | .enableQueue q => below 65536 q
  | .disableQueue q => below 65536 q
  | .disableComplete => true
  | .setShaper q => below 65536 q
  | .returnQueue q => below 65536 q
  | .frameHandoff => true
  | .frameTransmitStart p => below 8 p
  | .frameTransmitEnd p _ => below 8 p
  | .gateSwap p => below 8 p
  | .gateCancel p => below 8 p
  | .gateSwapped p => below 8 p
  | .gateEntryChange p => below 8 p
  | .adaptWindowEnd n _ _ _ _ => below 38 n
  | .laneRetrain n => below 38 n
  | .freeze n => below 38 n
  | .unfreeze n => below 38 n
  | .snapshotBaseline n => below 38 n
  | .injectSingle n => below 38 n
  | .injectBurst n => below 38 n
  | .esStart n => below 38 n
  | .esStop n => below 38 n
  | .esDone n _ => below 38 n
  | .ffeWrite n _ => below 38 n
  | .testCfgWrite n _ => below 38 n
  | .loopbackWrite n _ => below 38 n
  | .laneTrainDone n => below 38 n
  | .laneTrainFail n => below 38 n
  | .cdrLost n => below 38 n
  | .memcRequest n _ => below 16 n
  | .refiExpiry n => below 16 n
  | .refreshIssue n => below 16 n
  | .mr4Poll n code => below 16 n && below 4 code
  | .sensorSample temps volts _ => tempsOk temps && voltsOk volts
  | .applyDelays n => below 16 n
  | .probeStart n => below 16 n
  | .stolenSlot n _ => below 16 n
  | .rrWindowEnd n => below 16 n
  | .shedWrite n k _ => below 16 n && below 16 k
  | .mtxBurstRequest master addr _ _ _ _ => below 16 master && devAddrOk addr
  | .ageLimitExpiry _ => true
  | .flitCrcFail master addr _ => below 16 master && devAddrOk addr
  | .wpWrite _ w r _ => below 4 w && below 6 r
  | .pageLineChange p => pageOk p
  | .swSet n => below 2048 n
  | .swClr n => below 2048 n
  | .srcCtrlWrite n r _ => below 2048 n && below 5 r
  | .intcRoute _ => true
  | .claimRead t => below 73 t
  | .eoi t n => below 73 t && below 2048 n
  | .msixUnmask v _ => below 64 v
  | .threadReady id => below 65536 id
  | .threadCreate id prio => below 65536 id && below 64 prio
  | .flowPost f => below 4096 f
  | .sumpFetch id _ _ => below 65536 id
  | .commandRecord => true
  | .nop tag => below 4294967296 tag
  | .cmdRetrain tag => below 4294967296 tag
  | .memSweep tag => below 4294967296 tag
  | .eyeScan tag => below 4294967296 tag
  | .join tag => below 4294967296 tag
  | .fwLoad tag => below 4294967296 tag
  | .fwSwap tag => below 4294967296 tag
  | .coreStopped c => below 8 c
  | .swapTimeout => true
  | .selftest tag => below 4294967296 tag
  | .cmdAbort tag => below 4294967296 tag
  | .cmdTimeout tag => below 4294967296 tag
  | .cmdCfgWrite _ => true
  | .pcieLinkDown => true
  | .hostRetrain => true
  | .pcieLinkTrained lanes speed => below 256 lanes && below 8 speed
  | .bar2Access off _ _ => apertureOk off
  | .apertureWrite _ _ => true
  | .tailWrite r _ _ => below 256 r
  | .descriptorFetch r _ => below 256 r
  | .dmaDescComplete r => below 256 r
  | .recordOffer r source _ => below 256 r && pageOk source
  | .coalTimeout r => below 256 r
  | .powerOnReset => true
  | .pwrgoodFall => true
  | .perstNRelease => true
  | .boot _ _ => true
  | .selftestComplete _ _ _ _ _ _ => true
  | .bringupComplete trained => below 65536 trained
  | .bootWatchdog => true
  | .lanternWatchdog => true
  | .hostWdtKick => true
  | .hostWdtExpired => true
  | .writeSlot => true
  | .activate trials => below 8 trials
  | .norRead => true
  | .mgmtRestart => true
  | .logEvent => true
  | .norRateRefill => true
  | .xmodemImage _ => true
  | .consoleLoad slot => below 2 slot
  | .taskReset => true
  | .sensClear _ => true
  | .otHoldEnd => true
  | .thermtrip => true
  | .governorStage => true
  | .coolDelayExpiry => true
  | .perstNAssert => true
  | .latchingRead a => addrOk a
  | .ppsInEdge => true
  | .ppsSeenLapse => true
  | .cdrLock n => below 38 n
  | .checkerLock n => below 38 n
  | .checkerLost n _ _ => below 38 n
  | .rateInjection n => below 38 n
  | .trainingFrame i _ _ _ _ => below 4 i
  | .detectRetry => true
  | .waitDeadlineCount id => below 65536 id
  | .kernelEntry c _ => below 8 c
  | .mgmtOpDone _ _ => true
  | .fwLoadDone tag _ _ _ => below 4294967296 tag
  | .chamberTestDone tag _ => below 4294967296 tag
  | .aerError _ => true

end Sys2Proof
end

