-- ==== Sys2Proof/Tests/Slice0.lean ====
section
/-! SUPPORT. The package's own tests: ill-formed terms refused, single steps whose results the spec gives, and a witness for the
hypotheses of every statement. -/

set_option Elab.async false
set_option linter.unusedVariables false

namespace Sys2Proof.Machine

/-- A block in SERVICE (R459), for tests. -/
def tSvc : State := State.reset.setFld pMGMT F.MGMT.PHASE_STATUS_PHASE 4

/-- Page `p` is ON. -/
def State.on (s : State) (p : Nat) : State := s.setFld p F.PAGE_STATE 2

/-- Page `p` is in state `x`. -/
def State.inState (s : State) (p x : Nat) : State := s.setFld p F.PAGE_STATE x

/-- Lantern's clock in ps and the cycles of the root PLL. -/
def State.clock (s : State) (ps root : Nat) : State :=
  { s with boot := { s.boot with ps := ps }, time := { s.time with root := root } }

/-- The counter runs at `ns`. -/
def State.ticking (s : State) (ns : Nat) : State :=
  { (s.on pTIME).setFld pTIME F.TIME.TIME_STATUS_RUNNING 1 with time := { s.time with acc := BitVec.ofNat 88 (ns * 2 ^ 24) } }

def tRun : State := { State.reset.ticking 1000 with boot := { BootState.reset with mult := 240 } }

def tBurst : Burst :=
  { id := 7, master := 6, target := 0, addr := 0, len := 64, data := none, fence := false, since := 0, aged := false }

def tDesc (bad : Bool) : DmaDesc :=
  { count := 0, hostAddr := 0x1000, devAddr := 0, len := 4, sop := false, eop := false, irq := false, fenceEn := false, fenceSrc := 0,
    fenceLayer := 0, tag := 1, invalid := bad, hostErr := false, bytes := [1, 2, 3, 4], guarded := false }

/-- A software source that waits for target 72. -/
def tIrq : State :=
  (((((tSvc.on pINTC).setFld pST (F.SRCTAB.SRC_CTRL_STATE 0x400) 1).setFld pST (F.SRCTAB.SRC_CTRL_ENABLE 0x400) 1).setFld pST
    (F.SRCTAB.SRC_CTRL_PRIO 0x400) 5).setFld pST (F.SRCTAB.TMASK2_T64_72 0x400) 0x100).setFld pINTC (F.INTC.TGT_CTRL_EN 72) 1


def tSnap : SnapshotMsg := ⟨0, 0, 0, 0, 0, 0, [], 0, 0, 0, 0, [], []⟩

def tPic : PicRec :=
  { n := 0, fire := 0, kind := 0, absent := false, wave := 0, g := 0, clean := false, poc := 0, refs := [], buf := none, budget := 0,
    spent := 0, rows := [], layer := false, prot := false, missing := false, raw := false, fed := 0, src := [], ctus := [], final := [],
    hash := [], origin := 0, win := [], lostProxy := [] }

def tAu : AccessUnit :=
  { index := none, pos := 0, pieces := [], at' := 5, ts := 0, vcl := false, left := none, ended := false, decoded := false, broken := false,
    dropping := false, refused := false, donl := false }

def tDecPic : DecPic :=
  { index := 0, poc := 0, areas := 0, generated := false, concealed := false, hashFail := false, clean := true, bytes := 0, slot := 0,
    sps := ⟨0, 1, false, 51, 1, 10, 10, false, 1, 64, 64, 64, 0, 0, 64, 64⟩ }

/-- A standby with an active Rope link, its channel 0 ON, OUT_OF_STEP and with a picture begun. -/
def tOut : State :=
  ((((tSvc.on pPAIR).setFld pROPE F.ROPE.ROPE_STATUS_LINK 5).on (pCHAN 0)).setFld pPAIR (chStepFld 0) 1).setChan 0
    { ChanState.reset with pics := [tPic] }

/-- The same, while channel 0 joins at picture 0. -/
def tJoin (fire : Nat) : State :=
  (tOut.setFld pPAIR (chStepFld 0) 2).setChan 0
    { ChanState.reset with pics := [{ tPic with fire := fire }], pair := { PairChan.reset with join := some (0, 3) } }

/-- TSCH is ON and the entry of queue `q` is in range. -/
def tQueue (q : Nat) : State :=
  ((((tSvc.on pTSCH).setQfld F.QTAB.Q_CTRL_MAX_FRAME q 9216).setQfld F.QTAB.Q_RATE_KBPS q 1000).setQfld F.QTAB.Q_BURST_BYTES q 9216).setQfld
    F.QTAB.Q_BUF_KIB q 10

/-- A UDP packet to 224.0.0.1, port 5000, with an RTP header of version 2. -/
def tUdp : List Byte :=
  List.replicate 12 0#8 ++ [0x08#8, 0x00#8] ++
    [0x45#8, 0#8, 0#8, 46#8, 0#8, 0#8, 0#8, 0#8, 64#8, 17#8, 0#8, 0#8, 192#8, 0#8, 2#8, 1#8, 224#8, 0#8, 0#8, 1#8] ++
    [0x20#8, 0x00#8, 0x13#8, 0x88#8, 0#8, 26#8, 0#8, 0#8] ++ [0x80#8, 96#8] ++ List.replicate 16 0#8

/-- IPIN page 31 ON, its path A open for `tUdp` on port 3. -/
def tPath : State :=
  ((((tSvc.on (pIPIN 31)).setFld (pIPIN 31) (F.IPIN.PATH_PORT_ETH 0).act 3).setFld (pIPIN 31) (F.IPIN.PATH_PORT_UDP 0).act 5000).setFld
    (pIPIN 31) (F.IPIN.PATH_DEST 0).act 0xE0000001)

/-- A host transmit record of LENGTH `n`. -/
def tHostTx (n : Nat) : List Byte := leBytes n 8 ++ List.replicate 72 1#8

/-- SDIRX page 15 locked at the rate of its geometry, one picture a second. -/
def tIn : State :=
  ((((tSvc.on (pSDIRX 15)).setFld (pSDIRX 15) F.SDIRX.LOCK_STATUS_LOCKED 1).setFld (pSDIRX 15) F.SDIRX.LOCK_STATUS_RATE 1).setFld
    (pSDIRX 15) F.SDIRX.SDI_CFG_GEOM.act 1).ticking 1000

/-- Ring `r` is ON with one descriptor of 4,096 octets to write. -/
def State.tRing (s : State) (r : Nat) : State := { (s.on (pDMA r)).setFld (pDMA r) F.DMA.TAIL 1 with hostMem := [(17, 16#8)] }

/-- Channel 63 is ON at 64 × 128 samples, one picture a second, with picture 0 of rows `rows` begun at 0; TIME stands at `t`. -/
def tCh (t : Nat) (rows : Tab RowRec) : State :=
  ((((tSvc.on (pCHAN 63)).ticking t).setFld (pSCAL 0) F.SCAL.OUT_SIZE_W.act 64).setFld (pSCAL 0) F.SCAL.OUT_SIZE_H.act 128).setChan 63
    { ChanState.reset with pics := [{ tPic with rows := rows }] }

/-- The same, while the unit takes the decisions of picture 0 from the active. -/
def tRecv : State :=
  (((tCh 1000000000 []).on pPAIR).setFld pPAIR (chStepFld 63) ncJoining).updChan 63 fun x =>
    { x with pair := { PairChan.reset with join := some (0, 3) } }

/-- Channel 63 with a picture in coding that refers to buffer 0, its CTUs of mark `m` and poisoned `ps`. -/
def tWin (m : Nat) (ps : List Nat) : State :=
  ((tCh 0 []).setBufs 63 [⟨m, 0, 3, 0, 0, ps⟩]).updChan 63 fun x => { x with pics := [{ tPic with n := 1, refs := [0] }] }

/-- The same, with CTU 0 of the buffer holding a good block 1 of one sector. -/
def tBlock : State :=
  let s := tWin 2 []
  (s.memStore (s.blockAddr 63 0 0 0) [4#8]).memStore (s.blockAddr 63 0 0 1 + 62) (leBytes (crc16 (List.replicate 62 0#8)) 2)

/-- The same, its block 0 good and its map VOID. -/
def tVoid : State :=
  let s := tWin 2 []
  s.memStore (s.blockAddr 63 0 0 0 + 62) (leBytes (crc16 (List.replicate 62 0#8)) 2)

/-- SDI output 1 in TRACK, ready to send. -/
def tSdo : State := ((tSvc.on (pSDITX 1)).ticking 1).setFld (sdoLane 1) F.LANE.LANE_STATUS_STATE laTrack

/-- TASK is ON and takes command records from ring 0. -/
def tTask : State := (tSvc.on pTASK).setFld pTASK F.TASK.CMD_CFG_EN 1

/-- TASK is ON with thread 9. -/
def tThread (t : Thread) : State := (tSvc.on pTASK).setThread 9 t

/-- The lists hold all the threads that a Sump of size 0 allows. -/
def tFull : State :=
  { tSvc.on pTASK with task := { (tSvc.on pTASK).task with
      threads := (List.range 1024).map fun i => (i + 1, { Thread.reset with state := 1 }) } }

/-- The command with TAG 7: its opcode, its page, whether it has begun, and its phase; it is first in its flow. -/
def tCmd (op page : Nat) (started : Option (Nat × Nat)) (phase : Nat) : State :=
  let s := tTask.setFlow page { items := [8], holder := none }
  { s with task := { s.task with cmds := [⟨op, page, 7, 1, [], started, 0, 0, phase, [], []⟩] } }

/-- The other bank holds a verified image of ABI `abi`, the active one of ABI 1. -/
def tBanks (s : State) (abi : Nat) : State :=
  { s with task := { s.task with bank0 := ⟨true, 1, 1⟩, bank1 := ⟨true, 2, abi⟩ } }

/-- PERST_N has been released. -/
def tPcie : State := { tSvc with boot := { tSvc.boot with pcieTraining := true } }

/-- The same, lane 7 of the host link in TRAIN. -/
def tHostLane : State := (tPcie.on (hostLane 7)).setFld (hostLane 7) F.LANE.LANE_STATUS_STATE laTrain

/-- The device runs from slot A. -/
def tMgmt : State := { tSvc with boot := { tSvc.boot with porHeld := false, runSlot := some 0 } }

/-- Lantern is in phase `n`. -/
def tPhase (n : Nat) : State := tSvc.setFld pMGMT F.MGMT.PHASE_STATUS_PHASE n

/-- In BRINGUP, with protected data in the image and no place for them in its settings. -/
def tProtected : State :=
  ((tPhase 3).norProgram 0x100008 [64, 0, 0, 0]).norProgram 0x100100 [4, 0, 0, 0, 0, 0, 0, 0]

/-- A section of an image, padded to 64 octets. -/
def tSection (ty : Nat) (bs : List Byte) : List Byte :=
  let d := leBytes ty 4 ++ leBytes bs.length 4 ++ List.replicate 8 0xFF ++ bs
  d ++ List.replicate ((64 - d.length % 64) % 64) 0xFF

/-- The SHA-384 digest of its body, computed apart from this model. -/
def tDigest : List Byte :=
  [0x0D, 0xE8, 0x69, 0x70, 0x22, 0xEA, 0x28, 0xFF, 0x8B, 0xCE, 0xD0, 0xBD, 0x1B, 0x3B, 0x6E, 0x62, 0x5F, 0x58, 0x27,
   0x69, 0x10, 0x4B, 0x35, 0xB1, 0xB9, 0x69, 0x84, 0xA3, 0x64, 0xC8, 0xD6, 0x87, 0xE7, 0xA8, 0xB5, 0x5F, 0x23, 0xBA,
   0xB9, 0x99, 0xCE, 0x97, 0xF8, 0xC3, 0x62, 0x8E, 0xC4, 0xA0]

/-- A good image. -/
def tBytes : List Byte :=
  let setting (k v : Nat) : List Byte := leBytes k 2 ++ leBytes 0 2 ++ leBytes v 4
  let body := tSection 1 [] ++ tSection 2 [] ++ tSection 3 (setting 1 240 ++ setting 2 0 ++ setting 3 255 ++ setting 4 0 ++
    setting 5 0 ++ setting 6 0 ++ setting 7 0)
  leBytes 0x4D49424B 4 ++ [1, 0, 0, 0] ++ leBytes body.length 4 ++ leBytes 5 4 ++ [1] ++ List.replicate 47 0xFF ++ tDigest ++
    List.replicate 144 0xFF ++ body

/-- In BOOT, with slot A VALID and a good image in it. -/
def tImage : State :=
  { tPhase 1 with norMem :=
      (((List.range 64).zip (dirBytes 1 ⟨1, 0, 1⟩ ⟨0, 0, 0⟩)) ++
        ((List.range tBytes.length).map (0x100000 + ·)).zip tBytes).filter fun c => c.2 != norDefault }

/-- A WRITE_SLOT of a good image at device address 0 runs; the security counter stands at 0. -/
def tCopy : State :=
  let s := (({ tMgmt with mem := ((List.range tBytes.length).zip tBytes).filter fun c => c.2 != 0 } : State).setFld pMGMT
    F.MGMT.UPD_LEN_BYTES tBytes.length).opBegin pMGMT 5
  { s with nor := { s.nor with opSlot := 1, secCounter := 0 } }

/-- What a WRITE_SLOT leaves in NOR. -/
def State.copied (s : State) : State :=
  (s.norErase (slotBase s.nor.opSlot) (ceilDiv (s.fld pMGMT F.MGMT.UPD_LEN_BYTES) 65536 * 65536)).norProgram (slotBase s.nor.opSlot)
    (s.loadBytes (s.addr36 pMGMT F.MGMT.UPD_ADDR_LO) (s.fld pMGMT F.MGMT.UPD_LEN_BYTES))

theorem gate_none (s : State) (p : Nat) (h : (match s.readGate p with | .ok none => true | _ => false) = true) :
    s.readGate p = .ok none := by
  split at h <;> simp_all

theorem gate_err (s : State) (p c d : Nat) (h : (match s.readGate p with | .error e => e == (c, d) | _ => false) = true) :
    s.readGate p = .error (c, d) := by
  split at h <;> simp_all

theorem choose_some {α β γ δ : Type} (r : α × β × Option (γ × δ)) (h : r.2.2.isSome = true) :
    ∃ u b k e, r = (u, b, some (k, e)) := by
  obtain ⟨u, b, o⟩ := r
  obtain ⟨⟨k, e⟩, rfl⟩ := Option.isSome_iff_exists.mp h
  exact ⟨u, b, k, e, rfl⟩

theorem choose_none {α β γ : Type} (r : α × β × Option γ) (h : r.2.2.isNone = true) : ∃ u b, r = (u, b, none) := by
  obtain ⟨u, b, o⟩ := r
  cases o with
  | none => exact ⟨u, b, rfl⟩
  | some x => cases h

/-- An address above every listed one reads as the default. -/
theorem tab_above (t : Tab Byte) (d : Byte) (a : Nat) (h : ∀ c ∈ t, c.1 < a) : Tab.get d t a = d := by
  induction t with
  | nil => rfl
  | cons c t ih =>
    have h1 := h c (by simp)
    simp only [Tab.get]
    rw [if_neg (by omega)]
    rw [if_neg (by omega)]
    exact ih fun x hx => h x (by simp [hx])

/-- With no log sector in NOR, the log begins at sector 0. -/
theorem log_head_empty (s : State) (h : ∀ c ∈ s.norMem, c.1 < logSector 0) :
    s.findLogHead = { s with log := { s.log with sector := 0, slot := 63, seqs := [] } } := by
  have hs : s.logSectors = [] := by
    simp only [State.logSectors, List.filterMap_eq_nil_iff]
    intro k _
    have hb : ∀ c ∈ s.norMem, c.1 < logSector k := by
      intro c hc
      exact Nat.lt_of_lt_of_le (h c hc) (Nat.add_le_add_left (Nat.mul_le_mul_right _ (Nat.zero_le k)) _)
    have hn : Tab.get norDefault s.norMem (logSector k) = norDefault := tab_above s.norMem _ _ hb
    rw [if_neg]
    intro hx
    unfold State.norByte at hx
    rw [hn] at hx
    exact absurd hx.1 (by decide)
  unfold State.findLogHead
  rw [hs]
  rfl

/-- A boot that finds a slot. -/
theorem boot_finds (s : State) (hp : s.phase = phBoot) (hb : ∀ c ∈ s.readDir.norMem, c.1 < logSector 0)
    (h : (State.chooseSlot (fun k => if k = 0 then true else true) 3
      { s.readDir with log := { s.readDir.log with sector := 0, slot := 63, seqs := [] } } []).2.2.isSome = true) :
    ∃ (s u : State) (a b : Bool) (bad : List (Nat × Nat)) (k : Nat) (es : List (Nat × Nat × Nat)), s.phase = phBoot ∧
      State.chooseSlot (fun k => if k = 0 then a else b) 3 s.readDir.findLogHead [] = (u, bad, some (k, es)) := by
  obtain ⟨u, b, k, e, h⟩ := choose_some _ h
  rw [← log_head_empty _ hb] at h
  exact ⟨s, u, true, true, b, k, e, hp, h⟩

/-- Programming the NOR leaves the rest of the state alone, and does not look at it. -/
theorem norProgram_nor (bs : List Byte) (x : NorState) : ∀ (a : Nat) (s : State),
    ({ s with nor := x } : State).norProgram a bs = { s.norProgram a bs with nor := x } := by
  induction bs with
  | nil => intro a s; rfl
  | cons b bs ih => intro a s; simp only [State.norProgram]; exact ih _ { s with norMem := Tab.set norDefault s.norMem a b }

theorem nor_norProgram (bs : List Byte) : ∀ (a : Nat) (s : State), (s.norProgram a bs).nor = s.nor := by
  induction bs with
  | nil => intro a s; rfl
  | cons b bs ih => intro a s; simp only [State.norProgram]; rw [ih]

theorem loadBytes_nor (n : Nat) (x : NorState) : ∀ (a : Nat) (s : State),
    ({ s with nor := x } : State).loadBytes a n = s.loadBytes a n := by
  induction n with
  | zero => intro a s; rfl
  | succ n ih => intro a s; simp only [State.loadBytes]; rw [ih]; rfl

/-- The security counter has no part in the copy. -/
theorem copied_sec (s : State) (k : Nat) :
    ({ s with nor := { s.nor with secCounter := k } } : State).copied =
      { s.copied with nor := { s.nor with secCounter := k } } := by
  unfold State.copied
  rw [loadBytes_nor]
  exact norProgram_nor _ _ _ (s.norErase (slotBase s.nor.opSlot) (ceilDiv (s.fld pMGMT F.MGMT.UPD_LEN_BYTES) 65536 * 65536))

theorem nor_copied (s : State) : s.copied.nor = s.nor := nor_norProgram _ _ _

/-- A WRITE_SLOT of a good image of security version 0, the security counter at `k`. -/
theorem slot_copied (s : State) (k : Nat) (h1 : s.boot.rootHeld = false) (h2 : s.nor.opAbort = false)
    (h3 : s.fld pMGMT F.PAGE_OP_KIND = 5) (h4 : s.opRunning pMGMT 5 = true) (h5 : s.nor.secCounter = 0)
    (hg : ((s.copied.verifyImage s.nor.opSlot true).isSome && decide ((s.copied.norByte (slotBase s.nor.opSlot + 7)).toNat = 0)) = true) :
    ∃ (s u : State) (sound : Bool) (r : List Section × List (Nat × Nat × Nat)), s.boot.rootHeld = false ∧
      s.nor.opAbort = false ∧ s.fld pMGMT F.PAGE_OP_KIND = 5 ∧
      s.opRunning pMGMT 5 = true ∧ u = ((s.norErase (slotBase s.nor.opSlot) (ceilDiv (s.fld pMGMT F.MGMT.UPD_LEN_BYTES) 65536 * 65536)).norProgram (slotBase s.nor.opSlot)
        (s.loadBytes (s.addr36 pMGMT F.MGMT.UPD_ADDR_LO) (s.fld pMGMT F.MGMT.UPD_LEN_BYTES))) ∧
      ({ u with nor := { u.nor with secCounter := 0 } } : State).verifyImage s.nor.opSlot sound = some r ∧
      (u.norByte (slotBase s.nor.opSlot + 7)).toNat = 0 ∧ s.nor.secCounter = k := by
  rw [Bool.and_eq_true, decide_eq_true_eq] at hg
  obtain ⟨r, h⟩ := Option.isSome_iff_exists.mp hg.1
  have e := copied_sec s k
  have e0 : ({ s.copied with nor := { s.nor with secCounter := 0 } } : State) = s.copied := by
    have := nor_copied s
    cases hc : s.copied; rw [hc] at this; cases this
    rw [← h5]
  refine ⟨{ s with nor := { s.nor with secCounter := k } }, _, true, r, h1, h2, h3, h4, rfl, ?_, ?_, rfl⟩
  · show State.verifyImage ({ (State.copied _) with nor := { (State.copied _).nor with secCounter := 0 } } : State) s.nor.opSlot true = _
    rw [e, ← h]
    exact congrArg (fun t : State => t.verifyImage s.nor.opSlot true) e0
  · show ((State.copied _).norByte _).toNat = 0
    rw [e]; exact hg.2

/-- The image copied in `tCopy` verifies, and its security version is 0. -/
theorem tCopy_good : ((tCopy.copied.verifyImage tCopy.nor.opSlot true).isSome &&
    decide ((tCopy.copied.norByte (slotBase tCopy.nor.opSlot + 7)).toNat = 0)) = true := by decide +kernel

/-! ## Ill-formed terms are refused -/

theorem test_wf_addr : wellFormed (.registerWrite 0x1000000 0) = false ∧ wellFormed (.registerWrite 0xFFFFFC 0) = true := by decide
theorem test_wf_width : wellFormed (.bar0NarrowAccess 0 3 none) = false ∧ wellFormed (.bar0NarrowAccess 0 2 none) = true := by decide
theorem test_wf_page : wellFormed (.pageEnable 0x1000) = false ∧ wellFormed (.pageEnable 0xFFF) = true := by decide
theorem test_wf_offset : wellFormed (.shadowWrite 0x40 0x1000 0) = false := by decide
theorem test_wf_row : wellFormed (.rowRelease 0 0 128 false) = false := by decide
theorem test_wf_below : wellFormed (.rowRelease 64 0 0 false) = false := by decide
theorem test_wf_qp : wellFormed (.decision 0 0 0 0 0 52 false 0) = false := by decide
theorem test_wf_words : wellFormed (.mailbox 0 []) = false := by decide
theorem test_wf_temps : wellFormed (.sensorSample [] (List.replicate 10 0) 0) = false := by decide
theorem test_wf_volts : wellFormed (.sensorSample (List.replicate 12 0) [] 0) = false := by decide
theorem test_wf_devAddr : wellFormed (.flitCrcFail 0 0x1000000000 0) = false := by decide
theorem test_wf_aperture : wellFormed (.bar2Access 0x10000000 4 none) = false := by decide

/-! ## Examples of the spec -/

def tNine : List Byte := [0x31, 0x32, 0x33, 0x34, 0x35, 0x36, 0x37, 0x38, 0x39]

/-- The check values of R401's table. -/
theorem test_check_values :
    checkValue 8 0x07 0 false false false tNine = 0xF4 ∧ crc16Xmodem tNine = 0x31C3 ∧ crc16 tNine = 0x29B1 ∧
    checkValue 16 0x1021 0 true true false tNine = 0x2189 ∧ checkValue 16 0x8005 0 true true false tNine = 0xBB3D ∧
    checkValue 24 0x864CFB 0xB704CE false false false tNine = 0x21CF02 := by decide +kernel

theorem test_check_values_wide :
    crc32 tNine = 0xCBF43926 ∧ crc32Mpeg tNine = 0x0376E6E7 ∧
    checkValue 32 0x1EDC6F41 0xFFFFFFFF true true true tNine = 0xE3069283 ∧ crc64 tNine = 0x995DC9BBDF1939FA := by decide +kernel

/-- The reason codes that the chapters give as examples (R57). -/
theorem test_reason_codes :
    reasonCode Cls.range .time 0x13 = 0x10D3 ∧ reasonCode Cls.capacity .chan 0x0A = 0x260A ∧
    reasonCode Cls.conflict .ipin 0x12 = 0x44D2 ∧ reasonCode Cls.range .rope 0x10 = 0x1350 ∧ reasonCode Cls.range .chan 0x25 = 0x1625 ∧
    reasonCode Cls.conflict .lane 0x13 = 0x4413 ∧ reasonCode Cls.conflict .chk 0x12 = 0x4752 ∧ reasonCode Cls.range .mgmt 0x12 = 0x1192 := by
  decide +kernel

/-- R198's examples of an 8K VVC row of 120 CTUs. -/
theorem test_floor_rows :
    (⟨3, 0, 1, false, 1, 0, 0, [], false, false, []⟩ : PicForm).floorRest 0 120 0 = 8496 ∧
    (⟨3, 0, 1, true, 1, 0, 0, [], false, false, []⟩ : PicForm).floorRest 0 120 0 = 25416 ∧
    (⟨0, 0, 1, false, 1, 0, 0, [], false, false, []⟩ : PicForm).floorRest 0 120 0 = 23256 := by decide +kernel

/-- R199's example of drow. -/
theorem test_drow : rateBits 5000000 948148148 1 = 4740 := by decide +kernel

/-- R229's example: a luma block that is not block 0 and holds x(i, j) = 500 + i. -/
theorem test_squeeze_ramp :
    blockEntry false 1 ((List.range 128).map fun q => 500 + q % 16) = 1 ∧
    (blockStored false 1 [] ((List.range 128).map fun q => 500 + q % 16)).take 16 =
      [0x05, 0x00, 0x00, 0x00, 0x57, 0x08, 0x21, 0x84, 0x10, 0x42, 0x08, 0x21, 0x84, 0x10, 0x00, 0x00] := by decide +kernel

/-- R270's example: a primary with CAIRN_ID 1, claim 3, IN_STEP. -/
def tCairn : State :=
  ((((((tSvc.on pPAIR).setFld pPAIR F.PAIR.PAIR_CFG_CAIRN_EN 1).setFld pPAIR F.PAIR.PAIR_CFG_CAIRN_ID 1).setFld pPAIR F.PAIR.CLAIM 3).setFld
    pPAIR F.PAIR.PAIR_STATUS_STEP 2).setFld pPAIR F.PAIR.PAIR_CFG_ROLE 1)

theorem test_cairn : tCairn.extension 0 0 false false =
    [0xBE, 0xDE, 0x00, 0x02, 0x14, 0x00, 0x00, 0x00, 0x03, 0xC0, 0x00, 0x00] := by decide +kernel

/-! ## Single steps -/

/-- The fields of the next state, if there is one. -/
def shows (f : State → Nat) (o : Out) : Option Nat :=
  match o with
  | .next t => some (f t)
  | _ => none

/-- A step takes the front of the queue. -/
theorem test_step_takes_front : shows (·.pending.length) (step { State.reset with pending := [.thermtrip, .mboxSend] }) = some 1 := by
  decide +kernel

/-- R250's example: SW_SET written with 0x0EC records 0x11D1. -/
theorem test_swSet_reserved : shows (·.fld pINTC F.PAGE_REASON_CODE) (exec (.swSet 0xEC) (tSvc.on pINTC)) = some 0x11D1 := by decide +kernel

/-- R446's example: TAIL written 17 ahead of DONE on a ring of 16 records 0x12D1. -/
theorem test_tail_range : shows (·.fld (pDMA 0) F.PAGE_REASON_CODE)
    (exec (.tailWrite 0 17 []) ((tSvc.on (pDMA 0)).setFld (pDMA 0) F.DMA.RING_CFG_LOG2_SIZE 4)) = some 0x12D1 := by decide +kernel

/-- A tick adds 12 root cycles and INCR, here 0x0200_0000, which is 2 ns (R58, R60, R62). -/
theorem test_tick : shows (fun t => t.time.root * 10000 + t.now) (step tRun) = some (12 * 10000 + 1002) := by decide +kernel

/-- A RO register keeps its value whatever is written (R6). -/
theorem test_ro_write : shows (·.fld pSYS F.PAGE_ID / 2 ^ 24) (exec (.registerWrite (pSYS * 0x1000) 0xFFFFFFFF) tSvc) = some 2 := by decide +kernel

/-- No word spells a command, so the queue stays empty. -/
theorem test_no_words : decodeTableWord 32 0 = none ∧ (State.reset.withFetchWord 32 0).pending = [] := by decide +kernel

/-- R58, R60: at the image's multiplier CLK_STATUS reads 240 and locked, and 0 in ROOT_LOCK while the PLL is out of lock. -/
theorem test_clk_status : ({ State.reset with boot := { State.reset.boot with mult := 240 } } : State).clkStatus.reg
    (F.TIME.CLK_STATUS.addr pTIME) = 0xF001#32 ∧ ({ State.reset with boot := { State.reset.boot with mult := 120, rootHeld := true } }
    : State).clkStatus.reg (F.TIME.CLK_STATUS.addr pTIME) = 0x7800#32 := by decide +kernel

/-- R310: FILL_COUNT wraps in each half. -/
theorem test_fill_count : ((State.reset.ropeCounts 40000 1 0).ropeCounts 40000 1 0).reg (F.ROPE.FILL_COUNT.addr pROPE) =
    0x23880#32 := by decide +kernel


/-- FIPS 180-4's example for SHA-384: the digest of "abc". -/
theorem test_sha384 : shaWord (sha384 [0x61, 0x62, 0x63]) =
    0xCB00753F45A35E8BB5A03D699AC65007272C32AB0EDED1631A8B605A43FF5BED8086072BA1E7CC2358BAECA134C825A7 := by decide +kernel

/-- R186's examples: QP 12 and QP 51. -/
theorem test_lambda : lamQ8 12 = 145 ∧ lamSatdQ8 12 = 192 ∧ lamQ8 51 = 1195520 := by decide +kernel

/-- The example below R119: a position straight, and the same pixel stored pre-multiplied. -/
theorem test_blend : blend false 700 940 800 900 64 = 865 ∧ blend false 400 512 800 900 512 = 477 ∧
    blend false 600 512 800 900 512 = 539 ∧ blend true 700 749 800 900 64 = 865 := by decide +kernel

/-- The example below R143: t_row, t_code and D_min of an 8K120 channel. -/
theorem test_timetable : tRow 120 1 4320 = 118518518 ∧ tCode 120 = 409600000 ∧ dMin 120 (tRow 120 1 4320) = 6 := by decide +kernel

/-! ## A state and operands that meet the hypotheses of every statement -/

theorem witness_StepRunsTheFrontCommand :
    ∃ (c : Instr) (r : List Instr) (s : State), s.pending = c :: r := ⟨.thermtrip, [.thermtrip], { State.reset with pending := [.thermtrip, .thermtrip] }, by decide +kernel⟩

theorem witness_EmptyQueueLetsTheClocksTick_1 :
    ∃ (s : State), s.pending = [] ∧ s.boot.rootHeld = true := ⟨{ State.reset with boot := { BootState.reset with rootHeld := true } }, by decide +kernel⟩

theorem witness_EmptyQueueLetsTheClocksTick_2 :
    ∃ (s : State), s.pending = [] ∧ s.boot.rootHeld = false ∧ s.time.starting = false ∧ s.running = false ∧ (∀ n, n < 16 →
      (Tab.get .reset s.time.cmp n).fresh = false) := ⟨State.reset, by decide +kernel⟩

theorem witness_EmptyQueueLetsTheClocksTick_3 :
    ∃ (s : State), s.pending = [] ∧ s.boot.rootHeld = false ∧ s.time.starting = false ∧ s.watch.clocksStopped = false ∧
      s.running = true ∧ s.fld pTIME F.TIME.SLEW_REMAIN = 0 ∧ s.time.acc.toNat + s.fld pTIME F.TIME.INCR < 2 ^ 88 ∧ (∀ n, n < 16
      → (Tab.get .reset s.time.cmp n).fresh = false) := ⟨tRun, by decide +kernel⟩

theorem witness_EmptyQueueLetsTheClocksTick_4 :
    ∃ (s : State), s.canonical = true ∧ s.pending = [] ∧ s.boot.rootHeld = false ∧ s.time.starting = true ∧ s.running = false ∧
      (∀ n, n < 16 → (Tab.get .reset s.time.cmp n).fresh = false) := ⟨{ State.reset with time := { TimeState.reset with starting := true } }, by decide +kernel⟩

theorem witness_EveryStepKeepsTheCanonicalForm :
    ∃ (s t : State), s.canonical = true ∧ step s = .next t := ⟨State.reset, State.reset.tick, rfl, rfl⟩

theorem witness_NoCommandStopsOrTouchesTheQueue_2 :
    ∃ (c : Instr) (s t : State), s.canonical = true ∧ exec c s = .next t := ⟨.thermtrip, State.reset, { State.reset with watch := { WatchState.reset with thermtrip := true } }, rfl, rfl⟩

theorem witness_FieldWritesReachOneFieldOnly_1 :
    ∃ (s : State) (f : Fld), s.canonical = true ∧ f.lo + f.w ≤ 32 := ⟨State.reset, ⟨0x100, 24, 8⟩, by decide +kernel⟩

theorem witness_FieldWritesReachOneFieldOnly_2 :
    ∃ (s : State) (f g : Fld), s.canonical = true ∧ f.lo + f.w ≤ 32 ∧ g.off = f.off ∧ (g.lo + g.w ≤ f.lo ∨ f.lo + f.w ≤ g.lo) := ⟨State.reset, ⟨0x100, 8, 8⟩, ⟨0x100, 16, 16⟩, by decide +kernel⟩

theorem witness_FieldWritesReachOneFieldOnly_3 :
    ∃ (s : State) (p a : Nat) (f : Fld), s.canonical = true ∧ a ≠ f.addr p := ⟨State.reset, 1, 0x1104, ⟨0x100, 0, 8⟩, by decide +kernel⟩

theorem witness_StoresReachTheirBytesOnly_1 :
    ∃ (s : State) (a b : Nat) (bs : List Byte), s.canonical = true ∧ a ≤ b ∧ b < a + bs.length := ⟨{ State.reset with mem := [(3, 7#8)], hostMem := [(3, 7#8)], norMem := [(3, 7#8)] }, 2, 3, [1#8, 0#8], by decide +kernel⟩

theorem witness_StoresReachTheirBytesOnly_2 :
    ∃ (s : State) (a b : Nat) (bs : List Byte), s.canonical = true ∧ (b < a ∨ a + bs.length ≤ b) := ⟨{ State.reset with mem := [(4, 7#8)], hostMem := [(4, 7#8)], norMem := [(4, 7#8)] }, 2, 4, [1#8, 0#8], by decide +kernel⟩

theorem witness_StoresReachTheirBytesOnly_3 :
    ∃ (s : State) (a b : Nat) (bs : List Byte), s.canonical = true ∧ a ≤ b ∧ b < a + bs.length := ⟨{ State.reset with mem := [(3, 7#8)], hostMem := [(3, 7#8)], norMem := [(3, 7#8)] }, 2, 3, [1#8, 0#8], by decide +kernel⟩

theorem witness_StoresReachTheirBytesOnly_4 :
    ∃ (s : State) (a b : Nat) (bs : List Byte), s.canonical = true ∧ (b < a ∨ a + bs.length ≤ b) := ⟨{ State.reset with mem := [(4, 7#8)], hostMem := [(4, 7#8)], norMem := [(4, 7#8)] }, 2, 4, [1#8, 0#8], by decide +kernel⟩

theorem witness_StoresReachTheirBytesOnly_5 :
    ∃ (s : State) (a b : Nat) (bs : List Byte), s.canonical = true ∧ a ≤ b ∧ b < a + bs.length := ⟨{ State.reset with mem := [(3, 7#8)], hostMem := [(3, 7#8)], norMem := [(3, 7#8)] }, 2, 3, [1#8, 0#8], by decide +kernel⟩

theorem witness_StoresReachTheirBytesOnly_6 :
    ∃ (s : State) (a b : Nat) (bs : List Byte), s.canonical = true ∧ (b < a ∨ a + bs.length ≤ b) := ⟨{ State.reset with mem := [(4, 7#8)], hostMem := [(4, 7#8)], norMem := [(4, 7#8)] }, 2, 4, [1#8, 0#8], by decide +kernel⟩

theorem witness_StoresReachTheirBytesOnly_7 :
    ∃ (s : State) (a b n : Nat), s.canonical = true ∧ a ≤ b ∧ b < a + n := ⟨{ State.reset with norMem := [(3, 7#8)] }, 2, 3, 2, by decide +kernel⟩

theorem witness_StoresReachTheirBytesOnly_8 :
    ∃ (s : State) (a b n : Nat), s.canonical = true ∧ (b < a ∨ a + n ≤ b) := ⟨{ State.reset with norMem := [(4, 7#8)] }, 2, 4, 2, by decide +kernel⟩

theorem witness_GovernorStagesWakeAndCool_1 :
    ∃ (s : State) (d : Nat), s.canonical = true ∧ s.works pPWR = true ∧ s.watch.clocksStopped = false ∧ s.wakeLeft + s.coolLeft
      > 0 ∧ s.core ≥ s.pwr.lastStage + 60 ∧ govDomains.find? (fun d => s.govWanted d && decide (s.govLevel d < govStages d)) =
      some d := ⟨((tSvc.on pPWR).govWant 3 true).clock 0 6000, 3, by decide +kernel⟩

theorem witness_GovernorStagesWakeAndCool_2 :
    ∃ (s : State) (d : Nat), s.canonical = true ∧ s.works pPWR = true ∧ s.watch.clocksStopped = false ∧ s.wakeLeft + s.coolLeft
      > 0 ∧ s.core ≥ s.pwr.lastStage + 60 ∧ govDomains.find? (fun d => s.govWanted d && decide (s.govLevel d < govStages d)) =
      none ∧ govDomains.reverse.find? (fun d => !s.govWanted d && decide (0 < s.govLevel d)) = some d := ⟨{ (tSvc.on pPWR).clock 0 6000 with pwr := { PwrState.reset with level := [(4, 16)] } }, 4, by decide +kernel⟩

theorem witness_GovernorStagesWakeAndCool_3 :
    ∃ (s : State) (t0 : Nat), s.works pPWR = true ∧ s.pwr.idleSince = some t0 ∧ s.boot.ps ≥ t0 + s.fld pPWR
      F.PWR.GOV_CFG_COOL_DELAY_MS * 1000000000 ∧ s.pictureIdle = true ∧ s.bit pPWR F.PWR.GOV_CFG_HOLD_WARM = false := ⟨{ (tSvc.on pPWR).clock 60000000000001 0 with pwr := { PwrState.reset with idleSince := some 1 } }, 1, by decide +kernel⟩

theorem witness_MemcRefreshAndTemperature_1 :
    ∃ (s : State) (n : Nat), n < 16 ∧ s.works (pMEMC n) = true ∧ s.memck ≥ (s.memcOf n).refiAt + s.refi n := ⟨(tSvc.on (pMEMC 15)).clock 0 46870, 15, by decide +kernel⟩

theorem witness_MemcRefreshAndTemperature_2 :
    ∃ (s : State) (n : Nat), n < 16 ∧ s.works (pMEMC n) = true ∧ s.fld (pMEMC n) F.MEMC.MEMC_STATUS_OWED > 0 ∧ s.requestWaits n
      = false ∧ s.bit (pMEMC n) F.MEMC.MEMC_STATUS_APPLY_PENDING = false ∧ s.canonical = true := ⟨(tSvc.on (pMEMC 0)).setFld (pMEMC 0) F.MEMC.MEMC_STATUS_OWED 3, 0, by decide +kernel⟩

theorem witness_MemcRefreshAndTemperature_3 :
    ∃ (s : State) (n code : Nat), n < 16 ∧ s.works (pMEMC n) = true ∧ s.boot.ps ≥ (s.memcOf n).pollAt ∧ code ≠ 0 := ⟨(tSvc.on (pMEMC 3)).clock 5 0, 3, 3, by decide +kernel⟩

theorem witness_MemcRefreshAndTemperature_4 :
    ∃ (s : State) (n : Nat), n < 16 ∧ s.works (pMEMC n) = true ∧ s.boot.ps ≥ (s.memcOf n).pollAt ∧ (s.memcOf n).mr4Bad = 0 := ⟨(tSvc.on (pMEMC 3)).clock 5 0, 3, by decide +kernel⟩

theorem witness_MemcRefreshAndTemperature_5 :
    ∃ (s : State) (n : Nat), n < 16 ∧ s.works (pMEMC n) = true ∧ s.fabric ≥ (s.memcOf n).windowAt + 1048576 ∧ (s.memcOf
      n).rereads ≤ s.fld (pMEMC n) F.MEMC.RR_CFG_RR_LIMIT := ⟨(tSvc.on (pMEMC 3)).clock 0 9000000, 3, by decide +kernel⟩

theorem witness_MemcDelaysAndProbes_1 :
    ∃ (s : State) (n : Nat), n < 16 ∧ s.bar (pMEMC n) = true ∧ s.nextInRange n = true ∧ s.bit (pMEMC n)
      F.MEMC.MEMC_STATUS_APPLY_PENDING = false := ⟨tSvc.on (pMEMC 15), 15, by decide +kernel⟩

theorem witness_MemcDelaysAndProbes_2 :
    ∃ (s : State) (n : Nat), n < 16 ∧ s.bar (pMEMC n) = true ∧ s.nextInRange n = true ∧ s.bit (pMEMC n)
      F.MEMC.MEMC_STATUS_APPLY_PENDING = true := ⟨(tSvc.on (pMEMC 0)).setFld (pMEMC 0) F.MEMC.MEMC_STATUS_APPLY_PENDING 1, 0, by decide +kernel⟩

theorem witness_MemcDelaysAndProbes_3 :
    ∃ (s : State) (n : Nat), n < 16 ∧ s.bar (pMEMC n) = true ∧ (s.memcOf n).probeLeft = 0 := ⟨tSvc.on (pMEMC 15), 15, by decide +kernel⟩

theorem witness_MemcDelaysAndProbes_4 :
    ∃ (s : State) (n : Nat), n < 16 ∧ (s.memcOf n).probeLeft > 1 ∧ s.boot.ps ≥ (s.memcOf n).slotAt + s.fld (pMEMC n)
      F.MEMC.STEAL_CFG_STEAL_NS * 1000 ∧ s.bit (pMEMC n) F.MEMC.PROBE_CFG_DIR = false ∧ (s.memcOf n).probeAbort = false := ⟨(tSvc.clock 1000000000 0).setMemc 0 { MemcState.reset with probeLeft := 2 }, 0, by decide +kernel⟩

theorem witness_MemcDelaysAndProbes_5 :
    ∃ (s : State) (n : Nat), n < 16 ∧ (s.memcOf n).probeLeft = 1 ∧ s.boot.ps ≥ (s.memcOf n).slotAt + s.fld (pMEMC n)
      F.MEMC.STEAL_CFG_STEAL_NS * 1000 ∧ s.bit (pMEMC n) F.MEMC.PROBE_CFG_DIR = false ∧ (s.memcOf n).probeAbort = false := ⟨(tSvc.clock 1000000000 0).setMemc 0 { MemcState.reset with probeLeft := 1 }, 0, by decide +kernel⟩

theorem witness_MemcDelaysAndProbes_6 :
    ∃ (s : State) (k : Nat) (v : Word), k < 16 ∧ s.bar (pMEMC 0) = true ∧ (∀ j, j < 4 → shedEntryOk (v.toNat / 256 ^ j % 256) =
      true) := ⟨tSvc.on (pMEMC 0), 15, 0xFF41403F#32, by decide +kernel⟩

theorem witness_MemcDelaysAndProbes_7 :
    ∃ (s : State) (n : Nat), n ≠ 0 ∧ s.bar (pMEMC n) = true := ⟨tSvc.on (pMEMC 1), 1, by decide +kernel⟩

theorem witness_MatrixQueuesBurstsAndErrors_1 :
    ∃ (s : State) (master addr : Nat), s.targetOf addr ≠ 63 ∧ allowed master (s.targetOf addr) = true := ⟨tSvc, 6, 0x800000000, by decide +kernel⟩

theorem witness_MatrixQueuesBurstsAndErrors_2 :
    ∃ (s : State) (addr : Nat), s.targetOf addr = 63 := ⟨tSvc, 0xFFFFFFFFF, by decide +kernel⟩

theorem witness_MatrixQueuesBurstsAndErrors_3 :
    ∃ (s : State) (b : Burst), s.mtx.waiting = [b] ∧ s.mtx.outstanding = [] ∧ s.fabric ≥ b.since + s.fld pMTX
      F.MTX.MTX_CFG_AGE_LIMIT ∧ b.fence = false ∧ b.aged = false := ⟨{ tSvc.clock 0 80000 with mtx := { MtxState.reset with waiting := [tBurst] } }, tBurst, by decide +kernel⟩

theorem witness_MatrixQueuesBurstsAndErrors_4 :
    ∃ (attempt : Nat), attempt < 4 := ⟨3, by decide⟩

theorem witness_MatrixQueuesBurstsAndErrors_5 :
    ∃ (s : State) (n : Nat) (b : Burst), n < 16 ∧ s.works (pMEMC n) = true ∧ s.memcBusy n = false ∧ s.mtx.waiting = [] ∧
      s.requestWaits n = true ∧ s.nextRequest n = some b ∧ b.data = none := ⟨{ tSvc.on (pMEMC 0) with mtx := { MtxState.reset with outstanding := [tBurst] } }, 0, tBurst, by decide +kernel⟩

theorem witness_MatrixQueuesBurstsAndErrors_6 :
    ∃ (s : State) (w r : Nat) (row : RegRow), w < 4 ∧ r < 5 ∧ s.bit pMTX (F.MTX.WP_CTRL_LOCK w) = false ∧ rowAt (pMTX * 0x1000 +
      0x200 + w * 0x20 + r * 4) = some row := ⟨tSvc, 3, 4, (rowAt (pMTX * 0x1000 + 0x200 + 3 * 0x20 + 4 * 4)).get (by decide +kernel), by decide +kernel⟩

theorem witness_MatrixQueuesBurstsAndErrors_7 :
    ∃ (s : State) (w r : Nat), w < 4 ∧ r < 6 ∧ s.bar pMTX = true := ⟨tSvc.on pMTX, 3, 5, by decide +kernel⟩

theorem witness_DmaRingsFetchCompleteAndOffer_1 :
    ∃ (s : State) (r : Nat) (v : Word), s.bar (pDMA r) = true ∧ sub32 v.toNat (s.fld (pDMA r) F.DMA.DONE) ≤ s.ringSize r ∧ sub32
      v.toNat (s.fld (pDMA r) F.DMA.DONE) ≥ sub32 (s.fld (pDMA r) F.DMA.TAIL) (s.fld (pDMA r) F.DMA.DONE) := ⟨tSvc.on (pDMA 255), 255, 16#32, by decide +kernel⟩

theorem witness_DmaRingsFetchCompleteAndOffer_2 :
    ∃ (s : State) (r : Nat) (v : Word), s.bar (pDMA r) = true ∧ sub32 v.toNat (s.fld (pDMA r) F.DMA.DONE) > s.ringSize r := ⟨tSvc.on (pDMA 0), 0, 17#32, by decide +kernel⟩

theorem witness_DmaRingsFetchCompleteAndOffer_3 :
    ∃ (s : State) (r : Nat), s.isOn (pDMA r) = true ∧ toDevice (s.fld (pDMA r) F.DMA.RING_CFG_ROLE) = true ∧ (s.ringOf
      r).fetched.length < 8 ∧ s.fld (pDMA r) F.DMA.HEAD ≠ s.fld (pDMA r) F.DMA.TAIL := ⟨((tSvc.on (pDMA 9)).setFld (pDMA 9) F.DMA.RING_CFG_ROLE 7).setFld (pDMA 9) F.DMA.TAIL 2, 9, by decide +kernel⟩

theorem witness_DmaRingsFetchCompleteAndOffer_4 :
    ∃ (s : State) (r : Nat) (d : DmaDesc) (l : List DmaDesc), s.works (pDMA r) = true ∧ (s.ringOf r).fetched = d :: l ∧
      d.invalid = true := ⟨(tSvc.on (pDMA 9)).setRing 9 { RingState.reset with fetched := [tDesc true] }, 9, tDesc true, [], by decide +kernel⟩

theorem witness_DmaRingsFetchCompleteAndOffer_5 :
    ∃ (s : State) (r : Nat) (d : DmaDesc) (l : List DmaDesc), s.works (pDMA r) = true ∧ (s.ringOf r).fetched = d :: l ∧
      d.invalid = false ∧ d.hostErr = false ∧ s.fld (pDMA r) F.DMA.RING_CFG_ROLE ≠ 3 ∧ d.sop = false ∧ d.eop = false ∧ (s.ringOf
      r).inRecord = true ∧ (s.ringOf r).discard = false := ⟨(tSvc.on (pDMA 9)).setRing 9 { RingState.reset with fetched := [tDesc false], inRecord := true }, 9, tDesc false, [], by decide +kernel⟩

theorem witness_DmaRingsFetchCompleteAndOffer_6 :
    ∃ (s : State) (r : Nat) (rec : List Byte), r < 256 ∧ s.isOn (pDMA r) = true ∧ toDevice (s.fld (pDMA r) F.DMA.RING_CFG_ROLE)
      = false ∧ s.chkOf r = none ∧ s.roomFor r (sub32 (s.fld (pDMA r) F.DMA.TAIL) (s.fld (pDMA r) F.DMA.HEAD)) rec.length (s.fld
      (pDMA r) F.DMA.HEAD) = none ∧ rec.length ≤ s.ringSize r * 65536 := ⟨(tSvc.on (pDMA 9)).setFld (pDMA 9) F.DMA.RING_CFG_ROLE 8, 9, [1], by decide +kernel⟩

theorem witness_DmaRingsFetchCompleteAndOffer_7 :
    ∃ (s : State) (r : Nat) (rec : List Byte) (ds : List DmaDesc), r < 256 ∧ s.isOn (pDMA r) = true ∧ toDevice (s.fld (pDMA r)
      F.DMA.RING_CFG_ROLE) = false ∧ s.chkOf r = none ∧ s.roomFor r (sub32 (s.fld (pDMA r) F.DMA.TAIL) (s.fld (pDMA r)
      F.DMA.HEAD)) rec.length (s.fld (pDMA r) F.DMA.HEAD) = some ds := ⟨((tSvc.tRing 9).setFld (pDMA 9) F.DMA.RING_CFG_ROLE 8), 9, [1], _, by decide, by decide +kernel, by decide +kernel, by decide +kernel, rfl⟩

theorem witness_DmaRingsFetchCompleteAndOffer_8 :
    ∃ (s : State) (r c : Nat) (rec : List Byte) (ds : List DmaDesc), r < 256 ∧ s.isOn (pDMA r) = true ∧ toDevice (s.fld (pDMA r)
      F.DMA.RING_CFG_ROLE) = false ∧ s.chkOf r = some c ∧ s.fld (pDMA r) F.DMA.RING_CFG_ROLE = 8 ∧ (s.chkAppend c rec).1.roomFor
      r (sub32 (s.fld (pDMA r) F.DMA.TAIL) (s.fld (pDMA r) F.DMA.HEAD)) (s.chkAppend c rec).2.length (s.fld (pDMA r) F.DMA.HEAD)
      = some ds := ⟨(((tSvc.tRing 9).setFld (pDMA 9) F.DMA.RING_CFG_ROLE 8).on (pCHK 0)).setFld (pCHK 0) F.CHK.CHK_CFG_RING 9, 9, 0x13C, [1], _, by decide, by decide +kernel, by decide +kernel, by decide +kernel, by decide +kernel, rfl⟩

theorem witness_DmaRingsFetchCompleteAndOffer_9 :
    ∃ (s : State) (r : Nat), (toDevice (s.fld (pDMA r) F.DMA.RING_CFG_ROLE) = true ∨ s.isOn (pDMA r) = false) := ⟨tSvc, 255, by decide +kernel⟩

theorem witness_DmaRingsFetchCompleteAndOffer_10 :
    ∃ (d : DmaDesc), d.invalid = false := ⟨tDesc false, rfl⟩

theorem witness_DmaRingsFetchCompleteAndOffer_11 :
    ∃ (s : State) (r t0 : Nat), (s.ringOf r).oldest = some t0 ∧ s.fld (pDMA r) F.DMA.COAL_TIME_US ≠ 0 ∧ s.now ≥ t0 + s.fld (pDMA
      r) F.DMA.COAL_TIME_US * 1000 := ⟨((tSvc.ticking 9000).setFld (pDMA 9) F.DMA.COAL_TIME_US 8).setRing 9 { RingState.reset with oldest := some 1000 }, 9, 1000, by decide +kernel⟩

theorem witness_HostLinkAndApertureCommands_1 :
    ∃ (s : State), s.bar pHOST = true ∧ s.bit pHOST F.HOST.LINK_STATUS_RETRAINING = false := ⟨tSvc.on pHOST, by decide +kernel⟩

theorem witness_HostLinkAndApertureCommands_2 :
    ∃ (s : State), s.bar pHOST = true ∧ s.bit pHOST F.HOST.LINK_STATUS_RETRAINING = true := ⟨(tSvc.on pHOST).setFld pHOST F.HOST.LINK_STATUS_RETRAINING 1, by decide +kernel⟩

theorem witness_HostLinkAndApertureCommands_3 :
    ∃ (s u : State) (lanes speed w : Nat), s.boot.pcieTraining = true ∧ s.boot.rootHeld = false ∧ 1 ≤ speed ∧ speed ≤ 5 ∧ w =
      linkWidth (s.hostWorking lanes) ∧ u = ((List.range 8).foldl (fun t i => t.hostLaneTrained w (s.hostWorking lanes) i)
      (s.setFld pHOST F.HOST.LINK_STATUS_RETRAINING 0)) ∧ w = 0 := ⟨tPcie, _, 254, 1, _, by decide +kernel, by decide +kernel, by decide, by decide, rfl, rfl, by decide +kernel⟩

theorem witness_HostLinkAndApertureCommands_4 :
    ∃ (s u : State) (lanes speed w : Nat), s.boot.pcieTraining = true ∧ s.boot.rootHeld = false ∧ 1 ≤ speed ∧ speed ≤ 5 ∧ w =
      linkWidth (s.hostWorking lanes) ∧ u = ((List.range 8).foldl (fun t i => t.hostLaneTrained w (s.hostWorking lanes) i)
      (s.setFld pHOST F.HOST.LINK_STATUS_RETRAINING 0)) ∧ w ≠ 0 := ⟨((List.range 8).foldl (fun t i => t.on (hostLane i)) tPcie), _, 255, 5, _, by decide +kernel, by decide +kernel, by decide, by decide, rfl, rfl, by decide +kernel⟩

theorem witness_HostLinkAndApertureCommands_5 :
    ∃ (s : State) (speed : Nat), (s.boot.pcieTraining = false ∨ s.boot.rootHeld = true ∨ speed = 0 ∨ 5 < speed) := ⟨tSvc, 6, by decide⟩

theorem witness_HostLinkAndApertureCommands_6 :
    ∃ (s : State) (w lanes i : Nat), s.hostLaneWorks i = true ∧ i < w ∧ s.laneState (hostLane i) = laTrain := ⟨tHostLane, 8, 255, 7, by decide +kernel⟩

theorem witness_HostLinkAndApertureCommands_7 :
    ∃ (s : State) (w lanes i : Nat), s.hostLaneWorks i = true ∧ w ≤ i ∧ s.laneState (hostLane i) = laTrain ∧ hasLane lanes i =
      false := ⟨tHostLane, 4, 127, 7, by decide +kernel⟩

theorem witness_HostLinkAndApertureCommands_8 :
    ∃ (s u : State) (w speed : Nat), s.bit pHOST F.HOST.LINK_STATUS_DL_UP = false ∧ s.fld pHOST F.HOST.LINK_STATUS_WIDTH = 0 ∧
      s.fld pHOST F.HOST.LINK_STATUS_SPEED = 0 ∧ u = (((((s.setFld pHOST F.HOST.LINK_STATUS_WIDTH w).setFld pHOST
      F.HOST.LINK_STATUS_SPEED speed).setFld pHOST F.HOST.LANES_OK (2 ^ w - 1)).setFld pHOST F.HOST.LINK_STATUS_DL_UP 1).raise
      pHOST F.HOST.intLINK_UP) := ⟨tPcie, _, 8, 5, by decide +kernel, by decide +kernel, by decide +kernel, rfl⟩

theorem witness_HostLinkAndApertureCommands_9 :
    ∃ (s : State) (off len : Nat), s.served pHOST = true ∧ s.readStatus mHOST_IN (s.addr36 pHOST F.HOST.APERTURE_BASE_LO + off)
      len = .ok := ⟨(tSvc.on pHOST).put64 pHOST F.HOST.APERTURE_BASE_LO 0, 0x0FFFFFFC, 4, by decide +kernel⟩

theorem witness_HostLinkAndApertureCommands_10 :
    ∃ (s : State), s.bit pHOST F.HOST.HOST_CFG_AP_WRITE_EN = false := ⟨tSvc, by decide +kernel⟩

theorem witness_HostLinkAndApertureCommands_11 :
    ∃ (s : State) (v : Word), s.bar pHOST = true ∧ v.toNat % 2 ^ 28 = 0 := ⟨tSvc.on pHOST, 0xF0000000#32, by decide +kernel⟩

theorem witness_HostLinkAndApertureCommands_12 :
    ∃ (s : State) (v : Word), s.bar pHOST = true ∧ v.toNat % 2 ^ 28 ≠ 0 := ⟨tSvc.on pHOST, 0x08000000#32, by decide +kernel⟩

theorem witness_ClaimPushesTheSourceOnTheStack_1 :
    ∃ (s : State) (t n : Nat), t < 73 ∧ (s.bar pINTC = true ∨ 64 ≤ t) ∧ s.claimSource t = some n := ⟨tIrq, 72, 0x400, by decide +kernel⟩

theorem witness_ClaimPushesTheSourceOnTheStack_2 :
    ∃ (s : State) (t n p : Nat) (rest : List (Nat × Nat)), s.stack t = (n, p) :: rest := ⟨{ State.reset with intc := { IntcState.reset with inService := [(3, [(5, 31)])] } }, 3, 5, 31, [], by decide +kernel⟩

theorem witness_ClaimPushesTheSourceOnTheStack_3 :
    ∃ (s : State) (t : Nat), s.stack t = [] := ⟨State.reset, 72, by decide +kernel⟩

theorem witness_InterruptSourcesAndTargets_1 :
    ∃ (s : State) (n : Nat), s.bar pINTC = true ∧ isSoft n = true ∧ s.srcState n = siIdle := ⟨tSvc.on pINTC, 0x7FE, by decide +kernel⟩

theorem witness_InterruptSourcesAndTargets_2 :
    ∃ (s : State) (n : Nat), s.bar pINTC = true ∧ isSoft n = true ∧ s.srcState n = siPending := ⟨(tSvc.on pINTC).setFld pST (F.SRCTAB.SRC_CTRL_STATE 0x400) 1, 0x400, by decide +kernel⟩

theorem witness_InterruptSourcesAndTargets_3 :
    ∃ (s : State) (n : Nat), s.bar pINTC = true ∧ n < 0x400 := ⟨tSvc.on pINTC, 0x3FF, by decide +kernel⟩

theorem witness_InterruptSourcesAndTargets_4 :
    ∃ (s : State) (p : Nat), p < 0x400 ∧ s.works pINTC = true ∧ s.srcLine p = true ∧ s.bit pST (F.SRCTAB.SRC_CTRL_PEND p) =
      false ∧ s.srcState p = siIdle := ⟨(((tSvc.on pINTC).raise 1 8).setReg 0x1024 0xFFFFFFFF#32), 1, by decide +kernel⟩

theorem witness_InterruptSourcesAndTargets_5 :
    ∃ (s : State) (n : Nat) (v : Word), s.bar pINTC = true ∧ n < 0x7FF ∧ isSoft n = true ∧ v.toNat % 2 = 0 ∧ s.srcState n =
      siCommitted := ⟨(tSvc.on pINTC).setFld pST (F.SRCTAB.SRC_CTRL_STATE 0x400) 2, 0x400, 0x100#32, by decide +kernel⟩

theorem witness_InterruptSourcesAndTargets_6 :
    ∃ (s : State), s.intc.routedAt = some s.fabric := ⟨{ tIrq with intc := { tIrq.intc with routedAt := some 0 } }, by decide +kernel⟩

theorem witness_InterruptSourcesAndTargets_7 :
    ∃ (s u : State) (bad : List Nat) (n : Nat), s.works pINTC = true ∧ s.intc.routedAt ≠ some s.fabric ∧ (∀ m, m ∈ allSources →
      s.srcState m ≠ siCommitted) ∧ u = { s with intc := { s.intc with routedAt := some s.fabric } } ∧ u.urgent u.routable =
      some n ∧ (u.routeOne bad n).urgent (u.routeOne bad n).routable = none := ⟨tIrq, _, [], 0x400, by decide +kernel, by decide +kernel, by decide +kernel, rfl, by decide +kernel, by decide +kernel⟩

theorem witness_InterruptSourcesAndTargets_8 :
    ∃ (s : State) (t n p : Nat) (rest : List (Nat × Nat)), t < 73 ∧ (s.bar pINTC = true ∨ 64 ≤ t) ∧ n < 2048 ∧ s.stack t = (n,
      p) :: rest := ⟨{ State.reset with intc := { IntcState.reset with inService := [(72, [(0x400, 31)])] } }, 72, 0x400, 31, [], by decide +kernel⟩

theorem witness_InterruptSourcesAndTargets_9 :
    ∃ (s : State) (t : Nat), t < 73 ∧ (s.bar pINTC = true ∨ 64 ≤ t) ∧ s.stack t = [] := ⟨State.reset, 64, by decide +kernel⟩

theorem witness_InterruptSourcesAndTargets_10 :
    ∃ (s u : State) (v : Nat), s.bar pHOST = true ∧ v < 64 ∧ u = s.setFld pHOST (F.HOST.MSIX_CTRL_MASK v) 0 ∧ (u.bit pHOST
      (pbaBit v) = false ∨ u.vecMasked v = true) := ⟨tSvc.on pHOST, _, 63, by decide +kernel, by decide, rfl, by decide +kernel⟩

theorem witness_InterruptSourcesAndTargets_11 :
    ∃ (s u : State) (v : Nat), s.bar pHOST = true ∧ v < 64 ∧ u = s.setFld pHOST (F.HOST.MSIX_CTRL_MASK v) 0 ∧ u.bit pHOST
      (pbaBit v) = true ∧ u.vecMasked v = false := ⟨((tSvc.on pHOST).setFld pHOST (pbaBit 63) 1).setFld pHOST F.HOST.LINK_STATUS_DL_UP 1, _, 63, by decide +kernel, by decide, rfl, by decide +kernel, by decide +kernel⟩

theorem witness_IncrementsAndSlews_1 :
    ∃ (s : State) (v : Word), s.bar pTIME = true ∧ (v.toNat < 0x00800000 ∨ 0x02000000 < v.toNat) := ⟨tSvc.on pTIME, 0x2000001#32, by decide +kernel⟩

theorem witness_IncrementsAndSlews_2 :
    ∃ (s : State) (v : Word), s.bar pTIME = true ∧ s.allGrpOff = false ∧ 0x00800000 ≤ v.toNat ∧ v.toNat ≤ 0x02000000 ∧ (v.toNat
      < 0x00FFE000 ∨ 0x01002000 < v.toNat) := ⟨(tSvc.on pTIME).on (pGRP 7), 0x00FFDFFF#32, by decide +kernel⟩

theorem witness_IncrementsAndSlews_3 :
    ∃ (s : State) (v : Word), s.bar pTIME = true ∧ 0x00800000 ≤ v.toNat ∧ v.toNat ≤ 0x02000000 ∧ (s.allGrpOff = true ∨
      (0x00FFE000 ≤ v.toNat ∧ v.toNat ≤ 0x01002000)) ∧ s.fld pTIME F.TIME.SLEW_REMAIN = 0 := ⟨tSvc.on pTIME, 0x00800000#32, by decide +kernel⟩

theorem witness_IncrementsAndSlews_4 :
    ∃ (s : State) (v : Word), s.bar pTIME = true ∧ 0x00800000 ≤ v.toNat ∧ v.toNat ≤ 0x02000000 ∧ (s.allGrpOff = true ∨
      (0x00FFE000 ≤ v.toNat ∧ v.toNat ≤ 0x01002000)) ∧ s.fld pTIME F.TIME.SLEW_REMAIN > 0 := ⟨((tSvc.on pTIME).on (pGRP 0)).setFld pTIME F.TIME.SLEW_REMAIN 1, 0x01002000#32, by decide +kernel⟩

theorem witness_IncrementsAndSlews_5 :
    ∃ (s : State) (v : Word), s.bar pTIME = true ∧ 0x00800000 ≤ v.toNat ∧ v.toNat ≤ 0x02000000 ∧ (s.allGrpOff = true ∨
      (0x00FFE000 ≤ v.toNat ∧ v.toNat ≤ 0x01002000)) := ⟨tSvc.on pTIME, 0x02000000#32, by decide +kernel⟩

theorem witness_IncrementsAndSlews_6 :
    ∃ (s : State), s.bar pTIME = true ∧ s.works pTIME = true ∧ (s.allGrpOff = true ∨ incrInWindow (s.fld pTIME F.TIME.SLEW_INCR)
      = true) ∧ s.fld pTIME F.TIME.SLEW_TICKS > 0 ∧ (s.running = false ∨ s.fld pTIME F.TIME.SLEW_REMAIN ≠ 1) := ⟨(tSvc.on pTIME).setFld pTIME F.TIME.SLEW_TICKS 1, by decide +kernel⟩

theorem witness_IncrementsAndSlews_7 :
    ∃ (s : State), s.bar pTIME = true ∧ s.works pTIME = true ∧ (s.allGrpOff = true ∨ incrInWindow (s.fld pTIME F.TIME.SLEW_INCR)
      = true) ∧ s.running = true ∧ s.fld pTIME F.TIME.SLEW_REMAIN = 1 := ⟨(tSvc.ticking 0).setFld pTIME F.TIME.SLEW_REMAIN 1, by decide +kernel⟩

theorem witness_IncrementsAndSlews_8 :
    ∃ (s : State), s.time.slewEnded = true := ⟨{ tSvc.setFld pTIME F.TIME.SLEW_REMAIN 9 with time := { TimeState.reset with slewEnded := true } }, by decide +kernel⟩

theorem witness_IncrementsAndSlews_9 :
    ∃ (s : State) (v : Word), s.canonical = true ∧ s.pending = [] ∧ s.boot.rootHeld = false ∧ s.time.starting = false ∧
      s.watch.clocksStopped = false ∧ s.running = true ∧ s.fld pTIME F.TIME.SLEW_REMAIN = 1 ∧ s.time.incrPending = some v ∧ (∀
      n, n < 16 → (Tab.get .reset s.time.cmp n).fresh = false) := ⟨{ (tSvc.ticking 9).setFld pTIME F.TIME.SLEW_REMAIN 1 with time := { TimeState.reset with incrPending := some 0x1000001#32 } }, 0x1000001#32, by decide +kernel⟩

theorem witness_CounterLoadsOnlyAtEnable_1 :
    ∃ (s : State), s.bar pTIME = true ∧ s.st pTIME = stOff := ⟨tSvc, by decide +kernel⟩

theorem witness_CounterLoadsOnlyAtEnable_2 :
    ∃ (s : State), s.bar pTIME = true ∧ s.st pTIME = stOff := ⟨tSvc, by decide +kernel⟩

theorem witness_CounterLoadsOnlyAtEnable_3 :
    ∃ (s : State), s.bar pTIME = true ∧ s.st pTIME = stOff := ⟨tSvc, by decide +kernel⟩

theorem witness_CounterLoadsOnlyAtEnable_4 :
    ∃ (s : State) (r : Nat), s.bar pTIME = true ∧ s.st pTIME ≠ stOff ∧ r < 3 := ⟨tSvc.inState pTIME 3, 2, by decide +kernel⟩

theorem witness_CounterLoadsOnlyAtEnable_5 :
    ∃ (s u : State) (v : Word), s.bar pTIME = true ∧ s.st pTIME ≠ stOff ∧ F.TIME.TIME_CFG_LOAD_MODE.of v ≠ s.fld pTIME
      F.TIME.TIME_CFG_LOAD_MODE ∧ u = (s.setFld pTIME F.TIME.TIME_CFG_PPS_OUT_EN (F.TIME.TIME_CFG_PPS_OUT_EN.of v)).setFld pTIME
      F.TIME.TIME_CFG_PPS_WIDTH (F.TIME.TIME_CFG_PPS_WIDTH.of v) := ⟨tSvc.on pTIME, _, 1#32, by decide +kernel, by decide +kernel, by decide +kernel, rfl⟩

theorem witness_CounterLoadsOnlyAtEnable_6 :
    ∃ (s : State), s.isOn pTIME = true ∧ s.time.waitPps = true := ⟨{ tSvc.on pTIME with time := { TimeState.reset with waitPps := true } }, by decide +kernel⟩

theorem witness_CounterLoadsOnlyAtEnable_7 :
    ∃ (s : State), s.time.waitPps = false := ⟨tSvc, by decide +kernel⟩

theorem witness_CounterLoadsOnlyAtEnable_8 :
    ∃ (s : State), s.running = true := ⟨tSvc.ticking 7, by decide +kernel⟩

theorem witness_CounterLoadsOnlyAtEnable_9 :
    ∃ (s : State), s.running = false := ⟨tSvc, by decide +kernel⟩

theorem witness_CounterLoadsOnlyAtEnable_10 :
    ∃ (s : State), s.bit pTIME F.TIME.TIME_STATUS_PPS_SEEN = true ∧ s.time.ppsEdge + 1100000000 ≤ s.now := ⟨(tSvc.ticking 1100000000).setFld pTIME F.TIME.TIME_STATUS_PPS_SEEN 1, by decide +kernel⟩

theorem witness_CounterLoadsOnlyAtEnable_11 :
    ∃ (s : State), s.st pTIME = stDraining ∧ s.allGrpOff = true := ⟨(tSvc.inState (pGRP 7) 5).inState pTIME 3, by decide +kernel⟩

theorem witness_CounterLoadsOnlyAtEnable_12 :
    ∃ (s : State), s.allGrpOff = false := ⟨tSvc.on (pGRP 0), by decide +kernel⟩

theorem witness_ComparesArmBindAndFire_1 :
    ∃ (s : State), s.bar pTIME = true := ⟨tSvc.on pTIME, by decide +kernel⟩

theorem witness_ComparesArmBindAndFire_2 :
    ∃ (s : State) (n : Nat), s.bar pTIME = true ∧ n < 15 ∧ s.cmpBound n = true := ⟨((tSvc.on pTIME).on (pGRP 2)).setReg ((F.TIME.CMP_CTRL 14).addr pTIME) 0x2023#32, 14, by decide +kernel⟩

theorem witness_ComparesArmBindAndFire_3 :
    ∃ (s : State) (n : Nat) (v : Word), s.bar pTIME = true ∧ n < 15 ∧ s.cmpBound n = false ∧ v.toNat % 2 = 0 := ⟨tSvc.on pTIME, 14, 0xFFFFFFFE#32, by decide +kernel⟩

theorem witness_ComparesArmBindAndFire_4 :
    ∃ (s : State) (n c d : Nat) (v : Word), s.bar pTIME = true ∧ n < 15 ∧ s.cmpBound n = false ∧ v.toNat % 2 = 1 ∧ ((s.setReg
      ((F.TIME.CMP_CTRL n).addr pTIME) (cmpCtrlFields v)).setCmp n { s.cmpOf n with fresh := false, late := none }).armCheck n =
      some (c, d) := ⟨tSvc.on pTIME, 0, 1, 4, 0x71#32, by decide +kernel⟩

theorem witness_ComparesArmBindAndFire_5 :
    ∃ (s : State) (n : Nat) (v : Word), s.bar pTIME = true ∧ n < 15 ∧ s.cmpBound n = false ∧ v.toNat % 2 = 1 ∧ ((s.setReg
      ((F.TIME.CMP_CTRL n).addr pTIME) (cmpCtrlFields v)).setCmp n { s.cmpOf n with fresh := false, late := none }).armCheck n =
      none ∧ ((s.setReg ((F.TIME.CMP_CTRL n).addr pTIME) (cmpCtrlFields v)).setCmp n
      { s.cmpOf n with fresh := false, late := none }).fld pTIME (F.TIME.CMP_CTRL_MODE n) = 0 := ⟨((tSvc.on pTIME).setFld pTIME (F.TIME.RATE_NUM_NUM 14) 1).setFld pTIME (F.TIME.RATE_DEN_DEN 14) 1, 14, 0x11#32, by decide +kernel⟩

theorem witness_ComparesArmBindAndFire_6 :
    ∃ (s : State) (n : Nat) (v : Word), s.bar pTIME = true ∧ n < 15 ∧ s.cmpBound n = false ∧ v.toNat % 2 = 1 ∧ ((s.setReg
      ((F.TIME.CMP_CTRL n).addr pTIME) (cmpCtrlFields v)).setCmp n { s.cmpOf n with fresh := false, late := none }).armCheck n =
      none ∧ ((s.setReg ((F.TIME.CMP_CTRL n).addr pTIME) (cmpCtrlFields v)).setCmp n
      { s.cmpOf n with fresh := false, late := none }).fld pTIME (F.TIME.CMP_CTRL_MODE n) = 1 := ⟨((tSvc.ticking 5).setFld pTIME (F.TIME.RATE_NUM_NUM 0) 60).setFld pTIME (F.TIME.RATE_DEN_DEN 0) 1, 0, 0x23#32, by decide +kernel⟩

theorem witness_ComparesArmBindAndFire_7 :
    ∃ (s : State) (n r : Nat), s.bar pTIME = true ∧ n < 15 ∧ s.cmpBound n = false ∧ (r = 1 ∨ r = 2 ∨ r = 3) := ⟨tSvc.on pTIME, 14, 3, by decide +kernel⟩

theorem witness_ComparesArmBindAndFire_8 :
    ∃ (s : State) (n : Nat), s.bar pTIME = true ∧ n < 15 := ⟨tSvc.on pTIME, 14, by decide +kernel⟩

theorem witness_ComparesArmBindAndFire_9 :
    ∃ (s : State) (n : Nat), n < 16 ∧ s.running = true ∧ s.bit pTIME (F.TIME.CMP_CTRL_ARM n) = true ∧ (s.cmpOf n).fresh = false
      ∧ s.reached (s.cmpTarget n) = true := ⟨(tSvc.ticking 5).setFld pTIME (F.TIME.CMP_CTRL_ARM 15) 1, 15, by decide +kernel⟩

theorem witness_ComparesArmBindAndFire_10 :
    ∃ (s : State) (n : Nat), (s.running = false ∨ s.bit pTIME (F.TIME.CMP_CTRL_ARM n) = false ∨ (s.cmpOf n).fresh = true ∨
      s.reached (s.cmpTarget n) = false) := ⟨((tSvc.ticking 5).setFld pTIME (F.TIME.CMP_CTRL_ARM 3) 1).setCmp 3 ⟨6, 0, false, none⟩, 3, by decide +kernel⟩

theorem witness_Tgt32PlacesTheTargetNearNow_1 :
    ∃ (s : State) (n : Nat), s.bar pTIME = true ∧ n < 15 := ⟨tSvc.on pTIME, 14, by decide +kernel⟩

theorem witness_Tgt32PlacesTheTargetNearNow_2 :
    ∃ (x : Nat), x < 2 ^ 32 := ⟨2147483648, by decide⟩

theorem witness_Tgt32PlacesTheTargetNearNow_3 :
    ∃ (s : State), s.bar pTIME = true := ⟨tSvc.on pTIME, by decide +kernel⟩

theorem witness_TriggersNeverGap_1 :
    ∃ (s : State) (k : Nat), s.bit pTIME (F.TIME.TRIG_CTRL_EN k) = true ∧ s.bit pTIME (F.TIME.TRIG_STATUS_ACTIVE k) = true ∧
      Tab.get 0 s.time.trigTick k ≠ s.time.root := ⟨((tSvc.clock 0 12).setFld pTIME (F.TIME.TRIG_CTRL_EN 7) 1).setFld pTIME (F.TIME.TRIG_STATUS_ACTIVE 7) 1, 7, by decide +kernel⟩

theorem witness_TriggersNeverGap_2 :
    ∃ (s : State) (k : Nat), s.bit pTIME (F.TIME.TRIG_CTRL_EN k) = true ∧ s.bit pTIME (F.TIME.TRIG_STATUS_ACTIVE k) = true ∧
      Tab.get 0 s.time.trigTick k = s.time.root := ⟨(tSvc.setFld pTIME (F.TIME.TRIG_CTRL_EN 7) 1).setFld pTIME (F.TIME.TRIG_STATUS_ACTIVE 7) 1, 7, by decide +kernel⟩

theorem witness_TriggersNeverGap_3 :
    ∃ (s : State) (k : Nat), s.bit pTIME (F.TIME.TRIG_CTRL_EN k) = true ∧ s.bit pTIME (F.TIME.TRIG_STATUS_ACTIVE k) = false := ⟨tSvc.setFld pTIME (F.TIME.TRIG_CTRL_EN 7) 1, 7, by decide +kernel⟩

theorem witness_TriggersNeverGap_4 :
    ∃ (s : State) (k : Nat), k < 8 ∧ s.bit pTIME (F.TIME.TRIG_STATUS_ACTIVE k) = true ∧ Tab.get 0 s.time.trigEnd k ≤ s.now := ⟨tSvc.setFld pTIME (F.TIME.TRIG_STATUS_ACTIVE 7) 1, 7, by decide +kernel⟩

theorem witness_TriggersNeverGap_5 :
    ∃ (s : State) (k : Nat), s.now < Tab.get 0 s.time.trigEnd k := ⟨{ tSvc with time := { TimeState.reset with trigEnd := [(7, 1)] } }, 7, by decide +kernel⟩

theorem witness_PpsOutFollowsTheSecond_1 :
    ∃ (s : State) (k : Nat), s.running = true ∧ s.bit pTIME F.TIME.TIME_CFG_PPS_OUT_EN = true ∧ s.time.ppsOut = false ∧ s.now =
      k * 1000000000 + 4 ∧ s.time.ppsOutSec ≠ k + 1 := ⟨(tSvc.ticking 4).setFld pTIME F.TIME.TIME_CFG_PPS_OUT_EN 1, 0, by decide +kernel⟩

theorem witness_PpsOutFollowsTheSecond_2 :
    ∃ (s : State), (s.running = false ∨ s.bit pTIME F.TIME.TIME_CFG_PPS_OUT_EN = false) := ⟨tSvc.ticking 4, by decide +kernel⟩

theorem witness_PpsOutFollowsTheSecond_3 :
    ∃ (s : State) (k : Nat), s.time.ppsOut = true ∧ s.time.ppsOutSec = k + 1 ∧ k * 1000000000 + 4 + s.fld pTIME
      F.TIME.TIME_CFG_PPS_WIDTH * 10000 ≤ s.now := ⟨{ tSvc.ticking 1000020004 with time := { TimeState.reset with acc := BitVec.ofNat 88 (1100000004 * 2 ^ 24), ppsOut := true, ppsOutSec := 2 } }, 1, by decide +kernel⟩

theorem witness_PpsOutFollowsTheSecond_4 :
    ∃ (s : State) (k : Nat), s.time.ppsOutSec = k + 1 ∧ s.now < k * 1000000000 + 4 + s.fld pTIME F.TIME.TIME_CFG_PPS_WIDTH *
      10000 := ⟨{ tSvc with time := { TimeState.reset with ppsOutSec := 1 } }, 0, by decide +kernel⟩

theorem witness_CapturesStampOnce_1 :
    ∃ (s : State) (n : Nat) (rising : Bool), n < 8 ∧ s.works pTIME = true ∧ edgeSelected (s.fld pTIME (F.TIME.CAP_CTRL_EDGE n))
      rising = true ∧ (s.bit pTIME (F.TIME.CAP_CTRL_EN n) = false ∨ s.running = false) := ⟨(tSvc.on pTIME).setFld pTIME (F.TIME.CAP_CTRL_EDGE 7) 2, 7, false, by decide +kernel⟩

theorem witness_CapturesStampOnce_2 :
    ∃ (s : State) (n : Nat) (rising : Bool), n < 8 ∧ s.works pTIME = true ∧ edgeSelected (s.fld pTIME (F.TIME.CAP_CTRL_EDGE n))
      rising = true ∧ s.bit pTIME (F.TIME.CAP_CTRL_EN n) = true ∧ s.running = true ∧ s.bit pTIME (F.TIME.CAP_STATUS_VALID n) =
      true := ⟨(((tSvc.ticking 9).setFld pTIME (F.TIME.CAP_CTRL_EDGE 0) 3).setFld pTIME (F.TIME.CAP_CTRL_EN 0) 1).setFld pTIME (F.TIME.CAP_STATUS_VALID 0) 1, 0, true, by decide +kernel⟩

theorem witness_CapturesStampOnce_3 :
    ∃ (s : State) (n : Nat) (rising : Bool), n < 8 ∧ s.works pTIME = true ∧ edgeSelected (s.fld pTIME (F.TIME.CAP_CTRL_EDGE n))
      rising = true ∧ s.bit pTIME (F.TIME.CAP_CTRL_EN n) = true ∧ s.running = true ∧ s.bit pTIME (F.TIME.CAP_STATUS_VALID n) =
      false := ⟨((tSvc.ticking 9).setFld pTIME (F.TIME.CAP_CTRL_EDGE 7) 1).setFld pTIME (F.TIME.CAP_CTRL_EN 7) 1, 7, true, by decide +kernel⟩

theorem witness_CapturesStampOnce_4 :
    ∃ (s : State) (n : Nat) (rising : Bool), edgeSelected (s.fld pTIME (F.TIME.CAP_CTRL_EDGE n)) rising = false := ⟨tSvc, 7, false, by decide +kernel⟩

theorem witness_PageStatesEnterAndLeaveOn_1 :
    ∃ (s s1 : State) (p : Nat), s.bar p = true ∧ (unitOf p).isSome = true ∧ alwaysOn p = false ∧ s.st p = stOff ∧ s1 =
      (((s.setFld p F.PAGE_CTRL_ENABLE 1).opBegin p 1).toState p stChecking).capture p := ⟨tSvc, _, pTIME, by decide +kernel, rfl, rfl, by decide +kernel, rfl⟩

theorem witness_PageStatesEnterAndLeaveOn_2 :
    ∃ (s : State) (p : Nat), s.st p ≠ stOff := ⟨tSvc.on pTIME, pTIME, by decide +kernel⟩

theorem witness_PageStatesEnterAndLeaveOn_3 :
    ∃ (s : State) (p : Nat), s.st p = stChecking ∧ (s.page p).verdict = 0 ∧ unitAt p ≠ .chmb ∧ (unitAt p ≠ .dec ∨ s.warm (20 +
      instanceOf p) = true) := ⟨tSvc.inState pTIME 1, pTIME, by decide +kernel⟩

theorem witness_PageStatesEnterAndLeaveOn_4 :
    ∃ (s : State) (p : Nat), s.st p = stChecking ∧ (s.page p).verdict ≠ 0 := ⟨(tSvc.inState 128 1).setPage 128 { PageInfo.reset with verdict := 0x1003 }, 128, by decide +kernel⟩

theorem witness_PageStatesEnterAndLeaveOn_5 :
    ∃ (s : State) (p : Nat), s.st p = stChecking ∧ (s.page p).verdict = 0 ∧ unitAt p = .chmb := ⟨tSvc.inState (pCHMB 17) 1, pCHMB 17, by decide +kernel⟩

theorem witness_PageStatesEnterAndLeaveOn_6 :
    ∃ (s : State) (p : Nat), (s.page p).verdict = 0 ∧ unitAt p = .dec ∧ s.warm (20 + instanceOf p) = false := ⟨tSvc.inState (pDEC 1) 1, pDEC 1, by decide +kernel⟩

theorem witness_PageStatesEnterAndLeaveOn_7 :
    ∃ (s : State) (p : Nat), s.bar p = true ∧ (unitOf p).isSome = true ∧ alwaysOn p = false ∧ inUseDetail p = none ∧ s.st p =
      stOn ∧ unitAt p ≠ .memc := ⟨tSvc.on pTIME, pTIME, by decide +kernel⟩

theorem witness_PageStatesEnterAndLeaveOn_8 :
    ∃ (s : State) (p d : Nat), s.bar p = true ∧ (unitOf p).isSome = true ∧ alwaysOn p = false ∧ inUseDetail p = some d := ⟨tSvc, pTASK, 0x11, by decide +kernel⟩

theorem witness_PageStatesEnterAndLeaveOn_9 :
    ∃ (s : State) (p : Nat), s.bar p = true ∧ (unitOf p).isSome = true ∧ alwaysOn p = false ∧ inUseDetail p = none ∧ s.st p =
      stOn ∧ unitAt p ≠ .memc := ⟨tSvc.on pTIME, pTIME, by decide +kernel⟩

theorem witness_PageStatesEnterAndLeaveOn_10 :
    ∃ (s : State) (p : Nat), s.bar p = true ∧ (unitOf p).isSome = true ∧ alwaysOn p = false ∧ inUseDetail p = none ∧ (s.st p =
      stOff ∨ s.st p = stFault) := ⟨tSvc.inState pTIME 5, pTIME, by decide +kernel⟩

theorem witness_PageStatesEnterAndLeaveOn_11 :
    ∃ (s : State) (p : Nat), s.served p = true ∧ (unitOf p).isSome = true ∧ alwaysOn p = false ∧ (s.page p).absence = 0 ∧ s.st p
      = stOos ∧ ¬ (s.boot.mult = 120 ∧ p ∈ pictureUnits) := ⟨tSvc.inState 767 4, 767, by decide +kernel⟩

theorem witness_PageStatesEnterAndLeaveOn_12 :
    ∃ (s : State) (p : Nat), s.boot.mult = 120 ∧ p ∈ pictureUnits := ⟨{ tSvc with boot := { tSvc.boot with mult := 120 } }, pCHMB 17, by decide +kernel⟩

theorem witness_PageStatesEnterAndLeaveOn_13 :
    ∃ (s : State) (p : Nat), s.bar p = true ∧ (unitOf p).isSome = true ∧ alwaysOn p = false ∧ s.st p = stFault := ⟨tSvc.inState (pCHMB 0) 5, pCHMB 0, by decide +kernel⟩

theorem witness_PageStatesEnterAndLeaveOn_14 :
    ∃ (s : State) (p : Nat), s.st p ≠ stFault := ⟨tSvc, pTIME, by decide +kernel⟩

theorem witness_PagesDrainFaultAndShed_1 :
    ∃ (s : State) (p : Nat), (unitOf p).isSome = true ∧ s.st p = stDraining ∧ s.leavesApart p = false ∧ s.boundaryReached p =
      true := ⟨tSvc.inState (pGRP 7) 3, pGRP 7, by decide +kernel⟩

theorem witness_PagesDrainFaultAndShed_2 :
    ∃ (s : State) (p : Nat), s.st p ≠ stDraining := ⟨tSvc, 1, by decide +kernel⟩

theorem witness_PagesDrainFaultAndShed_3 :
    ∃ (s : State) (p : Nat), (unitAt p = .sdirx ∨ unitAt p = .ipin) ∧ s.st p = stDraining ∧ s.cycleSince p (s.indexGroup p) =
      true := ⟨tSvc.inState (pIPIN 0) 3, pIPIN 0, by decide +kernel⟩

theorem witness_PagesDrainFaultAndShed_4 :
    ∃ (s : State) (p : Nat), s.cadence (s.indexGroup p) = true ∧ (s.grpOf (s.indexGroup p)).rootAt ≤ (s.page p).since := ⟨(tSvc.ticking 9).setReg ((F.TIME.CMP_CTRL 0).addr pTIME) 0x0023#32, pIPIN 0, by decide +kernel⟩

theorem witness_PagesDrainFaultAndShed_5 :
    ∃ (s : State) (p : Nat), (unitAt p = .src ∨ unitAt p = .scal) ∧ s.st p = stDraining ∧ s.fedOff p = true ∧ (s.cadence
      (s.leaveGroup p) = false ∨ (s.grpOf (s.leaveGroup p)).rootAt > s.fedSince p) := ⟨tSvc.inState (pSCAL 31) 3, pSCAL 31, by decide +kernel⟩

theorem witness_PagesDrainFaultAndShed_6 :
    ∃ (s : State) (p : Nat), s.fedOff p = false := ⟨tSvc.on (pSCAL 0), pSRC 0, by decide +kernel⟩

theorem witness_PagesDrainFaultAndShed_7 :
    ∃ (s : State) (p : Nat), s.fld p F.PAGE_OP_KIND = 0 := ⟨tSvc, 1, by decide +kernel⟩

theorem witness_PagesDrainFaultAndShed_8 :
    ∃ (s : State) (p : Nat), s.bar p = true ∧ (unitOf p).isSome = true ∧ alwaysOn p = false ∧ s.fld p F.PAGE_OP_KIND = 1 ∧ s.fld
      p F.PAGE_OP_RESULT = 0 ∧ s.st p = stChecking := ⟨(tSvc.inState pTIME 1).setFld pTIME F.PAGE_OP_KIND 1, pTIME, by decide +kernel⟩

theorem witness_PagesDrainFaultAndShed_9 :
    ∃ (s : State) (p : Nat), s.bar p = true ∧ (unitOf p).isSome = true ∧ alwaysOn p = false ∧ (s.fld p F.PAGE_OP_KIND = 2 ∨
      s.fld p F.PAGE_OP_KIND = 3) ∧ s.fld p F.PAGE_OP_RESULT = 0 ∧ s.st p = stDraining ∧ unitAt p ≠ .memc ∧ unitAt p ≠ .chmb := ⟨(tSvc.inState pTIME 3).setFld pTIME F.PAGE_OP_KIND 3, pTIME, by decide +kernel⟩

theorem witness_PagesDrainFaultAndShed_10 :
    ∃ (s : State) (p : Nat), s.bar p = true ∧ (unitOf p).isSome = true ∧ alwaysOn p = false ∧ s.fld p F.PAGE_OP_KIND ≠ 0 ∧
      abortable p (s.fld p F.PAGE_OP_KIND) = true ∧ s.fld p F.PAGE_OP_RESULT ≠ 0 ∧ (s.page p).resultAt = s.fabric := ⟨((tSvc.on pTIME).setFld pTIME F.PAGE_OP_KIND 1).setFld pTIME F.PAGE_OP_RESULT 1, pTIME, by decide +kernel⟩

theorem witness_PagesDrainFaultAndShed_11 :
    ∃ (s : State) (p : Nat), (unitOf p).isSome = true ∧ alwaysOn p = false ∧ unitAt p ≠ .chmb ∧ unitAt p ≠ .memc ∧ unitAt p ≠
      .tsch ∧ unitAt p ≠ .task ∧ unitAt p ≠ .eth ∧ s.inUse p = true ∧ s.absent p = false := ⟨tSvc.on pTIME, pTIME, by decide +kernel⟩

theorem witness_PagesDrainFaultAndShed_12 :
    ∃ (s : State) (p : Nat), s.inUse p = false := ⟨tSvc, pTIME, by decide +kernel⟩

theorem witness_PagesDrainFaultAndShed_13 :
    ∃ (s : State) (p : Nat), s.overLimit = true ∧ s.shedOrder.find? s.works = some p ∧ s.shedDue p = true := ⟨(tSvc.on (pCHAN 5)).setPage (pCHAN 5) { PageInfo.reset with mem := 1000000 }, pCHAN 5, by decide +kernel⟩

theorem witness_PagesDrainFaultAndShed_14 :
    ∃ (s : State), s.overLimit = false := ⟨tSvc, by decide +kernel⟩

theorem witness_Bar0AcceptsWords_3 :
    ∃ (len : Nat), (len = 1 ∨ len = 2) := ⟨2, by decide⟩

theorem witness_Bar0AcceptsWords_4 :
    ∃ (a len : Nat), (len = 1 ∨ len = 2) ∧ a % len = 0 := ⟨3, 1, by decide⟩

theorem witness_AdmReadsLatchTheHighHalf_1 :
    ∃ (s : State) (o : Nat), s.bar pSYS = true ∧ (o = 0x120 ∨ o = 0x128) := ⟨tSvc, 0x128, by decide +kernel⟩

theorem witness_AdmReadsLatchTheHighHalf_2 :
    ∃ (s : State) (o : Nat), s.canonical = true ∧ s.bar pSYS = true ∧ (o = 0x120 ∨ o = 0x128) := ⟨tSvc, 0x120, by decide +kernel⟩

theorem witness_InterruptSourcesFollowStatusAndEnable_1 :
    ∃ (p : Nat), (unitOf p).isSome = true := ⟨767, by decide +kernel⟩

theorem witness_InterruptSourcesFollowStatusAndEnable_2 :
    ∃ (p : Nat), unitOf p = none := ⟨768, by decide +kernel⟩

theorem witness_InterruptSourcesFollowStatusAndEnable_3 :
    ∃ (s : State) (p : Nat), s.bar p = true ∧ (unitOf p).isSome = true := ⟨tSvc, 767, by decide +kernel⟩

theorem witness_RegisterWritesFollowAccessCodes_1 :
    ∃ (s : State) (a : Nat), s.bar (pageOf a) = false ∧ s.outOfService (pageOf a) = false := ⟨State.reset, 0x1000 * pTIME + 0x130, by decide +kernel⟩

theorem witness_RegisterWritesFollowAccessCodes_2 :
    ∃ (s : State) (p : Nat), s.bar p = true ∧ s.outOfService p = false ∧ (unitOf p).isSome = true := ⟨tSvc, 767, by decide +kernel⟩

theorem witness_RegisterWritesFollowAccessCodes_3 :
    ∃ (s : State) (p : Nat), s.bar p = true ∧ s.outOfService p = false ∧ (unitOf p).isSome = true := ⟨tSvc, 767, by decide +kernel⟩

theorem witness_RegisterWritesFollowAccessCodes_4 :
    ∃ (s : State) (p k : Nat), s.bar p = true ∧ s.outOfService p = false ∧ (unitOf p).isSome = true ∧ k < 8 := ⟨tSvc, 767, 7, by decide +kernel⟩

theorem witness_RegisterWritesFollowAccessCodes_5 :
    ∃ (s : State) (p o : Nat), s.bar p = true ∧ s.outOfService p = false ∧ (unitOf p).isSome = true ∧ (o = 0x004 ∨ o = 0x010 ∨ o
      = 0x02C) := ⟨tSvc, 767, 0x02C, by decide +kernel⟩

theorem witness_RegisterWritesFollowAccessCodes_6 :
    ∃ (s : State) (p o : Nat) (r : RegRow), s.bar p = true ∧ o < 0x1000 ∧ rowAt (p * 0x1000 + o) = some r ∧ r.sh ≠ 0 ∧ s.bit p
      F.PENDING = false := ⟨tSvc, pCHAN 63, 0x100, (rowAt (pCHAN 63 * 0x1000 + 0x100)).get (by decide +kernel), by decide +kernel⟩

theorem witness_RegisterWritesFollowAccessCodes_7 :
    ∃ (p o : Nat) (r : RegRow), rowAt (p * 0x1000 + o) = some r ∧ r.sh = 0 := ⟨pTIME, 0x130, (rowAt (pTIME * 0x1000 + 0x130)).get (by decide +kernel), by decide +kernel⟩

theorem witness_ReserveOfChambers_2 :
    ∃ (s : State) (v : Word), s.bar pSYS = true ∧ v.toNat % 16 > 8 := ⟨tSvc, 9#32, by decide +kernel⟩

theorem witness_ReserveOfChambers_3 :
    ∃ (s : State) (v : Word), s.bar pSYS = true ∧ v.toNat % 16 ≤ 8 ∧ v.toNat % 16 > s.fld pSYS F.SYS.CHMB_RESERVE_RESERVE ∧
      s.chmbSum > chmbLimit (s.fld pSYS F.SYS.ADM_RESOURCES_CHMB_IN_SERVICE) (v.toNat % 16 - s.remapped) := ⟨tSvc.setPage 400 { PageInfo.reset with chmb := 14 * 1050000000 }, 8#32, by decide +kernel⟩

theorem witness_ReserveOfChambers_4 :
    ∃ (s : State) (v : Word), s.bar pSYS = true ∧ v.toNat % 16 ≤ 8 ∧ (v.toNat % 16 ≤ s.fld pSYS F.SYS.CHMB_RESERVE_RESERVE ∨
      s.chmbSum ≤ chmbLimit (s.fld pSYS F.SYS.ADM_RESOURCES_CHMB_IN_SERVICE) (v.toNat % 16 - s.remapped)) := ⟨tSvc, 8#32, by decide +kernel⟩

theorem witness_CommitsAreRequestedAndWithdrawn_1 :
    ∃ (s : State) (p : Nat), s.bar p = true ∧ (unitOf p).isSome = true ∧ 8 ≤ s.fld p F.COMMIT_GROUP ∧ s.fld p F.COMMIT_GROUP <
      15 := ⟨tSvc.setFld 1 F.COMMIT_GROUP 14, 1, by decide +kernel⟩

theorem witness_CommitsAreRequestedAndWithdrawn_2 :
    ∃ (s : State) (p : Nat), s.bar p = true ∧ (unitOf p).isSome = true ∧ (s.fld p F.COMMIT_GROUP < 8 ∨ s.fld p F.COMMIT_GROUP =
      15) := ⟨tSvc.setFld 767 F.COMMIT_GROUP 7, 767, by decide +kernel⟩

theorem witness_CommitsAreRequestedAndWithdrawn_3 :
    ∃ (s : State) (p : Nat), s.bit p F.PENDING = true := ⟨tSvc.setFld 1 F.PENDING 1, 1, by decide +kernel⟩

theorem witness_CommitsAreRequestedAndWithdrawn_4 :
    ∃ (s : State) (p : Nat), s.bar p = true ∧ (unitOf p).isSome = true ∧ s.bit p F.PENDING = false := ⟨tSvc, 767, by decide +kernel⟩

theorem witness_CommitsAreRequestedAndWithdrawn_5 :
    ∃ (s : State) (g mask : Nat), s.bar pSYS = true ∧ g < 8 ∧ mask % 256 = 2 ^ g ∧ s.cadence g = true ∧ s.coupled = false := ⟨(tSvc.ticking 9).setReg ((F.TIME.CMP_CTRL 0).addr pTIME) 0x7023#32, 7, 128, by decide +kernel⟩

theorem witness_CommitsAreRequestedAndWithdrawn_6 :
    ∃ (s : State) (g mask : Nat), s.bar pSYS = true ∧ g < 8 ∧ mask % 256 = 2 ^ g ∧ s.cadence g = false ∧ (s.noCadence g).coupled
      = false := ⟨tSvc, 7, 128, by decide +kernel⟩

theorem witness_CommitsAreRequestedAndWithdrawn_7 :
    ∃ (s : State), s.bar pSYS = true ∧ s.inProgress 8 = false := ⟨tSvc, by decide +kernel⟩

theorem witness_CommitsAreRequestedAndWithdrawn_8 :
    ∃ (s : State), s.bar pSYS = true ∧ s.inProgress 8 = true := ⟨tSvc.setFld pSYS (progBit 8) 1, by decide +kernel⟩

theorem witness_CommitsAreRequestedAndWithdrawn_9 :
    ∃ (s : State), s.bar pSYS = true ∧ s.inProgress 8 = true ∧ (s.commitOf 8).requested = false := ⟨tSvc.setFld pSYS (progBit 8) 1, by decide +kernel⟩

theorem witness_CommitsAreRequestedAndWithdrawn_10 :
    ∃ (s : State) (g mask : Nat), s.bar pSYS = true ∧ g < 8 ∧ mask % 256 = 2 ^ g ∧ s.inProgress g = true ∧ (s.commitOf
      g).requested = false := ⟨tSvc.setFld pSYS (progBit 7) 1, 7, 128, by decide +kernel⟩

theorem witness_CommitsAreRequestedAndWithdrawn_11 :
    ∃ (s : State) (g mask : Nat), s.bar pSYS = true ∧ g < 8 ∧ mask % 256 = 2 ^ g ∧ s.inProgress g = false ∧ (s.commitOf
      g).requested = false ∧ s.fld pSYS (commitRes g) ≠ 0 ∧ (s.commitOf g).resultAt = s.fabric := ⟨tSvc.setFld pSYS (commitRes 7) 1, 7, 128, by decide +kernel⟩

theorem witness_CommitsAreCapturedCheckedAndDecided_1 :
    ∃ (s : State) (g m : Nat) (f : Int), g < 8 ∧ s.cadence g = true ∧ s.nextStart g = some (m, f) ∧ (s.grpOf g).cutoff ≠ m + 1 ∧
      (s.now : Int) ≥ f - 4000 := ⟨(tSvc.ticking 9).setReg ((F.TIME.CMP_CTRL 0).addr pTIME) 0x7023#32, 7, 0, 0, by decide +kernel⟩

theorem witness_CommitsAreCapturedCheckedAndDecided_2 :
    ∃ (s : State) (g m : Nat) (f : Int), s.nextStart g = some (m, f) ∧ ((s.now : Int) < f - 4000 ∨ (s.grpOf g).cutoff = m + 1) := ⟨{ (tSvc.ticking 9).setReg ((F.TIME.CMP_CTRL 0).addr pTIME) 0x7023#32 with grp := [(7, { GrpState.reset with cutoff := 1 })] }, 7, 0, 0, by decide +kernel⟩

theorem witness_CommitsAreCapturedCheckedAndDecided_3 :
    ∃ (s : State) (g : Nat), g < 8 ∧ s.inProgress g = true ∧ (s.commitOf g).passed = false ∧ (s.commitOf g).paired = false ∧
      (s.commitOf g).codes = [] := ⟨tSvc.setFld pSYS (progBit 7) 1, 7, by decide +kernel⟩

theorem witness_CommitsAreCapturedCheckedAndDecided_4 :
    ∃ (s : State) (g : Nat) (l : List (Nat × Nat)), g < 8 ∧ s.inProgress g = true ∧ (s.commitOf g).passed = false ∧ (s.commitOf
      g).paired = false ∧ (s.commitOf g).codes = l ∧ l ≠ [] := ⟨(tSvc.setFld pSYS (progBit 7) 1).setCommit 7 { CommitRec.reset with codes := [(1, 0x1003)] }, 7, [(1, 0x1003)], by decide +kernel⟩

theorem witness_CommitsAreCapturedCheckedAndDecided_5 :
    ∃ (s : State), s.inProgress 8 = true ∧ (s.commitOf 8).codes = [] := ⟨tSvc.setFld pSYS (progBit 8) 1, by decide +kernel⟩

theorem witness_CommitsAreCapturedCheckedAndDecided_6 :
    ∃ (s : State) (l : List (Nat × Nat)), s.inProgress 8 = true ∧ (s.commitOf 8).codes = l ∧ l ≠ [] := ⟨(tSvc.setFld pSYS (progBit 8) 1).setCommit 8 { CommitRec.reset with codes := [(1, 0x1003)] }, [(1, 0x1003)], by decide +kernel⟩

theorem witness_CommitsAreCapturedCheckedAndDecided_7 :
    ∃ (s u : State) (seq : Nat), (s.link = 4 ∨ s.link = 5) ∧ seq = s.fld pROPE F.ROPE.SEQ_STATUS_RX_NEXT ∧ u = s.ropeTook seq ∧
      u.pairOn = true := ⟨(tSvc.on pPAIR).setFld pROPE F.ROPE.ROPE_STATUS_LINK 5, _, 0, by decide +kernel, by decide +kernel, rfl, by decide +kernel⟩

theorem witness_CommitsAreCapturedCheckedAndDecided_8 :
    ∃ (s u : State) (seq g b : Nat), (s.link = 4 ∨ s.link = 5) ∧ seq = s.fld pROPE F.ROPE.SEQ_STATUS_RX_NEXT ∧ u = s.ropeTook
      seq ∧ u.pairOn = true ∧ g < 8 ∧ (u.inProgress g = false ∨ (u.commitOf g).boundary ≠ b ∨ u.in300 ≤ u.fireNs g b * 2 ^ 24) := ⟨(tSvc.on pPAIR).setFld pROPE F.ROPE.ROPE_STATUS_LINK 5, _, 0, 7, 5, by decide +kernel, by decide +kernel, rfl, by decide +kernel⟩

theorem witness_CommitsAreCapturedCheckedAndDecided_9 :
    ∃ (s u : State) (seq g : Nat), (s.link = 4 ∨ s.link = 5) ∧ seq = s.fld pROPE F.ROPE.SEQ_STATUS_RX_NEXT ∧ u = s.ropeTook seq
      ∧ u.pairOn = true ∧ g < 8 := ⟨(tSvc.on pPAIR).setFld pROPE F.ROPE.ROPE_STATUS_LINK 5, _, 0, 7, by decide +kernel, by decide +kernel, rfl, by decide +kernel⟩

theorem witness_CommitsAreCapturedCheckedAndDecided_10 :
    ∃ (s : State) (g c d : Nat), g < 8 ∧ s.inProgress g = true ∧ (s.commitOf g).passed = true ∧ (s.commitOf g).peerFault = some
      (c, d) ∧ s.in300 ≥ s.fireNs g (s.commitOf g).boundary * 2 ^ 24 := ⟨(tSvc.setFld pSYS (progBit 7) 1).setCommit 7 { CommitRec.reset with passed := true, paired := true }, 7, 7, 0x16, by decide +kernel⟩

theorem witness_CommitsAreCapturedCheckedAndDecided_11 :
    ∃ (s : State) (g : Nat), (s.commitOf g).peerFault = none := ⟨tSvc, 0, by decide +kernel⟩

theorem witness_SequencedFramesAreTakenInOrder_1 :
    ∃ (s : State) (seq a b c d e f g : Nat) (b1 b2 b3 : Bool) (es : List (Nat × Nat × Nat × Nat × Nat)) (m : SnapshotMsg) (rs :
      List (Nat × Nat)) (ws : List Nat) (i : Instr), (s.link = 4 ∨ s.link = 5) ∧ seq ≠ s.fld pROPE F.ROPE.SEQ_STATUS_RX_NEXT ∧ i
      ∈ [.claimMsg seq a b1 b2 b3, .digest seq es, .snapshot seq m, .decision seq a b c d e b1 f, .stepMsg seq a b c d, .joinReq
      seq a, .handoverReq seq a, .handover seq a b, .commitReq seq rs, .commitVerdict seq a b b1 d, .ready seq a b rs, .caps seq
      a b c d e f g, .mailbox seq ws] := ⟨(tSvc.on pROPE).setFld pROPE F.ROPE.ROPE_STATUS_LINK 4, 65535, 0, 0, 0, 0, 0, 0, 0, true, true, true, [], tSnap, [], [], .mailbox 65535 [], by decide +kernel, by decide +kernel, by simp⟩

theorem witness_SequencedFramesAreTakenInOrder_2 :
    ∃ (s : State), s.canonical = true := ⟨tSvc, by decide +kernel⟩

theorem witness_SequencedFramesAreTakenInOrder_3 :
    ∃ (s : State), (s.link = 4 ∨ s.link = 5) ∧ (s.ropeTook (s.fld pROPE F.ROPE.SEQ_STATUS_RX_NEXT)).bit pROPE
      F.ROPE.MBOX_STATUS_RX_FULL = false := ⟨(tSvc.on pROPE).setFld pROPE F.ROPE.ROPE_STATUS_LINK 5, by decide +kernel⟩

theorem witness_SequencedFramesAreTakenInOrder_4 :
    ∃ (s : State), (s.link = 4 ∨ s.link = 5) ∧ (s.ropeTook (s.fld pROPE F.ROPE.SEQ_STATUS_RX_NEXT)).bit pROPE
      F.ROPE.MBOX_STATUS_RX_FULL = true := ⟨((tSvc.on pROPE).setFld pROPE F.ROPE.ROPE_STATUS_LINK 5).setFld pROPE F.ROPE.MBOX_STATUS_RX_FULL 1, by decide +kernel⟩

theorem witness_RopeLinkStates_1 :
    ∃ (s : State), s.ropeSilent = true := ⟨(((tSvc.on pROPE).setFld pROPE F.ROPE.ROPE_STATUS_LINK 5).clock 0 96000), by decide +kernel⟩

theorem witness_RopeLinkStates_2 :
    ∃ (s : State), (s.linkUp = false ∨ (s.fabric < s.rope.beatAt + 12000 ∧ lanes4 (s.rp F.ROPE.ROPE_STATUS_TX_MASK) ≥ s.rp
      F.ROPE.ROPE_CFG_MIN_LANES)) := ⟨(((tSvc.on pROPE).setFld pROPE F.ROPE.ROPE_STATUS_LINK 3).clock 0 95992).setFld pROPE F.ROPE.ROPE_STATUS_TX_MASK 15, by decide +kernel⟩

theorem witness_RopeLinkStates_3 :
    ∃ (s : State) (mask : Nat), s.link = 1 ∧ (List.range 4).countP (fun i => hasLane mask i && hasLane (s.rp
      F.ROPE.ROPE_CFG_LANES) i) ≥ s.rp F.ROPE.ROPE_CFG_MIN_LANES := ⟨(tSvc.on pROPE).setFld pROPE F.ROPE.ROPE_STATUS_LINK 1, 15, by decide +kernel⟩

theorem witness_RopeLinkStates_4 :
    ∃ (s : State) (mask : Nat), s.link = 1 ∧ (List.range 4).countP (fun i => hasLane mask i && hasLane (s.rp
      F.ROPE.ROPE_CFG_LANES) i) < s.rp F.ROPE.ROPE_CFG_MIN_LANES := ⟨(tSvc.on pROPE).setFld pROPE F.ROPE.ROPE_STATUS_LINK 1, 0, by decide +kernel⟩

theorem witness_RopeLinkStates_5 :
    ∃ (s u : State), s.link = 2 ∧ ((s.ropeTrained = s.ropeUsable ∧ s.ropeUsable ≠ 0) ∨ s.fabric ≥ s.rope.linkAt + s.rp
      F.ROPE.ROPE_CFG_TRAIN_MS * 1500000 ∧ lanes4 s.ropeTrained ≥ s.rp F.ROPE.ROPE_CFG_MIN_LANES) ∧ u = (((s.linkTo 3).setFld
      pROPE F.ROPE.ROPE_STATUS_RX_MASK s.ropeTrained).setFld pROPE F.ROPE.ROPE_STATUS_PEER_RX_MASK s.ropeTrained).masks := ⟨(((tSvc.on pROPE).setFld pROPE F.ROPE.ROPE_STATUS_LINK 2).setFld pROPE (rlTRAINED 0) 1).setFld pROPE F.ROPE.ROPE_CFG_LANES 1, _, by decide +kernel, by decide +kernel, rfl⟩

theorem witness_RopeLinkStates_6 :
    ∃ (s u : State), s.link = 2 ∧ s.fabric ≥ s.rope.linkAt + s.rp F.ROPE.ROPE_CFG_TRAIN_MS * 1500000 ∧ (s.ropeTrained ≠
      s.ropeUsable ∨ s.ropeUsable = 0) ∧ lanes4 s.ropeTrained < s.rp F.ROPE.ROPE_CFG_MIN_LANES ∧ u = s.linkDown.reason pROPE
      Cls.timing 0x13 := ⟨((tSvc.on pROPE).setFld pROPE F.ROPE.ROPE_STATUS_LINK 2).clock 0 12000000000, _, by decide +kernel, by decide +kernel, by decide +kernel, by decide +kernel, rfl⟩

theorem witness_RopeLinkStates_7 :
    ∃ (s : State), s.link = 0 ∧ s.rope.timedOut = true ∧ s.works pROPE = true ∧ s.fabric ≥ s.rope.linkAt + 15000000 := ⟨{ ((tSvc.on pROPE).setFld pROPE F.ROPE.ROPE_STATUS_LINK 0).clock 0 120000000 with rope := { RopeState.reset with timedOut := true } }, by decide +kernel⟩

theorem witness_RopeLinkStates_8 :
    ∃ (s : State), s.rope.timedOut = false := ⟨tSvc, by decide +kernel⟩

theorem witness_RopeLinkStates_9 :
    ∃ (s u : State), s.link = 3 ∧ s.rope.peerTx = s.rp F.ROPE.ROPE_STATUS_TX_MASK ∧ s.rp F.ROPE.ROPE_STATUS_TX_MASK ≠ 0 ∧ u =
      (s.linkTo 4).setFld pROPE F.ROPE.SEQ_STATUS 0 := ⟨{ ((tSvc.on pROPE).setFld pROPE F.ROPE.ROPE_STATUS_LINK 3).setFld pROPE F.ROPE.ROPE_STATUS_TX_MASK 15 with rope := { RopeState.reset with peerTx := 15 } }, _, by decide +kernel, by decide +kernel, by decide +kernel, rfl⟩

theorem witness_RopeLinkStates_10 :
    ∃ (s : State), (s.link = 3 ∨ s.link = 4) ∧ s.fabric ≥ s.rope.linkAt + 1500000 := ⟨((tSvc.on pROPE).setFld pROPE F.ROPE.ROPE_STATUS_LINK 4).clock 0 12000000, by decide +kernel⟩

theorem witness_RopeLinkStates_11 :
    ∃ (s : State), s.fabric < s.rope.linkAt + 1500000 := ⟨tSvc, by decide +kernel⟩

theorem witness_RopeLinkStates_12 :
    ∃ (s u : State) (seq version member stepping lanes minl window next : Nat), (s.link = 4 ∨ s.link = 5) ∧ seq = s.fld pROPE
      F.ROPE.SEQ_STATUS_RX_NEXT ∧ u = ((((((s.ropeTook seq).setFld pROPE F.ROPE.PEER_CAPS0_VERSION version).setFld pROPE
      F.ROPE.PEER_CAPS0_MEMBER member).setFld pROPE F.ROPE.PEER_CAPS1_STEPPING stepping).setFld pROPE F.ROPE.PEER_CAPS1_LANES
      lanes).setFld pROPE F.ROPE.PEER_CAPS1_MIN_LANES minl).setFld pROPE F.ROPE.PEER_CAPS1_WINDOW window ∧ version = 1 := ⟨(tSvc.on pROPE).setFld pROPE F.ROPE.ROPE_STATUS_LINK 4, _, 0, 1, 0, 0, 15, 1, 256, 1, by decide +kernel, by decide +kernel, rfl, by decide⟩

theorem witness_RopeLinkStates_13 :
    ∃ (s u : State) (seq version member stepping lanes minl window next : Nat), (s.link = 4 ∨ s.link = 5) ∧ seq = s.fld pROPE
      F.ROPE.SEQ_STATUS_RX_NEXT ∧ u = ((((((((s.ropeTook seq).setFld pROPE F.ROPE.PEER_CAPS0_VERSION version).setFld pROPE
      F.ROPE.PEER_CAPS0_MEMBER member).setFld pROPE F.ROPE.PEER_CAPS1_STEPPING stepping).setFld pROPE F.ROPE.PEER_CAPS1_LANES
      lanes).setFld pROPE F.ROPE.PEER_CAPS1_MIN_LANES minl).setFld pROPE F.ROPE.PEER_CAPS1_WINDOW window).linkDown.raise pROPE
      F.ROPE.intPEER_VERSION).reason pROPE Cls.dependency 0x11 ∧ version ≠ 1 := ⟨(tSvc.on pROPE).setFld pROPE F.ROPE.ROPE_STATUS_LINK 4, _, 0, 2, 0, 0, 15, 1, 256, 1, by decide +kernel, by decide +kernel, rfl, by decide⟩

theorem witness_RopeLinkStates_14 :
    ∃ (s u : State), s.bar pROPE = true ∧ s.works pROPE = true ∧ u = s.linkDown.ropeClear := ⟨tSvc.on pROPE, _, by decide +kernel, by decide +kernel, rfl⟩

theorem witness_RopeLinkStates_15 :
    ∃ (s : State), s.bar pROPE = true := ⟨tSvc.on pROPE, by decide +kernel⟩

theorem witness_RopeLinkStates_16 :
    ∃ (s : State) (i : Nat), i < 4 ∧ hasLane s.ropeUsable i = true ∧ s.link ≥ 2 ∧ hasLane s.rope.shaken i = true := ⟨{ (tSvc.on pROPE).setFld pROPE F.ROPE.ROPE_STATUS_LINK 2 with rope := { RopeState.reset with shaken := 8 } }, 3, by decide +kernel⟩

theorem witness_RopeLinkStates_17 :
    ∃ (s : State) (i : Nat), i < 4 ∧ hasLane s.ropeUsable i = true ∧ s.link ≥ 2 ∧ hasLane s.rope.shaken i = false := ⟨(tSvc.on pROPE).setFld pROPE F.ROPE.ROPE_STATUS_LINK 2, 0, by decide +kernel⟩

theorem witness_RopeLinkStates_18 :
    ∃ (s : State) (i : Nat), i < 4 ∧ hasLane s.ropeUsable i = true ∧ s.link = 2 ∧ s.rp (rlLOCK i) = 0 := ⟨(tSvc.on pROPE).setFld pROPE F.ROPE.ROPE_STATUS_LINK 2, 3, by decide +kernel⟩

theorem witness_RopeLinkStates_19 :
    ∃ (s : State) (i : Nat), i < 4 ∧ hasLane s.ropeUsable i = true ∧ s.link = 2 ∧ s.rp (rlLOCK i) = 1 := ⟨((tSvc.on pROPE).setFld pROPE F.ROPE.ROPE_STATUS_LINK 2).setFld pROPE (rlLOCK 0) 1, 0, by decide +kernel⟩

theorem witness_RopeLinkStates_20 :
    ∃ (s : State) (i : Nat), i < 4 ∧ hasLane s.ropeUsable i = true ∧ s.link = 2 ∧ s.laneState (ropeLane i) = laTrain := ⟨((tSvc.on pROPE).setFld pROPE F.ROPE.ROPE_STATUS_LINK 2).setFld (ropeLane 3) F.LANE.LANE_STATUS_STATE 2, 3, by decide +kernel⟩

theorem witness_RopeLinkStates_21 :
    ∃ (s : State), s.link ≠ 2 ∧ s.linkActive = false := ⟨tSvc, by decide +kernel⟩

theorem witness_RopeLanesAndProgress_1 :
    ∃ (s : State), s.linkUp = true ∧ s.time.root / 12000 > s.rope.hbAt := ⟨((tSvc.on pROPE).setFld pROPE F.ROPE.ROPE_STATUS_LINK 5).clock 0 12000, by decide +kernel⟩

theorem witness_RopeLanesAndProgress_2 :
    ∃ (s : State) (lane : Nat), s.linkUp = true ∧ lane < 4 := ⟨(tSvc.on pROPE).setFld pROPE F.ROPE.ROPE_STATUS_LINK 3, 3, by decide +kernel⟩

theorem witness_RopeLanesAndProgress_3 :
    ∃ (s u : State) (lane skew ins del invalid : Nat), u = ((s.addFld pROPE F.ROPE.FILL_COUNT_INSERTED ins).addFld pROPE
      F.ROPE.FILL_COUNT_DELETED del).errBy pROPE 7 invalid ∧ s.linkUp = true ∧ lane < 4 ∧ skew ≤ 32 := ⟨(tSvc.on pROPE).setFld pROPE F.ROPE.ROPE_STATUS_LINK 3, _, 3, 32, 40000, 40000, 3, rfl, by decide +kernel⟩

theorem witness_RopeLanesAndProgress_4 :
    ∃ (s u : State) (lane skew ins del invalid : Nat), u = ((s.addFld pROPE F.ROPE.FILL_COUNT_INSERTED ins).addFld pROPE
      F.ROPE.FILL_COUNT_DELETED del).errBy pROPE 7 invalid ∧ s.linkUp = true ∧ lane < 4 ∧ skew > 32 := ⟨(tSvc.on pROPE).setFld pROPE F.ROPE.ROPE_STATUS_LINK 3, _, 0, 33, 40000, 40000, 3, rfl, by decide +kernel⟩

theorem witness_RopeLanesAndProgress_5 :
    ∃ (s : State), s.linkUp = true ∧ s.rope.amDue = true := ⟨{ (tSvc.on pROPE).setFld pROPE F.ROPE.ROPE_STATUS_LINK 5 with rope := { RopeState.reset with amDue := true } }, by decide +kernel⟩

theorem witness_RopeLanesAndProgress_6 :
    ∃ (s : State), (s.link = 4 ∨ s.link = 5) := ⟨(tSvc.on pROPE).setFld pROPE F.ROPE.ROPE_STATUS_LINK 4, by decide +kernel⟩

theorem witness_RopeLanesAndProgress_7 :
    ∃ (s : State) (cause : Nat), (s.link = 4 ∨ s.link = 5) ∧ cause < 3 := ⟨(tSvc.on pROPE).setFld pROPE F.ROPE.ROPE_STATUS_LINK 5, 2, by decide +kernel⟩

theorem witness_RopeLanesAndProgress_8 :
    ∃ (s : State) (f : RopeFrame) (l : List RopeFrame), (s.link = 4 ∨ s.link = 5) ∧ s.rope.held = f :: l ∧ s.fabric ≥ f.sentAt +
      6000 := ⟨{ ((tSvc.on pROPE).setFld pROPE F.ROPE.ROPE_STATUS_LINK 5).clock 0 48000 with rope := { RopeState.reset with held := [⟨0, 1, [], 0⟩] } }, ⟨0, 1, [], 0⟩, [], by decide +kernel⟩

theorem witness_RopeLanesAndProgress_9 :
    ∃ (s : State), s.rope.held = [] := ⟨tSvc, by decide +kernel⟩

theorem witness_RopeLanesAndProgress_10 :
    ∃ (s : State) (q t : Nat) (b : List Byte), s.rope.yield' = some (q, b, t) ∧ s.linkActive = true ∧ s.fabric ≥ t + 1500 := ⟨{ ((tSvc.on pROPE).setFld pROPE F.ROPE.ROPE_STATUS_LINK 5).clock 0 12000 with rope := { RopeState.reset with yield' := some (1, [], 0) } }, 1, 0, [], by decide +kernel⟩

theorem witness_RopeLanesAndProgress_11 :
    ∃ (s : State) (i : Nat), s.linkUp = true ∧ i < 4 ∧ hasLane (s.rp F.ROPE.ROPE_STATUS_RX_MASK) i = true := ⟨((tSvc.on pROPE).setFld pROPE F.ROPE.ROPE_STATUS_LINK 5).setFld pROPE F.ROPE.ROPE_STATUS_RX_MASK 8, 3, by decide +kernel⟩

theorem witness_RopeLanesAndProgress_12 :
    ∃ (s : State) (i : Nat), hasLane (s.rp F.ROPE.ROPE_STATUS_RX_MASK) i = true := ⟨((tSvc.on pROPE).setFld pROPE F.ROPE.ROPE_STATUS_LINK 5).setFld pROPE F.ROPE.ROPE_STATUS_RX_MASK 15, 3, by decide +kernel⟩

theorem witness_RopeLanesAndProgress_13 :
    ∃ (s : State) (i : Nat), s.bar pROPE = true ∧ i < 4 ∧ hasLane s.ropeUsable i = true ∧ (s.rp F.ROPE.ROPE_STATUS_TRAINING ≠ 0
      ∨ s.linkActive = false ∨ lanes4 (dropLane (s.rp F.ROPE.ROPE_STATUS_TX_MASK) i) < s.rp F.ROPE.ROPE_CFG_MIN_LANES) := ⟨(tSvc.on pROPE).setFld pROPE F.ROPE.ROPE_STATUS_LINK 3, 3, by decide +kernel⟩

theorem witness_RopeLanesAndProgress_14 :
    ∃ (s : State) (i : Nat), s.bar pROPE = true ∧ i < 4 ∧ hasLane s.ropeUsable i = true ∧ s.rp F.ROPE.ROPE_STATUS_TRAINING = 0 ∧
      s.linkActive = true ∧ lanes4 (dropLane (s.rp F.ROPE.ROPE_STATUS_TX_MASK) i) ≥ s.rp F.ROPE.ROPE_CFG_MIN_LANES := ⟨((tSvc.on pROPE).setFld pROPE F.ROPE.ROPE_STATUS_LINK 5).setFld pROPE F.ROPE.ROPE_STATUS_TX_MASK 15, 3, by decide +kernel⟩

theorem witness_RopeLanesAndProgress_15 :
    ∃ (s : State) (i : Nat), hasLane s.ropeUsable i = false := ⟨((tSvc.on pROPE).setFld pROPE F.ROPE.ROPE_STATUS_LINK 5).setFld pROPE (rlFAILED 3) 1, 3, by decide +kernel⟩

theorem witness_RopeLanesAndProgress_16 :
    ∃ (s t u v : State) (i : Nat), i < 4 ∧ s.linkUp = true ∧ hasLane (s.rp F.ROPE.ROPE_STATUS_TRAINING) i = true ∧ s.rp
      (rlTRAINED i) = 1 ∧ t = s.setFld pROPE F.ROPE.ROPE_STATUS_TRAINING 0 ∧ u =
      (({ t with rope := { t.rope with tries := Tab.set 0 t.rope.tries i 0 } } : State).setFld pROPE (rlTRIES i) 0).raise pROPE
      F.ROPE.intLANE_RESTORED ∧ v = u.rxMask (addLane (u.rp F.ROPE.ROPE_STATUS_RX_MASK) i) := ⟨(((tSvc.on pROPE).setFld pROPE F.ROPE.ROPE_STATUS_LINK 5).setFld pROPE F.ROPE.ROPE_STATUS_TRAINING 8).setFld pROPE (rlTRAINED 3) 1, _, _, _, 3, by decide, by decide +kernel, by decide +kernel, by decide +kernel, rfl, rfl, rfl⟩

theorem witness_RopeLanesAndProgress_17 :
    ∃ (s t w u : State) (i k : Nat), i < 4 ∧ s.linkUp = true ∧ hasLane (s.rp F.ROPE.ROPE_STATUS_TRAINING) i = true ∧ s.rp
      (rlTRAINED i) = 0 ∧ s.fabric ≥ s.rope.trainAt + s.rp F.ROPE.ROPE_CFG_TRAIN_MS * 1500000 ∧ t = s.setFld pROPE
      F.ROPE.ROPE_STATUS_TRAINING 0 ∧ k = Tab.get 0 s.rope.tries i + 1 ∧ w = t.err pROPE 5 ∧ u =
      ({ w with rope := { w.rope with tries := Tab.set 0 w.rope.tries i k } } : State).setFld pROPE (rlTRIES i) (min k 7) ∧ k ≥
      s.rp F.ROPE.ROPE_CFG_RETRAIN_TRIES := ⟨{ ((((tSvc.on pROPE).setFld pROPE F.ROPE.ROPE_STATUS_LINK 5).clock 0 12000000000).setFld pROPE F.ROPE.ROPE_STATUS_TRAINING 1) with rope := { RopeState.reset with tries := [(0, 255)] } }, _, _, _, 0, _, by decide, by decide +kernel, by decide +kernel, by decide +kernel, by decide +kernel, rfl, rfl, rfl, rfl, by decide +kernel⟩

theorem witness_RopeLanesAndProgress_18 :
    ∃ (s t w u : State) (i k : Nat), i < 4 ∧ s.linkUp = true ∧ hasLane (s.rp F.ROPE.ROPE_STATUS_TRAINING) i = true ∧ s.rp
      (rlTRAINED i) = 0 ∧ s.fabric ≥ s.rope.trainAt + s.rp F.ROPE.ROPE_CFG_TRAIN_MS * 1500000 ∧ t = s.setFld pROPE
      F.ROPE.ROPE_STATUS_TRAINING 0 ∧ k = Tab.get 0 s.rope.tries i + 1 ∧ w = t.err pROPE 5 ∧ u =
      ({ w with rope := { w.rope with tries := Tab.set 0 w.rope.tries i k } } : State).setFld pROPE (rlTRIES i) (min k 7) ∧ k <
      s.rp F.ROPE.ROPE_CFG_RETRAIN_TRIES := ⟨((((tSvc.on pROPE).setFld pROPE F.ROPE.ROPE_STATUS_LINK 5).clock 0 12000000000).setFld pROPE F.ROPE.ROPE_STATUS_TRAINING 8).setFld pROPE F.ROPE.ROPE_CFG_RETRAIN_TRIES 2, _, _, _, 3, _, by decide, by decide +kernel, by decide +kernel, by decide +kernel, by decide +kernel, rfl, rfl, rfl, rfl, by decide +kernel⟩

theorem witness_RopeLanesAndProgress_19 :
    ∃ (s : State), s.bar pROPE = true ∧ s.bit pROPE F.ROPE.MBOX_STATUS_TX_BUSY = false ∧ s.linkActive = true := ⟨(tSvc.on pROPE).setFld pROPE F.ROPE.ROPE_STATUS_LINK 5, by decide +kernel⟩

theorem witness_RopeLanesAndProgress_20 :
    ∃ (s : State), (s.bit pROPE F.ROPE.MBOX_STATUS_TX_BUSY = true ∨ s.linkActive = false) := ⟨tSvc, by decide +kernel⟩

theorem witness_PairRolesAndSwitchOver_1 :
    ∃ (s u v : State) (seq claim : Nat) (primary active : Bool), (s.link = 4 ∨ s.link = 5) ∧ seq = s.fld pROPE
      F.ROPE.SEQ_STATUS_RX_NEXT ∧ u = s.ropeTook seq ∧ u.pairOn = true ∧ v = u.learnClaim claim primary ∧ v.pair.exchange =
      false := ⟨(tSvc.on pPAIR).setFld pROPE F.ROPE.ROPE_STATUS_LINK 5, _, _, 0, 7, true, true, by decide +kernel, by decide +kernel, rfl, by decide +kernel, rfl, by decide +kernel⟩

theorem witness_PairRolesAndSwitchOver_2 :
    ∃ (s u v : State) (seq claim : Nat) (primary active : Bool), (s.link = 4 ∨ s.link = 5) ∧ seq = s.fld pROPE
      F.ROPE.SEQ_STATUS_RX_NEXT ∧ u = s.ropeTook seq ∧ u.pairOn = true ∧ v = u.learnClaim claim primary ∧ v.pair.exchange = true := ⟨{ (tSvc.on pPAIR).setFld pROPE F.ROPE.ROPE_STATUS_LINK 5 with pair := { PairState.reset with exchange := true } }, _, _, 0, 7, true, true, by decide +kernel, by decide +kernel, rfl, by decide +kernel, rfl, by decide +kernel⟩

theorem witness_PairRolesAndSwitchOver_4 :
    ∃ (s u v : State) (p claim : Nat), s.linkActive = true ∧ p % 256 ≠ s.rope.pRx ∧ u =
      { s with rope := { s.rope with pRx := p % 256 } } ∧ u.pairOn = true ∧ v = (u.learnClaim claim
      u.pair.peerPrimary).dropSwitch ∧ v.isActive = false ∧ v.yielded = false := ⟨(tSvc.on pPAIR).setFld pROPE F.ROPE.ROPE_STATUS_LINK 5, _, _, 1, 7, by decide +kernel, by decide +kernel, rfl, by decide +kernel, rfl, by decide +kernel⟩

theorem witness_PairRolesAndSwitchOver_5 :
    ∃ (s : State) (p : Nat), (s.linkActive = false ∨ p % 256 = s.rope.pRx) := ⟨(tSvc.on pPAIR).setFld pROPE F.ROPE.ROPE_STATUS_LINK 5, 256, by decide +kernel⟩

theorem witness_PairRolesAndSwitchOver_6 :
    ∃ (s u v : State) (seq claim : Nat), (s.link = 4 ∨ s.link = 5) ∧ seq = s.fld pROPE F.ROPE.SEQ_STATUS_RX_NEXT ∧ u =
      s.ropeTook seq ∧ u.pairOn = true ∧ u.isActive = true ∧ v = u.learnClaim claim u.pair.peerPrimary ∧ (v.stepState ≠ 2 ∨
      v.pair.peerYielded = true ∨ v.countsOff (pGRP v.refGroup) = true) := ⟨((tSvc.on pPAIR).setFld pROPE F.ROPE.ROPE_STATUS_LINK 5).setFld pPAIR F.PAIR.PAIR_STATUS_OUTPUT 1, _, _, 0, 1, by decide +kernel, by decide +kernel, rfl, by decide +kernel, by decide +kernel, rfl, by decide +kernel⟩

theorem witness_PairRolesAndSwitchOver_7 :
    ∃ (s u v : State) (seq claim : Nat), (s.link = 4 ∨ s.link = 5) ∧ seq = s.fld pROPE F.ROPE.SEQ_STATUS_RX_NEXT ∧ u =
      s.ropeTook seq ∧ u.pairOn = true ∧ u.isActive = true ∧ v = u.learnClaim claim u.pair.peerPrimary ∧ v.stepState = 2 ∧
      v.pair.peerYielded = false ∧ v.countsOff (pGRP v.refGroup) = false := ⟨(((tSvc.on pPAIR).setFld pROPE F.ROPE.ROPE_STATUS_LINK 5).setFld pPAIR F.PAIR.PAIR_STATUS_OUTPUT 1).on (pGRP 0), _, _, 0, 1, by decide +kernel, by decide +kernel, rfl, by decide +kernel, by decide +kernel, rfl, by decide +kernel⟩

theorem witness_PairRolesAndSwitchOver_8 :
    ∃ (s u v : State) (seq claim : Nat), (s.link = 4 ∨ s.link = 5) ∧ seq = s.fld pROPE F.ROPE.SEQ_STATUS_RX_NEXT ∧ u =
      s.ropeTook seq ∧ u.pairOn = true ∧ u.isActive = false ∧ v = u.learnClaim claim u.pair.peerPrimary := ⟨(tSvc.on pPAIR).setFld pROPE F.ROPE.ROPE_STATUS_LINK 5, _, _, 0, 1, by decide +kernel, by decide +kernel, rfl, by decide +kernel, by decide +kernel, rfl⟩

theorem witness_PairRolesAndSwitchOver_9 :
    ∃ (s u v : State) (seq claim fs : Nat), (s.link = 4 ∨ s.link = 5) ∧ seq = s.fld pROPE F.ROPE.SEQ_STATUS_RX_NEXT ∧ u =
      s.ropeTook seq ∧ u.pairOn = true ∧ u.isActive = false ∧ v = u.learnClaim claim u.pair.peerPrimary ∧ v.yielded = false ∧ fs
      ≠ 0 := ⟨(tSvc.on pPAIR).setFld pROPE F.ROPE.ROPE_STATUS_LINK 5, _, _, 0, 1, 1, by decide +kernel, by decide +kernel, rfl, by decide +kernel, by decide +kernel, rfl, by decide +kernel⟩

theorem witness_PairRolesAndSwitchOver_10 :
    ∃ (s : State), s.pairOn = true ∧ s.ownPrimary = true ∧ s.isActive = false ∧ s.yielded = false ∧ s.bit pPAIR
      F.PAIR.PAIR_CFG_REVERT = true ∧ s.pair.revert = false ∧ s.pair.fs = none ∧ s.stepState = 2 ∧ s.fld pPAIR
      F.PAIR.HOLD_OFF_MS ≤ s.inStepMs := ⟨{ (((((tSvc.on pPAIR).setFld pROPE F.ROPE.ROPE_STATUS_LINK 5).setFld pPAIR F.PAIR.PAIR_CFG_ROLE 1).setFld pPAIR F.PAIR.PAIR_CFG_REVERT 1).setFld pPAIR F.PAIR.PAIR_STATUS_STEP 2) with time := { TimeState.reset with acc := BitVec.ofNat 88 (600000000000 * 2 ^ 24) } }, by decide +kernel⟩

theorem witness_PairRolesAndSwitchOver_11 :
    ∃ (s : State), (s.isActive = true ∨ s.bit pPAIR F.PAIR.PAIR_CFG_REVERT = false ∨ s.inStepMs < s.fld pPAIR
      F.PAIR.HOLD_OFF_MS) := ⟨tSvc, by decide +kernel⟩

theorem witness_PairRolesAndSwitchOver_12 :
    ∃ (s : State), s.bar pPAIR = true ∧ s.pairOn = true ∧ s.stepState ≠ 2 := ⟨(tSvc.on pPAIR), by decide +kernel⟩

theorem witness_PairRolesAndSwitchOver_13 :
    ∃ (s : State), s.bar pPAIR = true ∧ s.pairOn = true ∧ s.stepState = 2 ∧ s.countsOff (pGRP s.refGroup) = true := ⟨(tSvc.on pPAIR).setFld pROPE F.ROPE.ROPE_STATUS_LINK 5, by decide +kernel⟩

theorem witness_PairRolesAndSwitchOver_14 :
    ∃ (s : State), s.bar pPAIR = true ∧ s.pairOn = true ∧ s.stepState = 2 ∧ s.countsOff (pGRP s.refGroup) = false ∧
      (s.frameStartFrom s.refGroup s.now).isNone = false ∧ s.isActive = true := ⟨(((((tSvc.on pPAIR).setFld pROPE F.ROPE.ROPE_STATUS_LINK 5).setFld pPAIR F.PAIR.PAIR_STATUS_OUTPUT 1).on (pGRP 0)).ticking 9).setReg ((F.TIME.CMP_CTRL 0).addr pTIME) 0x0023#32, by decide +kernel⟩

theorem witness_PairRolesAndSwitchOver_15 :
    ∃ (s : State), s.bar pPAIR = true ∧ s.pairOn = true ∧ s.stepState = 2 ∧ s.countsOff (pGRP s.refGroup) = false ∧
      (s.frameStartFrom s.refGroup s.now).isNone = false ∧ s.isActive = false := ⟨((((tSvc.on pPAIR).setFld pROPE F.ROPE.ROPE_STATUS_LINK 5).on (pGRP 0)).ticking 9).setReg ((F.TIME.CMP_CTRL 0).addr pTIME) 0x0023#32, by decide +kernel⟩

theorem witness_PairRolesAndSwitchOver_16 :
    ∃ (s : State), s.bar pPAIR = true ∧ s.pairOn = true ∧ s.isActive = false := ⟨(tSvc.on pPAIR), by decide +kernel⟩

theorem witness_PairRolesAndSwitchOver_17 :
    ∃ (s : State), s.bar pPAIR = true ∧ s.pairOn = true ∧ s.isActive = true := ⟨((tSvc.on pPAIR).setFld pROPE F.ROPE.ROPE_STATUS_LINK 5).setFld pPAIR F.PAIR.PAIR_STATUS_OUTPUT 1, by decide +kernel⟩

theorem witness_PairRolesAndSwitchOver_18 :
    ∃ (s u : State) (b : Nat), s.pairOn = true ∧ s.fld pPAIR F.PAIR.PAIR_CFG_FATAL_MASK / 2 ^ b % 2 = 1 ∧ s.isActive = true ∧ u
      = ((((s.setFld pPAIR F.PAIR.PAIR_STATUS_YIELDED 1).raise pPAIR F.PAIR.intYIELDED).ropeYield s.yieldBody).becomeStandby 7) := ⟨(((tSvc.on pPAIR).setFld pROPE F.ROPE.ROPE_STATUS_LINK 5).setFld pPAIR F.PAIR.PAIR_STATUS_OUTPUT 1).setFld pPAIR F.PAIR.PAIR_CFG_FATAL_MASK 128, _, 7, by decide +kernel, by decide +kernel, by decide +kernel, rfl⟩

theorem witness_PairRolesAndSwitchOver_19 :
    ∃ (s : State), s.bar pPAIR = true ∧ s.pairOn = true := ⟨(tSvc.on pPAIR), by decide +kernel⟩

theorem witness_PairRolesAndSwitchOver_20 :
    ∃ (s : State), s.pairOn = false := ⟨tSvc, by decide +kernel⟩

theorem witness_PairRolesAndSwitchOver_21 :
    ∃ (s : State), s.bar pPAIR = true ∧ s.st pPAIR ≠ stOff := ⟨(tSvc.on pPAIR), by decide +kernel⟩

theorem witness_PairRolesAndSwitchOver_22 :
    ∃ (s : State), s.bar pPAIR = true ∧ s.st pPAIR = stOff := ⟨tSvc, by decide +kernel⟩

theorem witness_PairRolesAndSwitchOver_23 :
    ∃ (s : State), s.witnessDue = true ∧ s.linkActive = true := ⟨{ (((tSvc.on pPAIR).setFld pROPE F.ROPE.ROPE_STATUS_LINK 5).on (pCHAN 63)) with time := { TimeState.reset with acc := BitVec.ofNat 88 (100000000 * 2 ^ 24) } }, by decide +kernel⟩

theorem witness_PairRolesAndSwitchOver_24 :
    ∃ (s : State), s.witnessDue = true ∧ s.linkActive = false ∧ s.yielded = true := ⟨{ (((tSvc.on pPAIR).setFld pPAIR F.PAIR.PAIR_STATUS_YIELDED 1).on (pCHAN 63)) with time := { TimeState.reset with acc := BitVec.ofNat 88 (100000000 * 2 ^ 24) } }, by decide +kernel⟩

theorem witness_PairRolesAndSwitchOver_25 :
    ∃ (s u : State), s.witnessDue = true ∧ s.linkActive = false ∧ s.yielded = false ∧ u = (s.becomeActive s.peerClaim 4 fun _ =>
      none).err pPAIR 4 := ⟨{ (((tSvc.on pPAIR)).on (pCHAN 63)) with time := { TimeState.reset with acc := BitVec.ofNat 88 (100000000 * 2 ^ 24) } }, _, by decide +kernel, by decide +kernel, by decide +kernel, rfl⟩

theorem witness_PairStepsAndJoins_1 :
    ∃ (s u : State) (seq : Nat), (s.link = 4 ∨ s.link = 5) ∧ seq = s.fld pROPE F.ROPE.SEQ_STATUS_RX_NEXT ∧ u = s.ropeTook seq ∧
      u.pairOn = true := ⟨(tSvc.on pPAIR).setFld pROPE F.ROPE.ROPE_STATUS_LINK 5, _, 0, by decide +kernel, by decide +kernel, rfl, by decide +kernel⟩

theorem witness_PairStepsAndJoins_2 :
    ∃ (s : State) (c : Nat) (d e : RowDigest), d.digest = e.digest ∧ s.chStep c = ncJoining := ⟨tSvc.setFld pPAIR (chStepFld 63) 2, 63, ⟨0, 0, 5, 0, 0⟩, ⟨0, 0, 5, 1, 0⟩, by decide +kernel⟩

theorem witness_PairStepsAndJoins_3 :
    ∃ (s : State) (c : Nat) (d e : RowDigest), d.digest = e.digest ∧ s.chStep c = ncNotCompared := ⟨tSvc, 63, ⟨0, 0, 5, 0, 0⟩, ⟨0, 0, 5, 1, 0⟩, by decide +kernel⟩

theorem witness_PairStepsAndJoins_4 :
    ∃ (d e : RowDigest), d.digest ≠ e.digest := ⟨⟨0, 0, 5, 0, 0⟩, ⟨0, 0, 6, 1, 0⟩, by decide⟩

theorem witness_PairStepsAndJoins_5 :
    ∃ (s : State) (c : Nat), (s.chStep c = ncNotCompared ∨ s.chStep c = ncInStep) := ⟨tSvc.setFld pPAIR (chStepFld 0) 3, 0, by decide +kernel⟩

theorem witness_PairStepsAndJoins_6 :
    ∃ (s : State) (c : Nat) (d : RowDigest) (l : List RowDigest), (s.chanOf c).pair.own = d :: l ∧ s.pairOn = true ∧
      s.linkActive = true ∧ d.due ≤ s.now * 1000 := ⟨((tSvc.on pPAIR).setFld pROPE F.ROPE.ROPE_STATUS_LINK 5).setChan 63 { ChanState.reset with pair := { PairChan.reset with own := [⟨0, 0, 5, 0, 0⟩] } }, 63, ⟨0, 0, 5, 0, 0⟩, [], by decide +kernel⟩

theorem witness_PairStepsAndJoins_7 :
    ∃ (s : State) (c : Nat), (s.chanOf c).pair.own = [] := ⟨tSvc, 63, by decide +kernel⟩

theorem witness_PairStepsAndJoins_8 :
    ∃ (s u : State) (seq c cause : Nat), (s.link = 4 ∨ s.link = 5) ∧ seq = s.fld pROPE F.ROPE.SEQ_STATUS_RX_NEXT ∧ u =
      s.ropeTook seq ∧ u.pairOn = true ∧ c < 64 ∧ cause < 4 ∧ u.chanOn c = true := ⟨((tSvc.on pPAIR).setFld pROPE F.ROPE.ROPE_STATUS_LINK 5).on (pCHAN 63), _, 0, 63, 3, by decide +kernel, by decide +kernel, rfl, by decide +kernel, by decide, by decide, by decide +kernel⟩

theorem witness_PairStepsAndJoins_9 :
    ∃ (s u : State) (seq c : Nat), (s.link = 4 ∨ s.link = 5) ∧ seq = s.fld pROPE F.ROPE.SEQ_STATUS_RX_NEXT ∧ u = s.ropeTook seq
      ∧ u.pairOn = true ∧ c < 64 ∧ u.isActive = true ∧ u.chanOn c = true := ⟨(((tSvc.on pPAIR).setFld pROPE F.ROPE.ROPE_STATUS_LINK 5).setFld pPAIR F.PAIR.PAIR_STATUS_OUTPUT 1).on (pCHAN 63), _, 0, 63, by decide +kernel, by decide +kernel, rfl, by decide +kernel, by decide, by decide +kernel, by decide +kernel⟩

theorem witness_PairStepsAndJoins_10 :
    ∃ (s u : State) (seq : Nat), (s.link = 4 ∨ s.link = 5) ∧ seq = s.fld pROPE F.ROPE.SEQ_STATUS_RX_NEXT ∧ u = s.ropeTook seq ∧
      u.pairOn = true ∧ u.isActive = false := ⟨(tSvc.on pPAIR).setFld pROPE F.ROPE.ROPE_STATUS_LINK 5, _, 0, by decide +kernel, by decide +kernel, rfl, by decide +kernel, by decide +kernel⟩

theorem witness_PairStepsAndJoins_11 :
    ∃ (s : State), s.bar pPAIR = true ∧ s.pairOn = true := ⟨(tSvc.on pPAIR), by decide +kernel⟩

theorem witness_PairStepsAndJoins_12 :
    ∃ (s u : State) (seq : Nat) (m : SnapshotMsg), (s.link = 4 ∨ s.link = 5) ∧ seq = s.fld pROPE F.ROPE.SEQ_STATUS_RX_NEXT ∧ u =
      s.ropeTook seq ∧ u.pairOn = true ∧ m.chan < 64 ∧ u.isActive = false ∧ u.chanOn m.chan = true ∧ u.chStep m.chan =
      ncOutOfStep ∧ u.snapshotInTime m.chan m.n0 = false := ⟨(((tSvc.on pPAIR).setFld pROPE F.ROPE.ROPE_STATUS_LINK 5).on (pCHAN 0)).setFld pPAIR (chStepFld 0) 1, _, 0, tSnap, by decide +kernel, by decide +kernel, rfl, by decide +kernel, by decide +kernel⟩

theorem witness_PairStepsAndJoins_13 :
    ∃ (s u v : State) (seq : Nat) (m : SnapshotMsg) (x : PicRec), (s.link = 4 ∨ s.link = 5) ∧ seq = s.fld pROPE
      F.ROPE.SEQ_STATUS_RX_NEXT ∧ u = s.ropeTook seq ∧ u.pairOn = true ∧ m.chan < 64 ∧ u.isActive = false ∧ u.chanOn m.chan =
      true ∧ u.chStep m.chan = ncOutOfStep ∧ u.snapshotInTime m.chan m.n0 = true ∧ v = (u.takeSnapshot m).forceRefresh m.chan
      m.n0 (if m.kind = 0 then 0 else 1) ∧ v.picRec m.chan m.n0 = some x := ⟨tOut, _, _, 0, tSnap, (((tOut.ropeTook 0).takeSnapshot tSnap).forceRefresh 0 0 0 |>.picRec 0 0).get (by decide +kernel), by decide +kernel, by decide +kernel, rfl, by decide +kernel, by decide +kernel, by decide +kernel, by decide +kernel, by decide +kernel, by decide +kernel, rfl, by decide +kernel⟩

theorem witness_PairStepsAndJoins_14 :
    ∃ (s u : State) (seq c n : Nat), (s.link = 4 ∨ s.link = 5) ∧ seq = s.fld pROPE F.ROPE.SEQ_STATUS_RX_NEXT ∧ u = s.ropeTook
      seq ∧ u.pairOn = true ∧ c < 64 ∧ u.receiving c n = true ∧ u.picRec c n = none := ⟨tJoin 0, _, 0, 0, 3, by decide +kernel, by decide +kernel, rfl, by decide +kernel, by decide +kernel, by decide +kernel, by decide +kernel⟩

theorem witness_PairStepsAndJoins_15 :
    ∃ (s u : State) (seq c n k : Nat) (x : PicRec), (s.link = 4 ∨ s.link = 5) ∧ seq = s.fld pROPE F.ROPE.SEQ_STATUS_RX_NEXT ∧ u
      = s.ropeTook seq ∧ u.pairOn = true ∧ c < 64 ∧ u.receiving c n = true ∧ u.picRec c n = some x ∧ u.outPs c x k < u.nowPs := ⟨{ tJoin 0 with time := { TimeState.reset with acc := BitVec.ofNat 88 (1000000000 * 2 ^ 24) } }, _, 0, 0, 0, 0, tPic, by decide +kernel, by decide +kernel, rfl, by decide +kernel, by decide +kernel, by decide +kernel, by decide +kernel, by decide +kernel⟩

theorem witness_PairStepsAndJoins_16 :
    ∃ (s u : State) (seq c n : Nat), (s.link = 4 ∨ s.link = 5) ∧ seq = s.fld pROPE F.ROPE.SEQ_STATUS_RX_NEXT ∧ u = s.ropeTook
      seq ∧ u.pairOn = true ∧ u.receiving c n = false := ⟨(tSvc.on pPAIR).setFld pROPE F.ROPE.ROPE_STATUS_LINK 5, _, 0, 0, 0, by decide +kernel, by decide +kernel, rfl, by decide +kernel, by decide +kernel⟩

theorem witness_PairStepsAndJoins_17 :
    ∃ (c : Nat), c < 64 := ⟨63, by decide⟩

theorem witness_QueueCommandsOfTheScheduler_1 :
    ∃ (s : State) (x : Nat), s.bar pTSCH = true ∧ s.tsch.disabling = some x := ⟨{ (tSvc.on pTSCH) with tsch := { TschState.reset with disabling := some 7 } }, 7, by decide +kernel⟩

theorem witness_QueueCommandsOfTheScheduler_2 :
    ∃ (s : State) (q : Nat), s.bar pTSCH = true ∧ s.tsch.disabling = none ∧ q ≥ 8192 := ⟨(tSvc.on pTSCH), 8192, by decide +kernel⟩

theorem witness_QueueCommandsOfTheScheduler_3 :
    ∃ (s u : State) (q : Nat), s.bar pTSCH = true ∧ s.tsch.disabling = none ∧ q < 8192 ∧ u = s.qBegin q 1 ∧ u.qOutOfRange q
      (u.qfld F.QTAB.Q_RATE_KBPS q) (u.qfld F.QTAB.Q_BURST_BYTES q) = true := ⟨(tSvc.on pTSCH), _, 8191, by decide +kernel, by decide +kernel, by decide, rfl, by decide +kernel⟩

theorem witness_QueueCommandsOfTheScheduler_4 :
    ∃ (s u : State) (q : Nat), s.bar pTSCH = true ∧ s.tsch.disabling = none ∧ q < 8192 ∧ u = s.qBegin q 1 ∧ u.qOutOfRange q
      (u.qfld F.QTAB.Q_RATE_KBPS q) (u.qfld F.QTAB.Q_BURST_BYTES q) = false ∧ u.qNamesAbsent q = true := ⟨(tQueue 8191).setPage (pETH 0) { PageInfo.reset with absence := 1 }, _, 8191, by decide +kernel, by decide +kernel, by decide, rfl, by decide +kernel, by decide +kernel⟩

theorem witness_QueueCommandsOfTheScheduler_5 :
    ∃ (s u : State) (q : Nat), s.bar pTSCH = true ∧ s.tsch.disabling = none ∧ q < 8192 ∧ u = s.qBegin q 1 ∧ u.qOutOfRange q
      (u.qfld F.QTAB.Q_RATE_KBPS q) (u.qfld F.QTAB.Q_BURST_BYTES q) = false ∧ u.qNamesAbsent q = false ∧ u.qEn q = true := ⟨(tQueue 8191).setQfld F.QTAB.Q_CTRL_EN 8191 1, _, 8191, by decide +kernel, by decide +kernel, by decide, rfl, by decide +kernel, by decide +kernel, by decide +kernel⟩

theorem witness_QueueCommandsOfTheScheduler_6 :
    ∃ (s u : State) (q : Nat), s.bar pTSCH = true ∧ s.tsch.disabling = none ∧ q < 8192 ∧ u = s.qBegin q 1 ∧ u.qOutOfRange q
      (u.qfld F.QTAB.Q_RATE_KBPS q) (u.qfld F.QTAB.Q_BURST_BYTES q) = false ∧ u.qNamesAbsent q = false ∧ u.qEn q = false ∧
      u.poolUsed + u.qfld F.QTAB.Q_BUF_KIB q > 12288 := ⟨((tQueue 8191).setQfld F.QTAB.Q_BUF_KIB 0 12288).setQfld F.QTAB.Q_CTRL_EN 0 1, _, 8191, by decide +kernel, by decide +kernel, by decide, rfl, by decide +kernel, by decide +kernel, by decide +kernel, by decide +kernel⟩

theorem witness_QueueCommandsOfTheScheduler_7 :
    ∃ (s u : State) (q : Nat), s.bar pTSCH = true ∧ s.tsch.disabling = none ∧ q < 8192 ∧ u = s.qBegin q 1 ∧ u.qOutOfRange q
      (u.qfld F.QTAB.Q_RATE_KBPS q) (u.qfld F.QTAB.Q_BURST_BYTES q) = false ∧ u.qNamesAbsent q = false ∧ u.qEn q = false ∧
      u.poolUsed + u.qfld F.QTAB.Q_BUF_KIB q ≤ 12288 := ⟨tQueue 8191, _, 8191, by decide +kernel, by decide +kernel, by decide, rfl, by decide +kernel, by decide +kernel, by decide +kernel, by decide +kernel⟩

theorem witness_QueueCommandsOfTheScheduler_8 :
    ∃ (s u : State) (q : Nat), s.bar pTSCH = true ∧ s.tsch.disabling = none ∧ q < 8192 ∧ u = s.qBegin q 3 ∧ u.qOutOfRange q
      (u.fld pTSCH F.TSCH.SHAPE_RATE_KBPS) (u.fld pTSCH F.TSCH.SHAPE_BURST_BYTES) = false ∧ u.qNamesAbsent q = false ∧ u.qEn q =
      true := ⟨((((tQueue 8191).setQfld F.QTAB.Q_CTRL_EN 8191 1).setFld pTSCH F.TSCH.SHAPE_RATE_KBPS 400000000).setFld pTSCH F.TSCH.SHAPE_BURST_BYTES 4194304), _, 8191, by decide +kernel, by decide +kernel, by decide, rfl, by decide +kernel, by decide +kernel, by decide +kernel⟩

theorem witness_QueueCommandsOfTheScheduler_9 :
    ∃ (s u : State) (q : Nat), s.bar pTSCH = true ∧ s.tsch.disabling = none ∧ q < 8192 ∧ u = s.qBegin q 3 ∧ u.qOutOfRange q
      (u.fld pTSCH F.TSCH.SHAPE_RATE_KBPS) (u.fld pTSCH F.TSCH.SHAPE_BURST_BYTES) = false ∧ u.qNamesAbsent q = false ∧ u.qEn q =
      false := ⟨(((tQueue 8191).setFld pTSCH F.TSCH.SHAPE_RATE_KBPS 1).setFld pTSCH F.TSCH.SHAPE_BURST_BYTES 9216), _, 8191, by decide +kernel, by decide +kernel, by decide, rfl, by decide +kernel, by decide +kernel, by decide +kernel⟩

theorem witness_QueueCommandsOfTheScheduler_10 :
    ∃ (s u : State) (q : Nat), s.bar pTSCH = true ∧ s.tsch.disabling = none ∧ q < 8192 ∧ u = s.qBegin q 2 ∧ u.qfld
      F.QTAB.Q_OWNER_KIND q ≠ 0 := ⟨((tSvc.on pTSCH)).setQfld F.QTAB.Q_OWNER_KIND 8191 1, _, 8191, by decide +kernel, by decide +kernel, by decide, rfl, by decide +kernel⟩

theorem witness_QueueCommandsOfTheScheduler_11 :
    ∃ (s u v : State) (q : Nat), s.bar pTSCH = true ∧ s.tsch.disabling = none ∧ q < 8192 ∧ u = s.qBegin q 2 ∧ u.qfld
      F.QTAB.Q_OWNER_KIND q = 0 ∧ v = ((u.setQfld F.QTAB.Q_CTRL_EN q 0).qDiscard q).setQueue q
      { ((u.setQfld F.QTAB.Q_CTRL_EN q 0).qDiscard q).queueOf q with tokens := u.tokensNow q, tokAt := u.fabric, returning := false } := ⟨tQueue 8191, _, _, 8191, by decide +kernel, by decide +kernel, by decide, rfl, by decide +kernel, rfl⟩

theorem witness_QueueCommandsOfTheScheduler_12 :
    ∃ (s : State) (q : Nat), s.tsch.disabling = some q ∧ s.sendingQueue q = false := ⟨{ tSvc with tsch := { TschState.reset with disabling := some 8191 } }, 8191, by decide +kernel⟩

theorem witness_QueueCommandsOfTheScheduler_13 :
    ∃ (s : State) (q : Nat), s.tsch.disabling = some q ∧ s.sendingQueue q = true := ⟨{ tSvc with tsch := { TschState.reset with disabling := some 3, ports := [(7, { PortState.reset with sending := some (3, ⟨3, [], none, none⟩) })] } }, 3, by decide +kernel⟩

theorem witness_QueueCommandsOfTheScheduler_14 :
    ∃ (s u : State) (q : Nat), s.bar pTSCH = true ∧ s.tsch.disabling = none ∧ q < 8192 ∧ u = s.qBegin q 4 ∧ u.portUp (u.qfld
      F.QTAB.Q_CTRL_PORT q) = false := ⟨tQueue 8191, _, 8191, by decide +kernel, by decide +kernel, by decide, rfl, by decide +kernel⟩

theorem witness_QueueCommandsOfTheScheduler_15 :
    ∃ (s u : State) (q : Nat), s.bar pTSCH = true ∧ s.tsch.disabling = none ∧ q < 8192 ∧ u = s.qBegin q 4 ∧ u.portUp (u.qfld
      F.QTAB.Q_CTRL_PORT q) = true ∧ u.qEn q = true ∧ u.sendingQueue q = false := ⟨((tQueue 8191).setQfld F.QTAB.Q_CTRL_EN 8191 1).setFld (pETH 0) F.ETH.PORT_STATUS_LINK 4, _, 8191, by decide +kernel, by decide +kernel, by decide, rfl, by decide +kernel, by decide +kernel, by decide +kernel⟩

theorem witness_FramesAndGatesOfTheScheduler_1 :
    ∃ (s : State) (f : Frame) (r : List Frame), s.tsch.handoff = f :: r := ⟨{ tSvc with tsch := { TschState.reset with handoff := [⟨8191, [], none, none⟩] } }, ⟨8191, [], none, none⟩, [], by decide +kernel⟩

theorem witness_FramesAndGatesOfTheScheduler_2 :
    ∃ (s : State), s.tsch.handoff = [] := ⟨tSvc, by decide +kernel⟩

theorem witness_FramesAndGatesOfTheScheduler_3 :
    ∃ (s : State) (f : Frame), (s.works pTSCH = false ∨ f.queue ≥ 8192 ∨ s.qEn f.queue = false) := ⟨(tSvc.on pTSCH), ⟨8192, [], none, none⟩, by decide +kernel⟩

theorem witness_FramesAndGatesOfTheScheduler_4 :
    ∃ (s : State) (f : Frame), s.works pTSCH = true ∧ f.queue < 8192 ∧ s.qEn f.queue = true ∧ f.len > s.qfld
      F.QTAB.Q_CTRL_MAX_FRAME f.queue := ⟨(tQueue 8191).setQfld F.QTAB.Q_CTRL_EN 8191 1, ⟨8191, List.replicate 9213 0, none, none⟩, by decide +kernel⟩

theorem witness_FramesAndGatesOfTheScheduler_5 :
    ∃ (s : State) (f : Frame), s.works pTSCH = true ∧ f.queue < 8192 ∧ s.qEn f.queue = true ∧ f.len ≤ s.qfld
      F.QTAB.Q_CTRL_MAX_FRAME f.queue ∧ s.qfld F.QTAB.Q_OCC_BYTES f.queue + (f.len + 64) > s.qfld F.QTAB.Q_BUF_KIB f.queue *
      1024 := ⟨((tQueue 8191).setQfld F.QTAB.Q_CTRL_EN 8191 1).setQfld F.QTAB.Q_OCC_BYTES 8191 10240, ⟨8191, List.replicate 60 0, none, none⟩, by decide +kernel⟩

theorem witness_FramesAndGatesOfTheScheduler_6 :
    ∃ (s : State) (f : Frame), s.works pTSCH = true ∧ f.queue < 8192 ∧ s.qEn f.queue = true ∧ f.len ≤ s.qfld
      F.QTAB.Q_CTRL_MAX_FRAME f.queue ∧ s.qfld F.QTAB.Q_OCC_BYTES f.queue + (f.len + 64) ≤ s.qfld F.QTAB.Q_BUF_KIB f.queue *
      1024 ∧ s.portUp (s.qPort f.queue) = false := ⟨(tQueue 8191).setQfld F.QTAB.Q_CTRL_EN 8191 1, ⟨8191, List.replicate 60 0, none, none⟩, by decide +kernel⟩

theorem witness_FramesAndGatesOfTheScheduler_7 :
    ∃ (s u : State) (f : Frame), s.works pTSCH = true ∧ f.queue < 8192 ∧ s.qEn f.queue = true ∧ f.len ≤ s.qfld
      F.QTAB.Q_CTRL_MAX_FRAME f.queue ∧ s.qfld F.QTAB.Q_OCC_BYTES f.queue + (f.len + 64) ≤ s.qfld F.QTAB.Q_BUF_KIB f.queue *
      1024 ∧ s.portUp (s.qPort f.queue) = true ∧ u = (s.setQueue f.queue
      { s.queueOf f.queue with frames := (s.queueOf f.queue).frames ++ [f] }).setQfld F.QTAB.Q_OCC_BYTES f.queue (s.qfld
      F.QTAB.Q_OCC_BYTES f.queue + (f.len + 64)) ∧ u.headTooLong (u.qPort f.queue) f.queue = false := ⟨((tQueue 8191).setQfld F.QTAB.Q_CTRL_EN 8191 1).setFld (pETH 0) F.ETH.PORT_STATUS_LINK 4, _, ⟨8191, List.replicate 60 0, none, none⟩, by decide +kernel, by decide +kernel, by decide +kernel, by decide +kernel, by decide +kernel, by decide +kernel, rfl, by decide +kernel⟩

theorem witness_FramesAndGatesOfTheScheduler_8 :
    ∃ (s u v : State) (p q : Nat) (f : Frame) (r : List Frame), p < 8 ∧ s.works pTSCH = true ∧ (s.portOf p).sending = none ∧ u =
      s.purgePort p ∧ u.nextQueue p = some q ∧ (u.queueOf q).frames = f :: r ∧ v = u.setQueue q
      { u.queueOf q with frames := r, tokens := u.tokensNow q - (f.len * 12000000 : Nat), tokAt := u.fabric } := ⟨(((tQueue 8191).setQfld F.QTAB.Q_CTRL_EN 8191 1).setFld (pETH 0) F.ETH.PORT_STATUS_LINK 4).setQueue 8191 { QueueState.reset with frames := [⟨8191, List.replicate 60 0, none, none⟩] }, _, _, 0, 8191, ⟨8191, List.replicate 60 0, none, none⟩, [], by decide, by decide +kernel, by decide +kernel, rfl, by decide +kernel, by decide +kernel, rfl⟩

theorem witness_FramesAndGatesOfTheScheduler_9 :
    ∃ (s : State) (p : Nat), (s.portOf p).sending.isSome = true := ⟨{ tSvc with tsch := { TschState.reset with ports := [(7, { PortState.reset with sending := some (3, ⟨3, [], none, none⟩) })] } }, 7, by decide +kernel⟩

theorem witness_FramesAndGatesOfTheScheduler_10 :
    ∃ (s u : State) (p c d : Nat), s.bar pTSCH = true ∧ p < 8 ∧ s.works pTSCH = true ∧ u = s.opBegin pTSCH 6 ∧ u.readGate p =
      .error (c, d) := ⟨((tSvc.on pTSCH)).setFld pTSCH (F.TSCH.GL_BASE_LO 7) 64, _, 7, 1, 0x15, by decide +kernel, by decide, by decide +kernel, rfl, gate_err _ _ _ _ (by decide +kernel)⟩

theorem witness_FramesAndGatesOfTheScheduler_11 :
    ∃ (s u : State) (p : Nat) (g : Option GateList), s.bar pTSCH = true ∧ p < 8 ∧ s.works pTSCH = true ∧ u = s.opBegin pTSCH 6 ∧
      u.readGate p = .ok g ∧ s.running = false := ⟨(tSvc.on pTSCH), _, 7, none, by decide +kernel, by decide, by decide +kernel, rfl, gate_none _ _ (by decide +kernel), by decide +kernel⟩

theorem witness_FramesAndGatesOfTheScheduler_12 :
    ∃ (s u : State) (p t : Nat) (g : Option GateList), s.bar pTSCH = true ∧ p < 8 ∧ s.works pTSCH = true ∧ u = s.opBegin pTSCH 6
      ∧ u.readGate p = .ok g ∧ s.running = true ∧ (s.portOf p).swap = none ∧ t = swapAt (s.portOf p).gate g s.now := ⟨((tSvc.on pTSCH)).ticking 5, _, 7, _, none, by decide +kernel, by decide, by decide +kernel, rfl, gate_none _ _ (by decide +kernel), by decide +kernel, by decide +kernel, rfl⟩

theorem witness_FramesAndGatesOfTheScheduler_13 :
    ∃ (s u : State) (p : Nat) (g : Option GateList), s.bar pTSCH = true ∧ p < 8 ∧ s.works pTSCH = true ∧ u = s.opBegin pTSCH 6 ∧
      u.readGate p = .ok g ∧ s.running = true ∧ (s.portOf p).swap.isSome = true := ⟨(((tSvc.on pTSCH)).ticking 5).setPort 7 { PortState.reset with swap := some (none, 9) }, _, 7, none, by decide +kernel, by decide, by decide +kernel, rfl, gate_none _ _ (by decide +kernel), by decide +kernel, by decide +kernel⟩

theorem witness_FramesAndGatesOfTheScheduler_14 :
    ∃ (s : State) (p t : Nat) (g : Option GateList), s.bar pTSCH = true ∧ p < 8 ∧ (s.portOf p).swap = some (g, t) ∧ s.now < t := ⟨((tSvc.on pTSCH)).setPort 7 { PortState.reset with swap := some (none, 9) }, 7, 9, none, by decide +kernel⟩

theorem witness_FramesAndGatesOfTheScheduler_15 :
    ∃ (s : State) (p t : Nat) (g : Option GateList), s.bar pTSCH = true ∧ p < 8 ∧ (s.portOf p).swap = some (g, t) ∧ s.now ≥ t := ⟨((tSvc.on pTSCH)).setPort 7 { PortState.reset with swap := some (none, 0) }, 7, 0, none, by decide +kernel⟩

theorem witness_FramesAndGatesOfTheScheduler_16 :
    ∃ (s : State) (p t : Nat) (g : Option GateList), (s.portOf p).swap = some (g, t) ∧ s.running = true ∧ t ≤ s.now := ⟨(((tSvc.on pTSCH)).ticking 9).setPort 7 { PortState.reset with swap := some (none, 9) }, 7, 9, none, by decide +kernel⟩

theorem witness_FramesAndGatesOfTheScheduler_17 :
    ∃ (s : State) (p : Nat), (s.portOf p).swap = none := ⟨tSvc, 7, by decide +kernel⟩

theorem witness_FramesAndGatesOfTheScheduler_18 :
    ∃ (s : State) (p : Nat), s.running = true ∧ (s.portOf p).gate.isSome = true := ⟨(((tSvc.on pTSCH)).ticking 9).setPort 7 { PortState.reset with gate := some ⟨[(64, 1)], 0, 1⟩ }, 7, by decide +kernel⟩

theorem witness_LanesFreezeAndResume_1 :
    ∃ (s u v w : State) (n d b : Nat), n < 38 ∧ laneRx n = true ∧ s.works (pLANE n) = true ∧ s.laneState (pLANE n) = laTrack ∧
      (d < s.fld (pLANE n) F.LANE.ADAPT_THRESH_DENSITY_MIN ∨ b < s.fld (pLANE n) F.LANE.ADAPT_THRESH_BAL_MIN) ∧ u = (s.setFld
      (pLANE n) F.LANE.ADAPT_STATS_DENSITY d).setFld (pLANE n) F.LANE.ADAPT_STATS_BALANCE b ∧ v = (if u.bit (pLANE n)
      F.LANE.LANE_CFG_BOUND_EN && u.outOfBounds n then u.boundRevert n else u) ∧ w = (if (v.laneOf n).snap = true then
      v.laneBaseline (pLANE n) else v) ∧ d ≤ 4096 ∧ b ≤ 4096 := ⟨((tSvc.on (pLANE 37)).setFld (pLANE 37) F.LANE.LANE_STATUS_STATE 3).setFld (pLANE 37) F.LANE.LANE_CFG_BOUND_EN 0, _, _, _, 37, 1023, 4096, by decide, by decide, by decide +kernel, by decide +kernel, by decide +kernel, rfl, rfl, rfl, by decide, by decide⟩

theorem witness_LanesFreezeAndResume_2 :
    ∃ (s u : State) (n d b : Nat), n < 38 ∧ laneRx n = true ∧ s.works (pLANE n) = true ∧ s.laneState (pLANE n) = laFrozen ∧ d ≤
      4096 ∧ b ≤ 4096 ∧ (d < s.fld (pLANE n) F.LANE.ADAPT_THRESH_DENSITY_MIN ∨ b < s.fld (pLANE n) F.LANE.ADAPT_THRESH_BAL_MIN)
      ∧ u = (s.setFld (pLANE n) F.LANE.ADAPT_STATS_DENSITY d).setFld (pLANE n) F.LANE.ADAPT_STATS_BALANCE b := ⟨((tSvc.on (pLANE 0)).setFld (pLANE 0) F.LANE.LANE_STATUS_STATE 4), _, 0, 4096, 511, by decide, by decide, by decide +kernel, by decide +kernel, by decide, by decide, by decide +kernel, rfl⟩

theorem witness_LanesFreezeAndResume_3 :
    ∃ (s u : State) (n d b : Nat), n < 38 ∧ laneRx n = true ∧ s.works (pLANE n) = true ∧ s.laneState (pLANE n) = laFrozen ∧ d ≤
      4096 ∧ b ≤ 4096 ∧ d ≥ s.fld (pLANE n) F.LANE.ADAPT_THRESH_DENSITY_MIN ∧ b ≥ s.fld (pLANE n) F.LANE.ADAPT_THRESH_BAL_MIN ∧
      u = (s.setFld (pLANE n) F.LANE.ADAPT_STATS_DENSITY d).setFld (pLANE n) F.LANE.ADAPT_STATS_BALANCE b ∧ (s.fld (pLANE n)
      F.LANE.LANE_STATUS_GOOD_WINDOWS + 1 < 16 ∨ s.bit (pLANE n) F.LANE.LANE_STATUS_HOST_HOLD = true) := ⟨((tSvc.on (pLANE 0)).setFld (pLANE 0) F.LANE.LANE_STATUS_STATE 4).setFld (pLANE 0) F.LANE.LANE_STATUS_GOOD_WINDOWS 14, _, 0, 1024, 512, by decide, by decide, by decide +kernel, by decide +kernel, by decide, by decide, by decide +kernel, by decide +kernel, rfl, by decide +kernel⟩

theorem witness_LanesFreezeAndResume_4 :
    ∃ (s u : State) (n d b : Nat), n < 38 ∧ laneRx n = true ∧ s.works (pLANE n) = true ∧ s.laneState (pLANE n) = laFrozen ∧ d ≤
      4096 ∧ b ≤ 4096 ∧ d ≥ s.fld (pLANE n) F.LANE.ADAPT_THRESH_DENSITY_MIN ∧ b ≥ s.fld (pLANE n) F.LANE.ADAPT_THRESH_BAL_MIN ∧
      u = (s.setFld (pLANE n) F.LANE.ADAPT_STATS_DENSITY d).setFld (pLANE n) F.LANE.ADAPT_STATS_BALANCE b ∧ s.fld (pLANE n)
      F.LANE.LANE_STATUS_GOOD_WINDOWS + 1 ≥ 16 ∧ s.bit (pLANE n) F.LANE.LANE_STATUS_HOST_HOLD = false := ⟨((tSvc.on (pLANE 0)).setFld (pLANE 0) F.LANE.LANE_STATUS_STATE 4).setFld (pLANE 0) F.LANE.LANE_STATUS_GOOD_WINDOWS 15, _, 0, 1024, 512, by decide, by decide, by decide +kernel, by decide +kernel, by decide, by decide, by decide +kernel, by decide +kernel, rfl, by decide +kernel, by decide +kernel⟩

theorem witness_LanesFreezeAndResume_5 :
    ∃ (s : State) (n : Nat), s.bar (pLANE n) = true ∧ n < 38 ∧ s.works (pLANE n) = true ∧ s.laneState (pLANE n) = laTrack := ⟨((tSvc.on (pLANE 37)).setFld (pLANE 37) F.LANE.LANE_STATUS_STATE 3), 37, by decide +kernel⟩

theorem witness_LanesFreezeAndResume_6 :
    ∃ (s : State) (n : Nat), s.bar (pLANE n) = true ∧ n < 38 ∧ s.works (pLANE n) = true ∧ s.laneState (pLANE n) ≠ laTrack := ⟨((tSvc.on (pLANE 37)).setFld (pLANE 37) F.LANE.LANE_STATUS_STATE 4), 37, by decide +kernel⟩

theorem witness_LanesFreezeAndResume_7 :
    ∃ (s : State) (n : Nat), s.bar (pLANE n) = true ∧ n < 38 ∧ s.works (pLANE n) = true := ⟨((tSvc.on (pLANE 37)).setFld (pLANE 37) F.LANE.LANE_STATUS_STATE 4), 37, by decide +kernel⟩

theorem witness_LanesFreezeAndResume_8 :
    ∃ (s : State) (n : Nat), s.bit (pLANE n) F.LANE.ES_STATUS_BUSY = false := ⟨tSvc, 37, by decide +kernel⟩

theorem witness_LanesFreezeAndResume_9 :
    ∃ (d b : Nat), (4096 < d ∨ 4096 < b) := ⟨0, 4097, by decide⟩

theorem witness_LaneTestsAndEyeScan_1 :
    ∃ (s : State) (n : Nat), s.bar (pLANE n) = true ∧ n < 38 ∧ s.works (pLANE n) = true ∧ s.laneState (pLANE n) = laTrack := ⟨((tSvc.on (pLANE 37)).setFld (pLANE 37) F.LANE.LANE_STATUS_STATE 3), 37, by decide +kernel⟩

theorem witness_LaneTestsAndEyeScan_2 :
    ∃ (s : State) (n : Nat), s.bar (pLANE n) = true ∧ n < 38 ∧ s.works (pLANE n) = true ∧ s.laneState (pLANE n) ≠ laTrack := ⟨((tSvc.on (pLANE 37)).setFld (pLANE 37) F.LANE.LANE_STATUS_STATE 4), 37, by decide +kernel⟩

theorem witness_LaneTestsAndEyeScan_3 :
    ∃ (s : State) (n : Nat), s.bar (pLANE n) = true ∧ n < 38 ∧ s.works (pLANE n) = true ∧ laneTx n = true ∧ s.fld (pLANE n)
      F.LANE.LANE_CFG_LOOPBACK ≠ 1 := ⟨((tSvc.on (pLANE 37)).setFld (pLANE 37) F.LANE.LANE_STATUS_STATE 3), 37, by decide +kernel⟩

theorem witness_LaneTestsAndEyeScan_4 :
    ∃ (s : State) (n : Nat), s.bar (pLANE n) = true ∧ n < 38 ∧ s.works (pLANE n) = true ∧ laneTx n = true ∧ s.fld (pLANE n)
      F.LANE.LANE_CFG_LOOPBACK = 1 ∧ s.bit (pLANE n) F.LANE.PRBS_STATUS_CHK_LOCK = true := ⟨(((tSvc.on (pLANE 37)).setFld (pLANE 37) F.LANE.LANE_STATUS_STATE 3).setFld (pLANE 37) F.LANE.LANE_CFG_LOOPBACK 1).setFld (pLANE 37) F.LANE.PRBS_STATUS_CHK_LOCK 1, 37, by decide +kernel⟩

theorem witness_LaneTestsAndEyeScan_5 :
    ∃ (s : State) (n : Nat), n < 38 ∧ s.works (pLANE n) = true ∧ s.fld (pLANE n) F.LANE.TEST_CFG_RATE_EXP ≠ 0 ∧ laneTx n = true
      ∧ s.fld (pLANE n) F.LANE.LANE_CFG_LOOPBACK ≠ 1 := ⟨((tSvc.on (pLANE 37)).setFld (pLANE 37) F.LANE.LANE_STATUS_STATE 3).setFld (pLANE 37) F.LANE.TEST_CFG_RATE_EXP 40, 37, by decide +kernel⟩

theorem witness_LaneTestsAndEyeScan_6 :
    ∃ (s : State) (n c d : Nat), s.bar (pLANE n) = true ∧ n < 38 ∧ s.works (pLANE n) = true ∧ s.esRefusal n = some (c, d) := ⟨((tSvc.on (pLANE 37)).setFld (pLANE 37) F.LANE.LANE_STATUS_STATE 2).setReg (F.LANE.ES_CTRL.addr (pLANE 37)) 0x28010000#32, 37, _, _, by decide +kernel, by decide, by decide +kernel, rfl⟩

theorem witness_LaneTestsAndEyeScan_7 :
    ∃ (s : State) (n : Nat), s.bar (pLANE n) = true ∧ n < 38 ∧ s.works (pLANE n) = true ∧ s.esRefusal n = none := ⟨((((tSvc.on (pLANE 37)).setFld (pLANE 37) F.LANE.LANE_STATUS_STATE 3).setFld (pLANE 37) F.LANE.ES_CTRL_EYE 1).setFld (pLANE 37) F.LANE.ES_CTRL_DWELL 40), 37, by decide +kernel⟩

theorem witness_LaneTestsAndEyeScan_8 :
    ∃ (s : State) (n : Nat), s.bar (pLANE n) = true ∧ n < 38 ∧ s.works (pLANE n) = true := ⟨((tSvc.on (pLANE 0)).setFld (pLANE 0) F.LANE.LANE_STATUS_STATE 3), 0, by decide +kernel⟩

theorem witness_LaneTestsAndEyeScan_9 :
    ∃ (s : State) (n errs : Nat), n < 38 ∧ s.works (pLANE n) = true ∧ s.bit (pLANE n) F.LANE.ES_STATUS_BUSY = true ∧ errs ≤ 2 ^
      s.fld (pLANE n) F.LANE.ES_CTRL_DWELL := ⟨(((tSvc.on (pLANE 0)).setFld (pLANE 0) F.LANE.LANE_STATUS_STATE 3).setFld (pLANE 0) F.LANE.ES_STATUS_BUSY 1).setFld (pLANE 0) F.LANE.ES_CTRL_DWELL 10, 0, 1024, by decide +kernel⟩

theorem witness_LaneTestsAndEyeScan_10 :
    ∃ (s : State) (n : Nat) (v : Word), s.bar (pLANE n) = true ∧ n < 38 ∧ laneTx n = true ∧ ffeLegal (F.LANE.FFE_PRE.of v)
      (F.LANE.FFE_MAIN.of v) (F.LANE.FFE_POST.of v) = false := ⟨tSvc, 37, 31#32, by decide +kernel⟩

theorem witness_LaneTestsAndEyeScan_11 :
    ∃ (s : State) (n : Nat) (v : Word), s.bar (pLANE n) = true ∧ n < 38 ∧ laneTx n = true ∧ ffeLegal (F.LANE.FFE_PRE.of v)
      (F.LANE.FFE_MAIN.of v) (F.LANE.FFE_POST.of v) = true ∧ laneKind n ≠ 2 ∧ s.countsOff (s.laneOwner n) = false := ⟨tSvc.on pROPE, 37, BitVec.ofNat 32 (32 * 2 ^ F.LANE.FFE_MAIN.lo), by decide +kernel⟩

theorem witness_LaneTestsAndEyeScan_12 :
    ∃ (s : State) (n : Nat) (v : Word), s.bar (pLANE n) = true ∧ n < 38 ∧ laneTx n = true ∧ ffeLegal (F.LANE.FFE_PRE.of v)
      (F.LANE.FFE_MAIN.of v) (F.LANE.FFE_POST.of v) = true ∧ (laneKind n = 2 ∨ s.countsOff (s.laneOwner n) = true) := ⟨tSvc.on (pSDITX 1), 25, BitVec.ofNat 32 (63 * 2 ^ F.LANE.FFE_MAIN.lo), by decide +kernel⟩

theorem witness_LaneTestsAndEyeScan_13 :
    ∃ (s : State) (n : Nat) (v : Word), s.bar (pLANE n) = true ∧ n < 38 ∧ (F.LANE.TEST_CFG_BURST_LEN.of v = 0 ∨
      (F.LANE.TEST_CFG_RATE_EXP.of v ≠ 0 ∧ (F.LANE.TEST_CFG_RATE_EXP.of v < 4 ∨ 40 < F.LANE.TEST_CFG_RATE_EXP.of v))) := ⟨tSvc, 37, 0#32, by decide +kernel⟩

theorem witness_LaneTestsAndEyeScan_14 :
    ∃ (s : State) (n : Nat) (v : Word), s.bar (pLANE n) = true ∧ n < 38 ∧ ¬ (F.LANE.TEST_CFG_BURST_LEN.of v = 0 ∨
      (F.LANE.TEST_CFG_RATE_EXP.of v ≠ 0 ∧ (F.LANE.TEST_CFG_RATE_EXP.of v < 4 ∨ 40 < F.LANE.TEST_CFG_RATE_EXP.of v))) ∧
      (F.LANE.TEST_CFG_GEN_PAT.of v > 4 ∨ F.LANE.TEST_CFG_CHK_PAT.of v > 4) := ⟨tSvc, 37, BitVec.ofNat 32 (2 ^ F.LANE.TEST_CFG_BURST_LEN.lo + 5 * 2 ^ F.LANE.TEST_CFG_GEN_PAT.lo), by decide +kernel⟩

theorem witness_LaneTestsAndEyeScan_15 :
    ∃ (s : State) (n : Nat) (v : Word), s.bar (pLANE n) = true ∧ n < 38 ∧ ¬ (F.LANE.TEST_CFG_BURST_LEN.of v = 0 ∨
      (F.LANE.TEST_CFG_RATE_EXP.of v ≠ 0 ∧ (F.LANE.TEST_CFG_RATE_EXP.of v < 4 ∨ 40 < F.LANE.TEST_CFG_RATE_EXP.of v))) ∧
      F.LANE.TEST_CFG_GEN_PAT.of v ≤ 4 ∧ F.LANE.TEST_CFG_CHK_PAT.of v ≤ 4 ∧ (F.LANE.TEST_CFG_GEN_EN.of v = 0 ∨ s.countsOff
      (s.laneOwner n) = true) ∧ F.LANE.TEST_CFG_CHK_EN.of v = F.LANE.TEST_CFG_CHK_EN.of (s.reg (F.LANE.TEST_CFG.addr (pLANE n))) := ⟨tSvc, 37, BitVec.ofNat 32 (2 ^ F.LANE.TEST_CFG_BURST_LEN.lo), by decide +kernel⟩

theorem witness_LaneTestsAndEyeScan_16 :
    ∃ (s u : State) (n : Nat) (v : Word), s.bar (pLANE n) = true ∧ n < 38 ∧ u = (s.setFld (pLANE n) F.LANE.LANE_CFG_ADAPT_EN
      (F.LANE.LANE_CFG_ADAPT_EN.of v)).setFld (pLANE n) F.LANE.LANE_CFG_BOUND_EN (F.LANE.LANE_CFG_BOUND_EN.of v) ∧ v.toNat % 16
      ≠ (s.reg (F.LANE.LANE_CFG.addr (pLANE n))).toNat % 16 ∧ F.LANE.LANE_CFG_LOOPBACK.of v = 3 := ⟨tSvc, _, 37, BitVec.ofNat 32 (3 * 2 ^ F.LANE.LANE_CFG_LOOPBACK.lo), by decide +kernel, by decide, rfl, by decide +kernel, by decide +kernel⟩

theorem witness_LaneTestsAndEyeScan_17 :
    ∃ (s u : State) (n : Nat) (v : Word), s.bar (pLANE n) = true ∧ n < 38 ∧ u = (s.setFld (pLANE n) F.LANE.LANE_CFG_ADAPT_EN
      (F.LANE.LANE_CFG_ADAPT_EN.of v)).setFld (pLANE n) F.LANE.LANE_CFG_BOUND_EN (F.LANE.LANE_CFG_BOUND_EN.of v) ∧ v.toNat % 16
      ≠ (s.reg (F.LANE.LANE_CFG.addr (pLANE n))).toNat % 16 ∧ F.LANE.LANE_CFG_LOOPBACK.of v ≠ 3 ∧ F.LANE.LANE_CFG_LOOPBACK.of v
      ≠ 0 ∧ (laneRx n = false ∨ laneTx n = false) := ⟨tSvc, _, 8, BitVec.ofNat 32 (1 * 2 ^ F.LANE.LANE_CFG_LOOPBACK.lo), by decide +kernel, by decide, rfl, by decide +kernel, by decide +kernel, by decide +kernel, by decide +kernel⟩

theorem witness_LaneTestsAndEyeScan_18 :
    ∃ (s u : State) (n : Nat) (v : Word), s.bar (pLANE n) = true ∧ n < 38 ∧ u = (s.setFld (pLANE n) F.LANE.LANE_CFG_ADAPT_EN
      (F.LANE.LANE_CFG_ADAPT_EN.of v)).setFld (pLANE n) F.LANE.LANE_CFG_BOUND_EN (F.LANE.LANE_CFG_BOUND_EN.of v) ∧ v.toNat % 16
      ≠ (s.reg (F.LANE.LANE_CFG.addr (pLANE n))).toNat % 16 ∧ F.LANE.LANE_CFG_LOOPBACK.of v ≠ 3 ∧ laneRx n = true ∧ laneTx n =
      true ∧ s.countsOff (s.laneOwner n) = false := ⟨tSvc.on pROPE, _, 37, BitVec.ofNat 32 (2 * 2 ^ F.LANE.LANE_CFG_LOOPBACK.lo), by decide +kernel, by decide, rfl, by decide +kernel, by decide +kernel, by decide +kernel, by decide +kernel, by decide +kernel⟩

theorem witness_LaneTestsAndEyeScan_19 :
    ∃ (s u : State) (n : Nat) (v : Word), s.bar (pLANE n) = true ∧ n < 38 ∧ u = (s.setFld (pLANE n) F.LANE.LANE_CFG_ADAPT_EN
      (F.LANE.LANE_CFG_ADAPT_EN.of v)).setFld (pLANE n) F.LANE.LANE_CFG_BOUND_EN (F.LANE.LANE_CFG_BOUND_EN.of v) ∧ v.toNat % 16
      ≠ (s.reg (F.LANE.LANE_CFG.addr (pLANE n))).toNat % 16 ∧ F.LANE.LANE_CFG_LOOPBACK.of v ≠ 3 ∧ laneRx n = true ∧ laneTx n =
      true ∧ s.countsOff (s.laneOwner n) = true := ⟨tSvc, _, 37, BitVec.ofNat 32 (2 * 2 ^ F.LANE.LANE_CFG_LOOPBACK.lo), by decide +kernel, by decide, rfl, by decide +kernel, by decide +kernel, by decide +kernel, by decide +kernel, by decide +kernel⟩

theorem witness_LaneTestsAndEyeScan_20 :
    ∃ (s : State) (n : Nat), n < 38 ∧ laneRx n = true ∧ s.works (pLANE n) = true ∧ s.bit (pLANE n) F.LANE.TEST_CFG_CHK_EN = true
      ∧ s.bit (pLANE n) F.LANE.PRBS_STATUS_CHK_LOCK = false ∧ s.laneCarries n = false := ⟨((tSvc.on (pLANE 37)).setFld (pLANE 37) F.LANE.LANE_STATUS_STATE 3).setFld (pLANE 37) F.LANE.TEST_CFG_CHK_EN 1, 37, by decide +kernel⟩

theorem witness_LaneTestsAndEyeScan_21 :
    ∃ (s : State) (n : Nat), s.laneCarries n = true := ⟨((tSvc.on (pLANE 33)).setFld (pLANE 33) F.LANE.LANE_STATUS_STATE 3).setFld pHOST F.HOST.LINK_STATUS_DL_UP 1, 33, by decide +kernel⟩

theorem witness_LaneTestsAndEyeScan_22 :
    ∃ (s : State) (n : Nat), n < 38 ∧ s.works (pLANE n) = true ∧ s.bit (pLANE n) F.LANE.PRBS_STATUS_CHK_LOCK = true := ⟨((tSvc.on (pLANE 37)).setFld (pLANE 37) F.LANE.LANE_STATUS_STATE 3).setFld (pLANE 37) F.LANE.PRBS_STATUS_CHK_LOCK 1, 37, by decide +kernel⟩

theorem witness_LanesAndLinksComeUp_1 :
    ∃ (s : State) (n : Nat), s.bar (pLANE n) = true ∧ n < 38 ∧ s.works (pLANE n) = true ∧ (s.laneOf n).lostAt ≠ some s.fabric ∧
      laneKind n = 2 := ⟨((tSvc.on (pLANE 25)).setFld (pLANE 25) F.LANE.LANE_STATUS_STATE 3), 25, by decide +kernel⟩

theorem witness_LanesAndLinksComeUp_2 :
    ∃ (s : State) (n : Nat), s.bar (pLANE n) = true ∧ n < 38 ∧ s.works (pLANE n) = true ∧ (s.laneOf n).lostAt ≠ some s.fabric ∧
      laneKind n ≠ 2 ∧ s.laneBusy n = true := ⟨((tSvc.on (pLANE 37)).setFld (pLANE 37) F.LANE.LANE_STATUS_STATE 3).setFld (pLANE 34) F.LANE.LANE_STATUS_STATE 1, 37, by decide +kernel⟩

theorem witness_LanesAndLinksComeUp_3 :
    ∃ (s : State) (n : Nat), s.bar (pLANE n) = true ∧ n < 38 ∧ s.works (pLANE n) = true ∧ (s.laneOf n).lostAt ≠ some s.fabric ∧
      laneKind n = 3 ∧ s.laneBusy n = false := ⟨((tSvc.on (pLANE 33)).setFld (pLANE 33) F.LANE.LANE_STATUS_STATE 3), 33, by decide +kernel⟩

theorem witness_LanesAndLinksComeUp_4 :
    ∃ (s : State) (n : Nat), s.bar (pLANE n) = true ∧ n < 38 ∧ s.works (pLANE n) = true ∧ (s.laneOf n).lostAt ≠ some s.fabric ∧
      laneKind n = 0 ∧ s.laneBusy n = false ∧ s.ethLink (s.lanePort n) = ekUp := ⟨((tSvc.on (pLANE 7)).setFld (pLANE 7) F.LANE.LANE_STATUS_STATE 3).setFld (pETH 7) F.ETH.PORT_STATUS_LINK 4, 7, by decide +kernel⟩

theorem witness_LanesAndLinksComeUp_5 :
    ∃ (s : State) (n : Nat), s.bar (pLANE n) = true ∧ n < 38 ∧ s.works (pLANE n) = true ∧ (s.laneOf n).lostAt = some s.fabric := ⟨(((tSvc.on (pLANE 37)).setFld (pLANE 37) F.LANE.LANE_STATUS_STATE 0)).setLane 37 { LaneState.reset with lostAt := some 0 }, 37, by decide +kernel⟩

theorem witness_LanesAndLinksComeUp_6 :
    ∃ (s : State) (n : Nat), n < 38 ∧ laneRx n = true ∧ s.works (pLANE n) = true ∧ s.laneState (pLANE n) = laTrain ∧ laneKind n
      ≠ 0 ∧ laneKind n ≠ 3 := ⟨((tSvc.on (pLANE 37)).setFld (pLANE 37) F.LANE.LANE_STATUS_STATE 2), 37, by decide +kernel⟩

theorem witness_LanesAndLinksComeUp_7 :
    ∃ (s : State) (n : Nat), n < 38 ∧ laneRx n = true ∧ s.works (pLANE n) = true ∧ s.laneState (pLANE n) = laTrain ∧ (laneKind n
      = 0 ∨ laneKind n = 3) := ⟨((tSvc.on (pLANE 7)).setFld (pLANE 7) F.LANE.LANE_STATUS_STATE 2), 7, by decide +kernel⟩

theorem witness_LanesAndLinksComeUp_8 :
    ∃ (s : State) (p : Nat), (s.laneState p = laTrain ∨ s.laneState p = laAcquire) := ⟨((tSvc.on (pLANE 37)).setFld (pLANE 37) F.LANE.LANE_STATUS_STATE 1), pLANE 37, by decide +kernel⟩

theorem witness_LanesAndLinksComeUp_9 :
    ∃ (s : State) (n : Nat), n < 38 ∧ s.works (pLANE n) = true ∧ s.laneState (pLANE n) = laTrain ∧ laneKind n = 3 := ⟨((tSvc.on (pLANE 33)).setFld (pLANE 33) F.LANE.LANE_STATUS_STATE 2), 33, by decide +kernel⟩

theorem witness_LanesAndLinksComeUp_10 :
    ∃ (s : State) (n : Nat), n < 38 ∧ s.works (pLANE n) = true ∧ s.laneState (pLANE n) = laTrain ∧ laneKind n = 0 ∧
      (s.laneTrainFailed (pLANE n) false).ethLink (s.lanePort n) ≠ ekUp := ⟨((tSvc.on (pLANE 7)).setFld (pLANE 7) F.LANE.LANE_STATUS_STATE 2), 7, by decide +kernel⟩

theorem witness_LanesAndLinksComeUp_11 :
    ∃ (s u : State) (n : Nat), n < 38 ∧ laneRx n = true ∧ s.works (pLANE n) = true ∧ s.laneTracks (pLANE n) = true ∧ laneKind n
      ≠ 1 ∧ u = (((s.raise (pLANE n) F.LANE.intCDR_LOST).err (pLANE n) 2).laneTo (pLANE n) laDown) := ⟨((tSvc.on (pLANE 37)).setFld (pLANE 37) F.LANE.LANE_STATUS_STATE 4), _, 37, by decide +kernel, by decide +kernel, by decide +kernel, by decide +kernel, by decide +kernel, rfl⟩

theorem witness_LanesAndLinksComeUp_12 :
    ∃ (s : State) (n : Nat), n < 38 ∧ laneRx n = true ∧ s.works (pLANE n) = true ∧ s.laneTracks (pLANE n) = false ∧ s.bit (pLANE
      n) F.LANE.LANE_STATUS_CDR_LOCK = true ∧ laneKind n ≠ 1 := ⟨(((tSvc.on (pLANE 37)).setFld (pLANE 37) F.LANE.LANE_STATUS_STATE 1)).setFld (pLANE 37) F.LANE.LANE_STATUS_CDR_LOCK 1, 37, by decide +kernel⟩

theorem witness_LanesAndLinksComeUp_13 :
    ∃ (s : State) (n : Nat), n < 38 ∧ laneRx n = true ∧ s.works (pLANE n) = true ∧ s.bit (pLANE n) F.LANE.LANE_STATUS_CDR_LOCK =
      false ∧ (s.laneState (pLANE n) = laAcquire ∨ s.laneState (pLANE n) = laTrain) ∧ laneKind n ≠ 1 := ⟨((tSvc.on (pLANE 37)).setFld (pLANE 37) F.LANE.LANE_STATUS_STATE 1), 37, by decide +kernel⟩

theorem witness_LanesAndLinksComeUp_14 :
    ∃ (s : State) (p : Nat), p < 8 ∧ s.works (pETH p) = true ∧ s.ethLink p = ekAn := ⟨((tSvc.on (pETH 7)).setFld (pETH 7) F.ETH.PORT_STATUS_LINK 1), 7, by decide +kernel⟩

theorem witness_LanesAndLinksComeUp_15 :
    ∃ (s : State) (p : Nat), p < 8 ∧ s.works (pETH p) = true ∧ s.ethLink p = ekAn := ⟨((tSvc.on (pETH 7)).setFld (pETH 7) F.ETH.PORT_STATUS_LINK 1), 7, by decide +kernel⟩

theorem witness_LanesAndLinksComeUp_16 :
    ∃ (s : State) (p : Nat), p < 8 ∧ s.works (pETH p) = true ∧ s.ethLink p = ekTrain := ⟨((tSvc.on (pETH 7)).setFld (pETH 7) F.ETH.PORT_STATUS_LINK 2), 7, by decide +kernel⟩

theorem witness_LanesAndLinksComeUp_17 :
    ∃ (s : State) (p : Nat), p < 8 ∧ s.works (pETH p) = true ∧ s.ethLink p = ekAlign ∧ s.time.root ≥ Tab.get 0 s.ethAt p +
      6000000000 := ⟨((tSvc.on (pETH 7)).setFld (pETH 7) F.ETH.PORT_STATUS_LINK 3).clock 0 6000000000, 7, by decide +kernel⟩

theorem witness_LanesAndLinksComeUp_18 :
    ∃ (s : State) (p : Nat), s.ethLink p = ekUp := ⟨((tSvc.on (pETH 7)).setFld (pETH 7) F.ETH.PORT_STATUS_LINK 4), 7, by decide +kernel⟩

theorem witness_LanesAndLinksComeUp_19 :
    ∃ (s : State) (p : Nat), p < 8 ∧ s.works (pETH p) = true ∧ s.ethLink p = ekTrain ∧ (∀ l ∈ s.ethLanes p, s.laneState l =
      laTrack) := ⟨((tSvc.on (pETH 7)).setFld (pETH 7) F.ETH.PORT_STATUS_LINK 2).setFld (pLANE 7) F.LANE.LANE_STATUS_STATE 3, 7, by decide +kernel⟩

theorem witness_LanesAndLinksComeUp_20 :
    ∃ (s : State) (p : Nat), p < 8 ∧ s.works (pETH p) = true ∧ s.ethLink p = ekAlign := ⟨((tSvc.on (pETH 7)).setFld (pETH 7) F.ETH.PORT_STATUS_LINK 3), 7, by decide +kernel⟩

theorem witness_LanesAndLinksComeUp_21 :
    ∃ (s : State) (p : Nat), p < 8 ∧ s.works (pETH p) = true ∧ s.ethLink p = ekUp ∧ s.gatedPort p = false := ⟨((tSvc.on (pETH 7)).setFld (pETH 7) F.ETH.PORT_STATUS_LINK 4), 7, by decide +kernel⟩

theorem witness_LanesAndLinksComeUp_22 :
    ∃ (s : State) (p : Nat), p < 8 ∧ s.works (pETH p) = true ∧ s.ethLink p = ekDown ∧ s.time.root ≥ Tab.get 0 s.ethAt p + s.fld
      (pETH p) F.ETH.LINK_CFG_RETRY_MS * 12000000 := ⟨((tSvc.on (pETH 7)).setFld (pETH 7) F.ETH.PORT_STATUS_LINK 0).clock 0 12000000000000, 7, by decide +kernel⟩

theorem witness_LanesAndLinksComeUp_23 :
    ∃ (s : State) (p : Nat), s.ethLink p ≠ ekDown := ⟨((tSvc.on (pETH 7)).setFld (pETH 7) F.ETH.PORT_STATUS_LINK 4), 7, by decide +kernel⟩

theorem witness_LanesAndLinksComeUp_24 :
    ∃ (s : State) (v : Word), s.bar (pETH 0) = true ∧ v.toNat % 4 = 3 := ⟨tSvc, 3#32, by decide +kernel⟩

theorem witness_LanesAndLinksComeUp_25 :
    ∃ (s : State) (v : Word), s.bar (pETH 0) = true ∧ v.toNat % 4 ≠ 3 := ⟨tSvc, 2#32, by decide +kernel⟩

theorem witness_LanesAndLinksComeUp_26 :
    ∃ (p : Nat), p ≠ 0 := ⟨7, by decide⟩

theorem witness_LanesAndLinksComeUp_27 :
    ∃ (s : State) (n i : Nat), n < 16 ∧ s.works (pSDIRX n) = true ∧ i < s.sdiLinks n ∧ s.sdiLocked n i = false ∧ s.bit (sdiLane
      n i) F.LANE.LANE_STATUS_CDR_LOCK = false ∧ s.time.root ≥ (s.sdiPlace n i).since + 24000000 := ⟨((tSvc.on (pSDIRX 15)).clock 0 24000000), 15, 0, by decide +kernel⟩

theorem witness_LanesAndLinksComeUp_28 :
    ∃ (s : State) (n i : Nat), s.time.root < (s.sdiPlace n i).since + 24000000 := ⟨((tSvc.on (pSDIRX 15))), 15, 0, by decide +kernel⟩

theorem witness_LanesAndLinksComeUp_29 :
    ∃ (s u : State) (n : Nat), n < 16 ∧ s.works (pSDIRX n) = true ∧ s.sdiLinks n = 1 ∧ s.sdiLocked n 0 = false ∧ s.bit (sdiLane
      n 0) F.LANE.LANE_STATUS_CDR_LOCK = true ∧ s.canonical = true ∧ u = (s.setFld (pSDIRX n) (sdiLockBit 0) 1).setFld (pSDIRX
      n) F.SDIRX.LOCK_STATUS_RATE (sdiRateCode (s.sdiPlace n 0).rate) ∧ u.sdiLocked n 0 = true := ⟨(tSvc.on (pSDIRX 15)).setFld (sdiLane 15 0) F.LANE.LANE_STATUS_CDR_LOCK 1, _, 15, by decide, by decide +kernel, by decide +kernel, by decide +kernel, by decide +kernel, by decide +kernel, rfl, by decide +kernel⟩

theorem witness_LanesAndLinksComeUp_30 :
    ∃ (s : State) (n i : Nat), n < 16 ∧ s.works (pSDIRX n) = true ∧ i < s.sdiLinks n ∧ s.sdiLocked n i = true := ⟨((tSvc.on (pSDIRX 15)).setFld (pSDIRX 15) (sdiLockBit 0) 1), 15, 0, by decide +kernel⟩

theorem witness_LanesAndLinksComeUp_31 :
    ∃ (s : State) (n i : Nat), s.sdiLocked n i = true := ⟨((tSvc.on (pSDIRX 15)).setFld (pSDIRX 15) (sdiLockBit 0) 1), 15, 0, by decide +kernel⟩

theorem witness_EthernetFramesGoToTheirTaker_1 :
    ∃ (uw : Nat), uw ≠ 0 := ⟨1, by decide⟩

theorem witness_EthernetFramesGoToTheirTaker_2 :
    ∃ (s : State) (p : Nat), s.portUp p = false := ⟨tSvc.on (pETH 7), 7, by decide +kernel⟩

theorem witness_EthernetFramesGoToTheirTaker_3 :
    ∃ (s u : State) (p cw uw sy : Nat), u = s.fecCount p cw uw sy ∧ p < 8 ∧ s.works (pETH p) = true ∧ s.portUp p = true := ⟨((tSvc.on (pETH 7)).setFld (pETH 7) F.ETH.PORT_STATUS_LINK 4), _, 7, 1, 2, 3, rfl, by decide +kernel⟩

theorem witness_EthernetFramesGoToTheirTaker_4 :
    ∃ (s u : State) (p cw uw sy : Nat) (fr : List Byte), u = s.fecCount p cw uw sy ∧ p < 8 ∧ s.works (pETH p) = true ∧ s.portUp
      p = true ∧ (fr.length + 4 < 64 ∨ 9216 < fr.length + 4) := ⟨((tSvc.on (pETH 7)).setFld (pETH 7) F.ETH.PORT_STATUS_LINK 4), _, 7, 1, 2, 3, List.replicate 59 255#8, rfl, by decide +kernel⟩

theorem witness_EthernetFramesGoToTheirTaker_5 :
    ∃ (s u : State) (p cw uw sy : Nat) (fr : List Byte), u = s.fecCount p cw uw sy ∧ p < 8 ∧ s.works (pETH p) = true ∧ s.portUp
      p = true ∧ 60 ≤ fr.length ∧ fr.length ≤ 9212 ∧ ethType fr = 0x8808 := ⟨((tSvc.on (pETH 7)).setFld (pETH 7) F.ETH.PORT_STATUS_LINK 4), _, 7, 1, 2, 3, List.replicate 12 255#8 ++ [0x88#8, 0x08#8] ++ List.replicate 46 0#8, rfl, by decide +kernel⟩

theorem witness_EthernetFramesGoToTheirTaker_6 :
    ∃ (s u : State) (p cw uw sy : Nat) (fr : List Byte), u = s.fecCount p cw uw sy ∧ p < 8 ∧ s.works (pETH p) = true ∧ s.portUp
      p = true ∧ 60 ≤ fr.length ∧ fr.length ≤ 9212 ∧ ethType fr ≠ 0x8808 ∧ (u.tagAccepted p fr = false ∨ u.daAccepted p fr =
      false) := ⟨((tSvc.on (pETH 7)).setFld (pETH 7) F.ETH.PORT_STATUS_LINK 4), _, 7, 1, 2, 3, List.replicate 60 254#8, rfl, by decide +kernel⟩

theorem witness_EthernetFramesGoToTheirTaker_7 :
    ∃ (s u : State) (p cw uw sy : Nat) (fr : List Byte), u = s.fecCount p cw uw sy ∧ p < 8 ∧ s.works (pETH p) = true ∧ s.portUp
      p = true ∧ 60 ≤ fr.length ∧ fr.length ≤ 9212 ∧ ethType fr ≠ 0x8808 ∧ u.tagAccepted p fr = true ∧ u.daAccepted p fr = true := ⟨((tSvc.on (pETH 7)).setFld (pETH 7) F.ETH.PORT_STATUS_LINK 4), _, 7, 1, 2, 3, List.replicate 60 255#8, rfl, by decide +kernel⟩

theorem witness_EthernetFramesGoToTheirTaker_8 :
    ∃ (s : State) (p e : Nat) (fr : List Byte), s.echoEntry p fr = some e := ⟨((((tSvc.on pPAIR).setFld pPAIR (F.PAIR.ECHO_CTRL_EN 7) 1).setFld pPAIR (F.PAIR.ECHO_CTRL_ETH 7) 3).setFld pPAIR (F.PAIR.ECHO_CTRL_UDP 7) 5000).setFld pPAIR (F.PAIR.ECHO_DEST 7) 0xE0000001, 3, 7, tUdp, by decide +kernel⟩

theorem witness_EthernetFramesGoToTheirTaker_9 :
    ∃ (s : State) (p : Nat) (fr : List Byte) (x : Nat × Nat) (xs : List (Nat × Nat)), s.echoEntry p fr = none ∧ s.pathsOf p
      (ipv4Of fr) = x :: xs := ⟨tPath, 3, tUdp, (31, 0), [], by decide +kernel⟩

theorem witness_EthernetFramesGoToTheirTaker_10 :
    ∃ (s : State) (p : Nat) (fr : List Byte), s.echoEntry p fr = none ∧ s.pathsOf p (ipv4Of fr) = [] ∧ (s.bit (pETH p)
      F.ETH.HOST_CFG_HOST_EN && s.fld (pETH p) F.ETH.HOST_CFG_RX_CLASSES / 2 ^ rxClass fr % 2 == 1) = true := ⟨(((tSvc.on (pETH 7)).setFld (pETH 7) F.ETH.PORT_STATUS_LINK 4).setFld (pETH 7) F.ETH.HOST_CFG_HOST_EN 1).setFld (pETH 7) F.ETH.HOST_CFG_RX_CLASSES 16, 7, (List.replicate 60 255#8), by decide +kernel⟩

theorem witness_EthernetFramesGoToTheirTaker_11 :
    ∃ (s : State) (p : Nat) (fr : List Byte), s.echoEntry p fr = none ∧ s.pathsOf p (ipv4Of fr) = [] ∧ (s.bit (pETH p)
      F.ETH.HOST_CFG_HOST_EN && s.fld (pETH p) F.ETH.HOST_CFG_RX_CLASSES / 2 ^ rxClass fr % 2 == 1) = false := ⟨(((tSvc.on (pETH 7)).setFld (pETH 7) F.ETH.PORT_STATUS_LINK 4).setFld (pETH 7) F.ETH.HOST_CFG_HOST_EN 1).setFld (pETH 7) F.ETH.HOST_CFG_RX_CLASSES 15, 7, (List.replicate 60 255#8), by decide +kernel⟩

theorem witness_EthernetFramesGoToTheirTaker_12 :
    ∃ (s : State) (p n : Nat), p < 8 ∧ n < 128 ∧ s.bar (pETH p) = true := ⟨tSvc, 7, 127, by decide +kernel⟩

theorem witness_EthernetFramesGoToTheirTaker_13 :
    ∃ (s : State) (p n : Nat) (v : Word), p < 8 ∧ n < 128 ∧ s.bar (pETH p) = true ∧ v.toNat ≠ 0 ∧ v.toNat / 2 ^ 28 ≠ 14 := ⟨tSvc, 7, 127, 0xF0000000#32, by decide +kernel⟩

theorem witness_EthernetFramesGoToTheirTaker_14 :
    ∃ (s : State) (p n : Nat) (v : Word), p < 8 ∧ n < 128 ∧ s.bar (pETH p) = true ∧ (v.toNat = 0 ∨ v.toNat / 2 ^ 28 = 14) := ⟨tSvc, 7, 127, 0xE0000000#32, by decide +kernel⟩

theorem witness_EthernetFramesGoToTheirTaker_15 :
    ∃ (s t : State) (p : Nat) (rec : List Byte), p < 8 ∧ s.works (pETH p) = true ∧ s.bit (pETH p) F.ETH.HOST_CFG_HOST_EN = true
      ∧ s.ringRole (s.fld (pETH p) F.ETH.HOST_CFG_TX_RING) 7 = true ∧ s.takeRecord (s.fld (pETH p) F.ETH.HOST_CFG_TX_RING) =
      some (rec, t) := ⟨(((((tSvc.on (pETH 7)).setFld (pETH 7) F.ETH.HOST_CFG_HOST_EN 1).setFld (pETH 7) F.ETH.HOST_CFG_TX_RING 255).on (pDMA 255)).setFld (pDMA 255) F.DMA.RING_CFG_ROLE 7).setRing 255 { RingState.reset with records := [tHostTx 60] }, _, 7, tHostTx 60, by decide +kernel, by decide +kernel, by decide +kernel, by decide +kernel, rfl⟩

theorem witness_EthernetFramesGoToTheirTaker_16 :
    ∃ (s : State) (p : Nat), p < 8 ∧ s.works (pETH p) = true ∧ s.bit (pETH p) F.ETH.HOST_CFG_HOST_EN = true ∧ s.takeRecord
      (s.fld (pETH p) F.ETH.HOST_CFG_TX_RING) = none := ⟨((((tSvc.on (pETH 7)).setFld (pETH 7) F.ETH.HOST_CFG_HOST_EN 1).setFld (pETH 7) F.ETH.HOST_CFG_TX_RING 255).on (pDMA 255)).setFld (pDMA 255) F.DMA.RING_CFG_ROLE 7, 7, by decide +kernel, by decide +kernel, by decide +kernel, rfl⟩

theorem witness_EthernetFramesGoToTheirTaker_17 :
    ∃ (rec : List Byte), 14 ≤ leNat (rec.take 8) % 2 ^ 14 ∧ leNat (rec.take 8) % 2 ^ 14 ≤ 9212 ∧ leNat (rec.take 8) / 2 ^ 16 % 2
      = 0 := ⟨tHostTx 60, by decide +kernel⟩

theorem witness_EthernetFramesGoToTheirTaker_18 :
    ∃ (rec : List Byte), (leNat (rec.take 8) % 2 ^ 14 < 14 ∨ 9212 < leNat (rec.take 8) % 2 ^ 14) ∧ leNat (rec.take 8) / 2 ^ 16 %
      2 = 0 := ⟨tHostTx 13, by decide +kernel⟩

theorem witness_EthernetFramesGoToTheirTaker_19 :
    ∃ (s : State) (p q : Nat) (f : Frame), p < 8 ∧ s.works pTSCH = true ∧ (s.portOf p).sending = some (q, f) := ⟨(tSvc.on pTSCH).setPort 7 { PortState.reset with sending := some (3, ⟨3, [1#8], none, none⟩) }, 7, 3, ⟨3, [1#8], none, none⟩, by decide +kernel⟩

theorem witness_EthernetFramesGoToTheirTaker_20 :
    ∃ (s : State) (p : Nat), (s.portOf p).sending = none := ⟨tSvc, 7, by decide +kernel⟩

theorem witness_InputPicturesAndPackets_1 :
    ∃ (s u : State) (n : Nat) (x : SdiPicture), n < 16 ∧ s.works (pSDIRX n) = true ∧ s.bit (pSDIRX n) F.SDIRX.LOCK_STATUS_LOCKED
      = true ∧ s.running = true ∧ u = s.sdiReport n x ∧ u.sdiMismatch n x = true ∧ x.skew ≤ 4096 := ⟨tIn, _, 15, ⟨1080, 1919, 4096, 0, []⟩, by decide +kernel, by decide +kernel, by decide +kernel, by decide +kernel, rfl, by decide +kernel, by decide +kernel⟩

theorem witness_InputPicturesAndPackets_2 :
    ∃ (s u : State) (n : Nat) (x : SdiPicture), n < 16 ∧ s.works (pSDIRX n) = true ∧ s.bit (pSDIRX n) F.SDIRX.LOCK_STATUS_LOCKED
      = true ∧ s.running = true ∧ u = s.sdiReport n x ∧ u.sdiMismatch n x = true ∧ 4096 < x.skew := ⟨tIn, _, 15, ⟨1079, 1920, 4097, 0, []⟩, by decide +kernel, by decide +kernel, by decide +kernel, by decide +kernel, rfl, by decide +kernel, by decide +kernel⟩

theorem witness_InputPicturesAndPackets_3 :
    ∃ (s u : State) (n : Nat) (x : SdiPicture), n < 16 ∧ s.works (pSDIRX n) = true ∧ s.bit (pSDIRX n) F.SDIRX.LOCK_STATUS_LOCKED
      = true ∧ s.running = true ∧ u = s.sdiReport n x ∧ u.sdiMismatch n x = false ∧ 4096 < x.skew := ⟨tIn, _, 15, ⟨1080, 1920, 4097, 0, []⟩, by decide +kernel, by decide +kernel, by decide +kernel, by decide +kernel, rfl, by decide +kernel, by decide +kernel⟩

theorem witness_InputPicturesAndPackets_4 :
    ∃ (s u : State) (n : Nat) (x : SdiPicture), n < 16 ∧ s.works (pSDIRX n) = true ∧ s.bit (pSDIRX n) F.SDIRX.LOCK_STATUS_LOCKED
      = true ∧ s.running = true ∧ u = s.sdiReport n x ∧ u.sdiMismatch n x = false ∧ x.skew ≤ 4096 := ⟨tIn, _, 15, ⟨1080, 1920, 4096, 0, []⟩, by decide +kernel, by decide +kernel, by decide +kernel, by decide +kernel, rfl, by decide +kernel, by decide +kernel⟩

theorem witness_InputPicturesAndPackets_5 :
    ∃ (s u : State) (n m : Nat) (ph : Int), arrivalIndex ((s.now : Int) - sext32 (s.act (pSDIRX n) F.SDIRX.ALIGN_OFFSET))
      (s.rateOf (s.indexGroup (pSDIRX n))).1 (s.rateOf (s.indexGroup (pSDIRX n))).2 = (m, ph) ∧ u = (if phaseWide ph (s.rateOf
      (s.indexGroup (pSDIRX n))).1 (s.rateOf (s.indexGroup (pSDIRX n))).2 then (s.setReg (F.SDIRX.PHASE.addr (pSDIRX n))
      (satWord ph)).raise (pSDIRX n) F.SDIRX.intPHASE_WARN else s.setReg (F.SDIRX.PHASE.addr (pSDIRX n)) (satWord ph)) ∧
      u.indexDup (pSDIRX n) m = true := ⟨tIn.setInput (pSDIRX 15) { InputState.reset with last := some 0 }, _, 15, 0, 1000, by decide +kernel, rfl, by decide +kernel⟩

theorem witness_InputPicturesAndPackets_6 :
    ∃ (s u : State) (n m : Nat) (ph : Int), arrivalIndex ((s.now : Int) - sext32 (s.act (pSDIRX n) F.SDIRX.ALIGN_OFFSET))
      (s.rateOf (s.indexGroup (pSDIRX n))).1 (s.rateOf (s.indexGroup (pSDIRX n))).2 = (m, ph) ∧ u = (if phaseWide ph (s.rateOf
      (s.indexGroup (pSDIRX n))).1 (s.rateOf (s.indexGroup (pSDIRX n))).2 then (s.setReg (F.SDIRX.PHASE.addr (pSDIRX n))
      (satWord ph)).raise (pSDIRX n) F.SDIRX.intPHASE_WARN else s.setReg (F.SDIRX.PHASE.addr (pSDIRX n)) (satWord ph)) ∧
      u.indexDup (pSDIRX n) m = false := ⟨tIn, _, 15, 0, 1000, by decide +kernel, rfl, by decide +kernel⟩

theorem witness_InputPicturesAndPackets_7 :
    ∃ (s : State) (n m : Nat) (x : AncPacket), n < 16 ∧ s.works (pSDIRX n) = true ∧ x.link < s.sdiLinks n ∧ s.sdiLocked n x.link
      = true ∧ isPayloadId x = false ∧ s.act (pSDIRX n) F.SDIRX.SDI_CFG_ANC_EN = 1 ∧ ((List.range 16).any (s.ancMatch (pSDIRX n)
      x)) = true ∧ x.ahead = false ∧ (s.inputOf (pSDIRX n)).arrived = some m := ⟨((((tIn.setFld (pSDIRX 15) (sdiLockBit 0) 1).setFld (pSDIRX 15) F.SDIRX.SDI_CFG_ANC_EN.act 1).setFld (pSDIRX 15) (F.SDIRX.ANC_FILTER_EN 15).act 1).setFld (pSDIRX 15) (F.SDIRX.ANC_FILTER_SDID_ANY 15).act 1).setInput (pSDIRX 15) { InputState.reset with arrived := some 7 }, 15, 7, ⟨false, 9, false, 0, false, 0, 1, false, [1023]⟩, by decide +kernel⟩

theorem witness_InputPicturesAndPackets_8 :
    ∃ (s : State) (n : Nat) (x : AncPacket), n < 16 ∧ s.works (pSDIRX n) = true ∧ x.link < s.sdiLinks n ∧ s.sdiLocked n x.link =
      true ∧ isPayloadId x = false ∧ s.act (pSDIRX n) F.SDIRX.SDI_CFG_ANC_EN = 1 ∧ ((List.range 16).any (s.ancMatch (pSDIRX n)
      x)) = true ∧ x.ahead = true := ⟨(((tIn.setFld (pSDIRX 15) (sdiLockBit 0) 1).setFld (pSDIRX 15) F.SDIRX.SDI_CFG_ANC_EN.act 1).setFld (pSDIRX 15) (F.SDIRX.ANC_FILTER_EN 15).act 1).setFld (pSDIRX 15) (F.SDIRX.ANC_FILTER_SDID_ANY 15).act 1, 15, ⟨true, 9, false, 0, false, 0, 1, false, [1023]⟩, by decide +kernel⟩

theorem witness_InputPicturesAndPackets_9 :
    ∃ (s u : State) (n : Nat) (x : AncPacket), n < 16 ∧ s.works (pSDIRX n) = true ∧ x.link < s.sdiLinks n ∧ s.sdiLocked n x.link
      = true ∧ isPayloadId x = true ∧ s.act (pSDIRX n) F.SDIRX.SDI_CFG_ANC_EN = 0 ∧ u = s.vpidSeen (pSDIRX n) x ∧ u.act (pSDIRX
      n) F.SDIRX.SDI_CFG_ANC_EN = 0 := ⟨tIn.setFld (pSDIRX 15) (sdiLockBit 0) 1, _, 15, ⟨false, 9, false, 0, false, 0x41, 1, false, [1023]⟩, by decide +kernel, by decide +kernel, by decide +kernel, by decide +kernel, by decide +kernel, by decide +kernel, rfl, by decide +kernel⟩

theorem witness_InputPicturesAndPackets_10 :
    ∃ (s : State) (n : Nat) (x : AncPacket), (s.sdiLinks n ≤ x.link ∨ s.sdiLocked n x.link = false) := ⟨tIn, 15, ⟨false, 9, false, 0, false, 0, 1, false, [1023]⟩, by decide +kernel⟩

theorem witness_InputPicturesAndPackets_11 :
    ∃ (s u : State) (p m : Nat) (x : AncPacket), u = (if x.checksumOk then s else s.err p 6) ∧ (u.offer (u.act p
      F.SDIRX.SDI_CFG_ANC_RING) p (ancRecord m x)).2 = false := ⟨tIn, _, pSDIRX 15, 3, ⟨false, 9, false, 0, false, 0, 1, false, [1023]⟩, rfl, by decide +kernel⟩

theorem witness_InputPicturesAndPackets_12 :
    ∃ (s u : State) (p m : Nat) (x : AncPacket), u = (if x.checksumOk then s else s.err p 6) ∧ (u.offer (u.act p
      F.SDIRX.SDI_CFG_ANC_RING) p (ancRecord m x)).2 = true := ⟨tIn.tRing 0, _, pSDIRX 15, 3, ⟨false, 9, false, 0, false, 0, 1, false, [1023]⟩, rfl, by decide +kernel⟩

theorem witness_InputPicturesAndPackets_13 :
    ∃ (s : State) (n b : Nat), n < 32 ∧ b < 2 ∧ s.works (pIPIN n) = true ∧ s.isPathActive (pIPIN n) b = true ∧ (s.now - (s.path
      (pIPIN n) b).last) * (s.rateOf (s.indexGroup (pIPIN n))).1 ≥ (s.rateOf (s.indexGroup (pIPIN n))).2 * 1000000000 := ⟨(tPath.ticking 1000000000).pathActive (pIPIN 31) 1 true, 31, 1, by decide +kernel⟩

theorem witness_InputPicturesAndPackets_14 :
    ∃ (s : State) (n b : Nat), n < 32 ∧ b < 2 ∧ s.works (pIPIN n) = true ∧ s.isPathActive (pIPIN n) b = true ∧ (s.now - (s.path
      (pIPIN n) b).last) * (s.rateOf (s.indexGroup (pIPIN n))).1 < (s.rateOf (s.indexGroup (pIPIN n))).2 * 1000000000 := ⟨(tPath.ticking 0).pathActive (pIPIN 31) 1 true, 31, 1, by decide +kernel⟩

theorem witness_InputPicturesAndPackets_15 :
    ∃ (s : State) (n : Nat), n < 32 ∧ s.works (pIPIN n) = true ∧ s.act (pIPIN n) F.IPIN.IP_CFG_MODE = 1 ∧ ((s.inputOf (pIPIN
      n)).held.any fun h => decide (h.at' + s.act (pIPIN n) F.IPIN.JITTER_NS_JITTER ≤ s.now)) = true := ⟨((tPath.ticking 1000000000).setFld (pIPIN 31) F.IPIN.IP_CFG_MODE.act 1).setInput (pIPIN 31) { InputState.reset with held := [⟨9, 5, []⟩], next := some 7 }, 31, by decide +kernel⟩

theorem witness_InputPicturesAndPackets_16 :
    ∃ (s : State) (n : Nat), ((s.inputOf (pIPIN n)).held.any fun h => decide (h.at' + s.act (pIPIN n) F.IPIN.JITTER_NS_JITTER ≤
      s.now)) = false := ⟨tPath, 31, by decide +kernel⟩

theorem witness_InputPicturesAndPackets_17 :
    ∃ (s : State) (n k : Nat), n < 32 ∧ s.works (pSRC n) = true ∧ s.running = true ∧ k < s.srcRows n ∧ (s.srcOf n).started =
      true ∧ k = (s.srcOf n).done / 64 ∧ (s.srcOf n).done < s.readTo n k := ⟨((tSvc.on (pSRC 31)).ticking 1000000000).setSrc 31 { SrcState.reset with geom := 1, started := true, done := 1024 }, 31, 16, by decide +kernel⟩

theorem witness_InputPicturesAndPackets_18 :
    ∃ (s : State) (n k : Nat), s.readTo n k ≤ (s.srcOf n).done := ⟨((tSvc.on (pSRC 31)).ticking 0).setSrc 31 { SrcState.reset with geom := 1, started := true, done := 1024 }, 31, 16, by decide +kernel⟩

theorem witness_InputPicturesAndPackets_19 :
    ∃ (s : State) (n k d i : Nat), s.readTo n k = (s.srcOf n).done + d ∧ (s.srcOf n).done + d ≤ min (64 * k + 64) (s.srcH n) ∧ i
      < d := ⟨((tSvc.on (pSRC 31)).ticking 1000000000).setSrc 31 { SrcState.reset with geom := 1, started := true, done := 1024 }, 31, 16, 56, 55, by decide +kernel⟩

theorem witness_FencesAndProtectedRegisters_1 :
    ∃ (s : State) (n : Nat), n < 32 ∧ s.bar (pSRC n) = true := ⟨tSvc, 31, by decide +kernel⟩

theorem witness_FencesAndProtectedRegisters_2 :
    ∃ (i : Nat), i < 8 ∧ 1 ≤ i := ⟨7, by decide⟩

theorem witness_FencesAndProtectedRegisters_3 :
    ∃ (v : Word), v.toNat / 2 % 128 = 0 := ⟨0xFFFFFF01#32, by decide⟩

theorem witness_FencesAndProtectedRegisters_4 :
    ∃ (s : State) (n r : Nat), n < 32 ∧ r < 7 ∧ s.bar (pSRC n) = true := ⟨tSvc, 31, 6, by decide +kernel⟩

theorem witness_FencesAndProtectedRegisters_5 :
    ∃ (s : State) (n r : Nat), n < 32 ∧ r < 7 ∧ s.bit (pSRC n) F.SRC.PROT_LOCK_LOCK = true := ⟨tSvc.setFld (pSRC 31) F.SRC.PROT_LOCK_LOCK 1, 31, 6, by decide +kernel⟩

theorem witness_FencesAndProtectedRegisters_6 :
    ∃ (s : State) (n r : Nat) (row : RegRow), n < 32 ∧ r < 7 ∧ s.bit (pSRC n) F.SRC.PROT_LOCK_LOCK = false ∧ RegRow.find
      regRowsSRC (0x600 + 4 * r) = some row := ⟨tSvc, 31, 6, _, by decide, by decide, by decide +kernel, rfl⟩

theorem witness_FencesAndProtectedRegisters_7 :
    ∃ (s : State) (n : Nat) (row : RegRow), n < 32 ∧ s.bit (pSRC n) F.SRC.PROT_LOCK_LOCK = false ∧ RegRow.find regRowsSRC 0x61C
      = some row := ⟨tSvc, 31, _, by decide, by decide +kernel, rfl⟩

theorem witness_RowsAreReleasedDispatchedCodedAndSent_1 :
    ∃ (s : State) (c n k : Nat) (x : PicRec), c < 64 ∧ s.chanOn c = true ∧ s.picRec c n = some x ∧ s.released c x k = true ∧
      s.rowReady c n k = true ∧ s.decidesNext c (x.fire * 1000 + (s.geo c).releaseAt k) = true ∧ k = x.rows.length := ⟨(tCh 1000000000 []), 63, 0, 0, _, by decide, by decide +kernel, rfl, by decide +kernel, by decide +kernel, by decide +kernel, by decide +kernel⟩

theorem witness_RowsAreReleasedDispatchedCodedAndSent_2 :
    ∃ (s : State) (c n k : Nat) (x : PicRec), c < 64 ∧ s.chanOn c = true ∧ s.picRec c n = some x ∧ s.released c x k = true ∧
      s.rowReady c n k = true ∧ s.decidesNext c (x.fire * 1000 + (s.geo c).releaseAt k) = true ∧ (s.receiving c n = true ∧ k =
      x.fed) := ⟨tRecv, 63, 0, 0, _, by decide, by decide +kernel, rfl, by decide +kernel, by decide +kernel, by decide +kernel, by decide +kernel⟩

theorem witness_RowsAreReleasedDispatchedCodedAndSent_3 :
    ∃ (s : State) (c n k : Nat) (x : PicRec), s.picRec c n = some x ∧ (s.nowPs < x.fire * 1000 + (s.geo c).releaseAt k ∨
      s.rowReady c n k = false) := ⟨(tCh 479999999 []), 63, 0, 0, _, rfl, by decide +kernel⟩

theorem witness_RowsAreReleasedDispatchedCodedAndSent_4 :
    ∃ (s : State) (h : Nat) (w : Waiting), h < 18 ∧ s.chamberFree h = true ∧ s.nextRow = some w := ⟨((tCh 1000000000 [(0, RowRec.reset)]).on (pCHMB 17)).updChamber 17 fun y => { y with pooled := true }, 17, _, by decide, by decide +kernel, rfl⟩

theorem witness_RowsAreReleasedDispatchedCodedAndSent_5 :
    ∃ (s : State) (h : Nat), (s.chamberFree h = false ∨ s.nextRow = none) := ⟨tSvc, 17, by decide +kernel⟩

theorem witness_RowsAreReleasedDispatchedCodedAndSent_6 :
    ∃ (s : State) (h c n j k x : Nat), h < 18 ∧ s.works (pCHMB h) = true ∧ (s.chamber h).begun = true ∧ (s.chamber h).row = some
      (c, n, j) ∧ s.codesCtu h k x = true ∧ (s.chamber h).since + (if (s.chamber h).floorCtu then 1280 else 10240) ≤ s.core := ⟨(((tCh 1000000000 [(0, RowRec.reset)]).on (pCHMB 17)).updChamber 17 fun y => { y with pooled := true, row := some (63, 0, 0), begun := true, floorCtu := false }).clock 0 61440, 17, 63, 0, 0, 0, 0, by decide +kernel⟩

theorem witness_RowsAreReleasedDispatchedCodedAndSent_7 :
    ∃ (s : State) (h k x : Nat), s.core < (s.chamber h).since + (if (s.chamber h).floorCtu then 1280 else 10240) := ⟨tSvc, 17, 0, 0, by decide +kernel⟩

theorem witness_RowsAreReleasedDispatchedCodedAndSent_8 :
    ∃ (s u v : State) (h c n k : Nat) (x : PicRec) (r : RowRec), s.rowRec c n k = some (x, r) ∧ u = s.takeCode h c n k r
      (s.codeCtu h c x r k) ∧ v = ((u.put64L (pCHMB h) F.CHMB.CTU_DONE_LO (u.live64 (pCHMB h) F.CHMB.CTU_DONE_LO +
      1)).updChamber h fun y => { y with begun := false }) ∧ r.next + 1 ≠ (s.geo c).nRow := ⟨((tCh 1000000000 [(0, RowRec.reset)]).setFld (pSCAL 0) F.SCAL.OUT_SIZE_W.act 128), _, _, 17, 63, 0, 0, _, _, rfl, rfl, rfl, by decide +kernel⟩

theorem witness_RowsAreReleasedDispatchedCodedAndSent_9 :
    ∃ (s u v : State) (h c n k : Nat) (x : PicRec) (r : RowRec), s.rowRec c n k = some (x, r) ∧ u = s.takeCode h c n k r
      (s.codeCtu h c x r k) ∧ v = ((u.put64L (pCHMB h) F.CHMB.CTU_DONE_LO (u.live64 (pCHMB h) F.CHMB.CTU_DONE_LO +
      1)).updChamber h fun y => { y with begun := false }) ∧ r.next + 1 = (s.geo c).nRow ∧ k + 1 ≠ (s.geo c).rRows := ⟨(tCh 1000000000 [(0, RowRec.reset)]), _, _, 17, 63, 0, 0, _, _, rfl, rfl, rfl, by decide +kernel, by decide +kernel⟩

theorem witness_RowsAreReleasedDispatchedCodedAndSent_10 :
    ∃ (s u v : State) (h c n k : Nat) (x : PicRec) (r : RowRec), s.rowRec c n k = some (x, r) ∧ u = s.takeCode h c n k r
      (s.codeCtu h c x r k) ∧ v = ((u.put64L (pCHMB h) F.CHMB.CTU_DONE_LO (u.live64 (pCHMB h) F.CHMB.CTU_DONE_LO +
      1)).updChamber h fun y => { y with begun := false }) ∧ r.next + 1 = (s.geo c).nRow ∧ k + 1 = (s.geo c).rRows := ⟨(tCh 1000000000 [(0, RowRec.reset), (1, RowRec.reset)]), _, _, 17, 63, 0, 1, _, _, rfl, rfl, rfl, by decide +kernel, by decide +kernel⟩

theorem witness_RowsAreReleasedDispatchedCodedAndSent_11 :
    ∃ (s : State) (h c : Nat) (x : PicRec) (r : RowRec) (k : Nat) (e : CodeEnv) (full floor : CtuCode), e = s.codeEnv c x r.next
      (s.chamber h).affected ∧ floor = e.codeFloor (s.nextCtx c x r k) (s.geo c).rRows ∧ full = e.codeFull (s.nextCtx c x r k)
      (s.geo c).rRows ∧ (s.chamber h).floorCtu = true := ⟨(tCh 1000000000 [(0, RowRec.reset)]).updChamber 17 fun y => { y with floorCtu := true }, 17, 63, tPic, RowRec.reset, 0, _, _, _, rfl, rfl, rfl, by decide +kernel⟩

theorem witness_RowsAreReleasedDispatchedCodedAndSent_12 :
    ∃ (s : State) (h c : Nat) (x : PicRec) (r : RowRec) (k : Nat) (e : CodeEnv) (full floor : CtuCode), e = s.codeEnv c x r.next
      (s.chamber h).affected ∧ floor = e.codeFloor (s.nextCtx c x r k) (s.geo c).rRows ∧ full = e.codeFull (s.nextCtx c x r k)
      (s.geo c).rRows ∧ (s.chamber h).floorCtu = false := ⟨(tCh 1000000000 [(0, RowRec.reset)]).updChamber 17 fun y => { y with floorCtu := false }, 17, 63, tPic, RowRec.reset, 0, _, _, _, rfl, rfl, rfl, by decide +kernel⟩

theorem witness_RowsAreReleasedDispatchedCodedAndSent_14 :
    ∃ (s : State) (c n k : Nat) (x : PicRec) (xs : List PicRec), c < 64 ∧ s.chanOn c = true ∧ s.running = true ∧ (s.chanOf
      c).pics = x :: xs ∧ x.n = n ∧ k = x.sentRows ∧ k < x.rows.length ∧ ((Tab.get .reset x.rows k).endedAt).isSome = true ∧
      s.outPs c x k ≤ s.nowPs := ⟨tCh 10000000000 [(0, { RowRec.reset with endedAt := some 5 })], 63, 0, 0, _, _, by decide, by decide +kernel, by decide +kernel, rfl, by decide +kernel, by decide +kernel, by decide +kernel, by decide +kernel, by decide +kernel⟩

theorem witness_RowsAreReleasedDispatchedCodedAndSent_15 :
    ∃ (s : State) (c n k : Nat) (x : PicRec) (xs : List PicRec), (s.chanOf c).pics = x :: xs ∧ s.nowPs < s.outPs c x k := ⟨tCh 0 [(0, RowRec.reset)], 63, 0, 0, _, _, rfl, by decide +kernel⟩

theorem witness_ChambersFaultDrainAndJoin_1 :
    ∃ (s : State) (h : Nat), h < 18 ∧ (s.st (pCHMB h) = stOn ∨ s.st (pCHMB h) = stDraining) ∧ (s.chamber h).row = none := ⟨tSvc.inState (pCHMB 17) 3, 17, by decide +kernel⟩

theorem witness_ChambersFaultDrainAndJoin_2 :
    ∃ (s : State) (h : Nat) (c n k : Nat), h < 18 ∧ (s.st (pCHMB h) = stOn ∨ s.st (pCHMB h) = stDraining) ∧ (s.chamber h).row =
      some (c, n, k) := ⟨((tCh 1000000000 [(0, { RowRec.reset with plan := { RowRec.reset.plan with cap := 0 } })]).on (pCHMB 17)).updChamber 17 fun y => { y with pooled := true, row := some (63, 0, 0), begun := true, floorCtu := false }, 17, 63, 0, 0, by decide +kernel⟩

theorem witness_ChambersFaultDrainAndJoin_3 :
    ∃ (s : State) (h : Nat), (s.chamber h).pooled = true := ⟨((tCh 1000000000 [(0, { RowRec.reset with plan := { RowRec.reset.plan with cap := 0 } })]).on (pCHMB 17)).updChamber 17 fun y => { y with pooled := true, row := some (63, 0, 0), begun := true, floorCtu := false }, 17, by decide +kernel⟩

theorem witness_ChambersFaultDrainAndJoin_4 :
    ∃ (s : State) (h : Nat), h < 18 ∧ s.st (pCHMB h) = stDraining ∧ (s.chamber h).drained = false ∧ (s.allGrpOff = true ∨
      s.frameAfter (s.page (pCHMB h)).since 0 = true) := ⟨(tSvc.inState (pCHMB 17) 3).updChamber 17 fun y => { y with pooled := true }, 17, by decide +kernel⟩

theorem witness_ChambersFaultDrainAndJoin_5 :
    ∃ (s : State) (h : Nat), s.allGrpOff = false ∧ s.frameAfter (s.page (pCHMB h)).since 0 = false := ⟨((tSvc.inState (pCHMB 17) 3).updChamber 17 fun y => { y with pooled := true }).on (pGRP 7), 17, by decide +kernel⟩

theorem witness_ChambersFaultDrainAndJoin_6 :
    ∃ (s : State) (h : Nat), h < 18 ∧ s.st (pCHMB h) = stDraining ∧ (s.chamber h).drained = true ∧ (s.chamber h).row = none := ⟨(tSvc.inState (pCHMB 17) 3).updChamber 17 fun y => { y with drained := true }, 17, by decide +kernel⟩

theorem witness_ChambersFaultDrainAndJoin_7 :
    ∃ (s : State) (h : Nat), ((s.chamber h).drained = false ∨ (s.chamber h).row.isSome = true) := ⟨(tSvc.inState (pCHMB 17) 3).updChamber 17 fun y => { y with pooled := true }, 17, by decide +kernel⟩

theorem witness_ChambersFaultDrainAndJoin_8 :
    ∃ (s : State) (h : Nat) (t : Nat), h < 18 ∧ s.isOn (pCHMB h) = true ∧ s.works (pCHMB h) = true ∧ (s.chamber h).pooled =
      false ∧ (s.chamber h).joinAt = some t ∧ (s.allGrpOff = true ∨ s.frameAfter (s.page (pCHMB h)).since (t + 1000) = true) := ⟨(tSvc.on (pCHMB 17)).updChamber 17 fun y => { y with joinAt := some 5 }, 17, 5, by decide +kernel⟩

theorem witness_ChambersFaultDrainAndJoin_9 :
    ∃ (s : State) (h : Nat), (s.chamber h).joinAt = none := ⟨tSvc, 17, by decide +kernel⟩

theorem witness_BlocksAreReadBackAndStreamsDecoded_1 :
    ∃ (s : State) (c i t b e : Nat) (x : PicRec), c < 64 ∧ s.chanOn c = true ∧ i < (s.chanOf c).bufs.length ∧ t < (s.geo c).nCtu
      ∧ s.rowWritten c i (t / (s.geo c).nRow) = true ∧ s.reader c i t b = some x ∧ b < (s.geo c).blocks := ⟨tWin 2 [], 63, 0, 0, 0, 2, _, by decide, by decide +kernel, by decide +kernel, by decide +kernel, by decide +kernel, rfl, by decide +kernel⟩

theorem witness_BlocksAreReadBackAndStreamsDecoded_2 :
    ∃ (s : State) (c i t b e : Nat) (x : PicRec), c < 64 ∧ s.chanOn c = true ∧ i < (s.chanOf c).bufs.length ∧ t < (s.geo c).nCtu
      ∧ s.rowWritten c i (t / (s.geo c).nRow) = true ∧ s.reader c i t b = some x ∧ (s.geo c).blocks ≤ b ∧ b < (s.geo c).blocks +
      64 ∧ (0 < e ∨ s.blockBad ((s.proxyAddr c i t + 64 * (b - (s.geo c).blocks)) / 64) = true) := ⟨tWin 2 [], 63, 0, 0, ((tWin 2 []).geo 63).blocks + 63, 1, _, by decide, by decide +kernel, by decide +kernel, by decide +kernel, by decide +kernel, rfl, by decide +kernel, by decide +kernel, by decide +kernel⟩

theorem witness_BlocksAreReadBackAndStreamsDecoded_3 :
    ∃ (s : State) (c i t b e : Nat) (x : PicRec), c < 64 ∧ s.chanOn c = true ∧ i < (s.chanOf c).bufs.length ∧ t < (s.geo c).nCtu
      ∧ s.rowWritten c i (t / (s.geo c).nRow) = true ∧ s.reader c i t b = some x ∧ (s.geo c).blocks ≤ b ∧ b < (s.geo c).blocks +
      64 ∧ e = 0 ∧ s.blockBad ((s.proxyAddr c i t + 64 * (b - (s.geo c).blocks)) / 64) = false := ⟨tWin 2 [], 63, 0, 0, ((tWin 2 []).geo 63).blocks + 63, 0, _, by decide, by decide +kernel, by decide +kernel, by decide +kernel, by decide +kernel, rfl, by decide +kernel, by decide +kernel, by decide +kernel, by decide +kernel⟩

theorem witness_BlocksAreReadBackAndStreamsDecoded_4 :
    ∃ (s : State) (c i t b e : Nat), (s.rowWritten c i (t / (s.geo c).nRow) = false ∨ s.reader c i t b = none) := ⟨(tCh 0 []).setBufs 63 [⟨2, 0, 3, 0, 0, []⟩], 63, 0, 0, 0, 2, by decide +kernel⟩

theorem witness_BlocksAreReadBackAndStreamsDecoded_5 :
    ∃ (s u : State) (c n i t b e f : Nat), u = ((((s.countReads c i t b f).errBy pREFP 0 f).tookFree).updWin c n i t fun w =>
      { w with mapped := w.mapped || b == 0, lost := w.lost || ((b == 0 && !(decide (f = s.tries c i t)) && s.mapEntry c i t 0 == 0)) || (b == 0 && decide (f = s.tries c i t)), blocks := Tab.set [] w.blocks b (s.lastSamples c i t b f) })
      ∧ f = s.failures c i t b e ∧ s.isPoisoned c i t = true := ⟨tWin 2 [0], _, 63, 0, 0, 0, 0, 2, _, rfl, rfl, by decide +kernel⟩

theorem witness_BlocksAreReadBackAndStreamsDecoded_6 :
    ∃ (s u : State) (c n i t b e f : Nat), u = ((((s.countReads c i t b f).errBy pREFP 0 f).tookFree).updWin c n i t fun w =>
      { w with mapped := w.mapped || b == 0, lost := w.lost || ((b == 0 && !(decide (f = s.tries c i t)) && s.mapEntry c i t 0 == 0)) || (b == 0 && decide (f = s.tries c i t)), blocks := Tab.set [] w.blocks b (s.lastSamples c i t b f) })
      ∧ f = s.failures c i t b e ∧ s.isPoisoned c i t = false ∧ f = 0 ∧ (b ≠ 0 ∨ s.mapEntry c i t 0 ≠ 0) := ⟨tBlock, _, 63, 0, 0, 0, 1, 0, _, rfl, rfl, by decide +kernel, by decide +kernel, by decide +kernel⟩

theorem witness_BlocksAreReadBackAndStreamsDecoded_7 :
    ∃ (s u : State) (c n i t b e f : Nat), u = ((((s.countReads c i t b f).errBy pREFP 0 f).tookFree).updWin c n i t fun w =>
      { w with mapped := w.mapped || b == 0, lost := w.lost || ((b == 0 && !(decide (f = s.tries c i t)) && s.mapEntry c i t 0 == 0)) || (b == 0 && decide (f = s.tries c i t)), blocks := Tab.set [] w.blocks b (s.lastSamples c i t b f) })
      ∧ f = s.failures c i t b e ∧ s.isPoisoned c i t = false ∧ 0 < f ∧ f < 3 ∧ (b ≠ 0 ∨ s.mapEntry c i t 0 ≠ 0) := ⟨tBlock, _, 63, 0, 0, 0, 1, 2, _, rfl, rfl, by decide +kernel, by decide +kernel, by decide +kernel, by decide +kernel⟩

theorem witness_BlocksAreReadBackAndStreamsDecoded_8 :
    ∃ (s u : State) (c n i t b e f : Nat), u = ((((s.countReads c i t b f).errBy pREFP 0 f).tookFree).updWin c n i t fun w =>
      { w with mapped := w.mapped || b == 0, lost := w.lost || ((b == 0 && !(decide (f = s.tries c i t)) && s.mapEntry c i t 0 == 0)) || (b == 0 && decide (f = s.tries c i t)), blocks := Tab.set [] w.blocks b (s.lastSamples c i t b f) })
      ∧ f = s.failures c i t b e ∧ s.isPoisoned c i t = false ∧ f = 3 := ⟨tWin 2 [], _, 63, 0, 0, 0, 1, 3, _, rfl, rfl, by decide +kernel, by decide +kernel⟩

theorem witness_BlocksAreReadBackAndStreamsDecoded_9 :
    ∃ (s u : State) (c n i t b e f : Nat), u = ((((s.countReads c i t b f).errBy pREFP 0 f).tookFree).updWin c n i t fun w =>
      { w with mapped := w.mapped || b == 0, lost := w.lost || ((b == 0 && !(decide (f = s.tries c i t)) && s.mapEntry c i t 0 == 0)) || (b == 0 && decide (f = s.tries c i t)), blocks := Tab.set [] w.blocks b (s.lastSamples c i t b f) })
      ∧ f = s.failures c i t b e ∧ s.isPoisoned c i t = false ∧ f < 3 ∧ b = 0 ∧ s.mapEntry c i t 0 = 0 := ⟨tVoid, _, 63, 0, 0, 0, 0, 0, _, rfl, rfl, by decide +kernel, by decide +kernel, by decide +kernel, by decide +kernel⟩

theorem witness_BlocksAreReadBackAndStreamsDecoded_10 :
    ∃ (s u : State) (d : Nat) (rec : List Byte), d < 2 ∧ s.works (pDEC d) = true ∧ s.act (pDEC d) F.DEC.DEC_CFG_INPUT_KIND = 1 ∧
      s.ringRole (s.act (pDEC d) F.DEC.DEC_CFG_INPUT) 6 = true ∧ s.takeRecord (s.act (pDEC d) F.DEC.DEC_CFG_INPUT) = some (rec,
      u) := ⟨((((tSvc.on (pDEC 1)).setFld (pDEC 1) F.DEC.DEC_CFG_INPUT_KIND.act 1).setFld (pDEC 1) F.DEC.DEC_CFG_INPUT.act 9).on (pDMA 9)).setFld (pDMA 9) F.DMA.RING_CFG_ROLE 6 |>.setRing 9 { RingState.reset with records := [[1#8]] }, _, 1, [1#8], by decide, by decide +kernel, by decide +kernel, by decide +kernel, rfl⟩

theorem witness_BlocksAreReadBackAndStreamsDecoded_11 :
    ∃ (s u : State) (d a : Nat) (pkt : List Byte) (rest : List (Nat × List Byte)), d < 2 ∧ s.works (pDEC d) = true ∧ s.act (pDEC
      d) F.DEC.DEC_CFG_INPUT_KIND ≠ 1 ∧ (s.decOf d).input = (a, pkt) :: rest ∧ u = (s.updDec d fun x =>
      { x with input := rest }) ∧ u.act (pDEC d) F.DEC.DEC_CFG_TRANSPORT = 0 := ⟨(tSvc.on (pDEC 1)).updDec 1 fun x => { x with input := [(5, [1#8])] }, _, 1, 5, [1#8], [], by decide, by decide +kernel, by decide +kernel, by decide +kernel, rfl, by decide +kernel⟩

theorem witness_BlocksAreReadBackAndStreamsDecoded_12 :
    ∃ (s u : State) (d a : Nat) (pkt : List Byte) (rest : List (Nat × List Byte)), d < 2 ∧ s.works (pDEC d) = true ∧ s.act (pDEC
      d) F.DEC.DEC_CFG_INPUT_KIND ≠ 1 ∧ (s.decOf d).input = (a, pkt) :: rest ∧ u = (s.updDec d fun x =>
      { x with input := rest }) ∧ u.act (pDEC d) F.DEC.DEC_CFG_TRANSPORT ≠ 0 := ⟨((tSvc.on (pDEC 1)).setFld (pDEC 1) F.DEC.DEC_CFG_TRANSPORT.act 1).updDec 1 fun x => { x with input := [(5, [1#8])] }, _, 1, 5, [1#8], [], by decide, by decide +kernel, by decide +kernel, by decide +kernel, rfl, by decide +kernel⟩

theorem witness_BlocksAreReadBackAndStreamsDecoded_13 :
    ∃ (s t u : State) (d rows n : Nat) (a : AccessUnit) (as : List AccessUnit) (k : DecHead × AuRead) (r : Option Nat × Option
      (Nat × Int)) (w : Bool), d < 2 ∧ s.works (pDEC d) = true ∧ (s.decOf d).aus = a :: as ∧ (a.refused || a.decoded) = false ∧
      k = s.auRead d (s.decOf d).head a ∧ r = s.auIndex d (s.decOf d).anchor a k ∧ u = (s.updDec d fun x =>
      { x with anchor := r.2 }) ∧ w = (k.1.sps.all (fun p => decide (ceilDiv p.codedH 64 ≤ rows)) && s.mayComplete d a k &&
      s.slotFree d k.2) ∧ r.1 = some n ∧ u.auIndexed d a n = (t, true) ∧ w = true := ⟨(tSvc.on (pDEC 1)).updDec 1 fun x => { x with aus := [{ tAu with index := some 3, ended := true }] }, _, _, 1, 2, 3, _, [], _, _, _, by decide, by decide +kernel, rfl, by decide +kernel, rfl, rfl, rfl, rfl, by decide +kernel, rfl, by decide +kernel⟩

theorem witness_BlocksAreReadBackAndStreamsDecoded_14 :
    ∃ (s t u : State) (d rows n : Nat) (a : AccessUnit) (as : List AccessUnit) (k : DecHead × AuRead) (r : Option Nat × Option
      (Nat × Int)), d < 2 ∧ s.works (pDEC d) = true ∧ (s.decOf d).aus = a :: as ∧ (a.refused || a.decoded) = false ∧ k =
      s.auRead d (s.decOf d).head a ∧ r = s.auIndex d (s.decOf d).anchor a k ∧ u = (s.updDec d fun x =>
      { x with anchor := r.2 }) ∧ r.1 = some n ∧ u.auIndexed d a n = (t, false) := ⟨(tSvc.on (pDEC 1)).updDec 1 fun x => { x with aus := [{ tAu with ended := true }], anchor := some (4, 0), last := some 5 }, _, _, 1, 2, 5, _, [], _, _, by decide, by decide +kernel, rfl, by decide +kernel, rfl, rfl, rfl, by decide +kernel, rfl⟩

theorem witness_BlocksAreReadBackAndStreamsDecoded_15 :
    ∃ (s t u : State) (d rows n : Nat) (a : AccessUnit) (as : List AccessUnit) (k : DecHead × AuRead) (r : Option Nat × Option
      (Nat × Int)) (w : Bool), d < 2 ∧ s.works (pDEC d) = true ∧ (s.decOf d).aus = a :: as ∧ (a.refused || a.decoded) = false ∧
      k = s.auRead d (s.decOf d).head a ∧ r = s.auIndex d (s.decOf d).anchor a k ∧ u = (s.updDec d fun x =>
      { x with anchor := r.2 }) ∧ w = (k.1.sps.all (fun p => decide (ceilDiv p.codedH 64 ≤ rows)) && s.mayComplete d a k &&
      s.slotFree d k.2) ∧ r.1 = some n ∧ u.auIndexed d a n = (t, true) ∧ w = false := ⟨(tSvc.on (pDEC 1)).updDec 1 fun x => { x with aus := [{ tAu with index := some 3, ended := false }] }, _, _, 1, 2, 3, _, [], _, _, _, by decide, by decide +kernel, rfl, by decide +kernel, rfl, rfl, rfl, rfl, by decide +kernel, rfl, by decide +kernel⟩

theorem witness_BlocksAreReadBackAndStreamsDecoded_16 :
    ∃ (s u : State) (d rows : Nat) (a : AccessUnit) (as : List AccessUnit) (k : DecHead × AuRead) (r : Option Nat × Option (Nat
      × Int)) (w : Bool), d < 2 ∧ s.works (pDEC d) = true ∧ (s.decOf d).aus = a :: as ∧ (a.refused || a.decoded) = false ∧ k =
      s.auRead d (s.decOf d).head a ∧ r = s.auIndex d (s.decOf d).anchor a k ∧ u = (s.updDec d fun x =>
      { x with anchor := r.2 }) ∧ w = (k.1.sps.all (fun p => decide (ceilDiv p.codedH 64 ≤ rows)) && s.mayComplete d a k &&
      s.slotFree d k.2) ∧ r.1 = none ∧ w = true := ⟨(tSvc.on (pDEC 1)).updDec 1 fun x => { x with aus := [{ tAu with ended := true }] }, _, 1, 2, _, [], _, _, _, by decide, by decide +kernel, rfl, by decide +kernel, rfl, rfl, rfl, rfl, by decide +kernel, by decide +kernel⟩

theorem witness_BlocksAreReadBackAndStreamsDecoded_17 :
    ∃ (s u : State) (d rows : Nat) (a : AccessUnit) (as : List AccessUnit) (k : DecHead × AuRead) (r : Option Nat × Option (Nat
      × Int)) (w : Bool), d < 2 ∧ s.works (pDEC d) = true ∧ (s.decOf d).aus = a :: as ∧ (a.refused || a.decoded) = false ∧ k =
      s.auRead d (s.decOf d).head a ∧ r = s.auIndex d (s.decOf d).anchor a k ∧ u = (s.updDec d fun x =>
      { x with anchor := r.2 }) ∧ w = (k.1.sps.all (fun p => decide (ceilDiv p.codedH 64 ≤ rows)) && s.mayComplete d a k &&
      s.slotFree d k.2) ∧ r.1 = none ∧ w = false := ⟨(tSvc.on (pDEC 1)).updDec 1 fun x => { x with aus := [{ tAu with ended := false }] }, _, 1, 2, _, [], _, _, _, by decide, by decide +kernel, rfl, by decide +kernel, rfl, rfl, rfl, rfl, by decide +kernel, by decide +kernel⟩

theorem witness_BlocksAreReadBackAndStreamsDecoded_18 :
    ∃ (s : State) (d rows : Nat) (a : AccessUnit) (as : List AccessUnit), (s.decOf d).aus = a :: as ∧ (a.refused || a.decoded) =
      true := ⟨(tSvc.on (pDEC 1)).updDec 1 fun x => { x with aus := [{ tAu with ended := true, decoded := true }] }, 1, 0, _, _, rfl, rfl⟩

theorem witness_BlocksAreReadBackAndStreamsDecoded_19 :
    ∃ (s : State) (d rows : Nat), (s.decOf d).aus = [] := ⟨tSvc, 1, 0, by decide +kernel⟩

theorem witness_BlocksAreReadBackAndStreamsDecoded_20 :
    ∃ (s : State) (n m : Nat), n < 2 ∧ s.works (pSDITX n) = true ∧ s.laneState (sdoLane n) = laTrack ∧ s.running = true ∧
      ((s.sdoOf n).m < m ∨ (s.sdoOf n).sent = false) := ⟨tSdo, 1, 0, by decide +kernel⟩

theorem witness_BlocksAreReadBackAndStreamsDecoded_21 :
    ∃ (s : State) (n m : Nat), ((s.sdoOf n).sent = true ∧ m ≤ (s.sdoOf n).m ∨ s.laneState (sdoLane n) ≠ laTrack) := ⟨tSvc, 1, 0, by decide +kernel⟩

theorem witness_BlocksAreReadBackAndStreamsDecoded_22 :
    ∃ (s : State) (n m : Nat) (t : Tab Nat), s.sdoPicture n m = some t := ⟨((tSvc.on (pDEC 1)).setFld (pDEC 1) F.DEC.OUT_CFG_TO_SDI.act 1).setFld (pDEC 1) F.DEC.OUT_CFG_SDITX.act 1 |>.updDec 1 fun x => { x with m := some (tSvc.decDelay 1), shown := some tDecPic }, 1, (tSvc.decDelay 1), [], by decide +kernel⟩

theorem witness_BlocksAreReadBackAndStreamsDecoded_23 :
    ∃ (s : State) (n m : Nat), s.sdoPicture n m = none ∧ (s.sdoOf n).sent = true := ⟨tSvc.setSdo 1 ⟨true, [], 4, 0, false⟩, 1, 5, by decide +kernel⟩

theorem witness_BlocksAreReadBackAndStreamsDecoded_24 :
    ∃ (s u : State) (c : Nat) (rec : List Byte), c < 64 ∧ s.chanOn c = true ∧ s.act (pCHAN c) F.CHAN.OUT_CFG_MODE = 1 ∧ s.act
      (pCHAN c) F.CHAN.TS_CFG_HOST_EN = 1 ∧ s.ringRole (s.act (pCHAN c) F.CHAN.TS_CFG_HOST_RING) 9 = true ∧ s.takeRecord (s.act
      (pCHAN c) F.CHAN.TS_CFG_HOST_RING) = some (rec, u) := ⟨((((((tCh 0 []).setFld (pCHAN 63) F.CHAN.OUT_CFG_MODE.act 1).setFld (pCHAN 63) F.CHAN.TS_CFG_HOST_EN.act 1).setFld (pCHAN 63) F.CHAN.TS_CFG_HOST_RING.act 9).on (pDMA 9)).setFld (pDMA 9) F.DMA.RING_CFG_ROLE 9).setRing 9 { RingState.reset with records := [[1#8]] }, _, 63, [1#8], by decide, by decide +kernel, by decide +kernel, by decide +kernel, by decide +kernel, rfl⟩

theorem witness_BlocksAreReadBackAndStreamsDecoded_25 :
    ∃ (s : State) (c : Nat), c < 64 ∧ s.chanOn c = true ∧ s.act (pCHAN c) F.CHAN.OUT_CFG_MODE = 1 ∧ s.act (pCHAN c)
      F.CHAN.TS_CFG_HOST_EN = 1 ∧ s.ringRole (s.act (pCHAN c) F.CHAN.TS_CFG_HOST_RING) 9 = true ∧ s.takeRecord (s.act (pCHAN c)
      F.CHAN.TS_CFG_HOST_RING) = none := ⟨((((((tCh 0 []).setFld (pCHAN 63) F.CHAN.OUT_CFG_MODE.act 1).setFld (pCHAN 63) F.CHAN.TS_CFG_HOST_EN.act 1).setFld (pCHAN 63) F.CHAN.TS_CFG_HOST_RING.act 9).on (pDMA 9)).setFld (pDMA 9) F.DMA.RING_CFG_ROLE 9), 63, by decide, by decide +kernel, by decide +kernel, by decide +kernel, by decide +kernel, rfl⟩

theorem witness_BlocksAreReadBackAndStreamsDecoded_26 :
    ∃ (s : State) (c m j : Nat) (rec : List Byte), (s.chanOf c).out.lastHost = some (m, j) ∧ rowAfter (leNat (rec.take 8))
      (leNat ((rec.drop 8).take 2)) m j = false := ⟨(tCh 0 []).updOut 63 fun o => { o with lastHost := some (5, 0) }, 63, 5, 0, leBytes 5 16, by decide +kernel⟩

theorem witness_BlocksAreReadBackAndStreamsDecoded_27 :
    ∃ (s : State) (c : Nat) (rec : List Byte), (s.chanOf c).out.lastHost = none ∧ (decide ((leNat ((rec.drop 8).take 2)) <
      (s.geo c).rRows) && decide (s.nowPs > s.firePs (s.chanGroup c) ((s.geo c).codedIn (leNat (rec.take 8))) + (s.geo
      c).releaseAt (leNat ((rec.drop 8).take 2)))) = false ∧ (leNat ((rec.drop 8).take 2)) < (s.geo c).rRows ∧
      (hostRecordPackets ((rec.drop 10).getD 0 0).toNat (rec.drop 16)).length - ((((hostRecordPackets ((rec.drop 10).getD 0
      0).toNat (rec.drop 16)).filter (s.hostPacketOk c)).take (s.act (pCHAN c) F.CHAN.TS_CFG_HOST_MAX))).length = 0 := ⟨tCh 0 [], 63, leBytes 5 16, by decide +kernel⟩

theorem witness_ThreadsWaitPostAndCreate_1 :
    ∃ (s : State) (id : Nat), s.works pTASK = true ∧ (s.thread id).state = thWaiting ∧ (s.thread id).wait = 1 := ⟨tThread { Thread.reset with state := 2, wait := 1 }, 9, by decide +kernel⟩

theorem witness_ThreadsWaitPostAndCreate_2 :
    ∃ (s : State) (id : Nat), s.works pTASK = true ∧ (s.thread id).state ≠ thWaiting ∧ (s.thread id).outcome = 2 ∧ (s.thread
      id).endedAt / 8 = s.fabric := ⟨tThread { Thread.reset with state := 1, outcome := 2 }, 9, by decide +kernel⟩

theorem witness_ThreadsWaitPostAndCreate_3 :
    ∃ (s : State) (id : Nat), (s.thread id).state = 0 ∧ (s.thread id).outcome = 0 := ⟨tSvc, 9, by decide +kernel⟩

theorem witness_ThreadsWaitPostAndCreate_4 :
    ∃ (s : State) (id prio : Nat), s.works pTASK = true ∧ id < 65536 ∧ prio < 64 ∧ (s.thread id).state = 0 ∧ 1024 + min 64512
      (s.fld pTASK F.TASK.SUMP_SIZE_MIB * 4096) < s.onChip.length + s.inSump.length + 1 := ⟨tFull, 65535, 63, by decide +kernel⟩

theorem witness_ThreadsWaitPostAndCreate_5 :
    ∃ (s : State) (id prio : Nat), s.works pTASK = true ∧ id < 65536 ∧ prio < 64 ∧ (s.thread id).state = 0 ∧ s.onChip.length +
      s.inSump.length + 1 ≤ 1024 + min 64512 (s.fld pTASK F.TASK.SUMP_SIZE_MIB * 4096) := ⟨tSvc.on pTASK, 65535, 63, by decide +kernel⟩

theorem witness_ThreadsWaitPostAndCreate_6 :
    ∃ (s : State) (f : Nat), s.works pTASK = true ∧ f < 4096 ∧ 16384 ≤ s.flowItems := ⟨(tSvc.on pTASK).setFlow 1 { items := List.replicate 16384 0, holder := none }, 4095, by decide +kernel⟩

theorem witness_ThreadsWaitPostAndCreate_7 :
    ∃ (s : State) (f : Nat), s.works pTASK = true ∧ f < 4096 ∧ s.flowItems < 16384 := ⟨tSvc.on pTASK, 4095, by decide +kernel⟩

theorem witness_ThreadsWaitPostAndCreate_8 :
    ∃ (s : State) (id ns : Nat), s.works pTASK = true ∧ s.entitled = some id ∧ ns ≤ 2000 := ⟨tThread { Thread.reset with state := 1, sump := true }, 9, 2000, by decide +kernel⟩

theorem witness_ThreadsWaitPostAndCreate_9 :
    ∃ (s u : State) (id ns : Nat), s.works pTASK = true ∧ s.entitled = some id ∧ ns ≤ 2000 ∧ s.onChip.length < 1024 ∧ u =
      ((s.setThread id { s.thread id with sump := false, entered := s.task.seq }).nextSeq.err pTASK 1) := ⟨tThread { Thread.reset with state := 1, sump := true }, _, 9, 2000, by decide +kernel, by decide +kernel, by decide, by decide +kernel, rfl⟩

theorem witness_ThreadsWaitPostAndCreate_10 :
    ∃ (s : State) (id : Nat), s.entitled ≠ some id := ⟨tSvc, 9, by decide +kernel⟩

theorem witness_ThreadsWaitPostAndCreate_11 :
    ∃ (s : State) (id : Nat), s.works pTASK = true ∧ s.running = false ∧ (s.timedWaits.any fun w => w.1 == id && s.deadlineDue
      id w.2) = true := ⟨tThread { Thread.reset with state := 2, wait := 3, deadline := some 0 }, 9, by decide +kernel⟩

theorem witness_ThreadsWaitPostAndCreate_12 :
    ∃ (s : State) (id : Nat), (s.running = true ∨ (s.timedWaits.any fun w => w.1 == id && s.deadlineDue id w.2) = false) := ⟨tThread { Thread.reset with state := 2, wait := 3, deadline := some 1 }, 9, by decide +kernel⟩

theorem witness_ThreadsWaitPostAndCreate_13 :
    ∃ (s : State) (c id : Nat) (t : Thread) (op : KernelOp), s.works pTASK = true ∧ c < 8 ∧ s.task.stopped / 2 ^ c % 2 = 0 ∧
      s.runningOn c = some (id, t) ∧ s.task.swapTag = none ∧ (s.kernelOp id op).task.swapTag = none := ⟨tThread { Thread.reset with state := 3, core := 7 }, 7, 9, _, .sleep 5, by decide +kernel, by decide, by decide, rfl, rfl, rfl⟩

theorem witness_ThreadsWaitPostAndCreate_14 :
    ∃ (s : State) (c : Nat), s.runningOn c = none := ⟨tSvc.on pTASK, 7, by decide +kernel⟩

theorem witness_ThreadsWaitPostAndCreate_16 :
    ∃ (s : State) (f : Nat) (r : List Nat), f < 4096 ∧ (s.flow f).holder = none ∧ (s.flow f).items = 0 :: r := ⟨tSvc.setFlow 4095 { items := [0, 8], holder := none }, 4095, _, by decide, rfl, rfl⟩

theorem witness_ThreadsWaitPostAndCreate_17 :
    ∃ (s : State) (f : Nat), f < 4096 ∧ ((s.flow f).holder ≠ none ∨ (s.flow f).items = []) := ⟨tSvc, 4095, by decide +kernel⟩

theorem witness_ThreadsWaitPostAndCreate_18 :
    ∃ (s : State) (id f : Nat), (s.flow f).holder = some id := ⟨tSvc.setFlow 4095 { items := [], holder := some 9 }, 9, 4095, by decide +kernel⟩

theorem witness_CommandsAreTakenAbortedAndTimedOut_1 :
    ∃ (s : State), s.works pTASK = true ∧ s.bit pTASK F.TASK.CMD_CFG_EN = true ∧ s.takeRecord (s.fld pTASK
      F.TASK.CMD_CFG_CMD_RING) = none := ⟨tTask, by decide +kernel, by decide +kernel, rfl⟩

theorem witness_CommandsAreTakenAbortedAndTimedOut_2 :
    ∃ (s u : State) (b : List Byte) (cls d : Nat), s.works pTASK = true ∧ s.bit pTASK F.TASK.CMD_CFG_EN = true ∧ s.takeRecord
      (s.fld pTASK F.TASK.CMD_CFG_CMD_RING) = some (b, u) ∧ u.cmdCheck ((leNat (b.take 8)) % 256) ((leNat (b.take 8)) / 0x10000
      % 0x1000) ((leNat (b.take 8)) / 2 ^ 32) ((b.drop 16).take 48) = some (cls, d) := ⟨tTask.setRing 0 { RingState.reset with records := [leBytes 0x110008 64] }, _, _, Cls.range, 0x14, by decide +kernel, by decide +kernel, rfl, by decide +kernel⟩

theorem witness_CommandsAreTakenAbortedAndTimedOut_3 :
    ∃ (s u v : State) (b : List Byte), s.works pTASK = true ∧ s.bit pTASK F.TASK.CMD_CFG_EN = true ∧ s.takeRecord (s.fld pTASK
      F.TASK.CMD_CFG_CMD_RING) = some (b, u) ∧ u.cmdCheck ((leNat (b.take 8)) % 256) ((leNat (b.take 8)) / 0x10000 % 0x1000)
      ((leNat (b.take 8)) / 2 ^ 32) ((b.drop 16).take 48) = none ∧ v = u.setFlow ((leNat (b.take 8)) / 0x10000 % 0x1000)
      { u.flow ((leNat (b.take 8)) / 0x10000 % 0x1000) with items := (u.flow ((leNat (b.take 8)) / 0x10000 % 0x1000)).items ++ [((leNat (b.take 8)) / 2 ^ 32) + 1] } := ⟨tTask.setRing 0 { RingState.reset with records := [leBytes (0x110000 + 7 * 2 ^ 32) 64] }, _, _, _, by decide +kernel, by decide +kernel, rfl, by decide +kernel, rfl⟩

theorem witness_CommandsAreTakenAbortedAndTimedOut_4 :
    ∃ (s : State) (tag : Nat) (x : TaskCmd), s.bar pTASK = true ∧ s.cmdOf tag = some x ∧ x.started = none := ⟨tCmd 0 0x11 none 0, 7, _, by decide +kernel, rfl, rfl⟩

theorem witness_CommandsAreTakenAbortedAndTimedOut_5 :
    ∃ (s : State) (tag : Nat) (x : TaskCmd), s.bar pTASK = true ∧ s.cmdOf tag = some x ∧ x.started ≠ none ∧ x.stop = 0 := ⟨tCmd 1 0x190 (some (0, 0)) 0, 7, _, by decide +kernel, rfl, by decide, rfl⟩

theorem witness_CommandsAreTakenAbortedAndTimedOut_6 :
    ∃ (s : State) (tag : Nat), s.bar pTASK = true ∧ s.cmdOf tag = none ∧ s.task.last = none := ⟨tTask, 7, by decide +kernel, rfl, rfl⟩

theorem witness_CommandsAreTakenAbortedAndTimedOut_7 :
    ∃ (s : State) (tag : Nat) (a : List Nat), s.bar pTASK = true ∧ s.cmdOf tag = none ∧ s.task.last = some (tag, s.fabric, a) := ⟨{ tTask with task := { tTask.task with last := some (7, 0, [5, 6]) } }, 7, [5, 6], by decide +kernel, rfl, rfl⟩

theorem witness_CommandsAreTakenAbortedAndTimedOut_8 :
    ∃ (s : State) (tag : Nat) (x : TaskCmd), s.works pTASK = true ∧ s.cmdOf tag = some x ∧ x.stop = 0 ∧ s.cmdLate x = true := ⟨(tCmd 1 0x190 (some (0, 0)) 0).clock 0 12000000, 7, _, by decide +kernel, rfl, rfl, by decide +kernel⟩

theorem witness_CommandsAreTakenAbortedAndTimedOut_9 :
    ∃ (s : State) (tag : Nat) (x : TaskCmd), s.cmdOf tag = some x ∧ (x.stop ≠ 0 ∨ s.cmdLate x = false) := ⟨tCmd 1 0x190 (some (0, 0)) 0, 7, _, rfl, by decide +kernel⟩

theorem witness_CommandsAreTakenAbortedAndTimedOut_10 :
    ∃ (s : State) (tag : Nat) (x : TaskCmd), s.cmdOf tag = some x ∧ x.op = 4 := ⟨tCmd 4 0x13 (some (0, 0)) 0, 7, _, rfl, rfl⟩

theorem witness_CommandsAreTakenAbortedAndTimedOut_11 :
    ∃ (s : State) (tag : Nat) (x : TaskCmd), s.cmdOf tag = some x ∧ x.op = 6 := ⟨tCmd 6 0x11 (some (0, 0)) 0, 7, _, rfl, rfl⟩

theorem witness_CommandsAreTakenAbortedAndTimedOut_12 :
    ∃ (s : State) (tag : Nat) (x : TaskCmd), s.cmdOf tag = some x ∧ (x.op = 1 ∨ x.op = 3 ∨ x.op = 5) := ⟨tCmd 5 0x11 (some (0, 0)) 0, 7, _, rfl, by decide⟩

theorem witness_CommandsAreTakenAbortedAndTimedOut_13 :
    ∃ (s u : State) (v : Word), s.bar pTASK = true ∧ s.bit pTASK F.TASK.CMD_CFG_EN = true ∧ u = s.setFld pTASK
      F.TASK.CMD_CFG_PRIO (F.TASK.CMD_CFG_PRIO.of v) ∧ (F.TASK.CMD_CFG_CMD_RING.of v ≠ s.fld pTASK F.TASK.CMD_CFG_CMD_RING ∨
      F.TASK.CMD_CFG_RESULT_RING.of v ≠ s.fld pTASK F.TASK.CMD_CFG_RESULT_RING) := ⟨tTask, _, 0x01000100#32, by decide +kernel, by decide +kernel, rfl, by decide +kernel⟩

theorem witness_CommandsAreTakenAbortedAndTimedOut_14 :
    ∃ (s u : State) (v : Word), s.bar pTASK = true ∧ s.bit pTASK F.TASK.CMD_CFG_EN = true ∧ u = s.setFld pTASK
      F.TASK.CMD_CFG_PRIO (F.TASK.CMD_CFG_PRIO.of v) ∧ ¬ (F.TASK.CMD_CFG_CMD_RING.of v ≠ s.fld pTASK F.TASK.CMD_CFG_CMD_RING ∨
      F.TASK.CMD_CFG_RESULT_RING.of v ≠ s.fld pTASK F.TASK.CMD_CFG_RESULT_RING) := ⟨tTask, _, 0#32, by decide +kernel, by decide +kernel, rfl, by decide +kernel⟩

theorem witness_CommandsAreTakenAbortedAndTimedOut_15 :
    ∃ (s u w : State) (v : Word), s.bar pTASK = true ∧ s.bit pTASK F.TASK.CMD_CFG_EN = false ∧ u = s.setFld pTASK
      F.TASK.CMD_CFG_PRIO (F.TASK.CMD_CFG_PRIO.of v) ∧ w = (u.setFld pTASK F.TASK.CMD_CFG_CMD_RING (F.TASK.CMD_CFG_CMD_RING.of
      v)).setFld pTASK F.TASK.CMD_CFG_RESULT_RING (F.TASK.CMD_CFG_RESULT_RING.of v) ∧ F.TASK.CMD_CFG_EN.of v = 0 := ⟨tSvc, _, _, 0x00FF02FF#32, by decide +kernel, by decide +kernel, rfl, rfl, by decide +kernel⟩

theorem witness_CommandsAreTakenAbortedAndTimedOut_16 :
    ∃ (s u w : State) (v : Word), s.bar pTASK = true ∧ s.bit pTASK F.TASK.CMD_CFG_EN = false ∧ u = s.setFld pTASK
      F.TASK.CMD_CFG_PRIO (F.TASK.CMD_CFG_PRIO.of v) ∧ w = (u.setFld pTASK F.TASK.CMD_CFG_CMD_RING (F.TASK.CMD_CFG_CMD_RING.of
      v)).setFld pTASK F.TASK.CMD_CFG_RESULT_RING (F.TASK.CMD_CFG_RESULT_RING.of v) ∧ F.TASK.CMD_CFG_EN.of v ≠ 0 ∧ (w.ringRole
      (F.TASK.CMD_CFG_CMD_RING.of v) 1 && w.ringRole (F.TASK.CMD_CFG_RESULT_RING.of v) 2) = true := ⟨(((tSvc.on (pDMA 254)).setFld (pDMA 254) F.DMA.RING_CFG_ROLE 1).on (pDMA 255)).setFld (pDMA 255) F.DMA.RING_CFG_ROLE 2, _, _, 0x0100FFFE#32, by decide +kernel, by decide +kernel, rfl, rfl, by decide +kernel, by decide +kernel⟩

theorem witness_CommandsAreTakenAbortedAndTimedOut_17 :
    ∃ (s u w : State) (v : Word), s.bar pTASK = true ∧ s.bit pTASK F.TASK.CMD_CFG_EN = false ∧ u = s.setFld pTASK
      F.TASK.CMD_CFG_PRIO (F.TASK.CMD_CFG_PRIO.of v) ∧ w = (u.setFld pTASK F.TASK.CMD_CFG_CMD_RING (F.TASK.CMD_CFG_CMD_RING.of
      v)).setFld pTASK F.TASK.CMD_CFG_RESULT_RING (F.TASK.CMD_CFG_RESULT_RING.of v) ∧ F.TASK.CMD_CFG_EN.of v ≠ 0 ∧ (w.ringRole
      (F.TASK.CMD_CFG_CMD_RING.of v) 1 && w.ringRole (F.TASK.CMD_CFG_RESULT_RING.of v) 2) = false := ⟨tSvc, _, _, 0x0100FFFE#32, by decide +kernel, by decide +kernel, rfl, rfl, by decide +kernel, by decide +kernel⟩

theorem witness_CommandsAreTakenAbortedAndTimedOut_18 :
    ∃ (s u : State) (tag : Nat) (x : TaskCmd), s.cmdOf tag = some x ∧ x.op = 0 ∧ x.started = none ∧ s.cmdReady x = true ∧ u =
      ((s.setFlow x.page { items := (s.flow x.page).items.tail, holder := some (65536 + tag) }).setCmd
      { x with started := some (s.now, s.fabric) }) := ⟨tCmd 0 0x11 none 0, _, 7, _, rfl, rfl, rfl, by decide +kernel, rfl⟩

theorem witness_CommandsAreTakenAbortedAndTimedOut_19 :
    ∃ (s : State) (tag : Nat) (x : TaskCmd), s.cmdOf tag = some x ∧ x.started = none ∧ s.cmdReady x = false := ⟨(tCmd 3 0x190 none 0).setFlow 0x190 { items := [8], holder := some 1 }, 7, _, rfl, rfl, by decide +kernel⟩

theorem witness_CommandOperationsRunToTheirResults_1 :
    ∃ (s u : State) (tag : Nat) (x : TaskCmd), s.cmdOf tag = some x ∧ x.op = 1 ∧ x.started = none ∧ s.cmdReady x = true ∧ u =
      ((s.setFlow x.page { items := (s.flow x.page).items.tail, holder := some (65536 + tag) }).setCmd
      { x with started := some (s.now, s.fabric) }) ∧ u.retrainRefusal (instanceOf x.page) = none := ⟨tCmd 1 (pLANE 37) none 0 |>.setFld pROPE F.ROPE.ROPE_STATUS_LINK 5 |>.setFld pROPE F.ROPE.ROPE_STATUS_TX_MASK 15 |>.setFld pROPE F.ROPE.ROPE_CFG_MIN_LANES 1 |>.on pROPE, _, 7, _, rfl, rfl, rfl, by decide +kernel, rfl, by decide +kernel⟩

theorem witness_CommandOperationsRunToTheirResults_2 :
    ∃ (s u : State) (tag : Nat) (x : TaskCmd) (code : Nat), s.cmdOf tag = some x ∧ x.op = 1 ∧ x.started = none ∧ s.cmdReady x =
      true ∧ u = ((s.setFlow x.page { items := (s.flow x.page).items.tail, holder := some (65536 + tag) }).setCmd
      { x with started := some (s.now, s.fabric) }) ∧ u.retrainRefusal (instanceOf x.page) = some code := ⟨tCmd 1 (pLANE 25) none 0, _, 7, _, _, rfl, rfl, rfl, by decide +kernel, rfl, rfl⟩

theorem witness_CommandOperationsRunToTheirResults_3 :
    ∃ (s : State) (tag : Nat) (x : TaskCmd) (a : Nat × Nat), s.cmdOf tag = some x ∧ x.op = 1 ∧ x.started = some a ∧ s.works
      pTASK = true ∧ s.laneState x.page = laTrack ∧ x.stop = 0 := ⟨(tCmd 1 (pLANE 37) (some (5, 5)) 0).setFld (pLANE 37) F.LANE.LANE_STATUS_STATE 3, 7, _, _, rfl, rfl, rfl, by decide +kernel, by decide +kernel, by decide +kernel⟩

theorem witness_CommandOperationsRunToTheirResults_4 :
    ∃ (s : State) (tag : Nat) (x : TaskCmd) (a : Nat × Nat), s.cmdOf tag = some x ∧ x.op = 1 ∧ x.started = some a ∧ s.works
      pTASK = true ∧ (s.laneState x.page = laDown ∨ s.laneState x.page = laFailed) ∧ x.stop = 0 := ⟨(tCmd 1 (pLANE 37) (some (5, 5)) 0).setFld (pLANE 37) F.LANE.LANE_STATUS_STATE 5, 7, _, _, rfl, rfl, rfl, by decide +kernel, by decide +kernel, by decide +kernel⟩

theorem witness_CommandOperationsRunToTheirResults_5 :
    ∃ (s : State) (tag : Nat) (x : TaskCmd) (a : Nat × Nat), s.cmdOf tag = some x ∧ x.op = 1 ∧ x.started = some a ∧ s.works
      pTASK = true ∧ (s.laneState x.page = laTrain ∨ s.laneState x.page = laAcquire) := ⟨(tCmd 1 (pLANE 37) (some (5, 5)) 0).setFld (pLANE 37) F.LANE.LANE_STATUS_STATE 2, 7, _, _, rfl, rfl, rfl, by decide +kernel, by decide +kernel⟩

theorem witness_CommandOperationsRunToTheirResults_6 :
    ∃ (s u : State) (tag : Nat) (x : TaskCmd), s.cmdOf tag = some x ∧ x.op = 2 ∧ x.started = none ∧ s.cmdReady x = true ∧ u =
      ((s.setFlow x.page { items := (s.flow x.page).items.tail, holder := some (65536 + tag) }).setCmd
      { x with started := some (s.now, s.fabric) }) := ⟨tCmd 2 (pMEMC 15) none 0, _, 7, _, rfl, rfl, rfl, by decide +kernel, rfl⟩

theorem witness_CommandOperationsRunToTheirResults_7 :
    ∃ (s : State) (tag : Nat) (x : TaskCmd) (a : Nat × Nat), s.cmdOf tag = some x ∧ x.op = 2 ∧ x.started = some a ∧ s.works
      pTASK = true ∧ x.phase ≠ 1000 ∧ 0 < (s.memcOf (instanceOf x.page)).probeLeft := ⟨(tCmd 2 (pMEMC 15) (some (5, 5)) 5).setMemc 15 { MemcState.reset with probeLeft := 1 }, 7, _, _, rfl, rfl, rfl, by decide +kernel, by decide +kernel, by decide +kernel⟩

theorem witness_CommandOperationsRunToTheirResults_8 :
    ∃ (s : State) (tag : Nat) (x : TaskCmd) (a : Nat × Nat), s.cmdOf tag = some x ∧ x.op = 2 ∧ x.started = some a ∧ s.works
      pTASK = true ∧ x.phase ≠ 1000 ∧ (s.memcOf (instanceOf x.page)).probeLeft = 0 ∧ x.stop = 0 ∧ 1 ≤ x.phase ∧ x.phase - 1 <
      511 ∧ s.fld x.page F.MEMC.PROBE_RESULT_FAIL = 0 := ⟨(tCmd 2 (pMEMC 15) (some (5, 5)) 511) |>.setMemc 15 { MemcState.reset with probeLeft := 0 }, 7, _, _, rfl, rfl, rfl, by decide +kernel, by decide +kernel, by decide +kernel, by decide +kernel, by decide +kernel, by decide +kernel, by decide +kernel⟩

theorem witness_CommandOperationsRunToTheirResults_9 :
    ∃ (s : State) (tag : Nat) (x : TaskCmd) (a : Nat × Nat), s.cmdOf tag = some x ∧ x.op = 2 ∧ x.started = some a ∧ s.works
      pTASK = true ∧ x.phase ≠ 1000 ∧ (s.memcOf (instanceOf x.page)).probeLeft = 0 ∧ x.stop = 0 ∧ 1 ≤ x.phase ∧ x.phase - 1 <
      511 ∧ s.fld x.page F.MEMC.PROBE_RESULT_FAIL ≠ 0 := ⟨(tCmd 2 (pMEMC 15) (some (5, 5)) 511).setFld (pMEMC 15) F.MEMC.PROBE_RESULT_FAIL 1 |>.setMemc 15 { MemcState.reset with probeLeft := 0 }, 7, _, _, rfl, rfl, rfl, by decide +kernel, by decide +kernel, by decide +kernel, by decide +kernel, by decide +kernel, by decide +kernel, by decide +kernel⟩

theorem witness_CommandOperationsRunToTheirResults_10 :
    ∃ (s : State) (tag : Nat) (x : TaskCmd) (a : Nat × Nat), s.cmdOf tag = some x ∧ x.op = 2 ∧ x.started = some a ∧ s.works
      pTASK = true ∧ x.phase = 512 ∧ (s.memcOf (instanceOf x.page)).probeLeft = 0 ∧ x.stop = 0 ∧ s.fld x.page
      F.MEMC.PROBE_RESULT_FAIL = 0 := ⟨(tCmd 2 (pMEMC 15) (some (5, 5)) 512).setMemc 15 { MemcState.reset with probeLeft := 0 }, 7, _, _, rfl, rfl, rfl, by decide +kernel, by decide +kernel, by decide +kernel, by decide +kernel, by decide +kernel⟩

theorem witness_CommandOperationsRunToTheirResults_11 :
    ∃ (s : State) (tag : Nat) (x : TaskCmd) (a : Nat × Nat), s.cmdOf tag = some x ∧ x.op = 2 ∧ x.started = some a ∧ s.works
      pTASK = true ∧ x.phase = 1000 ∧ s.bit x.page F.MEMC.MEMC_STATUS_APPLY_PENDING = true := ⟨(tCmd 2 (pMEMC 15) (some (5, 5)) 1000).setFld (pMEMC 15) F.MEMC.MEMC_STATUS_APPLY_PENDING 1, 7, _, _, rfl, rfl, rfl, by decide +kernel, by decide +kernel, by decide +kernel⟩

theorem witness_CommandOperationsRunToTheirResults_12 :
    ∃ (s : State) (tag : Nat) (x : TaskCmd) (a : Nat × Nat), s.cmdOf tag = some x ∧ x.op = 2 ∧ x.started = some a ∧ s.works
      pTASK = true ∧ x.phase = 1000 ∧ s.bit x.page F.MEMC.MEMC_STATUS_APPLY_PENDING = false ∧ s.fld x.page (sweepNext x.args) =
      s.fld x.page ⟨(sweepNext x.args).off + 0x40, (sweepNext x.args).lo, 9⟩ := ⟨(tCmd 2 (pMEMC 15) (some (5, 5)) 1000), 7, _, _, rfl, rfl, rfl, by decide +kernel, by decide +kernel, by decide +kernel, by decide +kernel⟩

theorem witness_CommandOperationsRunToTheirResults_13 :
    ∃ (x : TaskCmd), x.data = [] := ⟨⟨2, 0, 0, 0, [], none, 0, 0, 0, [], []⟩, rfl⟩

theorem witness_CommandOperationsRunToTheirResults_14 :
    ∃ (s u : State) (tag : Nat) (x : TaskCmd), s.cmdOf tag = some x ∧ x.op = 3 ∧ x.started = none ∧ s.cmdReady x = true ∧ u =
      ((s.setFlow x.page { items := (s.flow x.page).items.tail, holder := some (65536 + tag) }).setCmd
      { x with started := some (s.now, s.fabric) }) := ⟨tCmd 3 (pLANE 37) none 0, _, 7, _, rfl, rfl, rfl, by decide +kernel, rfl⟩

theorem witness_CommandOperationsRunToTheirResults_15 :
    ∃ (s : State) (tag : Nat) (x : TaskCmd) (a : Nat × Nat), s.cmdOf tag = some x ∧ x.op = 3 ∧ x.started = some a ∧ s.works
      pTASK = true ∧ s.bit x.page F.LANE.ES_STATUS_BUSY = true := ⟨(tCmd 3 (pLANE 37) (some (5, 5)) 1).setFld (pLANE 37) F.LANE.ES_STATUS_BUSY 1, 7, _, _, rfl, rfl, rfl, by decide +kernel, by decide +kernel⟩

theorem witness_CommandOperationsRunToTheirResults_16 :
    ∃ (s : State) (tag : Nat) (x : TaskCmd) (a : Nat × Nat), s.cmdOf tag = some x ∧ x.op = 3 ∧ x.started = some a ∧ s.works
      pTASK = true ∧ s.bit x.page F.LANE.ES_STATUS_BUSY = false ∧ s.bit x.page F.LANE.ES_STATUS_DONE = true ∧ x.stop = 0 ∧
      x.phase - 1 + 1 < scanPoints x.args := ⟨(tCmd 3 (pLANE 37) (some (5, 5)) 2).setFld (pLANE 37) F.LANE.ES_STATUS_DONE 1 |>.setCmd ⟨3, pLANE 37, 7, 1, [0, 1, 1, 0, 1, 1, 0, 10], some (5, 5), 0, 0, 2, [], []⟩, 7, _, _, rfl, rfl, rfl, by decide +kernel, by decide +kernel, by decide +kernel, by decide +kernel, by decide +kernel⟩

theorem witness_CommandOperationsRunToTheirResults_17 :
    ∃ (s : State) (tag : Nat) (x : TaskCmd) (a : Nat × Nat), s.cmdOf tag = some x ∧ x.op = 3 ∧ x.started = some a ∧ s.works
      pTASK = true ∧ s.bit x.page F.LANE.ES_STATUS_BUSY = false ∧ s.bit x.page F.LANE.ES_STATUS_DONE = true ∧ x.stop = 0 ∧
      scanPoints x.args ≤ x.phase - 1 + 1 := ⟨(tCmd 3 (pLANE 37) (some (5, 5)) 10000).setFld (pLANE 37) F.LANE.ES_STATUS_DONE 1, 7, _, _, rfl, rfl, rfl, by decide +kernel, by decide +kernel, by decide +kernel, by decide +kernel, by decide +kernel⟩

theorem witness_CommandOperationsRunToTheirResults_18 :
    ∃ (s u : State) (tag : Nat) (x : TaskCmd), s.cmdOf tag = some x ∧ x.op = 4 ∧ x.started = none ∧ s.cmdReady x = true ∧ u =
      ((s.setFlow x.page { items := (s.flow x.page).items.tail, holder := some (65536 + tag) }).setCmd
      { x with started := some (s.now, s.fabric) }) ∧ u.pairOn = true := ⟨tCmd 4 pPAIR none 0 |>.on pPAIR, _, 7, _, rfl, rfl, rfl, by decide +kernel, rfl, by decide +kernel⟩

theorem witness_CommandOperationsRunToTheirResults_19 :
    ∃ (s u : State) (tag : Nat) (x : TaskCmd), s.cmdOf tag = some x ∧ x.op = 4 ∧ x.started = none ∧ s.cmdReady x = true ∧ u =
      ((s.setFlow x.page { items := (s.flow x.page).items.tail, holder := some (65536 + tag) }).setCmd
      { x with started := some (s.now, s.fabric) }) ∧ u.pairOn = false := ⟨tCmd 4 pPAIR none 0, _, 7, _, rfl, rfl, rfl, by decide +kernel, rfl, by decide +kernel⟩

theorem witness_CommandOperationsRunToTheirResults_20 :
    ∃ (s : State) (tag : Nat) (x : TaskCmd) (a : Nat × Nat), s.cmdOf tag = some x ∧ x.op = 4 ∧ x.started = some a ∧ s.works
      pTASK = true ∧ ((List.range 64).all fun c => joinMask x / 2 ^ c % 2 == 0 || (s.chanOn c && s.chStep c == ncInStep)) = true := ⟨(tCmd 4 pPAIR (some (5, 5)) 0), 7, _, _, rfl, rfl, rfl, by decide +kernel, by decide +kernel⟩

theorem witness_CommandOperationsRunToTheirResults_21 :
    ∃ (s u : State) (tag : Nat) (x : TaskCmd), s.cmdOf tag = some x ∧ x.op = 5 ∧ x.started = none ∧ s.cmdReady x = true ∧ u =
      ((s.setFlow x.page { items := (s.flow x.page).items.tail, holder := some (65536 + tag) }).setCmd
      { x with started := some (s.now, s.fabric) }) ∧ u.bit pTASK F.TASK.FW_STATUS_BANK = true := ⟨tCmd 5 0x11 none 0 |>.setFld pTASK F.TASK.FW_STATUS_BANK 1, _, 7, _, rfl, rfl, rfl, by decide +kernel, rfl, by decide +kernel⟩

theorem witness_CommandOperationsRunToTheirResults_22 :
    ∃ (s u : State) (tag : Nat) (x : TaskCmd), s.cmdOf tag = some x ∧ x.op = 5 ∧ x.started = none ∧ s.cmdReady x = true ∧ u =
      ((s.setFlow x.page { items := (s.flow x.page).items.tail, holder := some (65536 + tag) }).setCmd
      { x with started := some (s.now, s.fabric) }) ∧ u.bit pTASK F.TASK.FW_STATUS_BANK = false := ⟨tCmd 5 0x11 none 0, _, 7, _, rfl, rfl, rfl, by decide +kernel, rfl, by decide +kernel⟩

theorem witness_CommandOperationsRunToTheirResults_23 :
    ∃ (s : State) (tag : Nat) (x : TaskCmd) (a : Nat × Nat), s.cmdOf tag = some x ∧ x.op = 5 ∧ x.started = some a ∧ s.works
      pTASK = true ∧ x.stop = 0 := ⟨(tCmd 5 0x11 (some (5, 5)) 0), 7, _, _, rfl, rfl, rfl, by decide +kernel, by decide +kernel⟩

theorem witness_CommandOperationsRunToTheirResults_24 :
    ∃ (s : State) (tag : Nat) (x : TaskCmd) (a : Nat × Nat), s.cmdOf tag = some x ∧ x.op = 5 ∧ x.started = some a ∧ s.works
      pTASK = true ∧ x.stop = 0 ∧ s.bit pTASK F.TASK.FW_STATUS_BANK = false := ⟨(tCmd 5 0x11 (some (5, 5)) 0), 7, _, _, rfl, rfl, rfl, by decide +kernel, by decide +kernel, by decide +kernel⟩

theorem witness_CommandOperationsRunToTheirResults_25 :
    ∃ (s : State) (tag : Nat) (x : TaskCmd) (a : Nat × Nat), s.cmdOf tag = some x ∧ x.op = 5 ∧ x.started = some a ∧ s.works
      pTASK = true ∧ x.stop = 0 ∧ s.bit pTASK F.TASK.FW_STATUS_BANK = true := ⟨(tCmd 5 0x11 (some (5, 5)) 0).setFld pTASK F.TASK.FW_STATUS_BANK 1, 7, _, _, rfl, rfl, rfl, by decide +kernel, by decide +kernel, by decide +kernel⟩

theorem witness_CommandOperationsRunToTheirResults_26 :
    ∃ (s : State) (tag : Nat) (x : TaskCmd) (a : Nat × Nat), s.cmdOf tag = some x ∧ x.op = 5 ∧ x.started = some a ∧ s.works
      pTASK = true ∧ x.stop ≠ 0 := ⟨(tCmd 5 0x11 (some (5, 5)) 0) |> fun s => s.setCmd { (s.cmdOf 7).getD ⟨5, 0x11, 7, 0, [], none, 0, 0, 0, [], []⟩ with stop := 1 }, 7, _, _, rfl, rfl, rfl, by decide +kernel, by decide +kernel⟩

theorem witness_CommandOperationsRunToTheirResults_27 :
    ∃ (s u : State) (tag : Nat) (x : TaskCmd), s.cmdOf tag = some x ∧ x.op = 6 ∧ x.started = none ∧ s.cmdReady x = true ∧ u =
      ((s.setFlow x.page { items := (s.flow x.page).items.tail, holder := some (65536 + tag) }).setCmd
      { x with started := some (s.now, s.fabric) }) ∧ u.otherBank.valid = false := ⟨tCmd 6 0x11 none 0, _, 7, _, rfl, rfl, rfl, by decide +kernel, rfl, by decide +kernel⟩

theorem witness_CommandOperationsRunToTheirResults_28 :
    ∃ (s u : State) (tag : Nat) (x : TaskCmd), s.cmdOf tag = some x ∧ x.op = 6 ∧ x.started = none ∧ s.cmdReady x = true ∧ u =
      ((s.setFlow x.page { items := (s.flow x.page).items.tail, holder := some (65536 + tag) }).setCmd
      { x with started := some (s.now, s.fabric) }) ∧ u.otherBank.valid = true ∧ u.otherBank.abi ≠ u.activeBank.abi := ⟨tBanks (tCmd 6 0x11 none 0) 2, _, 7, _, rfl, rfl, rfl, by decide +kernel, rfl, by decide +kernel, by decide +kernel⟩

theorem witness_CommandOperationsRunToTheirResults_29 :
    ∃ (s u : State) (tag : Nat) (x : TaskCmd), s.cmdOf tag = some x ∧ x.op = 6 ∧ x.started = none ∧ s.cmdReady x = true ∧ u =
      ((s.setFlow x.page { items := (s.flow x.page).items.tail, holder := some (65536 + tag) }).setCmd
      { x with started := some (s.now, s.fabric) }) ∧ u.otherBank.valid = true ∧ u.otherBank.abi = u.activeBank.abi := ⟨tBanks (tCmd 6 0x11 none 0) 1, _, 7, _, rfl, rfl, rfl, by decide +kernel, rfl, by decide +kernel, by decide +kernel⟩

theorem witness_CommandOperationsRunToTheirResults_30 :
    ∃ (s : State) (c : Nat), s.works pTASK = true ∧ c < 8 ∧ s.task.swapTag.isSome = true ∧ s.task.stopped / 2 ^ c % 2 = 0 := ⟨{ tTask with task := { tTask.task with swapTag := some 7 } }, 7, by decide +kernel⟩

theorem witness_CommandOperationsRunToTheirResults_31 :
    ∃ (s : State) (c : Nat), s.task.swapTag = none := ⟨tTask, 7, by decide +kernel⟩

theorem witness_CommandOperationsRunToTheirResults_32 :
    ∃ (s : State) (tag t : Nat) (x : TaskCmd), s.works pTASK = true ∧ s.task.firstStop = some t ∧ t + 60000 ≤ s.fabric ∧
      s.task.swapTag = some tag ∧ s.cmdOf tag = some x := ⟨({ (tCmd 6 0x11 (some (5, 5)) 0) with task := { (tCmd 6 0x11 (some (5, 5)) 0).task with swapTag := some 7, firstStop := some 0 } } : State).clock 0 480000, 7, _, _, by decide +kernel, rfl, by decide +kernel, rfl, rfl⟩

theorem witness_CommandOperationsRunToTheirResults_33 :
    ∃ (s : State), s.task.firstStop = none := ⟨tTask, rfl⟩

theorem witness_CommandOperationsRunToTheirResults_34 :
    ∃ (s u : State) (tag : Nat) (x : TaskCmd), s.cmdOf tag = some x ∧ x.op = 7 ∧ x.started = none ∧ s.cmdReady x = true ∧ u =
      ((s.setFlow x.page { items := (s.flow x.page).items.tail, holder := some (65536 + tag) }).setCmd
      { x with started := some (s.now, s.fabric) }) ∧ u.st x.page = stOos := ⟨tCmd 7 (pCHMB 17) none 0 |>.inState (pCHMB 17) 4, _, 7, _, rfl, rfl, rfl, by decide +kernel, rfl, by decide +kernel⟩

theorem witness_CommandOperationsRunToTheirResults_35 :
    ∃ (s u : State) (tag : Nat) (x : TaskCmd), s.cmdOf tag = some x ∧ x.op = 7 ∧ x.started = none ∧ s.cmdReady x = true ∧ u =
      ((s.setFlow x.page { items := (s.flow x.page).items.tail, holder := some (65536 + tag) }).setCmd
      { x with started := some (s.now, s.fabric) }) ∧ u.st x.page ≠ stOos := ⟨tCmd 7 (pCHMB 17) none 0, _, 7, _, rfl, rfl, rfl, by decide +kernel, rfl, by decide +kernel⟩

theorem witness_CommandOperationsRunToTheirResults_36 :
    ∃ (s : State) (tag : Nat) (x : TaskCmd) (a : Nat × Nat), s.cmdOf tag = some x ∧ x.op = 7 ∧ x.started = some a ∧ s.works
      pTASK = true := ⟨(tCmd 7 (pCHMB 17) (some (5, 5)) 0), 7, _, _, rfl, rfl, rfl, by decide +kernel⟩

theorem witness_ResetsHoldAndReleaseTheDevice_1 :
    ∃ (s u : State), s.boot.porHeld = true ∧ u =
      (({ s with boot := { s.boot with porHeld := false }, watch := { s.watch with thermtrip := false, shutdownN := false } } :
      State).setFld pMGMT F.MGMT.TRUST_STATUS_SEC_COUNTER s.nor.secCounter) := ⟨State.reset, _, rfl, rfl⟩

theorem witness_ResetsHoldAndReleaseTheDevice_2 :
    ∃ (s : State), s.boot.porHeld = false := ⟨{ tSvc with boot := { tSvc.boot with porHeld := false } }, rfl⟩

theorem witness_ResetsHoldAndReleaseTheDevice_4 :
    ∃ (s : State), s.boot.porHeld = true := ⟨State.reset, rfl⟩

theorem witness_ResetsHoldAndReleaseTheDevice_5 :
    ∃ (s u : State), s.boot.porHeld = false ∧ u = s.deviceReset false := ⟨{ tSvc with boot := { tSvc.boot with porHeld := false } }, _, rfl, rfl⟩

theorem witness_ResetsHoldAndReleaseTheDevice_6 :
    ∃ (s u : State), s.boot.perst = true ∧ u = ({ s with boot := { s.boot with perst := false, pcieTraining := true } } :
      State).hostTrains ∧ s.phase = phReset ∧ s.boot.porHeld = false ∧ s.boot.rootHeld = false := ⟨{ State.reset with boot := { BootState.reset with porHeld := false } }, _, rfl, rfl, by decide +kernel, rfl, rfl⟩

theorem witness_ResetsHoldAndReleaseTheDevice_7 :
    ∃ (s u : State), s.boot.perst = true ∧ u = ({ s with boot := { s.boot with perst := false, pcieTraining := true } } :
      State).hostTrains ∧ (s.phase ≠ phReset ∨ s.boot.porHeld = true ∨ s.boot.rootHeld = true) := ⟨State.reset, _, rfl, rfl, by decide +kernel⟩

theorem witness_ResetsHoldAndReleaseTheDevice_8 :
    ∃ (s : State), s.boot.perst = false := ⟨{ tSvc with boot := { tSvc.boot with perst := false } }, rfl⟩

theorem witness_ResetsHoldAndReleaseTheDevice_9 :
    ∃ (s u : State), s.boot.porHeld = false ∧ u = s.deviceReset false := ⟨{ tSvc with boot := { tSvc.boot with porHeld := false } }, _, rfl, rfl⟩

theorem witness_ResetsHoldAndReleaseTheDevice_10 :
    ∃ (s u : State), s.boot.rootHeld = true ∧ u = (({ s with boot := { s.boot with rootHeld := false } } : State).enterBoot 6) := ⟨{ tSvc with boot := { tSvc.boot with rootHeld := true } }, _, rfl, rfl⟩

theorem witness_ResetsHoldAndReleaseTheDevice_11 :
    ∃ (s : State), s.boot.rootHeld = false := ⟨tSvc, rfl⟩

theorem witness_ResetsHoldAndReleaseTheDevice_12 :
    ∃ (s : State), (s.phase = phBoot ∨ s.phase = phSelftest ∨ s.phase = phBringup) ∧ s.boot.ps ≥ s.boot.bootAt + 5000000000000 := ⟨(tPhase 3).clock 5000000000000 0, by decide +kernel⟩

theorem witness_ResetsHoldAndReleaseTheDevice_13 :
    ∃ (s : State), s.boot.ps < s.boot.bootAt + 5000000000000 := ⟨(tPhase 3).clock 4999999999999 0, by decide +kernel⟩

theorem witness_ResetsHoldAndReleaseTheDevice_14 :
    ∃ (s : State), s.phase = phService ∧ s.boot.porHeld = false := ⟨{ tSvc with boot := { tSvc.boot with porHeld := false } }, by decide +kernel⟩

theorem witness_ResetsHoldAndReleaseTheDevice_15 :
    ∃ (s : State), s.phase ≠ phService ∧ s.phase ≠ phReset ∧ s.boot.porHeld = false := ⟨{ tPhase 3 with boot := { tSvc.boot with porHeld := false } }, by decide +kernel⟩

theorem witness_TheBootRunsToServiceOrRecovery_1 :
    ∃ (s u : State) (a b : Bool) (bad : List (Nat × Nat)), s.phase = phBoot ∧ State.chooseSlot (fun k => if k = 0 then a else b)
      3 s.readDir.findLogHead [] = (u, bad, none) := by
  obtain ⟨u, b, h⟩ := choose_none (State.chooseSlot (fun k => if k = 0 then true else true) 3 (tPhase 1).readDir.findLogHead []) (by decide +kernel)
  exact ⟨tPhase 1, u, true, true, b, by decide +kernel, h⟩

theorem witness_TheBootRunsToServiceOrRecovery_2 :
    ∃ (s u : State) (a b : Bool) (bad : List (Nat × Nat)) (k : Nat) (es : List (Nat × Nat × Nat)), s.phase = phBoot ∧
      State.chooseSlot (fun k => if k = 0 then a else b) 3 s.readDir.findLogHead [] = (u, bad, some (k, es)) := boot_finds tImage (by decide +kernel) (by decide +kernel) (by decide +kernel)

theorem witness_TheBootRunsToServiceOrRecovery_3 :
    ∃ (s : State), s.phase ≠ phBoot := ⟨tSvc, by decide +kernel⟩

theorem witness_TheBootRunsToServiceOrRecovery_4 :
    ∃ (s : State), s.phase ≠ phSelftest := ⟨tSvc, by decide +kernel⟩

theorem witness_TheBootRunsToServiceOrRecovery_5 :
    ∃ (s u u1 v : State) (cr ch de cl si ra k : Nat) (l : List (Nat × Nat)), s.phase = phSelftest ∧ k = s.testable ch ∧ l =
      failedItems 0 1 (cr &&& 0xB) ++ failedItems 1 1 ((cr &&& 0xB) / 2) ++ failedItems 2 18 k ++ failedItems 3 1 ((cr &&& 0xB)
      / 8) ++ failedItems 4 2 de ++ failedItems 5 5 cl ++ failedItems 6 12 si ++ failedItems 6 10 ra ∧ u = (l.foldl (fun t i =>
      t.logEv pMGMT 0x21 4 0 [(24, i.1), (25, i.2)]) s).setFld pMGMT F.MGMT.SELFTEST_RESULT (l.foldl (fun m i => m ||| 2 ^ i.1)
      0) ∧ u1 = u.setFld pMGMT F.MGMT.CHMB_FAILED_CHAMBERS k ∧ v =
      ({ u1 with boot := { u1.boot with decFailed := de % 4, refclkBad := cl % 32 }, watch := { u1.watch with badSites := si % 4096, badRails := ra % 1024 } }
      : State) ∧ cr &&& 0xB ≠ 0 := ⟨tPhase 2, _, _, _, 1, 3, 0, 0, 0, 0, _, _, by decide +kernel, rfl, rfl, rfl, rfl, rfl, by decide⟩

theorem witness_TheBootRunsToServiceOrRecovery_6 :
    ∃ (s u u1 v : State) (cr ch de cl si ra k : Nat) (l : List (Nat × Nat)) (w : State), s.phase = phSelftest ∧ k = s.testable
      ch ∧ l = failedItems 0 1 (cr &&& 0xB) ++ failedItems 1 1 ((cr &&& 0xB) / 2) ++ failedItems 2 18 k ++ failedItems 3 1 ((cr
      &&& 0xB) / 8) ++ failedItems 4 2 de ++ failedItems 5 5 cl ++ failedItems 6 12 si ++ failedItems 6 10 ra ∧ u = (l.foldl
      (fun t i => t.logEv pMGMT 0x21 4 0 [(24, i.1), (25, i.2)]) s).setFld pMGMT F.MGMT.SELFTEST_RESULT (l.foldl (fun m i => m
      ||| 2 ^ i.1) 0) ∧ u1 = u.setFld pMGMT F.MGMT.CHMB_FAILED_CHAMBERS k ∧ v =
      ({ u1 with boot := { u1.boot with decFailed := de % 4, refclkBad := cl % 32 }, watch := { u1.watch with badSites := si % 4096, badRails := ra % 1024 } }
      : State) ∧ cr &&& 0xB = 0 ∧ w = (v.setFld pMGMT F.MGMT.PHASE_STATUS_SELFTEST_OK 1).deviceReset true := ⟨tPhase 2, _, _, _, 0, 3, 2, 0, 0, 0, _, _, _, by decide +kernel, rfl, rfl, rfl, rfl, rfl, by decide, rfl⟩

theorem witness_TheBootRunsToServiceOrRecovery_7 :
    ∃ (s u : State) (t : Nat), s.phase = phBringup ∧ (s.bringMemory t).protectedData (s.boot.heldSlot.getD 0) = none ∧ u =
      (s.bringMemory t).deviceReset true := ⟨tProtected, _, 0, by decide +kernel, Option.isNone_iff_eq_none.mp (by decide +kernel), rfl⟩

theorem witness_TheBootRunsToServiceOrRecovery_8 :
    ∃ (s u : State) (t : Nat), s.phase = phBringup ∧ (s.bringMemory t).protectedData (s.boot.heldSlot.getD 0) = some u := by
  obtain ⟨u, h⟩ := Option.isSome_iff_exists.mp (by decide +kernel : (((tPhase 3).bringMemory 65535).protectedData ((tPhase 3).boot.heldSlot.getD 0)).isSome = true)
  exact ⟨tPhase 3, u, 65535, by decide +kernel, h⟩

theorem witness_TheBootRunsToServiceOrRecovery_9 :
    ∃ (s : State), s.phase ≠ phBringup := ⟨tSvc, by decide +kernel⟩

theorem witness_SlotsAreWrittenActivatedAndRead_1 :
    ∃ (s : State), s.bar pMGMT = true ∧ s.phase = phService ∧ 5 ≤ s.fld pMGMT F.PAGE_OP_KIND ∧ s.opRunning pMGMT (s.fld pMGMT
      F.PAGE_OP_KIND) = true := ⟨tMgmt.opBegin pMGMT 5, by decide +kernel⟩

theorem witness_SlotsAreWrittenActivatedAndRead_2 :
    ∃ (s t : State) (k : Nat), s.bar pMGMT = true ∧ s.boot.runSlot = some k ∧ s.phase = phService ∧ (s.fld pMGMT F.PAGE_OP_KIND
      < 5 ∨ s.opRunning pMGMT (s.fld pMGMT F.PAGE_OP_KIND) = false) ∧ t = ({ s with nor := { s.nor with opAbort := false } } :
      State) ∧ 64 ≤ t.fld pMGMT F.MGMT.UPD_LEN_BYTES ∧ t.fld pMGMT F.MGMT.UPD_LEN_BYTES ≤ 12582912 ∧ t.inDram (t.addr36 pMGMT
      F.MGMT.UPD_ADDR_LO) (t.fld pMGMT F.MGMT.UPD_LEN_BYTES) = true := ⟨tMgmt.setFld pMGMT F.MGMT.UPD_LEN_BYTES 12582912, _, 0, by decide +kernel, rfl, by decide +kernel, by decide +kernel, rfl, by decide +kernel⟩

theorem witness_SlotsAreWrittenActivatedAndRead_3 :
    ∃ (s t : State) (k : Nat), s.bar pMGMT = true ∧ s.boot.runSlot = some k ∧ s.phase = phService ∧ (s.fld pMGMT F.PAGE_OP_KIND
      < 5 ∨ s.opRunning pMGMT (s.fld pMGMT F.PAGE_OP_KIND) = false) ∧ t = ({ s with nor := { s.nor with opAbort := false } } :
      State) ∧ (t.fld pMGMT F.MGMT.UPD_LEN_BYTES < 64 ∨ 12582912 < t.fld pMGMT F.MGMT.UPD_LEN_BYTES) := ⟨tMgmt.setFld pMGMT F.MGMT.UPD_LEN_BYTES 12582913, _, 0, by decide +kernel, rfl, by decide +kernel, by decide +kernel, rfl, by decide +kernel⟩

theorem witness_SlotsAreWrittenActivatedAndRead_4 :
    ∃ (s t : State) (k : Nat), s.bar pMGMT = true ∧ s.boot.runSlot = some k ∧ s.phase = phService ∧ (s.fld pMGMT F.PAGE_OP_KIND
      < 5 ∨ s.opRunning pMGMT (s.fld pMGMT F.PAGE_OP_KIND) = false) ∧ t = ({ s with nor := { s.nor with opAbort := false } } :
      State) ∧ 64 ≤ t.fld pMGMT F.MGMT.UPD_LEN_BYTES ∧ t.fld pMGMT F.MGMT.UPD_LEN_BYTES ≤ 12582912 ∧ t.inDram (t.addr36 pMGMT
      F.MGMT.UPD_ADDR_LO) (t.fld pMGMT F.MGMT.UPD_LEN_BYTES) = false := ⟨(tMgmt.setFld pMGMT F.MGMT.UPD_LEN_BYTES 64).put64 pMGMT F.MGMT.UPD_ADDR_LO 0xFFFFFFFFF, _, 0, by decide +kernel, rfl, by decide +kernel, by decide +kernel, rfl, by decide +kernel⟩

theorem witness_SlotsAreWrittenActivatedAndRead_5 :
    ∃ (s t : State) (n k : Nat), s.bar pMGMT = true ∧ s.phase = phService ∧ (s.fld pMGMT F.PAGE_OP_KIND < 5 ∨ s.opRunning pMGMT
      (s.fld pMGMT F.PAGE_OP_KIND) = false) ∧ t = ({ s with nor := { s.nor with opAbort := false } } : State) ∧ t.nor.written =
      some k ∧ 1 ≤ n ∧ n ≤ 7 := ⟨{ tMgmt with nor := { tMgmt.nor with written := some 1 } }, _, 7, 1, by decide +kernel, by decide +kernel, by decide +kernel, rfl, by decide +kernel⟩

theorem witness_SlotsAreWrittenActivatedAndRead_6 :
    ∃ (s t : State) (n : Nat), s.bar pMGMT = true ∧ s.phase = phService ∧ (s.fld pMGMT F.PAGE_OP_KIND < 5 ∨ s.opRunning pMGMT
      (s.fld pMGMT F.PAGE_OP_KIND) = false) ∧ t = ({ s with nor := { s.nor with opAbort := false } } : State) ∧ t.nor.written =
      none ∧ 1 ≤ n ∧ n ≤ 7 := ⟨tMgmt, _, 1, by decide +kernel, by decide +kernel, by decide +kernel, rfl, by decide +kernel⟩

theorem witness_SlotsAreWrittenActivatedAndRead_7 :
    ∃ (s t : State) (n : Nat), s.bar pMGMT = true ∧ s.phase = phService ∧ (s.fld pMGMT F.PAGE_OP_KIND < 5 ∨ s.opRunning pMGMT
      (s.fld pMGMT F.PAGE_OP_KIND) = false) ∧ t = ({ s with nor := { s.nor with opAbort := false } } : State) ∧ (n = 0 ∨ 7 < n) := ⟨tMgmt, _, 8, by decide +kernel, by decide +kernel, by decide +kernel, rfl, by decide +kernel⟩

theorem witness_SlotsAreWrittenActivatedAndRead_8 :
    ∃ (s t : State), s.bar pMGMT = true ∧ s.phase = phService ∧ (s.fld pMGMT F.PAGE_OP_KIND < 5 ∨ s.opRunning pMGMT (s.fld pMGMT
      F.PAGE_OP_KIND) = false) ∧ t = ({ s with nor := { s.nor with opAbort := false } } : State) ∧ 1 ≤ t.fld pMGMT
      F.MGMT.NOR_LEN_BYTES ∧ t.fld pMGMT F.MGMT.NOR_ADDR_ADDR + t.fld pMGMT F.MGMT.NOR_LEN_BYTES ≤ 33554432 ∧ t.inDram (t.addr36
      pMGMT F.MGMT.UPD_ADDR_LO) (t.fld pMGMT F.MGMT.NOR_LEN_BYTES) = true := ⟨(tMgmt.setFld pMGMT F.MGMT.NOR_LEN_BYTES 1).setFld pMGMT F.MGMT.NOR_ADDR_ADDR 33554431, _, by decide +kernel, by decide +kernel, by decide +kernel, rfl, by decide +kernel⟩

theorem witness_SlotsAreWrittenActivatedAndRead_9 :
    ∃ (s t : State), s.bar pMGMT = true ∧ s.phase = phService ∧ (s.fld pMGMT F.PAGE_OP_KIND < 5 ∨ s.opRunning pMGMT (s.fld pMGMT
      F.PAGE_OP_KIND) = false) ∧ t = ({ s with nor := { s.nor with opAbort := false } } : State) ∧ 1 ≤ t.fld pMGMT
      F.MGMT.NOR_LEN_BYTES ∧ t.fld pMGMT F.MGMT.NOR_LEN_BYTES ≤ 33554432 ∧ 33554432 < t.fld pMGMT F.MGMT.NOR_ADDR_ADDR + t.fld
      pMGMT F.MGMT.NOR_LEN_BYTES := ⟨(tMgmt.setFld pMGMT F.MGMT.NOR_LEN_BYTES 2).setFld pMGMT F.MGMT.NOR_ADDR_ADDR 33554431, _, by decide +kernel, by decide +kernel, by decide +kernel, rfl, by decide +kernel⟩

theorem witness_SlotsAreWrittenActivatedAndRead_10 :
    ∃ (s t : State), s.bar pMGMT = true ∧ s.phase = phService ∧ (s.fld pMGMT F.PAGE_OP_KIND < 5 ∨ s.opRunning pMGMT (s.fld pMGMT
      F.PAGE_OP_KIND) = false) ∧ t = ({ s with nor := { s.nor with opAbort := false } } : State) := ⟨tMgmt, _, by decide +kernel, by decide +kernel, by decide +kernel, rfl⟩

theorem witness_SlotsAreWrittenActivatedAndRead_11 :
    ∃ (s u : State), s.boot.rootHeld = false ∧ s.nor.opAbort = false ∧ s.fld pMGMT F.PAGE_OP_KIND = 5 ∧ s.opRunning pMGMT 5 =
      true ∧ u = ((s.norErase (slotBase s.nor.opSlot) (ceilDiv (s.fld pMGMT F.MGMT.UPD_LEN_BYTES) 65536 * 65536)).norProgram
      (slotBase s.nor.opSlot) (s.loadBytes (s.addr36 pMGMT F.MGMT.UPD_ADDR_LO) (s.fld pMGMT F.MGMT.UPD_LEN_BYTES))) := ⟨tMgmt.opBegin pMGMT 5, _, by decide +kernel, by decide +kernel, by decide +kernel, by decide +kernel, rfl⟩

theorem witness_SlotsAreWrittenActivatedAndRead_12 :
    ∃ (s u : State) (sound : Bool), s.boot.rootHeld = false ∧ s.nor.opAbort = false ∧ s.fld pMGMT F.PAGE_OP_KIND = 5 ∧
      s.opRunning pMGMT 5 = true ∧ u = ((s.norErase (slotBase s.nor.opSlot) (ceilDiv (s.fld pMGMT F.MGMT.UPD_LEN_BYTES) 65536 *
      65536)).norProgram (slotBase s.nor.opSlot) (s.loadBytes (s.addr36 pMGMT F.MGMT.UPD_ADDR_LO) (s.fld pMGMT
      F.MGMT.UPD_LEN_BYTES))) ∧ ({ u with nor := { u.nor with secCounter := 0 } } : State).verifyImage s.nor.opSlot sound = none := ⟨tMgmt.opBegin pMGMT 5, _, true, by decide +kernel, by decide +kernel, by decide +kernel, by decide +kernel, rfl, by decide +kernel⟩

theorem witness_SlotsAreWrittenActivatedAndRead_13 :
    ∃ (s u : State) (sound : Bool) (r : List Section × List (Nat × Nat × Nat)), s.boot.rootHeld = false ∧ s.nor.opAbort = false
      ∧ s.fld pMGMT F.PAGE_OP_KIND = 5 ∧ s.opRunning pMGMT 5 = true ∧ u = ((s.norErase (slotBase s.nor.opSlot) (ceilDiv (s.fld
      pMGMT F.MGMT.UPD_LEN_BYTES) 65536 * 65536)).norProgram (slotBase s.nor.opSlot) (s.loadBytes (s.addr36 pMGMT
      F.MGMT.UPD_ADDR_LO) (s.fld pMGMT F.MGMT.UPD_LEN_BYTES))) ∧ ({ u with nor := { u.nor with secCounter := 0 } } :
      State).verifyImage s.nor.opSlot sound = some r ∧ (u.norByte (slotBase s.nor.opSlot + 7)).toNat < s.nor.secCounter := by
  obtain ⟨s, u, b, r, h1, h2, h3, h4, h5, h6, h7, h8⟩ := slot_copied tCopy 1 (by decide +kernel) (by decide +kernel)
    (by decide +kernel) (by decide +kernel) (by decide +kernel) tCopy_good
  exact ⟨s, u, b, r, h1, h2, h3, h4, h5, h6, by omega⟩

theorem witness_SlotsAreWrittenActivatedAndRead_14 :
    ∃ (s u : State) (sound : Bool) (r : List Section × List (Nat × Nat × Nat)), s.boot.rootHeld = false ∧ s.nor.opAbort = false
      ∧ s.fld pMGMT F.PAGE_OP_KIND = 5 ∧ s.opRunning pMGMT 5 = true ∧ u = ((s.norErase (slotBase s.nor.opSlot) (ceilDiv (s.fld
      pMGMT F.MGMT.UPD_LEN_BYTES) 65536 * 65536)).norProgram (slotBase s.nor.opSlot) (s.loadBytes (s.addr36 pMGMT
      F.MGMT.UPD_ADDR_LO) (s.fld pMGMT F.MGMT.UPD_LEN_BYTES))) ∧ ({ u with nor := { u.nor with secCounter := 0 } } :
      State).verifyImage s.nor.opSlot sound = some r ∧ (u.norByte (slotBase s.nor.opSlot + 7)).toNat ≥ s.nor.secCounter := by
  obtain ⟨s, u, b, r, h1, h2, h3, h4, h5, h6, h7, h8⟩ := slot_copied tCopy 0 (by decide +kernel) (by decide +kernel)
    (by decide +kernel) (by decide +kernel) (by decide +kernel) tCopy_good
  exact ⟨s, u, b, r, h1, h2, h3, h4, h5, h6, by omega⟩

theorem witness_SlotsAreWrittenActivatedAndRead_15 :
    ∃ (s : State), s.boot.rootHeld = false ∧ s.nor.opAbort = false ∧ s.fld pMGMT F.PAGE_OP_KIND = 6 ∧ s.opRunning pMGMT 6 = true := ⟨tMgmt.opBegin pMGMT 6, by decide +kernel⟩

theorem witness_SlotsAreWrittenActivatedAndRead_16 :
    ∃ (s : State), s.boot.rootHeld = false ∧ s.nor.opAbort = false ∧ s.fld pMGMT F.PAGE_OP_KIND = 6 ∧ s.opRunning pMGMT 6 = true := ⟨tMgmt.opBegin pMGMT 6, by decide +kernel⟩

theorem witness_SlotsAreWrittenActivatedAndRead_17 :
    ∃ (s : State), s.boot.rootHeld = false ∧ s.nor.opAbort = false ∧ s.fld pMGMT F.PAGE_OP_KIND = 7 ∧ s.opRunning pMGMT 7 = true := ⟨tMgmt.opBegin pMGMT 7, by decide +kernel⟩

theorem witness_SlotsAreWrittenActivatedAndRead_18 :
    ∃ (s : State) (k : Nat), s.boot.rootHeld = false ∧ s.nor.opAbort = true ∧ s.fld pMGMT F.PAGE_OP_KIND = k ∧ 5 ≤ k ∧ k ≤ 7 ∧
      s.opRunning pMGMT k = true := ⟨({ tMgmt with nor := { tMgmt.nor with opAbort := true } } : State).opBegin pMGMT 7, 7, by decide +kernel⟩

theorem witness_SlotsAreWrittenActivatedAndRead_19 :
    ∃ (s : State), s.fld pMGMT F.PAGE_OP_KIND < 5 := ⟨tMgmt, by decide +kernel⟩

theorem witness_SlotsAreWrittenActivatedAndRead_20 :
    ∃ (s : State) (bs : List Byte), s.phase = phRecovery ∧ s.inDram 0 bs.length = true := ⟨tPhase 5, [7#8], by decide +kernel⟩

theorem witness_SlotsAreWrittenActivatedAndRead_21 :
    ∃ (s : State), s.phase ≠ phRecovery := ⟨tSvc, by decide +kernel⟩

theorem witness_SlotsAreWrittenActivatedAndRead_22 :
    ∃ (s : State) (k : Nat), s.phase = phRecovery ∧ k < 2 := ⟨tPhase 5, 1, by decide +kernel⟩

theorem witness_SensorsWatchdogsAndLogs_1 :
    ∃ (s u v w : State) (ts : List Int) (vs : List Nat) (k : Nat), s.isOn pSENS = true ∧ s.boot.rootHeld = false ∧ ts.length =
      12 ∧ vs.length = 10 ∧ (v = ((List.range 10).foldl (fun t n => t.sampleVolt n (vs.getD n 0)) ((List.range 12).foldl (fun t
      n => t.sampleTemp n (ts.getD n 0)) (s.errBy pSENS 0 k)))) ∧ w = ({ v with watch := { v.watch with fresh := false } } :
      State).junction ∧ (u = ((List.range 16).filter fun n => w.works (pMEMC n)).foldl (fun t n => t.memcSensor n (ts.getD
      (memcSite n) 0)) w) ∧ (s16 (u.fld pSENS F.SENS.JUNCTION_VALUE) < 880 ∨ u.phase ≠ phService) := ⟨tSvc.on pSENS, _, _, _, List.replicate 12 879, List.replicate 10 800, 0, by decide +kernel, by decide +kernel, by decide, by decide, rfl, rfl, rfl, by decide +kernel⟩

theorem witness_SensorsWatchdogsAndLogs_2 :
    ∃ (s u v w : State) (ts : List Int) (vs : List Nat) (k : Nat), s.isOn pSENS = true ∧ s.boot.rootHeld = false ∧ ts.length =
      12 ∧ vs.length = 10 ∧ (v = ((List.range 10).foldl (fun t n => t.sampleVolt n (vs.getD n 0)) ((List.range 12).foldl (fun t
      n => t.sampleTemp n (ts.getD n 0)) (s.errBy pSENS 0 k)))) ∧ w = ({ v with watch := { v.watch with fresh := false } } :
      State).junction ∧ (u = ((List.range 16).filter fun n => w.works (pMEMC n)).foldl (fun t n => t.memcSensor n (ts.getD
      (memcSite n) 0)) w) ∧ s16 (u.fld pSENS F.SENS.JUNCTION_VALUE) ≥ 880 ∧ u.phase = phService ∧ (!u.validSites.isEmpty) = true := ⟨tSvc.on pSENS, _, _, _, List.replicate 12 880, List.replicate 10 800, 0, by decide +kernel, by decide +kernel, by decide, by decide, rfl, rfl, rfl, by decide +kernel⟩

theorem witness_SensorsWatchdogsAndLogs_3 :
    ∃ (s : State), s.isOn pSENS = false := ⟨tSvc, by decide +kernel⟩

theorem witness_SensorsWatchdogsAndLogs_4 :
    ∃ (s : State) (v : Word), s.bar pSENS = true ∧ v.toNat % 2 = 1 := ⟨tSvc, 0xFFFFFFFF#32, by decide +kernel⟩

theorem witness_SensorsWatchdogsAndLogs_5 :
    ∃ (s : State) (v : Word), s.bar pSENS = true ∧ v.toNat % 2 = 0 := ⟨tSvc, 0xFFFFFFFE#32, by decide +kernel⟩

theorem witness_SensorsWatchdogsAndLogs_6 :
    ∃ (s u : State), s.phase = phShutdown ∧ s.watch.clocksStopped = false ∧ s.watch.coolAt = none ∧ s.boot.ps ≥ s.watch.otAt +
      s.fld pPWR F.PWR.OT_CFG_HOLD_MS * 1000000000 ∧ u = { s with watch := { s.watch with coolAt := some s.boot.ps } } := ⟨(tPhase 6).clock 1000000000000 0, _, by decide +kernel, by decide +kernel, by decide +kernel, by decide +kernel, rfl⟩

theorem witness_SensorsWatchdogsAndLogs_7 :
    ∃ (s u v : State) (t : Nat), s.phase = phShutdown ∧ s.watch.clocksStopped = false ∧ s.watch.coolAt = some t ∧ s.boot.ps ≥ t
      + 10000000 ∧ u = ((({ s with pwr := { s.pwr with level := [], want := [], waking := false, cooling := false } } :
      State).setFld pPWR F.PWR.DOMAIN_WARM 0).govShow) ∧ v = ({ u with log := { u.log with tokens := max 1 u.log.tokens } } :
      State).makeRecord
      ({ time := if s.running then s.now else 0, noTime := !s.running, event := 0x0622, severity := 7, page := pMGMT, reason := 0, data := logHalf 26 (s.fld pSENS F.SENS.JUNCTION_VALUE), cycle := s.fabric }
      : LogEntry) := ⟨{ (tPhase 6).clock 1000000000000 0 with watch := { WatchState.reset with coolAt := some 0 } }, _, _, 0, by decide +kernel, by decide +kernel, by decide +kernel, by decide +kernel, rfl, rfl⟩

theorem witness_SensorsWatchdogsAndLogs_8 :
    ∃ (s : State) (t : Nat), s.watch.coolAt = some t ∧ s.boot.ps < t + 10000000 := ⟨{ tSvc with watch := { tSvc.watch with coolAt := some 0 } }, 0, by decide +kernel⟩

theorem witness_SensorsWatchdogsAndLogs_9 :
    ∃ (s : State), s.watch.clocksStopped = true := ⟨{ tSvc with watch := { tSvc.watch with clocksStopped := true } }, rfl⟩

theorem witness_SensorsWatchdogsAndLogs_10 :
    ∃ (s : State), s.bar pMGMT = true := ⟨tSvc, by decide +kernel⟩

theorem witness_SensorsWatchdogsAndLogs_11 :
    ∃ (s u : State), s.bit pMGMT F.MGMT.HOST_WDT_CFG_EN = true ∧ s.boot.ps ≥ s.watch.wdtAt + s.fld pMGMT
      F.MGMT.HOST_WDT_CFG_PERIOD_MS * 1000000000 ∧ u = ((s.raise pMGMT F.MGMT.intHOST_WDT_EXPIRED).logEv pMGMT
      F.MGMT.intHOST_WDT_EXPIRED 4 0 []).hostKick ∧ s.bit pMGMT F.MGMT.HOST_WDT_CFG_ACTION = false := ⟨((tSvc.setFld pMGMT F.MGMT.HOST_WDT_CFG_EN 1).setFld pMGMT F.MGMT.HOST_WDT_CFG_PERIOD_MS 10).clock 10000000000 0, _, by decide +kernel, by decide +kernel, rfl, by decide +kernel⟩

theorem witness_SensorsWatchdogsAndLogs_12 :
    ∃ (s u : State), s.bit pMGMT F.MGMT.HOST_WDT_CFG_EN = true ∧ s.boot.ps ≥ s.watch.wdtAt + s.fld pMGMT
      F.MGMT.HOST_WDT_CFG_PERIOD_MS * 1000000000 ∧ u = ((s.raise pMGMT F.MGMT.intHOST_WDT_EXPIRED).logEv pMGMT
      F.MGMT.intHOST_WDT_EXPIRED 4 0 []).hostKick ∧ s.bit pMGMT F.MGMT.HOST_WDT_CFG_ACTION = true := ⟨(((tSvc.setFld pMGMT F.MGMT.HOST_WDT_CFG_EN 1).setFld pMGMT F.MGMT.HOST_WDT_CFG_PERIOD_MS 10).setFld pMGMT F.MGMT.HOST_WDT_CFG_ACTION 1).clock 10000000000 0, _, by decide +kernel, by decide +kernel, rfl, by decide +kernel⟩

theorem witness_SensorsWatchdogsAndLogs_13 :
    ∃ (s : State), s.bit pMGMT F.MGMT.HOST_WDT_CFG_EN = false := ⟨tSvc, by decide +kernel⟩

theorem witness_SensorsWatchdogsAndLogs_14 :
    ∃ (s u : State) (e : LogEntry) (r : List LogEntry), s.log.queue = e :: r ∧ s.phase ≠ phReset ∧ s.boot.porHeld = false ∧ u =
      ({ s with log := { s.log with queue := r } } : State).makeRecord e ∧ u.log.lost = 0 := ⟨({ ({ tSvc with boot := { tSvc.boot with porHeld := false } } : State) with log := { tSvc.log with queue := [⟨5, false, 0x0620, 3, 6, 0, [], 0⟩], lost := 0 } } : State), _, _, _, rfl, by decide +kernel, by decide +kernel, rfl, by decide +kernel⟩

theorem witness_SensorsWatchdogsAndLogs_15 :
    ∃ (s u : State) (e : LogEntry) (r : List LogEntry), s.log.queue = e :: r ∧ s.phase ≠ phReset ∧ s.boot.porHeld = false ∧ u =
      ({ s with log := { s.log with queue := r } } : State).makeRecord e ∧ u.log.lost ≠ 0 := ⟨({ ({ tSvc with boot := { tSvc.boot with porHeld := false } } : State) with log := { tSvc.log with queue := [⟨5, false, 0x0620, 3, 6, 0, [], 0⟩], lost := 2 } } : State), _, _, _, rfl, by decide +kernel, by decide +kernel, rfl, by decide +kernel⟩

theorem witness_SensorsWatchdogsAndLogs_16 :
    ∃ (s : State), s.log.queue = [] := ⟨tSvc, rfl⟩

theorem witness_SensorsWatchdogsAndLogs_17 :
    ∃ (s : State), s.boot.ps ≥ s.log.refillAt + 1000000000000 / (max 1 (s.fld pMGMT F.MGMT.LOG_CFG_NOR_RATE)) := ⟨tSvc.clock 1000000000000 0, by decide +kernel⟩

theorem witness_SensorsWatchdogsAndLogs_18 :
    ∃ (s : State), s.boot.ps < s.log.refillAt + 1000000000000 / (max 1 (s.fld pMGMT F.MGMT.LOG_CFG_NOR_RATE)) := ⟨tSvc, by decide +kernel⟩

theorem witness_SensorsWatchdogsAndLogs_19 :
    ∃ (s r u : State), s.st pTASK = stFault ∧ s.phase = phService ∧ (∀ a b, s.watch.taskFaultPrev = some a → s.watch.taskFaultAt
      = some b → a + 10000000000000 ≤ b) ∧ r = s.logEv pTASK 0x21 5 0 [] ∧ u = r.task.cmds.foldl (fun t x => (t.writeResult x.op
      opRefused x.page x.tag (reasonCode Cls.resource .task 0x0E) ((x.started.map Prod.fst).getD 0) []).err pTASK 3) r := ⟨({ tSvc.inState pTASK 5 with watch := { tSvc.watch with taskFaultAt := some 10000000000000, taskFaultPrev := some 0 } } : State), _, _, by decide +kernel, by decide +kernel, by intro a b h1 h2; cases h1; cases h2; decide, rfl, rfl⟩

theorem witness_SensorsWatchdogsAndLogs_20 :
    ∃ (s : State) (a b : Nat), s.watch.taskFaultPrev = some a ∧ s.watch.taskFaultAt = some b ∧ b < a + 10000000000000 := ⟨({ tSvc with watch := { tSvc.watch with taskFaultPrev := some 0, taskFaultAt := some 9999999999999 } } : State), 0, 9999999999999, rfl, rfl, by decide⟩

theorem witness_RopeLineCodingInverts_3 :
    ∃ (body : List Byte), body.length ≤ 1024 := ⟨List.replicate 1024 0, by rw [List.length_replicate]⟩

theorem witness_RopeLineCodingInverts_4 :
    ∃ (bs : List Byte), 7 ≤ bs.length := ⟨List.replicate 7 0, by decide⟩

theorem witness_RopeLineCodingInverts_5 :
    ∃ (body more : List Byte), 0 < more.length ∧ body.length ≤ 1024 := ⟨List.replicate 1024 0, [0], by decide, by rw [List.length_replicate]⟩

theorem witness_SqueezeBlocksInvert_1 :
    ∃ (map : List Byte) (xs : List Nat), map.length = 16 ∧ xs.length = 128 ∧ (∀ x ∈ xs, x < 1024) := ⟨List.replicate 16 0, List.replicate 128 1023, by decide, by rw [List.length_replicate], fun x h => by rw [List.eq_of_mem_replicate h]; decide⟩

end Sys2Proof.Machine
end

/-! SUPPORT. What a 32-bit read or write of BAR0 reaches (R31, R35), what a read of a SYS register latches (R50), and the statements
about the register pages. -/

namespace Sys2Proof.Machine

variable {s : State}

/-! ## Addresses and pages -/

theorem pageOf_page_add {p o : Nat} (ho : o < 0x1000) : pageOf (p * 0x1000 + o) = p := by
  unfold pageOf; omega

theorem offsetOf_page_add {p o : Nat} (ho : o < 0x1000) : offsetOf (p * 0x1000 + o) = o := by
  unfold offsetOf; omega

theorem unitOf_beyond_dma {p : Nat} (hp : 0x300 ≤ p) : unitOf p = none := by
  simp (disch := omega) only [unitOf, if_neg]

/-- The header pages and the extension ranges do not overlap (R30, R32). -/
theorem extensionOf_of_header {p : Nat} (hu : (unitOf p).isSome = true) : extensionOf p = none := by
  have hintc : ¬ (7 ≤ p ∧ p ≤ 0xF) := by
    rintro ⟨hlo, hhi⟩
    interval_cases p <;> simp [unitOf] at hu
  have htsch : ¬ (0x400 ≤ p ∧ p ≤ 0x43F) := fun hp => by
    simp [unitOf_beyond_dma (show 0x300 ≤ p by omega)] at hu
  rw [extensionOf, if_neg hintc, if_neg htsch]

theorem ownerPage_of_header {p : Nat} (hu : (unitOf p).isSome = true) : ownerPage p = p := by
  simp [ownerPage, extensionOf_of_header hu]

/-- A page that a register command reaches has no ABSENCE, and so is not out of service (R34, R35). -/
theorem State.outOfService_of_bar {p : Nat} (hb : s.bar p = true) (hu : (unitOf p).isSome = true) : s.outOfService p = false := by
  have habs : s.absence p = 0 := by
    simp [State.bar, ownerPage_of_header hu, State.absent] at hb
    exact hb.2.2
  have hst : s.st p ≠ stOos := fun hst => by
    rw [State.absence, if_pos hst] at habs
    split at habs
    · contradiction
    · exact absurd habs (by decide)
  simp [State.outOfService, hst]

theorem State.fld_setReg_other {a p : Nat} {f : Fld} (v : Word) (h : s.canonical = true) (ha : f.addr p ≠ a) :
    (s.setReg a v).fld p f = s.fld p f := by
  rw [State.fld, State.reg_setReg_other _ h ha, State.fld]

/-- Of all registers, only PHASE_STATUS and the PAGE_STATE of its owner decide whether a page answers (R34, R35, R460). -/
theorem State.bar_setReg_other {a p : Nat} (v : Word) (h : s.canonical = true) (hph : F.MGMT.PHASE_STATUS_PHASE.addr pMGMT ≠ a)
    (hst : F.PAGE_STATE.addr (ownerPage p) ≠ a) : (s.setReg a v).bar p = s.bar p := by
  have hserved : (s.setReg a v).served p = s.served p := by
    simp only [State.served, State.phase, State.fld_setReg_other v h hph, State.boot_setReg, State.watch_setReg]
  have habsence : (s.setReg a v).absence (ownerPage p) = s.absence (ownerPage p) := by
    rw [State.absence, State.st, State.fld_setReg_other v h hst]
    rfl
  rw [State.bar, hserved, State.absent, habsence, State.bar, State.absent]

/-- The value that the host has read decides nothing about what a page answers. -/
theorem State.bar_readData (p r : Nat) : ({ s with readData := r } : State).bar p = s.bar p := rfl

/-! ## 32-bit accesses -/

theorem State.busWrite_misaligned {a : Nat} (v : Word) (ha : a % 4 ≠ 0) : s.busWrite a v = s := by
  simp [State.busWrite, ha]

theorem State.busRead_misaligned {a : Nat} (ha : a % 4 ≠ 0) : s.busRead a = (s, 0) := by
  simp [State.busRead, ha]

/-- An aligned read of a header page beyond the common header is a read of the unit's register. -/
theorem State.busRead_unit {p o : Nat} (hb : s.bar p = true) (hu : (unitOf p).isSome = true) (hlo : 0x100 ≤ o) (hhi : o < 0x1000)
    (ha : o % 4 = 0) : s.busRead (p * 0x1000 + o) = s.unitRead p o := by
  have hal : (p * 0x1000 + o) % 4 = 0 := by omega
  simp [State.busRead, pageOf_page_add hhi, offsetOf_page_add hhi, hal, State.outOfService_of_bar hb hu, hb,
    Option.isSome_iff_ne_none.1 hu, Nat.not_lt.2 hlo]

theorem execRegisterWrite_eq (a : Nat) (v : Word) (s : State) : exec (.registerWrite a v) s = .next (s.busWrite a v) := rfl

theorem execLatchingRead_eq (a : Nat) (s : State) :
    exec (.latchingRead a) s = .next { (s.busRead a).1 with readData := (s.busRead a).2.toNat } := rfl

/-! ## Accesses of other widths (R31) -/

theorem exec_wideWrite (a d : Nat) (s : State) : exec (.bar0NarrowAccess a 8 (some d)) s =
    .next ((s.busWrite a (BitVec.ofNat 32 d)).busWrite (a + 4) (BitVec.ofNat 32 (d / 2 ^ 32))) := rfl

theorem exec_wideRead (a : Nat) (s : State) : exec (.bar0NarrowAccess a 8 none) s =
    .next { ((s.busRead a).1.busRead (a + 4)).1 with
      readData := (s.busRead a).2.toNat + ((s.busRead a).1.busRead (a + 4)).2.toNat * 2 ^ 32 } := rfl

theorem exec_narrowWrite {len : Nat} (a d : Nat) (s : State) (hl : len = 1 ∨ len = 2) :
    exec (.bar0NarrowAccess a len (some d)) s = .next s := by
  have h8 : len ≠ 8 := by omega
  change execBar0NarrowAccess a len (some d) s = _
  rw [execBar0NarrowAccess, if_neg h8, ite_self]

theorem exec_narrowRead {a len : Nat} (s : State) (hl : len = 1 ∨ len = 2) (ha : a % len = 0) :
    exec (.bar0NarrowAccess a len none) s =
      .next { (s.busRead (a / 4 * 4)).1 with readData := narrowBytes (s.busRead (a / 4 * 4)).2 a len } := by
  have h8 : len ≠ 8 := by omega
  change execBar0NarrowAccess a len none s = _
  rw [execBar0NarrowAccess, if_neg h8, if_pos ⟨hl, ha⟩]

/-- Settles O25: each width is one case of BAR0_NARROW_ACCESS, and an access that is not aligned to 4 reaches nothing. -/
theorem bar0AcceptsWords : Obligations.Bar0AcceptsWords :=
  ⟨fun s a d => exec_wideWrite a d s, fun s a => exec_wideRead a s, fun s a _ d hl => exec_narrowWrite a d s hl,
    fun s _ _ hl ha => exec_narrowRead s hl ha,
    fun s a v => ⟨execRegisterWrite_eq a v s, execLatchingRead_eq a s,
      fun ha => ⟨State.busWrite_misaligned v ha, State.busRead_misaligned ha⟩⟩⟩

/-! ## The latches of SYS (R50) -/

theorem sys_isHeader : (unitOf pSYS).isSome = true := rfl

theorem State.unitRead_sys (o : Nat) : s.unitRead pSYS o = (s.readEffect pSYS o, s.reg (pSYS * 0x1000 + o)) := by
  simp [State.unitRead, State.computed, show unitAt pSYS = .sys from rfl]

/-- A read of ADM_CHMB_SUM_LO or ADM_CHMB_LIMIT_LO latches the register above. -/
theorem State.readEffect_sys_lo {o : Nat} (ho : o = 0x120 ∨ o = 0x128) : s.readEffect pSYS o = s.latch (pSYS * 0x1000 + o + 4) := by
  obtain rfl | rfl := ho <;> rfl

theorem State.busRead_sys_lo {o : Nat} (hb : s.bar pSYS = true) (ho : o = 0x120 ∨ o = 0x128) :
    s.busRead (pSYS * 0x1000 + o) = (s.latch (pSYS * 0x1000 + o + 4), s.reg (pSYS * 0x1000 + o)) := by
  rw [State.busRead_unit hb sys_isHeader (by omega) (by omega) (by omega), State.unitRead_sys, State.readEffect_sys_lo ho]

/-- A read of a SYS register answers what the register holds. -/
theorem State.busRead_sys_value {o : Nat} (hb : s.bar pSYS = true) (hlo : 0x100 ≤ o) (hhi : o < 0x1000) (ha : o % 4 = 0) :
    (s.busRead (pSYS * 0x1000 + o)).2 = s.reg (pSYS * 0x1000 + o) := by
  rw [State.busRead_unit hb sys_isHeader hlo hhi ha, State.unitRead_sys]

/-- Latching an ADM_*_HI register leaves SYS answering. -/
theorem State.bar_latch_sys_hi {o : Nat} (h : s.canonical = true) (ho : o = 0x120 ∨ o = 0x128) :
    (s.latch (pSYS * 0x1000 + o + 4)).bar pSYS = s.bar pSYS := by
  refine State.bar_setReg_other _ h ?_ ?_ <;> obtain rfl | rfl := ho <;> decide

/-- Settles O26: the read of _LO latches, and the read of _HI that follows answers what the register then shows. -/
theorem admReadsLatchTheHighHalf : Obligations.AdmReadsLatchTheHighHalf := by
  have hexec : ∀ (s : State) (o : Nat), s.bar pSYS = true → (o = 0x120 ∨ o = 0x128) →
      exec (.latchingRead (pSYS * 0x1000 + o)) s =
        .next { s.latch (pSYS * 0x1000 + o + 4) with readData := (s.reg (pSYS * 0x1000 + o)).toNat } := fun s o hb ho => by
    rw [execLatchingRead_eq, State.busRead_sys_lo hb ho]
  refine ⟨hexec, fun s o h hb ho => ⟨_, hexec s o hb ho, ?_⟩⟩
  have hbar : ({ s.latch (pSYS * 0x1000 + o + 4) with readData := (s.reg (pSYS * 0x1000 + o)).toNat } : State).bar pSYS = true :=
    (State.bar_readData _ _).trans ((State.bar_latch_sys_hi h ho).trans hb)
  exact (State.busRead_sys_value (o := o + 4) hbar (by omega) (by omega) (by omega)).trans (State.reg_setReg_same _ _ h)

/-! ## Interrupt sources (R33) -/

theorem State.intLine_iff (p : Nat) :
    s.intLine p = true ↔ s.reg (F.INT_STATUS.addr p) &&& s.reg (F.INT_ENABLE.addr p) ≠ 0 := bne_iff_ne

theorem State.srcLine_of_header {p : Nat} (hu : (unitOf p).isSome = true) : s.srcLine p = s.intLine p := by
  rw [State.srcLine, hu, Bool.true_and]

theorem State.srcLine_of_no_header {p : Nat} (hu : unitOf p = none) : s.srcLine p = false := by
  rw [State.srcLine, hu, Option.isSome_none, Bool.false_and]

/-- A command on the common header of a page that answers has its effect. -/
theorem State.onHeader_of_bar {p : Nat} (f : State → State) (hb : s.bar p = true) (hu : (unitOf p).isSome = true) :
    s.onHeader p f = .next (f s) := by
  rw [State.onHeader, State.onPage, if_pos hb, if_pos hu]

theorem exec_intSet_of_bar {p : Nat} (v : Word) (hb : s.bar p = true) (hu : (unitOf p).isSome = true) :
    exec (.intSet p v) s = .next (s.intSet p v) := State.onHeader_of_bar _ hb hu

/-- Settles O27: the line of a page is its INT_STATUS masked by INT_ENABLE, cut where the page has no common header. -/
theorem interruptSourcesFollowStatusAndEnable : Obligations.InterruptSourcesFollowStatusAndEnable := by
  refine ⟨fun s p hu => ?_, fun s p hu => State.srcLine_of_no_header hu, fun s p v hb hu => ?_⟩
  · rw [State.srcLine_of_header hu]
    exact State.intLine_iff p
  · rw [exec_intSet_of_bar v hb hu]
    rfl

end Sys2Proof.Machine

/-! SUPPORT. What a command of a page and an event reach, and the statements about one-shot targets, triggers and PPS_OUT (R85 to
R88). -/

namespace Sys2Proof.Machine

variable {s : State}

/-! ## Commands and events -/

/-- A command on a page that answers has its effect. -/
theorem State.onPage_of_bar {p : Nat} (f : State → State) (hb : s.bar p = true) : s.onPage p f = .next (f s) := by
  rw [State.onPage, if_pos hb]

theorem State.event_of {g : Bool} (f : State → State) (hg : g = true) : s.event g f = .next (f s) := by
  rw [State.event, if_pos hg]

theorem State.event_of_not {g : Bool} (f : State → State) (hg : g = false) : s.event g f = .next s := by
  rw [State.event, hg, if_neg Bool.false_ne_true]

/-! ## One-shot targets (R87, R88) -/

theorem wrapSub_eq {a b m : Nat} (ha : a < m) : wrapSub a b m = (a + m - b % m) % m := by
  have hb : b % m < m := Nat.mod_lt _ (by omega)
  rw [wrapSub, Nat.mod_eq_of_lt ha]
  split
  · next hle => rw [show a + m - b % m = a - b % m + m by omega, Nat.add_mod_right, Nat.mod_eq_of_lt (show a - b % m < m by omega)]
  · next hlt => rw [Nat.mod_eq_of_lt (show a + m - b % m < m by omega)]; omega

/-- The 32-bit two's complement value lies within 2^31 of 0 and keeps the residue. -/
theorem sext32_bounds {x : Nat} (hx : x < 2 ^ 32) : -2147483648 ≤ sext32 x ∧ sext32 x ≤ 2147483647 ∧ sext32 x % 2 ^ 32 = x := by
  rw [sext32, Nat.mod_eq_of_lt hx]
  split <;> omega

theorem State.tgt32_eq (s : State) (v : Word) : s.tgt32 v =
    ((s.nextNow + sext32 ((v.toNat + 2 ^ 32 - s.nextNow % 2 ^ 32) % 2 ^ 32)) % 2 ^ 64 : Int).toNat := by
  rw [State.tgt32, wrapSub_eq v.isLt]

/-- A register of compares 0 to 14 that R81 does not bind takes a host write. -/
theorem State.cmpHost_unbound {n : Nat} (f : State → State) (hn : n < 15) : s.cmpHost n false f = f s := by
  rw [State.cmpHost, if_neg (by omega), if_neg (by omega), Bool.false_and, if_neg Bool.false_ne_true]

/-- Compare 15 takes no host write (R87). -/
theorem State.cmpHost_task (b : Bool) (f : State → State) : s.cmpHost 15 b f = s.reason pTIME Cls.locked 0x17 := by
  rw [State.cmpHost, if_neg (by decide), if_pos rfl]

theorem exec_tgt32Write_of_bar (n : Nat) (v : Word) (hb : s.bar pTIME = true) :
    exec (.tgt32Write n v) s = .next (s.cmpHost n false fun s => s.newTarget n (s.tgt32 v)) := State.onPage_of_bar _ hb

/-- Settles O19: TGT32_WRITE places its target as TGT_WRITE does, within 2^31 ns of now. -/
theorem tgt32PlacesTheTargetNearNow : Obligations.Tgt32PlacesTheTargetNearNow := by
  refine ⟨fun s n v hb hn => ?_, fun x hx => sext32_bounds hx, fun s v hb => ?_⟩
  · rw [exec_tgt32Write_of_bar n v hb, State.cmpHost_unbound _ hn, State.tgt32_eq]
  · rw [exec_tgt32Write_of_bar 15 v hb, State.cmpHost_task]

/-! ## Triggers (R83, R85) -/

theorem exec_triggerPulseEnd_due {k : Nat} (hk : k < 8) (hact : s.bit pTIME (F.TIME.TRIG_STATUS_ACTIVE k) = true)
    (hend : Tab.get 0 s.time.trigEnd k ≤ s.now) :
    exec (.triggerPulseEnd k) s = .next (s.setFld pTIME (F.TIME.TRIG_STATUS_ACTIVE k) 0) := by
  change execTriggerPulseEnd k s = _
  rw [execTriggerPulseEnd, State.event_of]
  simp [hk, hact, hend]

theorem exec_triggerPulseEnd_early {k : Nat} (hend : s.now < Tab.get 0 s.time.trigEnd k) : exec (.triggerPulseEnd k) s = .next s := by
  change execTriggerPulseEnd k s = _
  rw [execTriggerPulseEnd, State.event_of_not]
  simp [hend]

/-- Settles O20: the three cases of a fire are those of an active pulse of an earlier tick, an active pulse of this tick, and no
pulse. -/
theorem triggersNeverGap : Obligations.TriggersNeverGap := by
  refine ⟨fun s k fire hen hact htick => ?_, fun s k fire hen hact htick => ?_, fun s k fire hen hidle => ?_,
    fun s k hk hact hend => exec_triggerPulseEnd_due hk hact hend, fun s k hend => exec_triggerPulseEnd_early hend⟩
  · have hsame : (Tab.get 0 s.time.trigTick k == s.time.root) = false := beq_eq_false_iff_ne.2 htick
    simp only [State.trigFire, hen, hact, hsame, Bool.and_false, Bool.not_false, Bool.and_true, if_true]
  · have hsame : (Tab.get 0 s.time.trigTick k == s.time.root) = true := beq_iff_eq.2 htick
    simp only [State.trigFire, hen, hact, hsame, Bool.and_true, Bool.not_true, Bool.and_false, Bool.false_eq_true, if_true, if_false]
  · simp only [State.trigFire, hen, hidle, Bool.false_and, Bool.false_eq_true, if_true, if_false]

/-! ## PPS_OUT (R86) -/

/-- Four nanoseconds past second `k`, PPS_OUT rises for `k` unless it already has. -/
theorem exec_ppsOutRise_due {k : Nat} (hrun : s.running = true) (hen : s.bit pTIME F.TIME.TIME_CFG_PPS_OUT_EN = true)
    (hlow : s.time.ppsOut = false) (hnow : s.now = k * 1000000000 + 4) (hsec : s.time.ppsOutSec ≠ k + 1) :
    exec .ppsOutRise s = .next { s with time := { s.time with ppsOut := true, ppsOutSec := k + 1 } } := by
  have hk : (s.now - 4) / 1000000000 = k := by omega
  have hedge : (s.now - 4) % 1000000000 < 2 := by omega
  have h4 : 4 ≤ s.now := by omega
  change execPpsOutRise s = _
  rw [execPpsOutRise, State.event_of, hk]
  simp [hrun, hen, hlow, h4, hedge, hk, hsec]

theorem exec_ppsOutRise_off (hoff : s.running = false ∨ s.bit pTIME F.TIME.TIME_CFG_PPS_OUT_EN = false) :
    exec .ppsOutRise s = .next s := by
  change execPpsOutRise s = _
  rw [execPpsOutRise, State.event_of_not]
  obtain hrun | hen := hoff
  · simp [hrun]
  · simp [hen]

theorem exec_ppsOutFall_due {k : Nat} (hhigh : s.time.ppsOut = true) (hsec : s.time.ppsOutSec = k + 1)
    (hend : k * 1000000000 + 4 + s.fld pTIME F.TIME.TIME_CFG_PPS_WIDTH * 10000 ≤ s.now) :
    exec .ppsOutFall s = .next { s with time := { s.time with ppsOut := false } } := by
  change execPpsOutFall s = _
  rw [execPpsOutFall, State.event_of]
  simp [hhigh, hsec, hend]

theorem exec_ppsOutFall_early {k : Nat} (hsec : s.time.ppsOutSec = k + 1)
    (hend : s.now < k * 1000000000 + 4 + s.fld pTIME F.TIME.TIME_CFG_PPS_WIDTH * 10000) : exec .ppsOutFall s = .next s := by
  change execPpsOutFall s = _
  rw [execPpsOutFall, State.event_of_not]
  simp [hsec, hend]

/-- Settles O21: PPS_OUT rises and falls at the counter of the second it shows, and does not rise while it is off. -/
theorem ppsOutFollowsTheSecond : Obligations.PpsOutFollowsTheSecond :=
  ⟨fun _ _ hrun hen hlow hnow hsec => exec_ppsOutRise_due hrun hen hlow hnow hsec, fun _ hoff => exec_ppsOutRise_off hoff,
    fun _ _ hhigh hsec hend => exec_ppsOutFall_due hhigh hsec hend, fun _ _ hsec hend => exec_ppsOutFall_early hsec hend⟩

end Sys2Proof.Machine

/-! SUPPORT. The configured reserve of chambers and its write (R159). -/

namespace Sys2Proof.Machine

variable {s : State} {v : Word}

theorem exec_chmbReserveWrite_of_bar (v : Word) (hb : s.bar pSYS = true) :
    exec (.chmbReserveWrite v) s = .next (s.reserveWrite v) := State.onPage_of_bar _ hb

/-- R159: the register map gives RESERVE its value at reset. -/
theorem State.reserve_reset : State.reset.fld pSYS F.SYS.CHMB_RESERVE_RESERVE = 2 := by decide

/-! ## The three outcomes of a write: out of range, a raise that does not fit, stored -/

theorem State.reserveWrite_out_of_range (hv : v.toNat % 16 > 8) : s.reserveWrite v = s.reason pSYS Cls.range 0x03 := by
  rw [State.reserveWrite, if_pos hv]

theorem State.reserveWrite_raise_over_limit (hv : v.toNat % 16 ≤ 8)
    (hraise : v.toNat % 16 > s.fld pSYS F.SYS.CHMB_RESERVE_RESERVE)
    (hover : s.chmbSum > chmbLimit (s.fld pSYS F.SYS.ADM_RESOURCES_CHMB_IN_SERVICE) (v.toNat % 16 - s.remapped)) :
    s.reserveWrite v = s.reason pSYS Cls.capacity 0x0A := by
  rw [State.reserveWrite, if_neg (Nat.not_lt.2 hv), if_pos ⟨hraise, hover⟩]

theorem State.reserveWrite_stored (hv : v.toNat % 16 ≤ 8)
    (hfits : v.toNat % 16 ≤ s.fld pSYS F.SYS.CHMB_RESERVE_RESERVE ∨
      s.chmbSum ≤ chmbLimit (s.fld pSYS F.SYS.ADM_RESOURCES_CHMB_IN_SERVICE) (v.toNat % 16 - s.remapped)) :
    s.reserveWrite v = (s.setFld pSYS F.SYS.CHMB_RESERVE_RESERVE (v.toNat % 16)).limits
      (s.fld pSYS F.SYS.ADM_RESOURCES_CHMB_IN_SERVICE) (v.toNat % 16 - s.remapped)
      (s.fld pSYS F.SYS.ADM_RESOURCES_MEMC_IN_SERVICE) := by
  rw [State.reserveWrite, if_neg (Nat.not_lt.2 hv), if_neg]
  rintro ⟨hraise, hover⟩
  exact hfits.elim (Nat.not_le.2 hraise) (Nat.not_le.2 hover)

/-- Settles O29: RESERVE at reset, then the outcomes of a write: out of range, a raise over the limit, stored. -/
theorem reserveOfChambers : Obligations.ReserveOfChambers := by
  refine ⟨State.reserve_reset, fun s v hb hv => ?_, fun s v hb hv hraise hover => ?_, fun s v hb hv hfits => ?_⟩
  · rw [exec_chmbReserveWrite_of_bar v hb, State.reserveWrite_out_of_range hv]
  · rw [exec_chmbReserveWrite_of_bar v hb, State.reserveWrite_raise_over_limit hv hraise hover]
  · rw [exec_chmbReserveWrite_of_bar v hb, State.reserveWrite_stored hv hfits]

end Sys2Proof.Machine

/-! SUPPORT. How the Rope link receives a sequenced frame, and the order in which frames are taken (R298, R299). -/

namespace Sys2Proof.Machine

variable {s : State} {seq : Nat}

/-! ## Acceptance: NEXT_SEQ taken, any other number discarded -/

theorem State.ropeAccept_next (f : State → State) (hl : s.link = 4 ∨ s.link = 5) :
    s.ropeAccept (s.fld pROPE F.ROPE.SEQ_STATUS_RX_NEXT) f = f (s.ropeTook (s.fld pROPE F.ROPE.SEQ_STATUS_RX_NEXT)) := by
  rw [State.ropeAccept, if_pos hl, if_pos rfl]

theorem State.ropeAccept_out_of_order (f : State → State) (hl : s.link = 4 ∨ s.link = 5)
    (hseq : seq ≠ s.fld pROPE F.ROPE.SEQ_STATUS_RX_NEXT) : s.ropeAccept seq f = s.ropeNak := by
  rw [State.ropeAccept, if_pos hl, if_neg hseq]

/-- A NAK records the cycle in which it was sent, or is not sent anew; it changes nothing else (R299). -/
theorem State.ropeNak_frame (s : State) : s.ropeNak = { s with rope := { s.rope with nakAt := s.ropeNak.rope.nakAt } } := by
  unfold State.ropeNak
  cases s.rope.nakAt with
  | none => rfl
  | some t =>
    dsimp only
    split <;> rfl

/-- Taking a frame advances NEXT_SEQ, which is a field of 16 bits. -/
theorem State.rxNext_ropeTook (seq : Nat) (h : s.canonical = true) :
    (s.ropeTook seq).fld pROPE F.ROPE.SEQ_STATUS_RX_NEXT = (seq + 1) % 65536 :=
  State.fld_setFld_same pROPE F.ROPE.SEQ_STATUS_RX_NEXT (seq + 1) h (by decide)

/-! ## The commands that bring a sequenced frame -/

/-- Pair messages, CAPS and the mailbox all act behind the acceptance of their frame (R263, R298). -/
theorem exec_sequenced_frame (s : State) {seq a b c d e f g : Nat} {b1 b2 b3 : Bool} {es : List (Nat × Nat × Nat × Nat × Nat)}
    {m : SnapshotMsg} {rs : List (Nat × Nat)} {ws : List Nat} {i : Instr}
    (hi : i ∈ [.claimMsg seq a b1 b2 b3, .digest seq es, .snapshot seq m, .decision seq a b c d e b1 f, .stepMsg seq a b c d,
      .joinReq seq a, .handoverReq seq a, .handover seq a b, .commitReq seq rs, .commitVerdict seq a b b1 d, .ready seq a b rs,
      .caps seq a b c d e f g, .mailbox seq ws]) :
    ∃ effect, exec i s = .next (s.ropeAccept seq effect) := by
  simp only [List.mem_cons, List.not_mem_nil, or_false] at hi
  rcases hi with rfl | rfl | rfl | rfl | rfl | rfl | rfl | rfl | rfl | rfl | rfl | rfl | rfl <;> exact ⟨_, rfl⟩

/-- What a mailbox in sequence leaves: its words, unless the last ones were not yet read (R315). -/
def State.mailboxTaken (s : State) (ws : List Nat) : State :=
  if s.bit pROPE F.ROPE.MBOX_STATUS_RX_FULL then s.err pROPE 6
  else (((List.range 16).foldl (fun t i => t.setFld pROPE (F.ROPE.MBOX_RX i) (ws.getD i 0)) s).setFld pROPE
    F.ROPE.MBOX_STATUS_RX_FULL 1).raise pROPE F.ROPE.intMBOX_RX

theorem exec_mailbox_next (ws : List Nat) (hl : s.link = 4 ∨ s.link = 5) :
    exec (.mailbox (s.fld pROPE F.ROPE.SEQ_STATUS_RX_NEXT) ws) s =
      .next ((s.ropeTook (s.fld pROPE F.ROPE.SEQ_STATUS_RX_NEXT)).mailboxTaken ws) :=
  congrArg Host.Outcome.next (State.ropeAccept_next (State.mailboxTaken · ws) hl)

theorem State.mailboxTaken_of_empty (ws : List Nat) (hfull : s.bit pROPE F.ROPE.MBOX_STATUS_RX_FULL = false) :
    s.mailboxTaken ws = (((List.range 16).foldl (fun t i => t.setFld pROPE (F.ROPE.MBOX_RX i) (ws.getD i 0)) s).setFld pROPE
      F.ROPE.MBOX_STATUS_RX_FULL 1).raise pROPE F.ROPE.intMBOX_RX := by
  rw [State.mailboxTaken, hfull, if_neg Bool.false_ne_true]

theorem State.mailboxTaken_of_full (ws : List Nat) (hfull : s.bit pROPE F.ROPE.MBOX_STATUS_RX_FULL = true) :
    s.mailboxTaken ws = s.err pROPE 6 := by
  rw [State.mailboxTaken, if_pos hfull]

/-- Settles O32: a frame out of order leaves the state of its NAK; one in order acts behind NEXT_SEQ, as the mailbox shows, empty and
full. -/
theorem sequencedFramesAreTakenInOrder : Obligations.SequencedFramesAreTakenInOrder := by
  refine ⟨fun s seq a b c d e f g b1 b2 b3 es m rs ws i hl hseq hi => ?_, fun s seq h => State.rxNext_ropeTook seq h,
    fun s ws hl hfull => ?_, fun s ws hl hfull => ?_⟩
  · obtain ⟨effect, hexec⟩ := exec_sequenced_frame s hi
    rw [hexec, State.ropeAccept_out_of_order effect hl hseq]
    exact ⟨rfl, s.ropeNak_frame⟩
  · rw [exec_mailbox_next ws hl, State.mailboxTaken_of_empty ws hfull]
  · rw [exec_mailbox_next ws hl, State.mailboxTaken_of_full ws hfull]

end Sys2Proof.Machine

/-! SUPPORT. The end of an adaptation window, FREEZE and UNFREEZE of a serial lane (R357 to R361). -/

namespace Sys2Proof.Machine

variable {s : State} {n d b : Nat} {dp : Int} {dt : List Int}

/-! ## The parts of a window's end -/

/-- ADAPT_STATS shows what the window saw (R357). -/
def State.windowSeen (s : State) (n d b : Nat) : State :=
  (s.setFld (pLANE n) F.LANE.ADAPT_STATS_DENSITY d).setFld (pLANE n) F.LANE.ADAPT_STATS_BALANCE b

/-- A setting out of its enabled bounds reverts (R359). -/
def State.boundsActed (s : State) (n : Nat) : State :=
  if s.bit (pLANE n) F.LANE.LANE_CFG_BOUND_EN && s.outOfBounds n then s.boundRevert n else s

/-- A waiting snapshot takes its baseline (R360). -/
def State.snapActed (s : State) (n : Nat) : State :=
  if (s.laneOf n).snap = true then s.laneBaseline (pLANE n) else s

/-- No snapshot waits any more, and GOOD_WINDOWS shows `count`. -/
def State.windowCounted (s : State) (n count : Nat) : State :=
  (s.setLane n { s.laneOf n with snap := false }).setFld (pLANE n) F.LANE.LANE_STATUS_GOOD_WINDOWS count

/-- A window that meets both thresholds is good (R357). -/
def State.windowGood (s : State) (n d b : Nat) : Bool :=
  decide (d ≥ s.fld (pLANE n) F.LANE.ADAPT_THRESH_DENSITY_MIN) && decide (b ≥ s.fld (pLANE n) F.LANE.ADAPT_THRESH_BAL_MIN)

/-- Good windows in a row, up to 16, with the one that ends (R358). -/
def State.windowCount (s : State) (n d b : Nat) : Nat :=
  if s.windowGood n d b then min 16 (s.fld (pLANE n) F.LANE.LANE_STATUS_GOOD_WINDOWS + 1) else 0

theorem State.windowGood_iff : s.windowGood n d b = true ↔
    d ≥ s.fld (pLANE n) F.LANE.ADAPT_THRESH_DENSITY_MIN ∧ b ≥ s.fld (pLANE n) F.LANE.ADAPT_THRESH_BAL_MIN := by
  rw [State.windowGood, Bool.and_eq_true, decide_eq_true_iff, decide_eq_true_iff]

theorem State.windowGood_eq_false (h : d < s.fld (pLANE n) F.LANE.ADAPT_THRESH_DENSITY_MIN ∨
    b < s.fld (pLANE n) F.LANE.ADAPT_THRESH_BAL_MIN) : s.windowGood n d b = false :=
  Bool.eq_false_iff.2 fun hg =>
    have ⟨hd, hb⟩ := State.windowGood_iff.1 hg
    h.elim (Nat.not_lt.2 hd) (Nat.not_lt.2 hb)

theorem State.windowCount_of_bad (h : s.windowGood n d b = false) : s.windowCount n d b = 0 := by
  rw [State.windowCount, h, if_neg Bool.false_ne_true]

theorem State.windowCount_of_good (h : s.windowGood n d b = true) :
    s.windowCount n d b = min 16 (s.fld (pLANE n) F.LANE.LANE_STATUS_GOOD_WINDOWS + 1) := by
  rw [State.windowCount, if_pos h]

/-! ## The end of a window, by the lane's state -/

/-- A window of lane `n` may end with these operands: the lane works and receives, and a window holds no more than 4,096 UI. -/
structure State.WindowMayEnd (s : State) (n d b : Nat) : Prop where
  lane : n < 38
  receives : laneRx n = true
  works : s.works (pLANE n) = true
  density : d ≤ 4096
  balance : b ≤ 4096

/-- At the end of a bad window of a TRACK lane the bounds act, then the snapshot, then the lane freezes. -/
theorem exec_adaptWindowEnd_bad_of_track (h : s.WindowMayEnd n d b) (hst : s.laneState (pLANE n) = laTrack)
    (hbad : s.windowGood n d b = false) : exec (.adaptWindowEnd n d b dp dt) s =
      .next (((((s.windowSeen n d b).boundsActed n).snapActed n).windowCounted n 0).laneFreeze n) := by
  obtain ⟨hn, hrx, hw, hd, hb⟩ := h
  change execAdaptWindowEnd n d b dp dt s = _
  rw [State.windowGood] at hbad
  rw [execAdaptWindowEnd, State.event_of]
  · simp only [hst, hbad, Bool.false_and, Bool.and_true, Bool.true_and, beq_self_eq_true, if_true, Bool.false_eq_true, if_false]
    rfl
  · simp [hn, hrx, hw, hst, hd, hb, laTrack, laDown, laFailed]

/-- CTLE, DFE and the baseline of a FROZEN lane stay as they are; its count goes on or starts again, and at 16 the lane resumes unless
the host holds it. -/
theorem exec_adaptWindowEnd_of_frozen (h : s.WindowMayEnd n d b) (hst : s.laneState (pLANE n) = laFrozen) :
    exec (.adaptWindowEnd n d b dp dt) s =
      .next (if s.windowCount n d b = 16 ∧ s.bit (pLANE n) F.LANE.LANE_STATUS_HOST_HOLD = false
        then (((s.windowSeen n d b).windowCounted n (s.windowCount n d b)).laneTo (pLANE n) laTrack).raise (pLANE n) F.LANE.intRESUMED
        else (s.windowSeen n d b).windowCounted n (s.windowCount n d b)) := by
  obtain ⟨hn, hrx, hw, hd, hb⟩ := h
  change execAdaptWindowEnd n d b dp dt s = _
  rw [execAdaptWindowEnd, State.event_of]
  · have hne : laFrozen ≠ laTrack ∧ laFrozen ≠ laAcquire := by decide
    simp only [hst, beq_eq_false_iff_ne.2 hne.1, beq_eq_false_iff_ne.2 hne.2, Bool.or_false, Bool.and_false, Bool.false_and,
      Bool.false_eq_true, if_false, if_true, if_neg hne.1, Bool.not_eq_true']
    rfl
  · simp [hn, hrx, hw, hst, hd, hb, laFrozen, laDown, laFailed]

theorem exec_adaptWindowEnd_out_of_range (h : 4096 < d ∨ 4096 < b) : exec (.adaptWindowEnd n d b dp dt) s = .next s := by
  change execAdaptWindowEnd n d b dp dt s = _
  rw [execAdaptWindowEnd, State.event_of_not]
  obtain hd | hb := h
  · simp [Nat.not_le.2 hd]
  · simp [Nat.not_le.2 hb]

/-! ## LANE_CTRL -/

theorem State.onLane_of_works (f : State → State) (hn : n < 38) (hw : s.works (pLANE n) = true) : s.onLane n f = f s := by
  rw [State.onLane, if_pos ⟨hn, hw⟩]

theorem exec_freeze_of_works (hb : s.bar (pLANE n) = true) (hn : n < 38) (hw : s.works (pLANE n) = true) :
    exec (.freeze n) s = .next (s.laneCtrlFreeze n) :=
  (State.onPage_of_bar _ hb).trans (congrArg Host.Outcome.next (State.onLane_of_works _ hn hw))

theorem exec_unfreeze_of_works (hb : s.bar (pLANE n) = true) (hn : n < 38) (hw : s.works (pLANE n) = true) :
    exec (.unfreeze n) s = .next (s.laneCtrlUnfreeze n) :=
  (State.onPage_of_bar _ hb).trans (congrArg Host.Outcome.next (State.onLane_of_works _ hn hw))

theorem State.laneFreeze_of_no_scan (hbusy : s.bit (pLANE n) F.LANE.ES_STATUS_BUSY = false) :
    s.laneFreeze n = ((s.laneTo (pLANE n) laFrozen).raise (pLANE n) F.LANE.intFROZE).err (pLANE n) 0 := by
  simp only [State.laneFreeze, hbusy, Bool.false_eq_true, if_false]

/-- Settles O39: the windows of TRACK and FROZEN lanes, then FREEZE, UNFREEZE and the freeze itself. The clauses on a FREEZE outside TRACK
(log 172), on the order bounds before snapshot before FROZEN (log 175) and on operands above 4,096 (log 4) are the model's choices. -/
theorem lanesFreezeAndResume : Obligations.LanesFreezeAndResume := by
  refine ⟨fun s u v w n d b dp dt hn hrx hw hst hbad hu hv hx hd hb => ?_, fun s u n d b dp dt hn hrx hw hst hd hb hbad hu => ?_,
    fun s u n d b dp dt hn hrx hw hst hd hb hgd hgb hu hstay => ?_, fun s u n d b dp dt hn hrx hw hst hd hb hgd hgb hu h16 hfree => ?_,
    fun s n hb hn hw hst => ?_, fun s n hb hn hw hst => ?_, fun s n hb hn hw => exec_unfreeze_of_works hb hn hw,
    fun s n hbusy => State.laneFreeze_of_no_scan hbusy, fun s n d b dp dt h => exec_adaptWindowEnd_out_of_range h⟩
  · subst hu hv hx
    exact exec_adaptWindowEnd_bad_of_track ⟨hn, hrx, hw, hd, hb⟩ hst (State.windowGood_eq_false hbad)
  · subst hu
    rw [exec_adaptWindowEnd_of_frozen ⟨hn, hrx, hw, hd, hb⟩ hst, State.windowCount_of_bad (State.windowGood_eq_false hbad),
      if_neg fun h => absurd h.1 (by decide)]
    rfl
  · subst hu
    rw [exec_adaptWindowEnd_of_frozen ⟨hn, hrx, hw, hd, hb⟩ hst, State.windowCount_of_good (State.windowGood_iff.2 ⟨hgd, hgb⟩), if_neg]
    · rfl
    · rintro ⟨h16, hfree⟩
      obtain hlt | hhold := hstay
      · omega
      · exact Bool.false_ne_true (hfree.symm.trans hhold)
  · subst hu
    rw [exec_adaptWindowEnd_of_frozen ⟨hn, hrx, hw, hd, hb⟩ hst, State.windowCount_of_good (State.windowGood_iff.2 ⟨hgd, hgb⟩),
      Nat.min_eq_left h16, if_pos ⟨rfl, hfree⟩]
    rfl
  · rw [exec_freeze_of_works hb hn hw, State.laneCtrlFreeze, if_pos hst]
  · rw [exec_freeze_of_works hb hn hw, State.laneCtrlFreeze, if_neg hst]

end Sys2Proof.Machine

/-! SUPPORT. What the operations of the interrupt controller leave of the in-service stacks, and the statement about CLAIM (R412,
R413). -/

namespace Sys2Proof.Machine

variable {s : State}

/-! ## The stacks of the targets -/

/-- A read after a write of a listed value to the same key; the table need not be in canonical form. -/
theorem Tab.get_set_of_ne {α : Type} [DecidableEq α] {d v : α} (t : Tab α) (k : Nat) (hv : v ≠ d) :
    Tab.get d (Tab.set d t k v) k = v := by
  rw [Tab.set, if_neg hv, Tab.get_put_same]

theorem State.stack_of_intc_eq {u : State} (h : u.intc = s.intc) (t : Nat) : u.stack t = s.stack t := by
  rw [State.stack, State.stack, h]

theorem State.stack_setStack_cons (s : State) (t : Nat) (e : Nat × Nat) (l : List (Nat × Nat)) :
    (s.setStack t (e :: l)).stack t = e :: l :=
  Tab.get_set_of_ne s.intc.inService t (List.cons_ne_nil e l)

/-- The state of a source stands in registers alone. -/
@[simp] theorem State.intc_srcTo (s : State) (n st : Nat) : (s.srcTo n st).intc = s.intc := by
  simp only [State.srcTo]
  split <;> simp only [State.intc_setFld]

@[simp] theorem State.intc_recheck (s : State) (n : Nat) : (s.recheck n).intc = s.intc := by
  simp only [State.recheck]
  split
  · split
    · rfl
    · split <;> exact State.intc_srcTo s n _
  · rfl

theorem State.intc_foldl_recheck (l : List Nat) (s : State) : (l.foldl State.recheck s).intc = s.intc := by
  induction l generalizing s with
  | nil => rfl
  | cons n l ih => rw [List.foldl_cons, ih, State.intc_recheck]

/-! ## The running priority -/

theorem State.runsBelow_of_stack_nil {t : Nat} (prio : Nat) (h : s.stack t = []) : s.runsBelow t prio = true := by
  simp only [State.runsBelow, h]

theorem State.runsBelow_iff_of_stack_cons {t n p : Nat} {rest : List (Nat × Nat)} (prio : Nat) (h : s.stack t = (n, p) :: rest) :
    s.runsBelow t prio = true ↔ p < prio := by
  simp only [State.runsBelow, h, decide_eq_true_eq]

/-! ## CLAIM -/

theorem exec_claimRead_of_answers {t : Nat} (ht : t < 73) (hb : s.bar pINTC = true ∨ 64 ≤ t) :
    exec (.claimRead t) s = .next { (s.claimRead t).1 with readData := (s.claimRead t).2 } :=
  congrArg Host.Outcome.next (if_pos ⟨ht, hb⟩)

/-- The push outlives the re-check of the sources still COMMITTED to the target. -/
theorem State.stack_claimRead {t n : Nat} (h : s.claimSource t = some n) :
    (s.claimRead t).1.stack t = (n, s.srcPrio n) :: s.stack t := by
  simp only [State.claimRead, h]
  rw [State.stack_of_intc_eq (State.intc_foldl_recheck _ _), State.stack_setStack_cons]

theorem State.claimRead_value {t n : Nat} (h : s.claimSource t = some n) :
    (s.claimRead t).2 =
      n + s.srcPrio n * 0x1000 + (!isSoft n && !s.srcLine n).toNat * 0x10000 + (isSoft n).toNat * 0x20000 := by
  simp only [State.claimRead, h]

/-- Settles O14: a CLAIM that finds a source pushes it and answers its entry (R412 gives the bits), and the running priority is read
off the top of the stack. -/
theorem claimPushesTheSourceOnTheStack : Obligations.ClaimPushesTheSourceOnTheStack :=
  ⟨fun _ _ _ ht hb h => ⟨_, exec_claimRead_of_answers ht hb, State.stack_claimRead h, State.claimRead_value h⟩,
    fun _ _ prio _ _ _ h => State.runsBelow_iff_of_stack_cons prio h, fun _ _ prio h => State.runsBelow_of_stack_nil prio h⟩

end Sys2Proof.Machine

/-! SUPPORT. Steps, the canonical form that each of them keeps, and what the state reads after a store: the statements about the
block as a whole. -/

namespace Sys2Proof.Machine

variable {s : State} {Q : List Instr}

/-! ## Every command keeps the queue and the canonical form -/

/-- One arm for each command: its meaning keeps what every operation under it keeps. -/
theorem exec_sound (c : Instr) (hs : s.Sound Q) : Out.Sound Q (exec c s) := by
  cases c with
  | registerWrite a v => exact execRegisterWrite_sound a v hs
  | bar0NarrowAccess a len data => exact execBar0NarrowAccess_sound a len data hs
  | pageEnable p => exact execPageEnable_sound p hs
  | enableCheckComplete p parityOk => exact execEnableCheckComplete_sound p parityOk hs
  | pageStop p => exact execPageStop_sound p hs
  | pageDrain p => exact execPageDrain_sound p hs
  | drainUndo p => exact execDrainUndo_sound p hs
  | nextBoundaryReached p => exact execNextBoundaryReached_sound p hs
  | abortPage p => exact execAbortPage_sound p hs
  | clearFault p => exact execClearFault_sound p hs
  | unitFaultDetected p => exact execUnitFaultDetected_sound p hs
  | arm p => exact execArm_sound p hs
  | disarm p => exact execDisarm_sound p hs
  | discard p => exact execDiscard_sound p hs
  | shadowWrite p o v => exact execShadowWrite_sound p o v hs
  | groupCommitReq mask => exact execGroupCommitReq_sound mask hs
  | deviceCommitReq => exact execDeviceCommitReq_sound hs
  | deviceCommitComplete => exact execDeviceCommitComplete_sound hs
  | commitAbortGroup mask => exact execCommitAbortGroup_sound mask hs
  | commitAbortDevice => exact execCommitAbortDevice_sound hs
  | commitCutoff g => exact execCommitCutoff_sound g hs
  | commitCheckEnd g => exact execCommitCheckEnd_sound g hs
  | chmbReserveWrite v => exact execChmbReserveWrite_sound v hs
  | shed => exact execShed_sound hs
  | intSet p v => exact execIntSet_sound p v hs
  | incrWrite v => exact execIncrWrite_sound v hs
  | slewIncrWrite v => exact execSlewIncrWrite_sound v hs
  | slewStart => exact execSlewStart_sound hs
  | slewDone => exact execSlewDone_sound hs
  | timeLoadAtPps => exact execTimeLoadAtPps_sound hs
  | timeStop => exact execTimeStop_sound hs
  | loadWrite r v => exact execLoadWrite_sound r v hs
  | cmpArm n v => exact execCmpArm_sound n v hs
  | cmpBoundWrite n r v => exact execCmpBoundWrite_sound n r v hs
  | tgtWrite n v => exact execTgtWrite_sound n v hs
  | tgt32Write n v => exact execTgt32Write_sound n v hs
  | compareFire n => exact execCompareFire_sound n hs
  | triggerPulseEnd k => exact execTriggerPulseEnd_sound k hs
  | captureEdge n rising => exact execCaptureEdge_sound n rising hs
  | ppsOutRise => exact execPpsOutRise_sound hs
  | ppsOutFall => exact execPpsOutFall_sound hs
  | rootPllLoss => exact execRootPllLoss_sound hs
  | rootPllRelock => exact execRootPllRelock_sound hs
  | sdiRateDwell n r => exact execSdiRateDwell_sound n r hs
  | sdiLinkLock n r => exact execSdiLinkLock_sound n r hs
  | sdiLockLoss n r => exact execSdiLockLoss_sound n r hs
  | sdiPictureArrival n x => exact execSdiPictureArrival_sound n x hs
  | ancPacket n x => exact execAncPacket_sound n x hs
  | ipinPathInactive n b => exact execIpinPathInactive_sound n b hs
  | ipinSeqLost n => exact execIpinSeqLost_sound n hs
  | rowReadInstant n k => exact execRowReadInstant_sound n k hs
  | inputPageLeave p => exact execInputPageLeave_sound p hs
  | fenceSignal n v => exact execFenceSignal_sound n v hs
  | protWrite byLantern n r v => exact execProtWrite_sound byLantern n r v hs
  | protLock byLantern n => exact execProtLock_sound byLantern n hs
  | feederDrainEnd p => exact execFeederDrainEnd_sound p hs
  | rowRelease c n k lost => exact execRowRelease_sound c n k lost hs
  | rowDispatch h => exact execRowDispatch_sound h hs
  | ctuComplete h k x => exact execCtuComplete_sound h k x hs
  | chamberFault h => exact execChamberFault_sound h hs
  | outputInstant c n k => exact execOutputInstant_sound c n k hs
  | chmbDrainEffect h => exact execChmbDrainEffect_sound h hs
  | chmbDrainEnd h => exact execChmbDrainEnd_sound h hs
  | chmbPoolJoin h => exact execChmbPoolJoin_sound h hs
  | blockRead c r t b transient => exact execBlockRead_sound c r t b transient hs
  | decInputRecord d => exact execDecInputRecord_sound d hs
  | decPictureDecoded d rows => exact execDecPictureDecoded_sound d rows hs
  | sdiOutPicture n m => exact execSdiOutPicture_sound n m hs
  | claimMsg seq claim primary active yielded => exact execClaimMsg_sound seq claim primary active yielded hs
  | digest seq es => exact execDigest_sound seq es hs
  | digestLate c => exact execDigestLate_sound c hs
  | yieldMsg p claim drain carried => exact execYieldMsg_sound p claim drain carried hs
  | snapshot seq m => exact execSnapshot_sound seq m hs
  | decision seq c n k cap qp floor e => exact execDecision_sound seq c n k cap qp floor e hs
  | stepMsg seq c cause n k => exact execStepMsg_sound seq c cause n k hs
  | joinReq seq c => exact execJoinReq_sound seq c hs
  | handoverReq seq claim => exact execHandoverReq_sound seq claim hs
  | handover seq fs claim => exact execHandover_sound seq fs claim hs
  | commitReq seq reqs => exact execCommitReq_sound seq reqs hs
  | commitVerdict seq g b pass digest => exact execCommitVerdict_sound seq g b pass digest hs
  | verdictDeadline g => exact execVerdictDeadline_sound g hs
  | ready seq g m entries => exact execReady_sound seq g m entries hs
  | witnessTimeout => exact execWitnessTimeout_sound hs
  | retainExpiry c => exact execRetainExpiry_sound c hs
  | revert => exact execRevert_sound hs
  | pairCtrlHandover => exact execPairCtrlHandover_sound hs
  | yieldNow => exact execYieldNow_sound hs
  | clearYield => exact execClearYield_sound hs
  | joinNow => exact execJoinNow_sound hs
  | pairCfgWrite r v => exact execPairCfgWrite_sound r v hs
  | ropeLinkCut => exact execRopeLinkCut_sound hs
  | heartbeatSend => exact execHeartbeatSend_sound hs
  | heartbeat lane rx next pAck => exact execHeartbeat_sound lane rx next pAck hs
  | am lane tx rx skew ins del invalid => exact execAm_sound lane tx rx skew ins del invalid hs
  | amSend => exact execAmSend_sound hs
  | ack next nak pAck => exact execAck_sound next nak pAck hs
  | ropeFrameBad sequenced cause => exact execRopeFrameBad_sound sequenced cause hs
  | ropeReplayTimeout => exact execRopeReplayTimeout_sound hs
  | yieldRepeat => exact execYieldRepeat_sound hs
  | ropeLaneLost r lockLost invalid => exact execRopeLaneLost_sound r lockLost invalid hs
  | blockLock r => exact execBlockLock_sound r hs
  | signalDetect mask => exact execSignalDetect_sound mask hs
  | ropeTrainDone r => exact execRopeTrainDone_sound r hs
  | trainMsExpiry => exact execTrainMsExpiry_sound hs
  | alignDone => exact execAlignDone_sound hs
  | linkStateTimeout => exact execLinkStateTimeout_sound hs
  | caps seq version member stepping lanes minLanes window next => exact execCaps_sound seq version member stepping lanes minLanes window next hs
  | mailbox seq words => exact execMailbox_sound seq words hs
  | ropeRetrain r => exact execRopeRetrain_sound r hs
  | ropeRetrainResult r => exact execRopeRetrainResult_sound r hs
  | ropeRestart => exact execRopeRestart_sound hs
  | clearFailed => exact execClearFailed_sound hs
  | mboxSend => exact execMboxSend_sound hs
  | ethFrameReceive p good fr back corrected uncorr symbols => exact execEthFrameReceive_sound p good fr back corrected uncorr symbols hs
  | anComplete p => exact execAnComplete_sound p hs
  | ethAttemptTimeout p noAbility => exact execEthAttemptTimeout_sound p noAbility hs
  | ethTrainDone p => exact execEthTrainDone_sound p hs
  | linkUp p => exact execLinkUp_sound p hs
  | linkDown p => exact execLinkDown_sound p hs
  | retryMsExpiry p => exact execRetryMsExpiry_sound p hs
  | laneModeNextWrite p v => exact execLaneModeNextWrite_sound p v hs
  | subWrite p n source v => exact execSubWrite_sound p n source v hs
  | hostTxRecord p => exact execHostTxRecord_sound p hs
  | tsHostRecord c => exact execTsHostRecord_sound c hs
  | enableQueue q => exact execEnableQueue_sound q hs
  | disableQueue q => exact execDisableQueue_sound q hs
  | disableComplete => exact execDisableComplete_sound hs
  | setShaper q => exact execSetShaper_sound q hs
  | returnQueue q => exact execReturnQueue_sound q hs
  | frameHandoff => exact execFrameHandoff_sound hs
  | frameTransmitStart p => exact execFrameTransmitStart_sound p hs
  | frameTransmitEnd p back => exact execFrameTransmitEnd_sound p back hs
  | gateSwap p => exact execGateSwap_sound p hs
  | gateCancel p => exact execGateCancel_sound p hs
  | gateSwapped p => exact execGateSwapped_sound p hs
  | gateEntryChange p => exact execGateEntryChange_sound p hs
  | adaptWindowEnd n density balance dPeak dTaps => exact execAdaptWindowEnd_sound n density balance dPeak dTaps hs
  | laneRetrain n => exact execLaneRetrain_sound n hs
  | freeze n => exact execFreeze_sound n hs
  | unfreeze n => exact execUnfreeze_sound n hs
  | snapshotBaseline n => exact execSnapshotBaseline_sound n hs
  | injectSingle n => exact execInjectSingle_sound n hs
  | injectBurst n => exact execInjectBurst_sound n hs
  | esStart n => exact execEsStart_sound n hs
  | esStop n => exact execEsStop_sound n hs
  | esDone n errs => exact execEsDone_sound n errs hs
  | ffeWrite n v => exact execFfeWrite_sound n v hs
  | testCfgWrite n v => exact execTestCfgWrite_sound n v hs
  | loopbackWrite n v => exact execLoopbackWrite_sound n v hs
  | laneTrainDone n => exact execLaneTrainDone_sound n hs
  | laneTrainFail n => exact execLaneTrainFail_sound n hs
  | cdrLost n => exact execCdrLost_sound n hs
  | memcRequest n fails => exact execMemcRequest_sound n fails hs
  | refiExpiry n => exact execRefiExpiry_sound n hs
  | refreshIssue n => exact execRefreshIssue_sound n hs
  | mr4Poll n code => exact execMr4Poll_sound n code hs
  | sensorSample temps volts implausible => exact execSensorSample_sound temps volts implausible hs
  | applyDelays n => exact execApplyDelays_sound n hs
  | probeStart n => exact execProbeStart_sound n hs
  | stolenSlot n pass => exact execStolenSlot_sound n pass hs
  | rrWindowEnd n => exact execRrWindowEnd_sound n hs
  | shedWrite n k v => exact execShedWrite_sound n k v hs
  | mtxBurstRequest master addr len data fence busy => exact execMtxBurstRequest_sound master addr len data fence busy hs
  | ageLimitExpiry id => exact execAgeLimitExpiry_sound id hs
  | flitCrcFail master addr attempt => exact execFlitCrcFail_sound master addr attempt hs
  | wpWrite byLantern w r v => exact execWpWrite_sound byLantern w r v hs
  | pageLineChange p => exact execPageLineChange_sound p hs
  | swSet n => exact execSwSet_sound n hs
  | swClr n => exact execSwClr_sound n hs
  | srcCtrlWrite n r v => exact execSrcCtrlWrite_sound n r v hs
  | intcRoute bad => exact execIntcRoute_sound bad hs
  | claimRead t => exact execClaimRead_sound t hs
  | eoi t n => exact execEoi_sound t n hs
  | msixUnmask v err => exact execMsixUnmask_sound v err hs
  | threadReady id => exact execThreadReady_sound id hs
  | threadCreate id prio => exact execThreadCreate_sound id prio hs
  | flowPost f => exact execFlowPost_sound f hs
  | sumpFetch id ns uncorrectable => exact execSumpFetch_sound id ns uncorrectable hs
  | commandRecord => exact execCommandRecord_sound hs
  | nop tag => exact execNop_sound tag hs
  | cmdRetrain tag => exact execCmdRetrain_sound tag hs
  | memSweep tag => exact execMemSweep_sound tag hs
  | eyeScan tag => exact execEyeScan_sound tag hs
  | join tag => exact execJoin_sound tag hs
  | fwLoad tag => exact execFwLoad_sound tag hs
  | fwSwap tag => exact execFwSwap_sound tag hs
  | coreStopped c => exact execCoreStopped_sound c hs
  | swapTimeout => exact execSwapTimeout_sound hs
  | selftest tag => exact execSelftest_sound tag hs
  | cmdAbort tag => exact execCmdAbort_sound tag hs
  | cmdTimeout tag => exact execCmdTimeout_sound tag hs
  | cmdCfgWrite v => exact execCmdCfgWrite_sound v hs
  | pcieLinkDown => exact execPcieLinkDown_sound hs
  | hostRetrain => exact execHostRetrain_sound hs
  | pcieLinkTrained lanes speed => exact execPcieLinkTrained_sound lanes speed hs
  | bar2Access off len data => exact execBar2Access_sound off len data hs
  | apertureWrite hi v => exact execApertureWrite_sound hi v hs
  | tailWrite r v stores => exact execTailWrite_sound r v stores hs
  | descriptorFetch r hostErr => exact execDescriptorFetch_sound r hostErr hs
  | dmaDescComplete r => exact execDmaDescComplete_sound r hs
  | recordOffer r source rec => exact execRecordOffer_sound r source rec hs
  | coalTimeout r => exact execCoalTimeout_sound r hs
  | powerOnReset => exact execPowerOnReset_sound hs
  | pwrgoodFall => exact execPwrgoodFall_sound hs
  | perstNRelease => exact execPerstNRelease_sound hs
  | boot soundA soundB => exact execBoot_sound soundA soundB hs
  | selftestComplete critical chambers decs clocks sites rails => exact execSelftestComplete_sound critical chambers decs clocks sites rails hs
  | bringupComplete trained => exact execBringupComplete_sound trained hs
  | bootWatchdog => exact execBootWatchdog_sound hs
  | lanternWatchdog => exact execLanternWatchdog_sound hs
  | hostWdtKick => exact execHostWdtKick_sound hs
  | hostWdtExpired => exact execHostWdtExpired_sound hs
  | writeSlot => exact execWriteSlot_sound hs
  | activate trials => exact execActivate_sound trials hs
  | norRead => exact execNorRead_sound hs
  | mgmtRestart => exact execMgmtRestart_sound hs
  | logEvent => exact execLogEvent_sound hs
  | norRateRefill => exact execNorRateRefill_sound hs
  | xmodemImage bytes => exact execXmodemImage_sound bytes hs
  | consoleLoad slot => exact execConsoleLoad_sound slot hs
  | taskReset => exact execTaskReset_sound hs
  | sensClear v => exact execSensClear_sound v hs
  | otHoldEnd => exact execOtHoldEnd_sound hs
  | thermtrip => exact execThermtrip_sound hs
  | governorStage => exact execGovernorStage_sound hs
  | coolDelayExpiry => exact execCoolDelayExpiry_sound hs
  | perstNAssert => exact execPerstNAssert_sound hs
  | latchingRead a => exact execLatchingRead_sound a hs
  | ppsInEdge => exact execPpsInEdge_sound hs
  | ppsSeenLapse => exact execPpsSeenLapse_sound hs
  | cdrLock n => exact execCdrLock_sound n hs
  | checkerLock n => exact execCheckerLock_sound n hs
  | checkerLost n bits errs => exact execCheckerLost_sound n bits errs hs
  | rateInjection n => exact execRateInjection_sound n hs
  | trainingFrame r pre main post preset => exact execTrainingFrame_sound r pre main post preset hs
  | detectRetry => exact execDetectRetry_sound hs
  | waitDeadlineCount id => exact execWaitDeadlineCount_sound id hs
  | kernelEntry c op => exact execKernelEntry_sound c op hs
  | mgmtOpDone sound norOk => exact execMgmtOpDone_sound sound norOk hs
  | fwLoadDone tag ok version abi => exact execFwLoadDone_sound tag ok version abi hs
  | chamberTestDone tag pass => exact execChamberTestDone_sound tag pass hs
  | aerError correctable => exact execAerError_sound correctable hs

/-- Every command answers a next state, canonical or not: only those that look at an operand or a record before they test the state
need a case split. -/
theorem exec_answers (c : Instr) (s : State) : ∃ t, exec c s = .next t := by
  cases c
  case fenceSignal n v => change ∃ t, execFenceSignal n v s = _; unfold execFenceSignal; split <;> exact ⟨_, rfl⟩
  case subWrite p n src v => change ∃ t, execSubWrite p n src v s = _; unfold execSubWrite; split <;> exact ⟨_, rfl⟩
  case cmdTimeout tag => change ∃ t, execCmdTimeout tag s = _; unfold execCmdTimeout; split <;> exact ⟨_, rfl⟩
  case protWrite b n r v =>
    change ∃ t, execProtWrite b n r v s = _
    unfold execProtWrite; cases b <;> split <;> exact ⟨_, rfl⟩
  case protLock b n =>
    change ∃ t, execProtLock b n s = _
    unfold execProtLock; cases b <;> split <;> exact ⟨_, rfl⟩
  case wpWrite b w r v =>
    change ∃ t, execWpWrite b w r v s = _
    unfold execWpWrite; cases b <;> split <;> exact ⟨_, rfl⟩
  all_goals exact ⟨_, rfl⟩

/-! ## Steps -/

theorem step_of_command {c : Instr} {r : List Instr} (h : s.pending = c :: r) : step s = exec c { s with pending := r } := by
  rw [step, h]

theorem step_of_empty (h : s.pending = []) : step s = .next s.tick := by rw [step, h]

/-- Settles O1: the queue's front decides the step. -/
theorem stepRunsTheFrontCommand : Obligations.StepRunsTheFrontCommand := fun _ _ _ => step_of_command

theorem step_sound (hs : s.canonical = true) : ∃ t, step s = .next t ∧ t.canonical = true := by
  cases hq : s.pending with
  | nil => exact ⟨_, step_of_empty hq, (State.tick_sound (State.sound_of_canonical hs)).canonical⟩
  | cons c r =>
    obtain ⟨t, ht, hsound⟩ := exec_sound c (Q := r) (s := { s with pending := r }) ⟨rfl, hs⟩
    exact ⟨t, (step_of_command hq).trans ht, hsound.canonical⟩

/-- Settles O4: a tick and each command keep the canonical form, by the laws of the operations under them. -/
theorem everyStepKeepsTheCanonicalForm : Obligations.EveryStepKeepsTheCanonicalForm := fun s t hs hstep => by
  obtain ⟨u, hu, hcanon⟩ := step_sound hs
  cases hstep.symm.trans hu
  exact hcanon

/-- Settles O5: every command answers, and what it answers is sound for the queue that waited. -/
theorem noCommandStopsOrTouchesTheQueue : Obligations.NoCommandStopsOrTouchesTheQueue :=
  ⟨exec_answers, fun c s t hs hexec => by
    obtain ⟨u, hu, hqueue, -⟩ := exec_sound c (State.sound_of_canonical hs)
    cases hexec.symm.trans hu
    exact hqueue⟩

/-! ## The state after reset -/

/-- Reset lists two registers of TIME's own, so a common header reads its reset values. -/
theorem State.reg_reset_header {p o : Nat} {u : UnitType} (hu : unitOf p = some u) (ho : o < 0x100) :
    State.reset.reg (p * 0x1000 + o) = BitVec.ofNat 32 (headerReset u p o) := by
  have hreg : State.reset.reg (p * 0x1000 + o) = resetVal (p * 0x1000 + o) := by
    have h0 : p * 0x1000 + o ≠ 0x2130 := by omega
    have h1 : p * 0x1000 + o ≠ 0x2134 := by omega
    simp [State.reg, State.reset, Tab.get, h0, h1]
  rw [hreg, resetVal, pageOf_page_add (by omega), hu]
  simp only [offsetOf_page_add (show o < 0x1000 by omega), ho, if_true]

theorem ite_ne_of_ne {α : Type} {c : Prop} [Decidable c] {a b x : α} (ha : a ≠ x) (hb : b ≠ x) : (if c then a else b) ≠ x := by
  split
  · exact ha
  · exact hb

/-- DIR and SYS are the first two pages. -/
theorem unitOf_ne_of_not_alwaysOn {p : Nat} (h : alwaysOn p = false) : unitOf p ≠ some .dir ∧ unitOf p ≠ some .sys := by
  by_cases hp : p < 0x18
  · revert h; revert p; decide
  · have hlow : ¬p < 0x10 := by omega
    unfold unitOf
    rw [if_neg hlow, if_neg hp]
    constructor <;> repeat refine ite_ne_of_ne (by decide) ?_
    all_goals decide

/-- Settles O3: PAGE_STATE of every page but DIR and SYS reads OFF. -/
theorem resetStateIsCanonicalAndIdle : Obligations.ResetStateIsCanonicalAndIdle := by
  refine ⟨rfl, by decide, by decide, List.all_eq_true.2 fun p hp => ?_⟩
  obtain ⟨u, hu⟩ := Option.isSome_iff_exists.1 (List.mem_filter.1 hp).2
  cases hon : alwaysOn p with
  | true => rw [Bool.true_or]
  | false =>
    have hne := unitOf_ne_of_not_alwaysOn hon
    simp only [hu, ne_eq, Option.some.injEq] at hne
    simp [State.st, State.fld, Fld.addr, F.PAGE_STATE, State.reg_reset_header hu, headerReset, hne, Fld.of, stOff]

/-! ## Fields -/

/-- Settles O6: the laws of a field read after a field write; a field write is a register write, and leaves memory alone. -/
theorem fieldWritesReachOneFieldOnly : Obligations.FieldWritesReachOneFieldOnly :=
  ⟨fun _ p v f hs hf => State.fld_setFld_same p f v hs hf, fun _ _ v _ _ hs hf ho hd => State.fld_setFld_apart v hs hf ho hd,
    fun _ _ v _ _ hs hne => State.reg_setFld_other v hs hne, fun _ _ _ _ _ => ⟨rfl, rfl, rfl⟩⟩

end Sys2Proof.Machine

/-! SUPPORT. What one tick of the clocks does, and the statements about increments, loading, compares and captures (R58 to R88). -/

namespace Sys2Proof.Machine

variable {s : State}

/-! ## A tick -/

theorem foldl_eq_self {α β : Type} {f : β → α → β} {b : β} (l : List α) (h : ∀ x ∈ l, f b x = b) : l.foldl f b = b := by
  induction l with
  | nil => rfl
  | cons x l ih => rw [List.foldl_cons, h x List.mem_cons_self, ih fun y hy => h y (List.mem_cons_of_mem x hy)]

/-- No compare was armed or given a target since the tick before (R64). -/
def State.NoneFresh (s : State) : Prop := ∀ n, n < 16 → (Tab.get .reset s.time.cmp n).fresh = false

theorem State.NoneFresh.of_cmp_eq {u : State} (h : s.NoneFresh) (hc : u.time.cmp = s.time.cmp) : u.NoneFresh := by
  rw [State.NoneFresh, hc]; exact h

/-- The tick then finds nothing to mark late. -/
theorem State.lateMarks_of_noneFresh (h : s.NoneFresh) : (List.range 16).foldl State.lateMark s = s := by
  refine foldl_eq_self _ fun n hn => ?_
  rw [State.lateMark, h n (List.mem_range.1 hn), if_neg Bool.false_ne_true]

/-- Twelve cycles of the root PLL, and the time that they take (R58). -/
def State.rootTicked (s : State) : State :=
  { s with time := { s.time with root := s.time.root + 12, starting := false },
           boot := { s.boot with ps := s.boot.ps + (if s.boot.mult = 240 then 1000 else 2000) } }

/-- A slew counts one tick and the counter takes its next value (R62, R69). -/
def State.counted (s : State) (acc : BitVec 88) : State := { s.slewTick with time := { s.slewTick.time with acc := acc } }

/-- The counter begins at its load value (R66). -/
def State.counterStarts (s : State) : State := (s.setFld pTIME F.TIME.TIME_STATUS_RUNNING 1).raise pTIME F.TIME.intLOADED

theorem State.clockTick_eq (s : State) : s.clockTick =
    if s.boot.rootHeld then s
    else (List.range 16).foldl State.lateMark
      (if s.time.starting then s.rootTicked.counterStarts
       else if s.running && !s.watch.clocksStopped then
        (if s.time.acc.toNat + s.incrEff < 2 ^ 88 then s.rootTicked else s.rootTicked.tookFree).counted s.nextAcc
       else s.rootTicked) := rfl

theorem State.clockTick_of_held (h : s.boot.rootHeld = true) : s.clockTick = s := by rw [State.clockTick_eq, if_pos h]

/-- The counter does not count while TIME is not RUNNING. -/
theorem State.clockTick_of_stopped (hroot : s.boot.rootHeld = false) (hstart : s.time.starting = false) (hrun : s.running = false)
    (hfresh : s.NoneFresh) : s.clockTick = s.rootTicked := by
  rw [State.clockTick_eq, hroot, hstart, hrun, Bool.false_and, if_neg Bool.false_ne_true, if_neg Bool.false_ne_true,
    if_neg Bool.false_ne_true]
  exact State.lateMarks_of_noneFresh hfresh

theorem State.clockTick_of_starting (hroot : s.boot.rootHeld = false) (hstart : s.time.starting = true) (hfresh : s.NoneFresh) :
    s.clockTick = s.rootTicked.counterStarts := by
  rw [State.clockTick_eq, hroot, hstart, if_neg Bool.false_ne_true, if_pos rfl]
  exact State.lateMarks_of_noneFresh hfresh

theorem State.cmp_incrApply (s : State) : s.incrApply.time.cmp = s.time.cmp := by
  unfold State.incrApply; split <;> rfl

theorem State.cmp_slewTick (s : State) : s.slewTick.time.cmp = s.time.cmp := by
  unfold State.slewTick
  dsimp only
  split
  · rfl
  · split
    · exact State.cmp_incrApply _
    · rfl

/-- While TIME runs the counter and a slew count. -/
theorem State.clockTick_of_running (hroot : s.boot.rootHeld = false) (hstart : s.time.starting = false)
    (hclocks : s.watch.clocksStopped = false) (hrun : s.running = true) (hfresh : s.NoneFresh) : s.clockTick =
      (if s.time.acc.toNat + s.incrEff < 2 ^ 88 then s.rootTicked else s.rootTicked.tookFree).counted s.nextAcc := by
  rw [State.clockTick_eq, hroot, hstart, hrun, hclocks, if_neg Bool.false_ne_true, if_neg Bool.false_ne_true,
    Bool.not_false, Bool.and_self, if_pos rfl]
  refine State.lateMarks_of_noneFresh (hfresh.of_cmp_eq ?_)
  rw [State.counted, State.cmp_slewTick]
  split <;> rfl

/-- Only a counter that starts at a tick loads the compare of TASK (R420). -/
theorem State.tick_of_running (h : s.running = true) : s.tick = s.clockTick := by
  rw [State.tick, h, Bool.not_true, Bool.and_false, if_neg Bool.false_ne_true]

theorem State.tick_of_stopped (h : s.clockTick.running = false) : s.tick = s.clockTick := by
  rw [State.tick, h, Bool.false_and, if_neg Bool.false_ne_true]

theorem State.running_counterStarts (hs : s.canonical = true) : s.counterStarts.running = true := by
  have hread := State.fld_setFld_same pTIME F.TIME.TIME_STATUS_RUNNING 1 hs (by decide)
  rw [State.running, State.bit, State.counterStarts, State.raise, State.fld_setFld_reg 1 (State.canonical_setFld _ _ _ hs) (by decide),
    hread]
  rfl

theorem State.slewTick_of_none (h : s.fld pTIME F.TIME.SLEW_REMAIN = 0) : s.slewTick = s := by rw [State.slewTick, if_pos h]

theorem State.incrEff_of_none (h : s.fld pTIME F.TIME.SLEW_REMAIN = 0) : s.incrEff = s.fld pTIME F.TIME.INCR := by
  rw [State.incrEff, h, if_neg (lt_irrefl 0)]

/-- Settles O2: the four cases are a held root, a stopped counter, one that runs without a slew, and one that starts. -/
theorem emptyQueueLetsTheClocksTick : Obligations.EmptyQueueLetsTheClocksTick := by
  refine ⟨fun s hq hroot => ?_, fun s hq hroot hstart hrun hfresh => ?_,
    fun s hq hroot hstart hclocks hrun hslew hacc hfresh => ?_, fun s hs hq hroot hstart hrun hfresh => ?_⟩ <;>
    rw [step_of_empty hq]
  · have hclock := State.clockTick_of_held hroot
    cases hrun : s.running with
    | false => rw [State.tick_of_stopped (hclock.symm ▸ hrun), hclock]
    | true => rw [State.tick_of_running hrun, hclock]
  · have hclock := State.clockTick_of_stopped hroot hstart hrun hfresh
    rw [State.tick_of_stopped (hclock.symm ▸ hrun), hclock]
    rfl
  · rw [← State.incrEff_of_none hslew] at hacc ⊢
    rw [State.tick_of_running hrun, State.clockTick_of_running hroot hstart hclocks hrun hfresh, if_pos hacc, State.nextAcc,
      if_pos hacc, State.counted, State.slewTick_of_none (s := s.rootTicked) hslew]
    rfl
  · have hstarts : s.rootTicked.counterStarts.running = true := State.running_counterStarts hs
    rw [State.tick, State.clockTick_of_starting hroot hstart hfresh, hstarts, hrun, Bool.not_false, Bool.and_self, if_pos rfl]
    rfl

end Sys2Proof.Machine

/-! SUPPORT. Byte ranges of a table: device memory, host memory and the NOR are stored and erased by the same laws. -/

namespace Sys2Proof.Machine

variable {s : State}

/-! ## A list of bytes stored in a table, and a range of keys unlisted -/

/-- The table with the bytes `bs` at the keys from `a` on. -/
def Tab.setBytes (d : Byte) (t : Tab Byte) (a : Nat) : List Byte → Tab Byte
  | [] => t
  | b :: bs => Tab.setBytes d (Tab.set d t a b) (a + 1) bs

theorem Tab.set_rising {d : Byte} {t : Tab Byte} (k : Nat) (v : Byte) (h : t.rising = true) : (Tab.set d t k v).rising = true := by
  unfold Tab.set
  split
  · exact Tab.del_rising k h
  · exact Tab.put_rising k v h

theorem Tab.get_setBytes_outside (d : Byte) (bs : List Byte) {t : Tab Byte} {a b : Nat} (h : t.rising = true)
    (hb : b < a ∨ a + bs.length ≤ b) : Tab.get d (Tab.setBytes d t a bs) b = Tab.get d t b := by
  induction bs generalizing t a with
  | nil => rfl
  | cons x bs ih =>
    rw [List.length_cons] at hb
    rw [Tab.setBytes, ih (Tab.set_rising a x h) (by omega), Tab.get_set_other d d x h (by omega)]

theorem Tab.get_setBytes_inside (d : Byte) (bs : List Byte) {t : Tab Byte} {a b : Nat} (h : t.rising = true) (ha : a ≤ b)
    (hb : b < a + bs.length) : Tab.get d (Tab.setBytes d t a bs) b = bs.getD (b - a) 0 := by
  induction bs generalizing t a with
  | nil => rw [List.length_nil] at hb; omega
  | cons x bs ih =>
    rw [List.length_cons] at hb
    rw [Tab.setBytes]
    obtain rfl | hlt := Nat.eq_or_lt_of_le ha
    · rw [Tab.get_setBytes_outside d bs (Tab.set_rising a x h) (Or.inl (Nat.lt_succ_self a)), Tab.get_set_same d a x h,
        Nat.sub_self, List.getD_cons_zero]
    · rw [ih (Tab.set_rising a x h) hlt (by omega), show b - a = b - (a + 1) + 1 by omega, List.getD_cons_succ]

/-- Keys that `p` keeps read as before, the others as unlisted. -/
theorem Tab.get_filter_key (d : Byte) (p : Nat → Bool) {t : Tab Byte} (k : Nat) (h : t.rising = true) :
    Tab.get d (t.filter fun c => p c.1) k = if p k then Tab.get d t k else d := by
  induction t with
  | nil => simp [Tab.get]
  | cons e t ih =>
    obtain ⟨j, v⟩ := e
    have ih := ih (Tab.rising_tail h)
    have habove : k < j → Tab.get d (t.filter fun c => p c.1) k = d := fun hk =>
      Tab.get_of_above d fun c hc => Nat.lt_trans hk (Tab.rising_above h c (List.mem_of_mem_filter hc))
    rcases Nat.lt_trichotomy k j with hlt | rfl | hgt
    · cases hp : p j <;> simp [hp, Tab.get, habove hlt, Nat.ne_of_lt hlt, hlt]
    · have hnone : Tab.get d (t.filter fun c => p c.1) k = d :=
        Tab.get_of_above d fun c hc => Tab.rising_above h c (List.mem_of_mem_filter hc)
      cases hp : p k <;> simp [hp, Tab.get, hnone]
    · cases hp : p j <;> simp [hp, Tab.get, ih, Nat.ne_of_gt hgt, Nat.lt_asymm hgt]

/-! ## The three memories -/

theorem State.mem_storeBytes (bs : List Byte) (a : Nat) (s : State) : (s.storeBytes a bs).mem = Tab.setBytes memDefault s.mem a bs := by
  induction bs generalizing s a with
  | nil => rfl
  | cons b bs ih => rw [State.storeBytes, ih]; rfl

theorem State.hostMem_hostStore (bs : List Byte) (a : Nat) (s : State) :
    (s.hostStore a bs).hostMem = Tab.setBytes memDefault s.hostMem a bs := by
  induction bs generalizing s a with
  | nil => rfl
  | cons b bs ih => rw [State.hostStore, ih]; rfl

theorem State.norMem_norProgram (bs : List Byte) (a : Nat) (s : State) :
    (s.norProgram a bs).norMem = Tab.setBytes norDefault s.norMem a bs := by
  induction bs generalizing s a with
  | nil => rfl
  | cons b bs ih => rw [State.norProgram, ih]; rfl

theorem State.canonical_hostRising (h : s.canonical = true) : Tab.rising s.hostMem = true := by
  simp only [State.canonical, Memory.wf, Tab.wf, Bool.and_eq_true] at h
  exact h.1.1.1.2.1

theorem State.canonical_norRising (h : s.canonical = true) : Tab.rising s.norMem = true := by
  simp only [State.canonical, Nor.wf, Tab.wf, Bool.and_eq_true] at h
  exact h.2.1

/-- An erase unlists the keys of its range. -/
theorem State.norByte_norErase (a n b : Nat) (h : s.canonical = true) :
    (s.norErase a n).norByte b = if !(decide (a ≤ b) && decide (b < a + n)) then s.norByte b else norDefault :=
  Tab.get_filter_key norDefault (fun k => !(decide (a ≤ k) && decide (k < a + n))) b (State.canonical_norRising h)

/-- Settles O7: each store is a list of bytes set in one table, and an erase a range unlisted. -/
theorem storesReachTheirBytesOnly : Obligations.StoresReachTheirBytesOnly := by
  refine ⟨fun s a b bs h ha hb => ?_, fun s a b bs h hb => ?_, fun s a b bs h ha hb => ?_, fun s a b bs h hb => ?_,
    fun s a b bs h ha hb => ?_, fun s a b bs h hb => ?_, fun s a b n h ha hb => ?_, fun s a b n h hb => ?_⟩
  · rw [State.byte, State.mem_storeBytes]
    exact Tab.get_setBytes_inside memDefault bs (State.canonical_memRising h) ha hb
  · rw [State.byte, State.mem_storeBytes]
    exact Tab.get_setBytes_outside memDefault bs (State.canonical_memRising h) hb
  · rw [State.hostByte, State.hostMem_hostStore]
    exact Tab.get_setBytes_inside memDefault bs (State.canonical_hostRising h) ha hb
  · rw [State.hostByte, State.hostMem_hostStore]
    exact Tab.get_setBytes_outside memDefault bs (State.canonical_hostRising h) hb
  · rw [State.norByte, State.norMem_norProgram]
    exact Tab.get_setBytes_inside norDefault bs (State.canonical_norRising h) ha hb
  · rw [State.norByte, State.norMem_norProgram]
    exact Tab.get_setBytes_outside norDefault bs (State.canonical_norRising h) hb
  · rw [State.norByte_norErase a n b h]
    simp [ha, hb]
  · rw [State.norByte_norErase a n b h, if_pos]
    simp only [Bool.not_eq_true', Bool.and_eq_false_iff, decide_eq_false_iff_not]
    omega

end Sys2Proof.Machine

/-! SUPPORT. The statements about increments, loading the counter, compares and captures (R62 to R88). -/

namespace Sys2Proof.Machine

variable {s : State}

/-! ## Increments (R63, R70) -/

theorem State.incrCheck_range {v : Nat} (h : v < 0x00800000 ∨ 0x02000000 < v) : s.incrCheck v = some (Cls.range, 0x10) := by
  rw [State.incrCheck, if_pos]
  simp only [incrInRange, Bool.not_eq_true', Bool.and_eq_false_iff, decide_eq_false_iff_not]
  omega

theorem incrInRange_of_le {v : Nat} (hlo : 0x00800000 ≤ v) (hhi : v ≤ 0x02000000) : incrInRange v = true := by
  simp [incrInRange, hlo, hhi]

theorem State.incrCheck_window {v : Nat} (hg : s.allGrpOff = false) (hlo : 0x00800000 ≤ v) (hhi : v ≤ 0x02000000)
    (h : v < 0x00FFE000 ∨ 0x01002000 < v) : s.incrCheck v = some (Cls.timing, 0x11) := by
  have hout : incrInWindow v = false := by
    simp only [incrInWindow, Bool.and_eq_false_iff, decide_eq_false_iff_not]
    omega
  rw [State.incrCheck, incrInRange_of_le hlo hhi, hg, hout]
  rfl

theorem State.incrCheck_ok {v : Nat} (hlo : 0x00800000 ≤ v) (hhi : v ≤ 0x02000000)
    (h : s.allGrpOff = true ∨ (0x00FFE000 ≤ v ∧ v ≤ 0x01002000)) : s.incrCheck v = none := by
  rw [State.incrCheck, incrInRange_of_le hlo hhi]
  obtain hg | ⟨h1, h2⟩ := h
  · rw [hg]; rfl
  · have hin : incrInWindow v = true := by simp [incrInWindow, h1, h2]
    simp [hin]

/-- A START in its window while TIME works, short of the empty slew. -/
theorem State.slewStart_of_window (hw : s.works pTIME = true)
    (hwin : s.allGrpOff = true ∨ incrInWindow (s.fld pTIME F.TIME.SLEW_INCR) = true) : s.slewStart =
      if s.running ∧ s.fld pTIME F.TIME.SLEW_REMAIN = 1 then
        { s with time := { s.time with slewNext := some (s.fld pTIME F.TIME.SLEW_TICKS) } }
      else if s.fld pTIME F.TIME.SLEW_TICKS = 0 then (s.slewLoad (s.fld pTIME F.TIME.SLEW_TICKS)).incrApply
      else s.slewLoad (s.fld pTIME F.TIME.SLEW_TICKS) := by
  have hok : (!s.allGrpOff && !incrInWindow (s.fld pTIME F.TIME.SLEW_INCR)) = false := by
    obtain h | h := hwin <;> simp [h]
  rw [State.slewStart, hw, hok]
  rfl

/-! ## The tick in which a slew ends (R69) -/

/-- The slew has ended, and the START that waited is taken. -/
def State.slewEnds (s : State) : State := { s with time := { s.time with slewEnded := true, slewNext := none } }

/-- A waiting INCR is in force. -/
def State.incrTakes (s : State) (v : Word) : State :=
  { s.setFld pTIME F.TIME.INCR v.toNat with time := { s.time with incrPending := none } }

theorem State.slewTick_of_last (h : s.fld pTIME F.TIME.SLEW_REMAIN = 1) :
    s.slewTick = s.slewEnds.incrApply.slewLoad (s.time.slewNext.getD 0) := by
  rw [State.slewTick, h]
  rfl

theorem State.incrApply_of_pending {v : Word} (h : s.time.incrPending = some v) : s.incrApply = s.incrTakes v := by
  rw [State.incrApply, h]
  rfl

theorem State.canonical_incrTakes (v : Word) (hs : s.canonical = true) : (s.incrTakes v).canonical = true :=
  State.canonical_setFld pTIME F.TIME.INCR v.toNat hs

theorem State.fld_slewLoad_remain (n : Nat) (hs : s.canonical = true) : (s.slewLoad n).fld pTIME F.TIME.SLEW_REMAIN = n % 2 ^ 32 := by
  rw [State.slewLoad, State.fld_setFld_reg _ (State.canonical_setFld _ _ _ hs) (by decide)]
  exact State.fld_setFld_same _ _ _ hs (by decide)

theorem State.fld_slewLoad_incr (n : Nat) (hs : s.canonical = true) :
    (s.slewLoad n).fld pTIME F.TIME.INCR = s.fld pTIME F.TIME.INCR := by
  rw [State.slewLoad, State.fld_setFld_reg _ (State.canonical_setFld _ _ _ hs) (by decide), State.fld_setFld_reg _ hs (by decide)]

theorem State.fld_incrTakes_incr (v : Word) (hs : s.canonical = true) : (s.incrTakes v).fld pTIME F.TIME.INCR = v.toNat :=
  (State.fld_setFld_same pTIME F.TIME.INCR v.toNat hs (by decide)).trans (Nat.mod_eq_of_lt v.isLt)

/-- The last tick of a slew: a waiting INCR applies, and a slew that was started in it begins. -/
theorem State.slewTick_of_last_pending {v : Word} (hs : s.canonical = true) (h : s.fld pTIME F.TIME.SLEW_REMAIN = 1)
    (hv : s.time.incrPending = some v) : s.slewTick.fld pTIME F.TIME.INCR = v.toNat ∧ s.slewTick.time.incrPending = none ∧
      s.slewTick.time.slewEnded = true ∧ s.slewTick.fld pTIME F.TIME.SLEW_REMAIN = s.time.slewNext.getD 0 % 2 ^ 32 ∧
      s.slewTick.mem = s.mem := by
  have hends : s.slewEnds.canonical = true := hs
  have htakes := State.canonical_incrTakes v hends
  rw [State.slewTick_of_last h, State.incrApply_of_pending (s := s.slewEnds) hv, State.fld_slewLoad_incr _ htakes,
    State.fld_slewLoad_remain _ htakes, State.fld_incrTakes_incr v hends]
  exact ⟨rfl, rfl, rfl, rfl, rfl⟩

theorem exec_incrWrite_of_bar (v : Word) (hb : s.bar pTIME = true) : exec (.incrWrite v) s = .next (s.writeIncr v) :=
  State.onPage_of_bar _ hb

theorem exec_slewIncrWrite_of_bar (v : Word) (hb : s.bar pTIME = true) : exec (.slewIncrWrite v) s = .next (s.writeSlewIncr v) :=
  State.onPage_of_bar _ hb

theorem exec_slewStart_of_bar (hb : s.bar pTIME = true) : exec .slewStart s = .next s.slewStart := State.onPage_of_bar _ hb

/-- Settles O16: the checks of INCR and SLEW_INCR in their order, START, and the tick in which a slew ends. That INCR reads its old value
while a change waits is the model's choice (log 251). -/
theorem incrementsAndSlews : Obligations.IncrementsAndSlews := by
  refine ⟨fun s v hb hr => ?_, fun s v hb hg hlo hhi hw => ?_, fun s v hb hlo hhi hw h0 => ?_, fun s v hb hlo hhi hw hpos => ?_,
    fun s v hb hlo hhi hw => ?_, fun s hb hworks hwin hpos hnot => ?_, fun s hb hworks hwin hrun h1 => ?_, fun s hend => ?_,
    fun s v hs hq hroot hstart hclocks hrun h1 hv hfresh => ?_⟩
  · rw [exec_incrWrite_of_bar v hb, exec_slewIncrWrite_of_bar v hb, State.writeIncr, State.writeSlewIncr, State.incrCheck_range hr]
    exact ⟨rfl, rfl⟩
  · rw [exec_incrWrite_of_bar v hb, exec_slewIncrWrite_of_bar v hb, State.writeIncr, State.writeSlewIncr,
      State.incrCheck_window hg hlo hhi hw]
    exact ⟨rfl, rfl⟩
  · rw [exec_incrWrite_of_bar v hb, State.writeIncr, State.incrCheck_ok hlo hhi hw, h0]
    rfl
  · rw [exec_incrWrite_of_bar v hb, State.writeIncr, State.incrCheck_ok hlo hhi hw]
    simp only [hpos, if_true]
  · rw [exec_slewIncrWrite_of_bar v hb, State.writeSlewIncr, State.incrCheck_ok hlo hhi hw]
  · have hgo : ¬(s.running = true ∧ s.fld pTIME F.TIME.SLEW_REMAIN = 1) := by
      rintro ⟨hrun, h1⟩
      obtain h | h := hnot
      · exact Bool.false_ne_true (h.symm.trans hrun)
      · exact h h1
    rw [exec_slewStart_of_bar hb, State.slewStart_of_window hworks hwin, if_neg hgo, if_neg (Nat.ne_of_gt hpos), State.slewLoad,
      decide_eq_true hpos]
    rfl
  · rw [exec_slewStart_of_bar hb, State.slewStart_of_window hworks hwin, if_pos ⟨hrun, h1⟩]
  · change execSlewDone s = _
    rw [execSlewDone, State.event_of _ hend]
  · have hlast := State.slewTick_of_last_pending (s := s.rootTicked) hs h1 hv
    have hlast' := State.slewTick_of_last_pending (s := s.rootTicked.tookFree) hs h1 hv
    refine ⟨_, step_of_empty hq, ?_⟩
    rw [State.tick_of_running hrun, State.clockTick_of_running hroot hstart hclocks hrun hfresh]
    split
    · exact hlast
    · exact hlast'

/-! ## Loading, seconds and the end of the count (R65 to R68) -/

theorem exec_loadWrite_of_bar (r : Nat) (v : Word) (hb : s.bar pTIME = true) : exec (.loadWrite r v) s = .next (s.loadWrite r v) :=
  State.onPage_of_bar _ hb

/-- Settles O17: each write of a load register by the state of TIME, then PPS_IN and the stop. -/
theorem counterLoadsOnlyAtEnable : Obligations.CounterLoadsOnlyAtEnable := by
  refine ⟨fun s v hb hoff => ?_, fun s v hb hoff => ?_, fun s v hb hoff => ?_, fun s v r hb hoff hr => ?_,
    fun s u v hb hoff hmode hu => ?_, fun s hon hwait => ?_, fun s hwait => ?_, fun s hrun => ?_, fun s hrun => ?_,
    fun s hseen hlapse => ?_, fun s hst hg => ?_, fun s hg => ?_⟩
  · rw [exec_loadWrite_of_bar 0 v hb, State.loadWrite, if_neg (by decide), if_neg (not_not.2 hoff)]
  · rw [exec_loadWrite_of_bar 1 v hb, State.loadWrite, if_neg (by decide), if_neg (not_not.2 hoff)]
  · rw [exec_loadWrite_of_bar 2 v hb, State.loadWrite, if_neg (by decide), if_neg (not_not.2 hoff)]
  · rw [exec_loadWrite_of_bar r v hb]
    unfold State.loadWrite
    rw [if_neg (Nat.ne_of_lt hr), if_pos hoff]
  · subst hu
    rw [exec_loadWrite_of_bar 3 v hb]
    unfold State.loadWrite
    dsimp only
    rw [if_pos rfl, if_neg hoff, if_neg hmode]
  · change execTimeLoadAtPps s = _
    rw [execTimeLoadAtPps, hon, hwait]
    exact State.event_of _ rfl
  · change execTimeLoadAtPps s = _
    rw [execTimeLoadAtPps, hwait, State.event_of_not _ (Bool.and_false _)]
  · change execPpsInEdge s = _
    rw [execPpsInEdge, State.event_of _ hrun]
    rfl
  · change execPpsInEdge s = _
    rw [execPpsInEdge, State.event_of_not _ hrun]
  · change execPpsSeenLapse s = _
    rw [execPpsSeenLapse, hseen, decide_eq_true hlapse]
    exact State.event_of _ rfl
  · change execTimeStop s = _
    rw [execTimeStop, hst, hg]
    exact State.event_of _ rfl
  · change execTimeStop s = _
    rw [execTimeStop, hg, State.event_of_not _ (Bool.and_false _)]

/-! ## Compares (R72 to R76, R81, R87) -/

/-- A register of compare `n` that R81 does not bind at present takes a host write. -/
theorem State.cmpHost_free {n : Nat} (f : State → State) (hn : n < 15) (hfree : s.cmpBound n = false) : s.cmpHost n true f = f s := by
  rw [State.cmpHost, if_neg (by omega), if_neg (by omega), hfree, Bool.and_false, if_neg Bool.false_ne_true]

theorem State.cmpHost_bound {n : Nat} (f : State → State) (hn : n < 15) (hbound : s.cmpBound n = true) :
    s.cmpHost n true f = s.reason pTIME Cls.conflict 0x12 := by
  rw [State.cmpHost, if_neg (by omega), if_neg (by omega), hbound, Bool.and_self, if_pos rfl]

theorem exec_cmpArm_of_bar (n : Nat) (v : Word) (hb : s.bar pTIME = true) :
    exec (.cmpArm n v) s = .next (s.cmpHost n true fun s => s.cmpArmBy n v).cadenceStops :=
  State.onPage_of_bar (fun s => (State.cmpArm n v s).cadenceStops) hb

theorem exec_cmpBoundWrite_of_bar (n r : Nat) (v : Word) (hb : s.bar pTIME = true) :
    exec (.cmpBoundWrite n r v) s = .next (State.cmpRegWrite n r v s).cadenceStops :=
  State.onPage_of_bar (fun s => (State.cmpRegWrite n r v s).cadenceStops) hb

theorem exec_tgtWrite_of_bar (n : Nat) (v : Word) (hb : s.bar pTIME = true) :
    exec (.tgtWrite n v) s = .next (s.cmpHost n false fun s => s.tgtWriteBy n v) := State.onPage_of_bar _ hb

/-- CMP_CTRL takes its fields, and the arm that stood is gone. -/
def State.cmpDisarmed (s : State) (n : Nat) (v : Word) : State :=
  (s.setReg ((F.TIME.CMP_CTRL n).addr pTIME) (cmpCtrlFields v)).setCmp n { s.cmpOf n with fresh := false, late := none }

theorem State.cmpArmBy_disarm {n : Nat} {v : Word} (hv : v.toNat % 2 = 0) : s.cmpArmBy n v = s.cmpDisarmed n v := by
  rw [State.cmpArmBy]
  exact if_pos hv

theorem State.cmpArmBy_refused {n c d : Nat} {v : Word} (hv : v.toNat % 2 = 1) (h : (s.cmpDisarmed n v).armCheck n = some (c, d)) :
    s.cmpArmBy n v = (s.cmpDisarmed n v).refuse pTIME c d := by
  rw [State.cmpArmBy]
  dsimp only
  rw [if_neg (by omega), ← State.cmpDisarmed, h]

/-- An arm whose check passes: the next index of a periodic compare, or a one-shot compare to be looked at. -/
theorem State.cmpArmBy_armed {n : Nat} {v : Word} (hv : v.toNat % 2 = 1) (h : (s.cmpDisarmed n v).armCheck n = none) :
    s.cmpArmBy n v =
      if (s.cmpDisarmed n v).fld pTIME (F.TIME.CMP_CTRL_MODE n) = 1 then
        ((s.cmpDisarmed n v).setFld pTIME (F.TIME.CMP_CTRL_ARM n) 1).setCmp n
          { (s.cmpDisarmed n v).cmpOf n with index := (s.cmpDisarmed n v).firstIndex n }
      else ((s.cmpDisarmed n v).setFld pTIME (F.TIME.CMP_CTRL_ARM n) 1).setCmp n { (s.cmpDisarmed n v).cmpOf n with fresh := true } := by
  rw [State.cmpArmBy]
  dsimp only
  rw [if_neg (by omega), ← State.cmpDisarmed, h]

theorem exec_cmpArm_free {n : Nat} (v : Word) (hb : s.bar pTIME = true) (hn : n < 15) (hfree : s.cmpBound n = false) :
    exec (.cmpArm n v) s = .next (s.cmpArmBy n v).cadenceStops := by
  rw [exec_cmpArm_of_bar n v hb, State.cmpHost_free _ hn hfree]

/-- Settles O18: the writes of compare 15, of a bound compare and of a free one, then the fire. What a fire gives its action as its time
is the model's choice (log 253), and so is the next index of a compare whose rate is written while it is armed (log 254). -/
theorem comparesArmBindAndFire : Obligations.ComparesArmBindAndFire := by
  refine ⟨fun s v r hb => ?_, fun s n r v hb hn hbound => ?_, fun s n v hb hn hfree hv => ?_,
    fun s n c d v hb hn hfree hv hcheck => ?_, fun s n v hb hn hfree hv hcheck hmode => ?_, fun s n v hb hn hfree hv hcheck hmode => ?_,
    fun s n r v hb hn hfree hr => ?_, fun s n v hb hn => ?_, fun s n hn hrun harm hfresh hreach => ?_, fun s n h => ?_⟩
  · rw [exec_cmpArm_of_bar 15 v hb, exec_cmpBoundWrite_of_bar 15 r v hb, exec_tgtWrite_of_bar 15 v hb, State.cmpRegWrite,
      State.cmpHost_task, State.cmpHost_task, State.cmpHost_task]
    exact ⟨rfl, rfl, rfl⟩
  · rw [exec_cmpArm_of_bar n v hb, exec_cmpBoundWrite_of_bar n r v hb, State.cmpRegWrite, State.cmpHost_bound _ hn hbound,
      State.cmpHost_bound _ hn hbound]
    exact ⟨rfl, rfl⟩
  · rw [exec_cmpArm_free v hb hn hfree, State.cmpArmBy_disarm hv]
    rfl
  · rw [exec_cmpArm_free v hb hn hfree, State.cmpArmBy_refused hv hcheck]
    rfl
  · rw [← State.cmpDisarmed] at hmode
    rw [exec_cmpArm_free v hb hn hfree, State.cmpArmBy_armed hv hcheck, hmode, if_neg (by decide)]
    rfl
  · rw [← State.cmpDisarmed] at hmode
    rw [exec_cmpArm_free v hb hn hfree, State.cmpArmBy_armed hv hcheck, if_pos hmode]
    rfl
  · rw [exec_cmpBoundWrite_of_bar n r v hb, State.cmpRegWrite, State.cmpHost_free _ hn hfree]
    obtain rfl | rfl | rfl := hr <;> rfl
  · rw [exec_tgtWrite_of_bar n v hb, State.cmpHost_unbound _ hn]
    rfl
  · change execCompareFire n s = _
    rw [execCompareFire, State.event_of _ (by simp [hn, hrun, harm, hfresh, hreach])]
    simp only [beq_iff_eq]
  · change execCompareFire n s = _
    rw [execCompareFire, State.event_of_not]
    obtain h | h | h | h := h <;> simp [h]

/-! ## Captures (R67, R83, R84) -/

theorem exec_captureEdge_selected {n : Nat} {rising : Bool} (hn : n < 8) (hw : s.works pTIME = true)
    (hsel : edgeSelected (s.fld pTIME (F.TIME.CAP_CTRL_EDGE n)) rising = true) : exec (.captureEdge n rising) s =
      .next (if s.bit pTIME (F.TIME.CAP_CTRL_EN n) && s.running then
        if s.bit pTIME (F.TIME.CAP_STATUS_VALID n) then
          (((s.incFld pTIME (F.TIME.CAP_STATUS_EDGE_COUNT n)).setFld pTIME (F.TIME.CAP_STATUS_OVERRUN n) 1).err pTIME 0).raise pTIME
            F.TIME.intCAP_OVERRUN
        else
          ((((((s.incFld pTIME (F.TIME.CAP_STATUS_EDGE_COUNT n)).setFld pTIME (F.TIME.CAP_STATUS_VALID n) 1).setFld pTIME
            (F.TIME.CAP_STATUS_LAST_RISING n) rising.toNat).put64L pTIME (F.TIME.CAP_NS_LO n) (s.stamp / 2 ^ 24)).setLive
            ((F.TIME.CAP_FRAC n).addr pTIME) (BitVec.ofNat 32 (s.stamp % 2 ^ 24))).setFld pTIME (F.TIME.CAP_COMPAT n)
            (s.stamp / 2 ^ 24)).tookFree.raise pTIME F.TIME.intCAPTURED
        else s.incFld pTIME (F.TIME.CAP_STATUS_EDGE_COUNT n)) := by
  change execCaptureEdge n rising s = _
  rw [execCaptureEdge, hw, hsel, decide_eq_true hn]
  exact State.event_of _ rfl

/-- Settles O22: a selected edge is counted, then stamped, lost or neither by EN, RUNNING and VALID. -/
theorem capturesStampOnce : Obligations.CapturesStampOnce := by
  refine ⟨fun s n rising hn hw hsel hoff => ?_, fun s n rising hn hw hsel hen hrun hvalid => ?_,
    fun s n rising hn hw hsel hen hrun hvalid => ?_, fun s n rising hsel => ?_, fun s => ?_⟩
  · have hidle : (s.bit pTIME (F.TIME.CAP_CTRL_EN n) && s.running) = false := Bool.and_eq_false_iff.2 hoff
    rw [exec_captureEdge_selected hn hw hsel, hidle, if_neg Bool.false_ne_true]
  · rw [exec_captureEdge_selected hn hw hsel, hen, hrun, hvalid]
    rfl
  · rw [exec_captureEdge_selected hn hw hsel, hen, hrun, hvalid]
    rfl
  · change execCaptureEdge n rising s = _
    rw [execCaptureEdge, hsel, State.event_of_not _ (Bool.and_false _)]
  · have hfree : s.freeWord.toNat % (2 ^ 24 + 1) < 2 ^ 24 + 1 := Nat.mod_lt _ (Nat.succ_pos _)
    unfold State.stamp
    omega

end Sys2Proof.Machine

/-! SUPPORT. A stored Squeeze block and its map entry (R224 to R226), and the statement that they invert. -/

namespace Sys2Proof.Machine

/-! ## Lengths of payloads -/

/-- Fields whose widths follow the groups of 16: sixteen times the widths of the groups. -/
theorem sum_group_widths (f : Nat → Nat) : ((List.range 128).map fun k => f (k / 16)).sum = 16 * ((List.range 8).map f).sum := by
  simp only [List.range_succ, List.range_zero, List.nil_append, List.map_append, List.map_cons, List.map_nil, List.sum_append,
    List.sum_cons, List.sum_nil, Nat.reduceDiv]
  ring

/-- The width field takes 4 octets, and each group 2 for every bit of its width (R225). -/
theorem sqzPayload_length (us : List Nat) : (sqzPayload us).length = 4 + 2 * ((List.range 8).map (sqzWidth us)).sum := by
  have hws : ∀ k ∈ List.range 128, ((List.range 8).map (sqzWidth us)).getD (k / 16) 0 = sqzWidth us (k / 16) := fun k hk => by
    rw [List.mem_range] at hk
    rw [List.getD_eq_getElem _ _ (by simp; omega)]
    simp
  have hstream : (((List.range 128).map fun k => (us.getD k 0, ((List.range 8).map (sqzWidth us)).getD (k / 16) 0)).map
      (·.2)).sum = 16 * ((List.range 8).map (sqzWidth us)).sum := by
    rw [List.map_map, ← sum_group_widths, List.map_congr_left hws |>.symm]
    rfl
  unfold sqzPayload
  dsimp only
  rw [List.length_append, packBytes_length, packBytes_length, packBits_width, packBits_width, hstream]
  simp only [List.map_map, ceilDiv]
  have hhead : ((List.range 8).map ((fun f : Nat × Nat => f.2) ∘ (fun w => (w, 4)) ∘ sqzWidth us)).sum = 32 := by
    simp [Function.comp_def]
  rw [hhead]
  omega

theorem sqzRaw_length (xs : List Nat) : (sqzRaw xs).length = 160 := by
  rw [sqzRaw, packBytes_length, packBits_width, List.map_map]
  simp [Function.comp_def, ceilDiv]

/-! ## Map entries and sectors (R226) -/

theorem blockEntry_eq (raw : Bool) (b : Nat) (xs : List Nat) : blockEntry raw b xs =
    if raw then 3
    else if (if b = 0 then 16 else 0) + (4 + 2 * ((List.range 8).map (sqzWidth (sqzResiduals (decide (b ≥ 32)) xs))).sum) + 2 ≤ 64 then 1
    else if (if b = 0 then 16 else 0) + (4 + 2 * ((List.range 8).map (sqzWidth (sqzResiduals (decide (b ≥ 32)) xs))).sum) + 2 ≤ 128 then 2
    else 3 := by
  rw [blockEntry, sqzEntry, sqzPayload_length]

/-- A payload that is stored compressed fits the sectors of its entry. -/
theorem sqzEntry_fits {raw : Bool} {o len : Nat} (h : sqzEntry raw o len ≠ 3) : o + len + 2 ≤ 64 * sqzEntry raw o len := by
  unfold sqzEntry at h ⊢
  split_ifs at h ⊢ <;> omega

/-- The sectors of a block are as many octets as its entry says, where head and payload fit them. -/
theorem sqzSectors_length {entry : Nat} {head payload : List Byte} (h : head.length + payload.length + 2 ≤ 64 * entry) :
    (sqzSectors entry head payload).length = 64 * entry := by
  simp only [sqzSectors, List.length_append, List.length_replicate, leBytes_length]
  omega

/-- What follows the head is the payload, and then octets that decoding leaves alone. -/
theorem drop_sqzSectors (entry : Nat) (head payload : List Byte) :
    ∃ rest, (sqzSectors entry head payload).drop head.length = payload ++ rest := by
  simp only [sqzSectors, List.append_assoc, List.drop_left]
  exact ⟨_, rfl⟩

theorem head_length {b : Nat} {map : List Byte} (hm : map.length = 16) :
    (if b = 0 then map else []).length = if b = 0 then 16 else 0 := by
  split
  · exact hm
  · rfl

/-- Settles O56: a raw block is read back field by field, and a compressed one by its residuals. -/
theorem squeezeBlocksInvert : Obligations.SqueezeBlocksInvert := by
  refine ⟨fun raw b map xs hm hl hx => ?_, blockEntry_eq⟩
  obtain ⟨hlen, hrange⟩ := sqzResiduals_range (decide (b ≥ 32)) xs
  have hhead := head_length (b := b) hm
  by_cases h3 : blockEntry raw b xs = 3
  · obtain ⟨rest, hdrop⟩ := drop_sqzSectors (blockEntry raw b xs) (if b = 0 then map else []) (sqzRaw xs)
    rw [blockStored, if_pos h3]
    constructor
    · rw [blockSamples, if_pos h3, ← hhead, hdrop, unpackBits_sqzRaw hl hx]
    · refine sqzSectors_length ?_
      rw [hhead, sqzRaw_length, h3]
      split <;> omega
  · obtain ⟨rest, hdrop⟩ := drop_sqzSectors (blockEntry raw b xs) (if b = 0 then map else [])
      (sqzPayload (sqzResiduals (decide (b ≥ 32)) xs))
    rw [blockStored, if_neg h3]
    constructor
    · rw [blockSamples, if_neg h3, ← hhead, hdrop, sqzStream_payload hlen hrange, sqzSamples_residuals hl hx]
    · refine sqzSectors_length ?_
      rw [hhead]
      exact sqzEntry_fits h3

/-! ## Frames, blocks and the scrambler of the Rope link (R293 to R297) -/

theorem descramble_scramble (h ds : List Bool) : descramble h (scramble h ds) = ds := by
  induction ds generalizing h with
  | nil => rfl
  | cons d ds ih =>
    rw [scramble, descramble, ih]
    simp

/-- Two histories that agree in the last 58 bits descramble alike. -/
theorem descramble_congr {h k : List Bool} (hk : ∀ i, i < 58 → h.getD i false = k.getD i false) (ss : List Bool) :
    descramble h ss = descramble k ss := by
  induction ss generalizing h k with
  | nil => rfl
  | cons s ss ih =>
    rw [descramble, descramble, hk 38 (by omega), hk 57 (by omega), ih]
    intro i hi
    cases i with
    | zero => rfl
    | succ i => simpa using hk i (by omega)

/-- Histories that agree in the last `58 - n` bits descramble alike after `n` bits more. -/
theorem drop_descramble (n : Nat) {h k : List Bool} (hk : ∀ i, i + n < 58 → h.getD i false = k.getD i false) (ss : List Bool) :
    (descramble h ss).drop n = (descramble k ss).drop n := by
  induction n generalizing h k ss with
  | zero => rw [descramble_congr hk]
  | succ n ih =>
    cases ss with
    | nil => rfl
    | cons s ss =>
      rw [descramble, descramble, List.drop_succ_cons, List.drop_succ_cons]
      refine ih (fun i hi => ?_) ss
      cases i with
      | zero => rfl
      | succ i => simpa using hk i (by omega)

/-! Big-endian numbers -/

theorem beBytes_length (v n : Nat) : (beBytes v n).length = n := by
  induction n with
  | zero => rfl
  | succ n ih => rw [beBytes, List.length_cons, ih]

theorem beNat_beBytes (v n : Nat) : beNat (beBytes v n) = v % 256 ^ n := by
  have key : ∀ n acc, (beBytes v n).foldl (fun n b => n * 256 + b.toNat) acc = acc * 256 ^ n + v % 256 ^ n := by
    intro n
    induction n with
    | zero => intro acc; simp [beBytes, Nat.mod_one]
    | succ n ih =>
      intro acc
      rw [beBytes, List.foldl_cons, ih, Nat.mod_pow_succ, BitVec.toNat_ofNat]
      ring
  rw [beNat, key n 0, Nat.zero_mul, Nat.zero_add]

/-! The CRC of a frame -/

theorem reflectBits_lt (n x : Nat) : reflectBits x n < 2 ^ n := by
  induction n generalizing x with
  | zero => exact Nat.one_pos
  | succ n ih =>
    have hbit : x % 2 ≤ 1 := Nat.le_of_lt_succ (Nat.mod_lt _ (by decide))
    have := Nat.mul_le_mul_right (2 ^ n) hbit
    have := ih (x / 2)
    rw [reflectBits, Nat.pow_succ]
    omega

theorem crc32c_lt (bs : List Byte) : crc32c bs < 2 ^ 32 := by
  simp only [crc32c, checkValue, if_true]
  exact Nat.xor_lt_two_pow (reflectBits_lt 32 _) (by norm_num)

/-! Frames -/

/-- KIND, TYPE, SEQ, LENGTH and two zeros of a frame with a body of `len` octets (R297). -/
def frameHead (priority : Bool) (type seq len : Nat) : List Byte :=
  [if priority then 0x80#8 else 0#8, BitVec.ofNat 8 type] ++ beBytes seq 2 ++ beBytes len 2 ++ [0, 0]

theorem frameHead_length (priority : Bool) (type seq len : Nat) : (frameHead priority type seq len).length = 8 := rfl

theorem frameBytes_eq (priority : Bool) (type seq : Nat) (body : List Byte) : frameBytes priority type seq body =
    (frameHead priority type seq body.length ++ body) ++ beBytes (crc32c (frameHead priority type seq body.length ++ body)) 4 := rfl

theorem frameBytes_length (priority : Bool) (type seq : Nat) (body : List Byte) :
    (frameBytes priority type seq body).length = body.length + 12 := by
  rw [frameBytes_eq, List.length_append, List.length_append, beBytes_length, frameHead_length]
  omega

/-- LENGTH of a frame is read at octets 4 and 5, whatever follows. -/
theorem frameLength_frameBytes (priority : Bool) (type seq : Nat) {body : List Byte} (more : List Byte) (hb : body.length ≤ 1024) :
    beNat (((frameBytes priority type seq body ++ more).drop 4).take 2) = body.length := by
  have hfield : ((frameBytes priority type seq body ++ more).drop 4).take 2 = beBytes body.length 2 := rfl
  rw [hfield, beNat_beBytes, Nat.mod_eq_of_lt (by omega)]

theorem frameGood_frameBytes (priority : Bool) (type seq : Nat) {body : List Byte} (hb : body.length ≤ 1024) :
    frameGood (frameBytes priority type seq body) = true := by
  have hlen := frameLength_frameBytes priority type seq [] hb
  rw [List.append_nil] at hlen
  have hend : (frameBytes priority type seq body).length - 4 =
      (frameHead priority type seq body.length ++ body).length := by
    rw [frameBytes_length, List.length_append, frameHead_length]
    omega
  have hcrc : crc32c ((frameBytes priority type seq body).take ((frameBytes priority type seq body).length - 4)) =
      beNat ((frameBytes priority type seq body).drop ((frameBytes priority type seq body).length - 4)) := by
    rw [hend, frameBytes_eq, List.take_left, List.drop_left, beNat_beBytes, Nat.mod_eq_of_lt (lt_of_lt_of_eq (crc32c_lt _) (by norm_num))]
  rw [frameGood, hlen, hcrc, frameBytes_length]
  simp
  omega

theorem frameGood_append {priority : Bool} {type seq : Nat} {body more : List Byte} (hm : 0 < more.length) (hb : body.length ≤ 1024) :
    frameGood (frameBytes priority type seq body ++ more) = false := by
  have hne : (body.length + 12 == body.length + 12 + more.length) = false := beq_eq_false_iff_ne.2 (by omega)
  rw [frameGood, frameLength_frameBytes priority type seq more hb, List.length_append, frameBytes_length, hne, Bool.and_false,
    Bool.false_and, Bool.false_and]

/-- Eight octets a data block, and the rest in the TERM block. -/
theorem dataBlocks_length (n : Nat) {bs : List Byte} (h : bs.length / 8 ≤ n) : (dataBlocks n bs).length = bs.length / 8 + 1 := by
  induction n generalizing bs with
  | zero => rw [dataBlocks, Nat.le_zero.1 h]; rfl
  | succ n ih =>
    rw [dataBlocks]
    split
    · next hlt => rw [Nat.div_eq_of_lt hlt]; rfl
    · have hdrop : (bs.drop 8).length = bs.length - 8 := List.length_drop
      rw [List.length_cons, ih (by omega), hdrop]
      omega

/-- Settles O55: the scrambler and its history, then a frame's LENGTH, CRC and blocks. -/
theorem ropeLineCodingInverts : Obligations.RopeLineCodingInverts := by
  refine ⟨descramble_scramble, fun h k ds => ?_, fun priority type seq body hb => frameGood_frameBytes priority type seq hb,
    fun bs hl => ?_, fun priority type seq body more hm hb => frameGood_append hm hb⟩
  · rw [drop_descramble 58 (h := k) (k := h) (fun i hi => by omega), descramble_scramble]
  · rw [frameBlocks, List.length_cons, dataBlocks_length _ (by rw [List.length_drop]; omega), List.length_drop]

end Sys2Proof.Machine

/-! SUPPORT. The statements about the power governor and the memory channels (R374 to R388, R494 to R497). -/

namespace Sys2Proof.Machine

variable {s t : State} {p : Nat}

/-! ## What stays within one page -/

/-- From `s` to `t` nothing but page `p` and fields beside memory and the registers has changed. -/
structure State.WithinPage (p : Nat) (s t : State) : Prop where
  canonical : t.canonical = true
  mem : t.mem = s.mem
  regs : ∀ a, pageOf a ≠ p → t.reg a = s.reg a

theorem State.WithinPage.refl (h : s.canonical = true) : State.WithinPage p s s := ⟨h, rfl, fun _ _ => rfl⟩

theorem State.WithinPage.setFld {f : Fld} (v : Nat) (h : State.WithinPage p s t) (hf : f.off < 0x1000) :
    State.WithinPage p s (t.setFld p f v) where
  canonical := State.canonical_setFld p f v h.canonical
  mem := h.mem
  regs a ha := by
    have hne : a ≠ f.addr p := fun heq => ha (heq ▸ pageOf_page_add hf)
    rw [State.reg_setFld_other v h.canonical hne, h.regs a ha]

theorem State.WithinPage.raise (b : Nat) (h : State.WithinPage p s t) : State.WithinPage p s (t.raise p b) :=
  h.setFld 1 (f := ⟨0x20, b, 1⟩) (show 0x20 < 0x1000 by decide)

theorem State.WithinPage.err {k : Nat} (h : State.WithinPage p s t) (hk : 0x40 + 4 * k < 0x1000) : State.WithinPage p s (t.err p k) := by
  have hsat : State.WithinPage p s (t.addSat p ⟨0x40 + 4 * k, 0, 32⟩ 1) := h.setFld _ hk
  unfold State.err State.errBy
  dsimp only
  split
  · exact hsat.raise 6
  · exact hsat

theorem State.WithinPage.pwr (x : PwrState) (h : State.WithinPage p s t) : State.WithinPage p s { t with pwr := x } :=
  ⟨h.canonical, h.mem, h.regs⟩

theorem State.WithinPage.govShow (h : State.WithinPage pPWR s t) : State.WithinPage pPWR s t.govShow :=
  ((h.setFld _ (by decide)).setFld _ (by decide)).setFld _ (by decide)

theorem State.WithinPage.govStep (d : Nat) (up : Bool) (h : State.WithinPage pPWR s t) : State.WithinPage pPWR s (t.govStep d up) :=
  (h.setFld (f := warmBit d) _ (by simp [warmBit])).pwr _

/-! ## The governor (R494, R497) -/

/-- The guard of GOVERNOR_STAGE (R494). -/
theorem governorStage_guard (hw : s.works pPWR = true) (hclocks : s.watch.clocksStopped = false) (hleft : s.wakeLeft + s.coolLeft > 0)
    (hcycles : s.core ≥ s.pwr.lastStage + 60) : (s.works pPWR && !s.watch.clocksStopped && decide (s.wakeLeft + s.coolLeft > 0) &&
      decide (s.core ≥ s.pwr.lastStage + 60)) = true := by
  rw [hw, hclocks, decide_eq_true hleft, decide_eq_true hcycles]
  rfl

@[simp] theorem State.pwr_err (s : State) (p k : Nat) : (s.err p k).pwr = s.pwr := by
  unfold State.err State.errBy
  dsimp only
  split <;> rfl

/-- Domain `d` has taken its wake stage; the first stage of a staircase counts one (R494). -/
def State.wakeMoved (s : State) (d : Nat) : State :=
  let s1 := if s.pwr.waking then s else s.err pPWR 0
  { s1.govStep d true with pwr := { (s1.govStep d true).pwr with
      waking := true, cooling := false, firstStage := if s.pwr.waking then s.pwr.firstStage else s.core, lastStage := s.core } }

/-- With the last wake stage the staircase is done (R494). -/
def State.wakeShown (s u : State) : State :=
  if u.wakeLeft = 0 then
    { (u.raise pPWR F.PWR.intWAKE_DONE).setFld pPWR F.PWR.WAKE_LAST_NS
        ((s.core - (if s.pwr.waking then s.pwr.firstStage else s.core)) / 3 + 20) with pwr := { u.pwr with waking := false } }
  else u

/-- Domain `d` has taken its cooling stage. -/
def State.coolMoved (s : State) (d : Nat) : State :=
  { s.govStep d false with pwr := { (s.govStep d false).pwr with cooling := true, lastStage := s.core } }

def State.coolShown (u : State) : State :=
  if u.coolLeft = 0 then { u.raise pPWR F.PWR.intCOOLED with pwr := { u.pwr with cooling := false } } else u

theorem exec_governorStage_wakes {d : Nat} (hg : (s.works pPWR && !s.watch.clocksStopped && decide (s.wakeLeft + s.coolLeft > 0) &&
      decide (s.core ≥ s.pwr.lastStage + 60)) = true)
    (hwake : govDomains.find? (fun d => s.govWanted d && decide (s.govLevel d < govStages d)) = some d) :
    exec .governorStage s = .next (s.wakeShown (s.wakeMoved d)).govShow := by
  change execGovernorStage s = _
  rw [execGovernorStage, State.event_of _ hg, hwake]
  rfl

theorem exec_governorStage_cools {d : Nat} (hg : (s.works pPWR && !s.watch.clocksStopped && decide (s.wakeLeft + s.coolLeft > 0) &&
      decide (s.core ≥ s.pwr.lastStage + 60)) = true)
    (hwake : govDomains.find? (fun d => s.govWanted d && decide (s.govLevel d < govStages d)) = none)
    (hcool : govDomains.reverse.find? (fun d => !s.govWanted d && decide (0 < s.govLevel d)) = some d) :
    exec .governorStage s = .next (s.coolMoved d).coolShown.govShow := by
  change execGovernorStage s = _
  rw [execGovernorStage, State.event_of _ hg, hwake, hcool]
  rfl

theorem State.WithinPage.wakeMoved (d : Nat) (hs : s.canonical = true) : State.WithinPage pPWR s (s.wakeMoved d) := by
  have hfirst : State.WithinPage pPWR s (if s.pwr.waking then s else s.err pPWR 0) := by
    split
    · exact .refl hs
    · exact (State.WithinPage.refl hs).err (by decide)
  exact (hfirst.govStep d true).pwr _

theorem State.WithinPage.wakeShown {u : State} (h : State.WithinPage pPWR s u) : State.WithinPage pPWR s (s.wakeShown u) := by
  unfold State.wakeShown
  split
  · exact ((h.raise _).setFld _ (by decide)).pwr _
  · exact h

theorem State.WithinPage.coolShown {u : State} (h : State.WithinPage pPWR s u) : State.WithinPage pPWR s u.coolShown := by
  unfold State.coolShown
  split
  · exact (h.raise _).pwr _
  · exact h

/-- A wake stage raises the level of its domain, and withdraws no want. -/
theorem State.pwr_wakeMoved (s : State) (d : Nat) : (s.wakeMoved d).pwr.level = Tab.set 0 s.pwr.level d (s.govLevel d + 1) ∧
    (s.wakeMoved d).pwr.lastStage = s.core ∧ (s.wakeMoved d).pwr.want = s.pwr.want := by
  have hpwr : (if s.pwr.waking then s else s.err pPWR 0).pwr = s.pwr := by
    split
    · rfl
    · exact State.pwr_err s pPWR 0
  simp [State.wakeMoved, State.govStep, State.govLevel, hpwr]

theorem State.pwr_wakeShown (s u : State) : (s.wakeShown u).pwr.level = u.pwr.level ∧ (s.wakeShown u).pwr.lastStage = u.pwr.lastStage ∧
    (s.wakeShown u).pwr.want = u.pwr.want := by
  unfold State.wakeShown
  split <;> exact ⟨rfl, rfl, rfl⟩

theorem State.pwr_coolShown (u : State) : u.coolShown.pwr.level = u.pwr.level ∧ u.coolShown.pwr.lastStage = u.pwr.lastStage := by
  unfold State.coolShown
  split <;> exact ⟨rfl, rfl⟩

/-- Settles O8: a wake stage where one is due, else a cooling stage, and the end of the cool delay. -/
theorem governorStagesWakeAndCool : Obligations.GovernorStagesWakeAndCool := by
  refine ⟨fun s d hs hw hclocks hleft hcycles hwake => ?_, fun s d hs hw hclocks hleft hcycles hwake hcool => ?_,
    fun s t0 hw hidle hdelay hpic hhold => ?_⟩
  · have hpage := (State.WithinPage.wakeMoved d hs).wakeShown.govShow
    obtain ⟨hlevel, hlast, hwant⟩ := State.pwr_wakeMoved s d
    obtain ⟨hlevel', hlast', hwant'⟩ := State.pwr_wakeShown s (s.wakeMoved d)
    exact ⟨_, exec_governorStage_wakes (governorStage_guard hw hclocks hleft hcycles) hwake, hlevel'.trans hlevel, hlast'.trans hlast,
      hwant'.trans hwant, hpage.mem, hpage.regs⟩
  · have hpage := (((State.WithinPage.refl hs).govStep d false).pwr
      { (s.govStep d false).pwr with cooling := true, lastStage := s.core }).coolShown.govShow
    obtain ⟨hlevel, hlast⟩ := State.pwr_coolShown (s.coolMoved d)
    exact ⟨_, exec_governorStage_cools (governorStage_guard hw hclocks hleft hcycles) hwake hcool, hlevel, hlast, hpage.mem,
      hpage.regs⟩
  · change execCoolDelayExpiry s = _
    rw [execCoolDelayExpiry]
    simp only [hidle]
    exact State.event_of _ (by simp [hw, hpic, hhold, hdelay])

end Sys2Proof.Machine

/-! SUPPORT. The statements about the memory channels: refresh, temperature, re-reads, delays, probes and SHED (R374 to R388, R523). -/

namespace Sys2Proof.Machine

variable {s : State}

/-- Settles O9: each instant of a channel's controller, where it is due. The clause on REFRESH_ISSUE has no apply pending. -/
theorem memcRefreshAndTemperature : Obligations.MemcRefreshAndTemperature := by
  refine ⟨fun s n hn hw hdue => ?_, fun s n hn hw howed hidle happly hs => ?_, fun s n code hn hw hdue hcode => ?_,
    fun s n hn hw hdue hbad => ?_, fun s n hn hw hdue hlimit => ?_⟩
  · change execRefiExpiry n s = _
    rw [execRefiExpiry]
    exact State.event_of _ (by simp [hn, hw, hdue])
  · have hkeep : (s.setFld (pMEMC n) F.MEMC.MEMC_STATUS_OWED (s.fld (pMEMC n) F.MEMC.MEMC_STATUS_OWED - 1)).bit (pMEMC n)
        F.MEMC.MEMC_STATUS_APPLY_PENDING = false :=
      (congrArg (· == 1) (State.fld_setFld_apart (f := F.MEMC.MEMC_STATUS_OWED) (g := F.MEMC.MEMC_STATUS_APPLY_PENDING) _ hs
        (by decide) rfl (by decide))).trans happly
    change execRefreshIssue n s = _
    rw [execRefreshIssue]
    refine (State.event_of _ (by simp [hn, hw, howed, hidle])).trans ?_
    rw [State.refreshBoundary, hkeep]
    rfl
  · change execMr4Poll n code s = _
    rw [execMr4Poll, State.event_of _ (by simp [hn, hw, hdue])]
    simp only [if_neg hcode]
  · change execMr4Poll n 0 s = _
    rw [execMr4Poll, State.event_of _ (by simp [hn, hw, hdue])]
    simp [hbad]
  · change execRrWindowEnd n s = _
    rw [execRrWindowEnd]
    refine (State.event_of _ (by simp [hn, hw, hdue])).trans ?_
    dsimp only
    rw [if_neg (Nat.not_lt.2 hlimit)]

/-! ## Delays and probes (R375, R376) -/

theorem exec_applyDelays_of_bar {n : Nat} (hb : s.bar (pMEMC n) = true) (hn : n < 16) :
    exec (.applyDelays n) s = .next (s.applyDelays n) :=
  (State.onPage_of_bar _ hb).trans (congrArg Host.Outcome.next (if_pos hn))

/-- A stolen slot that reads, of a probe that nothing has aborted (R376). -/
theorem exec_stolenSlot_reads {n : Nat} (pass : Bool) (hn : n < 16) (hleft : (s.memcOf n).probeLeft > 0)
    (hdue : s.boot.ps ≥ (s.memcOf n).slotAt + s.fld (pMEMC n) F.MEMC.STEAL_CFG_STEAL_NS * 1000)
    (hread : s.bit (pMEMC n) F.MEMC.PROBE_CFG_DIR = false) (habort : (s.memcOf n).probeAbort = false) :
    exec (.stolenSlot n pass) s = .next
      (let s2 := (s.addSat (pMEMC n) (if pass then F.MEMC.PROBE_RESULT_PASS else F.MEMC.PROBE_RESULT_FAIL) 1).setMemc n
        { s.memcOf n with probeLeft := (s.memcOf n).probeLeft - 1, slotAt := s.boot.ps, probeWrote := false, probeAbort := false }
       if (s.memcOf n).probeLeft - 1 = 0 then (s2.raise (pMEMC n) F.MEMC.intPROBE_DONE).opEndOf (pMEMC n) 6 opCompleted else s2) := by
  change execStolenSlot n pass s = _
  rw [execStolenSlot]
  refine (State.event_of _ (by simp [hn, State.slotDue, hleft, hdue])).trans ?_
  simp only [hread, habort, Bool.false_and, Bool.false_eq_true, if_false]
  cases pass <;> rfl

/-- Settles O10: APPLY, PROBE_START, a slot in the midst of a probe and its last one, and SHED. -/
theorem memcDelaysAndProbes : Obligations.MemcDelaysAndProbes := by
  refine ⟨fun s n hn hb hrange hidle => ?_, fun s n hn hb hrange hbusy => ?_, fun s n hn hb hleft => ?_,
    fun s n pass hn hleft hdue hread habort => ?_, fun s n pass hn hleft hdue hread habort => ?_, fun s k v hk hb hok => ?_,
    fun s n k v hn hb => ?_⟩
  · rw [exec_applyDelays_of_bar hb hn, State.applyDelays, hrange, hidle]
    rfl
  · rw [exec_applyDelays_of_bar hb hn, State.applyDelays, hrange, hbusy, Bool.not_true,
      if_neg Bool.false_ne_true, if_pos rfl]
  · have hexec : exec (.probeStart n) s = .next (s.probeStart n) :=
      (State.onPage_of_bar _ hb).trans (congrArg Host.Outcome.next (if_pos hn))
    rw [hexec, State.probeStart, hleft]
    rfl
  · rw [exec_stolenSlot_reads pass hn (Nat.lt_of_succ_lt hleft) hdue hread habort]
    dsimp only
    rw [if_neg (by omega)]
  · rw [exec_stolenSlot_reads pass hn (by omega) hdue hread habort, hleft]
    rfl
  · change execShedWrite 0 k v s = _
    rw [execShedWrite, State.onPage_of_bar _ hb, if_neg (by simp [Nat.not_le.2 hk]), if_pos]
    exact List.all_eq_true.2 fun j hj => hok j (by simp at hj; omega)
  · change execShedWrite n k v s = _
    rw [execShedWrite, State.onPage_of_bar _ hb, if_pos (Or.inl hn)]

end Sys2Proof.Machine

/-! SUPPORT. The statements about the DMA rings (R444 to R452). -/

namespace Sys2Proof.Machine

variable {s : State} {r : Nat}

theorem exec_tailWrite_of_bar (v : Word) (l : List (Nat × List Byte)) (hb : s.bar (pDMA r) = true) : exec (.tailWrite r v l) s =
    .next (if sub32 v.toNat (s.fld (pDMA r) F.DMA.DONE) > s.ringSize r ∨ sub32 v.toNat (s.fld (pDMA r) F.DMA.DONE) <
        sub32 (s.fld (pDMA r) F.DMA.TAIL) (s.fld (pDMA r) F.DMA.DONE) then
      (l.foldl (fun t e => t.hostStore e.1 e.2) s).reason (pDMA r) Cls.range 0x11
      else (l.foldl (fun t e => t.hostStore e.1 e.2) s).setReg (F.DMA.TAIL.addr (pDMA r)) v) := by
  change execTailWrite r v l s = _
  rw [execTailWrite, State.onPage_of_bar _ hb]

/-! ## Descriptors of a host-to-device ring -/

/-- The oldest fetched descriptor leaves the ring. -/
def State.fetchedLess (s : State) (r : Nat) (l : List DmaDesc) : State := s.setRing r { s.ringOf r with fetched := l }

theorem dmaDescComplete_guard {d : DmaDesc} {l : List DmaDesc} (hw : s.works (pDMA r) = true) (hf : (s.ringOf r).fetched = d :: l) :
    (s.works (pDMA r) && !(s.ringOf r).fetched.isEmpty) = true := by
  rw [hw, hf]
  rfl

theorem exec_dmaDescComplete_invalid {d : DmaDesc} {l : List DmaDesc} (hw : s.works (pDMA r) = true)
    (hf : (s.ringOf r).fetched = d :: l) (hinv : d.invalid = true) : exec (.dmaDescComplete r) s =
      .next (((((s.fetchedLess r l).raise (pDMA r) F.DMA.intDESC_ERR).setRing r
        { ((s.fetchedLess r l).raise (pDMA r) F.DMA.intDESC_ERR).ringOf r with inRecord := true, discard := true, part := [] }).err
        (pDMA r) 1).complete r d.count d.sop d.eop 3 0 d.tag 0 d.irq) := by
  change execDmaDescComplete r s = _
  rw [execDmaDescComplete, State.event_of _ (dmaDescComplete_guard hw hf)]
  simp only [hf, hinv, if_true, State.fetchedLess]

/-- A good descriptor in the midst of a record joins its bytes to the part. -/
theorem exec_dmaDescComplete_middle {d : DmaDesc} {l : List DmaDesc} (hw : s.works (pDMA r) = true)
    (hf : (s.ringOf r).fetched = d :: l) (hinv : d.invalid = false) (herr : d.hostErr = false)
    (hrole : s.fld (pDMA r) F.DMA.RING_CFG_ROLE ≠ 3) (hsop : d.sop = false) (heop : d.eop = false)
    (hin : (s.ringOf r).inRecord = true) (hdisc : (s.ringOf r).discard = false) : exec (.dmaDescComplete r) s =
      .next (((s.fetchedLess r l).setRing r { (s.fetchedLess r l).ringOf r with
        inRecord := true, discard := false, part := (s.ringOf r).part ++ d.bytes, guarded := (s.ringOf r).guarded }).complete r
        d.count false false 0 d.len d.tag 0 d.irq) := by
  change execDmaDescComplete r s = _
  rw [execDmaDescComplete, State.event_of _ (dmaDescComplete_guard hw hf)]
  simp only [hf, hinv, herr, hrole, hsop, heop, hin, hdisc, Bool.false_eq_true, if_false, Bool.not_true, Bool.or_false, Bool.and_false,
    Bool.false_and, State.fetchedLess]

/-! ## Records of a device-to-host ring (R450) -/

theorem exec_recordOffer_taken (source : Nat) (rec : List Byte) (hr : r < 256)
    (hdir : toDevice (s.fld (pDMA r) F.DMA.RING_CFG_ROLE) = false) :
    exec (.recordOffer r source rec) s = .next (s.offer r source rec).1 := by
  change execRecordOffer r source rec s = _
  rw [execRecordOffer]
  exact State.event_of _ (by simp [hr, hdir])

theorem State.offer_of_off (source : Nat) (rec : List Byte) (hoff : s.isOn (pDMA r) = false) : s.offer r source rec = (s, false) := by
  rw [State.offer, hoff]
  rfl

/-- What the CHK unit on the path of a record makes of it (R402). -/
def State.checked (s : State) (r : Nat) (rec : List Byte) : State × List Byte :=
  match s.chkOf r with
  | some c => if s.fld (pDMA r) F.DMA.RING_CFG_ROLE = 8 then s.chkAppend c rec else (s, rec)
  | none => (s, rec)

theorem State.checked_of_none (rec : List Byte) (h : s.chkOf r = none) : s.checked r rec = (s, rec) := by
  rw [State.checked, h]

theorem State.checked_of_append {c : Nat} (rec : List Byte) (h : s.chkOf r = some c) (h8 : s.fld (pDMA r) F.DMA.RING_CFG_ROLE = 8) :
    s.checked r rec = s.chkAppend c rec := by
  rw [State.checked, h]
  exact if_pos h8

/-- A ring that is ON writes the record it has checked, or drops it for want of room (R450). -/
theorem State.offer_of_on (source : Nat) (rec : List Byte) (hon : s.isOn (pDMA r) = true) :
    s.offer r source rec =
      match (s.checked r rec).1.roomFor r (sub32 (s.fld (pDMA r) F.DMA.TAIL) (s.fld (pDMA r) F.DMA.HEAD))
        (s.checked r rec).2.length (s.fld (pDMA r) F.DMA.HEAD) with
      | some ds => ((s.checked r rec).1.fillBuffers r source true ds (s.checked r rec).2, true)
      | none => (if (s.checked r rec).2.length > s.ringSize r * 65536 then
          (((s.checked r rec).1.raise (pDMA r) F.DMA.intNO_ROOM).err (pDMA r) 0).raise (pDMA r) F.DMA.intTOO_LONG
        else ((s.checked r rec).1.raise (pDMA r) F.DMA.intNO_ROOM).err (pDMA r) 0, false) := by
  rw [State.offer, hon]
  rfl

theorem State.offer_of_room (source : Nat) {rec : List Byte} {ds : List DmaDesc} (hon : s.isOn (pDMA r) = true)
    (hroom : (s.checked r rec).1.roomFor r (sub32 (s.fld (pDMA r) F.DMA.TAIL) (s.fld (pDMA r) F.DMA.HEAD))
      (s.checked r rec).2.length (s.fld (pDMA r) F.DMA.HEAD) = some ds) :
    s.offer r source rec = ((s.checked r rec).1.fillBuffers r source true ds (s.checked r rec).2, true) := by
  simp only [State.offer_of_on source rec hon, hroom]

theorem State.offer_of_no_room (source : Nat) {rec : List Byte} (hon : s.isOn (pDMA r) = true)
    (hroom : (s.checked r rec).1.roomFor r (sub32 (s.fld (pDMA r) F.DMA.TAIL) (s.fld (pDMA r) F.DMA.HEAD))
      (s.checked r rec).2.length (s.fld (pDMA r) F.DMA.HEAD) = none) (hlen : (s.checked r rec).2.length ≤ s.ringSize r * 65536) :
    s.offer r source rec = (((s.checked r rec).1.raise (pDMA r) F.DMA.intNO_ROOM).err (pDMA r) 0, false) := by
  simp only [State.offer_of_on source rec hon, hroom, if_neg (Nat.not_lt.2 hlen)]

/-- Settles O12: TAIL, the fetch and the completion of a descriptor, the offer of a record, and the coalescing time-out. -/
theorem dmaRingsFetchCompleteAndOffer : Obligations.DmaRingsFetchCompleteAndOffer := by
  refine ⟨fun s r v hb hsize hforward => ?_, fun s r v l hb hsize => ?_, fun s r e hon hdir hahead hposted => ?_,
    fun s r d l hw hf hinv => exec_dmaDescComplete_invalid hw hf hinv,
    fun s r d l hw hf hinv herr hrole hsop heop hin hdisc => exec_dmaDescComplete_middle hw hf hinv herr hrole hsop heop hin hdisc,
    fun s r source rec hr hon hdir hchk hroom hlen => ?_, fun s r source rec ds hr hon hdir hchk hroom => ?_,
    fun s r source c rec ds hr hon hdir hchk h8 hroom => ?_, fun s r source rec h => ?_, fun s r source first d rec hinv => ?_,
    fun s r t0 hold hus hdue => ?_⟩
  · rw [exec_tailWrite_of_bar v [] hb, if_neg (not_or.2 ⟨Nat.not_lt.2 hsize, Nat.not_lt.2 hforward⟩)]
    rfl
  · rw [exec_tailWrite_of_bar v l hb, if_pos (Or.inl hsize)]
  · change execDescriptorFetch r e s = _
    rw [execDescriptorFetch]
    exact State.event_of _ (by simp [hon, hdir, hahead, hposted])
  · have hck := State.checked_of_none rec hchk
    rw [exec_recordOffer_taken source rec hr hdir, State.offer_of_no_room source hon (by rw [hck]; exact hroom) (by rw [hck]; exact hlen),
      hck]
  · have hck := State.checked_of_none rec hchk
    rw [exec_recordOffer_taken source rec hr hdir, State.offer_of_room source hon (by rw [hck]; exact hroom), hck]
  · have hck := State.checked_of_append rec hchk h8
    rw [exec_recordOffer_taken source rec hr hdir, State.offer_of_room source hon (by rw [hck]; exact hroom), hck]
  · change execRecordOffer r source rec s = _
    rw [execRecordOffer]
    obtain hdir | hoff := h
    · exact State.event_of_not _ (by simp [hdir])
    · rw [State.event]
      split
      · rw [State.offer_of_off source rec hoff]
      · rfl
  · unfold State.fillBuffers
    dsimp only
    rw [hinv, if_neg Bool.false_ne_true]
    rfl
  · change execCoalTimeout r s = _
    rw [execCoalTimeout]
    simp only [hold]
    exact State.event_of _ (by simp [hus, hdue])

end Sys2Proof.Machine

/-! SUPPORT. The statement about interrupt sources and targets (R406 to R414, R443). -/

namespace Sys2Proof.Machine

variable {s : State}

theorem exec_swSet_of_bar (n : Nat) (hb : s.bar pINTC = true) : exec (.swSet n) s = .next (s.swSet n) :=
  State.onPage_of_bar (State.swSet n) hb

theorem exec_swClr_of_bar (n : Nat) (hb : s.bar pINTC = true) : exec (.swClr n) s = .next (s.swClr n) :=
  State.onPage_of_bar (State.swClr n) hb

theorem isSoft_eq_false_of_page {n : Nat} (hn : n < 0x400) : isSoft n = false := by simp [isSoft, Nat.not_le.2 hn]

theorem exec_msixUnmask_of_bar {v : Nat} (e : Bool) (hb : s.bar pHOST = true) (hv : v < 64) :
    exec (.msixUnmask v e) s = .next (s.msixUnmask v e) :=
  (State.onPage_of_bar (fun s => if v < 64 then s.msixUnmask v e else s) hb).trans (by rw [if_pos hv])

theorem exec_eoi_of_access {t : Nat} (n : Nat) (ht : t < 73) (ha : s.bar pINTC = true ∨ 64 ≤ t) :
    exec (.eoi t n) s = .next (s.eoi t (n % 2048)) := by
  change execEoi t n s = _
  rw [execEoi, if_pos ⟨ht, ha⟩]

/-! ## Routing -/

/-- Raise target `g` again while a source is still COMMITTED to it (R410). -/
def State.raiseAgain (bad : List Nat) (s : State) (g : Nat) : State :=
  if !s.tgtRaised g && !(s.committedTo g).isEmpty then s.raiseTarget g bad else s

theorem State.committedTo_eq_nil (t : Nat) (h : ∀ m, m ∈ allSources → s.srcState m ≠ siCommitted) : s.committedTo t = [] :=
  List.filter_eq_nil_iff.2 fun m hm => by simp [h m hm]

theorem State.raiseAgain_of_none_committed (bad : List Nat) (g : Nat) (h : ∀ m, m ∈ allSources → s.srcState m ≠ siCommitted) :
    s.raiseAgain bad g = s := by
  rw [State.raiseAgain, State.committedTo_eq_nil g h]
  simp only [List.isEmpty_nil, Bool.not_true, Bool.and_false, Bool.false_eq_true, if_false]

theorem State.routeSome_one (bad : List Nat) (k : Nat) {n : Nat} (h : s.urgent s.routable = some n)
    (hnone : (s.routeOne bad n).urgent (s.routeOne bad n).routable = none) : s.routeSome bad (k + 2) = s.routeOne bad n := by
  simp only [State.routeSome, h, hnone]

/-- One FABRIC cycle of routing, past its guard. -/
theorem exec_intcRoute_of_works (bad : List Nat) (hw : s.works pINTC = true) (hr : s.intc.routedAt ≠ some s.fabric) :
    exec (.intcRoute bad) s = .next (((List.range 73).foldl (State.raiseAgain bad)
      { s with intc := { s.intc with routedAt := some s.fabric } }).routeSome bad 16) := by
  change execIntcRoute bad s = _
  rw [execIntcRoute]
  exact State.event_of _ (by simp [hw, hr])

/-- Settles O15: software sources, page lines, SRC_CTRL, a cycle of routing, EOI and the unmasking of a vector. That a second
INTC_ROUTE in one FABRIC cycle does nothing is the model's choice (log 298). -/
theorem interruptSourcesAndTargets : Obligations.InterruptSourcesAndTargets := by
  refine ⟨fun s n hb hsoft hidle => ?_, fun s n hb hsoft hpend => ?_, fun s n hb hpage => ?_, fun s p hp hw hline hclear hidle => ?_,
    fun s n v hb hn hsoft hoff hcom => ?_, fun s bad hrouted => ?_, fun s u bad n hw hrouted hnone hu hone hlast => ?_,
    fun s t n p rest ht ha hn hstack => ?_, fun s t n ht ha hstack => ?_, fun s u v e hb hv hu hquiet => ?_,
    fun s u v e hb hv hu hpend hopen => ?_⟩
  · rw [exec_swSet_of_bar n hb, State.swSet, if_pos hsoft, if_pos hidle]
  · rw [exec_swClr_of_bar n hb, State.swClr, if_pos hsoft, if_pos (Or.inl hpend)]
  · have hsoft := isSoft_eq_false_of_page hpage
    rw [exec_swSet_of_bar n hb, exec_swClr_of_bar n hb, State.swSet, State.swClr, hsoft, if_neg Bool.false_ne_true,
      if_neg Bool.false_ne_true, if_pos hpage]
    exact ⟨rfl, rfl⟩
  · change execPageLineChange p s = _
    rw [execPageLineChange]
    refine (State.event_of _ (by simp [hp, hw, hline, hclear])).trans ?_
    simp only [hline, hidle, if_true, Bool.toNat_true]
  · refine (State.onPage_of_bar (State.intcCtrlWrite n 0 v) hb).trans ?_
    rw [State.intcCtrlWrite, if_neg (by decide), if_pos ⟨hn, rfl⟩]
    simp only [State.srcCtrlWrite, hoff, hcom, hsoft, if_true]
  · change execIntcRoute bad s = _
    rw [execIntcRoute]
    exact State.event_of_not _ (by simp [hrouted])
  · have hnone' : ∀ m, m ∈ allSources → u.srcState m ≠ siCommitted := by
      rw [hu]
      exact hnone
    rw [exec_intcRoute_of_works bad hw hrouted, ← hu, foldl_eq_self _ fun g _ => State.raiseAgain_of_none_committed bad g hnone',
      State.routeSome_one bad 14 hone hlast]
  · rw [exec_eoi_of_access n ht ha, Nat.mod_eq_of_lt hn]
    simp only [State.eoi, hstack, if_true]
  · rw [exec_eoi_of_access n ht ha]
    simp only [State.eoi, hstack]
  · rw [exec_msixUnmask_of_bar e hb hv, State.msixUnmask, ← hu, State.msixLaunch]
    obtain hclear | hmasked := hquiet
    · simp [hclear]
    · simp [hmasked]
  · rw [exec_msixUnmask_of_bar e hb hv, State.msixUnmask, ← hu, State.msixLaunch]
    simp [hpend, hopen]

end Sys2Proof.Machine

/-! SUPPORT. The statement about the host link, the aperture and AER errors (R436 to R443). -/

namespace Sys2Proof.Machine

variable {s : State}

/-! ## What the lanes of the link leave unchanged -/

/-- Device memory, host memory and the page records. -/
def State.places (s : State) : Tab Byte × Tab Byte × Tab PageInfo := (s.mem, s.hostMem, s.pages)

@[simp] theorem State.places_setFld (p : Nat) (f : Fld) (v : Nat) : (s.setFld p f v).places = s.places := rfl
@[simp] theorem State.places_raise (p b : Nat) : (s.raise p b).places = s.places := rfl
@[simp] theorem State.places_clearRegs (p : Nat) (q : Nat → Bool) : (s.clearRegs p q).places = s.places := rfl
@[simp] theorem State.places_laneTo (p st : Nat) : (s.laneTo p st).places = s.places := rfl
@[simp] theorem State.places_tookFree : s.tookFree.places = s.places := rfl
@[simp] theorem State.places_put64L (p : Nat) (f : Fld) (v : Nat) : (s.put64L p f v).places = s.places := rfl

@[simp] theorem State.places_err (p k : Nat) : (s.err p k).places = s.places := by
  rw [State.err, State.errBy]
  split <;> rfl

@[simp] theorem State.places_logEv (page idx severity reason : Nat) (data : List (Nat × Nat)) :
    (s.logEv page idx severity reason data).places = s.places := by
  rw [State.logEv]
  split
  · rfl
  · simp [State.places]

@[simp] theorem State.places_eqReset (p : Nat) : (s.eqReset p).places = s.places := by
  simp only [State.eqReset, List.foldl_cons, List.foldl_nil]
  split <;> simp only [State.places_setFld]

@[simp] theorem State.places_laneAcquire (p : Nat) : (s.laneAcquire p).places = s.places := by simp [State.laneAcquire]

@[simp] theorem State.places_esRetrained (p : Nat) : (s.esRetrained p).places = s.places := by
  rw [State.esRetrained]
  split <;> simp

@[simp] theorem State.places_laneRetrain (p : Nat) : (s.laneRetrain p).places = s.places := by
  rw [State.laneRetrain]
  split <;> simp

@[simp] theorem State.places_laneTrain (p : Nat) : (s.laneTrain p).places = s.places := by
  rw [State.laneTrain]
  split <;> simp

@[simp] theorem State.places_hostLaneTrain (i : Nat) : (s.hostLaneTrain i).places = s.places := by
  rw [State.hostLaneTrain]
  split
  · rw [State.places_laneTrain]
    split <;> simp
  · rfl

@[simp] theorem State.places_hostTrains : s.hostTrains.places = s.places :=
  List.foldlRecOn (motive := fun t : State => t.places = s.places) (List.range 8) State.hostLaneTrain rfl
    fun _ ht i _ => (State.places_hostLaneTrain i).trans ht

/-! ## What a ring that goes OFF leaves unchanged -/

/-- Device memory and host memory. -/
def State.bytes (s : State) : Tab Byte × Tab Byte := (s.mem, s.hostMem)

@[simp] theorem State.bytes_setFld (p : Nat) (f : Fld) (v : Nat) : (s.setFld p f v).bytes = s.bytes := rfl
@[simp] theorem State.bytes_setRing (r : Nat) (q : RingState) : (s.setRing r q).bytes = s.bytes := rfl

@[simp] theorem State.bytes_opEnd (p k : Nat) : (s.opEnd p k).bytes = s.bytes := by
  rw [State.opEnd, State.opEndOf]
  split <;> split <;> rfl

@[simp] theorem State.bytes_toState (p st : Nat) : (s.toState p st).bytes = s.bytes := by
  rw [State.toState]
  split <;> rfl

@[simp] theorem State.bytes_toOffValues (p : Nat) : (s.toOffValues p).bytes = s.bytes := by
  rw [State.toOffValues]
  split
  · exact List.foldlRecOn (motive := fun t : State => t.bytes = s.bytes) _ _ rfl fun _ ht _ _ => ht
  · rfl

theorem State.bytes_ringOff (r : Nat) : (s.ringOff r).bytes = s.bytes := by
  rw [State.ringOff]
  split
  · simp only [State.bytes_setRing, State.bytes_toOffValues, State.bytes_setFld, State.bytes_toState]
    split <;> simp
  · rfl

theorem State.bytes_ringsOff : ((List.range 256).foldl (fun t r => t.ringOff r) s).bytes = s.bytes :=
  List.foldlRecOn (motive := fun t : State => t.bytes = s.bytes) (List.range 256) _ rfl
    fun _ ht r _ => (State.bytes_ringOff r).trans ht

/-! ## The link -/

/-- The link's registers and the MSI-X table forget what a link that is down does not keep (R439). -/
def State.linkForgotten (s : State) : State :=
  (((((s.clearRegs pHOST fun a => decide (0x400 ≤ offsetOf a) && decide (offsetOf a < 0x800)).setFld pHOST F.HOST.LINK_STATUS_SPEED 0).setFld
    pHOST F.HOST.LINK_STATUS_WIDTH 0).setFld pHOST F.HOST.LINK_STATUS_DL_UP 0).setFld pHOST F.HOST.LINK_STATUS_RETRAINING 0).setFld
    pHOST F.HOST.LANES_OK 0

theorem exec_pcieLinkDown : exec .pcieLinkDown s =
    .next (((((List.range 256).foldl (fun t r => t.ringOff r) s).linkForgotten.hostTrains.raise pHOST F.HOST.intLINK_DOWN).err pHOST 2).logEv
      pHOST F.HOST.intLINK_DOWN 4 0 []) := by
  change execPcieLinkDown s = _
  rw [execPcieLinkDown]
  unfold State.linkForgotten
  rfl

@[simp] theorem State.places_linkForgotten : s.linkForgotten.places = s.places := by simp [State.linkForgotten]

theorem exec_pcieLinkTrained_of_training {speed : Nat} (lanes : Nat) (ht : s.boot.pcieTraining = true) (hr : s.boot.rootHeld = false)
    (h1 : 1 ≤ speed) (h5 : speed ≤ 5) : exec (.pcieLinkTrained lanes speed) s =
      .next (let w := linkWidth (s.hostWorking lanes)
        let u := (List.range 8).foldl (fun t i => t.hostLaneTrained w (s.hostWorking lanes) i)
          (s.setFld pHOST F.HOST.LINK_STATUS_RETRAINING 0)
        if w = 0 then u else u.hostLinkAt w speed) := by
  change execPcieLinkTrained lanes speed s = _
  rw [execPcieLinkTrained]
  exact State.event_of _ (by simp [ht, hr, h1, h5])

theorem State.hostLaneTrained_of_works {i : Nat} (w lanes : Nat) (hw : s.hostLaneWorks i = true) : s.hostLaneTrained w lanes i =
    (if i < w then
      (if s.laneState (hostLane i) = laTrain then (s.ffeTrained (hostLane i) true).laneTrained (hostLane i) else s)
    else if s.laneState (hostLane i) = laTrain ∧ !hasLane lanes i then s.laneTrainFailed (hostLane i) true
    else s.laneTo (hostLane i) laFailed) := by
  rw [State.hostLaneTrained, hw, Bool.not_true, if_neg Bool.false_ne_true]

theorem State.devRead_of_ok {m a n : Nat} (h : s.readStatus m a n = .ok) : s.devRead m a n = (s, s.loadBytes a n, .ok) := by
  simp only [State.devRead, h]

theorem exec_bar2Access_read {a : Nat} (off len : Nat) (ha : s.addr36 pHOST F.HOST.APERTURE_BASE_LO + off = a) (hserved : s.served pHOST = true)
    (hok : s.readStatus mHOST_IN a len = .ok) :
    exec (.bar2Access off len none) s = .next { s with readData := leNat (s.loadBytes a len) } := by
  change execBar2Access off len none s = _
  simp only [execBar2Access, ha, hserved, if_true, State.devRead_of_ok hok]

theorem exec_apertureWrite_low (v : Word) (hb : s.bar pHOST = true) : exec (.apertureWrite false v) s =
    .next (if v.toNat % 2 ^ 28 = 0 then s.setReg (F.HOST.APERTURE_BASE_LO.addr pHOST) v else s.reason pHOST Cls.range 0x12) := by
  change execApertureWrite false v s = _
  rw [execApertureWrite, State.onPage_of_bar _ hb, if_neg Bool.false_ne_true]

/-- Settles O13: the link down, its retrain and its training, BAR2 and its aperture, and AER errors. That the ring pages in CHECKING, ON
or DRAINING are those that go OFF with the link, and that the messages launched as it comes up complete without error, are the model's
choices (log 296, log 298). -/
theorem hostLinkAndApertureCommands : Obligations.HostLinkAndApertureCommands := by
  refine ⟨fun s hb hidle => ?_, fun s hb hbusy => ?_, fun s u lanes speed w ht hr h1 h5 hw hu hzero => ?_,
    fun s u lanes speed w ht hr h1 h5 hw hu hup => ?_, fun s lanes speed h => ?_, fun s w lanes i hworks hi htrain => ?_,
    fun s w lanes i hworks hi htrain hlane => ?_, fun s u w speed hdl hwidth hspeed hu => ?_, fun s off len hserved hok => ?_,
    fun s off len bs hen => ?_, fun s v hb hbase => ?_, fun s v hb hbase => ?_, fun s => ⟨?_, ?_⟩, fun s => ?_⟩
  · change execHostRetrain s = _
    rw [execHostRetrain, State.onPage_of_bar _ hb, hidle, if_neg Bool.false_ne_true]
    rfl
  · change execHostRetrain s = _
    rw [execHostRetrain, State.onPage_of_bar _ hb, hbusy, if_pos rfl]
  · rw [exec_pcieLinkTrained_of_training lanes ht hr h1 h5]
    simp only [← hw, ← hu, if_pos hzero]
  · rw [exec_pcieLinkTrained_of_training lanes ht hr h1 h5]
    simp only [← hw, ← hu, if_neg hup]
  · change execPcieLinkTrained lanes speed s = _
    rw [execPcieLinkTrained]
    refine State.event_of_not _ ?_
    obtain h | h | h | h := h <;> simp [h]
  · rw [State.hostLaneTrained_of_works w lanes hworks, if_pos hi, if_pos htrain]
  · rw [State.hostLaneTrained_of_works w lanes hworks, if_neg (Nat.not_lt.2 hi), if_pos ⟨htrain, by rw [hlane]; rfl⟩]
  · simp only [State.hostLinkAt, hdl, hwidth, hspeed, bne_self_eq_false, Bool.false_and, Bool.or_self, Bool.false_eq_true, if_false, hu]
  · exact ⟨_, exec_bar2Access_read off len rfl hserved hok, rfl, rfl, rfl⟩
  · change execBar2Access off len (some bs) s = _
    simp only [execBar2Access, hen, Bool.and_false, Bool.false_eq_true, if_false]
  · rw [exec_apertureWrite_low v hb, if_pos hbase]
  · rw [exec_apertureWrite_low v hb, if_neg hbase]
  · change execAerError true s = _
    rw [execAerError, if_pos rfl]
  · change execAerError false s = _
    rw [execAerError, if_neg Bool.false_ne_true]
  · have hplaces : (((((List.range 256).foldl (fun t r => t.ringOff r) s).linkForgotten.hostTrains.raise pHOST F.HOST.intLINK_DOWN).err
        pHOST 2).logEv pHOST F.HOST.intLINK_DOWN 4 0 []).places = ((List.range 256).foldl (fun t r => t.ringOff r) s).places := by simp
    obtain ⟨hmem, hplaces⟩ := Prod.mk.inj hplaces
    obtain ⟨hhost, hpages⟩ := Prod.mk.inj hplaces
    obtain ⟨hmem', hhost'⟩ := Prod.mk.inj (State.bytes_ringsOff (s := s))
    exact ⟨_, exec_pcieLinkDown, hmem.trans hmem', hhost.trans hhost', hpages⟩

end Sys2Proof.Machine

/-! SUPPORT. The statements about page states: enable, stop, drain, boundaries, aborts, faults and shedding (R41 to R45, R27). -/

namespace Sys2Proof.Machine

variable {s : State} {p : Nat}

/-! ## PAGE_CTRL commands -/

theorem State.onCtrl_of_bar (f : State → State) (hb : s.bar p = true) (hu : (unitOf p).isSome = true) (ha : alwaysOn p = false) :
    s.onCtrl p f = .next (f s) := by
  rw [State.onCtrl, State.onPage_of_bar _ hb, hu, ha]
  rfl

/-- A register command whose effect leaves the state as it is changes nothing, whether or not its page answers. -/
theorem State.onPage_of_eq (f : State → State) (h : f s = s) : s.onPage p f = .next s := by
  rw [State.onPage, h, ite_self]

theorem State.onCtrl_of_eq (f : State → State) (h : f s = s) : s.onCtrl p f = .next s :=
  State.onPage_of_eq _ (by rw [h, ite_self])

/-- The code of an ENABLE_CHECK_COMPLETE. -/
def State.endCode (s : State) (p : Nat) (parityOk : Bool) : Nat :=
  if (s.page p).verdict = 0 ∧ unitAt p = .chmb ∧ !parityOk then reasonCode Cls.resource .chmb 0x0E else (s.page p).verdict

theorem exec_enableCheckComplete_eq (ok : Bool) : exec (.enableCheckComplete p ok) s =
    s.event (s.st p == stChecking && (s.endCode p ok != 0 || unitAt p != .dec || s.warm (20 + instanceOf p))) fun s' =>
      if s.endCode p ok = 0 then s'.checkPasses p else s'.checkRefuses p (s.endCode p ok) := rfl

theorem State.endCode_of_refused (ok : Bool) (h : (s.page p).verdict ≠ 0) : s.endCode p ok = (s.page p).verdict := by
  rw [State.endCode, if_neg fun hc => h hc.1]

theorem State.endCode_of_not_chmb (ok : Bool) (h : unitAt p ≠ .chmb) : s.endCode p ok = (s.page p).verdict := by
  rw [State.endCode, if_neg fun hc => h hc.2.1]

theorem State.endCode_of_parity (h0 : (s.page p).verdict = 0) (h : unitAt p = .chmb) :
    s.endCode p false = reasonCode Cls.resource .chmb 0x0E := by
  rw [State.endCode, if_pos ⟨h0, h, rfl⟩]

theorem exec_enableCheckComplete_refused {ok : Bool} {code : Nat} (hst : s.st p = stChecking) (hcode : s.endCode p ok = code)
    (h0 : code ≠ 0) : exec (.enableCheckComplete p ok) s = .next (s.checkRefuses p code) := by
  rw [exec_enableCheckComplete_eq, hcode]
  refine (State.event_of _ (by simp [hst, h0])).trans ?_
  rw [if_neg h0]

theorem exec_pageStop_of_bar (hb : s.bar p = true) (hu : (unitOf p).isSome = true) (ha : alwaysOn p = false) :
    exec (.pageStop p) s = .next (s.stopPage p) := State.onCtrl_of_bar (State.stopPage p) hb hu ha

theorem exec_pageDrain_of_bar (hb : s.bar p = true) (hu : (unitOf p).isSome = true) (ha : alwaysOn p = false) :
    exec (.pageDrain p) s = .next (s.drainPage p) := State.onCtrl_of_bar (State.drainPage p) hb hu ha

/-- A page in a state that DRAIN 1 takes out of service at once is not ON. -/
theorem ne_stOn_of_off_or_fault {k : Nat} (h : k = stOff ∨ k = stFault) : k ≠ stOn := by
  obtain rfl | rfl := h <;> decide

/-- Settles O23: ENABLE 1, the end of the check, ENABLE 0, DRAIN 1, DRAIN 0 and CLEAR_FAULT, each by the state of the page. That ENABLE
reads 0 after a fault and that an ignored write stores no ENABLE are the model's choices (log 83, log 84). -/
theorem pageStatesEnterAndLeaveOn : Obligations.PageStatesEnterAndLeaveOn := by
  refine ⟨fun s s1 p hb hu ha hst hs1 => ?_, fun s p hst => ?_, fun s p ok hst hv hchmb hdec => ?_, fun s p ok hst hv => ?_,
    fun s p hst hv hchmb => ?_, fun s p ok hv hdec hcold => ?_, fun s p hb hu ha hin hst hmemc => ?_, fun s p d hb hu ha hin => ?_,
    fun s p hb hu ha hin hst hmemc => ?_, fun s p hb hu ha hin hst => ?_, fun s p hs hu ha habs hst hmult => ?_,
    fun s p hmult hpic => ?_, fun s p hb hu ha hst => ?_, fun s p hst => ?_⟩
  · refine (State.onCtrl_of_bar (State.enablePage p) hb hu ha).trans ?_
    simp only [State.enablePage, hst, ne_eq, not_true, if_false, ← hs1]
  · exact State.onCtrl_of_eq (State.enablePage p) (by rw [State.enablePage, if_pos hst])
  · rw [exec_enableCheckComplete_eq, State.endCode_of_not_chmb ok hchmb]
    refine (State.event_of _ ?_).trans (by rw [if_pos hv]; rfl)
    obtain h | h := hdec <;> simp [hst, hv, h]
  · exact exec_enableCheckComplete_refused hst (State.endCode_of_refused ok hv) hv
  · exact exec_enableCheckComplete_refused hst (State.endCode_of_parity hv hchmb) (by decide)
  · rw [exec_enableCheckComplete_eq, State.endCode_of_not_chmb ok (by rw [hdec]; decide)]
    exact State.event_of_not _ (by simp [hv, hdec, hcold])
  · rw [exec_pageStop_of_bar hb hu ha, State.stopPage, hin]
    simp only [hst, ne_eq, not_true, if_false, if_neg hmemc, State.beginDrain]
  · rw [exec_pageStop_of_bar hb hu ha, exec_pageDrain_of_bar hb hu ha, State.stopPage, State.drainPage, hin]
    exact ⟨rfl, rfl⟩
  · rw [exec_pageDrain_of_bar hb hu ha, State.drainPage, hin]
    simp only [hst, if_true, if_neg hmemc, State.beginDrain]
  · rw [exec_pageDrain_of_bar hb hu ha, State.drainPage, hin]
    simp only [if_neg (ne_stOn_of_off_or_fault hst), if_pos hst]
  · change execDrainUndo p s = _
    have hundo : s.undoDrain p = (s.setFld p F.PAGE_CTRL_DRAIN 0).toState p stOff := if_pos ⟨hst, hmult⟩
    simp only [execDrainUndo, hs, hu, ha, habs, hundo, beq_self_eq_true, Bool.not_false, Bool.and_self, if_true]
  · change execDrainUndo p s = _
    have hundo : s.undoDrain p = s := if_neg fun h => h.2 ⟨hmult, hpic⟩
    rw [execDrainUndo, hundo, ite_self]
  · refine (State.onCtrl_of_bar (State.clearFault p) hb hu ha).trans ?_
    rw [State.clearFault, if_pos hst]
  · exact State.onCtrl_of_eq (State.clearFault p) (by rw [State.clearFault, if_neg hst])

/-! ## Boundaries, aborts, faults, shedding -/

theorem State.unitFault_of_plain (htsch : unitAt p ≠ .tsch) (htask : unitAt p ≠ .task) (heth : unitAt p ≠ .eth) :
    s.unitFault p = ((s.unitStops p).enterFault p 0x0E).pageStopped p := by
  unfold State.unitFault
  simp only [if_neg htsch, beq_eq_false_iff_ne.2 heth, Bool.false_and, Bool.false_eq_true, if_false]
  split
  · next h => exact absurd (by rw [unitAt, h]; rfl) htsch
  · next h => exact absurd (by rw [unitAt, h]; rfl) htask
  · rfl

/-- Settles O24: a draining page at its boundary, aborts by the operation that runs, a unit fault, and the shedding of one page, whose
instant is the model's choice (log 88, log 138). -/
theorem pagesDrainFaultAndShed : Obligations.PagesDrainFaultAndShed := by
  refine ⟨fun s p hu hst hapart hdue => ?_, fun s p hst => ⟨?_, ?_, ?_⟩, fun s p hunit hst hcycle => ?_, fun s p hcad hat => ?_,
    fun s p hunit hst hfed hcycle => ?_, fun s p hfed => ?_, fun s p hkind => ?_, fun s p hb hu ha hkind hres hst => ?_,
    fun s p hb hu ha hkind hres hst hmemc hchmb => ?_, fun s p hb hu ha hkind habort hres hat => ?_,
    fun s p hu ha hchmb hmemc htsch htask heth huse habs => ?_, fun s p huse => ?_, fun s p hover hfind hdue => ?_, fun s hover => ?_⟩
  · change execNextBoundaryReached p s = _
    rw [execNextBoundaryReached]
    exact State.event_of _ (by simp [hu, hst, hapart, hdue])
  · change execNextBoundaryReached p s = _
    rw [execNextBoundaryReached]
    exact State.event_of_not _ (by simp [hst])
  · change execInputPageLeave p s = _
    rw [execInputPageLeave]
    exact State.event_of_not _ (by simp [hst])
  · change execFeederDrainEnd p s = _
    rw [execFeederDrainEnd]
    exact State.event_of_not _ (by simp [hst])
  · change execInputPageLeave p s = _
    rw [execInputPageLeave]
    refine State.event_of _ ?_
    obtain h | h := hunit <;> simp [h, hst, hcycle]
  · change execInputPageLeave p s = _
    rw [execInputPageLeave]
    exact State.event_of_not _ (by simp [State.cycleSince, hcad, hat])
  · change execFeederDrainEnd p s = _
    rw [execFeederDrainEnd]
    refine State.event_of _ ?_
    obtain h | h := hunit <;> obtain h' | h' := hcycle <;> simp [h, h', hst, hfed]
  · change execFeederDrainEnd p s = _
    rw [execFeederDrainEnd]
    exact State.event_of_not _ (by simp [hfed])
  · exact State.onCtrl_of_eq (State.abortPage p) (by simp only [State.abortPage, hkind, if_true])
  · refine (State.onCtrl_of_bar (State.abortPage p) hb hu ha).trans ?_
    simp only [State.abortPage, hkind, hres, hst, ne_eq, not_true, if_false, if_true, if_neg Nat.one_ne_zero, State.abortCheck]
  · refine (State.onCtrl_of_bar (State.abortPage p) hb hu ha).trans ?_
    obtain h | h := hkind <;> simp [State.abortPage, h, hres, hst, hmemc, hchmb, State.abortDrain]
  · refine (State.onCtrl_of_bar (State.abortPage p) hb hu ha).trans ?_
    simp only [State.abortPage, if_neg hkind, if_pos hres, if_pos (And.intro habort hat), State.lateAbort]
  · change execUnitFaultDetected p s = _
    rw [execUnitFaultDetected]
    exact (State.event_of _ (by simp [hu, ha, hchmb, hmemc, huse, habs])).trans (by rw [State.unitFault_of_plain htsch htask heth])
  · change execUnitFaultDetected p s = _
    rw [execUnitFaultDetected]
    exact State.event_of_not _ (by simp [huse])
  · have hvictim : s.shedVictim = some p := by rw [State.shedVictim, if_pos hover, hfind]
    change execShed s = _
    rw [execShed, hvictim]
    exact (State.event_of _ hdue).trans (by rw [hvictim])
  · have hvictim : s.shedVictim = none := by rw [State.shedVictim, hover, if_neg Bool.false_ne_true]
    change execShed s = _
    rw [execShed, hvictim]
    exact State.event_of_not _ rfl

end Sys2Proof.Machine

/-! SUPPORT. The statements about register writes by access code and about commits (R6, R33, R35, R47 to R56, R82, R289). -/

namespace Sys2Proof.Machine

variable {s : State} {p g : Nat}

/-! ## Register writes -/

/-- An aligned write of the common header of a page that answers. -/
theorem exec_registerWrite_header {o : Nat} (v : Word) (hb : s.bar p = true) (hoos : s.outOfService p = false)
    (hu : (unitOf p).isSome = true) (ho : o < 0x100) (ha : o % 4 = 0) :
    exec (.registerWrite (p * 0x1000 + o) v) s = .next (s.headerWrite p o v) := by
  have hpage : o < 0x1000 := by omega
  have hal : (p * 0x1000 + o) % 4 = 0 := by omega
  rw [execRegisterWrite_eq]
  simp [State.busWrite, pageOf_page_add hpage, offsetOf_page_add hpage, hal, hoos, hb, Option.isSome_iff_ne_none.1 hu, ho]

/-- ERR_COUNTk is cleared where written 1 (R6). -/
theorem State.headerWrite_errCount {k : Nat} (v : Word) (hk : k < 8) : s.headerWrite p (0x40 + 4 * k) v =
    s.setReg (p * 0x1000 + 0x40 + 4 * k) (s.reg (p * 0x1000 + 0x40 + 4 * k) &&& ~~~ v) := by
  have hlow : ∀ o, o < 0x40 → ¬ (0x40 + 4 * k = o) := fun o ho => by omega
  rw [State.headerWrite, if_neg (hlow _ (by decide)), if_neg (hlow _ (by decide)), if_neg (hlow _ (by decide)),
    if_neg (hlow _ (by decide)), if_neg (hlow _ (by decide)), if_neg (hlow _ (by decide)), if_pos (by omega), ← Nat.add_assoc]

/-- Settles O28: writes that no page takes, the registers of the common header by their access codes, and the shadow copy. -/
theorem registerWritesFollowAccessCodes : Obligations.RegisterWritesFollowAccessCodes := by
  refine ⟨fun s a v hb hoos => ?_, fun s p v hb hoos hu => ?_, fun s p v hb hoos hu => ?_, fun s p k v hb hoos hu hk => ?_,
    fun s p o v hb hoos hu ho => ?_, fun s p o v r hb ho hrow hsh hpend => ?_, fun s p o v r hrow hsh => ?_⟩
  · rw [execRegisterWrite_eq]
    simp [State.busWrite, hoos, hb]
  · rw [exec_registerWrite_header v hb hoos hu (by decide) (by decide)]
    rfl
  · rw [exec_registerWrite_header v hb hoos hu (by decide) (by decide)]
    rfl
  · rw [Nat.add_assoc, exec_registerWrite_header v hb hoos hu (by omega) (by omega), State.headerWrite_errCount v hk, ← Nat.add_assoc]
  · obtain rfl | rfl | rfl := ho <;> rw [exec_registerWrite_header v hb hoos hu (by decide) (by decide)] <;> rfl
  · change execShadowWrite p o v s = _
    rw [execShadowWrite, State.onPage_of_bar _ hb]
    simp [hrow, hsh, ho, State.shadowWrite, pageOf_page_add ho, hpend]
  · change execShadowWrite p o v s = _
    rw [execShadowWrite, State.onPage_of_eq _ (by simp [hrow, hsh])]

/-! ## Requests and aborts of commits -/

theorem State.onHeader_of_eq (f : State → State) (h : f s = s) : s.onHeader p f = .next s :=
  State.onPage_of_eq _ (by rw [h, ite_self])

/-- A mask of one group names that group. -/
theorem groupsOf_single (hg : g < 8) : (List.range 8).filter (fun i => 2 ^ g / 2 ^ i % 2 == 1) = [g] := by
  interval_cases g <;> decide

theorem exec_groupCommitReq_of_bar {mask : Nat} (hb : s.bar pSYS = true) (hm : mask % 256 = 2 ^ g) :
    exec (.groupCommitReq mask) s = .next (s.groupCommitReq (2 ^ g)) := by
  rw [← hm]
  exact State.onPage_of_bar (State.groupCommitReq (mask % 256)) hb

theorem exec_commitAbortGroup_of_bar {mask : Nat} (hb : s.bar pSYS = true) (hg : g < 8) (hm : mask % 256 = 2 ^ g) :
    exec (.commitAbortGroup mask) s = .next (s.abortCommit g) := by
  refine (State.onPage_of_bar (State.abortGroups (mask % 256)) hb).trans ?_
  rw [hm, State.abortGroups, groupsOf_single hg, List.foldl_cons, List.foldl_nil]

/-- The abort of a captured commit while no request waits (R55, R56). -/
theorem State.abortCommit_of_inProgress (hp : s.inProgress g = true) (hr : (s.commitOf g).requested = false) : s.abortCommit g =
    (((s.commitOf g).pages.foldl (fun t p => t.pageDone p 4 opAborted) s).termsBack (s.commitOf g).old).commitResult g 3 := by
  simp only [State.abortCommit, hp, hr, if_true, Bool.false_eq_true, if_false]

/-- Settles O30: arming and its withdrawal, a group request with and without its cadence, a device request, and aborts. That a device
request made while one is in progress waits is the model's choice (log 71). -/
theorem commitsAreRequestedAndWithdrawn : Obligations.CommitsAreRequestedAndWithdrawn := by
  refine ⟨fun s p hb hu hlo hhi => ?_, fun s p hb hu hg => ?_, fun s p hpend => ⟨?_, ?_⟩, fun s p hb hu hpend => ⟨?_, ?_⟩,
    fun s g mask hb hg hm hcad hpair => ?_, fun s g mask hb hg hm hcad hpair => ?_, fun s hb hp => ?_, fun s hb hp => ?_,
    fun s hb hp hr => ?_, fun s g mask hb hg hm hp hr => ?_, fun s g mask hb hg hm hp hr hres hat => ?_⟩
  · exact (State.onHeader_of_bar (State.arm p) hb hu).trans (by rw [State.arm, if_pos ⟨hlo, hhi⟩])
  · exact (State.onHeader_of_bar (State.arm p) hb hu).trans (by rw [State.arm, if_neg (by omega)])
  · exact State.onHeader_of_eq (State.disarm p) (by rw [State.disarm, if_pos hpend])
  · exact State.onHeader_of_eq (State.discard p) (by rw [State.discard, if_pos hpend])
  · exact (State.onHeader_of_bar (State.disarm p) hb hu).trans (by rw [State.disarm, hpend, if_neg Bool.false_ne_true])
  · exact (State.onHeader_of_bar (State.discard p) hb hu).trans (by rw [State.discard, hpend, if_neg Bool.false_ne_true])
  · rw [exec_groupCommitReq_of_bar hb hm]
    simp [State.groupCommitReq, groupsOf_single hg, hcad, hpair]
  · rw [exec_groupCommitReq_of_bar hb hm]
    simp [State.groupCommitReq, groupsOf_single hg, hcad, hpair]
  · exact (State.onPage_of_bar State.deviceCommitReq hb).trans (by rw [State.deviceCommitReq, hp, if_neg Bool.false_ne_true])
  · exact (State.onPage_of_bar State.deviceCommitReq hb).trans (by rw [State.deviceCommitReq, if_pos hp])
  · exact (State.onPage_of_bar (fun s => s.abortCommit 8) hb).trans (by rw [State.abortCommit_of_inProgress hp hr])
  · rw [exec_commitAbortGroup_of_bar hb hg hm, State.abortCommit_of_inProgress hp hr]
  · rw [exec_commitAbortGroup_of_bar hb hg hm]
    simp only [State.abortCommit, hp, hr, Bool.false_eq_true, if_false, if_pos (And.intro hres hat)]

/-! ## Cut-off, check, verdicts and application -/

/-- A pair message in sequence acts on the state that has taken its frame (R263, R299). -/
theorem State.pairMsg_next {u : State} {seq : Nat} (f : State → State) (hl : s.link = 4 ∨ s.link = 5)
    (hseq : seq = s.fld pROPE F.ROPE.SEQ_STATUS_RX_NEXT) (hu : u = s.ropeTook seq) (hon : u.pairOn = true) : s.pairMsg seq f = f u := by
  rw [State.pairMsg, hseq, State.ropeAccept_next _ hl, ← hseq, ← hu, hon, if_pos rfl]

/-- A check that passes while no peer takes part waits for its boundary; one that fails is refused (R52). -/
theorem exec_commitCheckEnd_unpaired (hg : g < 8) (hp : s.inProgress g = true) (hopen : (s.commitOf g).passed = false)
    (hpair : (s.commitOf g).paired = false) : exec (.commitCheckEnd g) s =
      .next (if (s.commitOf g).codes.isEmpty then s.setCommit g { s.commitOf g with passed := true }
        else s.refuseCommit g (s.commitOf g).codes) := by
  have hverdict : s.sendVerdict g (s.commitOf g).codes.isEmpty = s := by
    simp only [State.sendVerdict, hpair, Bool.false_eq_true, false_and, if_false]
  change execCommitCheckEnd g s = _
  rw [execCommitCheckEnd]
  refine (State.event_of _ (by simp [hg, hp, hopen])).trans ?_
  simp only [State.commitChecked, hverdict]

theorem exec_deviceCommitComplete_of_inProgress (hp : s.inProgress 8 = true) : exec .deviceCommitComplete s =
    .next (if (s.commitOf 8).codes.isEmpty then s.applyCommit 8 0 s.nowPs else s.refuseCommit 8 (s.commitOf 8).codes).deviceNext := by
  change execDeviceCommitComplete s = _
  rw [execDeviceCommitComplete]
  exact State.event_of _ hp

/-- Settles O31: the cut-off, the end of a check, the device commit, the peer's messages in sequence and the verdict's deadline. A
request that waits for the device commit, one without a cadence and the page that a peer's refusal names are log 71, 76 and 77. -/
theorem commitsAreCapturedCheckedAndDecided : Obligations.CommitsAreCapturedCheckedAndDecided := by
  refine ⟨fun s g m f hg hcad hnext hcut hdue => ?_, fun s g m f hnext hwait => ?_, fun s g hg hp hopen hpair hcodes => ?_,
    fun s g l hg hp hopen hpair hcodes hl => ?_, fun s hp hcodes => ?_, fun s l hp hcodes hl => ?_,
    fun s u seq l hlink hseq hu hon => ?_, fun s u seq g b digest pass hlink hseq hu hon hg htime => ?_,
    fun s u seq g m l hlink hseq hu hon hg => ?_, fun s g c d hg hp hpass hfault hdue => ?_, fun s g hfault => ?_⟩
  · change execCommitCutoff g s = _
    rw [execCommitCutoff]
    exact (State.event_of _ (by simp [hg, hcad, hnext, hcut]; omega)).trans (by simp only [hnext])
  · change execCommitCutoff g s = _
    rw [execCommitCutoff]
    refine State.event_of_not _ ?_
    obtain h | h := hwait
    · simp [hnext, Int.not_le.2 h]
    · simp [hnext, h]
  · rw [exec_commitCheckEnd_unpaired hg hp hopen hpair, hcodes]
    rfl
  · rw [exec_commitCheckEnd_unpaired hg hp hopen hpair, hcodes, if_neg (by simpa using hl)]
  · rw [exec_deviceCommitComplete_of_inProgress hp, hcodes]
    rfl
  · rw [exec_deviceCommitComplete_of_inProgress hp, hcodes, if_neg (by simpa using hl)]
  · exact congrArg Host.Outcome.next (State.pairMsg_next _ hlink hseq hu hon)
  · refine (congrArg Host.Outcome.next (State.pairMsg_next _ hlink hseq hu hon)).trans ?_
    have hintime : (u.inProgress g && (u.commitOf g).boundary == b && decide (u.in300 > u.fireNs g b * 2 ^ 24)) = false := by
      obtain h | h | h := htime
      · rw [h, Bool.false_and, Bool.false_and]
      · rw [beq_eq_false_iff_ne.2 h, Bool.and_false, Bool.false_and]
      · rw [decide_eq_false (Nat.not_lt.2 h), Bool.and_false]
    simp only [hintime, hg, Bool.not_false, and_self, if_true]
  · refine (congrArg Host.Outcome.next (State.pairMsg_next _ hlink hseq hu hon)).trans ?_
    simp only [hg, if_true]
  · change execVerdictDeadline g s = _
    rw [execVerdictDeadline]
    refine (State.event_of _ ?_).trans (by simp only [hfault, State.peerRefuses])
    rw [hfault, hpass, hp, decide_eq_true hg, decide_eq_true hdue]
    rfl
  · change execVerdictDeadline g s = _
    rw [execVerdictDeadline]
    exact State.event_of_not _ (by simp [hfault])

end Sys2Proof.Machine

/-! SUPPORT. The statements about the states of the Rope link, its lanes and their progress (R293 to R315). -/

namespace Sys2Proof.Machine

variable {s : State} {i : Nat}

/-! ## LINK -/

theorem State.linkActive_of_link_ne (h : s.link ≠ 5) : s.linkActive = false := beq_eq_false_iff_ne.2 h

/-- TRAIN ends with the lanes that have completed. -/
theorem exec_trainMsExpiry_trained (hlink : s.link = 2)
    (hdue : (s.ropeTrained = s.ropeUsable ∧ s.ropeUsable ≠ 0) ∨ s.fabric ≥ s.rope.linkAt + s.rp F.ROPE.ROPE_CFG_TRAIN_MS * 1500000 ∧
      lanes4 s.ropeTrained ≥ s.rp F.ROPE.ROPE_CFG_MIN_LANES) : exec .trainMsExpiry s =
    .next (let u := (((s.linkTo 3).setFld pROPE F.ROPE.ROPE_STATUS_RX_MASK s.ropeTrained).setFld pROPE
        F.ROPE.ROPE_STATUS_PEER_RX_MASK s.ropeTrained).masks
      { u with rope := { u.rope with beatAt := s.fabric, laneBeat := (List.range 4).map fun i => (i, s.fabric), amDue := true } }) := by
  change execTrainMsExpiry s = _
  rw [execTrainMsExpiry]
  obtain ⟨hall, h0⟩ | ⟨htime, hmin⟩ := hdue
  · exact (State.event_of _ (by simp [hlink, hall, h0])).trans (by rw [if_pos (Or.inl (by simp [hall, h0]))])
  · exact (State.event_of _ (by simp [hlink, htime])).trans (by rw [if_pos (Or.inr hmin)])

/-- What CAPS tells of the peer (R314). -/
def State.peerCaps (s : State) (version member stepping lanes minLanes window : Nat) : State :=
  (((((s.setFld pROPE F.ROPE.PEER_CAPS0_VERSION version).setFld pROPE F.ROPE.PEER_CAPS0_MEMBER member).setFld pROPE
    F.ROPE.PEER_CAPS1_STEPPING stepping).setFld pROPE F.ROPE.PEER_CAPS1_LANES lanes).setFld pROPE
    F.ROPE.PEER_CAPS1_MIN_LANES minLanes).setFld pROPE F.ROPE.PEER_CAPS1_WINDOW window

/-- What the peer's VERSION makes of the link (R313, R314). -/
def State.capsTaken (s : State) (version window next : Nat) : State :=
  if version = 1 then
    ({ s with rope := { s.rope with capsGot := true, window := min 256 window } }.ropeRelease next).exchanged
  else
    let u := (s.linkDown.raise pROPE F.ROPE.intPEER_VERSION).reason pROPE Cls.dependency 0x11
    { u with rope := { u.rope with versionHeld := true } }

theorem exec_caps_eq (seq version member stepping lanes minLanes window next : Nat) :
    exec (.caps seq version member stepping lanes minLanes window next) s = .next (s.ropeAccept seq fun t =>
      (t.peerCaps version member stepping lanes minLanes window).capsTaken version window next) := rfl

theorem exec_caps_next {seq : Nat} (version member stepping lanes minLanes window next : Nat) (hl : s.link = 4 ∨ s.link = 5)
    (hseq : seq = s.fld pROPE F.ROPE.SEQ_STATUS_RX_NEXT) :
    exec (.caps seq version member stepping lanes minLanes window next) s =
      .next (((s.ropeTook seq).peerCaps version member stepping lanes minLanes window).capsTaken version window next) := by
  rw [exec_caps_eq, hseq, State.ropeAccept_next _ hl]

theorem exec_blockLock_of_usable (hi : i < 4) (hlane : hasLane s.ropeUsable i = true) (hlink : s.link ≥ 2) : exec (.blockLock i) s =
    .next (if hasLane s.rope.shaken i then ((s.setFld pROPE (rlLOCK i) 1).setFld pROPE (rlTRAINED i) 1).laneTrained (ropeLane i)
      else s.setFld pROPE (rlLOCK i) 1) := by
  change execBlockLock i s = _
  rw [execBlockLock]
  exact State.event_of _ (by simp [hi, hlane, hlink])

/-- The training handshake of lane `i` has completed. -/
def State.shaken (s : State) (i : Nat) : State := { s with rope := { s.rope with shaken := addLane s.rope.shaken i } }

theorem exec_ropeTrainDone_of_train (hi : i < 4) (hlane : hasLane s.ropeUsable i = true) (hlink : s.link = 2) :
    exec (.ropeTrainDone i) s = .next (if s.rp (rlLOCK i) = 1 then
      ((s.shaken i).setFld pROPE (rlTRAINED i) 1).laneTrained (ropeLane i) else s.shaken i) := by
  change execRopeTrainDone i s = _
  rw [execRopeTrainDone]
  exact State.event_of _ (by simp [hi, hlane, hlink])

/-- Settles O33: the states of LINK, the peer's CAPS, RESTART and CLEAR_FAILED, and the training of a lane. That a cut goes to DETECT
within the same command, and the peer's RX_MASK until its first block, are the model's choices (log 167, log 291). -/
theorem ropeLinkStates : Obligations.RopeLinkStates := by
  refine ⟨fun s hs => ?_, fun s h => ?_, fun s mask hlink hmin => ?_, fun s mask hlink hmin => ?_, fun s u hlink hdue hu => ?_,
    fun s u hlink htime hall hmin hu => ?_, fun s hlink hout hw htime => ?_, fun s hout => ?_, fun s u hlink hpeer hmask hu => ?_,
    fun s hlink htime => ?_, fun s htime => ?_, fun s u seq version member stepping lanes minl window next hl hseq hu hv => ?_,
    fun s u seq version member stepping lanes minl window next hl hseq hu hv => ?_, fun s u hb hw hu => ?_, fun s hb => ?_,
    fun s i hi hlane hlink hshaken => ?_, fun s i hi hlane hlink hshaken => ?_, fun s i hi hlane hlink hlock => ?_,
    fun s i hi hlane hlink hlock => ?_, fun s i pre main post hi hlane hlink htrain => ?_, fun s i pre main post hlink hact => ?_⟩
  · change execRopeLinkCut s = _
    rw [execRopeLinkCut]
    exact State.event_of _ hs
  · change execRopeLinkCut s = _
    rw [execRopeLinkCut]
    refine State.event_of_not _ ?_
    obtain hup | ⟨hbeat, hmin⟩ := h
    · rw [State.ropeSilent, hup, Bool.false_and]
    · rw [State.ropeSilent, decide_eq_false (Nat.not_le.2 hbeat), decide_eq_false (Nat.not_lt.2 hmin), Bool.or_false, Bool.and_false]
  · change execSignalDetect mask s = _
    rw [execSignalDetect]
    exact (State.event_of _ (by simp [hlink])).trans (by rw [if_pos hmin])
  · change execSignalDetect mask s = _
    rw [execSignalDetect]
    exact (State.event_of _ (by simp [hlink])).trans (by rw [if_neg (Nat.not_le.2 hmin)])
  · rw [exec_trainMsExpiry_trained hlink hdue, ← hu]
  · have hopen : (s.ropeTrained == s.ropeUsable && s.ropeUsable != 0) = false := by
      obtain h | h := hall <;> simp [h]
    change execTrainMsExpiry s = _
    rw [execTrainMsExpiry, hopen, hu]
    refine (State.event_of _ (by simp [hlink, htime])).trans ?_
    rw [if_neg (not_or.2 ⟨Bool.false_ne_true, Nat.not_le.2 hmin⟩)]
  · change execDetectRetry s = _
    rw [execDetectRetry]
    exact State.event_of _ (by simp [hlink, hout, hw, htime])
  · change execDetectRetry s = _
    rw [execDetectRetry]
    exact State.event_of_not _ (by simp [hout])
  · change execAlignDone s = _
    rw [execAlignDone, hu]
    exact State.event_of _ (by simp [hlink, hpeer, hmask])
  · change execLinkStateTimeout s = _
    rw [execLinkStateTimeout]
    refine State.event_of _ ?_
    obtain h | h := hlink <;> simp [h, htime]
  · change execLinkStateTimeout s = _
    rw [execLinkStateTimeout]
    exact State.event_of_not _ (by simp [htime])
  · have hpeer : u = (s.ropeTook seq).peerCaps version member stepping lanes minl window := hu
    rw [exec_caps_next _ _ _ _ _ _ _ hl hseq, ← hpeer, State.capsTaken, if_pos hv]
  · have hpeer : u = (((s.ropeTook seq).peerCaps version member stepping lanes minl window).linkDown.raise pROPE
        F.ROPE.intPEER_VERSION).reason pROPE Cls.dependency 0x11 := hu
    rw [exec_caps_next _ _ _ _ _ _ _ hl hseq, State.capsTaken, if_neg hv, ← hpeer]
  · refine (State.onPage_of_bar State.ropeRestart hb).trans ?_
    rw [State.ropeRestart, if_pos hw, ← hu]
  · exact State.onPage_of_bar State.ropeClear hb
  · rw [exec_blockLock_of_usable hi hlane hlink, if_pos hshaken]
  · rw [exec_blockLock_of_usable hi hlane hlink, hshaken, if_neg Bool.false_ne_true]
  · rw [exec_ropeTrainDone_of_train hi hlane hlink, if_neg (by rw [hlock]; decide)]
    rfl
  · rw [exec_ropeTrainDone_of_train hi hlane hlink, if_pos hlock]
    rfl
  · have hact : s.linkActive = false := State.linkActive_of_link_ne (by rw [hlink]; decide)
    change execTrainingFrame i pre main post true s = _
    rw [execTrainingFrame]
    refine (State.event_of _ (by simp [hi, hlane, hlink])).trans ?_
    simp only [hact, Bool.false_eq_true, false_and, if_false, htrain, if_true, State.ffeSet]
    rfl
  · change execTrainingFrame i pre main post false s = _
    rw [execTrainingFrame]
    exact State.event_of_not _ (by simp [hlink, hact])

/-! ## Lanes and progress -/

/-- A replay sends every held frame again (R300). -/
theorem State.ropeReplay_of_held {f : RopeFrame} {l : List RopeFrame} (hheld : s.rope.held = f :: l) : s.ropeReplay =
    (({ s with rope := { s.rope with held := (f :: l).map fun (h : RopeFrame) => { h with sentAt := s.fabric } } } : State).err
      pROPE 1).errBy pROPE 2 (l.length + 1) := by
  rw [State.ropeReplay, hheld, if_neg (List.cons_ne_nil f l)]
  rfl

theorem exec_ropeRetrain_of_usable (hb : s.bar pROPE = true) (hi : i < 4) (hlane : hasLane s.ropeUsable i = true) :
    exec (.ropeRetrain i) s = .next (s.ropeRetrain i) :=
  (State.onPage_of_bar (fun s => if i < 4 ∧ hasLane s.ropeUsable i then s.ropeRetrain i else s) hb).trans (by rw [if_pos ⟨hi, hlane⟩])

theorem exec_ropeRetrainResult_due (hi : i < 4) (hup : s.linkUp = true) (hlane : hasLane (s.rp F.ROPE.ROPE_STATUS_TRAINING) i = true)
    (hdue : s.rp (rlTRAINED i) = 1 ∨ s.fabric ≥ s.rope.trainAt + s.rp F.ROPE.ROPE_CFG_TRAIN_MS * 1500000) :
    exec (.ropeRetrainResult i) s = .next (if s.rp (rlTRAINED i) = 1 then s.laneRejoins i
      else s.laneTryEnds i (Tab.get 0 s.rope.tries i + 1)) := by
  change execRopeRetrainResult i s = _
  rw [execRopeRetrainResult]
  refine State.event_of _ ?_
  obtain h | h := hdue <;> simp [hi, hup, hlane, h]

/-- Settles O34: heartbeats, AM columns, ACK and NAK, replays, lost and retrained lanes, and the mailbox. The counts that AM brings are
log 105; that a RETRAIN of a lane the link cannot use does nothing is the model's choice (log 291). -/
theorem ropeLanesAndProgress : Obligations.RopeLanesAndProgress := by
  refine ⟨fun s hup hdue => ?_, fun s lane rx next pAck hup hlane => ?_, fun s u lane tx rx skew ins del invalid hu hup hlane hskew => ?_,
    fun s u lane tx rx skew ins del invalid hu hup hlane hskew => ?_, fun s hup hdue => ?_, fun s next pAck hlink => ⟨?_, ?_⟩,
    fun s cause hlink hcause => ⟨?_, ?_, ?_⟩, fun s f l hlink hheld hdue => ?_, fun s hheld => ?_, fun s q t b hy hact hdue => ?_,
    fun s i invalid hup hi hlane => ?_, fun s i hlane => ?_, fun s i hb hi hlane hbusy => ?_, fun s i hb hi hlane hidle hact hmin => ?_,
    fun s i hlane => ?_, fun s t u v i hi hup hlane htrained ht hu hv => ?_,
    fun s t w u i k hi hup hlane htrained htime ht hk hw hu hlast => ?_, fun s t w u i k hi hup hlane htrained htime ht hk hw hu hmore => ?_,
    fun s hb hfree hact => ?_, fun s h => ?_⟩
  · change execHeartbeatSend s = _
    rw [execHeartbeatSend]
    exact State.event_of _ (by simp [hup, hdue])
  · change execHeartbeat lane rx next pAck s = _
    rw [execHeartbeat]
    exact State.event_of _ (by simp [hup, hlane])
  · have hcounts : u = s.ropeCounts ins del invalid := hu
    change execAm lane tx rx skew ins del invalid s = _
    rw [execAm]
    exact (State.event_of _ (by simp [hup, hlane])).trans (by rw [if_neg (Nat.not_lt.2 hskew), hcounts])
  · have hcounts : u = s.ropeCounts ins del invalid := hu
    change execAm lane tx rx skew ins del invalid s = _
    rw [execAm]
    exact (State.event_of _ (by simp [hup, hlane])).trans (by rw [if_pos hskew, hcounts])
  · change execAmSend s = _
    rw [execAmSend]
    exact State.event_of _ (by simp [hup, hdue])
  · change execAck next false pAck s = _
    rw [execAck]
    exact State.event_of _ (by obtain h | h := hlink <;> simp [h])
  · change execAck next true pAck s = _
    rw [execAck]
    exact State.event_of _ (by obtain h | h := hlink <;> simp [h])
  · change execRopeFrameBad false cause s = _
    rw [execRopeFrameBad]
    exact (State.event_of _ (by obtain h | h := hlink <;> simp [h])).trans (by simp only [hcause, if_true, Bool.false_eq_true, if_false])
  · change execRopeFrameBad true cause s = _
    rw [execRopeFrameBad]
    exact (State.event_of _ (by obtain h | h := hlink <;> simp [h])).trans (by simp only [hcause, if_true])
  · change execRopeFrameBad true 3 s = _
    rw [execRopeFrameBad]
    exact State.event_of _ (by obtain h | h := hlink <;> simp [h])
  · change execRopeReplayTimeout s = _
    rw [execRopeReplayTimeout, hheld]
    exact (State.event_of _ (by obtain h | h := hlink <;> simp [h, hdue])).trans (by rw [State.ropeReplay_of_held hheld])
  · change execRopeReplayTimeout s = _
    rw [execRopeReplayTimeout, hheld]
    exact State.event_of_not _ (by simp)
  · change execYieldRepeat s = _
    rw [execYieldRepeat, hy]
    exact (State.event_of _ (by simp [hact, hdue])).trans (by simp only [hy])
  · change execRopeLaneLost i true invalid s = _
    rw [execRopeLaneLost]
    exact State.event_of _ (by simp [hup, hi, hlane])
  · rw [State.ropeLose, if_pos hlane, dropLane, if_pos hlane]
  · rw [exec_ropeRetrain_of_usable hb hi hlane, State.ropeRetrain, if_pos]
    obtain h | h | h := hbusy
    · exact Or.inl h
    · exact Or.inr (Or.inl (by rw [h]; rfl))
    · exact Or.inr (Or.inr h)
  · rw [exec_ropeRetrain_of_usable hb hi hlane, State.ropeRetrain, if_neg]
    rw [hidle, hact]
    simpa using hmin
  · exact State.onPage_of_eq _ (if_neg fun h => by simp [hlane] at h)
  · have hu' : u = (t.triesTo i 0 0).raise pROPE F.ROPE.intLANE_RESTORED := hu
    have hv' : v = u.rxAdd i := hv
    rw [exec_ropeRetrainResult_due hi hup hlane (Or.inl htrained), if_pos htrained, State.laneRejoins, ← ht, ← hu', ← hv']
    rfl
  · have hu' : u = w.triesTo i k (min k 7) := hu
    rw [exec_ropeRetrainResult_due hi hup hlane (Or.inr htime), if_neg (by rw [htrained]; decide), State.laneTryEnds, ← ht, ← hk, ← hw,
      if_pos hlast, ← hu']
  · have hu' : u = w.triesTo i k (min k 7) := hu
    rw [exec_ropeRetrainResult_due hi hup hlane (Or.inr htime), if_neg (by rw [htrained]; decide), State.laneTryEnds, ← ht, ← hk, ← hw,
      if_neg (Nat.not_le.2 hmore), ← hu']
  · refine (State.onPage_of_bar State.mboxSend hb).trans ?_
    rw [State.mboxSend, hfree, hact, if_neg (by decide)]
  · refine State.onPage_of_eq State.mboxSend ?_
    rw [State.mboxSend, if_pos]
    obtain h | h := h
    · exact Or.inl h
    · exact Or.inr (by rw [h]; rfl)

end Sys2Proof.Machine

/-! SUPPORT. The statements about the roles and the joins of the pair (R260 to R291). -/

namespace Sys2Proof.Machine

variable {s u : State} {seq : Nat}

/-- A pair message in sequence, as a step of the model. -/
theorem next_pairMsg (f : State → State) (hl : s.link = 4 ∨ s.link = 5) (hseq : seq = s.fld pROPE F.ROPE.SEQ_STATUS_RX_NEXT)
    (hu : u = s.ropeTook seq) (hon : u.pairOn = true) : (.next (s.pairMsg seq f) : Out) = .next (f u) :=
  congrArg Host.Outcome.next (State.pairMsg_next f hl hseq hu hon)

/-! ## Claims, YIELD, HANDOVER -/

/-- The claim of a peer that has not yielded (R265). -/
theorem State.onClaim_unyielded (claim : Nat) (primary : Bool) : s.onClaim claim primary false =
    (let v := s.learnClaim claim primary
     let w : State := { v with pair := { v.pair with peerYielded := false } }
     if v.pair.exchange then w.claimExchange claim primary false else w) := rfl

/-- The state of a unit that has learned of its peer's YIELD. -/
def State.peerYielded (s : State) (claim : Nat) : State :=
  let v := (s.learnClaim claim s.pair.peerPrimary).dropSwitch
  { v with pair := { v.pair with peerYielded := true } }

theorem State.onYield_of_standby (claim : Nat) (drain : Bool) (l : List (Nat × Nat))
    (hact : (s.peerYielded claim).isActive = false) (hyield : (s.peerYielded claim).yielded = false) : s.onYield claim drain l =
    ((s.peerYielded claim).becomeActive claim 1 (s.yieldSeq drain l)).chansOn.foldl
      (fun t c => if t.chStep c = ncInStep then t else t.requestRefresh c 0)
      ((s.peerYielded claim).becomeActive claim 1 (s.yieldSeq drain l)) := by
  have hcond : ((s.peerYielded claim).isActive || (s.peerYielded claim).yielded) = false := by rw [hact, hyield]; rfl
  exact if_neg (by rw [← State.peerYielded, hcond]; exact Bool.false_ne_true)

/-- What HANDOVER_REQ makes the active do (R279). -/
theorem exec_handoverReq_active {v : State} (claim : Nat) (hl : s.link = 4 ∨ s.link = 5)
    (hseq : seq = s.fld pROPE F.ROPE.SEQ_STATUS_RX_NEXT) (hu : u = s.ropeTook seq) (hon : u.pairOn = true) (hact : u.isActive = true)
    (hv : v = u.learnClaim claim u.pair.peerPrimary) : exec (.handoverReq seq claim) s =
    .next (if v.stepState = 2 ∧ !v.pair.peerYielded ∧ !v.countsOff (pGRP v.refGroup) then v.startSwitch else v.sendHandover 0) := by
  refine (next_pairMsg _ hl hseq hu hon).trans ?_
  simp only [hact, if_true, ← hv]

/-- What HANDOVER makes a standby do (R279, R280). -/
theorem exec_handover_standby {v w : State} (fs claim : Nat) (hl : s.link = 4 ∨ s.link = 5)
    (hseq : seq = s.fld pROPE F.ROPE.SEQ_STATUS_RX_NEXT) (hu : u = s.ropeTook seq) (hon : u.pairOn = true) (hact : u.isActive = false)
    (hv : v = u.learnClaim claim u.pair.peerPrimary) (hw : w = { v with pair := { v.pair with inStepAt := u.now } }) :
    exec (.handover seq fs claim) s = .next (if fs = 0 then
      ({ w with pair := { w.pair with revert := false } } : State).refuse pPAIR Cls.conflict 0x12
    else if w.yielded then w else w.setSwitch fs false claim) := by
  refine (next_pairMsg _ hl hseq hu hon).trans ?_
  simp only [hact, Bool.false_eq_true, if_false, ← hv]
  rw [hw]

theorem exec_pairCtrlHandover_of_on (hb : s.bar pPAIR = true) (hon : s.pairOn = true) : exec .pairCtrlHandover s =
    .next (if s.stepState ≠ 2 then s.refuse pPAIR Cls.conflict 0x12
      else if s.countsOff (pGRP s.refGroup) ∨ (s.frameStartFrom s.refGroup s.now).isNone then s.refuse pPAIR Cls.timing 0x0D
      else if s.isActive then s.startSwitch
      else ({ s with pair := { s.pair with revert := false } } : State).sendHandoverReq) := by
  refine (State.onPage_of_bar State.pairHandover hb).trans ?_
  rw [State.pairHandover, hon, Bool.not_true, if_neg Bool.false_ne_true]

/-- A group whose page and cadence give a switch instant (R279). -/
theorem not_off_or_none {a b : Bool} (ha : a = false) (hb : b = false) : ¬ (a = true ∨ b = true) := by
  rw [ha, hb]
  decide

theorem exec_witnessTimeout_due (h : s.witnessDue = true) : exec .witnessTimeout s = .next s.witness := State.event_of State.witness h

/-- Settles O35: CLAIM, YIELD, HANDOVER_REQ and HANDOVER in sequence, the reversion, the host's controls, and the witness timer. -/
theorem pairRolesAndSwitchOver : Obligations.PairRolesAndSwitchOver := by
  refine ⟨fun s u v seq claim primary active hl hseq hu hon hv hex => ?_, fun s u v seq claim primary active hl hseq hu hon hv hex => ?_,
    fun c1 c2 p1 p2 => ⟨by simp [outranks, and_assoc], rfl, rfl⟩, fun s u v p claim l drain hact hp hu hon hv hstand hyield => ?_,
    fun s p claim l drain h => ?_, fun s u v seq claim hl hseq hu hon hact hv hno => ?_,
    fun s u v seq claim hl hseq hu hon hact hv hstep hpeer hgrp => ?_, fun s u v seq claim hl hseq hu hon hact hv => ?_,
    fun s u v seq claim fs hl hseq hu hon hact hv hyield hfs => ?_,
    fun s hon hprim hact hyield hcfg hrev hfs hstep hhold => ?_, fun s h => ?_, fun s hb hon hstep => ?_, fun s hb hon hstep hgrp => ?_,
    fun s hb hon hstep hgrp hstart hact => ?_, fun s hb hon hstep hgrp hstart hact => ?_, fun s hb hon hact => ?_,
    fun s hb hon hact => ?_, fun s u b hon hmask hact hu => ?_, fun s hb hon => ?_, fun s hon => ⟨?_, ?_, ?_, ?_, ?_, ?_⟩,
    fun s r v hb hst => ?_, fun s v hb hst => ⟨?_, ?_⟩, fun s hdue hlink => ?_, fun s hdue hlink hyield => ?_,
    fun s u hdue hlink hyield hu => ?_⟩
  · refine (next_pairMsg _ hl hseq hu hon).trans ?_
    simp only [State.onClaim_unyielded, ← hv, hex, Bool.false_eq_true, if_false]
  · refine (next_pairMsg _ hl hseq hu hon).trans ?_
    simp only [State.onClaim_unyielded, ← hv, hex, if_true]
  · have hw : u.peerYielded claim = { v with pair := { v.pair with peerYielded := true } } := by rw [hv]; rfl
    change execYieldMsg p claim drain l s = _
    rw [execYieldMsg]
    refine (State.event_of _ (by simp [hact, hp])).trans ?_
    simp only [← hu, hon, if_true]
    rw [State.onYield_of_standby claim drain l (by rw [hw]; exact hstand) (by rw [hw]; exact hyield), hw]
  · change execYieldMsg p claim drain l s = _
    rw [execYieldMsg]
    refine State.event_of_not _ ?_
    obtain h | h := h <;> simp [h]
  · rw [exec_handoverReq_active claim hl hseq hu hon hact hv, if_neg]
    rintro ⟨hstep, hpeer, hgrp⟩
    obtain h | h | h := hno
    · exact h hstep
    · simp [h] at hpeer
    · simp [h] at hgrp
  · rw [exec_handoverReq_active claim hl hseq hu hon hact hv, if_pos ⟨hstep, by rw [hpeer]; rfl, by rw [hgrp]; rfl⟩]
  · rw [exec_handover_standby 0 claim hl hseq hu hon hact hv rfl, if_pos rfl]
  · have hyield' : ({ v with pair := { v.pair with inStepAt := u.now } } : State).yielded = false := hyield
    rw [exec_handover_standby fs claim hl hseq hu hon hact hv rfl, if_neg hfs, hyield', if_neg Bool.false_ne_true]
  · change execRevert s = _
    rw [execRevert]
    exact State.event_of _ (by simp [hon, hprim, hact, hyield, hcfg, hrev, hfs, hstep, hhold])
  · change execRevert s = _
    rw [execRevert]
    refine State.event_of_not _ ?_
    obtain h | h | h := h <;> simp [h]
  · rw [exec_pairCtrlHandover_of_on hb hon, if_pos hstep]
  · rw [exec_pairCtrlHandover_of_on hb hon, if_neg (not_not.2 hstep), if_pos (Or.inl hgrp)]
  · rw [exec_pairCtrlHandover_of_on hb hon, if_neg (not_not.2 hstep), if_neg (not_off_or_none hgrp hstart), if_pos hact]
  · rw [exec_pairCtrlHandover_of_on hb hon, if_neg (not_not.2 hstep), if_neg (not_off_or_none hgrp hstart), hact,
      if_neg Bool.false_ne_true]
  · refine (State.onPage_of_bar State.yieldNow hb).trans ?_
    rw [State.yieldNow, hon, hact, Bool.not_true, if_neg Bool.false_ne_true, if_neg Bool.false_ne_true]
  · refine (State.onPage_of_bar State.yieldNow hb).trans ?_
    rw [State.yieldNow, hon, Bool.not_true, if_neg Bool.false_ne_true, if_pos hact]
  · rw [State.fatal, if_pos ⟨hon, hmask⟩]
    simp only [hact, if_true, ← hu]
  · refine (State.onPage_of_bar State.clearYield hb).trans ?_
    rw [State.clearYield, if_pos hon]
  · exact State.onPage_of_eq State.clearYield (by rw [State.clearYield, hon, if_neg Bool.false_ne_true])
  · exact State.onPage_of_eq State.yieldNow (by rw [State.yieldNow, hon, Bool.not_false, if_pos rfl])
  · exact State.onPage_of_eq State.joinNow (by rw [State.joinNow, hon, if_neg Bool.false_ne_true])
  · exact State.onPage_of_eq State.pairHandover (by rw [State.pairHandover, hon, Bool.not_false, if_pos rfl])
  · change execRevert s = _
    rw [execRevert]
    exact State.event_of_not _ (by simp [hon])
  · exact State.event_of_not State.witness (by simp [State.witnessDue, hon])
  · exact (State.onPage_of_bar (State.pairCfgWrite r v) hb).trans (congrArg Host.Outcome.next (if_pos hst))
  · exact (State.onPage_of_bar (State.pairCfgWrite 0 v) hb).trans (congrArg Host.Outcome.next (if_neg (not_not.2 hst)))
  · exact (State.onPage_of_bar (State.pairCfgWrite 1 v) hb).trans (congrArg Host.Outcome.next (if_neg (not_not.2 hst)))
  · rw [exec_witnessTimeout_due hdue, State.witness, if_pos hlink]
  · rw [exec_witnessTimeout_due hdue, State.witness, hlink, if_neg Bool.false_ne_true, if_pos hyield]
  · rw [exec_witnessTimeout_due hdue, State.witness, hlink, hyield, if_neg Bool.false_ne_true, if_neg Bool.false_ne_true, ← hu]

/-! ## Digests and joins -/

variable {c : Nat}

theorem State.compareDigests_of_eq {d e : RowDigest} (h : d.digest = e.digest) : s.compareDigests c d e =
    (if s.chStep c = ncJoining then
      ((s.updChan c fun x => { x with pair := { x.pair with join := none, sender := false, take := [], decisions := [] } }).setStep
        c ncInStep).raise pPAIR F.PAIR.intJOIN_DONE
    else if s.chStep c = ncNotCompared then s.setStep c ncInStep else s) := by
  rw [State.compareDigests, if_pos h]

/-- A channel that is neither joining nor out of step. -/
theorem ne_of_notCompared_or_inStep {k : Nat} (h : k = ncNotCompared ∨ k = ncInStep) : k ≠ ncJoining ∧ k ≠ ncOutOfStep := by
  obtain rfl | rfl := h <;> decide

/-- The condition under which SNAPSHOT is ignored does not hold. -/
theorem snapshot_taken {m : SnapshotMsg} (hc : m.chan < 64) (hact : s.isActive = false) (hon : s.chanOn m.chan = true)
    (hstep : s.chStep m.chan = ncOutOfStep) :
    (decide (m.chan ≥ 64) || s.isActive || !s.chanOn m.chan || s.chStep m.chan != ncOutOfStep) = false := by
  simp [hact, hon, hstep, hc]

theorem State.onSnapshot_late {m : SnapshotMsg} (hc : m.chan < 64) (hact : s.isActive = false) (hon : s.chanOn m.chan = true)
    (hstep : s.chStep m.chan = ncOutOfStep) (hlate : s.snapshotInTime m.chan m.n0 = false) :
    s.onSnapshot m = s.joinFailed m.chan 0 m.n0 3 true := by
  simp only [State.onSnapshot, snapshot_taken hc hact hon hstep, hlate, Bool.false_eq_true, if_false]

theorem State.onSnapshot_inTime {v : State} {m : SnapshotMsg} {x : PicRec} (hc : m.chan < 64) (hact : s.isActive = false)
    (hon : s.chanOn m.chan = true) (hstep : s.chStep m.chan = ncOutOfStep) (htime : s.snapshotInTime m.chan m.n0 = true)
    (hv : v = (s.takeSnapshot m).forceRefresh m.chan m.n0 (if m.kind = 0 then 0 else 1)) (hx : v.picRec m.chan m.n0 = some x) :
    s.onSnapshot m = (v.updChan m.chan fun y => { y with pair := { y.pair with
      join := some (m.n0, lastRefresh x), sender := false, own := [], peer := [], take := [], decisions := [], failed := none } }).setStep
      m.chan ncJoining := by
  simp only [State.onSnapshot, snapshot_taken hc hact hon hstep, htime, Bool.false_eq_true, if_false, if_true, ← hv, hx]

theorem decision_taken {d : Decision} (hc : c < 64) (hr : s.receiving c d.n = true) : (decide (c ≥ 64) || !s.receiving c d.n) = false := by
  simp [hr, hc]

/-- A DECISION for a picture not begun is kept (R286). -/
theorem State.onDecision_ahead {d : Decision} (hc : c < 64) (hr : s.receiving c d.n = true) (hx : s.picRec c d.n = none) :
    s.onDecision c d = s.updChan c fun y => { y with pair := { y.pair with decisions := y.pair.decisions ++ [d] } } := by
  simp only [State.onDecision, decision_taken hc hr, Bool.false_eq_true, if_false, hx]

/-- A DECISION after the output instant of its row fails the join (R287). -/
theorem State.onDecision_late {d : Decision} {x : PicRec} (hc : c < 64) (hr : s.receiving c d.n = true) (hx : s.picRec c d.n = some x)
    (hlate : s.outPs c x d.k < s.nowPs) : s.onDecision c d = s.joinFailed c d.k d.n 3 true := by
  simp only [State.onDecision, decision_taken hc hr, Bool.false_eq_true, if_false, hx, if_pos hlate]

/-- Settles O36: DIGEST and its comparison, late digests, STEP, JOIN_REQ and JOIN_NOW, SNAPSHOT, DECISION, and the retained packets. That
a SNAPSHOT out of its time is a failed join is the model's choice (log 162). -/
theorem pairStepsAndJoins : Obligations.PairStepsAndJoins := by
  refine ⟨fun s u seq l hl hseq hu hon => next_pairMsg (State.onDigest l) hl hseq hu hon, fun s c d e heq hstep => ?_,
    fun s c d e heq hstep => ?_, fun s c d e hne => if_neg hne, fun s c k n hstep => ?_, fun s c d l hown hon hact hdue => ?_,
    fun s c hown => ?_, fun s u seq c cause n k hl hseq hu hon hc hcause hchan => ?_, fun s u seq c hl hseq hu hon hc hact hchan => ?_,
    fun s u seq c hl hseq hu hon hact => ?_, fun s hb hon => ?_, fun s u seq m hl hseq hu hon hc hact hchan hstep hlate => ?_,
    fun s u v seq m x hl hseq hu hon hc hact hchan hstep htime hv hx => ?_, fun s u seq c n k cap qp e floor hl hseq hu hon hc hr hx => ?_,
    fun s u seq c n k cap qp e floor x hl hseq hu hon hc hr hx hlate => ?_, fun s u seq c n k cap qp e floor hl hseq hu hon hr => ?_,
    fun s c hc => ?_⟩
  · rw [State.compareDigests_of_eq heq, if_pos hstep]
  · rw [State.compareDigests_of_eq heq, if_neg (by rw [hstep]; decide), if_pos hstep]
  · obtain ⟨hjoin, hout⟩ := ne_of_notCompared_or_inStep hstep
    rw [State.outOfStep, if_neg hjoin, if_neg hout]
    rfl
  · change execDigestLate c s = _
    rw [execDigestLate, hown]
    simp only [hon, hact, hdue, and_self, if_true]
  · change execDigestLate c s = _
    rw [execDigestLate, hown]
  · refine (next_pairMsg _ hl hseq hu hon).trans ?_
    rw [if_pos ⟨hc, hcause, hchan⟩]
  · refine (next_pairMsg _ hl hseq hu hon).trans ?_
    rw [if_pos ⟨hc, hact, hchan⟩]
  · refine (next_pairMsg _ hl hseq hu hon).trans ?_
    rw [if_neg fun h => by simp [hact] at h]
  · refine (State.onPage_of_bar State.joinNow hb).trans ?_
    rw [State.joinNow, if_pos hon]
  · exact (next_pairMsg (State.onSnapshot m) hl hseq hu hon).trans (by rw [State.onSnapshot_late hc hact hchan hstep hlate])
  · exact (next_pairMsg (State.onSnapshot m) hl hseq hu hon).trans
      (by rw [State.onSnapshot_inTime hc hact hchan hstep htime hv hx])
  · refine (next_pairMsg (State.onDecision c ⟨n, k, cap, qp, floor, e⟩) hl hseq hu hon).trans ?_
    rw [State.onDecision_ahead hc hr hx]
  · refine (next_pairMsg (State.onDecision c ⟨n, k, cap, qp, floor, e⟩) hl hseq hu hon).trans ?_
    rw [State.onDecision_late hc hr hx hlate]
  · refine (next_pairMsg (State.onDecision c ⟨n, k, cap, qp, floor, e⟩) hl hseq hu hon).trans ?_
    rw [State.onDecision, if_pos (by rw [hr, Bool.not_false, Bool.or_true])]
  · change execRetainExpiry c s = _
    rw [execRetainExpiry]
    exact State.event_of _ (by simp [hc])

end Sys2Proof.Machine

/-! SUPPORT. The statements about the traffic scheduler: queue commands, frames and gates (R339 to R352). -/

namespace Sys2Proof.Machine

variable {s u : State} {q : Nat}

/-! ## Queue commands -/

theorem State.qCommand_of_busy {x : Nat} (op : Nat) (f : State → State) (h : s.tsch.disabling = some x) :
    s.qCommand q op f = s.reason pTSCH Cls.conflict 0x13 := by
  rw [State.qCommand, h]
  rfl

theorem State.qCommand_of_beyond (op : Nat) (f : State → State) (h : s.tsch.disabling = none) (hq : q ≥ 8192) :
    s.qCommand q op f = (s.qBegin q op).qCapacity 0x11 q := by
  rw [State.qCommand, h, if_neg (by decide)]
  exact if_pos hq

theorem State.qCommand_of_ready {op : Nat} (f : State → State) (h : s.tsch.disabling = none) (hq : q < 8192) (hu : u = s.qBegin q op) :
    s.qCommand q op f = f u := by
  rw [State.qCommand, h, if_neg (by decide), hu]
  exact if_neg (Nat.not_le.2 hq)

theorem exec_enableQueue_of_bar (q : Nat) (hb : s.bar pTSCH = true) : exec (.enableQueue q) s = .next (s.enableQueue q) :=
  State.onPage_of_bar (State.enableQueue q) hb

theorem exec_disableQueue_of_bar (q : Nat) (hb : s.bar pTSCH = true) : exec (.disableQueue q) s = .next (s.disableQueue q) :=
  State.onPage_of_bar (State.disableQueue q) hb

theorem exec_setShaper_of_bar (q : Nat) (hb : s.bar pTSCH = true) : exec (.setShaper q) s = .next (s.setShaper q) :=
  State.onPage_of_bar (State.setShaper q) hb

theorem exec_returnQueue_of_bar (q : Nat) (hb : s.bar pTSCH = true) : exec (.returnQueue q) s = .next (s.returnQueue q) :=
  State.onPage_of_bar (State.returnQueue q) hb

/-- ENABLE past its first checks: the entry's own (R343). -/
theorem exec_enableQueue_ready (hb : s.bar pTSCH = true) (hd : s.tsch.disabling = none) (hq : q < 8192) (hu : u = s.qBegin q 1) :
    exec (.enableQueue q) s = .next (
      if u.qOutOfRange q (u.qfld F.QTAB.Q_RATE_KBPS q) (u.qfld F.QTAB.Q_BURST_BYTES q) then u.qFail Cls.range 0x10
      else if u.qNamesAbsent q then u.qFail Cls.absent 0x05
      else if u.qEn q then u.qFail Cls.conflict 0x14
      else if u.poolUsed + u.qfld F.QTAB.Q_BUF_KIB q > 12288 then u.qCapacity 0x0C (u.poolUsed + u.qfld F.QTAB.Q_BUF_KIB q)
      else (((u.setQfld F.QTAB.Q_CTRL_EN q 1).setQfld F.QTAB.Q_CTRL_ON_ALT q 0).resetTokens q).qDone) := by
  rw [exec_enableQueue_of_bar q hb, State.enableQueue, State.qCommand_of_ready _ hd hq hu]

theorem exec_setShaper_ready (hb : s.bar pTSCH = true) (hd : s.tsch.disabling = none) (hq : q < 8192) (hu : u = s.qBegin q 3) :
    exec (.setShaper q) s = .next (
      if u.qOutOfRange q (u.fld pTSCH F.TSCH.SHAPE_RATE_KBPS) (u.fld pTSCH F.TSCH.SHAPE_BURST_BYTES) then u.qFail Cls.range 0x10
      else if u.qNamesAbsent q then u.qFail Cls.absent 0x05
      else if !u.qEn q then u.qFail Cls.conflict 0x14
      else (((u.setQfld F.QTAB.Q_RATE_KBPS q (u.fld pTSCH F.TSCH.SHAPE_RATE_KBPS)).setQfld F.QTAB.Q_BURST_BYTES q
        (u.fld pTSCH F.TSCH.SHAPE_BURST_BYTES)).resetTokens q).qDone) := by
  rw [exec_setShaper_of_bar q hb, State.setShaper, State.qCommand_of_ready _ hd hq hu]

theorem exec_returnQueue_ready (hb : s.bar pTSCH = true) (hd : s.tsch.disabling = none) (hq : q < 8192) (hu : u = s.qBegin q 4) :
    exec (.returnQueue q) s = .next (
      if !u.portUp (u.qfld F.QTAB.Q_CTRL_PORT q) then u.qFail Cls.dependency 0x18
      else if !u.qEn q then u.qFail Cls.conflict 0x14
      else if u.sendingQueue q then (u.setQueue q { u.queueOf q with returning := true }).qDone
      else (u.toPort q).qDone) := by
  rw [exec_returnQueue_of_bar q hb, State.returnQueue, State.qCommand_of_ready _ hd hq hu]

/-- Settles O37: the four queue commands past their common checks, each refusal in the order of the checks, and the end of a DISABLE.
That they act on their entries in any state of the page is the model's choice (log 236). -/
theorem queueCommandsOfTheScheduler : Obligations.QueueCommandsOfTheScheduler := by
  refine ⟨fun s q x hb hd => ⟨?_, ?_, ?_, ?_⟩, fun s q hb hd hq => ⟨?_, ?_⟩, fun s u q hb hd hq hu hrange => ?_,
    fun s u q hb hd hq hu hrange habs => ?_, fun s u q hb hd hq hu hrange habs hen => ?_,
    fun s u q hb hd hq hu hrange habs hen hpool => ?_, fun s u q hb hd hq hu hrange habs hen hpool => ?_,
    fun s u q hb hd hq hu hrange habs hen => ?_, fun s u q hb hd hq hu hrange habs hen => ?_, fun s u q hb hd hq hu howner => ?_,
    fun s u v q hb hd hq hu howner hv => ?_, fun s q hd hsend => ?_, fun s q hd hsend => ?_, fun s u q hb hd hq hu hup => ?_,
    fun s u q hb hd hq hu hup hen hsend => ?_⟩
  · rw [exec_enableQueue_of_bar q hb, State.enableQueue, State.qCommand_of_busy _ _ hd]
  · rw [exec_disableQueue_of_bar q hb, State.disableQueue, State.qCommand_of_busy _ _ hd]
  · rw [exec_setShaper_of_bar q hb, State.setShaper, State.qCommand_of_busy _ _ hd]
  · rw [exec_returnQueue_of_bar q hb, State.returnQueue, State.qCommand_of_busy _ _ hd]
  · rw [exec_enableQueue_of_bar q hb, State.enableQueue, State.qCommand_of_beyond _ _ hd hq]
  · rw [exec_returnQueue_of_bar q hb, State.returnQueue, State.qCommand_of_beyond _ _ hd hq]
  · rw [exec_enableQueue_ready hb hd hq hu, if_pos hrange]
  · simp only [exec_enableQueue_ready hb hd hq hu, hrange, habs, Bool.false_eq_true, if_false, if_true]
  · simp only [exec_enableQueue_ready hb hd hq hu, hrange, habs, hen, Bool.false_eq_true, if_false, if_true]
  · simp only [exec_enableQueue_ready hb hd hq hu, hrange, habs, hen, Bool.false_eq_true, if_false, if_pos hpool]
  · simp only [exec_enableQueue_ready hb hd hq hu, hrange, habs, hen, Bool.false_eq_true, if_false, if_neg (Nat.not_lt.2 hpool)]
  · simp only [exec_setShaper_ready hb hd hq hu, hrange, habs, hen, Bool.false_eq_true, if_false, Bool.not_true]
  · simp only [exec_setShaper_ready hb hd hq hu, hrange, habs, hen, Bool.false_eq_true, if_false, Bool.not_false, if_true]
  · rw [exec_disableQueue_of_bar q hb, State.disableQueue, State.qCommand_of_ready _ hd hq hu, if_pos howner]
  · rw [exec_disableQueue_of_bar q hb, State.disableQueue, State.qCommand_of_ready _ hd hq hu, if_neg (not_not.2 howner)]
    simp only [← hv]
  · exact State.event_of State.disableComplete (by simp [State.disableReady, hd, hsend])
  · exact State.event_of_not State.disableComplete (by simp [State.disableReady, hd, hsend])
  · simp only [exec_returnQueue_ready hb hd hq hu, hup, Bool.not_false, if_true]
  · simp only [exec_returnQueue_ready hb hd hq hu, hup, hen, hsend, Bool.not_true, Bool.false_eq_true, if_false]

/-! ## Frames -/

variable {f : Frame}

theorem State.purgeQueue_of_fitting {p : Nat} (n : Nat) (h : s.headTooLong p q = false) : s.purgeQueue p q n = s := by
  cases n with
  | zero => rfl
  | succ n => rw [State.purgeQueue, h, if_neg Bool.false_ne_true]

theorem State.handFrame_of_open (hw : s.works pTSCH = true) (hq : f.queue < 8192) (hen : s.qEn f.queue = true) : s.handFrame f =
    (if f.len > s.qfld F.QTAB.Q_CTRL_MAX_FRAME f.queue then s.qRefuse f 1
    else if s.qfld F.QTAB.Q_OCC_BYTES f.queue + f.held > s.qfld F.QTAB.Q_BUF_KIB f.queue * 1024 then s.qRefuse f 0
    else if !s.portUp (s.qPort f.queue) then s.qRefuse f 2
    else
      let u := (s.setQueue f.queue { s.queueOf f.queue with frames := (s.queueOf f.queue).frames ++ [f] }).setQfld F.QTAB.Q_OCC_BYTES
        f.queue (s.qfld F.QTAB.Q_OCC_BYTES f.queue + f.held)
      u.purgeQueue (u.qPort f.queue) f.queue (u.queueOf f.queue).frames.length) := by
  have hopen : (!s.works pTSCH || decide (f.queue ≥ 8192) || !s.qEn f.queue) = false := by
    rw [hw, hen, decide_eq_false (Nat.not_le.2 hq)]
    rfl
  rw [State.handFrame, hopen, if_neg Bool.false_ne_true]

/-! ## Gates -/

variable {p : Nat}

theorem exec_gateSwap_unread {c d : Nat} (hb : s.bar pTSCH = true) (hp : p < 8) (hw : s.works pTSCH = true)
    (hu : u = s.opBegin pTSCH 6) (hread : u.readGate p = .error (c, d)) : exec (.gateSwap p) s =
    .next ((if c = Cls.resource then u.noteRead (u.addr36 pTSCH (F.TSCH.GL_BASE_LO p)) 8256 else u).gateRefuse c d) := by
  refine (State.onPage_of_bar (State.gateSwap p) hb).trans ?_
  rw [State.gateSwap, if_neg (by rw [hw]; simpa using hp)]
  simp only [← hu, hread]

theorem exec_gateSwap_read {g : Option GateList} (hb : s.bar pTSCH = true) (hp : p < 8) (hw : s.works pTSCH = true)
    (hu : u = s.opBegin pTSCH 6) (hread : u.readGate p = .ok g) : exec (.gateSwap p) s =
    .next (if !s.running then u.gateRefuse Cls.dependency 0x06
      else if (s.portOf p).swap.isSome then u.gateRefuse Cls.conflict 0x17
      else ((u.setPort p { s.portOf p with swap := some (g, swapAt (s.portOf p).gate g s.now) }).setFld pTSCH
        (F.TSCH.GATE_STATUS_PENDING p) 1).put64L pTSCH (F.TSCH.SWAP_AT_LO p) (swapAt (s.portOf p).gate g s.now)) := by
  refine (State.onPage_of_bar (State.gateSwap p) hb).trans ?_
  rw [State.gateSwap, if_neg (by rw [hw]; simpa using hp)]
  simp only [← hu, hread]

theorem exec_gateCancel_of_swap {t : Nat} {g : Option GateList} (hb : s.bar pTSCH = true) (hp : p < 8)
    (hswap : (s.portOf p).swap = some (g, t)) : exec (.gateCancel p) s =
    .next (if s.now < t then (s.swapGone p).opEndOf pTSCH 6 opAborted else s.reason pTSCH 0 0x01) := by
  refine (State.onPage_of_bar (State.gateCancel p) hb).trans ?_
  rw [State.gateCancel, if_neg (Nat.not_le.2 hp)]
  simp only [hswap]

/-- Settles O38: the hand-off and the acceptance of a frame, the start of a frame on a port, and gate swaps. The order of the tests of a
swap and the swap of a port without a list are the model's choices (log 237, log 238). -/
theorem framesAndGatesOfTheScheduler : Obligations.FramesAndGatesOfTheScheduler := by
  refine ⟨fun s f r hh => ?_, fun s hh => ?_, fun s f h => ?_, fun s f hw hq hen hlen => ?_, fun s f hw hq hen hlen hbuf => ?_,
    fun s f hw hq hen hlen hbuf hup => ?_, fun s u f hw hq hen hlen hbuf hup hu hfit => ?_,
    fun s u v p q f r hp hw hidle hu hnext hhead hv => ?_, fun s p hbusy => ?_, fun s u p c d hb hp hw hu hread => ?_,
    fun s u p g hb hp hw hu hread hrun => ?_, fun s u p t g hb hp hw hu hread hrun hswap ht => ?_,
    fun s u p g hb hp hw hu hread hrun hswap => ?_, fun s p t g hb hp hswap ht => ?_, fun s p t g hb hp hswap ht => ?_,
    fun s p t g hswap hrun ht => ?_, fun s p hswap => ?_, fun s p hrun hgate => ?_⟩
  · change execFrameHandoff s = _
    rw [execFrameHandoff, hh]
  · change execFrameHandoff s = _
    rw [execFrameHandoff, hh]
  · have hclosed : (!s.works pTSCH || decide (f.queue ≥ 8192) || !s.qEn f.queue) = true := by
      obtain h | h | h := h <;> simp [h]
    rw [State.handFrame, if_pos hclosed]
  · rw [State.handFrame_of_open hw hq hen, if_pos hlen]
  · rw [State.handFrame_of_open hw hq hen, if_neg (Nat.not_lt.2 hlen), if_pos (show _ + f.held > _ from hbuf)]
  · rw [State.handFrame_of_open hw hq hen, if_neg (Nat.not_lt.2 hlen), if_neg (Nat.not_lt.2 (show _ + f.held ≤ _ from hbuf)), hup,
      Bool.not_false, if_pos rfl]
  · have hheld : u = (s.setQueue f.queue { s.queueOf f.queue with frames := (s.queueOf f.queue).frames ++ [f] }).setQfld
        F.QTAB.Q_OCC_BYTES f.queue (s.qfld F.QTAB.Q_OCC_BYTES f.queue + f.held) := hu
    rw [State.handFrame_of_open hw hq hen, if_neg (Nat.not_lt.2 hlen), if_neg (Nat.not_lt.2 (show _ + f.held ≤ _ from hbuf)), hup,
      Bool.not_true, if_neg Bool.false_ne_true, ← hheld, State.purgeQueue_of_fitting _ hfit]
  · have hv' : v = u.setQueue q
        { u.queueOf q with frames := r, tokens := u.tokensNow q - (f.len * cuByte : Nat), tokAt := u.fabric } := hv
    change execFrameTransmitStart p s = _
    rw [execFrameTransmitStart]
    refine (State.event_of _ (by simp [hp, hw, hidle])).trans ?_
    simp only [← hu, State.txStart, hnext, hhead, ← hv']
  · change execFrameTransmitStart p s = _
    rw [execFrameTransmitStart]
    exact State.event_of_not _ (by rw [Option.isNone_eq_false_iff.2 hbusy, Bool.and_false])
  · rw [exec_gateSwap_unread hb hp hw hu hread, State.gateRefuse]
  · simp only [exec_gateSwap_read hb hp hw hu hread, hrun, Bool.not_false, if_true, State.gateRefuse]
  · simp only [exec_gateSwap_read hb hp hw hu hread, hrun, hswap, Bool.not_true, Bool.false_eq_true, if_false, Option.isSome_none, ← ht]
  · simp only [exec_gateSwap_read hb hp hw hu hread, hrun, hswap, Bool.not_true, Bool.false_eq_true, if_false, if_true, State.gateRefuse]
  · rw [exec_gateCancel_of_swap hb hp hswap, if_pos ht]
  · rw [exec_gateCancel_of_swap hb hp hswap, if_neg (Nat.not_lt.2 ht)]
    rfl
  · change execGateSwapped p s = _
    rw [execGateSwapped, hswap]
    simp only [hrun, ht, and_self, if_true]
  · change execGateSwapped p s = _
    rw [execGateSwapped, hswap]
  · change execGateEntryChange p s = _
    rw [execGateEntryChange]
    exact State.event_of _ (by rw [hrun, hgate]; rfl)

end Sys2Proof.Machine

/-! SUPPORT. The statements about the tests of a lane and about lanes and links that come up (R92, R317 to R320, R354 to R370). -/

namespace Sys2Proof.Machine

variable {s : State} {n : Nat}

/-! ## Lane commands -/

/-- A command of LANE_CTRL on a lane that works. -/
theorem State.onPage_onLane (f : State → State) (hb : s.bar (pLANE n) = true) (hn : n < 38) (hw : s.works (pLANE n) = true) :
    (s.onPage (pLANE n) fun s => s.onLane n f) = .next (f s) :=
  (State.onPage_of_bar (fun s => s.onLane n f) hb).trans (congrArg Host.Outcome.next (State.onLane_of_works f hn hw))

/-- A register write of a lane. -/
theorem State.onPage_lane (f : State → State) (hb : s.bar (pLANE n) = true) (hn : n < 38) :
    (s.onPage (pLANE n) fun s => if n < 38 then f s else s) = .next (f s) :=
  (State.onPage_of_bar (fun s => if n < 38 then f s else s) hb).trans (by rw [if_pos hn])

/-- Bits injected while no near-end checker sees them (R367). -/
theorem State.injectBits_of_line (k : Nat) (htx : laneTx n = true) (hloop : s.fld (pLANE n) F.LANE.LANE_CFG_LOOPBACK ≠ 1) :
    s.injectBits n k = s.errBy (pLANE n) 4 k := by
  simp only [State.injectBits, htx, if_true, hloop, false_and, if_false]

theorem State.injectBits_of_loopback (k : Nat) (htx : laneTx n = true) (hloop : s.fld (pLANE n) F.LANE.LANE_CFG_LOOPBACK = 1)
    (hlock : s.bit (pLANE n) F.LANE.PRBS_STATUS_CHK_LOCK = true) :
    s.injectBits n k = (s.errBy (pLANE n) 4 k).addSat (pLANE n) F.LANE.PRBS_ERRORS k := by
  simp only [State.injectBits, htx, if_true, hloop, hlock, and_self]

/-- The fields of LANE_CFG that a write always stores (R368). -/
def State.cfgFree (s : State) (n : Nat) (v : Word) : State :=
  (s.setFld (pLANE n) F.LANE.LANE_CFG_ADAPT_EN (F.LANE.LANE_CFG_ADAPT_EN.of v)).setFld (pLANE n) F.LANE.LANE_CFG_BOUND_EN
    (F.LANE.LANE_CFG_BOUND_EN.of v)

theorem exec_loopbackWrite_changed {v : Word} (hb : s.bar (pLANE n) = true) (hn : n < 38)
    (hch : v.toNat % 16 ≠ (s.reg (F.LANE.LANE_CFG.addr (pLANE n))).toNat % 16) : exec (.loopbackWrite n v) s = .next (
      if F.LANE.LANE_CFG_LOOPBACK.of v = 3 then (s.cfgFree n v).reason (pLANE n) Cls.range 0x04
      else if F.LANE.LANE_CFG_LOOPBACK.of v ≠ 0 ∧ (!laneRx n || !laneTx n) then (s.cfgFree n v).reason (pLANE n) Cls.range 0x11
      else if !s.countsOff (s.laneOwner n) then (s.cfgFree n v).reason (pLANE n) Cls.conflict 0x13
      else (((s.cfgFree n v).setFld (pLANE n) F.LANE.LANE_CFG_POL_TX (F.LANE.LANE_CFG_POL_TX.of v)).setFld (pLANE n)
        F.LANE.LANE_CFG_POL_RX (F.LANE.LANE_CFG_POL_RX.of v)).setFld (pLANE n) F.LANE.LANE_CFG_LOOPBACK (F.LANE.LANE_CFG_LOOPBACK.of v)) := by
  refine (State.onPage_lane (State.laneCfgWrite n v) hb hn).trans ?_
  rw [State.laneCfgWrite, if_neg hch]
  rfl

theorem not_one_way (hrx : laneRx n = true) (htx : laneTx n = true) (p : Prop) : ¬ (p ∧ (!laneRx n || !laneTx n) = true) := by
  rw [hrx, htx]
  exact fun h => Bool.false_ne_true h.2

/-- A write of FFE with a legal setting (R355). -/
theorem exec_ffeWrite_legal {v : Word} (hb : s.bar (pLANE n) = true) (hn : n < 38) (htx : laneTx n = true)
    (hlegal : ffeLegal (F.LANE.FFE_PRE.of v) (F.LANE.FFE_MAIN.of v) (F.LANE.FFE_POST.of v) = true) : exec (.ffeWrite n v) s =
    .next (if laneKind n ≠ 2 ∧ !s.countsOff (s.laneOwner n) then s.reason (pLANE n) Cls.locked 0x07
      else ((s.setFld (pLANE n) F.LANE.FFE_PRE (F.LANE.FFE_PRE.of v)).setFld (pLANE n) F.LANE.FFE_MAIN (F.LANE.FFE_MAIN.of v)).setFld
        (pLANE n) F.LANE.FFE_POST (F.LANE.FFE_POST.of v)) := by
  refine (State.onPage_lane (State.ffeWrite n v) hb hn).trans ?_
  simp only [State.ffeWrite, htx, hlegal, Bool.not_true, Bool.false_eq_true, if_false]

/-- Settles O40: SNAPSHOT, injections, the eye scan, FFE, TEST_CFG, LANE_CFG and the checker. A scan begun again, the instant of a
baseline, the counts that CHECKER_LOST brings and the free fields of a refused LANE_CFG are log 173, 175, 176 and 180. -/
theorem laneTestsAndEyeScan : Obligations.LaneTestsAndEyeScan := by
  refine ⟨fun s n hb hn hw htrack => ?_, fun s n hb hn hw htrack => ?_, fun s n hb hn hw htx hloop => ⟨?_, ?_⟩,
    fun s n hb hn hw htx hloop hlock => ?_, fun s n hn hw hrate htx hloop => ?_, fun s n c d hb hn hw hes => ?_,
    fun s n hb hn hw hes => ?_, fun s n hb hn hw => ?_, fun s n errs hn hw hbusy herrs => ?_, fun s n v hb hn htx hlegal => ?_,
    fun s n v hb hn htx hlegal hkind hown => ?_, fun s n v hb hn htx hlegal hfree => ?_, fun s n v hb hn hrange => ?_,
    fun s n v hb hn hrange hpat => ?_, fun s n v hb hn hrange hgen hchk hfree hsame => ?_, fun s u n v hb hn hu hch hlb => ?_,
    fun s u n v hb hn hu hch hlb h0 hway => ?_, fun s u n v hb hn hu hch hlb hrx htx hown => ?_,
    fun s u n v hb hn hu hch hlb hrx htx hown => ?_, fun s n hn hrx hw hen hlock hidle => ?_, fun s n hcarry => ?_,
    fun s n bits errs hn hw hlock => ?_⟩
  · exact (State.onPage_onLane (State.laneCtrlSnapshot n) hb hn hw).trans (by rw [State.laneCtrlSnapshot, if_pos htrack])
  · exact (State.onPage_onLane (State.laneCtrlSnapshot n) hb hn hw).trans (by rw [State.laneCtrlSnapshot, if_neg htrack])
  · exact (State.onPage_onLane (State.injectBits n 1) hb hn hw).trans (by rw [State.injectBits_of_line 1 htx hloop])
  · exact (State.onPage_onLane (State.laneCtrlBurst n) hb hn hw).trans (by rw [State.laneCtrlBurst, State.injectBits_of_line _ htx hloop])
  · exact (State.onPage_onLane (State.injectBits n 1) hb hn hw).trans (by rw [State.injectBits_of_loopback 1 htx hloop hlock])
  · change execRateInjection n s = _
    rw [execRateInjection]
    exact (State.event_of _ (by simp [hn, hw, hrate])).trans (by rw [State.injectBits_of_line 1 htx hloop])
  · exact (State.onPage_onLane (State.laneCtrlEsStart n) hb hn hw).trans (by rw [State.laneCtrlEsStart, hes])
  · exact (State.onPage_onLane (State.laneCtrlEsStart n) hb hn hw).trans (by rw [State.laneCtrlEsStart, hes])
  · exact State.onPage_onLane (State.laneCtrlEsStop n) hb hn hw
  · change execEsDone n errs s = _
    rw [execEsDone]
    exact State.event_of _ (by simp [hn, hw, hbusy, herrs])
  · refine (State.onPage_lane (State.ffeWrite n v) hb hn).trans ?_
    simp only [State.ffeWrite, htx, hlegal, Bool.not_true, Bool.not_false, Bool.false_eq_true, if_false, if_true]
  · rw [exec_ffeWrite_legal hb hn htx hlegal, if_pos ⟨hkind, by rw [hown]; rfl⟩]
  · rw [exec_ffeWrite_legal hb hn htx hlegal, if_neg]
    obtain h | h := hfree <;> simp [h]
  · exact (State.onPage_lane (State.testCfgWrite n v) hb hn).trans (by rw [State.testCfgWrite, if_pos hrange])
  · exact (State.onPage_lane (State.testCfgWrite n v) hb hn).trans (by rw [State.testCfgWrite, if_neg hrange, if_pos hpat])
  · have hgo : ¬ (F.LANE.TEST_CFG_GEN_EN.of v = 1 ∧ F.LANE.TEST_CFG_GEN_EN.of (s.reg (F.LANE.TEST_CFG.addr (pLANE n))) = 0 ∧
        (!s.countsOff (s.laneOwner n)) = true) := by
      obtain h | h := hfree <;> simp [h]
    refine (State.onPage_lane (State.testCfgWrite n v) hb hn).trans ?_
    rw [State.testCfgWrite, if_neg hrange, if_neg (by omega), if_neg hgo, if_pos hsame]
  · rw [exec_loopbackWrite_changed hb hn hch, if_pos hlb, State.cfgFree, ← hu]
  · rw [exec_loopbackWrite_changed hb hn hch, if_neg hlb, if_pos ⟨h0, by obtain h | h := hway <;> simp [h]⟩, State.cfgFree, ← hu]
  · rw [exec_loopbackWrite_changed hb hn hch, if_neg hlb, if_neg (not_one_way hrx htx _), hown, Bool.not_false, if_pos rfl, State.cfgFree,
      ← hu]
  · rw [exec_loopbackWrite_changed hb hn hch, if_neg hlb, if_neg (not_one_way hrx htx _), hown, Bool.not_true,
      if_neg Bool.false_ne_true, State.cfgFree, ← hu]
  · change execCheckerLock n s = _
    rw [execCheckerLock]
    exact State.event_of _ (by simp [hn, hrx, hw, hen, hlock, hidle])
  · change execCheckerLock n s = _
    rw [execCheckerLock]
    exact State.event_of_not _ (by simp [hcarry])
  · change execCheckerLost n bits errs s = _
    rw [execCheckerLost]
    exact State.event_of _ (by simp [hn, hw, hlock])

/-! ## Retraining, training and clock recovery -/

theorem exec_laneRetrain_of_works (hb : s.bar (pLANE n) = true) (hn : n < 38) (hw : s.works (pLANE n) = true) :
    exec (.laneRetrain n) s = .next (s.laneCtrlRetrain n) := State.onPage_onLane (State.laneCtrlRetrain n) hb hn hw

theorem exec_laneTrainDone_of_train (hn : n < 38) (hrx : laneRx n = true) (hw : s.works (pLANE n) = true)
    (ht : s.laneState (pLANE n) = laTrain) : exec (.laneTrainDone n) s =
    .next (if laneKind n = 0 ∨ laneKind n = 3 then (s.ffeTrained (pLANE n) (laneKind n == 3)).laneTrained (pLANE n)
      else s.laneTrained (pLANE n)) := by
  change execLaneTrainDone n s = _
  rw [execLaneTrainDone]
  exact (State.event_of _ (by simp [hn, hrx, hw, ht])).trans (by simp only [ht, true_and])

theorem State.laneTrained_of_training {p : Nat} (h : s.laneState p = laTrain ∨ s.laneState p = laAcquire) :
    s.laneTrained p = ((s.laneTo p laTrack).laneBaseline p).raise p F.LANE.intTRAINED := by
  rw [State.laneTrained, if_pos h]

/-- The clock of a lane that is not an SDI input is lost (R361). -/
def State.clockLost (s : State) (n : Nat) (u : State) : State :=
  ((u.setFld (pLANE n) F.LANE.LANE_STATUS_CDR_LOCK 0).rawTo (pLANE n) F.LANE.rawCDR_LOCK false).setLane n
    { u.laneOf n with lostAt := some s.fabric }

theorem exec_cdrLost_of_lane (hn : n < 38) (hrx : laneRx n = true) (hw : s.works (pLANE n) = true)
    (h : s.laneTracks (pLANE n) = true ∨ s.bit (pLANE n) F.LANE.LANE_STATUS_CDR_LOCK = true) (hkind : laneKind n ≠ 1) :
    exec (.cdrLost n) s = .next (s.clockLost n (if s.laneTracks (pLANE n) then
      ((s.raise (pLANE n) F.LANE.intCDR_LOST).err (pLANE n) 2).laneTo (pLANE n) laDown else s)) := by
  change execCdrLost n s = _
  rw [execCdrLost]
  refine (State.event_of _ (by obtain h | h := h <;> simp [hn, hrx, hw, h])).trans ?_
  simp only [if_neg hkind, State.clockLost]

/-! ## Ports -/

/-- A port that carries no gated flow loses its link (R320). -/
theorem State.ethLost_of_ungated {p : Nat} (h : s.gatedPort p = false) : s.ethLost p =
    (((s.raise (pETH p) F.ETH.intLINK_DOWN).err (pETH p) 7).logEv (pETH p) F.ETH.intLINK_DOWN 4 0 []).ethDown p := by
  simp only [State.ethLost, h, Bool.false_eq_true, if_false]

theorem exec_laneModeNextWrite_port0 (v : Word) (hb : s.bar (pETH 0) = true) :
    exec (.laneModeNextWrite 0 v) s = .next (s.laneModeNext 0 v) := State.onPage_of_bar (fun s => s.laneModeNext 0 v) hb

/-- A port attempt whose time is up. -/
theorem exec_ethAttemptTimeout_due {p : Nat} {b : Bool} (hp : p < 8) (hw : s.works (pETH p) = true)
    (h : (s.ethLink p = ekAn ∧ b = true) ∨ s.ethLink p = ekTrain ∨
      (s.ethLink p = ekAlign ∧ s.time.root ≥ Tab.get 0 s.ethAt p + 6000000000)) : exec (.ethAttemptTimeout p b) s =
    .next (if s.ethLink p = ekAn then (s.raise (pETH p) F.ETH.intAN_FAIL).ethDown p
      else if s.ethLink p = ekTrain then (s.ethLanesFail p).ethDown p else s.ethDown p) := by
  change execEthAttemptTimeout p b s = _
  rw [execEthAttemptTimeout]
  refine State.event_of _ ?_
  obtain ⟨hlink, hb⟩ | hlink | ⟨hlink, htime⟩ := h
  · simp [hp, hw, hlink, hb]
  · simp [hp, hw, hlink]
  · simp [hp, hw, hlink, htime]

/-- Settles O41: RETRAIN by the kind of the lane, training and its failure, clock recovery, the states of a port, and the rate search of
an SDI link. Where a port with a test pattern goes and whose lanes LANE_TRAIN_FAIL speaks of are the model's choices (log 177, 178). -/
theorem lanesAndLinksComeUp : Obligations.LanesAndLinksComeUp := by
  refine ⟨fun s n hb hn hw hlost hkind => ?_, fun s n hb hn hw hlost hkind hbusy => ?_, fun s n hb hn hw hlost hkind hbusy => ?_,
    fun s n hb hn hw hlost hkind hbusy hup => ?_, fun s n hb hn hw hlost => ?_, fun s n hn hrx hw ht h0 h3 => ?_,
    fun s n hn hrx hw ht hkind => ?_, fun s p h => State.laneTrained_of_training h, fun s n hn hw ht hkind => ?_,
    fun s n hn hw ht hkind hdown => ?_, fun s u n hn hrx hw htr hkind hu => ?_, fun s n hn hrx hw htr hcdr hkind => ?_,
    fun s n hn hrx hw hcdr hst hkind => ?_, fun s p hp hw hlink => ?_, fun s p hp hw hlink => ?_, fun s p b hp hw hlink => ?_,
    fun s p b hp hw hlink htime => ?_, fun s p b hlink => ?_, fun s p hp hw hlink hall => ?_, fun s p hp hw hlink => ?_,
    fun s p hp hw hlink hgate => ?_, fun s p hp hw hlink htime => ?_, fun s p hlink => ?_, fun s v hb hv => ?_, fun s v hb hv => ?_,
    fun s p v hp => ?_, fun s n i hn hw hi hlock hcdr htime => ?_, fun s n i htime => ?_, fun s u n hn hw hlinks hlock hcdr hc hu hul => ?_,
    fun s n i hn hw hi hlock => ?_, fun s n i hlock => ?_⟩
  · rw [exec_laneRetrain_of_works hb hn hw, State.laneCtrlRetrain, if_neg hlost, if_pos hkind]
  · rw [exec_laneRetrain_of_works hb hn hw, State.laneCtrlRetrain, if_neg hlost, if_neg hkind, if_pos hbusy]
  · rw [exec_laneRetrain_of_works hb hn hw, State.laneCtrlRetrain, if_neg hlost]
    simp [hkind, hbusy]
  · rw [exec_laneRetrain_of_works hb hn hw, State.laneCtrlRetrain, if_neg hlost]
    simp [hkind, hbusy, hup, State.laneAcquire]
  · rw [exec_laneRetrain_of_works hb hn hw, State.laneCtrlRetrain, if_pos hlost]
  · rw [exec_laneTrainDone_of_train hn hrx hw ht, if_neg (not_or.2 ⟨h0, h3⟩), State.laneTrained_of_training (Or.inl ht)]
  · rw [exec_laneTrainDone_of_train hn hrx hw ht, if_pos hkind]
  · change execLaneTrainFail n s = _
    rw [execLaneTrainFail]
    refine (State.event_of _ (by simp [hn, hw, ht, hkind])).trans ?_
    simp [hkind]
  · change execLaneTrainFail n s = _
    rw [execLaneTrainFail]
    refine (State.event_of _ (by simp [hn, hw, ht, hkind])).trans ?_
    simp [hkind, hdown]
  · rw [exec_cdrLost_of_lane hn hrx hw (Or.inl htr) hkind, htr, if_pos rfl, ← hu, State.clockLost]
  · rw [exec_cdrLost_of_lane hn hrx hw (Or.inr hcdr) hkind, htr, if_neg Bool.false_ne_true, State.clockLost]
  · change execCdrLock n s = _
    rw [execCdrLock]
    refine (State.event_of _ (by obtain h | h := hst <;> simp [hn, hrx, hw, hcdr, h])).trans ?_
    rw [if_neg hkind]
  · change execAnComplete p s = _
    rw [execAnComplete]
    exact State.event_of _ (by simp [hp, hw, hlink])
  · rw [exec_ethAttemptTimeout_due hp hw (Or.inl ⟨hlink, rfl⟩), if_pos hlink]
  · rw [exec_ethAttemptTimeout_due hp hw (Or.inr (Or.inl hlink)), if_neg (by rw [hlink]; decide), if_pos hlink]
  · rw [exec_ethAttemptTimeout_due hp hw (Or.inr (Or.inr ⟨hlink, htime⟩)), if_neg (by rw [hlink]; decide), if_neg (by rw [hlink]; decide)]
  · change execEthAttemptTimeout p b s = _
    rw [execEthAttemptTimeout]
    exact State.event_of_not _ (by simp [hlink, ekUp, ekAn, ekTrain, ekAlign])
  · change execEthTrainDone p s = _
    rw [execEthTrainDone]
    refine State.event_of _ ?_
    simp only [hp, hw, hlink, decide_true, beq_self_eq_true, Bool.true_and, List.all_eq_true, Bool.or_eq_true, beq_iff_eq]
    exact fun l hl => Or.inl (hall l hl)
  · change execLinkUp p s = _
    rw [execLinkUp]
    exact State.event_of _ (by simp [hp, hw, hlink])
  · change execLinkDown p s = _
    rw [execLinkDown]
    exact (State.event_of _ (by simp [hp, hw, hlink])).trans (by rw [State.ethLost_of_ungated hgate])
  · change execRetryMsExpiry p s = _
    rw [execRetryMsExpiry]
    exact State.event_of _ (by simp [hp, hw, hlink, htime])
  · change execRetryMsExpiry p s = _
    rw [execRetryMsExpiry]
    exact State.event_of_not _ (by simp [hlink])
  · rw [exec_laneModeNextWrite_port0 v hb, State.laneModeNext, if_neg (not_not.2 rfl), if_pos hv]
  · rw [exec_laneModeNextWrite_port0 v hb, State.laneModeNext, if_neg (not_not.2 rfl), if_neg hv]
  · exact State.onPage_of_eq (p := pETH p) (fun s => if p < 8 then s.laneModeNext p v else s)
      (by rw [State.laneModeNext, if_pos hp, ite_self])
  · change execSdiRateDwell n i s = _
    rw [execSdiRateDwell]
    exact State.event_of _ (by simp [hn, hw, hi, hlock, hcdr, htime])
  · change execSdiRateDwell n i s = _
    rw [execSdiRateDwell]
    exact State.event_of_not _ (by simp [htime])
  · have hall : (List.range (s.sdiLinks n)).all (u.sdiLocked n) = true := by
      rw [hlinks]
      simpa using hul
    change execSdiLinkLock n 0 s = _
    rw [execSdiLinkLock]
    refine (State.event_of _ (by simp [hn, hw, hlinks, hlock, hcdr])).trans ?_
    simp only [if_true, ← hu, hall]
  · change execSdiLockLoss n i s = _
    rw [execSdiLockLoss]
    exact State.event_of _ (by simp [hn, hw, hi, hlock])
  · simp only [State.sdiLose, hlock, if_true]

end Sys2Proof.Machine

/-! SUPPORT. The statements about Ethernet frames and about pictures, packets and rows of the inputs (R92 to R112, R141, R319 to R326). -/

namespace Sys2Proof.Machine

variable {s : State} {p n : Nat}

/-! ## Ethernet frames -/

theorem exec_ethFrameReceive_up {u : State} {cw uw sy : Nat} (g : Bool) (fr : List Byte) (back : Nat) (hu : u = s.fecCount p cw uw sy)
    (hp : p < 8) (hw : s.works (pETH p) = true) (hup : s.portUp p = true) :
    exec (.ethFrameReceive p g fr back cw uw sy) s = .next (u.ethFrame p g fr back) := by
  change execEthFrameReceive p g fr back cw uw sy s = _
  rw [execEthFrameReceive, hu]
  exact State.event_of _ (by simp [hp, hw, hup])

/-- A good frame of a length that a port takes (R321). -/
theorem State.ethFrame_of_length {fr : List Byte} (back : Nat) (hlo : 60 ≤ fr.length) (hhi : fr.length ≤ 9212) : s.ethFrame p true fr back =
    (if ethType fr = 0x8808 then s.err (pETH p) 5
    else if s.tagAccepted p fr && s.daAccepted p fr then (s.incFld (pETH p) F.ETH.RX_FRAMES).ethDeliver p fr back
    else s) := by
  rw [State.ethFrame, Bool.not_true, if_neg Bool.false_ne_true, if_neg (by omega)]

theorem exec_subWrite_of_bar (source : Bool) (v : Word) (hp : p < 8) (hn : n < 128) (hb : s.bar (pETH p) = true) :
    exec (.subWrite p n source v) s = .next (State.subWrite p n source v s) := by
  change execSubWrite p n source v s = _
  rw [execSubWrite, if_pos ⟨hp, hn⟩]
  exact State.onPage_of_bar (State.subWrite p n source v) hb

/-- Settles O42: the counts of a received frame, its checks in order, its taker, subscriptions, host records, and the end of a frame.
The counts of codewords are log 106. -/
theorem ethernetFramesGoToTheirTaker : Obligations.EthernetFramesGoToTheirTaker := by
  refine ⟨fun s p cw uw sy huw => ⟨?_, rfl⟩, fun s p back cw uw sy g fr hup => ?_, fun s u p back cw uw sy fr hu hp hw hup => ?_,
    fun s u p back cw uw sy fr hu hp hw hup hlen => ?_, fun s u p back cw uw sy fr hu hp hw hup hlo hhi hty => ?_,
    fun s u p back cw uw sy fr hu hp hw hup hlo hhi hty hacc => ?_, fun s u p back cw uw sy fr hu hp hw hup hlo hhi hty htag hda => ?_,
    fun s p back fr e he => ?_, fun s p back fr x xs he hx => ?_, fun s p back fr he hx hhost => ?_, fun s p back fr he hx hhost => ?_,
    fun s p n v hp hn hb => ?_, fun s p n v hp hn hb h0 h14 => ?_, fun s p n v hp hn hb hv => ?_,
    fun s t p rec hp hw hen hring htake => ?_, fun s p hp hw hen htake => ?_, fun s p rec hlo hhi hst => ?_, fun s p rec hlen hst => ?_,
    fun s p back q f hp hw hsend => ?_, fun s p back hsend => ?_⟩
  · rw [State.fecCount, if_neg huw]
  · change execEthFrameReceive p g fr back cw uw sy s = _
    rw [execEthFrameReceive]
    exact State.event_of_not _ (by simp [hup])
  · rw [exec_ethFrameReceive_up false fr back hu hp hw hup, State.ethFrame, Bool.not_false, if_pos rfl]
  · rw [exec_ethFrameReceive_up true fr back hu hp hw hup, State.ethFrame, Bool.not_true, if_neg Bool.false_ne_true, if_pos hlen]
  · rw [exec_ethFrameReceive_up true fr back hu hp hw hup, State.ethFrame_of_length back hlo hhi, if_pos hty]
  · rw [exec_ethFrameReceive_up true fr back hu hp hw hup, State.ethFrame_of_length back hlo hhi, if_neg hty, if_neg]
    obtain h | h := hacc <;> simp [h]
  · rw [exec_ethFrameReceive_up true fr back hu hp hw hup, State.ethFrame_of_length back hlo hhi, if_neg hty, htag, hda,
      Bool.and_self, if_pos rfl]
  · simp only [State.ethDeliver, he]
  · simp only [State.ethDeliver, he, hx]
  · simp only [State.ethDeliver, he, hx, if_pos hhost]
  · simp only [State.ethDeliver, he, hx, hhost, Bool.false_eq_true, if_false]
  · rw [exec_subWrite_of_bar true v hp hn hb, State.subWrite, if_pos rfl]
  · rw [exec_subWrite_of_bar false v hp hn hb, State.subWrite, if_neg Bool.false_ne_true, if_pos ⟨h0, h14⟩]
  · rw [exec_subWrite_of_bar false v hp hn hb, State.subWrite, if_neg Bool.false_ne_true, if_neg]
    rintro ⟨h0, h14⟩
    exact hv.elim h0 h14
  · change execHostTxRecord p s = _
    rw [execHostTxRecord]
    exact (State.event_of _ (by simp [hp, hw, hen, hring])).trans (by simp only [htake])
  · change execHostTxRecord p s = _
    rw [execHostTxRecord, State.event]
    simp only [htake, ite_self]
  · have hlen : ¬ (leNat (rec.take 8) % 2 ^ 14 < 14 ∨ 9212 < leNat (rec.take 8) % 2 ^ 14) := by omega
    have hst' : leNat (rec.take 8) / 2 ^ 16 % 2 ≠ 1 := by omega
    simp only [State.hostTx, if_neg hlen, if_neg hst']
  · have hst' : leNat (rec.take 8) / 2 ^ 16 % 2 ≠ 1 := by omega
    simp only [State.hostTx, if_pos hlen, if_neg hst', State.txStamp]
  · change execFrameTransmitEnd p back s = _
    rw [execFrameTransmitEnd]
    exact (State.event_of _ (by simp [hp, hw, hsend])).trans (by simp only [hsend])
  · change execFrameTransmitEnd p back s = _
    rw [execFrameTransmitEnd]
    exact State.event_of_not _ (by simp [hsend])

/-! ## SDI pictures and ancillary packets -/

theorem exec_sdiPictureArrival_locked (x : SdiPicture) (hn : n < 16) (hw : s.works (pSDIRX n) = true)
    (hl : s.bit (pSDIRX n) F.SDIRX.LOCK_STATUS_LOCKED = true) (hr : s.running = true) :
    exec (.sdiPictureArrival n x) s = .next ((s.sdiPicture n x).ancFlush n) := by
  change execSdiPictureArrival n x s = _
  rw [execSdiPictureArrival]
  exact State.event_of _ (by simp [hn, hw, hl, hr])

/-- The phase of a picture is shown, and warned of where it is wide (R108, R109). -/
def State.phased (s : State) (n : Nat) (ph : Int) : State :=
  if phaseWide ph (s.rateOf (s.indexGroup (pSDIRX n))).1 (s.rateOf (s.indexGroup (pSDIRX n))).2 then
    (s.setReg (F.SDIRX.PHASE.addr (pSDIRX n)) (satWord ph)).raise (pSDIRX n) F.SDIRX.intPHASE_WARN
  else s.setReg (F.SDIRX.PHASE.addr (pSDIRX n)) (satWord ph)

theorem State.sdiIndex_of_stamp {m : Nat} {ph : Int} (x : SdiPicture) (h : s.sdiStamp n = (m, ph)) : s.sdiIndex n x =
    (if (s.phased n ph).indexDup (pSDIRX n) m then ((s.phased n ph).raise (pSDIRX n) F.SDIRX.intINDEX_DUP).err (pSDIRX n) 4
    else (((s.phased n ph).acceptPic (pSDIRX n) m).updPic (pSDIRX n) m fun y =>
      { y with
        groups := (x.data.filter fun d => s.sdiInTime (pSDIRX n) m d.1).foldl
          (fun t d => putGroups t d.1 d.2.1 d.2.2) y.groups }).put64L (pSDIRX n) F.SDIRX.LAST_INDEX_LO m) := by
  rw [State.sdiIndex, h]
  rfl

theorem exec_ancPacket_locked {x : AncPacket} (hn : n < 16) (hw : s.works (pSDIRX n) = true) (hlink : x.link < s.sdiLinks n)
    (hl : s.sdiLocked n x.link = true) : exec (.ancPacket n x) s = .next (s.ancArrives n x) := by
  change execAncPacket n x s = _
  rw [execAncPacket]
  exact State.event_of _ (by simp [hn, hw, hlink, hl])

/-- The condition under which a packet is written or waits (R97). -/
theorem anc_taken {x : AncPacket} (hen : s.act (pSDIRX n) F.SDIRX.SDI_CFG_ANC_EN = 1)
    (hm : ((List.range 16).any (s.ancMatch (pSDIRX n) x)) = true) :
    (s.act (pSDIRX n) F.SDIRX.SDI_CFG_ANC_EN == 1 && (List.range 16).any (s.ancMatch (pSDIRX n) x)) = true := by
  rw [hen, hm]
  rfl

/-! ## Paths and rows -/

theorem exec_ipinPathInactive_eq (b : Nat) : exec (.ipinPathInactive n b) s =
    s.event (decide (n < 32) && decide (b < 2) && s.works (pIPIN n) && s.isPathActive (pIPIN n) b &&
      decide ((s.now - (s.path (pIPIN n) b).last) * (s.rateOf (s.indexGroup (pIPIN n))).1 ≥
        (s.rateOf (s.indexGroup (pIPIN n))).2 * 1000000000)) fun s => (s.pathActive (pIPIN n) b false).raise (pIPIN n) (9 + 2 * b) := rfl

/-- Every element of a list that takeWhile keeps satisfies its test. -/
theorem getElem_of_lt_length_takeWhile {α : Type} {q : α → Bool} {l : List α} {i : Nat} (hi : i < (l.takeWhile q).length)
    (hl : i < l.length) : q l[i] = true := by
  have hmem := List.mem_takeWhile_imp (List.getElem_mem hi)
  rwa [(List.takeWhile_prefix q).getElem hi] at hmem

/-- Settles O43: SDI pictures by their format and skew, their index, ancillary packets, IP paths, lost numbers, and the lines of a row.
Payload IDs and packets ahead of their picture, the lines read early, and the packets whose checksums count are log 121, 265 and 300. -/
theorem inputPicturesAndPackets : Obligations.InputPicturesAndPackets := by
  refine ⟨fun s u n x hn hw hl hr hu hm hs => ?_, fun s u n x hn hw hl hr hu hm hs => ?_, fun s u n x hn hw hl hr hu hm hs => ?_,
    fun s u n x hn hw hl hr hu hm hs => ?_, fun s u n m ph x hst hu hdup => ?_, fun s u n m ph x hst hu hdup => ?_,
    fun s n m x hn hw hlink hl hid hen hmatch hahead harr => ?_, fun s n x hn hw hlink hl hid hen hmatch hahead => ?_,
    fun s u n x hn hw hlink hl hid hen hu hen' => ?_, fun s n x h => ?_, fun s u p m x hu hroom => ?_, fun s u p m x hu hroom => ?_,
    fun s n b hn hb hw hact hlate => ?_, fun s n b hn hb hw hact hlate => ?_, fun s n hn hw hmode hheld => ?_, fun s n hheld => ?_,
    fun s n k hn hw hr hk hst hrow hdue => ?_, fun s n k hdue => ?_, fun s n k d i hto hle hi => ?_, fun s n k => rfl⟩
  · rw [exec_sdiPictureArrival_locked x hn hw hl hr]
    simp only [State.sdiPicture, ← hu, hm, if_true, Nat.not_lt.2 hs, if_false, Bool.true_or]
  · rw [exec_sdiPictureArrival_locked x hn hw hl hr]
    simp only [State.sdiPicture, ← hu, hm, if_true, gt_iff_lt, hs, Bool.true_or]
  · rw [exec_sdiPictureArrival_locked x hn hw hl hr]
    simp only [State.sdiPicture, ← hu, hm, Bool.false_eq_true, if_false, gt_iff_lt, hs, if_true, decide_true, Bool.or_true]
  · rw [exec_sdiPictureArrival_locked x hn hw hl hr]
    simp only [State.sdiPicture, ← hu, hm, Bool.false_eq_true, if_false, gt_iff_lt, Nat.not_lt.2 hs, decide_false, Bool.or_self]
  · have hu' : u = s.phased n ph := hu
    rw [State.sdiIndex_of_stamp x hst, ← hu', if_pos hdup]
  · have hu' : u = s.phased n ph := hu
    rw [State.sdiIndex_of_stamp x hst, ← hu', hdup, if_neg Bool.false_ne_true]
  · rw [exec_ancPacket_locked hn hw hlink hl]
    simp only [State.ancArrives, hid, Bool.false_eq_true, if_false, anc_taken hen hmatch, if_true, hahead, harr]
  · rw [exec_ancPacket_locked hn hw hlink hl]
    simp only [State.ancArrives, hid, Bool.false_eq_true, if_false, anc_taken hen hmatch, if_true, hahead]
  · rw [exec_ancPacket_locked hn hw hlink hl]
    simp [State.ancArrives, hid, ← hu, hen']
  · change execAncPacket n x s = _
    rw [execAncPacket]
    refine State.event_of_not _ ?_
    obtain h | h := h
    · simp [h]
    · simp [h]
  · simp only [State.ancWrite, ← hu, hroom, Bool.false_eq_true, if_false]
  · simp only [State.ancWrite, ← hu, hroom, if_true]
  · rw [exec_ipinPathInactive_eq, decide_eq_true hlate, decide_eq_true hn, decide_eq_true hb, hw, hact]
    exact State.event_of _ rfl
  · rw [exec_ipinPathInactive_eq, decide_eq_false (Nat.not_le.2 hlate), Bool.and_false]
    exact State.event_of_not _ rfl
  · change execIpinSeqLost n s = _
    rw [execIpinSeqLost]
    exact State.event_of _ (by rw [hheld, decide_eq_true hn, hw, hmode]; rfl)
  · change execIpinSeqLost n s = _
    rw [execIpinSeqLost]
    exact State.event_of_not _ (by rw [hheld, Bool.and_false])
  · change execRowReadInstant n k s = _
    rw [execRowReadInstant]
    exact State.event_of _ (by
      rw [decide_eq_true hn, hw, hr, decide_eq_true hk, hst, decide_eq_true hrow, decide_eq_true hdue]
      rfl)
  · change execRowReadInstant n k s = _
    rw [execRowReadInstant]
    exact State.event_of_not _ (by rw [decide_eq_false (Nat.not_lt.2 hdue), Bool.and_false])
  · have hlen := Nat.add_left_cancel hto
    have hlt : i < ((List.range (min (64 * k + 64) (s.srcH n) - (s.srcOf n).done)).map ((s.srcOf n).done + ·)).length := by
      rw [List.length_map, List.length_range]
      omega
    have hline := getElem_of_lt_length_takeWhile (q := s.lineDue n) (by rw [hlen]; exact hi) hlt
    rwa [List.getElem_map, List.getElem_range] at hline

end Sys2Proof.Machine

/-! SUPPORT. The statements about fences and protected registers (R121, R127), about the life of a row (R138 to R147, R196, R205),
and about a chamber that faults, leaves and joins (R146, R160, R161). -/

namespace Sys2Proof.Machine

variable {s : State} {c h i n k r : Nat}

/-! ## Fences and protected registers -/

theorem toNat_two_pow (hi : i < 8) : (BitVec.ofNat 32 (2 ^ i)).toNat = 2 ^ i := by
  rw [BitVec.toNat_ofNat]
  exact Nat.mod_eq_of_lt (Nat.pow_lt_pow_right (by decide) (by omega))

/-- Of a word with one bit set the fold over the bits acts on that bit only. -/
theorem two_pow_bit_iff {j : Nat} : 2 ^ i / 2 ^ j % 2 = 1 ↔ i = j := by
  have hbit := Nat.testBit_two_pow (n := i) (m := j)
  rw [Nat.testBit_eq_decide_div_mod_eq] at hbit
  exact decide_eq_decide.1 hbit

/-- A fold over numbers without repeats that acts on one of them is that one act. -/
theorem foldl_act_once {α : Type} (f : α → Nat → α) : ∀ (js : List Nat) (a : α), js.Nodup → i ∈ js →
    js.foldl (fun t j => if i = j then f t j else t) a = f a i
  | [], _, _, hm => absurd hm List.not_mem_nil
  | j :: js, a, hn, hm => by
    rw [List.nodup_cons] at hn
    rw [List.foldl_cons]
    obtain rfl | hne := eq_or_ne i j
    · rw [if_pos rfl]
      exact foldl_eq_self js fun j hj => if_neg (ne_of_mem_of_not_mem hj hn.1).symm
    · rw [if_neg hne]
      exact foldl_act_once f js a hn.2 ((List.mem_cons.1 hm).resolve_left hne)

theorem State.fenceSignal_two_pow (hi : i < 8) (h1 : 1 ≤ i) : State.fenceSignal n (BitVec.ofNat 32 (2 ^ i)) s = s.fenceDone n i 1 := by
  simp only [State.fenceSignal, toNat_two_pow hi, two_pow_bit_iff]
  refine foldl_act_once (fun (t : State) j => t.fenceDone n j 1) _ s (by decide) ?_
  interval_cases i <;> decide

/-- Bits 1 to 7 of a word in which all of them are 0. -/
theorem div_two_pow_of_low_zero {v j : Nat} (hv : v / 2 % 128 = 0) (hj : j ∈ (List.range 8).drop 1) : v / 2 ^ j % 2 = 0 := by
  have hlist : (List.range 8).drop 1 = [1, 2, 3, 4, 5, 6, 7] := rfl
  rw [hlist] at hj
  simp only [List.mem_cons, List.not_mem_nil, or_false] at hj
  obtain rfl | rfl | rfl | rfl | rfl | rfl | rfl := hj <;> omega

theorem State.protWrite_locked (v : Word) (hl : s.bit (pSRC n) F.SRC.PROT_LOCK_LOCK = true) : State.protWrite true n r v s = s := by
  rw [State.protWrite, Bool.not_true, if_neg Bool.false_ne_true, if_pos hl]

theorem State.protWrite_open {row : RegRow} (v : Word) (hl : s.bit (pSRC n) F.SRC.PROT_LOCK_LOCK = false)
    (hrow : RegRow.find regRowsSRC (0x600 + 4 * r) = some row) : State.protWrite true n r v s =
      s.setReg (pSRC n * 0x1000 + 0x600 + 4 * r) (row.written (s.reg (pSRC n * 0x1000 + 0x600 + 4 * r)) v) := by
  simp only [State.protWrite, Bool.not_true, Bool.false_eq_true, if_false, hl, hrow]

theorem exec_protWrite_of_lt (byLantern : Bool) (v : Word) (hn : n < 32) (hr : r < 7) : exec (.protWrite byLantern n r v) s =
    (if byLantern then .next (State.protWrite true n r v s) else s.onPage (pSRC n) (State.protWrite false n r v)) := by
  change execProtWrite byLantern n r v s = _
  rw [execProtWrite, if_pos ⟨hn, hr⟩]

theorem exec_protLock_of_lt (byLantern : Bool) (hn : n < 32) : exec (.protLock byLantern n) s =
    (if byLantern then .next (State.protWrite true n 7 1#32 s) else s.onPage (pSRC n) (State.protWrite false n 7 1#32)) := by
  change execProtLock byLantern n s = _
  rw [execProtLock, if_pos hn]

/-- Settles O44: the fence counts named by a write, and the PROT registers, which only Lantern writes, until LOCK is set. -/
theorem fencesAndProtectedRegisters : Obligations.FencesAndProtectedRegisters := by
  refine ⟨fun s n v hn hb => ?_, fun s n i hi h1 => State.fenceSignal_two_pow hi h1, fun s n v hv => ?_,
    fun s n r v hn hr hb => ⟨?_, ?_⟩, fun s n r v hn hr hl => ⟨?_, ?_⟩, fun s n r v row hn hr hl hrow => ?_,
    fun s n row hn hl hrow => ?_⟩
  · change execFenceSignal n v s = _
    rw [execFenceSignal, if_pos hn]
    exact State.onPage_of_bar (State.fenceSignal n v) hb
  · rw [State.fenceSignal]
    exact foldl_eq_self _ fun j hj => if_neg (by rw [div_two_pow_of_low_zero hv hj]; decide)
  · rw [exec_protWrite_of_lt false v hn hr, if_neg Bool.false_ne_true]
    exact State.onPage_of_bar (State.protWrite false n r v) hb
  · rw [exec_protLock_of_lt false hn, if_neg Bool.false_ne_true]
    exact State.onPage_of_bar (State.protWrite false n 7 1#32) hb
  · rw [exec_protWrite_of_lt true v hn hr, if_pos rfl, State.protWrite_locked v hl]
  · rw [exec_protLock_of_lt true hn, if_pos rfl, State.protWrite_locked _ hl]
  · rw [exec_protWrite_of_lt true v hn hr, if_pos rfl, State.protWrite_open v hl hrow]
  · rw [exec_protLock_of_lt true hn, if_pos rfl, State.protWrite_open _ hl hrow]

/-! ## The life of a row -/

theorem exec_rowRelease_of_picRec (lost : Bool) {x : PicRec} (hx : s.picRec c n = some x) : exec (.rowRelease c n k lost) s =
    s.event (decide (c < 64) && s.chanOn c && (s.released c x k && s.rowReady c n k &&
      s.decidesNext c (x.fire * 1000 + (s.geo c).releaseAt k) && (decide (k = x.rows.length) || (s.receiving c n && decide (k = x.fed)))))
      fun s => (s.takeRow c n k lost).placeRow c n k := by
  change execRowRelease c n k lost s = _
  simp only [execRowRelease, hx]

/-- What ends a CTU leaves of the state before the row goes on. -/
theorem State.ctuEnd_of_rowRec {u v : State} {x : PicRec} {r : RowRec} (hrec : s.rowRec c n k = some (x, r))
    (hu : u = s.takeCode h c n k r (s.codeCtu h c x r k))
    (hv : v = ((u.put64L (pCHMB h) F.CHMB.CTU_DONE_LO (u.live64 (pCHMB h) F.CHMB.CTU_DONE_LO + 1)).updChamber h fun y =>
      { y with begun := false })) : s.ctuEnd h c n k =
    (if r.next + 1 = (s.geo c).nRow then
      (if k + 1 = (s.geo c).rRows then (v.endSubstream c n k).noteHash c n else v.endSubstream c n k).rowEnd h c n k
    else v.showChamber h).goOn h c n k := by
  simp only [State.ctuEnd, hrec, ← hu, ← hv]

theorem exec_ctuComplete_eq (x : Nat) : exec (.ctuComplete h k x) s =
    s.event (decide (h < 18) && s.works (pCHMB h) && (s.chamber h).begun && s.codesCtu h k x &&
      decide ((s.chamber h).since + (if (s.chamber h).floorCtu then 1280 else 10240) ≤ s.core)) fun s =>
        (s.chamber h).row.elim s fun y => s.ctuEnd h y.1 y.2.1 y.2.2 := by
  change execCtuComplete h k x s = _
  rw [execCtuComplete]
  congr 1
  funext t
  cases (t.chamber h).row <;> rfl

/-- The oldest picture of a channel is the one found under its number. -/
theorem State.picRec_of_head {x : PicRec} {xs : List PicRec} (hp : (s.chanOf c).pics = x :: xs) : s.picRec c x.n = some x := by
  rw [State.picRec, hp]
  exact List.find?_cons_of_pos (by rw [beq_self_eq_true])

theorem exec_outputInstant_eq {x : PicRec} {xs : List PicRec} (hp : (s.chanOf c).pics = x :: xs) : exec (.outputInstant c n k) s =
    s.event (decide (c < 64) && s.chanOn c && s.running && (x.n == n && k == x.sentRows && decide (k < x.rows.length) &&
      ((Tab.get .reset x.rows k).endedAt).isSome && decide (s.outPs c x k ≤ s.nowPs))) fun s =>
        (s.picRec c n).elim s fun x => s.withOld c n fun t => t.outputRow c x k := by
  change execOutputInstant c n k s = _
  simp only [execOutputInstant, hp, List.head?_cons]
  congr 1
  funext t
  cases t.picRec c n <;> rfl

/-- Settles O45: a row is released, dispatched, coded in its fixed time and handed over at its output instant. That LOOK's parity fault
loses the row's costs (the operand `lost`) is log 107. -/
theorem rowsAreReleasedDispatchedCodedAndSent : Obligations.RowsAreReleasedDispatchedCodedAndSent := by
  refine ⟨fun s c n k lost x hc hon hx hrel hready hnext hk => ?_, fun s c n k lost x hc hon hx hrel hready hnext hk => ?_,
    fun s c n k lost x hx hnot => ?_, fun s h w hh hfree hw => ?_, fun s h hnot => ?_,
    fun s h c n j k x hh hw hbegun hrow hcodes htime => ?_, fun s h k x htime => ?_, fun s u v h c n k x r hrec hu hv hr => ?_,
    fun s u v h c n k x r hrec hu hv hr hk => ?_, fun s u v h c n k x r hrec hu hv hr hk => ?_,
    fun s h c x r k e full floor he hfl hfu hfloor => ?_, fun s h c x r k e full floor he hfl hfu hfloor => ?_,
    fun s h c n k r code g => rfl, fun s c n k x xs hc hon hrun hp hxn hk hlt hend hout => ?_, fun s c n k x xs hp hout => ?_⟩
  · rw [exec_rowRelease_of_picRec lost hx]
    exact State.event_of _ (by rw [decide_eq_true hc, hon, hrel, hready, hnext, decide_eq_true hk]; rfl)
  · rw [exec_rowRelease_of_picRec lost hx]
    exact State.event_of _ (by
      rw [decide_eq_true hc, hon, hrel, hready, hnext, hk.1, decide_eq_true hk.2, Bool.true_and, Bool.or_true]
      rfl)
  · rw [exec_rowRelease_of_picRec lost hx]
    refine State.event_of_not _ ?_
    obtain hearly | hready := hnot
    · rw [State.released, decide_eq_false (p := s.nowPs ≥ _) (Nat.not_le.2 hearly)]
      simp only [Bool.and_false, Bool.false_and]
    · simp only [hready, Bool.and_false, Bool.false_and]
  · change execRowDispatch h s = _
    rw [execRowDispatch]
    refine (State.event_of _ (by rw [decide_eq_true hh, hfree, hw]; rfl)).trans ?_
    rw [hw]
  · change execRowDispatch h s = _
    rw [execRowDispatch]
    refine State.event_of_not _ ?_
    obtain hfree | hnone := hnot
    · simp only [hfree, Bool.and_false, Bool.false_and]
    · rw [hnone, Option.isSome_none, Bool.and_false]
  · rw [exec_ctuComplete_eq]
    refine (State.event_of _ (by rw [decide_eq_true hh, hw, hbegun, hcodes, decide_eq_true htime]; rfl)).trans ?_
    rw [hrow, Option.elim_some]
  · rw [exec_ctuComplete_eq, decide_eq_false (Nat.not_le.2 htime), Bool.and_false]
    exact State.event_of_not _ rfl
  · rw [State.ctuEnd_of_rowRec hrec hu hv, if_neg hr]
  · rw [State.ctuEnd_of_rowRec hrec hu hv, if_pos hr, if_neg hk]
  · rw [State.ctuEnd_of_rowRec hrec hu hv, if_pos hr, if_pos hk]
  · rw [hfl, he, State.codeCtu, if_pos hfloor]
  · rw [hfl, hfu, he, State.codeCtu, if_neg (Bool.not_eq_true _ ▸ hfloor)]
    rfl
  · rw [exec_outputInstant_eq hp]
    refine (State.event_of _ (by
      rw [decide_eq_true hc, hon, hrun, hxn, ← hk, decide_eq_true hlt, hend, decide_eq_true hout, beq_self_eq_true, beq_self_eq_true]
      rfl)).trans ?_
    rw [← hxn, State.picRec_of_head hp, Option.elim_some]
  · rw [exec_outputInstant_eq hp]
    exact State.event_of_not _ (by rw [decide_eq_false (Nat.not_le.2 hout)]; simp only [Bool.and_false])

/-! ## Chambers -/

theorem exec_chamberFault_eq (hh : h < 18) (hst : s.st (pCHMB h) = stOn ∨ s.st (pCHMB h) = stDraining) : exec (.chamberFault h) s =
    .next ((s.chamber h).row.elim
      (((((s.err (pCHMB h) 0).enterFault (pCHMB h) 0x0E).chamberGone h).unassign h).updChamber h fun y =>
        { y with preempt := false, joinAt := none })
      fun y => (((((((s.err (pCHMB h) 0).enterFault (pCHMB h) 0x0E).chamberGone h).unassign h).updChamber h fun y =>
        { y with preempt := false, joinAt := none }).resumeRow y.1 y.2.1 y.2.2).placeResumed)) := by
  change execChamberFault h s = _
  rw [execChamberFault]
  refine (State.event_of _ ?_).trans ?_
  · rw [decide_eq_true hh, Bool.true_and, Bool.or_eq_true, beq_iff_eq, beq_iff_eq]
    exact hst
  · cases (s.chamber h).row <;> rfl

theorem exec_chmbPoolJoin_eq : exec (.chmbPoolJoin h) s =
    s.event (decide (h < 18) && s.isOn (pCHMB h) && s.works (pCHMB h) && !(s.chamber h).pooled && (s.chamber h).joinAt.elim false fun t =>
      s.allGrpOff || s.frameAfter (s.page (pCHMB h)).since (t + 1000)) fun s =>
      ({ s.updChamber h fun y => { y with pooled := true, joinAt := none } with remapped := s.remapped - 1 } : State).chamberCount
        (s.fld pSYS F.SYS.ADM_RESOURCES_CHMB_IN_SERVICE + 1)
        (min (s.fld pSYS F.SYS.ADM_RESOURCES_RESERVE_HELD + 1) (s.fld pSYS F.SYS.CHMB_RESERVE_RESERVE)) := by
  change execChmbPoolJoin h s = _
  rw [execChmbPoolJoin]
  cases (s.chamber h).joinAt <;> rfl

/-- Settles O46: the fault of a chamber, its drain, and its joining of the pool. -/
theorem chambersFaultDrainAndJoin : Obligations.ChambersFaultDrainAndJoin := by
  refine ⟨fun s h hh hst hrow => ?_, fun s h c n k hh hst hrow => ?_, fun s h hp => ?_, fun s h hh hst hdr hat => ?_,
    fun s h hall hfr => ?_, fun s h hh hst hdr hrow => ?_, fun s h hnot => ?_, fun s h t hh hon hw hpool hjoin hat => ?_,
    fun s h hjoin => ?_⟩
  · rw [exec_chamberFault_eq hh hst, hrow, Option.elim_none]
  · rw [exec_chamberFault_eq hh hst, hrow, Option.elim_some]
  · rw [State.chamberGone, if_pos hp]
  · change execChmbDrainEffect h s = _
    rw [execChmbDrainEffect]
    refine State.event_of _ ?_
    rw [decide_eq_true hh, hst, hdr, beq_self_eq_true, Bool.not_false, Bool.true_and, Bool.true_and, Bool.true_and, Bool.or_eq_true]
    exact hat
  · change execChmbDrainEffect h s = _
    rw [execChmbDrainEffect]
    exact State.event_of_not _ (by rw [hall, hfr, Bool.or_false, Bool.and_false])
  · change execChmbDrainEnd h s = _
    rw [execChmbDrainEnd]
    exact State.event_of _ (by rw [decide_eq_true hh, hst, hdr, hrow, beq_self_eq_true]; rfl)
  · change execChmbDrainEnd h s = _
    rw [execChmbDrainEnd]
    refine State.event_of_not _ ?_
    obtain hdr | hrow := hnot
    · rw [hdr, Bool.and_false, Bool.false_and]
    · rw [Option.isNone_eq_false_iff.2 hrow, Bool.and_false]
  · rw [exec_chmbPoolJoin_eq]
    refine State.event_of _ ?_
    rw [decide_eq_true hh, hon, hw, hpool, hjoin, Option.elim_some, Bool.not_false, Bool.true_and, Bool.true_and, Bool.true_and,
      Bool.true_and, Bool.or_eq_true]
    exact hat
  · rw [exec_chmbPoolJoin_eq, hjoin, Option.elim_none, Bool.and_false]
    exact State.event_of_not _ rfl

end Sys2Proof.Machine

/-! SUPPORT. The statements about reference blocks, decoders, SDI outputs and TS-insert records (R230, R231, R236, R240 to R243, R256, R335). -/

namespace Sys2Proof.Machine

variable {s t u : State} {b c d e f i m n : Nat}

/-! ## Reference blocks -/

theorem exec_blockRead_of_written {x : PicRec} (q e : Nat) (hc : c < 64) (hon : s.chanOn c = true) (hi : i < (s.chanOf c).bufs.length)
    (hq : q < (s.geo c).nCtu) (hrow : s.rowWritten c i (q / (s.geo c).nRow) = true) (hrd : s.reader c i q b = some x)
    (hb : b < (s.geo c).blocks + 64) : exec (.blockRead c i q b e) s =
      .next (if b < (s.geo c).blocks then s.readBlock c x.n i q b e
        else s.readProxy c x.n i q (b - (s.geo c).blocks) (decide (0 < e))) := by
  change execBlockRead c i q b e s = _
  rw [execBlockRead]
  refine (State.event_of _ ?_).trans ?_
  · rw [decide_eq_true hc, hon, decide_eq_true hi, decide_eq_true hq, decide_eq_true hb, hrow, hrd]
    rfl
  · rw [hrd]

/-- What a failed or void block gives up: all its attempts failed, or the map entry of block 0 names no form (R230). -/
def State.voidBlock (s : State) (c i q b f : Nat) : Bool := b == 0 && !decide (f = s.tries c i q) && s.mapEntry c i q 0 == 0

/-- The read of a block leaves its counts, its samples, and what a failure asks for. -/
theorem State.readBlock_eq {q : Nat}
    (hu : u = ((((s.countReads c i q b f).errBy pREFP 0 f).tookFree).updWin c n i q fun w =>
      { w with mapped := w.mapped || b == 0,
               lost := w.lost || ((b == 0 && !(decide (f = s.tries c i q)) && s.mapEntry c i q 0 == 0)) ||
                 (b == 0 && decide (f = s.tries c i q)),
               blocks := Tab.set [] w.blocks b (s.lastSamples c i q b f) }))
    (hf : f = s.failures c i q b e) : s.readBlock c n i q b e =
    (if s.isPoisoned c i q then u
    else if decide (f = s.tries c i q) = true ∨ s.voidBlock c i q b f = true then u.poisonCtu c n i q b (s.voidBlock c i q b f)
    else if f = 0 then u else (u.err pREFP 1).raise pREFP F.REFP.intCRC_RETRY) := by
  rw [hu, hf]
  rfl

theorem State.tries_of_clean {q : Nat} (hp : s.isPoisoned c i q = false) : s.tries c i q = 3 := by
  rw [State.tries, hp, if_neg Bool.false_ne_true]

/-- An attempt passed and the map entry names a form: nothing is given up. -/
theorem State.block_kept {q : Nat} (hp : s.isPoisoned c i q = false) (hf : f < 3) (hb : b ≠ 0 ∨ s.mapEntry c i q 0 ≠ 0) :
    ¬(decide (f = s.tries c i q) = true ∨ s.voidBlock c i q b f = true) := by
  rw [State.voidBlock, State.tries_of_clean hp, decide_eq_true_eq, Bool.and_eq_true, Bool.and_eq_true, beq_iff_eq, beq_iff_eq]
  omega

theorem State.voidBlock_of_failed {q : Nat} (hp : s.isPoisoned c i q = false) (hf : f = 3) : s.voidBlock c i q b f = false := by
  rw [State.voidBlock, State.tries_of_clean hp, decide_eq_true hf, Bool.not_true, Bool.and_false, Bool.false_and]

theorem State.voidBlock_of_void {q : Nat} (hp : s.isPoisoned c i q = false) (hf : f < 3) (hm : s.mapEntry c i q 0 = 0) :
    s.voidBlock c i q 0 f = true := by
  rw [State.voidBlock, State.tries_of_clean hp, hm, decide_eq_false (by omega)]
  rfl

/-! ## Decoders -/

/-- The packets of a decoder fed by IPIN are taken in order (R241, R243). -/
theorem exec_decInputRecord_of_packet {a : Nat} {pkt : List Byte} {rest : List (Nat × List Byte)} (hd : d < 2)
    (hw : s.works (pDEC d) = true) (hk : s.act (pDEC d) F.DEC.DEC_CFG_INPUT_KIND ≠ 1) (hin : (s.decOf d).input = (a, pkt) :: rest)
    (hu : u = s.updDec d fun x => { x with input := rest }) : exec (.decInputRecord d) s =
      .next ((if u.act (pDEC d) F.DEC.DEC_CFG_TRANSPORT = 0 then u.rtpInput d a pkt
        else (tsSplit ((rtpPayload pkt).length / 188) (rtpPayload pkt)).foldl (State.tsInput d a) u).cpbLevel d) := by
  change execDecInputRecord d s = _
  rw [execDecInputRecord]
  refine (State.event_of _ (by rw [decide_eq_true hd, hw]; rfl)).trans ?_
  simp only [if_neg hk, hin, ← hu]

/-- Whether every CTU of the unit's picture has come and nothing else keeps the picture from completing (log 283). -/
def State.auWhole (s : State) (d : Nat) (a : AccessUnit) (k : DecHead × AuRead) (rows : Nat) : Bool :=
  k.1.sps.all (fun p => decide (ceilDiv p.codedH 64 ≤ rows)) && s.mayComplete d a k && s.slotFree d k.2

/-- What becomes of the oldest unit once its index is or is not known (log 154). -/
theorem exec_decPictureDecoded_unit {rows : Nat} {a : AccessUnit} {as : List AccessUnit} {k : DecHead × AuRead}
    {r : Option Nat × Option (Nat × Int)} (hd : d < 2) (hw : s.works (pDEC d) = true) (ha : (s.decOf d).aus = a :: as)
    (hopen : (a.refused || a.decoded) = false) (hk : k = s.auRead d (s.decOf d).head a) (hr : r = s.auIndex d (s.decOf d).anchor a k)
    (hu : u = s.updDec d fun x => { x with anchor := r.2 }) : exec (.decPictureDecoded d rows) s =
      .next (r.1.elim (if s.auWhole d a k rows then u.decoded d a k none else u) fun n =>
        if !(u.auIndexed d a n).2 then (u.auIndexed d a n).1.auLeave d a
        else if s.auWhole d a k rows then (u.auIndexed d a n).1.decoded d { a with index := some n } k (some n)
        else k.1.sps.elim (u.auIndexed d a n).1 fun p =>
          if s.decSupported d p a.donl && k.2.head.isSome then (u.auIndexed d a n).1.decProgress d n a k p rows
          else (u.auIndexed d a n).1) := by
  change execDecPictureDecoded d rows s = _
  rw [execDecPictureDecoded]
  refine (State.event_of _ (by rw [decide_eq_true hd, hw]; rfl)).trans ?_
  simp only [ha, hopen, Bool.false_eq_true, if_false, ← hk, ← hr, ← hu, State.auWhole]
  obtain hsps | ⟨p, hsps⟩ := Option.eq_none_or_eq_some k.1.sps
  · simp only [hsps, Option.all_none, Option.elim_none]
    cases r.1 <;> rfl
  · simp only [hsps, Option.all_some, Option.elim_some]
    cases r.1 <;> rfl

/-! ## TS-insert records -/

/-- A TS-insert record whose place does not come after the last one's (R335). -/
theorem State.takeHostTs_of_last {j : Nat} (rec : List Byte) (hl : (s.chanOf c).out.lastHost = some (m, j))
    (hafter : rowAfter (leNat (rec.take 8)) (leNat ((rec.drop 8).take 2)) m j = false) : s.takeHostTs c rec =
      ((s.updOut c fun o => { o with lastHost := some (leNat (rec.take 8), leNat ((rec.drop 8).take 2)) }).raise (pCHAN c)
        F.CHAN.intHOST_TS_LATE).errBy (pCHAN c) 5 (hostRecordPackets ((rec.drop 10).getD 0 0).toNat (rec.drop 16)).length := by
  simp only [State.takeHostTs, hl, hafter, Bool.not_false, Bool.true_or, if_true]

theorem exec_tsHostRecord_on (hc : c < 64) (hon : s.chanOn c = true) (hm : s.act (pCHAN c) F.CHAN.OUT_CFG_MODE = 1)
    (hen : s.act (pCHAN c) F.CHAN.TS_CFG_HOST_EN = 1) (hring : s.ringRole (s.act (pCHAN c) F.CHAN.TS_CFG_HOST_RING) 9 = true) :
    exec (.tsHostRecord c) s = .next ((s.takeRecord (s.act (pCHAN c) F.CHAN.TS_CFG_HOST_RING)).elim s fun x => x.2.takeHostTs c x.1) := by
  change execTsHostRecord c s = _
  rw [execTsHostRecord]
  refine (State.event_of _ (by rw [decide_eq_true hc, hon, hm, hen, hring]; rfl)).trans ?_
  cases s.takeRecord (s.act (pCHAN c) F.CHAN.TS_CFG_HOST_RING) <;> rfl

theorem exec_sdiOutPicture_eq : exec (.sdiOutPicture n m) s =
    s.event (decide (n < 2) && s.works (pSDITX n) && s.laneState (sdoLane n) == laTrack && s.running &&
      (decide ((s.sdoOf n).m < m) || !(s.sdoOf n).sent)) fun s => (s.sdoAlign n m).sdoSend n m := rfl

/-- Settles O47: the reading back of reference blocks and proxies, the decoders' records, packets and units, SDI outputs and TS-insert
records. The contents of a decoded picture are log 62, the loss of a proxy sector is log 107, a unit without an index is log 154, and
the completion of a picture before its unit ends is log 283. -/
theorem blocksAreReadBackAndStreamsDecoded : Obligations.BlocksAreReadBackAndStreamsDecoded := by
  refine ⟨fun s c i q b e x hc hon hi hq hrow hrd hb => ?_, fun s c i q b e x hc hon hi hq hrow hrd hlo hhi hlost => ?_,
    fun s c i q b e x hc hon hi hq hrow hrd hlo hhi he hgood => ?_, fun s c i q b e hnot => ?_,
    fun s u c n i q b e f hu hf hp => ?_, fun s u c n i q b e f hu hf hp h0 hb => ?_, fun s u c n i q b e f hu hf hp h0 h3 hb => ?_,
    fun s u c n i q b e f hu hf hp h3 => ?_, fun s u c n i q b e f hu hf hp h3 hb hm => ?_,
    fun s u d rec hd hw hk hring htake => ?_, fun s u d a pkt rest hd hw hk hin hu ht => ?_,
    fun s u d a pkt rest hd hw hk hin hu ht => ?_, fun s t u d rows n a as k r w hd hw ha hopen hk hr hu hwh hn hidx hw1 => ?_,
    fun s t u d rows n a as k r hd hw ha hopen hk hr hu hn hidx => ?_,
    fun s t u d rows n a as k r w hd hw ha hopen hk hr hu hwh hn hidx hw0 => ?_,
    fun s u d rows a as k r w hd hw ha hopen hk hr hu hwh hn hw1 => ?_, fun s u d rows a as k r w hd hw ha hopen hk hr hu hwh hn hw0 => ?_,
    fun s d rows a as ha hclosed => ?_, fun s d rows ha => ?_, fun s n m hn hw hl hr hm => ?_, fun s n m hnot => ?_, fun s n m t ht => ?_,
    fun s n m ht hsent => ?_, fun s u c rec hc hon hm hen hring htake => ?_, fun s c hc hon hm hen hring htake => ?_,
    fun s c m j rec hl hafter => State.takeHostTs_of_last rec hl hafter, fun s c rec hl hlate hr hbad => ?_⟩
  · rw [exec_blockRead_of_written q e hc hon hi hq hrow hrd (by omega), if_pos hb]
  · rw [exec_blockRead_of_written q e hc hon hi hq hrow hrd hhi, if_neg (by omega), State.readProxy, if_pos]
    rw [Bool.or_eq_true, decide_eq_true_eq]
    exact hlost
  · rw [exec_blockRead_of_written q e hc hon hi hq hrow hrd hhi, if_neg (by omega), State.readProxy, if_neg]
    rw [hgood, he]
    decide
  · change execBlockRead c i q b e s = _
    rw [execBlockRead]
    refine State.event_of_not _ ?_
    obtain hrow | hrd := hnot
    · rw [hrow, Bool.and_false, Bool.false_and]
    · rw [hrd, Option.isSome_none, Bool.and_false]
  · rw [State.readBlock_eq hu hf, if_pos hp]
  · rw [State.readBlock_eq hu hf, hp, if_neg Bool.false_ne_true, if_neg (State.block_kept hp (by omega) hb), if_pos h0]
  · rw [State.readBlock_eq hu hf, hp, if_neg Bool.false_ne_true, if_neg (State.block_kept hp h3 hb), if_neg (by omega)]
  · rw [State.readBlock_eq hu hf, hp, if_neg Bool.false_ne_true, State.voidBlock_of_failed hp h3, if_pos]
    exact .inl (decide_eq_true (h3.trans (State.tries_of_clean hp).symm))
  · subst hb
    rw [State.readBlock_eq hu hf, hp, if_neg Bool.false_ne_true, State.voidBlock_of_void hp h3 hm, if_pos (.inr rfl)]
  · change execDecInputRecord d s = _
    rw [execDecInputRecord]
    refine (State.event_of _ (by rw [decide_eq_true hd, hw]; rfl)).trans ?_
    simp only [if_pos hk, if_pos hring, htake]
  · rw [exec_decInputRecord_of_packet hd hw hk hin hu, if_pos ht]
  · rw [exec_decInputRecord_of_packet hd hw hk hin hu, if_neg ht]
  · rw [exec_decPictureDecoded_unit hd hw ha hopen hk hr hu, hn, Option.elim_some, hidx, Bool.not_true, if_neg Bool.false_ne_true,
      if_pos (show s.auWhole d a k rows = true from hwh.symm.trans hw1)]
  · rw [exec_decPictureDecoded_unit hd hw ha hopen hk hr hu, hn, Option.elim_some, hidx, Bool.not_false, if_pos rfl]
  · rw [exec_decPictureDecoded_unit hd hw ha hopen hk hr hu, hn, Option.elim_some, hidx, Bool.not_true, if_neg Bool.false_ne_true,
      show s.auWhole d a k rows = false from hwh.symm.trans hw0, if_neg Bool.false_ne_true]
  · rw [exec_decPictureDecoded_unit hd hw ha hopen hk hr hu, hn, Option.elim_none,
      if_pos (show s.auWhole d a k rows = true from hwh.symm.trans hw1)]
  · rw [exec_decPictureDecoded_unit hd hw ha hopen hk hr hu, hn, Option.elim_none,
      show s.auWhole d a k rows = false from hwh.symm.trans hw0, if_neg Bool.false_ne_true]
  · change execDecPictureDecoded d rows s = _
    rw [execDecPictureDecoded, State.event]
    refine congrArg Host.Outcome.next ?_
    split
    · simp only [ha, hclosed, if_true]
    · rfl
  · change execDecPictureDecoded d rows s = _
    rw [execDecPictureDecoded, State.event]
    refine congrArg Host.Outcome.next ?_
    split
    · simp only [ha]
    · rfl
  · rw [exec_sdiOutPicture_eq]
    refine State.event_of _ ?_
    rw [decide_eq_true hn, hw, hl, hr, beq_self_eq_true]
    obtain hm | hm := hm
    · rw [decide_eq_true hm]
      rfl
    · rw [hm, Bool.not_false, Bool.or_true]
      rfl
  · rw [exec_sdiOutPicture_eq]
    refine State.event_of_not _ ?_
    obtain ⟨hs, hm⟩ | hl := hnot
    · rw [decide_eq_false (Nat.not_lt.2 hm), hs, Bool.not_true, Bool.or_false, Bool.and_false]
    · rw [beq_false_of_ne hl, Bool.and_false, Bool.false_and, Bool.false_and]
  · simp only [State.sdoSend, ht]
  · simp only [State.sdoSend, ht, hsent, if_true]
  · rw [exec_tsHostRecord_on hc hon hm hen hring, htake, Option.elim_some]
  · rw [exec_tsHostRecord_on hc hon hm hen hring, htake, Option.elim_none]
  · simp only [State.takeHostTs, hl, hlate, Bool.or_self, Bool.false_eq_true, if_false, if_pos hr, if_pos hbad]

end Sys2Proof.Machine

/-! SUPPORT. The statements about threads, flows and commands (R419 to R434). -/

namespace Sys2Proof.Machine

variable {s t u v : State} {c f id n tag : Nat} {x : TaskCmd}

/-! ## Threads, flows and Sump (R419 to R426) -/

theorem State.kernelOp_takeItem_free {r : List Nat} (w : Option Nat) (hf : f < 4096) (hh : (s.flow f).holder = none)
    (hi : (s.flow f).items = 0 :: r) : s.kernelOp id (.takeItem f w) = s.setFlow f { items := r, holder := some id } := by
  rw [State.kernelOp, if_neg (by omega), if_pos ⟨by rw [hh, Option.isNone_none], by rw [hi, List.head?_cons]⟩, hi, List.tail_cons]

theorem State.kernelOp_takeItem_waits (w : Option Nat) (hf : f < 4096) (hb : (s.flow f).holder ≠ none ∨ (s.flow f).items = []) :
    s.kernelOp id (.takeItem f w) = s.beginWait id 2 f w := by
  rw [State.kernelOp, if_neg (by omega), if_neg]
  rintro ⟨hn, hi⟩
  obtain hh | he := hb
  · exact hh (Option.isNone_iff_eq_none.1 hn)
  · rw [he, List.head?_nil] at hi
    exact nomatch hi

theorem exec_threadReady_eq : exec (.threadReady id) s =
    s.event (s.works pTASK && (((s.thread id).state == thWaiting && (s.thread id).wait == 1) ||
      ((s.thread id).outcome == 2 && (s.thread id).endedAt / 8 == s.fabric))) fun t =>
        if (s.thread id).state = thWaiting then (t.endWait id 1).timers.taskRun
        else t.setThread id { s.thread id with outcome := 1 } := rfl

theorem exec_threadCreate_of_free {prio : Nat} (hw : s.works pTASK = true) (hid : id < 65536) (hp : prio < 64)
    (hst : (s.thread id).state = 0) : exec (.threadCreate id prio) s =
      .next (if s.onChip.length + s.inSump.length + 1 > 1024 + min 64512 (s.fld pTASK F.TASK.SUMP_SIZE_MIB * 4096) then
        ((s.refuse pTASK Cls.capacity 0x12).err pTASK 2).raise pTASK F.TASK.intSUMP_FULL
      else (s.enterLists id { Thread.reset with prio := prio, state := thReady, order := s.task.seq }).taskRun) := by
  change execThreadCreate id prio s = _
  rw [execThreadCreate]
  exact State.event_of _ (by rw [hw, decide_eq_true hid, decide_eq_true hp, hst]; rfl)

theorem exec_flowPost_of_works (hw : s.works pTASK = true) (hf : f < 4096) : exec (.flowPost f) s =
    .next (if s.flowItems ≥ 16384 then s.refuse pTASK Cls.capacity 0x1D
      else ((s.setFlow f { s.flow f with items := (s.flow f).items ++ [0] }).serveFlow f).timers.taskRun) := by
  change execFlowPost f s = _
  rw [execFlowPost]
  exact State.event_of _ (by rw [hw, decide_eq_true hf]; rfl)

/-- The guard of a Sump fetch. -/
theorem sumpFetch_guard {ns : Nat} (hw : s.works pTASK = true) (he : s.entitled = some id) (hns : ns ≤ 2000) :
    (s.works pTASK && s.entitled == some id && decide (ns ≤ 2000)) = true := by
  rw [hw, he, beq_self_eq_true, decide_eq_true hns]
  rfl

theorem exec_waitDeadlineCount_eq : exec (.waitDeadlineCount id) s =
    s.event (s.works pTASK && !s.running && s.timedWaits.any fun w => w.1 == id && s.deadlineDue id w.2) fun s =>
      (s.endWait id 2).taskRun := rfl

/-- Settles O48: the ends of waits, the creation of threads, posts, Sump fetches, deadlines and kernel entries. -/
theorem threadsWaitPostAndCreate : Obligations.ThreadsWaitPostAndCreate := by
  refine ⟨fun s id hw hst hwait => ?_, fun s id hw hst hout hend => ?_, fun s id hst hout => ?_, fun s id prio hw hid hp hst hfull => ?_,
    fun s id prio hw hid hp hst hroom => ?_, fun s f hw hf hfull => ?_, fun s f hw hf hroom => ?_, fun s id ns hw he hns => ?_,
    fun s u id ns hw he hns hroom hu => ?_, fun s id ns b he => ?_, fun s id hw hrun hdue => ?_, fun s id hnot => ?_,
    fun s c id t op hw hc hstop hon hswap hswap' => ?_, fun s c op hon => ?_, fun s id d w => ⟨rfl, rfl, rfl, rfl⟩,
    fun s id f w r hf hh hi => State.kernelOp_takeItem_free w hf hh hi, fun s id f w hf hb => State.kernelOp_takeItem_waits w hf hb,
    fun s id f hh => ?_⟩
  · rw [exec_threadReady_eq]
    refine (State.event_of _ (by rw [hw, hst, hwait]; rfl)).trans ?_
    rw [if_pos hst]
  · rw [exec_threadReady_eq]
    refine (State.event_of _ (by rw [hw, hout, hend, beq_self_eq_true, beq_self_eq_true, Bool.and_self, Bool.or_true]; rfl)).trans ?_
    rw [if_neg hst]
  · rw [exec_threadReady_eq]
    exact State.event_of_not _ (by rw [hst, hout, Bool.and_eq_false_iff]; exact .inr rfl)
  · rw [exec_threadCreate_of_free hw hid hp hst, if_pos hfull]
  · rw [exec_threadCreate_of_free hw hid hp hst, if_neg (Nat.not_lt.2 hroom)]
  · rw [exec_flowPost_of_works hw hf, if_pos hfull]
  · rw [exec_flowPost_of_works hw hf, if_neg (Nat.not_le.2 hroom)]
  · change execSumpFetch id ns true s = _
    rw [execSumpFetch]
    exact (State.event_of _ (sumpFetch_guard hw he hns)).trans (congrArg Host.Outcome.next (if_pos rfl))
  · change execSumpFetch id ns false s = _
    rw [execSumpFetch]
    refine (State.event_of _ (sumpFetch_guard hw he hns)).trans ?_
    simp only [Bool.false_eq_true, if_false, if_pos hroom, ← hu]
  · change execSumpFetch id ns b s = _
    rw [execSumpFetch]
    exact State.event_of_not _ (by rw [beq_false_of_ne he, Bool.and_false, Bool.false_and])
  · rw [exec_waitDeadlineCount_eq]
    exact State.event_of _ (by rw [hw, hrun, hdue]; rfl)
  · rw [exec_waitDeadlineCount_eq]
    refine State.event_of_not _ ?_
    obtain hrun | hdue := hnot
    · rw [hrun, Bool.not_true, Bool.and_false, Bool.false_and]
    · rw [hdue, Bool.and_false]
  · change execKernelEntry c op s = _
    rw [execKernelEntry]
    refine (State.event_of _ (by rw [hw, decide_eq_true hc, hstop]; rfl)).trans ?_
    simp only [hon, hswap', Option.isSome_none, Bool.false_eq_true, if_false]
  · change execKernelEntry c op s = _
    rw [execKernelEntry, State.event]
    simp only [hon, ite_self]
  · rw [State.kernelOp, if_pos hh]

/-! ## Commands (R428 to R434) -/

theorem State.commandEvent_on (hw : s.works pTASK = true) (hen : s.bit pTASK F.TASK.CMD_CFG_EN = true) (f : State → State) :
    s.event (s.works pTASK && s.bit pTASK F.TASK.CMD_CFG_EN) f = .next (f s) :=
  State.event_of f (by rw [hw, hen]; rfl)

theorem exec_cmdAbort_of_bar (hb : s.bar pTASK = true) : exec (.cmdAbort tag) s = .next (State.cmdAbort tag s) :=
  State.onPage_of_bar (State.cmdAbort tag) hb

theorem exec_cmdTimeout_of_cmd (hx : s.cmdOf tag = some x) : exec (.cmdTimeout tag) s =
    s.event (s.works pTASK && x.stop == 0 && s.cmdLate x) fun s => s.cmdHalt { x with stop := 2, stopAt := s.fabric } := by
  change execCmdTimeout tag s = _
  simp only [execCmdTimeout, hx]

theorem exec_cmdCfgWrite_of_bar (w : Word) (hb : s.bar pTASK = true) : exec (.cmdCfgWrite w) s = .next (State.cmdCfgWrite w s) :=
  State.onPage_of_bar (State.cmdCfgWrite w) hb

/-- While EN is 1 the rings keep their value. -/
theorem State.cmdCfgWrite_enabled (w : Word) (hen : s.bit pTASK F.TASK.CMD_CFG_EN = true)
    (hu : u = s.setFld pTASK F.TASK.CMD_CFG_PRIO (F.TASK.CMD_CFG_PRIO.of w)) : State.cmdCfgWrite w s =
      (if F.TASK.CMD_CFG_CMD_RING.of w ≠ s.fld pTASK F.TASK.CMD_CFG_CMD_RING ∨
          F.TASK.CMD_CFG_RESULT_RING.of w ≠ s.fld pTASK F.TASK.CMD_CFG_RESULT_RING then
        (u.setFld pTASK F.TASK.CMD_CFG_EN (F.TASK.CMD_CFG_EN.of w)).reason pTASK Cls.locked 0x07
      else u.setFld pTASK F.TASK.CMD_CFG_EN (F.TASK.CMD_CFG_EN.of w)) := by
  rw [State.cmdCfgWrite, if_pos hen, ← hu]

theorem State.cmdCfgWrite_disabled (w : Word) (hen : s.bit pTASK F.TASK.CMD_CFG_EN = false)
    (hu : u = s.setFld pTASK F.TASK.CMD_CFG_PRIO (F.TASK.CMD_CFG_PRIO.of w))
    (hv : v = (u.setFld pTASK F.TASK.CMD_CFG_CMD_RING (F.TASK.CMD_CFG_CMD_RING.of w)).setFld pTASK F.TASK.CMD_CFG_RESULT_RING
      (F.TASK.CMD_CFG_RESULT_RING.of w)) : State.cmdCfgWrite w s =
      (if F.TASK.CMD_CFG_EN.of w = 0 then v
      else if v.ringRole (F.TASK.CMD_CFG_CMD_RING.of w) 1 && v.ringRole (F.TASK.CMD_CFG_RESULT_RING.of w) 2 then
        (v.setFld pTASK F.TASK.CMD_CFG_EN 1).sendResults
      else v.refuse pTASK Cls.dependency 0x13) := by
  have hrings : u.cmdRings (F.TASK.CMD_CFG_CMD_RING.of w) (F.TASK.CMD_CFG_RESULT_RING.of w) = v := hv.symm
  rw [State.cmdCfgWrite, hen, if_neg Bool.false_ne_true, ← hu, hrings, State.cmdEnable]

/-- Settles O49: command records, aborts, time limits, CMD_CFG, NOP, and the wait of every command for its flow. -/
theorem commandsAreTakenAbortedAndTimedOut : Obligations.CommandsAreTakenAbortedAndTimedOut := by
  refine ⟨fun s hw hen htake => ?_, fun s u b cls d hw hen htake hchk => ?_, fun s u v b hw hen htake hchk hv => ?_,
    fun s tag x hb hx hst => ?_, fun s tag x hb hx hst hstop => ?_, fun s tag hb hx hlast => ?_, fun s tag a hb hx hlast => ?_,
    fun s tag x hw hx hstop hlate => ?_, fun s tag x hx hnot => ?_, fun s tag x _ hop => ?_, fun s tag x _ hop => ?_,
    fun s tag x _ hop => ?_, fun s u w hb hen hu hdiff => ?_, fun s u w hb hen hu hsame => ?_, fun s u v w hb hen hu hv hoff => ?_,
    fun s u v w hb hen hu hv hon hroles => ?_, fun s u v w hb hen hu hv hon hroles => ?_, fun s u tag x hx hop hst hr hu => ?_,
    fun s tag x hx hst hr => ?_⟩
  · change execCommandRecord s = _
    rw [execCommandRecord, State.commandEvent_on hw hen]
    simp only [htake]
  · change execCommandRecord s = _
    rw [execCommandRecord, State.commandEvent_on hw hen]
    simp only [htake, hchk]
  · change execCommandRecord s = _
    rw [execCommandRecord, State.commandEvent_on hw hen]
    simp only [htake, hchk, ← hv]
  · rw [exec_cmdAbort_of_bar hb]
    simp only [State.cmdAbort, hx, hst, Option.isNone_none, if_true]
  · rw [exec_cmdAbort_of_bar hb]
    simp only [State.cmdAbort, hx, Option.isNone_iff_eq_none, if_neg hst, if_pos (Or.inl hstop)]
  · rw [exec_cmdAbort_of_bar hb]
    simp only [State.cmdAbort, hx, hlast]
  · rw [exec_cmdAbort_of_bar hb]
    simp only [State.cmdAbort, hx, hlast, and_self, if_true]
  · rw [exec_cmdTimeout_of_cmd hx]
    exact State.event_of _ (by rw [hw, hstop, hlate]; rfl)
  · rw [exec_cmdTimeout_of_cmd hx]
    refine State.event_of_not _ ?_
    obtain hstop | hlate := hnot
    · rw [beq_false_of_ne hstop, Bool.and_false, Bool.false_and]
    · rw [hlate, Bool.and_false]
  · simp only [State.cmdHalt, hop]
  · simp only [State.cmdHalt, hop]
  · obtain hop | hop | hop := hop
    · simp only [State.cmdHalt, hop]
    · simp only [State.cmdHalt, hop]
    · simp only [State.cmdHalt, hop]
  · rw [exec_cmdCfgWrite_of_bar w hb, State.cmdCfgWrite_enabled w hen hu, if_pos hdiff]
  · rw [exec_cmdCfgWrite_of_bar w hb, State.cmdCfgWrite_enabled w hen hu, if_neg hsame]
  · rw [exec_cmdCfgWrite_of_bar w hb, State.cmdCfgWrite_disabled w hen hu hv, if_pos hoff]
  · rw [exec_cmdCfgWrite_of_bar w hb, State.cmdCfgWrite_disabled w hen hu hv, if_neg hon, if_pos hroles]
  · rw [exec_cmdCfgWrite_of_bar w hb, State.cmdCfgWrite_disabled w hen hu hv, if_neg hon, hroles, if_neg Bool.false_ne_true]
  · change execNop tag s = _
    rw [execNop, cmdStep_begin _ _ hx hop hst hr, ← hu]
  · have hwaits (op : Nat) (first next : TaskCmd → State → State) : Host.Outcome.next (s.cmdStep op tag first next) = (.next s : Out) :=
      congrArg Host.Outcome.next (cmdStep_waits first next hx hst hr)
    exact ⟨hwaits 0 _ _, hwaits 1 _ _, hwaits 2 _ _, hwaits 3 _ _, hwaits 4 _ _, hwaits 5 _ _, hwaits 6 _ _, hwaits 7 _ _⟩

end Sys2Proof.Machine

/-! SUPPORT. The statement about the operations of a command: RETRAIN, MEM_SWEEP, EYE_SCAN, JOIN, FW_LOAD, FW_SWAP and SELFTEST
(R365, R369, R376, R431 to R433). -/

namespace Sys2Proof.Machine

variable {s u : State} {tag n : Nat} {x : TaskCmd} {a : Nat × Nat}

/-! ## One step of each operation -/

theorem exec_cmdRetrain_next (hx : s.cmdOf tag = some x) (ho : x.op = 1) (hs : x.started = some a) (hw : s.works pTASK = true) :
    exec (.cmdRetrain tag) s = .next (
      if s.laneState x.page = laTrack then
        (if x.stop = 0 then s.cmdEnd x opCompleted 0 (s.retrainOut (instanceOf x.page)) else s.cmdStop x (s.retrainOut (instanceOf x.page)))
      else if s.laneState x.page = laDown ∨ s.laneState x.page = laFailed then
        (if x.stop = 0 then s.cmdEnd x opRefused (s.fld x.page F.PAGE_REASON_CODE) (s.retrainOut (instanceOf x.page))
        else s.cmdStop x (s.retrainOut (instanceOf x.page)))
      else s) := by
  change execCmdRetrain tag s = _
  rw [execCmdRetrain, cmdStep_next _ _ hx ho hs hw]

/-- A sweep that applies its window ends when the apply has taken effect or has been refused. -/
theorem exec_memSweep_apply (hx : s.cmdOf tag = some x) (ho : x.op = 2) (hs : x.started = some a) (hw : s.works pTASK = true)
    (hp : x.phase = 1000) : exec (.memSweep tag) s = .next (
      if s.bit x.page F.MEMC.MEMC_STATUS_APPLY_PENDING then s
      else if s.fld x.page (sweepNext x.args) = s.fld x.page ⟨(sweepNext x.args).off + 0x40, (sweepNext x.args).lo, 9⟩ then
        s.cmdEnd x opCompleted 0 (sweepOut (x.data.getLast?.getD 0) (x.data.head?.getD 0)
          ((x.data.getLast?.getD 0 + x.data.head?.getD 0) / 2))
      else s.cmdEnd x opRefused (s.fld x.page F.PAGE_REASON_CODE) (sweepOut (x.data.getLast?.getD 0) (x.data.head?.getD 0) 0)) := by
  change execMemSweep tag s = _
  rw [execMemSweep, cmdStep_next _ _ hx ho hs hw]
  simp only [if_pos hp]

theorem exec_memSweep_busy (hx : s.cmdOf tag = some x) (ho : x.op = 2) (hs : x.started = some a) (hw : s.works pTASK = true)
    (hp : x.phase ≠ 1000) (hl : 0 < (s.memcOf (instanceOf x.page)).probeLeft) : exec (.memSweep tag) s = .next s := by
  change execMemSweep tag s = _
  rw [execMemSweep, cmdStep_next _ _ hx ho hs hw]
  simp only [if_neg hp, gt_iff_lt, if_pos hl]

/-- The command of a sweep after a probe: a value that passed joins the window. -/
def State.sweepNoted (s : State) (x : TaskCmd) : TaskCmd :=
  if s.fld x.page F.MEMC.PROBE_RESULT_FAIL = 0 then { x with data := (x.phase - 1) :: x.data } else x

/-- A sweep whose probe has ended takes the next value, or the window after value 511. -/
theorem exec_memSweep_probed (hx : s.cmdOf tag = some x) (ho : x.op = 2) (hs : x.started = some a) (hw : s.works pTASK = true)
    (hp : x.phase ≠ 1000) (hl : (s.memcOf (instanceOf x.page)).probeLeft = 0) (hstop : x.stop = 0) : exec (.memSweep tag) s = .next (
      if x.phase - 1 < 511 then (s.setCmd (s.sweepNoted x)).sweepProbe (s.sweepNoted x) (x.phase - 1 + 1)
      else (s.setCmd (s.sweepNoted x)).sweepWindow (s.sweepNoted x)) := by
  change execMemSweep tag s = _
  rw [execMemSweep, cmdStep_next _ _ hx ho hs hw]
  simp only [if_neg hp, gt_iff_lt, hl, Nat.lt_irrefl, if_false, if_neg (not_not_intro hstop), State.sweepNoted]

theorem exec_eyeScan_next (hx : s.cmdOf tag = some x) (ho : x.op = 3) (hs : x.started = some a) (hw : s.works pTASK = true) :
    exec (.eyeScan tag) s = .next (
      if s.bit x.page F.LANE.ES_STATUS_BUSY then s
      else if s.bit x.page F.LANE.ES_STATUS_DONE then
        (let e := s.live64 x.page F.LANE.ES_ERR_LO % 2 ^ 48 + s.fld x.page F.LANE.ES_STATUS_DISTURBED * 2 ^ 48 +
          (s.laneOf (instanceOf x.page)).esFrozen.toNat * 2 ^ 49
        let y := { x with entries := x.entries ++ leBytes e 8 }
        if x.stop ≠ 0 then ((s.setCmd y).scanWrite y (x.phase - 1 + 1)).cmdStop y (leBytes ((x.phase - 1 + 1) % 65536) 8)
        else if x.phase - 1 + 1 < scanPoints x.args then (s.setCmd y).scanStart y (x.phase - 1 + 1)
        else ((s.setCmd y).scanWrite y (x.phase - 1 + 1)).cmdEnd y opCompleted 0 (leBytes ((x.phase - 1 + 1) % 65536) 8))
      else if x.stop ≠ 0 then (s.scanWrite x (x.phase - 1)).cmdStop x (leBytes ((x.phase - 1) % 65536) 8)
      else s) := by
  change execEyeScan tag s = _
  rw [execEyeScan, cmdStep_next _ _ hx ho hs hw]

theorem exec_fwLoadDone_next (ok : Bool) (version abi : Nat) (hx : s.cmdOf tag = some x) (ho : x.op = 5) (hs : x.started = some a)
    (hw : s.works pTASK = true) : exec (.fwLoadDone tag ok version abi) s = .next (
      if x.stop ≠ 0 then s.cmdStop x []
      else if !ok then s.cmdRefuse x Cls.range 0x19
      else
        (let b : FwBank := ⟨true, version % 2 ^ 32, abi % 256⟩
        let v := (s.setFld pTASK F.TASK.FW_STATUS_LOADED 1).setFld pTASK F.TASK.FW_LOADED_VER version
        (if s.bit pTASK F.TASK.FW_STATUS_BANK then { v with task := { v.task with bank0 := b } }
          else ({ v with task := { v.task with bank1 := b } } : State)).cmdEnd x opCompleted 0
          (leBytes version 4 ++ leBytes (abi % 256) 4))) := by
  change execFwLoadDone tag ok version abi s = _
  rw [execFwLoadDone, cmdStep_next _ _ hx ho hs hw]

/-- Settles O50: the operations of the commands begin, go on and end with their results. -/
theorem commandOperationsRunToTheirResults : Obligations.CommandOperationsRunToTheirResults := by
  refine ⟨fun s u tag x hx ho hs hr hu hnone => ?_, fun s u tag x code hx ho hs hr hu hcode => ?_,
    fun s tag x a hx ho hs hw hlane hstop => ?_, fun s tag x a hx ho hs hw hlane hstop => ?_, fun s tag x a hx ho hs hw hlane => ?_,
    fun s u tag x hx ho hs hr hu => ?_, fun s tag x a hx ho hs hw hp hl => exec_memSweep_busy hx ho hs hw hp hl,
    fun s tag x a hx ho hs hw hp hl hstop h1 h511 hfail => ?_, fun s tag x a hx ho hs hw hp hl hstop h1 h511 hfail => ?_,
    fun s tag x a hx ho hs hw hp hl hstop hfail => ?_, fun s tag x a hx ho hs hw hp hpend => ?_,
    fun s tag x a hx ho hs hw hp hpend hsame => ?_, fun s x hd => ?_, fun s u tag x hx ho hs hr hu => ?_,
    fun s tag x a hx ho hs hw hbusy => ?_, fun s tag x a hx ho hs hw hbusy hdone hstop hmore => ?_,
    fun s tag x a hx ho hs hw hbusy hdone hstop hlast => ?_, fun s u tag x hx ho hs hr hu hpair => ?_,
    fun s u tag x hx ho hs hr hu hpair => ?_, fun s tag x a hx ho hs hw hall => ?_, fun s u tag x hx ho hs hr hu hbank => ?_,
    fun s u tag x hx ho hs hr hu hbank => ?_, fun s tag x a ver abi hx ho hs hw hstop => ?_,
    fun s tag x a ver abi hx ho hs hw hstop hbank => ?_, fun s tag x a ver abi hx ho hs hw hstop hbank => ?_,
    fun s tag x a ok ver abi hx ho hs hw hstop => ?_, fun s u tag x hx ho hs hr hu hval => ?_,
    fun s u tag x hx ho hs hr hu hval habi => ?_, fun s u tag x hx ho hs hr hu hval habi => ?_, fun s c hw hc hswap hstop => ?_,
    fun s c hswap => ?_, fun s tag t x hw hfirst hlate hswap hx => ?_, fun s hfirst => ?_, fun s u tag x hx ho hs hr hu hst => ?_,
    fun s u tag x hx ho hs hr hu hst => ?_, fun s tag x a pass hx ho hs hw => ?_⟩
  · change execCmdRetrain tag s = _
    rw [execCmdRetrain, cmdStep_begin _ _ hx ho hs hr, ← hu]
    simp only [hnone]
  · change execCmdRetrain tag s = _
    rw [execCmdRetrain, cmdStep_begin _ _ hx ho hs hr, ← hu]
    simp only [hcode]
  · rw [exec_cmdRetrain_next hx ho hs hw, if_pos hlane, if_pos hstop]
  · have hnot : s.laneState x.page ≠ laTrack := by
      obtain h | h := hlane
      · rw [h]; decide
      · rw [h]; decide
    rw [exec_cmdRetrain_next hx ho hs hw, if_neg hnot, if_pos hlane, if_pos hstop]
  · rw [exec_cmdRetrain_next hx ho hs hw]
    obtain h | h := hlane
    · rw [h, if_neg (by decide), if_neg (by decide)]
    · rw [h, if_neg (by decide), if_neg (by decide)]
  · change execMemSweep tag s = _
    rw [execMemSweep, cmdStep_begin _ _ hx ho hs hr, ← hu]
  · rw [exec_memSweep_probed hx ho hs hw hp hl hstop, if_pos h511, State.sweepNoted, if_pos hfail, Nat.sub_add_cancel h1]
  · rw [exec_memSweep_probed hx ho hs hw hp hl hstop, if_pos h511, State.sweepNoted, if_neg hfail, Nat.sub_add_cancel h1]
  · rw [exec_memSweep_probed hx ho hs hw (by omega) hl hstop, if_neg (by omega), State.sweepNoted, if_pos hfail, hp]
  · rw [exec_memSweep_apply hx ho hs hw hp, if_pos hpend]
  · rw [exec_memSweep_apply hx ho hs hw hp, hpend, if_neg Bool.false_ne_true, if_pos hsame]
  · simp only [State.sweepWindow, hd, List.getLast?_nil]
  · change execEyeScan tag s = _
    rw [execEyeScan, cmdStep_begin _ _ hx ho hs hr, ← hu]
  · rw [exec_eyeScan_next hx ho hs hw, if_pos hbusy]
  · rw [exec_eyeScan_next hx ho hs hw, hbusy, if_neg Bool.false_ne_true, if_pos hdone, if_neg (not_not_intro hstop), if_pos hmore]
  · rw [exec_eyeScan_next hx ho hs hw, hbusy, if_neg Bool.false_ne_true, if_pos hdone, if_neg (not_not_intro hstop),
      if_neg (Nat.not_lt.2 hlast)]
  · change execJoin tag s = _
    rw [execJoin, cmdStep_begin _ _ hx ho hs hr, ← hu]
    simp only [hpair, Bool.not_true, Bool.false_eq_true, if_false]
    rfl
  · change execJoin tag s = _
    rw [execJoin, cmdStep_begin _ _ hx ho hs hr, ← hu]
    simp only [hpair, Bool.not_false, if_true]
  · change execJoin tag s = _
    rw [execJoin, cmdStep_next _ _ hx ho hs hw, if_pos hall]
  · change execFwLoad tag s = _
    rw [execFwLoad, cmdStep_begin _ _ hx ho hs hr, ← hu]
    simp only [if_pos hbank]
    rfl
  · change execFwLoad tag s = _
    rw [execFwLoad, cmdStep_begin _ _ hx ho hs hr, ← hu]
    simp only [hbank, Bool.false_eq_true, if_false]
    rfl
  · rw [exec_fwLoadDone_next false ver abi hx ho hs hw, if_neg (not_not_intro hstop), Bool.not_false, if_pos rfl]
  · rw [exec_fwLoadDone_next true ver abi hx ho hs hw, if_neg (not_not_intro hstop), Bool.not_true, if_neg Bool.false_ne_true]
    simp only [hbank, Bool.false_eq_true, if_false]
    rfl
  · rw [exec_fwLoadDone_next true ver abi hx ho hs hw, if_neg (not_not_intro hstop), Bool.not_true, if_neg Bool.false_ne_true]
    simp only [if_pos hbank]
    rfl
  · rw [exec_fwLoadDone_next ok ver abi hx ho hs hw, if_pos hstop]
  · change execFwSwap tag s = _
    rw [execFwSwap, cmdStep_begin _ _ hx ho hs hr, ← hu]
    simp only [hval, Bool.not_false, if_true]
  · change execFwSwap tag s = _
    rw [execFwSwap, cmdStep_begin _ _ hx ho hs hr, ← hu]
    simp only [hval, Bool.not_true, Bool.false_eq_true, if_false, if_pos habi]
  · change execFwSwap tag s = _
    rw [execFwSwap, cmdStep_begin _ _ hx ho hs hr, ← hu]
    simp only [hval, Bool.not_true, Bool.false_eq_true, if_false, if_neg (not_not_intro habi)]
  · change execCoreStopped c s = _
    rw [execCoreStopped]
    exact State.event_of _ (by rw [hw, decide_eq_true hc, hswap, hstop]; rfl)
  · change execCoreStopped c s = _
    rw [execCoreStopped]
    exact State.event_of_not _ (by rw [hswap, Option.isSome_none, Bool.and_false, Bool.false_and])
  · change execSwapTimeout s = _
    rw [execSwapTimeout]
    refine (State.event_of _ ?_).trans ?_
    · simp only [hw, hfirst, decide_eq_true hlate, ge_iff_le, Bool.and_self]
    · simp only [hswap, Option.bind_some, hx]
  · change execSwapTimeout s = _
    rw [execSwapTimeout]
    exact State.event_of_not _ (by simp only [hfirst, Bool.and_false])
  · change execSelftest tag s = _
    rw [execSelftest, cmdStep_begin _ _ hx ho hs hr, ← hu]
    simp only [if_pos hst]
  · change execSelftest tag s = _
    rw [execSelftest, cmdStep_begin _ _ hx ho hs hr, ← hu]
    simp only [if_neg hst]
  · change execChamberTestDone tag pass s = _
    rw [execChamberTestDone, cmdStep_next _ _ hx ho hs hw]

end Sys2Proof.Machine

/-! SUPPORT. The statements about the resets of the device and about its boot (R457 to R471, R491, R501, R502). -/

namespace Sys2Proof.Machine

variable {s u v : State}

/-! ## Resets -/

theorem exec_perstNAssert_of_released (hp : s.boot.porHeld = false) (hu : u = s.deviceReset false) : exec .perstNAssert s =
    .next ((({ u with boot := { u.boot with perst := true, mult := 120, pcieTraining := false } } : State).afterReset).phaseTo phReset) := by
  change execPerstNAssert s = _
  rw [execPerstNAssert, hp, if_neg Bool.false_ne_true, ← hu]

/-- PERST_N released: the host link trains, and the device boots where nothing else holds it (log 16). -/
theorem exec_perstNRelease_of_asserted (hp : s.boot.perst = true)
    (hu : u = ({ s with boot := { s.boot with perst := false, pcieTraining := true } } : State).hostTrains) : exec .perstNRelease s =
      .next (if s.phase = phReset ∧ (!s.boot.porHeld) = true ∧ (!s.boot.rootHeld) = true then u.enterBoot 1 else u) := by
  change execPerstNRelease s = _
  rw [execPerstNRelease]
  refine (State.event_of _ hp).trans ?_
  rw [← hu]

theorem bootWatchdog_phase (h : s.phase = phBoot ∨ s.phase = phSelftest ∨ s.phase = phBringup) :
    (s.phase == phBoot || s.phase == phSelftest || s.phase == phBringup) = true := by
  rw [Bool.or_eq_true, Bool.or_eq_true, beq_iff_eq, beq_iff_eq, beq_iff_eq, or_assoc]
  exact h

theorem exec_lanternWatchdog_alive (hp : s.phase ≠ phReset) (hh : s.boot.porHeld = false) : exec .lanternWatchdog s =
    .next (if s.phase = phService then
      (((s.mgmtOpFails.raise pMGMT F.MGMT.intLANTERN_RESTARTED).logEv pMGMT F.MGMT.intLANTERN_RESTARTED 4 0 []).fatal 6)
    else s.lanternReboot 3) := by
  change execLanternWatchdog s = _
  rw [execLanternWatchdog]
  exact State.event_of _ (by rw [bne_iff_ne.2 hp, hh]; rfl)

/-- Settles O51: power-on reset, PWRGOOD, PERST_N, the root PLL, the watchdogs and THERMTRIP_N. What keeps its contents is log 11, which
release begins a boot is log 16, and what Lantern's watchdog does in each phase is log 221. -/
theorem resetsHoldAndReleaseTheDevice : Obligations.ResetsHoldAndReleaseTheDevice := by
  refine ⟨fun s u hp hu => ?_, fun s hp => ?_, fun s => rfl, fun s hp => ?_, fun s u hp hu => exec_perstNAssert_of_released hp hu,
    fun s u hp hu hph hpor hroot => ?_, fun s u hp hu hheld => ?_, fun s hp => ?_, fun s u hp hu => ?_, fun s u hr hu => ?_,
    fun s hr => ?_, fun s hph hps => ?_, fun s hps => ?_, fun s hph hpor => ?_, fun s hserv hph hpor => ?_, fun s => rfl⟩
  · change execPowerOnReset s = _
    rw [execPowerOnReset]
    refine (State.event_of _ hp).trans ?_
    rw [hu]
  · change execPowerOnReset s = _
    rw [execPowerOnReset]
    exact State.event_of_not _ hp
  · change execPerstNAssert s = _
    rw [execPerstNAssert, if_pos hp]
  · rw [exec_perstNRelease_of_asserted hp hu, if_pos ⟨hph, by rw [hpor, Bool.not_false], by rw [hroot, Bool.not_false]⟩]
  · rw [exec_perstNRelease_of_asserted hp hu, if_neg]
    rintro ⟨hph, hpor, hroot⟩
    rw [Bool.not_eq_true'] at hpor hroot
    obtain h | h | h := hheld
    · exact h hph
    · exact Bool.false_ne_true (hpor.symm.trans h)
    · exact Bool.false_ne_true (hroot.symm.trans h)
  · change execPerstNRelease s = _
    rw [execPerstNRelease]
    exact State.event_of_not _ hp
  · change execRootPllLoss s = _
    rw [execRootPllLoss]
    refine (State.event_of _ (by rw [hp, Bool.not_false])).trans ?_
    rw [← hu]
  · change execRootPllRelock s = _
    rw [execRootPllRelock]
    refine (State.event_of _ hr).trans ?_
    rw [← hu]
  · change execRootPllRelock s = _
    rw [execRootPllRelock]
    exact State.event_of_not _ hr
  · change execBootWatchdog s = _
    rw [execBootWatchdog]
    exact State.event_of _ (by rw [bootWatchdog_phase hph, decide_eq_true hps, Bool.and_self])
  · change execBootWatchdog s = _
    rw [execBootWatchdog]
    exact State.event_of_not _ (by rw [decide_eq_false (Nat.not_le.2 hps), Bool.and_false])
  · rw [exec_lanternWatchdog_alive (by rw [hph]; decide) hpor, if_pos hph]
  · rw [exec_lanternWatchdog_alive hph hpor, if_neg hserv]

/-! ## The boot -/

theorem exec_boot_in_phase (a b : Bool) (hp : s.phase = phBoot) : exec (.boot a b) s =
    .next (bootOutcome (State.chooseSlot (fun k => if k = 0 then a else b) 3 s.readDir.findLogHead [])) := by
  change execBoot a b s = _
  rw [execBoot]
  exact State.event_of _ (by rw [hp, beq_self_eq_true])

/-- What self-test notes of the failed items and units (R465, R466). -/
theorem State.selftestNoted {u1 : State} {cr ch de cl si ra k : Nat} {l : List (Nat × Nat)} (hk : k = s.testable ch)
    (hl : l = failedItems 0 1 (cr &&& 0xB) ++ failedItems 1 1 ((cr &&& 0xB) / 2) ++ failedItems 2 18 k ++
      failedItems 3 1 ((cr &&& 0xB) / 8) ++ failedItems 4 2 de ++ failedItems 5 5 cl ++ failedItems 6 12 si ++ failedItems 6 10 ra)
    (hu : u = (l.foldl (fun t i => t.logEv pMGMT 0x21 4 0 [(24, i.1), (25, i.2)]) s).setFld pMGMT F.MGMT.SELFTEST_RESULT
      (l.foldl (fun m i => m ||| 2 ^ i.1) 0))
    (hu1 : u1 = u.setFld pMGMT F.MGMT.CHMB_FAILED_CHAMBERS k)
    (hv : v = ({ u1 with boot := { u1.boot with decFailed := de % 4, refclkBad := cl % 32 },
                         watch := { u1.watch with badSites := si % 4096, badRails := ra % 1024 } } : State)) :
    (s.itemsNoted (selftestItems (cr &&& 0xB) (s.testable ch) de cl si ra)).failedUnits (s.testable ch) de cl si ra = v := by
  have hitems : selftestItems (cr &&& 0xB) k de cl si ra = l := hl.symm
  have hnoted : s.itemsNoted l = u := hu.symm
  rw [← hk, hitems, hnoted, hv, hu1, State.failedUnits]

theorem exec_selftestComplete_in_phase (cr ch de cl si ra : Nat) (hp : s.phase = phSelftest)
    (hv : (s.itemsNoted (selftestItems (cr &&& 0xB) (s.testable ch) de cl si ra)).failedUnits (s.testable ch) de cl si ra = v) :
    exec (.selftestComplete cr ch de cl si ra) s =
      .next (if cr &&& 0xB ≠ 0 then (v.setFld pMGMT F.MGMT.PHASE_STATUS_SELFTEST_OK 0).enterRecovery
        else ((((v.setFld pMGMT F.MGMT.PHASE_STATUS_SELFTEST_OK 1).deviceReset true).atImageClock).lanternOn pPWR).phaseTo phBringup) := by
  change execSelftestComplete cr ch de cl si ra s = _
  rw [execSelftestComplete]
  refine (State.event_of _ (by rw [hp, beq_self_eq_true])).trans ?_
  rw [hv]

/-- Settles O52: BOOT, SELFTEST and BRINGUP, each in its phase only. The digest of an image is computed and its signature is an operand
(log 30); the critical failure of BRINGUP and the pages that Lantern enables are log 293. -/
theorem theBootRunsToServiceOrRecovery : Obligations.TheBootRunsToServiceOrRecovery := by
  refine ⟨fun s u a b bad hp hc => ?_, fun s u a b bad k es hp hc => ?_, fun s a b hp => ?_, fun s cr ch de cl si ra hp => ?_,
    fun s u u1 v cr ch de cl si ra k l hp hk hl hu hu1 hv hcr => ?_,
    fun s u u1 v cr ch de cl si ra k l w hp hk hl hu hu1 hv hcr hw => ?_, fun s u t hp hprot hu => ?_, fun s u t hp hprot => ?_,
    fun s t hp => ?_⟩
  · rw [exec_boot_in_phase a b hp, hc, bootOutcome]
  · rw [exec_boot_in_phase a b hp, hc, bootOutcome]
  · change execBoot a b s = _
    rw [execBoot]
    exact State.event_of_not _ (beq_false_of_ne hp)
  · change execSelftestComplete cr ch de cl si ra s = _
    rw [execSelftestComplete]
    exact State.event_of_not _ (beq_false_of_ne hp)
  · rw [exec_selftestComplete_in_phase cr ch de cl si ra hp (State.selftestNoted hk hl hu hu1 hv), if_pos hcr]
  · rw [exec_selftestComplete_in_phase cr ch de cl si ra hp (State.selftestNoted hk hl hu hu1 hv), if_neg (not_not_intro hcr), ← hw,
      State.atImageClock]
  · change execBringupComplete t s = _
    rw [execBringupComplete]
    refine (State.event_of _ (by rw [hp, beq_self_eq_true])).trans ?_
    simp only [hprot, State.bringFails, ← hu]
  · change execBringupComplete t s = _
    rw [execBringupComplete]
    refine (State.event_of _ (by rw [hp, beq_self_eq_true])).trans ?_
    simp only [hprot]
  · change execBringupComplete t s = _
    rw [execBringupComplete]
    exact State.event_of_not _ (beq_false_of_ne hp)

end Sys2Proof.Machine

/-! SUPPORT. The statement about Lantern's operations on the NOR and about its console (R463, R475 to R477). -/

namespace Sys2Proof.Machine

variable {s t u : State} {k n : Nat}

/-! ## The start of an operation -/

/-- In SERVICE with no operation running an operation begins with no abort asked for. -/
theorem State.mgmtStart_idle (f : State → State) (hp : s.phase = phService)
    (hidle : s.fld pMGMT F.PAGE_OP_KIND < 5 ∨ s.opRunning pMGMT (s.fld pMGMT F.PAGE_OP_KIND) = false)
    (ht : t = ({ s with nor := { s.nor with opAbort := false } } : State)) : s.mgmtStart f = f t := by
  rw [State.mgmtStart, if_neg (fun h => h.1 hp), if_neg, ht]
  rintro ⟨hk, hrun⟩
  obtain h | h := hidle
  · exact Nat.not_le.2 h hk
  · exact Bool.false_ne_true (h.symm.trans hrun)

theorem State.mgmtStart_busy (f : State → State) (hp : s.phase = phService) (hk : 5 ≤ s.fld pMGMT F.PAGE_OP_KIND)
    (hrun : s.opRunning pMGMT (s.fld pMGMT F.PAGE_OP_KIND) = true) : s.mgmtStart f = s.reason pMGMT Cls.conflict 0x11 := by
  rw [State.mgmtStart, if_neg (fun h => h.1 hp), if_pos ⟨hk, hrun⟩]

theorem exec_writeSlot_idle (hb : s.bar pMGMT = true) (hrun : s.boot.runSlot = some k) (hp : s.phase = phService)
    (hidle : s.fld pMGMT F.PAGE_OP_KIND < 5 ∨ s.opRunning pMGMT (s.fld pMGMT F.PAGE_OP_KIND) = false)
    (ht : t = ({ s with nor := { s.nor with opAbort := false } } : State)) : exec .writeSlot s =
      .next (if t.fld pMGMT F.MGMT.UPD_LEN_BYTES < 64 ∨ t.fld pMGMT F.MGMT.UPD_LEN_BYTES > 12582912 then t.mgmtRefuse 5 Cls.range 0x03
        else if (!t.inDram (t.addr36 pMGMT F.MGMT.UPD_ADDR_LO) (t.fld pMGMT F.MGMT.UPD_LEN_BYTES)) = true then
          t.mgmtRefuse 5 Cls.range 0x15
        else { (t.opBegin pMGMT 5).setSlot (1 - k) ⟨sdEmpty, 0, 0⟩ with
          nor := { ((t.opBegin pMGMT 5).setSlot (1 - k) ⟨sdEmpty, 0, 0⟩).nor with opSlot := 1 - k, written := none } }) := by
  have hspare : s.spareSlot = 1 - k := by simp only [State.spareSlot, hrun]
  refine (State.onPage_of_bar State.writeSlot hb).trans (congrArg Host.Outcome.next ?_)
  rw [State.writeSlot, hrun, Option.isNone_some, if_neg Bool.false_ne_true, hspare]
  exact State.mgmtStart_idle _ hp hidle ht

theorem exec_activate_idle (hb : s.bar pMGMT = true) (hp : s.phase = phService)
    (hidle : s.fld pMGMT F.PAGE_OP_KIND < 5 ∨ s.opRunning pMGMT (s.fld pMGMT F.PAGE_OP_KIND) = false)
    (ht : t = ({ s with nor := { s.nor with opAbort := false } } : State)) : exec (.activate n) s =
      .next (if n = 0 ∨ n > 7 then t.mgmtRefuse 6 Cls.range 0x03
        else t.nor.written.elim (t.mgmtRefuse 6 Cls.dependency 0x14) fun k =>
          { (t.opBegin pMGMT 6).setFld pMGMT F.MGMT.MGMT_CMD_TRIALS n with
            nor := { ((t.opBegin pMGMT 6).setFld pMGMT F.MGMT.MGMT_CMD_TRIALS n).nor with opSlot := k } }) := by
  refine (State.onPage_of_bar (State.activate n) hb).trans (congrArg Host.Outcome.next ?_)
  rw [State.activate]
  refine (State.mgmtStart_idle _ hp hidle ht).trans ?_
  obtain hw | ⟨j, hw⟩ := Option.eq_none_or_eq_some t.nor.written
  · simp only [hw, Option.elim_none]
  · simp only [hw, Option.elim_some]

theorem exec_norRead_idle (hb : s.bar pMGMT = true) (hp : s.phase = phService)
    (hidle : s.fld pMGMT F.PAGE_OP_KIND < 5 ∨ s.opRunning pMGMT (s.fld pMGMT F.PAGE_OP_KIND) = false)
    (ht : t = ({ s with nor := { s.nor with opAbort := false } } : State)) : exec .norRead s =
      .next (if t.fld pMGMT F.MGMT.NOR_LEN_BYTES = 0 ∨ t.fld pMGMT F.MGMT.NOR_LEN_BYTES > 33554432 then t.mgmtRefuse 7 Cls.range 0x03
        else if t.fld pMGMT F.MGMT.NOR_ADDR_ADDR + t.fld pMGMT F.MGMT.NOR_LEN_BYTES > 33554432 ∨
            (!t.inDram (t.addr36 pMGMT F.MGMT.UPD_ADDR_LO) (t.fld pMGMT F.MGMT.NOR_LEN_BYTES)) = true then
          t.mgmtRefuse 7 Cls.range 0x15
        else t.opBegin pMGMT 7) := by
  refine (State.onPage_of_bar State.norRead hb).trans (congrArg Host.Outcome.next ?_)
  rw [State.norRead]
  exact State.mgmtStart_idle _ hp hidle ht

/-! ## The end of an operation -/

theorem State.mgmtOpDone_guard (hroot : s.boot.rootHeld = false) (hk : s.fld pMGMT F.PAGE_OP_KIND = k) (h5 : 5 ≤ k)
    (h7 : k ≤ 7) (hrun : s.opRunning pMGMT k = true) : (!s.boot.rootHeld && decide (5 ≤ s.fld pMGMT F.PAGE_OP_KIND) &&
      decide (s.fld pMGMT F.PAGE_OP_KIND ≤ 7) && s.opRunning pMGMT (s.fld pMGMT F.PAGE_OP_KIND)) = true := by
  rw [hroot, hk, decide_eq_true h5, decide_eq_true h7, hrun]
  rfl

/-- The NOR after a WRITE_SLOT: the image stands in the erased blocks of its slot. -/
def State.slotProgrammed (s : State) : State :=
  (s.norErase (slotBase s.nor.opSlot) (ceilDiv (s.fld pMGMT F.MGMT.UPD_LEN_BYTES) 65536 * 65536)).norProgram (slotBase s.nor.opSlot)
    (s.loadBytes (s.addr36 pMGMT F.MGMT.UPD_ADDR_LO) (s.fld pMGMT F.MGMT.UPD_LEN_BYTES))

/-- The result of a WRITE_SLOT: the checks of its image in order (R463). -/
theorem exec_mgmtOpDone_writeSlot (sound ok : Bool) (hroot : s.boot.rootHeld = false) (hab : s.nor.opAbort = false)
    (hk : s.fld pMGMT F.PAGE_OP_KIND = 5) (hrun : s.opRunning pMGMT 5 = true) (hu : u = s.slotProgrammed) :
    exec (.mgmtOpDone sound ok) s = .next (if (!ok) = true then (u.refuse pMGMT Cls.resource 0x16).opEnd pMGMT opRefused
      else (({ u with nor := { u.nor with secCounter := 0 } } : State).verifyImage s.nor.opSlot sound).elim
        ((u.refuse pMGMT Cls.range 0x12).opEnd pMGMT opRefused) fun _ =>
          if (u.norByte (slotBase s.nor.opSlot + 7)).toNat < s.nor.secCounter then (u.refuse pMGMT Cls.range 0x13).opEnd pMGMT opRefused
          else ({ u with nor := { u.nor with written := some s.nor.opSlot } } : State).opEnd pMGMT opCompleted) := by
  have hu' : (s.norErase (slotBase s.nor.opSlot) (ceilDiv (s.fld pMGMT F.MGMT.UPD_LEN_BYTES) 65536 * 65536)).norProgram
    (slotBase s.nor.opSlot) (s.loadBytes (s.addr36 pMGMT F.MGMT.UPD_ADDR_LO) (s.fld pMGMT F.MGMT.UPD_LEN_BYTES)) = u := hu.symm
  change execMgmtOpDone sound ok s = _
  rw [execMgmtOpDone]
  refine (State.event_of _ (State.mgmtOpDone_guard hroot hk (by decide) (by decide) hrun)).trans
    (congrArg Host.Outcome.next ?_)
  simp only [hab, Bool.false_eq_true, if_false, if_pos hk, hu', decide_eq_true_eq]
  congr 1
  cases ({ u with nor := { u.nor with secCounter := 0 } } : State).verifyImage s.nor.opSlot sound <;> rfl

theorem exec_mgmtOpDone_activate (sound ok : Bool) (hroot : s.boot.rootHeld = false) (hab : s.nor.opAbort = false)
    (hk : s.fld pMGMT F.PAGE_OP_KIND = 6) (hrun : s.opRunning pMGMT 6 = true) : exec (.mgmtOpDone sound ok) s =
      .next (if (!ok) = true then (s.refuse pMGMT Cls.resource 0x16).opEnd pMGMT opRefused
        else (s.setSlot s.nor.opSlot ⟨sdPending, s.fld pMGMT F.MGMT.MGMT_CMD_TRIALS, max s.nor.slotA.seq s.nor.slotB.seq + 1⟩).opEnd
          pMGMT opCompleted) := by
  change execMgmtOpDone sound ok s = _
  rw [execMgmtOpDone]
  refine (State.event_of _ (State.mgmtOpDone_guard hroot hk (by decide) (by decide) hrun)).trans (congrArg Host.Outcome.next ?_)
  rw [hab, if_neg Bool.false_ne_true, hk, if_neg (by decide), if_pos rfl]

/-- Settles O53: WRITE_SLOT, ACTIVATE, NOR_READ and RESTART begin, are refused and end, and the console loads in RECOVERY. The abort at a
block is log 70, its number of blocks is log 256, and the console's image at DRAM address 0 is log 218. -/
theorem slotsAreWrittenActivatedAndRead : Obligations.SlotsAreWrittenActivatedAndRead := by
  refine ⟨fun s n hb hp hk hrun => ⟨?_, ?_, ?_⟩, fun s t k hb hslot hp hidle ht hlo hhi hdram => ?_,
    fun s t k hb hslot hp hidle ht hlen => ?_, fun s t k hb hslot hp hidle ht hlo hhi hdram => ?_,
    fun s t n k hb hp hidle ht hw h1 h7 => ?_, fun s t n hb hp hidle ht hw h1 h7 => ?_, fun s t n hb hp hidle ht hn => ?_,
    fun s t hb hp hidle ht h1 hend hdram => ?_, fun s t hb hp hidle ht h1 hlen hend => ?_, fun s t hb hp hidle ht => ?_,
    fun s u sound hroot hab hk hrun hu => ?_, fun s u sound hroot hab hk hrun hu hver => ?_,
    fun s u sound r hroot hab hk hrun hu hver hroll => ?_, fun s u sound r hroot hab hk hrun hu hver hroll => ?_,
    fun s sound hroot hab hk hrun => ?_, fun s sound hroot hab hk hrun => ?_, fun s sound ok hroot hab hk hrun => ?_,
    fun s sound ok k hroot hab hk h5 h7 hrun => ?_, fun s sound ok hk => ?_, fun s bs hp hdram => ?_, fun s bs k hp => ⟨?_, ?_⟩,
    fun s k hp hk => ?_⟩
  · exact (State.onPage_of_bar (State.activate n) hb).trans (congrArg Host.Outcome.next (State.mgmtStart_busy _ hp hk hrun))
  · exact (State.onPage_of_bar State.norRead hb).trans (congrArg Host.Outcome.next (State.mgmtStart_busy _ hp hk hrun))
  · exact (State.onPage_of_bar State.mgmtRestart hb).trans (congrArg Host.Outcome.next (State.mgmtStart_busy _ hp hk hrun))
  · rw [exec_writeSlot_idle hb hslot hp hidle ht, if_neg (by omega), hdram, Bool.not_true, if_neg Bool.false_ne_true]
  · rw [exec_writeSlot_idle hb hslot hp hidle ht, if_pos hlen]
  · rw [exec_writeSlot_idle hb hslot hp hidle ht, if_neg (by omega), hdram, Bool.not_false, if_pos rfl]
  · rw [exec_activate_idle hb hp hidle ht, if_neg (by omega), hw, Option.elim_some]
  · rw [exec_activate_idle hb hp hidle ht, if_neg (by omega), hw, Option.elim_none]
  · rw [exec_activate_idle hb hp hidle ht, if_pos hn]
  · rw [exec_norRead_idle hb hp hidle ht, if_neg (by omega), hdram, Bool.not_true, if_neg]
    rintro (h | h)
    · omega
    · exact Bool.false_ne_true h
  · rw [exec_norRead_idle hb hp hidle ht, if_neg (by omega), if_pos (.inl hend)]
  · exact (State.onPage_of_bar State.mgmtRestart hb).trans (congrArg Host.Outcome.next (State.mgmtStart_idle _ hp hidle ht))
  · rw [exec_mgmtOpDone_writeSlot sound false hroot hab hk hrun hu, Bool.not_false, if_pos rfl]
  · rw [exec_mgmtOpDone_writeSlot sound true hroot hab hk hrun hu, Bool.not_true, if_neg Bool.false_ne_true, hver, Option.elim_none]
  · rw [exec_mgmtOpDone_writeSlot sound true hroot hab hk hrun hu, Bool.not_true, if_neg Bool.false_ne_true, hver, Option.elim_some,
      if_pos hroll]
  · rw [exec_mgmtOpDone_writeSlot sound true hroot hab hk hrun hu, Bool.not_true, if_neg Bool.false_ne_true, hver, Option.elim_some,
      if_neg (Nat.not_lt.2 hroll)]
  · rw [exec_mgmtOpDone_activate sound false hroot hab hk hrun, Bool.not_false, if_pos rfl]
  · rw [exec_mgmtOpDone_activate sound true hroot hab hk hrun, Bool.not_true, if_neg Bool.false_ne_true]
  · change execMgmtOpDone sound ok s = _
    rw [execMgmtOpDone]
    refine (State.event_of _ (State.mgmtOpDone_guard hroot hk (by decide) (by decide) hrun)).trans (congrArg Host.Outcome.next ?_)
    rw [hab, if_neg Bool.false_ne_true, hk, if_neg (by decide), if_neg (by decide)]
  · change execMgmtOpDone sound ok s = _
    rw [execMgmtOpDone]
    refine (State.event_of _ (State.mgmtOpDone_guard hroot hk h5 h7 hrun)).trans (congrArg Host.Outcome.next ?_)
    rw [hk, if_pos hab]
  · change execMgmtOpDone sound ok s = _
    rw [execMgmtOpDone]
    exact State.event_of_not _ (by rw [decide_eq_false (Nat.not_le.2 hk), Bool.and_false, Bool.false_and, Bool.false_and])
  · change execXmodemImage bs s = _
    rw [execXmodemImage]
    exact State.event_of _ (by rw [hp, beq_self_eq_true, hdram, Bool.and_self])
  · change execXmodemImage bs s = _
    rw [execXmodemImage]
    exact State.event_of_not _ (by rw [beq_false_of_ne hp, Bool.false_and])
  · change execConsoleLoad k s = _
    rw [execConsoleLoad]
    exact State.event_of_not _ (by rw [beq_false_of_ne hp, Bool.false_and])
  · change execConsoleLoad k s = _
    rw [execConsoleLoad]
    exact State.event_of _ (by rw [hp, beq_self_eq_true, decide_eq_true hk, Bool.and_self])

end Sys2Proof.Machine

/-! SUPPORT. The statement about sensors, the over-temperature action, the watchdogs, the log and the reset of TASK
(R469 to R478, R501). -/

namespace Sys2Proof.Machine

variable {s u v w : State}

/-! ## Sensors and the over-temperature action -/

/-- What a sample leaves before the over-temperature action is looked at (R469, R470, R378). -/
def State.sampled (s : State) (ts : List Int) (vs : List Nat) (k : Nat) : State :=
  let v := (List.range 10).foldl (fun t n => t.sampleVolt n (vs.getD n 0))
    ((List.range 12).foldl (fun t n => t.sampleTemp n (ts.getD n 0)) (s.errBy pSENS 0 k))
  let w := ({ v with watch := { v.watch with fresh := false } } : State).junction
  ((List.range 16).filter fun n => w.works (pMEMC n)).foldl (fun t n => t.memcSensor n (ts.getD (memcSite n) 0)) w

theorem State.sampled_eq {ts : List Int} {vs : List Nat} {k : Nat}
    (hv : v = (List.range 10).foldl (fun t n => t.sampleVolt n (vs.getD n 0))
      ((List.range 12).foldl (fun t n => t.sampleTemp n (ts.getD n 0)) (s.errBy pSENS 0 k)))
    (hw : w = ({ v with watch := { v.watch with fresh := false } } : State).junction)
    (hu : u = ((List.range 16).filter fun n => w.works (pMEMC n)).foldl (fun t n => t.memcSensor n (ts.getD (memcSite n) 0)) w) :
    s.sampled ts vs k = u := by
  rw [hu, hw, hv, State.sampled]

theorem exec_sensorSample_on {ts : List Int} {vs : List Nat} {k : Nat} (hon : s.isOn pSENS = true) (hr : s.boot.rootHeld = false)
    (ht : ts.length = 12) (hvs : vs.length = 10) (hu : s.sampled ts vs k = u) : exec (.sensorSample ts vs k) s =
      .next (if s16 (u.fld pSENS F.SENS.JUNCTION_VALUE) ≥ 880 ∧ u.phase = phService ∧ (!u.validSites.isEmpty) = true then
        u.overtemp ((u.validSites.find? fun n => s16 (u.fld pSENS (F.SENS.TEMP_VALUE n)) == s16 (u.fld pSENS F.SENS.JUNCTION_VALUE)).getD 0)
      else u) := by
  change execSensorSample ts vs k s = _
  rw [execSensorSample, ← hu]
  exact State.event_of _ (by rw [hon, hr, decide_eq_true ht, decide_eq_true hvs]; rfl)

/-- The end of the second over-temperature hold, 0.01 ms after the first (log 304). -/
theorem State.otHoldEnd_second {t : Nat} (hp : s.phase = phShutdown) (hc : s.watch.clocksStopped = false) (ht : s.watch.coolAt = some t)
    (hps : s.boot.ps ≥ t + 10000000) : exec .otHoldEnd s = .next s.clocksStop := by
  change execOtHoldEnd s = _
  rw [execOtHoldEnd]
  refine (State.event_of _ ?_).trans ?_
  · simp only [ht, hp, hc, beq_self_eq_true, Bool.not_false, Bool.true_and, decide_eq_true hps]
  · rw [ht, Option.isNone_some, if_neg Bool.false_ne_true]

theorem State.clocksStop_eq
    (hu : u = ((({ s with pwr := { s.pwr with level := [], want := [], waking := false, cooling := false } } : State).setFld pPWR
      F.PWR.DOMAIN_WARM 0).govShow))
    (hv : v = ({ u with log := { u.log with tokens := max 1 u.log.tokens } } : State).makeRecord
      ({ time := if s.running then s.now else 0, noTime := !s.running, event := 0x0622, severity := 7, page := pMGMT, reason := 0,
         data := logHalf 26 (s.fld pSENS F.SENS.JUNCTION_VALUE), cycle := s.fabric } : LogEntry)) :
    s.clocksStop = { v with watch := { v.watch with clocksStopped := true, shutdownN := true } } := by
  rw [hv, hu, State.clocksStop]

/-! ## Watchdog, log and TASK -/

theorem exec_hostWdtExpired_due (hen : s.bit pMGMT F.MGMT.HOST_WDT_CFG_EN = true)
    (hps : s.boot.ps ≥ s.watch.wdtAt + s.fld pMGMT F.MGMT.HOST_WDT_CFG_PERIOD_MS * 1000000000)
    (hu : u = ((s.raise pMGMT F.MGMT.intHOST_WDT_EXPIRED).logEv pMGMT F.MGMT.intHOST_WDT_EXPIRED 4 0 []).hostKick) :
    exec .hostWdtExpired s = .next (if s.bit pMGMT F.MGMT.HOST_WDT_CFG_ACTION then u.yieldNow else u) := by
  change execHostWdtExpired s = _
  rw [execHostWdtExpired]
  refine (State.event_of _ (by rw [hen, decide_eq_true hps, Bool.and_self])).trans ?_
  rw [← hu]

theorem exec_logEvent_of_queue {e : LogEntry} {r : List LogEntry} (hq : s.log.queue = e :: r) (hp : s.phase ≠ phReset)
    (hh : s.boot.porHeld = false) (hu : u = ({ s with log := { s.log with queue := r } } : State).makeRecord e) : exec .logEvent s =
      .next (if u.log.lost = 0 then u
        else ({ u with log := { u.log with lost := 0 } } : State).logEv pMGMT 0x23 3 0 (logWord 24 u.log.lost)) := by
  change execLogEvent s = _
  rw [execLogEvent]
  refine (State.event_of _ (by rw [hq, bne_iff_ne.2 hp, hh]; rfl)).trans ?_
  simp only [hq, ← hu]

/-- Lantern resets TASK only where its faults are 10 s apart (R478). -/
theorem State.taskFaultAgain_of_apart
    (h : ∀ a b, s.watch.taskFaultPrev = some a → s.watch.taskFaultAt = some b → a + 10000000000000 ≤ b) : s.taskFaultAgain = false := by
  obtain hp | ⟨a, hp⟩ := Option.eq_none_or_eq_some s.watch.taskFaultPrev
  · simp only [State.taskFaultAgain, hp]
  · obtain ha | ⟨b, ha⟩ := Option.eq_none_or_eq_some s.watch.taskFaultAt
    · simp only [State.taskFaultAgain, hp, ha]
    · simp only [State.taskFaultAgain, hp, ha]
      exact decide_eq_false (Nat.not_lt.2 (h a b hp ha))

theorem State.taskFaultAgain_of_near {a b : Nat} (hp : s.watch.taskFaultPrev = some a) (ha : s.watch.taskFaultAt = some b)
    (h : b < a + 10000000000000) : s.taskFaultAgain = true := by
  simp only [State.taskFaultAgain, hp, ha]
  exact decide_eq_true h

/-- Settles O54: sensor samples, the over-temperature action, SENS_CLEAR, the host watchdog, the log and its bucket, and the reset of
TASK. That the second hold forces the domains cold, and that the 10 s run from fault to fault, is log 304. -/
theorem sensorsWatchdogsAndLogs : Obligations.SensorsWatchdogsAndLogs := by
  refine ⟨fun s u v w ts vs k hon hr ht hvs hv hw hu hcool => ?_, fun s u v w ts vs k hon hr ht hvs hv hw hu hhot => ?_,
    fun s ts vs k hon => ?_, fun s x hb hx => ?_, fun s x hb hx => ?_, fun s u hp hc hcool hps hu => ?_,
    fun s u v t hp hc ht hps hu hv => ?_, fun s t ht hps => ?_, fun s hc => ?_, fun s hb => State.onPage_of_bar State.hostKick hb,
    fun s u hen hps hu ha => ?_, fun s u hen hps hu ha => ?_, fun s hen => ?_, fun s u e r hq hp hh hu hl => ?_,
    fun s u e r hq hp hh hu hl => ?_, fun s hq => ?_, fun s hps => ?_, fun s hps => ?_, fun s r u hst hp hapart hr hu => ?_,
    fun s a b hprev hat hnear => ?_⟩
  · rw [exec_sensorSample_on hon hr ht hvs (State.sampled_eq hv hw hu), if_neg]
    rintro ⟨hj, hph, -⟩
    obtain h | h := hcool
    · exact absurd hj (Int.not_le.2 h)
    · exact h hph
  · rw [exec_sensorSample_on hon hr ht hvs (State.sampled_eq hv hw hu), if_pos hhot]
  · change execSensorSample ts vs k s = _
    rw [execSensorSample]
    exact State.event_of_not _ (by rw [hon, Bool.false_and, Bool.false_and, Bool.false_and])
  · refine (State.onPage_of_bar (State.sensClear x) hb).trans (congrArg Host.Outcome.next ?_)
    rw [State.sensClear, if_pos hx]
  · refine (State.onPage_of_bar (State.sensClear x) hb).trans (congrArg Host.Outcome.next ?_)
    rw [State.sensClear, if_neg (by omega)]
  · change execOtHoldEnd s = _
    rw [execOtHoldEnd]
    refine (State.event_of _ ?_).trans ?_
    · simp only [hcool, hp, hc, beq_self_eq_true, Bool.not_false, Bool.true_and, decide_eq_true hps]
    · rw [hcool, Option.isNone_none, if_pos rfl, hu, State.pictureStop]
  · rw [State.otHoldEnd_second hp hc ht hps, State.clocksStop_eq hu hv]
  · change execOtHoldEnd s = _
    rw [execOtHoldEnd]
    refine State.event_of_not _ ?_
    simp only [ht]
    rw [decide_eq_false (p := s.boot.ps ≥ _) (Nat.not_le.2 hps), Bool.and_false]
  · change execOtHoldEnd s = _
    rw [execOtHoldEnd]
    exact State.event_of_not _ (by rw [hc, Bool.not_true, Bool.and_false, Bool.false_and])
  · rw [exec_hostWdtExpired_due hen hps hu, ha, if_neg Bool.false_ne_true]
  · rw [exec_hostWdtExpired_due hen hps hu, if_pos ha]
  · change execHostWdtExpired s = _
    rw [execHostWdtExpired]
    exact State.event_of_not _ (by rw [hen, Bool.false_and])
  · rw [exec_logEvent_of_queue hq hp hh hu, if_pos hl]
  · rw [exec_logEvent_of_queue hq hp hh hu, if_neg hl]
  · change execLogEvent s = _
    rw [execLogEvent]
    exact State.event_of_not _ (by rw [hq]; rfl)
  · change execNorRateRefill s = _
    rw [execNorRateRefill]
    exact State.event_of _ (decide_eq_true hps)
  · change execNorRateRefill s = _
    rw [execNorRateRefill]
    exact State.event_of_not _ (decide_eq_false (Nat.not_le.2 hps))
  · have hu' : r.refuseAllCmds = u := hu.symm
    change execTaskReset s = _
    rw [execTaskReset]
    refine (State.event_of _ (by rw [hst, hp, State.taskFaultAgain_of_apart hapart]; rfl)).trans ?_
    rw [← hr, hu', State.taskCleared]
  · change execTaskReset s = _
    rw [execTaskReset]
    exact State.event_of_not _ (by rw [State.taskFaultAgain_of_near hprev hat hnear, Bool.not_true, Bool.and_false])

end Sys2Proof.Machine
